-- ==== Sys2Proof/Word.lean ====
section
/-! DEFINITION. The word and byte types of the module's registers and buffers (R3). -/

namespace Sys2Proof

/-- A register word: every register is 32 bits wide (R3). -/
abbrev Word := BitVec 32

/-- A byte of a buffer, an image or a frame. -/
abbrev Byte := BitVec 8

end Sys2Proof
end

