-- ==== Sys2Proof/Syntax.lean ====
section
/-! DEFINITION. The commands of the module: one constructor per row of the command table, with the row's operands. -/

namespace Sys2Proof

/-- A value that enters the lanes through the agreement stage (R351): the median of its copies, and whether a copy differed from it in
any lane (R352). -/
structure Sampled (α : Type) where
  value : α
  differs : Bool
deriving DecidableEq, Repr

/-- The comparison points of R353. -/
inductive ComparePoint where
  | regFile | matrixStore | outPort | slalom | prof | drive | route | superReg | eccStore | blockWrite
deriving DecidableEq, Repr

/-- The code of a comparison point (R353). -/
def ComparePoint.code : ComparePoint → Nat
  | .regFile => 0 | .matrixStore => 1 | .outPort => 2 | .slalom => 3 | .prof => 4 | .drive => 5 | .route => 6 | .superReg => 7
  | .eccStore => 8 | .blockWrite => 9

/-- The compare word of a lane (R353): the index or address of the write, its data (a V register has sixteen words) and its byte enables. -/
structure CompareWord where
  index : Word
  data : BitVec 512
  enables : BitVec 64
deriving DecidableEq, Repr

/-- The lanes that J1 to J3 each name odd in a test of R366. -/
abbrev JudgeNames := Vector (BitVec 4) 3

/-- A frame on a CAN bus (R513, R530). -/
structure CanFrame where
  id : BitVec 29
  ide : Bool
  rtr : Bool
  dlc : BitVec 4
  fdf : Bool
  brs : Bool
  esi : Bool
  data : List Byte
deriving DecidableEq, Repr

/-- The measurements of an edge domain in one update (R276): VON in mV, SNS in mV (signed), Gn at the end of the on-state
and of the off-state and the rails in 10 mV, VNTC in mV, die temperature in 0.1 °C, gate power in mW, and whether the channel
had no on-pulse longer than 1.0 µs. -/
structure EdgeMeas where
  von : BitVec 16 := 0#16
  sns : BitVec 16 := 0#16
  vgOn : BitVec 16 := 0#16
  vgOff : BitVec 16 := 0#16
  vpos : BitVec 16 := 0#16
  vneg : BitVec 16 := 0#16
  vntc : BitVec 16 := 0#16
  tdie : BitVec 16 := 0#16
  pgate : BitVec 12 := 0#12
  nopulse : Bool := false
deriving DecidableEq, Repr


/-- What the characterisation of a leg measures on one channel (R432): TD_ON and TD_OFF in ns, the gate charge in nC. -/
structure SwitchMeas where
  chan : Fin 64
  tdOn : BitVec 12
  tdOff : BitVec 12
  charge : BitVec 16
deriving DecidableEq, Repr

/-- The priority vector of an Announce message (R490). -/
structure GptpVec where
  prio1 : Nat
  cls : Nat
  acc : Nat
  variance : Nat
  prio2 : Nat
  gm : BitVec 64
  steps : Nat
deriving DecidableEq, Repr

/-- The messages of IEEE 802.1AS that the module handles (R490): a Sync with a Follow_Up behind it, or one-step; an Announce with
its vector. -/
inductive GptpKind where
  | sync (twoStep : Bool)
  | followUp
  | announce (vec : GptpVec)
  | pdelayReq | pdelayResp | pdelayRespFollowUp
deriving DecidableEq, Repr

/-- A received gPTP message (R490): its domain, its kind, the code of logSyncInterval of a Sync; of a Pdelay_Resp_Follow_Up, t4 − t1 and t3 − t2
of its exchange, in 2^-16 ns (R491). -/
structure GptpMsg where
  domain : Nat
  kind : GptpKind
  log : Nat
  span : Nat
  turn : Nat
deriving DecidableEq, Repr

/-- What a measurement takes from a frame (R479): the CLK_EDGE cycle of the running epoch at its ingress, and the reference time there, in
2^-16 ns. Of PPS_IN the module has its own stamp. -/
structure ServoMeas where
  after : Nat
  reference : Int
deriving DecidableEq, Repr

/-- The operands of RETURN_LANE (R444, R446): the target, and whether CLK_SYS and VCORE are in range. -/
structure LaneReturn where
  target : BitVec 8
  inRange : Bool
deriving DecidableEq, Repr

/-- What a report of a port tells of its symbols (R437, R511): symbol errors since the last report; in the worst second since then the errors and
the symbols received; whether the self-test of the PHY failed. -/
structure PortErrs where
  count : Nat
  worst : Nat
  symbols : Nat
  phyFail : Bool
deriving DecidableEq, Repr

/-- An error in a transmitted frame (R513, R516): its code as in LEC; a stuff error of the arbitration, at a recessive stuff bit seen dominant; how
many further sequences of dominant bits have followed the error flag; the loop delay, where the frame was measured for it. -/
structure CanError where
  code : Fin 7
  arbitration : Bool
  repeats : Nat
  delay : Option (BitVec 7)
deriving DecidableEq, Repr

/-- How an edge channel comes up at L6 (R275, R265): the step that fails (1 supply, 3 training, 5 self-test; 0 none), a TRIM code
to choose where it meets the bound, and by how many ps the edge lies late at TRIM 32. -/
structure EdgeUp where
  chan : Fin 64
  fail : Nat
  trim : BitVec 6
  skew : Int
deriving DecidableEq, Repr

/-- What L7 measures of a resolver (R145): phase code and amplitude in V rms. -/
structure ResUp where
  chan : Fin 4
  phase : BitVec 16
  amp : Rat
deriving DecidableEq, Repr

/-- What the characterisation of a leg gives at L7 (R430 to R432): the span of R431 and its channels. -/
structure LegUp where
  leg : Fin 32
  span : Option Nat
  switches : List SwitchMeas
deriving DecidableEq, Repr

/-- A point of the DC step of an identification (R427): the duty along d, from −1 to 1, and the current in A. -/
structure MidPoint where
  duty : Word
  current : Word
deriving DecidableEq, Repr

/-- The voltage pulses along an axis (R427): duty, width in s and the change of the current in A, as magnitudes. -/
structure MidPulse where
  duty : Word
  width : Word
  rise : Word
deriving DecidableEq, Repr

/-- What locates the d axis without a valid POS (R427): the inductances at 12 angles 30° apart, from angle 0 on, and the peaks of the pulses +d and
−d along the angle of the smallest. -/
structure MidAxis where
  induct : Vector Word 12
  plus : Word
  minus : Word
deriving DecidableEq, Repr

/-- What an identification meets at L7 (R427, R428): the DC step at 0.5 × MID_I and at MID_I, the pulses along d and q, the axis; or why it
ended: 0 a fault, 1 motion, 2 an overcurrent. -/
structure MidUp where
  slot : Fin 4
  rs : Vector MidPoint 2
  ld : MidPulse
  lq : MidPulse
  dAngle : MidAxis
  stop : Option (Fin 3) := none
deriving DecidableEq, Repr

/-- What a lift meets outside the module's state (R443, R461 to R470, R275, R424, R425, R563, R578): which copies of the trims
pass their CRC; an uncorrectable word of the retained SRAM; the conditions of L2; the read-back of the secret set; the target
code of a block that fails BIST; the known-answer tests of L3; the store at L3; the PLLs that lock within 5 ms; the channels
at L6 (a channel not listed comes up with TRIM 0x20); the hold-up time at 170 W in 0.1 ms; resolvers; the largest PHV
amplitude of each slot over 2 ms; both DC-link results; legs and identifications of L7; the mismatches of the
first scrub pass as (lane, tile) (R85 step 10); the lift's duration in 10 µs. `osc` says that the lift oscillator passes its check at L1. -/
structure LiftEnv where
  osc : Bool
  trims : BitVec 3
  retainBad : Bool
  inRange : Bool
  cleared : Bool
  bistFail : Option (BitVec 8)
  knownAnswers : Bool
  storeGood : Bool
  pllA : Bool
  pllB : Bool
  edges : List EdgeUp
  holdup : Nat
  resolvers : List ResUp
  emf : List Word
  dclA : Word
  dclB : Word
  legs : List LegUp
  mids : List MidUp
  mismatches : List (Fin 4 × Fin 136)
  duration : Nat
deriving DecidableEq, Repr

/-- What a warm lift meets (R462, R467): trims; whether the image in SRAM matches its CRC-32; the known mismatches of the scrub pass
as (lane, tile); whether the CRC of the Carve program memory passes (R162); the lift's duration in 10 µs. -/
structure WarmEnv where
  trims : BitVec 3
  imageGood : Bool
  mismatches : List (Fin 4 × Fin 136)
  progGood : Bool
  duration : Nat
deriving DecidableEq, Repr

/-- Where a command of the update function comes from (R586): a write to SVC.CMD, or a request on the service port with its TAG. -/
inductive SvcVia where
  | host
  | usb (tag : BitVec 16)
deriving DecidableEq, Repr

/-- What the hardware comparison of the DC link sees (R123): the newest bits of DCL_A, newest first, and the latest conversion of DCL_B. -/
structure DclObs where
  bits : List Bool
  code : BitVec 12
deriving DecidableEq, Repr

/-- What a host access meets in the module beyond its own bytes: the CLK_CTL cycle (since release from the last WARM or wider reset)
in which it takes effect; the CLK_EDGE cycle of the running root epoch; the ms since the previous accepted kick of the
watchdog; whether clock and core supply suit a test of Groomer (R444); whether a COMMIT comes later than 2 CLK_EDGE cycles before its
instant (R230); the count edge in the cycle of a PRESET (R157). -/
structure HostEnv where
  cycle : Nat
  after : Nat
  ms : Nat
  inRange : Bool
  late : Bool
  edge : BitVec 2
deriving DecidableEq, Repr

/-- The commands, in the order of the table. Operands that name a register array's element are bounded by their type. -/
inductive Instr where
  /-- HOST_WRITE (R543): A WRITE transaction on the host port is checked and, once accepted, its words pass the agreement stage and take effect together in one CLK_CTL cycle. -/
  | hostWrite (sent : List Byte) (extra copyDiffers : Bool) (env : HostEnv)
  /-- HOST_READ (R544): A READ transaction on the host port performs its reads in ascending address order, with each field's side effects, and returns the data, a status byte and a CRC. -/
  | hostRead (sent : List Byte) (late : BitVec 16) (extra copyDiffers : Bool) (env : HostEnv)
  /-- HOST_STATUS (R546): A STATUS transaction returns the status byte at once, without any register access. -/
  | hostStatus (extra : Bool)
  /-- HOST_CS_EARLY_RISE (R547): HOST_CS_N rises before the host's last CRC bit, so the transaction is discarded and FRAMING is set. -/
  | hostCsEarlyRise
  /-- REGISTER_WRITE (R14): A host write to a register that has no row of its own passes the checks of access, state guard and envelope, and is then stored. -/
  | registerWrite (addr : Nat) (value : Word) (env : HostEnv)
  /-- ROOT_EPOCH (R23): At each 3 µs root epoch start the module checks divider alignment and advances the epoch count and the time-of-day counter. -/
  | rootEpoch (aligned : Bool) (names : JudgeNames) (extra : Vector JudgeNames 3)
  /-- PLL_SWITCH (R27): PLL A loses lock while PLL B is locked, so the root moves to PLL B without a glitch. -/
  | pllSwitch
  /-- REF_LOSS (R28): REF_IN has no edge for 1 µs or leaves its tolerance, so the active PLL enters holdover. -/
  | refLoss
  /-- HOLDOVER_LIMIT (R28): The holdover has lasted 100 ms, so HOLDOVER_LIMIT is set. -/
  | holdoverLimit
  /-- REF_RETURN (R28): REF_IN returns within tolerance and the PLL relocks without a phase step. -/
  | refReturn
  /-- PLL_BOTH (R29): No PLL is locked, so the bridge oscillator drives the root and the module enters F4. -/
  | pllBoth
  /-- BRIDGE_TO_PLL (R29): A PLL has held lock for 1 ms while the bridge oscillator drives the root, so the root moves to it at the next epoch start. -/
  | bridgeToPll (a b : Bool)
  /-- POWER_ON (R51): AUX_IN rises through 15.0 V, so the power-on reset is released and the lift begins. -/
  | powerOn
  /-- AUX_HIGH (R605): AUX_IN has stood above 36.0 V for the 10 µs comparator filter. -/
  | auxHigh (present : Bool)
  /-- AUX_LOW (R605): AUX_IN has stood below 16.0 V for the 10 µs comparator filter. -/
  | auxLow (present : Bool)
  /-- AUX_FAIL (R51): AUX_IN falls through 14.0 V, so the module enters F4. -/
  | auxFail
  /-- HOLDUP_START (R52): AUX_IN falls below 12.0 V and the hold-up capacitor starts to supply the module. -/
  | holdupStart
  /-- HOLDUP_END (R52): The hold-up capacitor falls below its regulation minimum and a POWER reset follows. -/
  | holdupEnd
  /-- HOLDUP_RECOVER (R52): AUX_IN rises through 12.5 V before the hold-up ends, so the module runs from AUX_IN again. -/
  | holdupRecover
  /-- SCRUB_PASS (R89): A scrub pass reads every configured tile and compares each tile's CRC with the golden copy. -/
  | scrubPass (bad : List (Fin 4 × Fin 136))
  /-- TILE_SWAP (R90): At the first CLK_CTL edge with no route transfer, the tile swaps its active and standby copies. -/
  | tileSwap (lane : Fin 4) (tile : Fin 136) (good : Bool)
  /-- TILE_COMPARE_RUN_END (R91): The compare run of a spare tile ends after 16 tasks or 4 ms. -/
  | tileCompareRunEnd
  /-- TILE_REPAIR (R91): The spare tile takes over from the failed tile at the first edge with no route transfer. -/
  | tileRepair
  /-- GOLDEN_RELOAD (R93): An uncorrectable ECC error in the golden copy reloads the frame from MRAM. -/
  | goldenReload (good : Bool)
  /-- READBACK (R94): PISTE.CMD READBACK starts a full comparison of the tiles with the golden copy and the image. -/
  | readback
  /-- READBACK_DONE (R94): The readback finishes and counts its mismatches. -/
  | readbackDone (bad : List (Fin 4 × Fin 136)) (golden : Nat)
  /-- ENV_QUERY (R97): A write to PISTE.ENV_LSB looks up the envelope record and fills the result registers. -/
  | envQuery (lsb : BitVec 5)
  /-- SDM_RESULT (R107): At the end of a filter window the result, its status and its sequence number are written. -/
  | sdmResult (n : Fin 60) (bitsA bitsB : List Bool) (gateEdge copyDiffers : Bool) (cycle : Nat)
  /-- STREAM_STUCK (R103): A stream bit has not changed for 256 CLK_MOD cycles. -/
  | streamStuck (n : Fin 80)
  /-- SDM_CMP_OUTPUT (R113): A comparator filter output is judged against the HI and LO thresholds. -/
  | sdmCmpOutput (n : Fin 48) (bitsA bitsB : List Bool)
  /-- SDM_RES_READ (R112): A read of a RES register latches the matching INFO and RAW registers. -/
  | sdmResRead (n : Fin 62)
  /-- DCL_RESULT (R121): A DCL_A and DCL_B result pair is judged for disagreement and faults, and against OV_LIM and UV_WARN. -/
  | dclResult (bitsA : List Bool) (codes : Sampled (List (BitVec 12)))
  /-- DCL_THRESHOLD_CROSS (R123): The hardware comparison finds that a DC-link threshold has been crossed. -/
  | dclThresholdCross (t : Fin 4) (chB : Bool) (obs : DclObs)
  /-- SDM_SPARE_ASSIGN (R125): A faulty filter is given a spare filter that runs beside it. -/
  | sdmSpareAssign (n : Fin 48)
  /-- SDM_SPARE_TAKEOVER (R125): After 16 compared results the spare filter takes over at a result boundary. -/
  | sdmSpareTakeover (n : Fin 48)
  /-- QUAD_EDGE (R134): A filtered quadrature edge updates the count, or counts an illegal transition. -/
  | quadEdge (k : Fin 4) (a b : Bool) (cycle : Nat)
  /-- ILL_WINDOW_END (R134): The fixed illegal-transition window ends and restarts. -/
  | illWindowEnd (k : Fin 4)
  /-- INDEX_EVENT (R135): A qualified Z edge homes the count or is acted on under INDEX_MODE. -/
  | indexEvent (k : Fin 4) (illegal : Bool)
  /-- SPEED_ZERO_TIMEOUT (R138): ZERO_TIME passes without an edge and the speed reads 0.0. -/
  | speedZeroTimeout (k : Fin 4)
  /-- HALL_EDGE (R140): A filtered Hall code change updates the sector, or sets HALL_CODE. -/
  | hallEdge (k : Fin 4) (code : Fin 8) (cycle : Nat)
  /-- RESOLVER_UPDATE (R143): The resolver tracking loop updates every 1.0 µs and checks the tracking error: the resolver's angle, the
  tracked speed, the error while the loop settles, and the angular acceleration where it has lasted. -/
  | resolverUpdate (k : Fin 4) (shaft : BitVec 16) (rate error : Rat) (steady : Option Rat) (cycle : Nat)
  /-- RES_MONITOR (R144): The resolver amplitude and excitation current are checked over each excitation period. -/
  | resMonitor (k : Fin 4) (amplitude current : Rat) (limited : Bool)
  /-- RES_PHASE_MEASURE (R145): The resolver phase shift is measured again when the amplitude has fallen below half. -/
  | resPhaseMeasure (k : Fin 4) (phase : BitVec 16)
  /-- SER_FRAME_START (R146): A BiSS-C or SSI frame starts on a task trigger or on the SER_PERIOD timer. -/
  | serFrameStart (k : Fin 4) (sdaHigh : Bool) (cycle : Nat)
  /-- SER_FRAME_END (R149): A completed serial frame is checked and updates POS, or is discarded. -/
  | serFrameEnd (k : Fin 4) (data crc : Nat) (parity sdaHigh : Bool)
  /-- SER_TIMEOUT (R149): No start bit, or no return of SDA, within TIMEOUT, so the frame is discarded with FRAME_ERR. -/
  | serTimeout (k : Fin 4)
  /-- POS_ANGLE_READ (R133): A read of POS.CH[k].ANGLE latches the speed, position, status and timestamp. -/
  | posAngleRead (k : Fin 4) (cycle : Nat)
  /-- WIRE_FAULT (R152): Both wires of a pair stay in one class for longer than WIRE_TIME, so VALID is cleared. -/
  | wireFault (k : Fin 4) (pair : Fin 4)
  /-- WIRE_RECOVER (R152): VALID returns 1 ms after every pair has left the wire condition. -/
  | wireRecover (k : Fin 4)
  /-- POS_PRESET (R157): The PRESET command loads POS with the preset value and sets HOMED. -/
  | posPreset (k : Fin 4) (edge : BitVec 2)
  /-- CLEAR_HOMED (R157): The CLEAR_HOMED command clears HOMED. -/
  | clearHomed (k : Fin 4)
  /-- POS_CLEAR_COUNTERS (R157): The CLEAR_COUNTERS command clears the ILLEGAL and CRC_ERRS counters. -/
  | posClearCounters (k : Fin 4)
  /-- TASK_TRIGGER (R172): A task trigger fires after its DELAY from a PWM event, or is dropped if the previous trigger is still pending. -/
  | taskTrigger (t : Fin 8) (cycle : Sampled Nat)
  /-- TRIGGER_READY (R172): A trigger becomes ready 32 CLK_CTL cycles after its trigger instant. -/
  | triggerReady (t : Fin 8)
  /-- TASK_DISPATCH (R171): Dispatch latches the input ports, flags and MB, and starts the task. -/
  | taskDispatch (wait cycle : Nat)
  /-- NOP (R168): The NOP instruction does nothing for one cycle. -/
  | nop
  /-- END (R175): The END instruction ends the task and transfers the staged output ports together. -/
  | endTask
  /-- BR (R168): The BR instruction jumps to TARGET when its condition holds. -/
  | br (cond : Fin 16) (target : Fin 4096)
  /-- SIG (R168): The SIG instruction sets a PROG cause of the owner slot when its condition holds. -/
  | sig (cond : Fin 16) (n : Fin 8)
  /-- SETB (R168): The SETB instruction sets the matrix base MB. -/
  | setb (a : Fin 64) (stride : BitVec 14) (nmax : BitVec 8)
  /-- SADD (R168): The SADD instruction adds two scalars. -/
  | sadd (d a b : Fin 64)
  /-- SSUB (R168): The SSUB instruction subtracts one scalar from another. -/
  | ssub (d a b : Fin 64)
  /-- SMUL (R168): The SMUL instruction multiplies two scalars. -/
  | smul (d a b : Fin 64)
  /-- SMAC (R168): The SMAC instruction performs a fused scalar multiply-accumulate. -/
  | smac (d a b : Fin 64)
  /-- SMIN (R168): The SMIN instruction takes the smaller of two scalars. -/
  | smin (d a b : Fin 64)
  /-- SMAX (R168): The SMAX instruction takes the larger of two scalars. -/
  | smax (d a b : Fin 64)
  /-- SABS (R168): The SABS instruction takes the absolute value of a scalar. -/
  | sabs (d a : Fin 64)
  /-- SNEG (R168): The SNEG instruction negates a scalar. -/
  | sneg (d a : Fin 64)
  /-- SMOV (R168): The SMOV instruction copies a scalar. -/
  | smov (d a : Fin 64)
  /-- SLDI (R168): The SLDI instruction loads a binary32 immediate into a scalar register. -/
  | sldi (d : Fin 64) (x : Word)
  /-- SCMP (R169): The SCMP instruction compares two scalars and sets LT, EQ, GT and UN. -/
  | scmp (a b : Fin 64)
  /-- SSEL (R168): The SSEL instruction selects one of two scalars by a condition. -/
  | ssel (d : Fin 64) (cond : Fin 16) (a b : Fin 64)
  /-- SCLAMP (R168): The SCLAMP instruction clamps a scalar between two bounds and sets SAT. -/
  | sclamp (d a b e : Fin 64)
  /-- SWRAP (R168): The SWRAP instruction wraps an angle into the range 0 to below 2π. -/
  | swrap (d a : Fin 64)
  /-- SDIV (R168): The SDIV instruction divides one scalar by another, correctly rounded. -/
  | sdiv (d a b : Fin 64)
  /-- SSQRT (R168): The SSQRT instruction takes the square root of a scalar. -/
  | ssqrt (d a : Fin 64)
  /-- SSINCOS (R168): The SSINCOS instruction computes the sine and cosine of a scalar. -/
  | ssincos (d a : Fin 64)
  /-- SATAN2 (R168): The SATAN2 instruction computes atan2 of two scalars. -/
  | satan2 (d a b : Fin 64)
  /-- VADD (R168): The VADD instruction adds two vectors element-wise. -/
  | vadd (d a b : Fin 32)
  /-- VSUB (R168): The VSUB instruction subtracts two vectors element-wise. -/
  | vsub (d a b : Fin 32)
  /-- VMUL (R168): The VMUL instruction multiplies two vectors element-wise. -/
  | vmul (d a b : Fin 32)
  /-- VMAC (R168): The VMAC instruction performs an element-wise fused multiply-accumulate. -/
  | vmac (d a b : Fin 32)
  /-- VSCL (R168): The VSCL instruction scales a vector by a scalar. -/
  | vscl (d a : Fin 32) (b : Fin 64)
  /-- VBCAST (R168): The VBCAST instruction broadcasts a scalar to every element of a vector. -/
  | vbcast (d : Fin 32) (a : Fin 64)
  /-- VINS (R168): The VINS instruction inserts a scalar into one element of a vector. -/
  | vins (d : Fin 32) (e : Fin 16) (a : Fin 64)
  /-- VEXT (R168): The VEXT instruction extracts one element of a vector into a scalar. -/
  | vext (d : Fin 64) (a : Fin 32) (e : Fin 16)
  /-- VCLAMP (R168): The VCLAMP instruction clamps a vector element-wise and records the saturation masks. -/
  | vclamp (d a b e : Fin 32)
  /-- VINT (R178): The VINT instruction integrates each element conditionally on the saturation of its output. -/
  | vint (d a : Fin 32) (b : Fin 64) (e : Fin 32) (shift : Fin 16) (dir : Bool)
  /-- IPRE (R179): The IPRE instruction presets the masked integrator elements when PRE is set. -/
  | ipre (d a : Fin 32) (mask : BitVec 16)
  /-- VDOT (R170): The VDOT instruction computes the dot product of two vectors in a fixed pairwise tree. -/
  | vdot (d : Fin 64) (a b : Fin 32)
  /-- VLD (R170): The VLD instruction loads a matrix row into a vector. -/
  | vld (d : Fin 32) (maddr : BitVec 14) (ind : Bool)
  /-- VST (R170): The VST instruction stores a vector into a matrix row. -/
  | vst (d : Fin 32) (maddr : BitVec 14) (ind : Bool)
  /-- MVM (R170): The MVM instruction multiplies matrix rows by a vector into selected elements of the destination. -/
  | mvm (d a : Fin 32) (maddr : BitVec 14) (ind : Bool) (rows doff : Fin 16)
  /-- MVMA (R170): The MVMA instruction adds a matrix-vector product into selected elements of the destination. -/
  | mvma (d a : Fin 32) (maddr : BitVec 14) (ind : Bool) (rows doff : Fin 16)
  /-- VMOV (R168): The VMOV instruction copies a vector. -/
  | vmov (d a : Fin 32)
  /-- IN (R174): The IN instruction reads a latched input port and sets VLD and NEW. -/
  | inPort (d : Fin 64) (slot : Fin 4) (port : Fin 64)
  /-- INV (R174): The INV instruction reads 16 latched input ports and sets VLD and NEW. -/
  | inv (d : Fin 32) (slot : Fin 4) (port : Fin 64)
  /-- OUT (R175): The OUT instruction writes one staged output port. -/
  | outPort (slot : Fin 4) (port a : Fin 64)
  /-- OUTV (R175): The OUTV instruction writes 16 staged output ports. -/
  | outv (slot : Fin 4) (port : Fin 64) (a : Fin 32)
  /-- LDP (R176): The LDP instruction reads a parameter word as it stood at dispatch. -/
  | ldp (d : Fin 64) (k : Fin 256)
  /-- LDPV (R176): The LDPV instruction reads 16 parameter words as they stood at dispatch. -/
  | ldpv (d : Fin 32) (k : Fin 256)
  /-- TASK_ABORT (R173): A task reaches BUDGET cycles without END and is aborted without transferring its outputs. -/
  | taskAbort
  /-- CARVE_PRESET (R179): The PRESET command makes a preset pending for the next dispatch of the task. -/
  | carvePreset (t : Fin 8)
  /-- CARVE_CLEAR_STATS (R180): The CLEAR_STATS command clears CYCLES.MAX and WAIT.MAX of the task. -/
  | carveClearStats (t : Fin 8)
  /-- PARAM_WRITE (R176): A host write to a parameter word is applied at once, or held until the running task ends. -/
  | paramWrite (k : Fin 256) (value : Word)
  /-- CARVE_IN_READ (R180): A read of CARVE.IN latches the status of the port. -/
  | carveInRead (slot : Fin 4) (port : Fin 64)
  /-- CARVE_ECC_SWEEP (R162): The background ECC sweep corrects single-bit errors in program and matrix memory. -/
  | carveEccSweep (fixed byRead : Bool)
  /-- PROF_STEP (R184): A profile channel steps its value and rate toward the target under its limits. -/
  | profStep (n : Fin 4) (interval : Nat)
  /-- PROF_HOLD (R187): The HOLD command brings the rate to zero and holds the profile. -/
  | profHold (n : Fin 4)
  /-- PROF_RESUME (R187): The RESUME command ends HOLD. -/
  | profResume (n : Fin 4)
  /-- PRESET_INPUT (R187): The PRESET_INPUT command presets y from the PROF input. -/
  | presetInput (n : Fin 4)
  /-- PROF_VALUE_READ (R213): A read of PROF.CH[s].VALUE latches RATE and STATUS. -/
  | profValueRead (n : Fin 4)
  /-- SLALOM_JOB (R192): A Slalom job turns the voltage vectors into compare values, writes the leg shadows and commits. -/
  | slalomJob (n : Fin 4) (half : Fin 4) (cycle : Nat)
  /-- ROT_START (R210): The ROT_START command starts the rotation detector for PROBE_TIME. -/
  | rotStart (n : Fin 4)
  /-- ROT_WINDOW_END (R211): The detector window ends and the motion is classified. -/
  | rotWindowEnd (n : Fin 4) (cycle : Nat)
  /-- ROT_RESULT_READ (R215): A read of ROT_RESULT latches ROT_SPEED and ROT_ANGLE. -/
  | rotResultRead (n : Fin 4)
  /-- PWM_BOUNDARY (R218): A leg counter reaches BOUNDARY and fires the ZERO event. -/
  | pwmBoundary (n : Fin 32)
  /-- PWM_MID (R218): A leg counter reaches MID and fires the PERIOD event. -/
  | pwmMid (n : Fin 32)
  /-- PWM_COMPARE_EVENT (R238): The counter takes the COUNT of an active compare and fires its event. -/
  | pwmCompareEvent (n : Fin 32) (src : Fin 4) (down mirror : Bool)
  /-- COMMIT_DEADLINE (R227): At 2 CLK_EDGE cycles before the transfer instant, the content of the commit is fixed. -/
  | commitDeadline (n : Fin 32)
  /-- PWM_COMMIT (R226): A write to PWM.LEG[n].COMMIT arms a commit for a transfer point. -/
  | pwmCommit (n : Fin 32) (point : Fin 4) (late : Bool)
  /-- PWM_LOADALL (R233): Setting LOADALL makes every counting leg transfer at its next BOUNDARY. -/
  | pwmLoadall
  /-- PWM_SYNC (R224): The GLOBAL.CMD SYNC command requests a SYNC of every leg. -/
  | pwmSync
  /-- PWM_CLEAR_STATS (R250): The CLEAR_STATS command clears STATS and COMMITS of every leg. -/
  | pwmClearStats
  /-- SYNC_ISSUE (R224): A SYNC loads every counting leg with its PHASE and resets the prescalers. -/
  | syncIssue
  /-- DEAD_TIME_END (R234): An output turns on after its dead time following its reference turn-on. -/
  | deadTimeEnd (n : Fin 32) (outB : Bool)
  /-- MINPULSE_STRETCH_END (R235): A stretched on-pulse ends COUNT counts after its leading edge. -/
  | minpulseStretchEnd (n : Fin 32) (outB : Bool)
  /-- INTERLOCK_RELEASE (R236): The overlap has ended and DT_I has passed, so the output still commanded on turns on. -/
  | interlockRelease (k : Nat)
  /-- ILOCK_WINDOW_END (R237): The interlock counting window ends and the episodes are judged against ILOCK_LIMIT. -/
  | ilockWindowEnd
  /-- TRIP_REQUEST (R241): A trip request reaches the network and forces the legs of its groups or slot. -/
  | tripRequest
  /-- FORCED_TURN_ON (R244): A forced output turns on after its partner has been off for its dead time. -/
  | forcedTurnOn (n : Fin 32) (outB : Bool)
  /-- TRIP_RELEASE (R245): A write to PWM.TRIP.RELEASE releases a latched trip group. -/
  | tripRelease (mask : BitVec 16)
  /-- TRIP_DEASSERT (R245): A cycle-by-cycle group deasserts when no source remains. -/
  | tripDeassert (g : Fin 16)
  /-- TRIPIN_FILTER_DONE (R246): The filtered level of a trip input changes after its samples agree. -/
  | tripinFilterDone (n : Fin 16) (high : Sampled Bool)
  /-- BLANK_WINDOW_END (R247): The blanking window ends and the input takes its filtered level. -/
  | blankWindowEnd (n : Fin 16)
  /-- TRIPIN_INJECT (R248): A write to TRIPIN[i].INJECT starts a SHADOW or LIVE injection. -/
  | tripinInject (n : Fin 16) (cls : Nat)
  /-- TRIPIN_INJECT_END (R248): The injection stimulus is withdrawn and the result is given. -/
  | tripinInjectEnd (n : Fin 16)
  /-- CHOP_REQUEST_RELEASE (R323): Both channels read below OV_CHOP − CHOP_HYS after CHOP_MIN_ON, and the chopper request releases. -/
  | chopRequestRelease (aMv bMv : Nat)
  /-- CHOP_VERIFY (R324): A chopper pulse is verified at CHOP_VERIFY or at its end. -/
  | chopVerify (mv : Nat)
  /-- DOWNLINK_FRAME (R261): An edge domain receives a downlink frame and takes its gate state, or discards it on a bad CRC. -/
  | downlinkFrame (n : Fin 64) (good changed : Bool)
  /-- UPLINK_FRAME (R260): The controller end receives an uplink frame with bits, comparator states and measurements. -/
  | uplinkFrame (n : Fin 64) (good : Bool) (sns : BitVec 16)
  /-- LINK_CRC_WINDOW_END (R263): The 1 s CRC window of a link ends and LINK_CRC is judged. -/
  | linkCrcWindowEnd (n : Fin 64)
  /-- LINK_LOSS (R264): No good uplink frame for 200 ns, so the link is declared lost and its channels turned off. -/
  | linkLoss (n : Fin 64)
  /-- HOLDOFF (R267): No good downlink frame for 2 µs, so the domain turns its channel off and sets its hold-off latch. -/
  | holdoff (n : Fin 64)
  /-- LINK_AUTO_RETRAIN (R268): The controller end retrains a lost link by itself, without RELEASE. -/
  | linkAutoRetrain (n : Fin 64)
  /-- SKEW_CAL_PASS (R265): A 10 ms skew calibration pass moves TRIM by at most one tap. -/
  | skewCalPass (n : Fin 64) (measured : Bool) (resid : BitVec 16) (refine : Bool)
  /-- EDGE_SELFTEST (R297): The SELFTEST command tests every detector of the channel. -/
  | edgeSelftest (n : Fin 64)
  /-- EDGE_RETRAIN (R268): The RETRAIN command retrains a link and sends RELEASE. -/
  | edgeRetrain (n : Fin 64)
  /-- EDGE_PARK (R274): The PARK command parks a channel of a pair. -/
  | edgePark (n : Fin 64)
  /-- EDGE_UNPARK (R274): The UNPARK command returns a parked channel to its pair. -/
  | edgeUnpark (n : Fin 64)
  /-- EDGE_CLEAR_STATS (R278): The CLEAR_STATS command clears LINKSTAT0 and LINKSTAT1. -/
  | edgeClearStats (n : Fin 64)
  /-- GROOMER_PARK (R273): Groomer parks a faulty channel at the first safe cycle of the pair. -/
  | groomerPark (n : Fin 64) (elapsed : Nat)
  /-- EDGE_INJECT (R280): A write to EDGE.CH[n].INJECT starts a SHADOW or LIVE injection into a detector. -/
  | edgeInject (n : Fin 64) (det : Fin 8) (cls : Nat)
  /-- EDGE_MEAS_UPDATE (R276): The 1 ms measurement update of a domain refreshes its measurements and thermal checks. -/
  | edgeMeasUpdate (n : Fin 64) (m : Sampled EdgeMeas)
  /-- MEAS_READ (R277): A read of MEAS0 latches MEAS1 to MEAS4. -/
  | measRead (n : Fin 64)
  /-- SUP_UV (R256): A gate rail has stood 1.0 V inside its setting for 10 µs, so the channel turns off. -/
  | supUv (n : Fin 64) (vpos vneg : Int)
  /-- GATE_UV (R259): Gn has not reached its level within GUV_TIME, or falls below it while on. -/
  | gateUv (n : Fin 64) (gn : Int) (ns : Nat)
  /-- OUT_FAULT (R259): Gn stands high for more than 1 µs while the channel is commanded off. -/
  | outFault (n : Fin 64) (gn : Int)
  /-- SC_HARD (R282): SNS crosses SC_HARD while the channel is on, and a soft turn-off starts. -/
  | scHard (n : Fin 64) (sns : BitVec 16)
  /-- OC (R282): SNS crosses OC after blanking, and a soft turn-off starts. -/
  | oc (n : Fin 64) (sns : BitVec 16)
  /-- DESAT (R282): DS crosses DESAT after blanking, and a soft turn-off starts. -/
  | desat (n : Fin 64) (ds : BitVec 16)
  /-- PROTECTION_BLANK_END (R284): The blanking window ends and OC and DESAT act on a condition still present. -/
  | protectionBlankEnd (n : Fin 64) (ns : Nat)
  /-- SOFT_OFF_PHASE1_END (R286): Gn reaches the intermediate level and is held there. -/
  | softOffPhase1End (n : Fin 64) (gn : Int)
  /-- STO_TIME_EXPIRY (R286): STO_TIME after the start, phase 3 takes the gate to the negative rail. -/
  | stoTimeExpiry (n : Fin 64) (ns : Nat)
  /-- SOFT_OFF_END (R286): Gn falls below the negative rail plus 2.0 V and the clamp engages. -/
  | softOffEnd (n : Fin 64) (gn : Int)
  /-- PROTECTION_FLAG (R290): The controller end receives a protection action, relays it, holds the pair outputs, marks FAILSIDE and asserts the slot line. -/
  | protectionFlag (n : Fin 64)
  /-- PROTECTION_HOLD_RELEASE (R290): The hold on the interlock partner ends DT_I after the end of the turn-off. -/
  | protectionHoldRelease (n : Fin 64)
  /-- SELFTEST_STEP (R295): A self-test step applies the stimulus at 110 % and 90 % of the threshold and judges the comparator. -/
  | selftestStep (n : Fin 64) (det : Fin 6) (inject : Bool) (assertNs releaseNs : Option Nat) (quietNs : Nat)
  /-- ARM (R306): The ARM command clears the latches and FAILSIDE bits and arms the slot. -/
  | arm (n : Fin 4)
  /-- START (R306): The START command moves an ARMED slot to PROBE and starts the detector. -/
  | start (n : Fin 4)
  /-- STOP (R306): The STOP command moves RUN to GLIDE, or ramps a charging session down. -/
  | stop (n : Fin 4)
  /-- RESUME (R306): The RESUME command returns a GLIDE with reason HOST to RUN. -/
  | resume (n : Fin 4)
  /-- DISARM (R306): The DISARM command returns the slot to OFF. -/
  | disarm (n : Fin 4)
  /-- RECOVER (R306): The RECOVER command moves SAFE to STOPPED. -/
  | recover (n : Fin 4)
  /-- RESTART (R306): The RESTART command moves SAFE to CATCH. -/
  | restart (n : Fin 4)
  /-- CHARGE (R339): The CHARGE command enters CHARGE when its entry conditions hold. -/
  | charge (n : Fin 4)
  /-- DISCHARGE (R332): The DISCHARGE command starts the active discharge. -/
  | discharge (n : Fin 4)
  /-- CATCH_DEADLINE (R311): The lock deadline passes without a lock and the attempt is counted. -/
  | catchDeadline (n : Fin 4)
  /-- CATCH_EPISODE_END (R315): A slot in RUN or GLIDE for 1 s ends the catch episode. -/
  | catchEpisodeEnd (n : Fin 4)
  /-- STANDSTILL (R319): |n̂| has stayed below STANDSTILL_SPEED for STANDSTILL_TIME. -/
  | standstill (n : Fin 4)
  /-- GLIDE_TIMEOUT (R319): A GLIDE has not reached standstill within GLIDE_TIMEOUT. -/
  | glideTimeout (n : Fin 4)
  /-- OV_TRIP2_RELEASE (R321): Both values have stayed below OV_LIM for 1 ms, and the OV_TRIP2 line deasserts. -/
  | ovTrip2Release
  /-- DISCHARGE_PHASE1_TIMEOUT (R332): The chopper phase of a discharge ends after 2 s. -/
  | dischargePhase1Timeout (n : Fin 4)
  /-- DISCHARGE_PHASE2_TIMEOUT (R332): The winding phase reaches 5 s and the discharge fails. -/
  | dischargePhase2Timeout (n : Fin 4)
  /-- SOURCE_OK (R338): The source conditions have held for GRID_OK_TIME. -/
  | sourceOk
  /-- SOURCE_LOST (R338): A source condition has failed for GRID_LOSS_TIME. -/
  | sourceLost
  /-- CTR_FB_CHANGE (R341): The contactor feedback has held a new level for 1 ms. -/
  | ctrFbChange (high : Bool)
  /-- PARK_IN_CHANGE (R341): The park-brake input has held a new level for 1 ms. -/
  | parkInChange (high : Bool)
  /-- CLOSE_TIME_EXPIRY (R342): CLOSE_TIME passes with the contactor feedback still open. -/
  | closeTimeExpiry
  /-- SETTLE_EXPIRY (R342): SETTLE has elapsed with the contactor closed, and the charging phase becomes ACTIVE. -/
  | settleExpiry
  /-- RAMP_TIMEOUT (R342): RAMP_TIMEOUT passes in RAMP_DOWN and the contactor opens. -/
  | rampTimeout
  /-- OPEN_TIME_EXPIRY (R342): OPEN_TIME passes with the contactor feedback still closed, so CTR_WELD is set. -/
  | openTimeExpiry
  /-- LANE_FAULT (R354): Two judges name the same lane odd, so the lane is halted and the mode changes. -/
  | laneFault (point : ComparePoint) (words : Vector CompareWord 4) (j1 j2 j3 : BitVec 4) (stream : Bool) (parity path : BitVec 4)
  /-- TRIAD_WARM_RESET (R358): 1 µs after DOUBLE, the TRIAD block asserts a WARM reset. -/
  | triadWarmReset
  /-- SWEEP_END (R359): The resync sweep of the odd lane ends. -/
  | sweepEnd
  /-- LANE_REJOIN (R360): The odd lane rejoins at the first suitable root epoch start. -/
  | laneRejoin (cycles : Nat) (wasRead : Bool)
  /-- RESYNC_TIMEOUT (R357): 100 µs pass without rejoin, so the odd lane is retired. -/
  | resyncTimeout
  /-- TRIAD_INJECT (R371): A write to TRIAD.INJECT injects into a lane or a judge. -/
  | triadInject (target : Fin 8) (cls : Nat)
  /-- TRIAD_CLEAR_STATS (R372): The CLEAR_STATS command clears the TRIAD counters. -/
  | triadClearStats
  /-- CAUSE_CLASSIFY (R374): Patrol classifies a cause setting and makes its reaction for the slots it applies to. -/
  | causeClassify
  /-- ESC_WINDOW_END (R378): An escalation window ends without reaching COUNT, and the count resets. -/
  | escWindowEnd (e : Fin 8)
  /-- CLEAR_F4 (R380): The CLEAR_F4 command leaves F4 when its conditions hold. -/
  | clearF4
  /-- CLEAR_FIRST (R398): The CLEAR_FIRST command clears the FIRST record. -/
  | clearFirst
  /-- FRICTION_ON (R382): The FRICTION_ON command makes the host's friction request. -/
  | frictionOn
  /-- FRICTION_OFF (R382): The FRICTION_OFF command withdraws the host's friction request. -/
  | frictionOff
  /-- WDOG_KICK (R383): A write to WDOG_KICK is judged as a kick or an expiry. -/
  | wdogKick (key : BitVec 8) (ms : Nat)
  /-- HOST_WDOG (R383): The host watchdog deadline passes without a kick. -/
  | hostWdog
  /-- TASK_STALL (R384): STALL_TIME passes without an END of the slot's task. -/
  | taskStall (n : Fin 4)
  /-- SUP_WDOG (R385): The supervisor core has not reported for 10 ms. -/
  | supWdog
  /-- SUP_WDOG_RESET (R385): 1 ms after SUP_WDOG a WARM reset is asserted. -/
  | supWdogReset
  /-- PATROL_INJECT (R394): A write to PATROL.INJECT injects into the detector that INJ_TARGET names. -/
  | patrolInject (cls : Nat)
  /-- INJECT_WINDOW_END (R395): A shadow window ends, the result is given, and the detector acts on its live input. -/
  | injectWindowEnd (ctrl : Nat) (pass : Bool)
  /-- INJECT_TIMEOUT (R396): An injection still pending after 100 ms ends with TIMEOUT. -/
  | injectTimeout (ctrl : Nat)
  /-- CLS_QUERY (R399): A write to CLS_QUERY looks up the class, slots and trip group of a cause. -/
  | clsQuery (group : Fin 48) (bit : Fin 32)
  /-- PATROL_FIRST_READ (R398): A read of PATROL.FIRST latches its time fields. -/
  | patrolFirstRead
  /-- HKA_TIMER_TICK (R404): The TIMER tick of a sequence triggers a pass, or the trigger is dropped. -/
  | hkaTimerTick (q : Fin 8)
  /-- HKA_PWM_TRIGGER (R405): A PWM event becomes effective in CLK_SAR as a sequence trigger. -/
  | hkaPwmTrigger
  /-- HKA_START (R404): The HKA START command triggers the SOFT sequences in MASK. -/
  | hkaStart (mask : BitVec 8)
  /-- HKA_CLEAR_STATS (R420): The CLEAR_STATS command clears STAT and CHECK.FAILS. -/
  | hkaClearStats
  /-- HKA_DELAY_END (R406): DELAY, or the start-up time, has passed and the first acquisition starts. -/
  | hkaDelayEnd (q : Fin 8) (checkDue : Bool)
  /-- HKA_CONVERSION_END (R403): A conversion completes and its result goes to its tracker. -/
  | hkaConversionEnd (q : Fin 8) (code : Sampled (BitVec 12))
  /-- HKA_CHECK_END (R416): The appended REF and ZERO check completes and is judged. -/
  | hkaCheckEnd (q : Fin 8) (ref zero : BitVec 12)
  /-- CHECK_STARVED (R416): An enabled sequence makes no pass for 10 ms. -/
  | checkStarved (q : Fin 8)
  /-- HKA_IDLE_POWER_DOWN (R408): A core idle for IDLE_PD powers down. -/
  | hkaIdlePowerDown (q : Fin 8)
  /-- TRACKER_WINDOW_END (R411): A TIME-mode tracker window ends and is copied to the completed-window buffer. -/
  | trackerWindowEnd (k : Fin 64)
  /-- TRACKER_SUM_READ (R413): A read of TRK[k].SUM latches the completed window. -/
  | trackerSumRead (k : Fin 64)
  /-- TDAC_WRITE (R418): A write to HKA.TDAC drives the test DAC to the new code. -/
  | tdacWrite (code : BitVec 12)
  /-- HKA_INJECT (R419): A write to HKA.INJECT injects into a tracker limit or a core check. -/
  | hkaInject (cls : Nat)
  /-- HKA_SPARE_TAKEOVER (R417): After 16 passes the faulty core is powered down for good and HC8 serves its sequence. -/
  | hkaSpareTakeover
  /-- AUX_MEASURE (R422): Probe measures AUX_IN every 100 µs. -/
  | auxMeasure (code : BitVec 16)
  /-- RAIL_EXCURSION (R423): An internal rail has been outside 3 % or 6 % for 10 µs. -/
  | railExcursion (rail : Fin 6) (band : Fin 3)
  /-- MID (R426): The MID command starts the machine identification of a slot. -/
  | midCmd (n : Fin 4)
  /-- MID_DONE (R427): The identification completes and its results are written. -/
  | midDone (rs : Vector MidPoint 2) (ld lq : MidPulse) (dAngle : MidAxis)
  /-- MID_ABORT (R428): Motion, an overcurrent or a fault aborts the identification. -/
  | midAbort
  /-- CABLE (R430): The CABLE command starts the cable and switch characterisation of the slot's legs. -/
  | cable (n : Fin 4)
  /-- CABLE_LEG_DONE (R431): The sequence of one leg ends and its length and switch figures are recorded. -/
  | cableLegDone (span : Option Nat) (delays : List SwitchMeas)
  /-- PEERS (R433): The PEERS command requests the capability records again. -/
  | peers
  /-- PROBE_ABORT (R428): The ABORT command ends a running Probe task. -/
  | probeAbort
  /-- PROBE_INJECT (R447): A write to PROBE.INJECT injects into a supply comparator. -/
  | probeInject (cls : Nat)
  /-- GROOM_BIST (R444): The BIST command runs an on-demand test of a unit. -/
  | groomBist (target : BitVec 8) (inRange : Bool)
  /-- GROOM_BIST_DONE (R445): An on-demand test ends with its verdict. -/
  | groomBistDone (verdict : Fin 3)
  /-- RETURN_LANE (R446): The RETURN_LANE command tests a retired lane and returns it as a spare. -/
  | returnLane (target : LaneReturn)
  /-- RESET_BASELINE (R436): The RESET_BASELINE command clears the wear baselines of a channel. -/
  | resetBaseline (target : BitVec 8)
  /-- GROOM_INJECT (R447): A write to GROOM.INJECT injects into switch-wear detection. -/
  | groomInject (cls : Nat)
  /-- ROW_REPLACED (R438): An SRAM row is copied into a spare row and remapped. -/
  | rowReplaced (row ce : Nat) (lost : Bool)
  /-- SECTOR_MARKED (R439): An MRAM sector is marked for remapping at the next staging. -/
  | sectorMarked (bank : Fin 2) (sector ce : Nat) (verify : Bool)
  /-- PLL_SPARE_TEST_END (R440): The relocked PLL has held beside the root for 10 s and becomes the hot spare. -/
  | pllSpareTestEnd (ok : Bool)
  /-- GROOM_RECORD_WRITE (R442): A change of the Groomer record is written to the Himet store. -/
  | groomRecordWrite (ok : Bool)
  /-- ETH_SPARE_BRING_IN (R489): ETH2 takes over the roles of a failed port. -/
  | ethSpareBringIn
  /-- RESET_N_LOW (R453): A RESET_N low of at least 1.0 µs asserts the SYSTEM source. -/
  | resetNLow (ns : Nat) (may : Bool)
  /-- RESET_ASSERT (R456): A reset source asserts and starts or widens an episode. -/
  | resetAssert (src : Fin 9)
  /-- RESET_RELEASE (R456): The last source releases and release begins. -/
  | resetRelease
  /-- RST_WARM (R454): The RST.CMD WARM command asserts a WARM reset. -/
  | rstWarm (key : BitVec 8)
  /-- RST_SYSTEM (R454): The RST.CMD SYSTEM command asserts a SYSTEM reset. -/
  | rstSystem (key : BitVec 8)
  /-- RST_BLOCK (R459): The RST.CMD BLOCK command resets one block. -/
  | rstBlock (block : Fin 32) (key : BitVec 8)
  /-- BLOCK_DONE (R459): A BLOCK reset completes with its BLOCKCFG re-applied. -/
  | blockDone
  /-- COLD_LIFT (R465): A POWER or SYSTEM episode lifts through L0 to L8. -/
  | coldLift (env : LiftEnv)
  /-- BIST_CONDITION_RECHECK (R443): While the L2 conditions fail, the lift checks them again every 1 ms. -/
  | bistConditionRecheck (env : LiftEnv)
  /-- WARM_LIFT (R467): A WARM episode runs W0 to W5 and becomes RUN-ready. -/
  | warmLift (env : WarmEnv)
  /-- RESET_HOLD_ESTIMATE_TIMEOUT (R470): The ASC estimator has no estimate 20 ms after handover, so n̂ is given as 0.0. -/
  | resetHoldEstimateTimeout (n : Fin 4)
  /-- RST_LOG_SELECT (R472): A write to RST.LOG_SEL latches a reset log entry. -/
  | rstLogSelect (index : Fin 16)
  /-- PPS_IN_EDGE (R478): A PPS_IN edge is stamped and accepted or rejected. -/
  | ppsInEdge (after : Nat)
  /-- SERVO_MEASUREMENT (R479): The servo forms OFFSET and steps the counter or sets RATE. -/
  | servoMeasurement (meas : ServoMeas)
  /-- REFERENCE_LOSS (R480): The time reference is lost and the counter holds over. -/
  | referenceLoss
  /-- PPS_OUT_PULSE (R482): PPS_OUT rises at a second boundary of the counter. -/
  | ppsOutPulse
  /-- TIME_SET (R510): The SET command loads the counter from ARG at the next epoch start. -/
  | timeSet
  /-- SYNC_ARM (R484): The SYNC_ARM command arms a PWM SYNC at a time-of-day instant. -/
  | syncArm
  /-- SYNC_CANCEL (R510): The SYNC_CANCEL command disarms the SYNC. -/
  | syncCancel
  /-- TIME_SYNC_FIRE (R484): The counter reaches the armed instant and the SYNC is issued or skipped. -/
  | timeSyncFire
  /-- TIME_NOW_READ (R510): A read of NOW_S_LO latches the rest of the time. -/
  | timeNowRead (after : Nat)
  /-- PPS_IN_READ (R510): A read of PPS_IN_S latches PPS_IN_NS. -/
  | ppsInRead
  /-- TIME_INJECT (R509): A write to TIME.INJECT injects into the reference-loss detector. -/
  | timeInject (cls : Nat)
  /-- PORT_LINK_CHANGE (R487): An Ethernet port trains or leaves UP. -/
  | portLinkChange (p : Fin 3) (link : Fin 3) (errs : PortErrs)
  /-- SWITCH_FRAME (R488): The integrated switch forwards a frame between the external ports. -/
  | switchFrame (p : Fin 3) (frame : List Byte)
  /-- GPTP_FRAME (R490): A gPTP frame is received and handled by the time-aware system. -/
  | gptpFrame (p : Fin 3) (msg : Sampled GptpMsg)
  /-- QBV_COMMIT (R493): The QBV_COMMIT command commits the inactive gate-control bank. -/
  | qbvCommit (port : BitVec 2)
  /-- QBV_BANK_SWITCH (R493): The committed bank becomes active at a cycle start. -/
  | qbvBankSwitch (p : Fin 3)
  /-- BEACON_SEND (R497): A node sends a BEACON on every Folis port. -/
  | beaconSend
  /-- BEACON_RECEIVE (R497): A received BEACON updates the election and the tree. -/
  | beaconReceive (p : Fin 3) (frame : Sampled (List Byte))
  /-- MASTER_LOST (R498): No CYCLE frame arrives on the parent port for 3 PERIODs. -/
  | masterLost
  /-- CYCLE_START (R500): The master sends CYCLE k on every child port at T_k. -/
  | cycleStart (k : Nat) (stamps : Vector Nat 3)
  /-- CYCLE_RECEIVE (R502): A node takes its time from CYCLE k, forwards it and records its agreement. -/
  | cycleReceive (p : Fin 3) (frame : Sampled (List Byte)) (ingress : Nat) (residence : Vector Nat 3)
  /-- REPORT_SEND (R504): A node sends its aggregated REPORT to its parent. -/
  | reportSend
  /-- REPORT_DEADLINE (R504): A relay's report deadline passes. -/
  | reportDeadline
  /-- REPORT_RECEIVE (R504): A REPORT from a child port is aggregated, or is discarded as late. -/
  | reportReceive (p : Fin 3) (frame : Sampled (List Byte))
  /-- DELAY_REQ_SEND (R501): A port sends DELAY_REQ every 125 ms. -/
  | delayReqSend (p : Fin 3)
  /-- DELAY_REQ_RECEIVE (R501): A received DELAY_REQ is answered with DELAY_RESP. -/
  | delayReqReceive (p : Fin 3) (frame : Sampled (List Byte)) (turn : Nat)
  /-- DELAY_RESP_RECEIVE (R501): A received DELAY_RESP updates the link delay of the port. -/
  | delayRespReceive (p : Fin 3) (frame : Sampled (List Byte)) (span : Nat)
  /-- SCHEDULE (R507): The SCHEDULE command makes the master send SCHEDULE frames. -/
  | schedule
  /-- SCHED_CANCEL (R507): The SCHED_CANCEL command sends CANCEL in three cycles. -/
  | schedCancel
  /-- SCHEDULE_RECEIVE (R507): A SCHEDULE frame is forwarded and passed to the update function. -/
  | scheduleReceive (p : Fin 3) (frame : Sampled (List Byte))
  /-- CAPS_REQUEST (R508): The CAPS_REQUEST command sends the node's own CAPS with the request flag. -/
  | capsRequest
  /-- CAPS_SEND (R508): A node sends its CAPS frame, as on its 60 s timer. -/
  | capsSend
  /-- CAPS_RECEIVE (R508): A received CAPS frame is forwarded and feeds the peer summary. -/
  | capsReceive (p : Fin 3) (frame : Sampled (List Byte))
  /-- FOLIS_AGG_READ (R511): A read of AGG0 latches AGG1 to AGG4. -/
  | folisAggRead
  /-- NET_INJECT (R509): A write to NET.INJECT injects into the link-down or master-loss detector. -/
  | netInject (cls : Nat)
  /-- CAN_INIT_CLEAR (R518): A write of INIT = 0 takes the controller from CONFIG onto the bus. -/
  | canInitClear (c : Fin 2)
  /-- CAN_INIT_SET (R518): A write of INIT = 1 requests CONFIG. -/
  | canInitSet (c : Fin 2)
  /-- CAN_CONFIG_ENTRY (R519): At the end of the current frame the controller enters CONFIG. -/
  | canConfigEntry (c : Fin 2)
  /-- CAN_INTEGRATION_DONE (R518): 11 recessive bits end integration. -/
  | canIntegrationDone (c : Fin 2)
  /-- CAN_TX_REQ (R521): A write to TXB[b].REQ moves an IDLE buffer to PENDING. -/
  | canTxReq (c : Fin 2) (b : Fin 3)
  /-- CAN_TX_ABORT (R525): A write to TXB[b].ABORT aborts a buffer. -/
  | canTxAbort (c : Fin 2) (b : Fin 3)
  /-- CAN_TX_SELECT (R522): At intermission or bus idle the controller selects a PENDING buffer. -/
  | canTxSelect (c : Fin 2)
  /-- TX_DONE (R524): A frame completes without error. -/
  | txDone (c : Fin 2) (tdcv : BitVec 7) (ns : Nat)
  /-- CAN_TX_ERROR (R524): A transmission attempt ends in an error and the error counters move. -/
  | canTxError (c : Fin 2) (kind : CanError) (dataPhase noDominant : Bool)
  /-- CAN_RESTART (R518): The RESTART command starts recovery from bus-off. -/
  | canRestart (c : Fin 2)
  /-- RECOVERED (R518): 128 occurrences of 11 recessive bits end recovery. -/
  | recovered (c : Fin 2)
  /-- CAN_CLEAR_STATS (R536): The CLEAR_STATS command clears BUSOFFS and RX_DROPS. -/
  | canClearStats (c : Fin 2)
  /-- CAN_FRAME_RECEIVED (R529): A received frame is filtered and stored. -/
  | canFrameReceived (c : Fin 2) (frame : Sampled CanFrame) (resRecessive : Bool) (ns : Nat)
  /-- CAN_RX_READ (R531): A read of RX[f].ID latches the head entry. -/
  | canRxRead (c : Fin 2) (f : Fin 3)
  /-- CAN_RX_POP (R531): A write to RX[f].POP removes the latched entry. -/
  | canRxPop (c : Fin 2) (f : Fin 3)
  /-- CAN_INJECT (R535): A write to CAN.INJECT injects into a state detector. -/
  | canInject (c : Fin 2) (cls : Nat)
  /-- CAUSE_CLEAR (R550): A w1c write to a CAUSE register clears bits and may release IRQ_N. -/
  | causeClear (grp : Fin 64) (mask : Word)
  /-- INT_INJECT (R552): A write to INT.GRP[g].INJECT sets cause bits with a shadow mark. -/
  | intInject (grp : Fin 64) (mask : Word)
  /-- IRQ_EDGE_RELEASE_END (R551): The 1.0 µs release of IRQ_N in EDGE mode ends. -/
  | irqEdgeReleaseEnd
  /-- CHALLENGE (R566): The CHALLENGE command draws a nonce. -/
  | challenge
  /-- AUTH (R568): The AUTH command checks a token and applies it. -/
  | auth
  /-- ENROL (R569): An ENROL token puts the owner key into slot 3. -/
  | enrol
  /-- OWNER_NEXT (R569): An OWNER_NEXT token fills slot 4. -/
  | ownerNext
  /-- ROTATE (R569): A ROTATE token moves slot 4 into slot 3. -/
  | rotate
  /-- TRANSFER (R569): A TRANSFER token installs a new owner. -/
  | transfer
  /-- RELEASE (R569): A RELEASE token returns the module to UNOWNED. -/
  | releaseToken
  /-- LOCK (R569): A LOCK token sets the owner lock. -/
  | lockToken
  /-- UNLOCK (R569): An UNLOCK token clears the owner lock. -/
  | unlockToken
  /-- CK_LOAD (R569): A CK_LOAD token loads a new course key. -/
  | ckLoad
  /-- FLOOR (R569): A FLOOR token raises an anti-rollback counter. -/
  | floor
  /-- TEST (R571): A TEST token opens a test session. -/
  | testToken
  /-- DEBUG (R572): A DEBUG token opens a debug session. -/
  | debug
  /-- ATTEST (R576): The ATTEST command signs a state report. -/
  | attest
  /-- READ_CERT (R559): The READ_CERT command places the identity certificate in the mailbox. -/
  | readCert
  /-- READ_KEY (R577): The READ_KEY command places a slot's public key in the mailbox. -/
  | readKey (slot : Fin 8)
  /-- CLOSE_TEST (R571): The CLOSE_TEST command closes the test session. -/
  | closeTest
  /-- CLOSE_DEBUG (R573): The CLOSE_DEBUG command ends the debug session. -/
  | closeDebug
  /-- NONCE_EXPIRY (R566): The nonce expires after 300 s. -/
  | nonceExpiry
  /-- TEST_SESSION_EXPIRY (R571): The test session reaches its end of time. -/
  | testSessionExpiry
  /-- DEBUG_SESSION_EXPIRY (R573): The debug session reaches its end of time and is ended. -/
  | debugSessionExpiry
  /-- STORE_CHECK (R578): The 10 s check of every store record repairs or fails records. -/
  | storeCheck (fixed lost : Bool)
  /-- TRNG_FAIL (R579): A TRNG health test fails and TRNG_OK clears. -/
  | trngFail
  /-- TRNG_RECOVER (R579): 1,024 conditioned words pass and TRNG_OK returns. -/
  | trngRecover
  /-- RANDOM_READ (R579): A read of HIMET.RANDOM returns fresh bits. -/
  | randomRead
  /-- HIMET_INJECT (R580): A write to HIMET.INJECT injects into a Himet detector. -/
  | himetInject (cls : Nat)
  /-- USB_ATTACH (R584): The service USB device attaches. -/
  | usbAttach (configured hs : Bool)
  /-- USB_DETACH (R584): The service USB device detaches. -/
  | usbDetach
  /-- INFO (R586): The INFO operation returns the SVC registers. -/
  | infoOp (tag : BitVec 16) (good : Bool)
  /-- BEGIN (R591): The BEGIN operation starts staging into the inactive bank. -/
  | beginOp (tag : BitVec 16) (payload : List Byte) (moved : Bool)
  /-- DATA (R591): The DATA operation writes bundle bytes into the inactive bank. -/
  | dataOp (tag : BitVec 16) (offset : Nat) (payload : List Byte) (moved written : Bool)
  /-- SVC_END (R591): The END operation verifies the staged bundle and marks the bank STAGED. -/
  | svcEnd (tag : BitVec 16) (moved written : Bool)
  /-- SVC_ABORT (R592): The ABORT operation or command abandons the staging. -/
  | svcAbort (via : SvcVia)
  /-- CONFIRM (R598): The CONFIRM command confirms a TRIAL bank. -/
  | confirm (via : SvcVia)
  /-- ROLLBACK (R599): The ROLLBACK command rolls back a TRIAL bank. -/
  | rollback (via : SvcVia)
  /-- ARM_LOCAL (R593): The ARM_LOCAL command arms an activation at SVC.ACT. -/
  | armLocal (via : SvcVia) (payload : List Byte)
  /-- SVC_CANCEL (R593): The CANCEL command disarms the activation. -/
  | svcCancel (via : SvcVia)
  /-- SVC_STATUS (R586): The STATUS operation returns SVC.RESULT. -/
  | svcStatus (tag : BitVec 16)
  /-- ACTIVATION_INSTANT (R594): The armed instant arrives and the swap starts or is postponed. -/
  | activationInstant
  /-- POSTPONED_SWAP (R594): A postponed activation starts its swap once its conditions hold. -/
  | postponedSwap
  /-- MIGRATED (R596): The migrated parameter set is written into the TRIAL bank and recorded. -/
  | migrated
  /-- TRIAL_START_SUCCESS (R597): 60 s after a TRIAL lift without reset or F4, the start counts as successful. -/
  | trialStartSuccess
  /-- AUTO_ROLLBACK (R599): A failed TRIAL bank is rolled back once the slots are at rest. -/
  | autoRollback
  /-- STREAM_CHANGE (R103): A stuck stream changes its bit again, so its STUCK bit clears. -/
  | streamChange (n : Fin 80) (cycle : Nat)
  /-- RECEIVE_ERROR (R518): A CAN controller detects an error while receiving a frame of another node, so REC rises and the controller may become error passive. -/
  | receiveError (c : Fin 2) (kind : Fin 7) (dataPhase by8 : Bool)
  /-- RETRAIN_END (R268): A commanded link retraining completes, sending RELEASE, or reaches its 200 µs limit without training the link. -/
  | retrainEnd (n : Fin 64) (ok : Bool)
  /-- SELFTEST_TIMEOUT (R297): A SELFTEST run that has not finished all its steps within 100 ms ends with BUSY cleared and no cause set. -/
  | selftestTimeout (n : Fin 64)
  /-- HIMET_OPERATION_END (R562): A Himet verification or signature finishes, clearing BUSY and giving the AUTH or ATTEST result. -/
  | himetOperationEnd (storeOk : Bool)
  /-- GPTP_TIMEOUT (R512): syncReceiptTimeout or announceReceiptTimeout of 802.1AS expires and GPTP_TIMEOUT is set. -/
  | gptpTimeout (p : Fin 3) (announce : Bool)
  /-- GPTP_MESSAGE_SEND (R490): At its interval, the module sends Sync, Announce or Pdelay_Req messages on its gPTP ports. -/
  | gptpMessageSend (kind : Fin 3)
  /-- PPS_OUT_FALL (R482): PPS_OUT falls PPS_WIDTH µs after it rose. -/
  | ppsOutFall
  /-- DEBUG_LINK_RISE (R573): Either DC-link channel rises above 60 V during a level-2 debug session, which ends the session with a SYSTEM reset. -/
  | debugLinkRise
  /-- SUPERVISOR_REPORT (R385): The supervisor core reports to its internal monitor, restarting the 10 ms span of SUP_WDOG. -/
  | supervisorReport
deriving DecidableEq, Repr

end Sys2Proof
end

