-- ==== Sys2Proof/Decode.lean ====
section
/-! DEFINITION. What words spell: the command table gives none of its rows any bits, so that no word of it spells a command; the words of
CARVE_PROG spell the instructions of the Carve engine (R166 to R169). -/

namespace Sys2Proof.Machine

/-- How an instruction of the Carve engine uses a register field (R166, R168). -/
inductive FieldUse where
  | no | s | v | code
deriving DecidableEq, Repr

/-- How it uses X (R166). -/
inductive XUse where
  | no | imm | rows | row | setb | port | ports | word | words | target | sig | vint | ipre
deriving DecidableEq, Repr

/-- The fields D, A, B, C and X of an opcode; none for an undefined one (R166 to R168). -/
def opShape : Nat → Option (FieldUse × FieldUse × FieldUse × FieldUse × XUse)
  | 0x00 => some (.no, .no, .no, .no, .no)
  | 0x01 => some (.no, .no, .no, .no, .no)
  | 0x02 => some (.no, .no, .no, .code, .target)
  | 0x03 => some (.no, .no, .no, .code, .sig)
  | 0x04 => some (.no, .s, .no, .no, .setb)
  | 0x10 => some (.s, .s, .s, .no, .no)
  | 0x11 => some (.s, .s, .s, .no, .no)
  | 0x12 => some (.s, .s, .s, .no, .no)
  | 0x13 => some (.s, .s, .s, .no, .no)
  | 0x14 => some (.s, .s, .s, .no, .no)
  | 0x15 => some (.s, .s, .s, .no, .no)
  | 0x16 => some (.s, .s, .no, .no, .no)
  | 0x17 => some (.s, .s, .no, .no, .no)
  | 0x18 => some (.s, .s, .no, .no, .no)
  | 0x19 => some (.s, .no, .no, .no, .imm)
  | 0x1A => some (.no, .s, .s, .no, .no)
  | 0x1B => some (.s, .s, .s, .code, .no)
  | 0x1C => some (.s, .s, .s, .s, .no)
  | 0x1D => some (.s, .s, .no, .no, .no)
  | 0x1E => some (.s, .s, .s, .no, .no)
  | 0x1F => some (.s, .s, .no, .no, .no)
  | 0x20 => some (.s, .s, .no, .no, .no)
  | 0x21 => some (.s, .s, .s, .no, .no)
  | 0x30 => some (.v, .v, .v, .no, .no)
  | 0x31 => some (.v, .v, .v, .no, .no)
  | 0x32 => some (.v, .v, .v, .no, .no)
  | 0x33 => some (.v, .v, .v, .no, .no)
  | 0x34 => some (.v, .v, .s, .no, .no)
  | 0x35 => some (.v, .s, .no, .no, .no)
  | 0x36 => some (.v, .s, .no, .code, .no)
  | 0x37 => some (.s, .v, .no, .code, .no)
  | 0x38 => some (.v, .v, .v, .v, .no)
  | 0x39 => some (.v, .v, .s, .v, .vint)
  | 0x3A => some (.v, .v, .no, .no, .ipre)
  | 0x3B => some (.s, .v, .v, .no, .no)
  | 0x3C => some (.v, .no, .no, .no, .row)
  | 0x3D => some (.v, .no, .no, .no, .row)
  | 0x3E => some (.v, .v, .no, .no, .rows)
  | 0x3F => some (.v, .v, .no, .no, .rows)
  | 0x40 => some (.v, .v, .no, .no, .no)
  | 0x50 => some (.s, .no, .no, .no, .port)
  | 0x51 => some (.v, .no, .no, .no, .ports)
  | 0x52 => some (.no, .s, .no, .no, .port)
  | 0x53 => some (.no, .v, .no, .no, .ports)
  | 0x54 => some (.s, .no, .no, .no, .word)
  | 0x55 => some (.v, .no, .no, .no, .words)
  | _ => none

/-- A register field holds what its use allows: unused fields 0, vector fields with bit 5 = 0, element indexes and condition codes
below 16 (R166, R167, R169). -/
def FieldUse.fits (u : FieldUse) (v : Nat) : Bool :=
  match u with
  | .no => decide (v = 0)
  | .s => true
  | .v => decide (v < 32)
  | .code => decide (v < 16)

/-- X holds what its use allows (R166, R167); `count` is the loaded word count. -/
def XUse.fits (u : XUse) (count x : Nat) : Bool :=
  let rowAddr := decide (x % 0x4000 % 16 = 0 ∧ x / 2 ^ 15 % 2 = 0)
  match u with
  | .no => decide (x = 0)
  | .imm => true
  | .rows => rowAddr && decide (x / 2 ^ 16 % 16 + x / 2 ^ 20 % 16 + 1 ≤ 16 ∧ x / 2 ^ 24 = 0)
  | .row => rowAddr && decide (x / 2 ^ 15 = 0)
  | .setb => decide (x % 0x4000 % 16 = 0 ∧ x / 2 ^ 22 = 0)
  | .port => decide (x < 256)
  | .ports => decide (x < 256 ∧ x % 16 = 0)
  | .word => decide (x < 256)
  | .words => decide (x < 256 ∧ x % 16 = 0)
  | .target => decide (x < 4096 ∧ x < count)
  | .sig => decide (x < 8)
  | .vint => decide (x < 32)
  | .ipre => decide (x < 2 ^ 16)

/-- A program word keeps R167. -/
def progWordOk (count : Nat) (w : BitVec 64) : Bool :=
  let n := w.toNat
  match opShape (n / 2 ^ 56) with
  | none => false
  | some (d, a, b, c, x) =>
    d.fits (n / 2 ^ 50 % 64) && a.fits (n / 2 ^ 44 % 64) && b.fits (n / 2 ^ 38 % 64) && c.fits (n / 2 ^ 32 % 64) &&
      x.fits count (n % 2 ^ 32) && decide (n / 2 ^ 56 ≠ 0x20 ∨ n / 2 ^ 50 % 64 ≠ 63)

/-- A scalar register field. -/
def sField (n : Nat) : Fin 64 := Fin.ofNat 64 n
/-- A vector register field; bit 5 is 0 in a word that keeps R167. -/
def vField (n : Nat) : Fin 32 := Fin.ofNat 32 n
/-- A condition code or an element index. -/
def cField (n : Nat) : Fin 16 := Fin.ofNat 16 n

/-- The instruction that a program word spells, none where it breaks R167 (R166, R168): OP picks it, D, A, B, C and X are its operands. -/
def carveDecode (w : BitVec 64) : Option Instr :=
  let n := w.toNat
  let d := n / 2 ^ 50 % 64
  let a := n / 2 ^ 44 % 64
  let b := n / 2 ^ 38 % 64
  let c := n / 2 ^ 32 % 64
  let x := n % 2 ^ 32
  let maddr := BitVec.ofNat 14 x
  let ind := decide (x / 2 ^ 14 % 2 = 1)
  let doff := cField (x / 2 ^ 16)
  let rows := cField (x / 2 ^ 20)
  let port := Fin.ofNat 64 x
  let slot := Fin.ofNat 4 (x / 64)
  if !progWordOk 4096 w then none
  else match n / 2 ^ 56 with
    | 0x00 => some .nop
    | 0x01 => some .endTask
    | 0x02 => some (.br (cField c) (Fin.ofNat 4096 x))
    | 0x03 => some (.sig (cField c) (Fin.ofNat 8 x))
    | 0x04 => some (.setb (sField a) maddr (BitVec.ofNat 8 (x / 2 ^ 14)))
    | 0x10 => some (.sadd (sField d) (sField a) (sField b))
    | 0x11 => some (.ssub (sField d) (sField a) (sField b))
    | 0x12 => some (.smul (sField d) (sField a) (sField b))
    | 0x13 => some (.smac (sField d) (sField a) (sField b))
    | 0x14 => some (.smin (sField d) (sField a) (sField b))
    | 0x15 => some (.smax (sField d) (sField a) (sField b))
    | 0x16 => some (.sabs (sField d) (sField a))
    | 0x17 => some (.sneg (sField d) (sField a))
    | 0x18 => some (.smov (sField d) (sField a))
    | 0x19 => some (.sldi (sField d) (BitVec.ofNat 32 x))
    | 0x1A => some (.scmp (sField a) (sField b))
    | 0x1B => some (.ssel (sField d) (cField c) (sField a) (sField b))
    | 0x1C => some (.sclamp (sField d) (sField a) (sField b) (sField c))
    | 0x1D => some (.swrap (sField d) (sField a))
    | 0x1E => some (.sdiv (sField d) (sField a) (sField b))
    | 0x1F => some (.ssqrt (sField d) (sField a))
    | 0x20 => some (.ssincos (sField d) (sField a))
    | 0x21 => some (.satan2 (sField d) (sField a) (sField b))
    | 0x30 => some (.vadd (vField d) (vField a) (vField b))
    | 0x31 => some (.vsub (vField d) (vField a) (vField b))
    | 0x32 => some (.vmul (vField d) (vField a) (vField b))
    | 0x33 => some (.vmac (vField d) (vField a) (vField b))
    | 0x34 => some (.vscl (vField d) (vField a) (sField b))
    | 0x35 => some (.vbcast (vField d) (sField a))
    | 0x36 => some (.vins (vField d) (cField c) (sField a))
    | 0x37 => some (.vext (sField d) (vField a) (cField c))
    | 0x38 => some (.vclamp (vField d) (vField a) (vField b) (vField c))
    | 0x39 => some (.vint (vField d) (vField a) (sField b) (vField c) (cField x) (decide (x / 16 % 2 = 1)))
    | 0x3A => some (.ipre (vField d) (vField a) (BitVec.ofNat 16 x))
    | 0x3B => some (.vdot (sField d) (vField a) (vField b))
    | 0x3C => some (.vld (vField d) maddr ind)
    | 0x3D => some (.vst (vField d) maddr ind)
    | 0x3E => some (.mvm (vField d) (vField a) maddr ind rows doff)
    | 0x3F => some (.mvma (vField d) (vField a) maddr ind rows doff)
    | 0x40 => some (.vmov (vField d) (vField a))
    | 0x50 => some (.inPort (sField d) slot port)
    | 0x51 => some (.inv (vField d) slot port)
    | 0x52 => some (.outPort slot port (sField a))
    | 0x53 => some (.outv slot port (vField a))
    | 0x54 => some (.ldp (sField d) (Fin.ofNat 256 x))
    | 0x55 => some (.ldpv (vField d) (Fin.ofNat 256 x))
    | _ => none

/-- A program word of its fields (R166). -/
def carveWord (op d a b c x : Nat) : BitVec 64 :=
  BitVec.ofNat 64 (op * 2 ^ 56 + d * 2 ^ 50 + a * 2 ^ 44 + b * 2 ^ 38 + c * 2 ^ 32 + x)

/-- X of a row access: MADDR and IND (R166). -/
def xRow (maddr : BitVec 14) (ind : Bool) : Nat := maddr.toNat + (if ind then 2 ^ 14 else 0)
/-- X of MVM and MVMA. -/
def xRows (maddr : BitVec 14) (ind : Bool) (rows doff : Fin 16) : Nat := xRow maddr ind + doff.val * 2 ^ 16 + rows.val * 2 ^ 20
/-- X of a port. -/
def xPort (slot : Fin 4) (port : Fin 64) : Nat := slot.val * 64 + port.val

/-- The program word that spells an instruction of the Carve engine (R166, R168); none for any other command. -/
def carveEncode : Instr → Option (BitVec 64)
  | .nop => some (carveWord 0x00 0 0 0 0 0)
  | .endTask => some (carveWord 0x01 0 0 0 0 0)
  | .br cond target => some (carveWord 0x02 0 0 0 cond.val target.val)
  | .sig cond n => some (carveWord 0x03 0 0 0 cond.val n.val)
  | .setb a stride nmax => some (carveWord 0x04 0 a.val 0 0 (stride.toNat + nmax.toNat * 2 ^ 14))
  | .sadd d a b => some (carveWord 0x10 d.val a.val b.val 0 0)
  | .ssub d a b => some (carveWord 0x11 d.val a.val b.val 0 0)
  | .smul d a b => some (carveWord 0x12 d.val a.val b.val 0 0)
  | .smac d a b => some (carveWord 0x13 d.val a.val b.val 0 0)
  | .smin d a b => some (carveWord 0x14 d.val a.val b.val 0 0)
  | .smax d a b => some (carveWord 0x15 d.val a.val b.val 0 0)
  | .sabs d a => some (carveWord 0x16 d.val a.val 0 0 0)
  | .sneg d a => some (carveWord 0x17 d.val a.val 0 0 0)
  | .smov d a => some (carveWord 0x18 d.val a.val 0 0 0)
  | .sldi d x => some (carveWord 0x19 d.val 0 0 0 x.toNat)
  | .scmp a b => some (carveWord 0x1A 0 a.val b.val 0 0)
  | .ssel d cond a b => some (carveWord 0x1B d.val a.val b.val cond.val 0)
  | .sclamp d a b e => some (carveWord 0x1C d.val a.val b.val e.val 0)
  | .swrap d a => some (carveWord 0x1D d.val a.val 0 0 0)
  | .sdiv d a b => some (carveWord 0x1E d.val a.val b.val 0 0)
  | .ssqrt d a => some (carveWord 0x1F d.val a.val 0 0 0)
  | .ssincos d a => some (carveWord 0x20 d.val a.val 0 0 0)
  | .satan2 d a b => some (carveWord 0x21 d.val a.val b.val 0 0)
  | .vadd d a b => some (carveWord 0x30 d.val a.val b.val 0 0)
  | .vsub d a b => some (carveWord 0x31 d.val a.val b.val 0 0)
  | .vmul d a b => some (carveWord 0x32 d.val a.val b.val 0 0)
  | .vmac d a b => some (carveWord 0x33 d.val a.val b.val 0 0)
  | .vscl d a b => some (carveWord 0x34 d.val a.val b.val 0 0)
  | .vbcast d a => some (carveWord 0x35 d.val a.val 0 0 0)
  | .vins d e a => some (carveWord 0x36 d.val a.val 0 e.val 0)
  | .vext d a e => some (carveWord 0x37 d.val a.val 0 e.val 0)
  | .vclamp d a b e => some (carveWord 0x38 d.val a.val b.val e.val 0)
  | .vint d a b e shift dir => some (carveWord 0x39 d.val a.val b.val e.val (shift.val + if dir then 16 else 0))
  | .ipre d a mask => some (carveWord 0x3A d.val a.val 0 0 mask.toNat)
  | .vdot d a b => some (carveWord 0x3B d.val a.val b.val 0 0)
  | .vld d maddr ind => some (carveWord 0x3C d.val 0 0 0 (xRow maddr ind))
  | .vst d maddr ind => some (carveWord 0x3D d.val 0 0 0 (xRow maddr ind))
  | .mvm d a maddr ind rows doff => some (carveWord 0x3E d.val a.val 0 0 (xRows maddr ind rows doff))
  | .mvma d a maddr ind rows doff => some (carveWord 0x3F d.val a.val 0 0 (xRows maddr ind rows doff))
  | .vmov d a => some (carveWord 0x40 d.val a.val 0 0 0)
  | .inPort d slot port => some (carveWord 0x50 d.val 0 0 0 (xPort slot port))
  | .inv d slot port => some (carveWord 0x51 d.val 0 0 0 (xPort slot port))
  | .outPort slot port a => some (carveWord 0x52 0 a.val 0 0 (xPort slot port))
  | .outv slot port a => some (carveWord 0x53 0 a.val 0 0 (xPort slot port))
  | .ldp d k => some (carveWord 0x54 d.val 0 0 0 k.val)
  | .ldpv d k => some (carveWord 0x55 d.val 0 0 0 k.val)
  | _ => none

/-- The operands that R167 admits in a program word: rows at multiples of 16, ROWS and DOFF within a vector, a cosine with a register. -/
def carveAdmits : Instr → Bool
  | .setb _ stride _ => decide (stride.toNat % 16 = 0)
  | .ssincos d _ => decide (d.val ≠ 63)
  | .vld _ maddr _ => decide (maddr.toNat % 16 = 0)
  | .vst _ maddr _ => decide (maddr.toNat % 16 = 0)
  | .mvm _ _ maddr _ rows doff => decide (maddr.toNat % 16 = 0 ∧ doff.val + rows.val + 1 ≤ 16)
  | .mvma _ _ maddr _ rows doff => decide (maddr.toNat % 16 = 0 ∧ doff.val + rows.val + 1 ≤ 16)
  | .inv _ _ port => decide (port.val % 16 = 0)
  | .outv _ port _ => decide (port.val % 16 = 0)
  | .ldpv _ k => decide (k.val % 16 = 0)
  | _ => true

end Sys2Proof.Machine

namespace Sys2Proof

/-- The command that a word of the table spells: none, since no row of the table has bits. -/
def decodeTableWord (_nbits _w : Nat) : Option Instr := none

end Sys2Proof
end

