-- ==== Sys2Proof/Machine/F32.lean ====
section
/-! DEFINITION. IEEE 754 binary32 values as register words (conventions of chapter 0; arithmetic rules of R163): exact
rational arithmetic, rounded once to nearest, ties to even. -/

namespace Sys2Proof.Machine

/-- Sign bit of a binary32 word. -/
def fNeg? (x : Word) : Bool := x.getLsbD 31
/-- Magnitude bits (exponent and fraction). -/
def fMag (x : Word) : Nat := x.toNat % 2 ^ 31
/-- NaN. -/
def fNaN? (x : Word) : Bool := decide (0x7F800000 < fMag x)
/-- Infinity of either sign. -/
def fInf? (x : Word) : Bool := decide (fMag x = 0x7F800000)
/-- Neither NaN nor infinite. -/
def fFinite? (x : Word) : Bool := decide (fMag x < 0x7F800000)
/-- Zero of either sign. -/
def fZero? (x : Word) : Bool := decide (fMag x = 0)
/-- Subnormal, not zero. -/
def fSub? (x : Word) : Bool := decide (0 < fMag x ∧ fMag x < 0x800000)

/-- The quiet NaN 0x7FC0_0000 (R163). -/
abbrev fQNaN : Word := 0x7FC00000#32
/-- +0.0 -/
abbrev f0 : Word := 0#32
/-- 1.0 -/
abbrev f1 : Word := 0x3F800000#32

/-- A power of two with an integer exponent, as a rational. -/
def pow2 (e : Int) : Rat := if 0 ≤ e then ((2 ^ e.toNat : Nat) : Rat) else 1 / ((2 ^ (-e).toNat : Nat) : Rat)

/-- The value of a finite binary32 magnitude: (significand, exponent of 2). -/
def fParts (x : Word) : Nat × Int :=
  let e : Nat := fMag x / 2 ^ 23
  let m : Nat := fMag x % 2 ^ 23
  if e = 0 then (m, -149) else (m + 2 ^ 23, (e : Int) - 150)

/-- The value of a binary32 word in a formula over rationals: an infinity lies beyond every finite binary32 number (here ±2^256, which rounds to
that infinity again), so that a bound of infinity bounds nothing; 0 for NaN. -/
def fRat (x : Word) : Rat :=
  if fNaN? x then 0
  else
    let q := if fInf? x then ((2 ^ 256 : Nat) : Rat) else ((fParts x).1 : Rat) * pow2 (fParts x).2
    if fNeg? x then -q else q

/-- Round n / d (both positive) to nearest even in binary32, magnitude bits; 0x7F80_0000 on overflow. -/
def fRoundMag (n d : Nat) : Nat :=
  if n = 0 ∨ d = 0 then 0 else
  let k0 : Int := (Nat.log2 n : Int) - (Nat.log2 d : Int)
  let below : Bool := if 0 ≤ k0 then decide (n < d * 2 ^ k0.toNat) else decide (n * 2 ^ (-k0).toNat < d)
  let k : Int := if below then k0 - 1 else k0
  let e : Int := max (k - 23) (-149)
  let num := if 0 ≤ e then n else n * 2 ^ (-e).toNat
  let den := if 0 ≤ e then d * 2 ^ e.toNat else d
  let q := num / den
  let r := num % den
  let m := if den < 2 * r ∨ (2 * r = den ∧ q % 2 = 1) then q + 1 else q
  let bits := (e + 149).toNat * 2 ^ 23 + m
  if 0x7F800000 ≤ bits then 0x7F800000 else bits

/-- Put a sign on magnitude bits. -/
def fSign (neg : Bool) (mag : Nat) : Word := BitVec.ofNat 32 (mag % 2 ^ 31 + if neg then 2 ^ 31 else 0)

/-- A rational rounded to nearest even in binary32; zero is +0.0; overflow gives an infinity. -/
def fOfRat (q : Rat) : Word := fSign (decide (q < 0)) (fRoundMag q.num.natAbs q.den)

/-- Order key of a word that is no NaN: −0.0 and +0.0 compare equal. -/
def fKey (x : Word) : Int := if fNeg? x then -(fMag x : Int) else (fMag x : Int)
/-- x < y; false when either is NaN. -/
def fLt (x y : Word) : Bool := !fNaN? x && !fNaN? y && decide (fKey x < fKey y)
/-- x ≤ y; false when either is NaN. -/
def fLe (x y : Word) : Bool := !fNaN? x && !fNaN? y && decide (fKey x ≤ fKey y)
/-- x = y as numbers; false when either is NaN. -/
def fEq (x y : Word) : Bool := !fNaN? x && !fNaN? y && decide (fKey x = fKey y)
/-- Magnitude. -/
def fAbs (x : Word) : Word := fSign false (fMag x)
/-- Negation. -/
def fNeg (x : Word) : Word := fSign (!fNeg? x) (fMag x)

/-- A result with its exception: invalid operation, division by zero or overflow. -/
structure FRes where
  val : Word
  exc : Bool
deriving DecidableEq, Repr

/-- Round an exact non-special result; `zneg` is the sign an exact zero takes. -/
def fFinish (q : Rat) (zneg : Bool) : FRes :=
  if q = 0 then ⟨fSign zneg 0, false⟩
  else ⟨fOfRat q, decide (fRoundMag q.num.natAbs q.den = 0x7F800000)⟩

/-- Addition. -/
def fAddR (x y : Word) : FRes :=
  if fNaN? x || fNaN? y then ⟨fQNaN, false⟩
  else if fInf? x then (if fInf? y && (fNeg? x != fNeg? y) then ⟨fQNaN, true⟩ else ⟨x, false⟩)
  else if fInf? y then ⟨y, false⟩
  else fFinish (fRat x + fRat y) (fNeg? x && fNeg? y && fZero? x && fZero? y)

/-- Subtraction. -/
def fSubR (x y : Word) : FRes := if fNaN? y then ⟨fQNaN, false⟩ else fAddR x (fNeg y)

/-- Multiplication. -/
def fMulR (x y : Word) : FRes :=
  let sg := fNeg? x != fNeg? y
  if fNaN? x || fNaN? y then ⟨fQNaN, false⟩
  else if fInf? x || fInf? y then
    (if fZero? x || fZero? y then ⟨fQNaN, true⟩ else ⟨fSign sg 0x7F800000, false⟩)
  else fFinish (fRat x * fRat y) sg

/-- Fused multiply-accumulate x * y + z, one rounding. -/
def fFmaR (x y z : Word) : FRes :=
  let sg := fNeg? x != fNeg? y
  if fNaN? x || fNaN? y || fNaN? z then ⟨fQNaN, false⟩
  else if fInf? x || fInf? y then
    (if fZero? x || fZero? y then ⟨fQNaN, true⟩
     else if fInf? z && (fNeg? z != sg) then ⟨fQNaN, true⟩
     else ⟨fSign sg 0x7F800000, false⟩)
  else if fInf? z then ⟨z, false⟩
  else fFinish (fRat x * fRat y + fRat z) (sg && fNeg? z && (fZero? x || fZero? y) && fZero? z)

/-- Division. -/
def fDivR (x y : Word) : FRes :=
  let sg := fNeg? x != fNeg? y
  if fNaN? x || fNaN? y then ⟨fQNaN, false⟩
  else if fInf? x then (if fInf? y then ⟨fQNaN, true⟩ else ⟨fSign sg 0x7F800000, false⟩)
  else if fInf? y then ⟨fSign sg 0, false⟩
  else if fZero? y then (if fZero? x then ⟨fQNaN, true⟩ else ⟨fSign sg 0x7F800000, true⟩)
  else fFinish (fRat x / fRat y) sg

/-- Integer square root by bits: the largest r below 2^k with r * r ≤ n, added to `acc`. -/
def isqrtBits (n : Nat) : Nat → Nat → Nat
  | 0, acc => acc
  | k + 1, acc =>
    let c := acc + 2 ^ k
    isqrtBits n k (if c * c ≤ n then c else acc)

/-- The square root of a positive finite word, correctly rounded, magnitude bits. -/
def fSqrtMag (x : Word) : Nat :=
  let p := fParts x
  let odd := decide (p.2 % 2 ≠ 0)
  let m := p.1 * 2 ^ (if odd then 41 else 40)
  let e : Int := (p.2 - (if odd then 41 else 40)) / 2
  let s := isqrtBits m 34 0
  let sticky := if s * s = m then 0 else 1
  let n := 2 * s + sticky
  let e2 := e - 1
  if 0 ≤ e2 then fRoundMag (n * 2 ^ e2.toNat) 1 else fRoundMag n (2 ^ (-e2).toNat)

/-- Square root, correctly rounded; negative operands are invalid. -/
def fSqrtR (x : Word) : FRes :=
  if fNaN? x then ⟨fQNaN, false⟩
  else if fZero? x then ⟨x, false⟩
  else if fNeg? x then ⟨fQNaN, true⟩
  else if fInf? x then ⟨x, false⟩
  else ⟨fSign false (fSqrtMag x), false⟩

/-- Values only, for formulas outside the Carve engine. -/
def fAdd (x y : Word) : Word := (fAddR x y).val
/-- Difference. -/
def fSub (x y : Word) : Word := (fSubR x y).val
/-- Product. -/
def fMul (x y : Word) : Word := (fMulR x y).val
/-- Quotient. -/
def fDiv (x y : Word) : Word := (fDivR x y).val
/-- The smaller of two words by the order of values. -/
def fMin (x y : Word) : Word := if fLt y x then y else x
/-- The larger of two words by the order of values. -/
def fMax (x y : Word) : Word := if fLt x y then y else x
/-- A natural number as binary32. -/
def fOfNat (n : Nat) : Word := fOfRat (n : Rat)
/-- An integer as binary32. -/
def fOfInt (n : Int) : Word := fOfRat (n : Rat)

/-- The nearest integer of a rational, halves away from zero. -/
def ratRound (q : Rat) : Int := if q < 0 then -((-q + 1 / 2).floor) else (q + 1 / 2).floor

/-- A binary32 value where a hardware comparison takes it exactly: a number, an infinity (negative or not) or NaN. -/
inductive Ext where
  | num (q : Rat) | inf (neg : Bool) | nan
deriving DecidableEq, Repr

/-- The value of a word. -/
def Ext.of (x : Word) : Ext := if fNaN? x then .nan else if fInf? x then .inf (fNeg? x) else .num (fRat x)

/-- The opposite value. -/
def Ext.neg : Ext → Ext
  | .num q => .num (-q)
  | .inf s => .inf (!s)
  | .nan => .nan

/-- The sum; of opposite infinities NaN. -/
def Ext.add : Ext → Ext → Ext
  | .num a, .num b => .num (a + b)
  | .num _, .inf s => .inf s
  | .inf s, .num _ => .inf s
  | .inf s, .inf r => if s = r then .inf s else .nan
  | .nan, _ => .nan
  | _, .nan => .nan

/-- The difference. -/
def Ext.sub (a b : Ext) : Ext := a.add b.neg

/-- The product; of 0 and an infinity NaN. -/
def Ext.mul : Ext → Ext → Ext
  | .num a, .num b => .num (a * b)
  | .num a, .inf s => if a = 0 then .nan else .inf (s != decide (a < 0))
  | .inf s, .num b => if b = 0 then .nan else .inf (s != decide (b < 0))
  | .inf s, .inf r => .inf (s != r)
  | .nan, _ => .nan
  | _, .nan => .nan

/-- Strictly less; no order with NaN. -/
def Ext.lt : Ext → Ext → Bool
  | .num a, .num b => decide (a < b)
  | .num _, .inf s => !s
  | .inf s, .num _ => s
  | .inf s, .inf r => s && !r
  | .nan, _ => false
  | _, .nan => false

end Sys2Proof.Machine
end

