-- ==== Sys2Proof/Machine/RegMap.lean ====
section
/-! DEFINITION. The register map, written from the register tables of the spec (R1, R31, R96, R126, R158, R180,
R213, R215, R250, R278, R334, R348, R372, R398, R420, R448, R450, R472, R510, R511, R536, R554, R555, R581, R601):
one row per field, with its access code (R5), its reset value and reach (R7, R8) and its module envelope (R9 to R13, R603). -/

namespace Sys2Proof.Machine

/-- Access codes of R5. -/
inductive Acc where
  | rw | ro | wo | w1c | w1s | rwl | rs
deriving DecidableEq, Repr

/-- The narrowest reset reach that restores a field (R7, R8). `const`: no reset changes it. `episode`: written at each
release (chapter 17). -/
inductive Reach where
  | power | system | warm | block | const | episode
deriving DecidableEq, Repr

/-- What a host write may store into a field before any course envelope is looked at (R9 to R13, R603): every code, a
numeric range (clamped, R10), an enumerated set (refused, R11), a stream number (0 to 79 or 127), or a binary32 value
(NaN refused; `f32ge0` R13; `f32ge0n` the same without subnormals, R188; `f32gt0` R603; `f32norm` R109; `f32rng` a clamped binary32 range given by its bounds' bits). -/
inductive FKind where
  | raw | num (lo hi : Nat) | upTo (max : Nat) | stream | f32 | f32ge0 | f32ge0n | f32gt0 | f32norm | f32rng (lo hi : Nat)
deriving DecidableEq, Repr

/-- One field of the register map: element (i, j) of its array lies at base + i * s1 + j * s2. -/
structure FRow where
  base : Nat
  c1 : Nat
  s1 : Nat
  c2 : Nat
  s2 : Nat
  lsb : Nat
  width : Nat
  acc : Acc
  reset : Nat
  reach : Reach
  kind : FKind
deriving DecidableEq, Repr

namespace RegMap

/-- Rows of the SYS registers, part 1 (R1). -/
def sysRows1 : List FRow := [
  ⟨0x40000000, 1, 0x10000, 1, 0x4, 24, 8, .ro, 0x0, .const, .raw⟩,
  ⟨0x40000000, 1, 0x10000, 1, 0x4, 16, 8, .ro, 0x0, .const, .raw⟩,
  ⟨0x40000000, 1, 0x10000, 1, 0x4, 0, 16, .ro, 0x6480, .const, .raw⟩,
  ⟨0x40000004, 1, 0x10000, 1, 0x4, 0, 32, .ro, 0x0, .const, .raw⟩,
  ⟨0x40000008, 1, 0x10000, 1, 0x4, 0, 32, .ro, 0x0, .const, .raw⟩]

/-- Rows of the SYS registers. -/
def sysRows : List FRow :=
  sysRows1

/-- Rows of the CLK registers, part 1 (R31). -/
def clkRows1 : List FRow := [
  ⟨0x40010000, 1, 0x10000, 1, 0x4, 0, 1, .ro, 0x0, .system, .raw⟩,
  ⟨0x40010000, 1, 0x10000, 1, 0x4, 1, 1, .ro, 0x0, .system, .raw⟩,
  ⟨0x40010000, 1, 0x10000, 1, 0x4, 2, 1, .ro, 0x0, .system, .raw⟩,
  ⟨0x40010000, 1, 0x10000, 1, 0x4, 3, 1, .ro, 0x0, .system, .raw⟩,
  ⟨0x40010000, 1, 0x10000, 1, 0x4, 4, 1, .ro, 0x0, .system, .raw⟩,
  ⟨0x40010000, 1, 0x10000, 1, 0x4, 5, 1, .ro, 0x0, .system, .raw⟩,
  ⟨0x40010004, 1, 0x10000, 1, 0x4, 0, 1, .rw, 0x0, .system, .raw⟩,
  ⟨0x40010004, 1, 0x10000, 1, 0x4, 8, 1, .ro, 0x0, .system, .raw⟩,
  ⟨0x40010008, 1, 0x10000, 1, 0x4, 0, 32, .ro, 0x0, .warm, .raw⟩,
  ⟨0x4001000c, 1, 0x10000, 1, 0x4, 0, 16, .ro, 0x0, .system, .raw⟩,
  ⟨0x4001000c, 1, 0x10000, 1, 0x4, 16, 16, .ro, 0x0, .system, .raw⟩]

/-- Rows of the CLK registers. -/
def clkRows : List FRow :=
  clkRows1

/-- Rows of the PISTE registers, part 1 (R96). -/
def pisteRows1 : List FRow := [
  ⟨0x40090000, 1, 0x10000, 1, 0x4, 0, 3, .ro, 0x0, .system, .raw⟩,
  ⟨0x40090000, 1, 0x10000, 1, 0x4, 3, 1, .ro, 0x0, .system, .raw⟩,
  ⟨0x40090000, 1, 0x10000, 1, 0x4, 8, 8, .ro, 0x0, .system, .raw⟩,
  ⟨0x40090004, 1, 0x10000, 1, 0x4, 0, 8, .ro, 0x0, .system, .raw⟩,
  ⟨0x40090004, 1, 0x10000, 1, 0x4, 8, 8, .ro, 0xff, .system, .raw⟩,
  ⟨0x40090008, 1, 0x10000, 1, 0x4, 0, 16, .ro, 0x0, .system, .raw⟩,
  ⟨0x40090008, 1, 0x10000, 1, 0x4, 16, 16, .ro, 0x0, .system, .raw⟩,
  ⟨0x4009000c, 1, 0x10000, 1, 0x4, 0, 32, .ro, 0x0, .system, .raw⟩,
  ⟨0x40090010, 1, 0x10000, 1, 0x4, 0, 32, .ro, 0x0, .system, .raw⟩,
  ⟨0x40090014, 4, 0x4, 1, 0x4, 0, 32, .ro, 0x0, .system, .raw⟩,
  ⟨0x40090040, 8, 0x4, 1, 0x4, 0, 32, .ro, 0x0, .system, .raw⟩,
  ⟨0x40090060, 8, 0x4, 1, 0x4, 0, 32, .ro, 0x0, .system, .raw⟩,
  ⟨0x40090080, 1, 0x10000, 1, 0x4, 0, 16, .ro, 0x0, .system, .raw⟩,
  ⟨0x40090080, 1, 0x10000, 1, 0x4, 16, 16, .ro, 0x0, .system, .raw⟩,
  ⟨0x40090084, 1, 0x10000, 1, 0x4, 0, 2, .ro, 0x0, .system, .raw⟩,
  ⟨0x40090084, 1, 0x10000, 1, 0x4, 2, 8, .ro, 0x0, .system, .raw⟩,
  ⟨0x40090088, 1, 0x10000, 1, 0x4, 0, 16, .ro, 0x8888, .system, .raw⟩,
  ⟨0x4009008c, 1, 0x10000, 1, 0x4, 0, 4, .wo, 0x0, .warm, .raw⟩,
  ⟨0x40090090, 1, 0x10000, 1, 0x4, 0, 8, .ro, 0x0, .warm, .raw⟩,
  ⟨0x40090090, 1, 0x10000, 1, 0x4, 8, 1, .ro, 0x0, .warm, .raw⟩,
  ⟨0x40090094, 1, 0x10000, 1, 0x4, 0, 16, .ro, 0x0, .warm, .raw⟩,
  ⟨0x40090094, 1, 0x10000, 1, 0x4, 16, 16, .ro, 0x0, .warm, .raw⟩,
  ⟨0x400900a0, 1, 0x10000, 1, 0x4, 0, 32, .rw, 0x0, .warm, .raw⟩,
  ⟨0x400900a4, 1, 0x10000, 1, 0x4, 0, 5, .rw, 0x0, .warm, .raw⟩]

/-- Rows of the PISTE registers, part 2 (R96). -/
def pisteRows2 : List FRow := [
  ⟨0x400900a8, 1, 0x10000, 1, 0x4, 0, 1, .ro, 0x0, .warm, .raw⟩,
  ⟨0x400900a8, 1, 0x10000, 1, 0x4, 1, 2, .ro, 0x0, .warm, .raw⟩,
  ⟨0x400900a8, 1, 0x10000, 1, 0x4, 8, 6, .ro, 0x0, .warm, .raw⟩,
  ⟨0x400900ac, 1, 0x10000, 1, 0x4, 0, 32, .ro, 0x0, .warm, .raw⟩,
  ⟨0x400900b0, 1, 0x10000, 1, 0x4, 0, 32, .ro, 0x0, .warm, .raw⟩]

/-- Rows of the PISTE registers. -/
def pisteRows : List FRow :=
  pisteRows1 ++ pisteRows2

/-- Rows of the SDM registers, part 1 (R126). -/
def sdmRows1 : List FRow := [
  ⟨0x400c0000, 1, 0x10000, 1, 0x4, 0, 1, .ro, 0x0, .block, .raw⟩,
  ⟨0x400c0004, 1, 0x10000, 1, 0x4, 0, 32, .ro, 0x0, .block, .raw⟩,
  ⟨0x400c0008, 1, 0x10000, 1, 0x4, 0, 32, .ro, 0x0, .block, .raw⟩,
  ⟨0x400c000c, 1, 0x10000, 1, 0x4, 0, 16, .ro, 0x0, .block, .raw⟩,
  ⟨0x400c0010, 1, 0x10000, 1, 0x4, 0, 3, .ro, 0x4, .system, .raw⟩,
  ⟨0x400c0020, 1, 0x10000, 1, 0x4, 0, 9, .rwl, 0x20, .block, .num 16 256⟩,
  ⟨0x400c0020, 1, 0x10000, 1, 0x4, 12, 2, .rwl, 0x0, .block, .upTo 2⟩,
  ⟨0x400c0020, 1, 0x10000, 1, 0x4, 16, 3, .rwl, 0x0, .block, .raw⟩,
  ⟨0x400c0020, 1, 0x10000, 1, 0x4, 31, 1, .rwl, 0x0, .block, .raw⟩,
  ⟨0x400c0024, 1, 0x10000, 1, 0x4, 0, 9, .rwl, 0x20, .block, .num 16 256⟩,
  ⟨0x400c0024, 1, 0x10000, 1, 0x4, 12, 2, .rwl, 0x0, .block, .upTo 2⟩,
  ⟨0x400c0024, 1, 0x10000, 1, 0x4, 16, 3, .rwl, 0x0, .block, .raw⟩,
  ⟨0x400c0024, 1, 0x10000, 1, 0x4, 31, 1, .rwl, 0x1, .block, .raw⟩,
  ⟨0x400c0028, 1, 0x10000, 1, 0x4, 0, 12, .rw, 0x32, .block, .raw⟩,
  ⟨0x400c002c, 1, 0x10000, 1, 0x4, 0, 12, .rw, 0x802, .block, .raw⟩,
  ⟨0x400c002c, 1, 0x10000, 1, 0x4, 16, 12, .rw, 0x834, .block, .raw⟩,
  ⟨0x400c0030, 1, 0x10000, 1, 0x4, 0, 12, .rw, 0x866, .block, .raw⟩,
  ⟨0x400c0030, 1, 0x10000, 1, 0x4, 16, 12, .rw, 0x898, .block, .raw⟩,
  ⟨0x400c0034, 1, 0x10000, 1, 0x4, 0, 12, .rw, 0x0, .block, .raw⟩,
  ⟨0x400c0034, 1, 0x10000, 1, 0x4, 16, 12, .rw, 0x0, .block, .raw⟩,
  ⟨0x400c0040, 1, 0x10000, 1, 0x4, 0, 32, .rs, 0x0, .block, .raw⟩,
  ⟨0x400c0044, 1, 0x10000, 1, 0x4, 0, 16, .ro, 0x0, .block, .raw⟩,
  ⟨0x400c0044, 1, 0x10000, 1, 0x4, 16, 1, .ro, 0x0, .block, .raw⟩,
  ⟨0x400c0044, 1, 0x10000, 1, 0x4, 17, 1, .ro, 0x0, .block, .raw⟩]

/-- Rows of the SDM registers, part 2 (R126). -/
def sdmRows2 : List FRow := [
  ⟨0x400c0044, 1, 0x10000, 1, 0x4, 19, 1, .ro, 0x0, .block, .raw⟩,
  ⟨0x400c0048, 1, 0x10000, 1, 0x4, 0, 32, .rs, 0x0, .block, .raw⟩,
  ⟨0x400c004c, 1, 0x10000, 1, 0x4, 0, 16, .ro, 0x0, .block, .raw⟩,
  ⟨0x400c004c, 1, 0x10000, 1, 0x4, 16, 1, .ro, 0x0, .block, .raw⟩,
  ⟨0x400c004c, 1, 0x10000, 1, 0x4, 17, 1, .ro, 0x0, .block, .raw⟩,
  ⟨0x400c004c, 1, 0x10000, 1, 0x4, 19, 1, .ro, 0x0, .block, .raw⟩,
  ⟨0x400c0080, 12, 0x8, 1, 0x4, 0, 32, .rs, 0x0, .block, .raw⟩,
  ⟨0x400c0084, 12, 0x8, 1, 0x4, 0, 16, .ro, 0x0, .block, .raw⟩,
  ⟨0x400c0084, 12, 0x8, 1, 0x4, 16, 1, .ro, 0x0, .block, .raw⟩,
  ⟨0x400c0084, 12, 0x8, 1, 0x4, 17, 1, .ro, 0x0, .block, .raw⟩,
  ⟨0x400c0084, 12, 0x8, 1, 0x4, 19, 1, .ro, 0x0, .block, .raw⟩,
  ⟨0x400c1000, 48, 0x40, 1, 0x4, 0, 7, .rwl, 0x7f, .block, .stream⟩,
  ⟨0x400c1000, 48, 0x40, 1, 0x4, 8, 7, .rwl, 0x7f, .block, .stream⟩,
  ⟨0x400c1000, 48, 0x40, 1, 0x4, 16, 2, .rwl, 0x2, .block, .raw⟩,
  ⟨0x400c1000, 48, 0x40, 1, 0x4, 18, 2, .rwl, 0x0, .block, .upTo 2⟩,
  ⟨0x400c1000, 48, 0x40, 1, 0x4, 20, 3, .rwl, 0x0, .block, .raw⟩,
  ⟨0x400c1000, 48, 0x40, 1, 0x4, 31, 1, .rwl, 0x0, .block, .raw⟩,
  ⟨0x400c1004, 48, 0x40, 1, 0x4, 0, 9, .rwl, 0x20, .block, .num 4 256⟩,
  ⟨0x400c1008, 48, 0x40, 1, 0x4, 0, 32, .rw, 0x3f800000, .block, .f32norm⟩,
  ⟨0x400c100c, 48, 0x40, 1, 0x4, 0, 32, .rw, 0x0, .block, .f32⟩,
  ⟨0x400c1010, 48, 0x40, 1, 0x4, 0, 2, .rwl, 0x1, .block, .upTo 2⟩,
  ⟨0x400c1010, 48, 0x40, 1, 0x4, 2, 6, .rwl, 0x8, .block, .num 4 32⟩,
  ⟨0x400c1010, 48, 0x40, 1, 0x4, 8, 3, .rwl, 0x0, .block, .raw⟩,
  ⟨0x400c1010, 48, 0x40, 1, 0x4, 11, 1, .rw, 0x0, .block, .raw⟩]

/-- Rows of the SDM registers, part 3 (R126). -/
def sdmRows3 : List FRow := [
  ⟨0x400c1010, 48, 0x40, 1, 0x4, 12, 1, .rw, 0x0, .block, .raw⟩,
  ⟨0x400c1014, 48, 0x40, 1, 0x4, 0, 32, .rw, 0x0, .block, .f32⟩,
  ⟨0x400c1018, 48, 0x40, 1, 0x4, 0, 32, .rw, 0x0, .block, .f32⟩,
  ⟨0x400c101c, 48, 0x40, 1, 0x4, 0, 32, .rw, 0x0, .block, .f32ge0⟩,
  ⟨0x400c1020, 48, 0x40, 1, 0x4, 0, 6, .rwl, 0x0, .block, .num 0 47⟩,
  ⟨0x400c1020, 48, 0x40, 1, 0x4, 6, 1, .rwl, 0x0, .block, .raw⟩,
  ⟨0x400c1020, 48, 0x40, 1, 0x4, 7, 1, .rwl, 0x0, .block, .raw⟩,
  ⟨0x400c1020, 48, 0x40, 1, 0x4, 8, 4, .rwl, 0x1, .block, .num 1 15⟩,
  ⟨0x400c1024, 48, 0x40, 1, 0x4, 0, 32, .rw, 0x0, .block, .f32⟩,
  ⟨0x400c1028, 48, 0x40, 1, 0x4, 0, 32, .rs, 0x0, .block, .raw⟩,
  ⟨0x400c102c, 48, 0x40, 1, 0x4, 0, 16, .ro, 0x0, .block, .raw⟩,
  ⟨0x400c102c, 48, 0x40, 1, 0x4, 16, 1, .ro, 0x0, .block, .raw⟩,
  ⟨0x400c102c, 48, 0x40, 1, 0x4, 17, 1, .ro, 0x0, .block, .raw⟩,
  ⟨0x400c102c, 48, 0x40, 1, 0x4, 18, 1, .ro, 0x0, .block, .raw⟩,
  ⟨0x400c102c, 48, 0x40, 1, 0x4, 19, 1, .ro, 0x0, .block, .raw⟩,
  ⟨0x400c102c, 48, 0x40, 1, 0x4, 20, 1, .ro, 0x0, .block, .raw⟩,
  ⟨0x400c102c, 48, 0x40, 1, 0x4, 21, 1, .ro, 0x0, .block, .raw⟩,
  ⟨0x400c102c, 48, 0x40, 1, 0x4, 22, 1, .ro, 0x0, .block, .raw⟩,
  ⟨0x400c1030, 48, 0x40, 1, 0x4, 0, 24, .ro, 0x0, .block, .raw⟩]

/-- Rows of the SDM registers. -/
def sdmRows : List FRow :=
  sdmRows1 ++ sdmRows2 ++ sdmRows3

/-- Rows of the POS registers, part 1 (R158). -/
def posRows1 : List FRow := [
  ⟨0x400e0000, 1, 0x10000, 1, 0x4, 0, 1, .ro, 0x0, .block, .raw⟩,
  ⟨0x400e0100, 4, 0x100, 1, 0x4, 0, 3, .rwl, 0x0, .block, .upTo 5⟩,
  ⟨0x400e0100, 4, 0x100, 1, 0x4, 4, 2, .rwl, 0x0, .block, .raw⟩,
  ⟨0x400e0100, 4, 0x100, 1, 0x4, 6, 1, .rwl, 0x1, .block, .raw⟩,
  ⟨0x400e0100, 4, 0x100, 1, 0x4, 7, 1, .rwl, 0x0, .block, .raw⟩,
  ⟨0x400e0100, 4, 0x100, 1, 0x4, 8, 1, .rwl, 0x0, .block, .raw⟩,
  ⟨0x400e0100, 4, 0x100, 1, 0x4, 9, 1, .rwl, 0x0, .block, .raw⟩,
  ⟨0x400e0100, 4, 0x100, 1, 0x4, 10, 1, .rwl, 0x0, .block, .raw⟩,
  ⟨0x400e0100, 4, 0x100, 1, 0x4, 12, 4, .rwl, 0x0, .block, .raw⟩,
  ⟨0x400e0100, 4, 0x100, 1, 0x4, 16, 3, .rwl, 0x0, .block, .raw⟩,
  ⟨0x400e0100, 4, 0x100, 1, 0x4, 31, 1, .rwl, 0x0, .block, .raw⟩,
  ⟨0x400e0104, 4, 0x100, 1, 0x4, 0, 20, .rwl, 0x400, .block, .num 1 1048575⟩,
  ⟨0x400e0108, 4, 0x100, 1, 0x4, 0, 32, .rw, 0x0, .block, .raw⟩,
  ⟨0x400e010c, 4, 0x100, 1, 0x4, 0, 4, .rw, 0x0, .block, .raw⟩,
  ⟨0x400e010c, 4, 0x100, 1, 0x4, 8, 8, .rw, 0xa, .block, .num 1 255⟩,
  ⟨0x400e0110, 4, 0x100, 1, 0x4, 0, 2, .rw, 0x1, .block, .raw⟩,
  ⟨0x400e0110, 4, 0x100, 1, 0x4, 2, 2, .rwl, 0x3, .block, .raw⟩,
  ⟨0x400e0110, 4, 0x100, 1, 0x4, 8, 8, .rw, 0x4, .block, .raw⟩,
  ⟨0x400e0114, 4, 0x100, 1, 0x4, 0, 8, .rw, 0x4, .block, .raw⟩,
  ⟨0x400e0114, 4, 0x100, 1, 0x4, 8, 8, .rw, 0xa, .block, .num 1 255⟩,
  ⟨0x400e0114, 4, 0x100, 1, 0x4, 16, 8, .rw, 0x5, .block, .num 1 255⟩,
  ⟨0x400e0114, 4, 0x100, 1, 0x4, 24, 4, .rw, 0x3, .block, .num 1 15⟩,
  ⟨0x400e0114, 4, 0x100, 1, 0x4, 28, 4, .rw, 0x4, .block, .num 1 15⟩,
  ⟨0x400e0118, 4, 0x100, 1, 0x4, 0, 12, .rw, 0x64, .block, .num 1 4095⟩]

/-- Rows of the POS registers, part 2 (R158). -/
def posRows2 : List FRow := [
  ⟨0x400e0118, 4, 0x100, 1, 0x4, 16, 8, .rw, 0x1, .block, .raw⟩,
  ⟨0x400e0118, 4, 0x100, 1, 0x4, 24, 6, .rwl, 0x0, .block, .raw⟩,
  ⟨0x400e0118, 4, 0x100, 1, 0x4, 30, 1, .rw, 0x0, .block, .raw⟩,
  ⟨0x400e0118, 4, 0x100, 1, 0x4, 31, 1, .rw, 0x0, .block, .raw⟩,
  ⟨0x400e011c, 4, 0x100, 1, 0x4, 0, 32, .rw, 0x0, .block, .f32ge0⟩,
  ⟨0x400e0120, 4, 0x100, 1, 0x4, 0, 6, .rwl, 0x0, .block, .raw⟩,
  ⟨0x400e0124, 4, 0x100, 1, 0x4, 0, 32, .rw, 0x43160000, .block, .f32⟩,
  ⟨0x400e0128, 4, 0x100, 1, 0x4, 0, 3, .rwl, 0x3, .block, .upTo 6⟩,
  ⟨0x400e0128, 4, 0x100, 1, 0x4, 3, 1, .rw, 0x1, .block, .raw⟩,
  ⟨0x400e0128, 4, 0x100, 1, 0x4, 4, 7, .rw, 0x28, .block, .num 10 70⟩,
  ⟨0x400e0128, 4, 0x100, 1, 0x4, 12, 4, .rwl, 0x1, .block, .num 1 15⟩,
  ⟨0x400e0128, 4, 0x100, 1, 0x4, 16, 7, .rw, 0x14, .block, .num 4 80⟩,
  ⟨0x400e012c, 4, 0x100, 1, 0x4, 0, 8, .rw, 0x40, .block, .raw⟩,
  ⟨0x400e012c, 4, 0x100, 1, 0x4, 8, 8, .rw, 0xf0, .block, .raw⟩,
  ⟨0x400e012c, 4, 0x100, 1, 0x4, 16, 8, .rw, 0x10, .block, .raw⟩,
  ⟨0x400e012c, 4, 0x100, 1, 0x4, 24, 8, .rw, 0x5, .block, .raw⟩,
  ⟨0x400e0130, 4, 0x100, 1, 0x4, 0, 16, .rw, 0x0, .block, .raw⟩,
  ⟨0x400e0134, 4, 0x100, 1, 0x4, 0, 10, .rwl, 0x9, .block, .num 4 499⟩,
  ⟨0x400e0134, 4, 0x100, 1, 0x4, 10, 6, .rwl, 0x11, .block, .num 8 32⟩,
  ⟨0x400e0134, 4, 0x100, 1, 0x4, 16, 5, .rwl, 0x0, .block, .num 0 24⟩,
  ⟨0x400e0134, 4, 0x100, 1, 0x4, 21, 2, .rwl, 0x2, .block, .num 0 2⟩,
  ⟨0x400e0134, 4, 0x100, 1, 0x4, 23, 1, .rwl, 0x0, .block, .raw⟩,
  ⟨0x400e0134, 4, 0x100, 1, 0x4, 24, 2, .rwl, 0x0, .block, .upTo 2⟩,
  ⟨0x400e0134, 4, 0x100, 1, 0x4, 26, 1, .rwl, 0x0, .block, .raw⟩]

/-- Rows of the POS registers, part 3 (R158). -/
def posRows3 : List FRow := [
  ⟨0x400e0134, 4, 0x100, 1, 0x4, 27, 1, .rw, 0x1, .block, .raw⟩,
  ⟨0x400e0138, 4, 0x100, 1, 0x4, 0, 5, .rwl, 0x6, .block, .num 0 16⟩,
  ⟨0x400e0138, 4, 0x100, 1, 0x4, 5, 1, .rwl, 0x1, .block, .raw⟩,
  ⟨0x400e0138, 4, 0x100, 1, 0x4, 16, 16, .rwl, 0x3, .block, .raw⟩,
  ⟨0x400e013c, 4, 0x100, 1, 0x4, 0, 16, .rwl, 0xc8, .block, .num 10 65535⟩,
  ⟨0x400e013c, 4, 0x100, 1, 0x4, 16, 8, .rwl, 0x14, .block, .num 1 255⟩,
  ⟨0x400e013c, 4, 0x100, 1, 0x4, 24, 8, .rwl, 0x0, .block, .raw⟩,
  ⟨0x400e0140, 4, 0x100, 1, 0x4, 0, 16, .rwl, 0x0, .block, .raw⟩,
  ⟨0x400e0144, 4, 0x100, 1, 0x4, 0, 4, .wo, 0x0, .warm, .raw⟩,
  ⟨0x400e0148, 4, 0x100, 1, 0x4, 0, 8, .ro, 0x0, .warm, .raw⟩,
  ⟨0x400e014c, 4, 0x100, 1, 0x4, 0, 32, .rw, 0x0, .block, .raw⟩,
  ⟨0x400e0150, 4, 0x100, 1, 0x4, 0, 16, .rw, 0x0, .block, .raw⟩,
  ⟨0x400e0154, 4, 0x100, 1, 0x4, 0, 32, .rs, 0x0, .block, .raw⟩,
  ⟨0x400e0158, 4, 0x100, 1, 0x4, 0, 32, .ro, 0x0, .block, .raw⟩,
  ⟨0x400e015c, 4, 0x100, 1, 0x4, 0, 32, .ro, 0x0, .block, .raw⟩,
  ⟨0x400e0160, 4, 0x100, 1, 0x4, 0, 16, .ro, 0x0, .block, .raw⟩,
  ⟨0x400e0164, 4, 0x100, 1, 0x4, 0, 32, .ro, 0x0, .block, .raw⟩,
  ⟨0x400e0168, 4, 0x100, 1, 0x4, 0, 1, .ro, 0x0, .block, .raw⟩,
  ⟨0x400e0168, 4, 0x100, 1, 0x4, 1, 1, .ro, 0x0, .block, .raw⟩,
  ⟨0x400e0168, 4, 0x100, 1, 0x4, 2, 1, .ro, 0x0, .block, .raw⟩,
  ⟨0x400e0168, 4, 0x100, 1, 0x4, 3, 1, .ro, 0x0, .block, .raw⟩,
  ⟨0x400e0168, 4, 0x100, 1, 0x4, 4, 1, .ro, 0x0, .block, .raw⟩,
  ⟨0x400e0168, 4, 0x100, 1, 0x4, 5, 3, .ro, 0x0, .block, .raw⟩,
  ⟨0x400e0168, 4, 0x100, 1, 0x4, 8, 3, .ro, 0x0, .block, .raw⟩]

/-- Rows of the POS registers, part 4 (R158). -/
def posRows4 : List FRow := [
  ⟨0x400e0168, 4, 0x100, 1, 0x4, 12, 4, .ro, 0x0, .block, .raw⟩,
  ⟨0x400e0168, 4, 0x100, 1, 0x4, 16, 4, .ro, 0x0, .block, .raw⟩,
  ⟨0x400e016c, 4, 0x100, 1, 0x4, 0, 32, .rw, 0x0, .block, .raw⟩,
  ⟨0x400e0170, 4, 0x100, 1, 0x4, 0, 16, .rw, 0x8000, .block, .raw⟩,
  ⟨0x400e0174, 4, 0x100, 1, 0x4, 0, 32, .rw, 0xffffffff, .block, .raw⟩,
  ⟨0x400e0178, 4, 0x100, 1, 0x4, 0, 16, .rw, 0x7fff, .block, .raw⟩,
  ⟨0x400e017c, 4, 0x100, 1, 0x4, 0, 16, .ro, 0x0, .block, .raw⟩,
  ⟨0x400e017c, 4, 0x100, 1, 0x4, 16, 16, .ro, 0x0, .block, .raw⟩,
  ⟨0x400e0180, 4, 0x100, 1, 0x4, 0, 32, .ro, 0x0, .block, .raw⟩,
  ⟨0x400e0184, 4, 0x100, 1, 0x4, 0, 32, .ro, 0x0, .block, .raw⟩]

/-- Rows of the POS registers. -/
def posRows : List FRow :=
  posRows1 ++ posRows2 ++ posRows3 ++ posRows4

/-- Rows of the CARVE registers, part 1 (R180). -/
def carveRows1 : List FRow := [
  ⟨0x400f0000, 1, 0x10000, 1, 0x4, 0, 1, .ro, 0x0, .block, .raw⟩,
  ⟨0x400f0004, 1, 0x10000, 1, 0x4, 0, 1, .ro, 0x0, .warm, .raw⟩,
  ⟨0x400f0004, 1, 0x10000, 1, 0x4, 1, 3, .ro, 0x0, .warm, .raw⟩,
  ⟨0x400f0004, 1, 0x10000, 1, 0x4, 8, 8, .ro, 0x0, .warm, .raw⟩,
  ⟨0x400f0008, 1, 0x10000, 1, 0x4, 0, 13, .ro, 0x0, .system, .raw⟩,
  ⟨0x400f0008, 1, 0x10000, 1, 0x4, 16, 15, .ro, 0x0, .system, .raw⟩,
  ⟨0x400f0100, 8, 0x20, 1, 0x4, 0, 2, .rwl, 0x0, .block, .raw⟩,
  ⟨0x400f0100, 8, 0x20, 1, 0x4, 16, 16, .rwl, 0xffff, .block, .raw⟩,
  ⟨0x400f0104, 8, 0x20, 1, 0x4, 0, 16, .ro, 0x0, .block, .raw⟩,
  ⟨0x400f0104, 8, 0x20, 1, 0x4, 16, 16, .ro, 0x0, .block, .raw⟩,
  ⟨0x400f0108, 8, 0x20, 1, 0x4, 0, 32, .ro, 0x0, .block, .raw⟩,
  ⟨0x400f010c, 8, 0x20, 1, 0x4, 0, 16, .ro, 0x0, .block, .raw⟩,
  ⟨0x400f010c, 8, 0x20, 1, 0x4, 16, 16, .ro, 0x0, .block, .raw⟩,
  ⟨0x400f0110, 8, 0x20, 1, 0x4, 0, 16, .ro, 0x0, .block, .raw⟩,
  ⟨0x400f0110, 8, 0x20, 1, 0x4, 16, 16, .ro, 0x0, .block, .raw⟩,
  ⟨0x400f0114, 8, 0x20, 1, 0x4, 0, 32, .ro, 0x0, .block, .raw⟩,
  ⟨0x400f0118, 8, 0x20, 1, 0x4, 0, 4, .wo, 0x0, .warm, .raw⟩,
  ⟨0x400f011c, 8, 0x20, 1, 0x4, 0, 8, .ro, 0x0, .warm, .raw⟩,
  ⟨0x400f011c, 8, 0x20, 1, 0x4, 8, 1, .ro, 0x0, .warm, .raw⟩,
  ⟨0x400f1000, 256, 0x4, 1, 0x4, 0, 32, .rw, 0x0, .block, .f32⟩,
  ⟨0x400f2000, 4, 0x100, 64, 0x4, 0, 32, .ro, 0x0, .warm, .raw⟩,
  ⟨0x400f3000, 4, 0x100, 64, 0x4, 0, 32, .rs, 0x0, .warm, .raw⟩,
  ⟨0x400f4000, 4, 0x100, 64, 0x4, 0, 16, .ro, 0x0, .warm, .raw⟩,
  ⟨0x400f4000, 4, 0x100, 64, 0x4, 16, 1, .ro, 0x0, .warm, .raw⟩]

/-- Rows of the CARVE registers, part 2 (R180). -/
def carveRows2 : List FRow := [
  ⟨0x400f4000, 4, 0x100, 64, 0x4, 17, 1, .ro, 0x0, .warm, .raw⟩,
  ⟨0x400f4000, 4, 0x100, 64, 0x4, 18, 1, .ro, 0x0, .warm, .raw⟩,
  ⟨0x400f4000, 4, 0x100, 64, 0x4, 19, 1, .ro, 0x0, .warm, .raw⟩]

/-- Rows of the CARVE registers. -/
def carveRows : List FRow :=
  carveRows1 ++ carveRows2

/-- Rows of the PROF registers, part 1 (R213). -/
def profRows1 : List FRow := [
  ⟨0x40110000, 1, 0x10000, 1, 0x4, 0, 1, .ro, 0x0, .block, .raw⟩,
  ⟨0x40110100, 4, 0x40, 1, 0x4, 0, 3, .rwl, 0x0, .block, .raw⟩,
  ⟨0x40110100, 4, 0x40, 1, 0x4, 3, 1, .rwl, 0x0, .block, .raw⟩,
  ⟨0x40110100, 4, 0x40, 1, 0x4, 31, 1, .rwl, 0x0, .block, .raw⟩,
  ⟨0x40110104, 4, 0x40, 1, 0x4, 0, 32, .rw, 0x0, .block, .f32⟩,
  ⟨0x40110108, 4, 0x40, 1, 0x4, 0, 32, .rw, 0x0, .block, .f32ge0n⟩,
  ⟨0x4011010c, 4, 0x40, 1, 0x4, 0, 32, .rw, 0x3f800000, .block, .f32gt0⟩,
  ⟨0x40110110, 4, 0x40, 1, 0x4, 0, 32, .rw, 0x3f800000, .block, .f32gt0⟩,
  ⟨0x40110114, 4, 0x40, 1, 0x4, 0, 32, .rw, 0x0, .block, .f32⟩,
  ⟨0x40110118, 4, 0x40, 1, 0x4, 0, 32, .rw, 0x3f800000, .block, .f32gt0⟩,
  ⟨0x4011011c, 4, 0x40, 1, 0x4, 0, 32, .rw, 0x3f800000, .block, .f32gt0⟩,
  ⟨0x40110120, 4, 0x40, 1, 0x4, 0, 32, .rs, 0x0, .block, .raw⟩,
  ⟨0x40110124, 4, 0x40, 1, 0x4, 0, 32, .ro, 0x0, .block, .raw⟩,
  ⟨0x40110128, 4, 0x40, 1, 0x4, 0, 1, .ro, 0x0, .block, .raw⟩,
  ⟨0x40110128, 4, 0x40, 1, 0x4, 1, 1, .ro, 0x0, .block, .raw⟩,
  ⟨0x40110128, 4, 0x40, 1, 0x4, 2, 1, .ro, 0x0, .block, .raw⟩,
  ⟨0x40110128, 4, 0x40, 1, 0x4, 3, 1, .ro, 0x0, .block, .raw⟩,
  ⟨0x40110128, 4, 0x40, 1, 0x4, 4, 1, .ro, 0x0, .block, .raw⟩,
  ⟨0x40110128, 4, 0x40, 1, 0x4, 5, 1, .ro, 0x0, .block, .raw⟩,
  ⟨0x4011012c, 4, 0x40, 1, 0x4, 0, 32, .ro, 0x0, .block, .raw⟩,
  ⟨0x40110130, 4, 0x40, 1, 0x4, 0, 4, .wo, 0x0, .warm, .raw⟩,
  ⟨0x40110134, 4, 0x40, 1, 0x4, 0, 8, .ro, 0x0, .warm, .raw⟩]

/-- Rows of the PROF registers. -/
def profRows : List FRow :=
  profRows1

/-- Rows of the SLALOM registers, part 1 (R215). -/
def slalomRows1 : List FRow := [
  ⟨0x40100000, 1, 0x10000, 1, 0x4, 0, 1, .ro, 0x0, .block, .raw⟩,
  ⟨0x40100100, 4, 0x100, 1, 0x4, 0, 1, .rwl, 0x0, .block, .raw⟩,
  ⟨0x40100100, 4, 0x100, 1, 0x4, 1, 1, .rwl, 0x0, .block, .raw⟩,
  ⟨0x40100100, 4, 0x100, 1, 0x4, 2, 1, .rwl, 0x0, .block, .raw⟩,
  ⟨0x40100100, 4, 0x100, 1, 0x4, 3, 1, .rwl, 0x0, .block, .raw⟩,
  ⟨0x40100100, 4, 0x100, 1, 0x4, 4, 2, .rwl, 0x2, .block, .upTo 2⟩,
  ⟨0x40100100, 4, 0x100, 1, 0x4, 8, 4, .rwl, 0x0, .block, .num 0 9⟩,
  ⟨0x40100100, 4, 0x100, 1, 0x4, 12, 4, .rwl, 0x4, .block, .num 1 15⟩,
  ⟨0x40100100, 4, 0x100, 1, 0x4, 31, 1, .rwl, 0x0, .block, .raw⟩,
  ⟨0x40100104, 4, 0x100, 1, 0x4, 0, 32, .rw, 0x7f7fffff, .block, .f32⟩,
  ⟨0x40100108, 4, 0x100, 1, 0x4, 0, 32, .rw, 0x7f7fffff, .block, .f32⟩,
  ⟨0x4010010c, 4, 0x100, 1, 0x4, 0, 32, .rw, 0x42c80000, .block, .f32ge0⟩,
  ⟨0x40100110, 4, 0x100, 1, 0x4, 0, 32, .rw, 0x3ca3d70a, .block, .f32rng 0 0x3D4CCCCD⟩,
  ⟨0x40100114, 4, 0x100, 1, 0x4, 0, 32, .rw, 0x42c80000, .block, .f32gt0⟩,
  ⟨0x40100118, 4, 0x100, 1, 0x4, 0, 32, .rw, 0x0, .block, .f32⟩,
  ⟨0x4010011c, 4, 0x100, 1, 0x4, 0, 32, .rw, 0x0, .block, .f32rng 0 0x3E4CCCCD⟩,
  ⟨0x40100120, 4, 0x100, 1, 0x4, 0, 32, .rw, 0x42c80000, .block, .f32gt0⟩,
  ⟨0x40100124, 4, 0x100, 1, 0x4, 0, 8, .rw, 0x14, .block, .num 1 255⟩,
  ⟨0x40100128, 4, 0x100, 1, 0x4, 0, 32, .rw, 0x40a00000, .block, .f32⟩,
  ⟨0x4010012c, 4, 0x100, 1, 0x4, 0, 32, .rw, 0x41200000, .block, .f32⟩,
  ⟨0x40100130, 4, 0x100, 1, 0x4, 0, 3, .ro, 0x0, .warm, .raw⟩,
  ⟨0x40100130, 4, 0x100, 1, 0x4, 3, 3, .ro, 0x0, .warm, .raw⟩,
  ⟨0x40100130, 4, 0x100, 1, 0x4, 6, 1, .ro, 0x0, .warm, .raw⟩,
  ⟨0x40100130, 4, 0x100, 1, 0x4, 7, 1, .ro, 0x0, .warm, .raw⟩]

/-- Rows of the SLALOM registers, part 2 (R215). -/
def slalomRows2 : List FRow := [
  ⟨0x40100134, 4, 0x100, 1, 0x4, 0, 32, .ro, 0x0, .warm, .raw⟩,
  ⟨0x40100138, 4, 0x100, 1, 0x4, 0, 32, .ro, 0x0, .warm, .raw⟩,
  ⟨0x4010013c, 4, 0x100, 1, 0x4, 0, 3, .rs, 0x0, .warm, .raw⟩,
  ⟨0x4010013c, 4, 0x100, 1, 0x4, 3, 1, .ro, 0x0, .warm, .raw⟩,
  ⟨0x4010013c, 4, 0x100, 1, 0x4, 4, 2, .ro, 0x0, .warm, .raw⟩,
  ⟨0x4010013c, 4, 0x100, 1, 0x4, 16, 16, .ro, 0x0, .warm, .raw⟩,
  ⟨0x40100140, 4, 0x100, 1, 0x4, 0, 32, .ro, 0x0, .warm, .raw⟩,
  ⟨0x40100144, 4, 0x100, 1, 0x4, 0, 32, .ro, 0x0, .warm, .raw⟩,
  ⟨0x40100148, 4, 0x100, 1, 0x4, 0, 4, .wo, 0x0, .warm, .raw⟩,
  ⟨0x4010014c, 4, 0x100, 1, 0x4, 0, 8, .ro, 0x0, .warm, .raw⟩,
  ⟨0x40100180, 4, 0x100, 32, 0x4, 0, 16, .rw, 0x0, .block, .raw⟩,
  ⟨0x40100180, 4, 0x100, 32, 0x4, 16, 16, .rw, 0x0, .block, .raw⟩]

/-- Rows of the SLALOM registers. -/
def slalomRows : List FRow :=
  slalomRows1 ++ slalomRows2

/-- Rows of the PWM registers, part 1 (R250). -/
def pwmRows1 : List FRow := [
  ⟨0x400a0000, 1, 0x10000, 1, 0x4, 0, 1, .ro, 0x0, .block, .raw⟩,
  ⟨0x400a0004, 1, 0x10000, 1, 0x4, 0, 1, .rwl, 0x0, .block, .raw⟩,
  ⟨0x400a0004, 1, 0x10000, 1, 0x4, 8, 8, .rw, 0x4, .block, .raw⟩,
  ⟨0x400a0004, 1, 0x10000, 1, 0x4, 16, 8, .rw, 0xa, .block, .num 1 255⟩,
  ⟨0x400a0008, 1, 0x10000, 1, 0x4, 0, 1, .w1s, 0x0, .warm, .raw⟩,
  ⟨0x400a000c, 1, 0x10000, 1, 0x4, 0, 32, .ro, 0x0, .warm, .raw⟩,
  ⟨0x400a0010, 1, 0x10000, 1, 0x4, 0, 4, .wo, 0x0, .warm, .raw⟩,
  ⟨0x400a0014, 1, 0x10000, 1, 0x4, 0, 8, .ro, 0x0, .warm, .raw⟩,
  ⟨0x400a0100, 1, 0x10000, 1, 0x4, 0, 16, .ro, 0x0, .warm, .raw⟩,
  ⟨0x400a0100, 1, 0x10000, 1, 0x4, 16, 4, .ro, 0x0, .warm, .raw⟩,
  ⟨0x400a0100, 1, 0x10000, 1, 0x4, 20, 1, .ro, 0x0, .warm, .raw⟩,
  ⟨0x400a0104, 1, 0x10000, 1, 0x4, 0, 16, .rwl, 0xffff, .block, .raw⟩,
  ⟨0x400a0108, 1, 0x10000, 1, 0x4, 0, 16, .wo, 0x0, .warm, .raw⟩,
  ⟨0x400a010c, 1, 0x10000, 1, 0x4, 0, 8, .ro, 0x0, .system, .raw⟩,
  ⟨0x400a0110, 4, 0x4, 1, 0x4, 0, 2, .ro, 0x0, .warm, .raw⟩,
  ⟨0x400a0110, 4, 0x4, 1, 0x4, 2, 2, .ro, 0x0, .warm, .raw⟩,
  ⟨0x400a0200, 16, 0x10, 1, 0x4, 0, 1, .rwl, 0x0, .block, .raw⟩,
  ⟨0x400a0200, 16, 0x10, 1, 0x4, 1, 1, .rwl, 0x0, .block, .raw⟩,
  ⟨0x400a0200, 16, 0x10, 1, 0x4, 2, 8, .rwl, 0x0, .block, .raw⟩,
  ⟨0x400a0200, 16, 0x10, 1, 0x4, 10, 5, .rwl, 0x0, .block, .raw⟩,
  ⟨0x400a0200, 16, 0x10, 1, 0x4, 15, 2, .rwl, 0x0, .block, .raw⟩,
  ⟨0x400a0200, 16, 0x10, 1, 0x4, 17, 10, .rwl, 0x0, .block, .raw⟩,
  ⟨0x400a0204, 16, 0x10, 1, 0x4, 0, 1, .ro, 0x0, .block, .raw⟩,
  ⟨0x400a0204, 16, 0x10, 1, 0x4, 1, 1, .ro, 0x0, .block, .raw⟩]

/-- Rows of the PWM registers, part 2 (R250). -/
def pwmRows2 : List FRow := [
  ⟨0x400a0204, 16, 0x10, 1, 0x4, 16, 16, .ro, 0x0, .block, .raw⟩,
  ⟨0x400a0208, 16, 0x10, 1, 0x4, 0, 2, .wo, 0x0, .warm, .raw⟩,
  ⟨0x400a020c, 16, 0x10, 1, 0x4, 0, 8, .ro, 0x0, .warm, .raw⟩,
  ⟨0x400a1000, 32, 0x80, 1, 0x4, 0, 2, .rwl, 0x0, .block, .upTo 2⟩,
  ⟨0x400a1000, 32, 0x80, 1, 0x4, 2, 1, .rwl, 0x0, .block, .raw⟩,
  ⟨0x400a1000, 32, 0x80, 1, 0x4, 3, 1, .rwl, 0x0, .block, .raw⟩,
  ⟨0x400a1000, 32, 0x80, 1, 0x4, 4, 1, .rwl, 0x0, .block, .raw⟩,
  ⟨0x400a1004, 32, 0x80, 1, 0x4, 0, 21, .rw, 0x7a12, .block, .raw⟩,
  ⟨0x400a1008, 32, 0x80, 4, 0x4, 0, 21, .rw, 0x0, .block, .raw⟩,
  ⟨0x400a1008, 32, 0x80, 4, 0x4, 24, 5, .rw, 0x0, .block, .raw⟩,
  ⟨0x400a1018, 32, 0x80, 1, 0x4, 0, 16, .rw, 0x0, .block, .raw⟩,
  ⟨0x400a1018, 32, 0x80, 1, 0x4, 16, 16, .rw, 0x0, .block, .raw⟩,
  ⟨0x400a101c, 32, 0x80, 1, 0x4, 0, 21, .rw, 0x0, .block, .raw⟩,
  ⟨0x400a1020, 32, 0x80, 1, 0x4, 0, 2, .wo, 0x0, .warm, .raw⟩,
  ⟨0x400a1024, 32, 0x80, 1, 0x4, 0, 7, .rw, 0x3, .block, .raw⟩,
  ⟨0x400a1028, 32, 0x80, 1, 0x4, 0, 16, .rw, 0x0, .block, .raw⟩,
  ⟨0x400a1028, 32, 0x80, 1, 0x4, 16, 1, .rw, 0x0, .block, .raw⟩,
  ⟨0x400a102c, 32, 0x80, 1, 0x4, 0, 24, .rw, 0x0, .block, .raw⟩,
  ⟨0x400a1030, 32, 0x80, 1, 0x4, 0, 6, .rw, 0x0, .block, .raw⟩,
  ⟨0x400a1030, 32, 0x80, 1, 0x4, 8, 6, .rw, 0x0, .block, .raw⟩,
  ⟨0x400a1034, 32, 0x80, 1, 0x4, 0, 7, .ro, 0x0, .warm, .raw⟩,
  ⟨0x400a1034, 32, 0x80, 1, 0x4, 7, 1, .ro, 0x0, .warm, .raw⟩,
  ⟨0x400a1034, 32, 0x80, 1, 0x4, 8, 2, .ro, 0x0, .warm, .raw⟩,
  ⟨0x400a1034, 32, 0x80, 1, 0x4, 10, 1, .ro, 0x0, .warm, .raw⟩]

/-- Rows of the PWM registers, part 3 (R250). -/
def pwmRows3 : List FRow := [
  ⟨0x400a1034, 32, 0x80, 1, 0x4, 11, 1, .ro, 0x0, .warm, .raw⟩,
  ⟨0x400a1034, 32, 0x80, 1, 0x4, 12, 2, .ro, 0x0, .warm, .raw⟩,
  ⟨0x400a1034, 32, 0x80, 1, 0x4, 14, 1, .ro, 0x0, .warm, .raw⟩,
  ⟨0x400a1034, 32, 0x80, 1, 0x4, 15, 1, .ro, 0x0, .warm, .raw⟩,
  ⟨0x400a1034, 32, 0x80, 1, 0x4, 16, 1, .ro, 0x0, .warm, .raw⟩,
  ⟨0x400a1038, 32, 0x80, 1, 0x4, 0, 21, .ro, 0x0, .warm, .raw⟩,
  ⟨0x400a1038, 32, 0x80, 1, 0x4, 31, 1, .ro, 0x0, .warm, .raw⟩,
  ⟨0x400a103c, 32, 0x80, 1, 0x4, 0, 16, .ro, 0x0, .block, .raw⟩,
  ⟨0x400a103c, 32, 0x80, 1, 0x4, 16, 16, .ro, 0x0, .block, .raw⟩,
  ⟨0x400a1040, 32, 0x80, 1, 0x4, 0, 16, .ro, 0x0, .block, .raw⟩,
  ⟨0x400a1040, 32, 0x80, 1, 0x4, 16, 16, .ro, 0x0, .block, .raw⟩,
  ⟨0x400a1044, 32, 0x80, 1, 0x4, 0, 32, .ro, 0x0, .block, .raw⟩,
  ⟨0x400a1048, 32, 0x80, 1, 0x4, 0, 1, .rw, 0x1, .block, .raw⟩,
  ⟨0x400a1048, 32, 0x80, 1, 0x4, 1, 1, .ro, 0x1, .block, .raw⟩,
  ⟨0x400a1050, 32, 0x80, 1, 0x4, 0, 32, .ro, 0x7a12, .block, .raw⟩,
  ⟨0x400a1054, 32, 0x80, 6, 0x4, 0, 32, .ro, 0x0, .block, .raw⟩]

/-- Rows of the PWM registers. -/
def pwmRows : List FRow :=
  pwmRows1 ++ pwmRows2 ++ pwmRows3

/-- Rows of the EDGE registers, part 1 (R278). -/
def edgeRows1 : List FRow := [
  ⟨0x400b0000, 64, 0x400, 1, 0x4, 0, 5, .ro, 0x0, .system, .raw⟩,
  ⟨0x400b0000, 64, 0x400, 1, 0x4, 5, 1, .ro, 0x0, .system, .raw⟩,
  ⟨0x400b0000, 64, 0x400, 1, 0x4, 8, 6, .ro, 0x0, .system, .raw⟩,
  ⟨0x400b0000, 64, 0x400, 1, 0x4, 14, 1, .ro, 0x0, .system, .raw⟩,
  ⟨0x400b0000, 64, 0x400, 1, 0x4, 15, 1, .ro, 0x0, .system, .raw⟩,
  ⟨0x400b0000, 64, 0x400, 1, 0x4, 16, 2, .ro, 0x0, .system, .raw⟩,
  ⟨0x400b0000, 64, 0x400, 1, 0x4, 20, 4, .ro, 0x0, .system, .raw⟩,
  ⟨0x400b0000, 64, 0x400, 1, 0x4, 31, 1, .ro, 0x0, .system, .raw⟩,
  ⟨0x400b0004, 64, 0x400, 1, 0x4, 0, 7, .ro, 0x0, .system, .raw⟩,
  ⟨0x400b0004, 64, 0x400, 1, 0x4, 8, 7, .ro, 0x0, .system, .raw⟩,
  ⟨0x400b0004, 64, 0x400, 1, 0x4, 16, 16, .ro, 0x0, .system, .raw⟩,
  ⟨0x400b0008, 64, 0x400, 1, 0x4, 0, 3, .ro, 0x0, .system, .raw⟩,
  ⟨0x400b0008, 64, 0x400, 1, 0x4, 3, 2, .ro, 0x0, .system, .raw⟩,
  ⟨0x400b0008, 64, 0x400, 1, 0x4, 5, 1, .ro, 0x0, .system, .raw⟩,
  ⟨0x400b0008, 64, 0x400, 1, 0x4, 6, 1, .ro, 0x0, .system, .raw⟩,
  ⟨0x400b0008, 64, 0x400, 1, 0x4, 7, 1, .ro, 0x0, .system, .raw⟩,
  ⟨0x400b0008, 64, 0x400, 1, 0x4, 8, 1, .ro, 0x0, .system, .raw⟩,
  ⟨0x400b000c, 64, 0x400, 1, 0x4, 0, 19, .w1c, 0x0, .warm, .raw⟩,
  ⟨0x400b0010, 64, 0x400, 1, 0x4, 0, 3, .rw, 0x7, .block, .raw⟩,
  ⟨0x400b0010, 64, 0x400, 1, 0x4, 4, 3, .rw, 0x7, .block, .raw⟩,
  ⟨0x400b0010, 64, 0x400, 1, 0x4, 8, 1, .rw, 0x1, .block, .raw⟩,
  ⟨0x400b0014, 64, 0x400, 1, 0x4, 0, 12, .rw, 0x9c4, .block, .num 100 3000⟩,
  ⟨0x400b0014, 64, 0x400, 1, 0x4, 16, 12, .rw, 0x7d0, .block, .num 100 3000⟩,
  ⟨0x400b0018, 64, 0x400, 1, 0x4, 0, 8, .rw, 0x64, .block, .num 20 250⟩]

/-- Rows of the EDGE registers, part 2 (R278). -/
def edgeRows2 : List FRow := [
  ⟨0x400b0018, 64, 0x400, 1, 0x4, 8, 8, .rw, 0x28, .block, .num 4 128⟩,
  ⟨0x400b0018, 64, 0x400, 1, 0x4, 16, 3, .rw, 0x1, .block, .raw⟩,
  ⟨0x400b0018, 64, 0x400, 1, 0x4, 20, 4, .rw, 0x6, .block, .raw⟩,
  ⟨0x400b0018, 64, 0x400, 1, 0x4, 24, 8, .rw, 0x28, .block, .num 4 255⟩,
  ⟨0x400b001c, 64, 0x400, 1, 0x4, 0, 12, .rw, 0x258, .block, .num 100 2400⟩,
  ⟨0x400b001c, 64, 0x400, 1, 0x4, 16, 12, .rw, 0x1f4, .block, .num 100 2400⟩,
  ⟨0x400b0020, 64, 0x400, 1, 0x4, 0, 16, .rs, 0x0, .warm, .raw⟩,
  ⟨0x400b0020, 64, 0x400, 1, 0x4, 16, 16, .ro, 0x0, .warm, .raw⟩,
  ⟨0x400b0024, 64, 0x400, 1, 0x4, 0, 16, .ro, 0x0, .warm, .raw⟩,
  ⟨0x400b0024, 64, 0x400, 1, 0x4, 16, 16, .ro, 0x0, .warm, .raw⟩,
  ⟨0x400b0028, 64, 0x400, 1, 0x4, 0, 16, .ro, 0x0, .warm, .raw⟩,
  ⟨0x400b0028, 64, 0x400, 1, 0x4, 16, 16, .ro, 0x0, .warm, .raw⟩,
  ⟨0x400b002c, 64, 0x400, 1, 0x4, 0, 16, .ro, 0x0, .warm, .raw⟩,
  ⟨0x400b002c, 64, 0x400, 1, 0x4, 16, 16, .ro, 0x0, .warm, .raw⟩,
  ⟨0x400b0030, 64, 0x400, 1, 0x4, 0, 12, .ro, 0x0, .warm, .raw⟩,
  ⟨0x400b0030, 64, 0x400, 1, 0x4, 12, 1, .ro, 0x0, .warm, .raw⟩,
  ⟨0x400b0030, 64, 0x400, 1, 0x4, 16, 16, .ro, 0x0, .warm, .raw⟩,
  ⟨0x400b0038, 64, 0x400, 1, 0x4, 0, 16, .ro, 0x0, .block, .raw⟩,
  ⟨0x400b0038, 64, 0x400, 1, 0x4, 16, 16, .ro, 0x0, .block, .raw⟩,
  ⟨0x400b003c, 64, 0x400, 1, 0x4, 0, 8, .ro, 0x0, .block, .raw⟩,
  ⟨0x400b003c, 64, 0x400, 1, 0x4, 8, 8, .ro, 0x0, .block, .raw⟩,
  ⟨0x400b0044, 64, 0x400, 1, 0x4, 0, 6, .ro, 0x20, .system, .raw⟩,
  ⟨0x400b0044, 64, 0x400, 1, 0x4, 16, 16, .ro, 0x0, .system, .raw⟩,
  ⟨0x400b0048, 64, 0x400, 1, 0x4, 0, 4, .wo, 0x0, .warm, .raw⟩]

/-- Rows of the EDGE registers, part 3 (R278). -/
def edgeRows3 : List FRow := [
  ⟨0x400b004c, 64, 0x400, 1, 0x4, 0, 8, .ro, 0x0, .warm, .raw⟩,
  ⟨0x400b004c, 64, 0x400, 1, 0x4, 8, 1, .ro, 0x0, .warm, .raw⟩,
  ⟨0x400b0050, 64, 0x400, 1, 0x4, 0, 3, .wo, 0x0, .warm, .raw⟩,
  ⟨0x400b0050, 64, 0x400, 1, 0x4, 4, 2, .wo, 0x0, .warm, .raw⟩,
  ⟨0x400b0054, 64, 0x400, 1, 0x4, 0, 8, .ro, 0x0, .warm, .raw⟩]

/-- Rows of the EDGE registers. -/
def edgeRows : List FRow :=
  edgeRows1 ++ edgeRows2 ++ edgeRows3

/-- Rows of the DRIVE registers, part 1 (R334). -/
def driveRows1 : List FRow := [
  ⟨0x40120000, 1, 0x10000, 1, 0x4, 0, 1, .ro, 0x0, .block, .raw⟩,
  ⟨0x40120004, 1, 0x10000, 1, 0x4, 0, 1, .rwl, 0x0, .block, .raw⟩,
  ⟨0x40120004, 1, 0x10000, 1, 0x4, 8, 8, .rw, 0xa, .block, .num 1 255⟩,
  ⟨0x40120004, 1, 0x10000, 1, 0x4, 16, 16, .rw, 0x64, .block, .num 10 10000⟩,
  ⟨0x40120008, 1, 0x10000, 1, 0x4, 0, 12, .rw, 0x14, .block, .raw⟩,
  ⟨0x40120008, 1, 0x10000, 1, 0x4, 16, 12, .rw, 0x5, .block, .raw⟩,
  ⟨0x4012000c, 1, 0x10000, 1, 0x4, 0, 12, .rw, 0x64, .block, .raw⟩,
  ⟨0x40120010, 1, 0x10000, 1, 0x4, 0, 1, .ro, 0x0, .warm, .raw⟩,
  ⟨0x40120010, 1, 0x10000, 1, 0x4, 1, 1, .ro, 0x0, .warm, .raw⟩,
  ⟨0x40120010, 1, 0x10000, 1, 0x4, 2, 1, .ro, 0x0, .warm, .raw⟩,
  ⟨0x40120010, 1, 0x10000, 1, 0x4, 16, 16, .ro, 0x0, .warm, .raw⟩,
  ⟨0x40120100, 4, 0x80, 1, 0x4, 0, 2, .rwl, 0x2, .block, .upTo 2⟩,
  ⟨0x40120100, 4, 0x80, 1, 0x4, 2, 1, .rwl, 0x0, .block, .raw⟩,
  ⟨0x40120100, 4, 0x80, 1, 0x4, 3, 1, .rwl, 0x0, .block, .raw⟩,
  ⟨0x40120100, 4, 0x80, 1, 0x4, 4, 6, .rwl, 0x0, .block, .raw⟩,
  ⟨0x40120100, 4, 0x80, 1, 0x4, 10, 6, .rwl, 0x0, .block, .raw⟩,
  ⟨0x40120100, 4, 0x80, 1, 0x4, 16, 4, .rwl, 0x0, .block, .num 0 12⟩,
  ⟨0x40120100, 4, 0x80, 1, 0x4, 20, 3, .rwl, 0x0, .block, .raw⟩,
  ⟨0x40120104, 4, 0x80, 1, 0x4, 0, 8, .rwl, 0x0, .block, .raw⟩,
  ⟨0x40120104, 4, 0x80, 1, 0x4, 8, 8, .rwl, 0x0, .block, .raw⟩,
  ⟨0x40120104, 4, 0x80, 1, 0x4, 16, 1, .rwl, 0x0, .block, .raw⟩,
  ⟨0x40120104, 4, 0x80, 1, 0x4, 17, 1, .rwl, 0x0, .block, .raw⟩,
  ⟨0x40120108, 4, 0x80, 1, 0x4, 0, 4, .ro, 0x0, .warm, .raw⟩,
  ⟨0x40120108, 4, 0x80, 1, 0x4, 4, 4, .ro, 0x0, .warm, .raw⟩]

/-- Rows of the DRIVE registers, part 2 (R334). -/
def driveRows2 : List FRow := [
  ⟨0x40120108, 4, 0x80, 1, 0x4, 8, 3, .ro, 0x0, .warm, .raw⟩,
  ⟨0x40120108, 4, 0x80, 1, 0x4, 11, 1, .ro, 0x0, .warm, .raw⟩,
  ⟨0x40120108, 4, 0x80, 1, 0x4, 12, 3, .ro, 0x0, .warm, .raw⟩,
  ⟨0x40120108, 4, 0x80, 1, 0x4, 15, 2, .ro, 0x0, .warm, .raw⟩,
  ⟨0x40120108, 4, 0x80, 1, 0x4, 17, 2, .ro, 0x0, .warm, .raw⟩,
  ⟨0x4012010c, 4, 0x80, 1, 0x4, 0, 32, .ro, 0x0, .warm, .raw⟩,
  ⟨0x40120110, 4, 0x80, 1, 0x4, 0, 4, .wo, 0x0, .warm, .raw⟩,
  ⟨0x40120114, 4, 0x80, 1, 0x4, 0, 8, .ro, 0x0, .warm, .raw⟩,
  ⟨0x40120118, 4, 0x80, 1, 0x4, 0, 4, .rw, 0x4, .block, .num 1 15⟩,
  ⟨0x4012011c, 4, 0x80, 1, 0x4, 0, 32, .rw, 0x7f7fffff, .block, .f32gt0⟩,
  ⟨0x40120120, 4, 0x80, 1, 0x4, 0, 32, .rw, 0x3f800000, .block, .f32⟩,
  ⟨0x40120124, 4, 0x80, 1, 0x4, 0, 8, .rw, 0x64, .block, .num 1 255⟩,
  ⟨0x40120124, 4, 0x80, 1, 0x4, 8, 4, .rw, 0x2, .block, .num 1 15⟩,
  ⟨0x40120124, 4, 0x80, 1, 0x4, 16, 16, .rw, 0x0, .block, .raw⟩,
  ⟨0x40120128, 4, 0x80, 1, 0x4, 0, 4, .rw, 0x3, .block, .num 1 15⟩,
  ⟨0x40120128, 4, 0x80, 1, 0x4, 8, 8, .rw, 0xa, .block, .num 1 50⟩,
  ⟨0x4012012c, 4, 0x80, 1, 0x4, 0, 32, .rw, 0x0, .block, .f32ge0⟩,
  ⟨0x40120130, 4, 0x80, 1, 0x4, 0, 32, .rw, 0x3a83126f, .block, .f32gt0⟩,
  ⟨0x40120134, 4, 0x80, 1, 0x4, 0, 32, .rw, 0x0, .block, .f32⟩,
  ⟨0x40120138, 4, 0x80, 1, 0x4, 0, 32, .rw, 0x41200000, .block, .f32ge0⟩,
  ⟨0x4012013c, 4, 0x80, 1, 0x4, 0, 32, .rw, 0x42c80000, .block, .f32gt0⟩,
  ⟨0x40120140, 4, 0x80, 1, 0x4, 0, 8, .ro, 0x0, .block, .raw⟩,
  ⟨0x40120140, 4, 0x80, 1, 0x4, 8, 8, .ro, 0x0, .block, .raw⟩,
  ⟨0x40120140, 4, 0x80, 1, 0x4, 16, 8, .ro, 0x0, .block, .raw⟩]

/-- Rows of the DRIVE registers, part 3 (R334). -/
def driveRows3 : List FRow := [
  ⟨0x40120140, 4, 0x80, 1, 0x4, 24, 8, .ro, 0x0, .block, .raw⟩,
  ⟨0x40120144, 4, 0x80, 1, 0x4, 0, 2, .ro, 0x0, .warm, .raw⟩,
  ⟨0x40120144, 4, 0x80, 1, 0x4, 16, 16, .ro, 0x0, .warm, .raw⟩,
  ⟨0x40120400, 1, 0x10000, 1, 0x4, 0, 2, .rwl, 0x0, .block, .upTo 2⟩,
  ⟨0x40120400, 1, 0x10000, 1, 0x4, 2, 2, .rwl, 0x0, .block, .upTo 2⟩,
  ⟨0x40120400, 1, 0x10000, 1, 0x4, 4, 4, .rwl, 0x0, .block, .raw⟩,
  ⟨0x40120400, 1, 0x10000, 1, 0x4, 8, 4, .rwl, 0x0, .block, .raw⟩,
  ⟨0x40120400, 1, 0x10000, 1, 0x4, 12, 4, .rwl, 0x0, .block, .raw⟩,
  ⟨0x40120400, 1, 0x10000, 1, 0x4, 16, 4, .rwl, 0x0, .block, .raw⟩,
  ⟨0x40120400, 1, 0x10000, 1, 0x4, 20, 1, .rwl, 0x0, .block, .raw⟩,
  ⟨0x40120400, 1, 0x10000, 1, 0x4, 21, 1, .rwl, 0x0, .block, .raw⟩,
  ⟨0x40120400, 1, 0x10000, 1, 0x4, 24, 8, .rwl, 0x0, .block, .raw⟩,
  ⟨0x40120404, 1, 0x10000, 1, 0x4, 0, 32, .rw, 0x0, .block, .f32⟩,
  ⟨0x40120408, 1, 0x10000, 1, 0x4, 0, 32, .rw, 0x0, .block, .f32ge0⟩,
  ⟨0x4012040c, 1, 0x10000, 1, 0x4, 0, 32, .rw, 0x3f800000, .block, .f32gt0⟩,
  ⟨0x40120410, 1, 0x10000, 1, 0x4, 0, 32, .rw, 0x3f800000, .block, .f32gt0⟩,
  ⟨0x40120414, 1, 0x10000, 1, 0x4, 0, 12, .rw, 0x0, .block, .raw⟩,
  ⟨0x40120414, 1, 0x10000, 1, 0x4, 16, 12, .rw, 0x0, .block, .raw⟩,
  ⟨0x40120418, 1, 0x10000, 1, 0x4, 0, 10, .rw, 0x1c2, .block, .num 450 650⟩,
  ⟨0x40120418, 1, 0x10000, 1, 0x4, 16, 10, .rw, 0x28a, .block, .num 450 650⟩,
  ⟨0x4012041c, 1, 0x10000, 1, 0x4, 0, 32, .rw, 0x3f933333, .block, .f32rng 0x3F866666 0x7F800000⟩,
  ⟨0x40120420, 1, 0x10000, 1, 0x4, 0, 8, .rw, 0x64, .block, .num 1 255⟩,
  ⟨0x40120420, 1, 0x10000, 1, 0x4, 8, 8, .rw, 0x32, .block, .num 1 255⟩,
  ⟨0x40120420, 1, 0x10000, 1, 0x4, 16, 8, .rw, 0x14, .block, .num 1 255⟩]

/-- Rows of the DRIVE registers, part 4 (R334). -/
def driveRows4 : List FRow := [
  ⟨0x40120420, 1, 0x10000, 1, 0x4, 24, 8, .rw, 0x14, .block, .num 1 255⟩,
  ⟨0x40120424, 1, 0x10000, 1, 0x4, 0, 8, .rw, 0x32, .block, .num 1 255⟩,
  ⟨0x40120424, 1, 0x10000, 1, 0x4, 8, 16, .rw, 0x1388, .block, .num 1 65535⟩,
  ⟨0x40120428, 1, 0x10000, 1, 0x4, 0, 32, .rw, 0x41a00000, .block, .f32gt0⟩,
  ⟨0x4012042c, 1, 0x10000, 1, 0x4, 0, 4, .rw, 0x4, .block, .num 1 15⟩,
  ⟨0x4012042c, 1, 0x10000, 1, 0x4, 8, 16, .rw, 0x0, .block, .raw⟩,
  ⟨0x40120430, 1, 0x10000, 1, 0x4, 0, 3, .ro, 0x0, .warm, .raw⟩,
  ⟨0x40120430, 1, 0x10000, 1, 0x4, 3, 1, .ro, 0x0, .warm, .raw⟩,
  ⟨0x40120430, 1, 0x10000, 1, 0x4, 4, 1, .ro, 0x0, .warm, .raw⟩,
  ⟨0x40120430, 1, 0x10000, 1, 0x4, 5, 1, .ro, 0x0, .warm, .raw⟩,
  ⟨0x40120430, 1, 0x10000, 1, 0x4, 6, 1, .ro, 0x0, .warm, .raw⟩,
  ⟨0x40120430, 1, 0x10000, 1, 0x4, 8, 4, .ro, 0x0, .warm, .raw⟩,
  ⟨0x40120434, 1, 0x10000, 1, 0x4, 0, 32, .rs, 0x0, .warm, .raw⟩,
  ⟨0x40120438, 1, 0x10000, 1, 0x4, 0, 32, .ro, 0x0, .warm, .raw⟩,
  ⟨0x4012043c, 1, 0x10000, 1, 0x4, 0, 32, .ro, 0x0, .warm, .raw⟩,
  ⟨0x40120440, 1, 0x10000, 1, 0x4, 0, 8, .ro, 0x0, .block, .raw⟩,
  ⟨0x40120440, 1, 0x10000, 1, 0x4, 8, 8, .ro, 0x0, .block, .raw⟩,
  ⟨0x40120440, 1, 0x10000, 1, 0x4, 16, 8, .ro, 0x0, .block, .raw⟩,
  ⟨0x40120440, 1, 0x10000, 1, 0x4, 24, 8, .ro, 0x0, .block, .raw⟩]

/-- Rows of the DRIVE registers. -/
def driveRows : List FRow :=
  driveRows1 ++ driveRows2 ++ driveRows3 ++ driveRows4

/-- Rows of the TRIAD registers, part 1 (R372). -/
def triadRows1 : List FRow := [
  ⟨0x40060000, 1, 0x10000, 1, 0x4, 0, 2, .ro, 0x0, .system, .raw⟩,
  ⟨0x40060000, 1, 0x10000, 1, 0x4, 2, 4, .ro, 0x7, .system, .raw⟩,
  ⟨0x40060000, 1, 0x10000, 1, 0x4, 6, 4, .ro, 0x0, .system, .raw⟩,
  ⟨0x40060000, 1, 0x10000, 1, 0x4, 10, 2, .ro, 0x0, .system, .raw⟩,
  ⟨0x40060000, 1, 0x10000, 1, 0x4, 12, 1, .ro, 0x0, .system, .raw⟩,
  ⟨0x40060000, 1, 0x10000, 1, 0x4, 16, 3, .ro, 0x7, .system, .raw⟩,
  ⟨0x40060004, 1, 0x10000, 1, 0x4, 0, 16, .ro, 0x0, .system, .raw⟩,
  ⟨0x40060004, 1, 0x10000, 1, 0x4, 16, 16, .ro, 0x0, .system, .raw⟩,
  ⟨0x40060008, 1, 0x10000, 1, 0x4, 0, 16, .ro, 0x0, .system, .raw⟩,
  ⟨0x40060008, 1, 0x10000, 1, 0x4, 16, 16, .ro, 0x0, .system, .raw⟩,
  ⟨0x4006000c, 1, 0x10000, 1, 0x4, 0, 8, .ro, 0x0, .system, .raw⟩,
  ⟨0x4006000c, 1, 0x10000, 1, 0x4, 16, 16, .ro, 0x0, .system, .raw⟩,
  ⟨0x40060010, 1, 0x10000, 1, 0x4, 0, 16, .ro, 0x0, .system, .raw⟩,
  ⟨0x40060010, 1, 0x10000, 1, 0x4, 16, 16, .ro, 0x0, .system, .raw⟩,
  ⟨0x40060014, 4, 0x4, 1, 0x4, 0, 2, .ro, 0x0, .system, .raw⟩,
  ⟨0x40060014, 4, 0x4, 1, 0x4, 8, 8, .ro, 0x0, .system, .raw⟩,
  ⟨0x40060024, 1, 0x10000, 1, 0x4, 0, 2, .rs, 0x0, .system, .raw⟩,
  ⟨0x40060024, 1, 0x10000, 1, 0x4, 2, 4, .rs, 0x0, .system, .raw⟩,
  ⟨0x40060024, 1, 0x10000, 1, 0x4, 6, 3, .rs, 0x0, .system, .raw⟩,
  ⟨0x40060024, 1, 0x10000, 1, 0x4, 9, 1, .rs, 0x0, .system, .raw⟩,
  ⟨0x40060028, 1, 0x10000, 1, 0x4, 0, 32, .ro, 0x0, .system, .raw⟩,
  ⟨0x4006002c, 1, 0x10000, 1, 0x4, 0, 32, .ro, 0x0, .system, .raw⟩,
  ⟨0x40060030, 1, 0x10000, 1, 0x4, 0, 30, .ro, 0x0, .system, .raw⟩,
  ⟨0x40060034, 1, 0x10000, 1, 0x4, 0, 4, .wo, 0x0, .warm, .raw⟩]

/-- Rows of the TRIAD registers, part 2 (R372). -/
def triadRows2 : List FRow := [
  ⟨0x40060038, 1, 0x10000, 1, 0x4, 0, 8, .ro, 0x0, .warm, .raw⟩,
  ⟨0x4006003c, 1, 0x10000, 1, 0x4, 0, 3, .wo, 0x0, .warm, .raw⟩,
  ⟨0x4006003c, 1, 0x10000, 1, 0x4, 4, 2, .wo, 0x0, .warm, .raw⟩,
  ⟨0x40060040, 1, 0x10000, 1, 0x4, 0, 8, .ro, 0x0, .warm, .raw⟩,
  ⟨0x40060044, 1, 0x10000, 1, 0x4, 0, 16, .ro, 0x0, .system, .raw⟩,
  ⟨0x40060044, 1, 0x10000, 1, 0x4, 16, 8, .ro, 0x0, .system, .raw⟩]

/-- Rows of the TRIAD registers. -/
def triadRows : List FRow :=
  triadRows1 ++ triadRows2

/-- Rows of the PATROL registers, part 1 (R398). -/
def patrolRows1 : List FRow := [
  ⟨0x40050000, 1, 0x10000, 1, 0x4, 0, 1, .ro, 0x0, .block, .raw⟩,
  ⟨0x40050004, 1, 0x10000, 1, 0x4, 0, 1, .ro, 0x0, .warm, .raw⟩,
  ⟨0x40050004, 1, 0x10000, 1, 0x4, 1, 1, .ro, 0x0, .warm, .raw⟩,
  ⟨0x40050004, 1, 0x10000, 1, 0x4, 2, 1, .ro, 0x0, .warm, .raw⟩,
  ⟨0x40050004, 1, 0x10000, 1, 0x4, 3, 1, .ro, 0x0, .warm, .raw⟩,
  ⟨0x40050004, 1, 0x10000, 1, 0x4, 4, 1, .ro, 0x0, .warm, .raw⟩,
  ⟨0x40050004, 1, 0x10000, 1, 0x4, 8, 4, .ro, 0x0, .warm, .raw⟩,
  ⟨0x40050004, 1, 0x10000, 1, 0x4, 12, 4, .ro, 0x0, .warm, .raw⟩,
  ⟨0x40050010, 4, 0x4, 1, 0x4, 0, 5, .ro, 0x0, .warm, .raw⟩,
  ⟨0x40050020, 1, 0x10000, 1, 0x4, 0, 6, .rs, 0x0, .warm, .raw⟩,
  ⟨0x40050020, 1, 0x10000, 1, 0x4, 6, 5, .rs, 0x0, .warm, .raw⟩,
  ⟨0x40050020, 1, 0x10000, 1, 0x4, 11, 3, .rs, 0x0, .warm, .raw⟩,
  ⟨0x40050020, 1, 0x10000, 1, 0x4, 14, 4, .rs, 0x0, .warm, .raw⟩,
  ⟨0x40050020, 1, 0x10000, 1, 0x4, 18, 1, .rs, 0x0, .warm, .raw⟩,
  ⟨0x40050024, 1, 0x10000, 1, 0x4, 0, 32, .ro, 0x0, .warm, .raw⟩,
  ⟨0x40050028, 1, 0x10000, 1, 0x4, 0, 30, .ro, 0x0, .warm, .raw⟩,
  ⟨0x4005002c, 1, 0x10000, 1, 0x4, 0, 6, .ro, 0x0, .warm, .raw⟩,
  ⟨0x4005002c, 1, 0x10000, 1, 0x4, 6, 5, .ro, 0x0, .warm, .raw⟩,
  ⟨0x4005002c, 1, 0x10000, 1, 0x4, 11, 3, .ro, 0x0, .warm, .raw⟩,
  ⟨0x4005002c, 1, 0x10000, 1, 0x4, 14, 4, .ro, 0x0, .warm, .raw⟩,
  ⟨0x4005002c, 1, 0x10000, 1, 0x4, 18, 1, .ro, 0x0, .warm, .raw⟩,
  ⟨0x4005002c, 1, 0x10000, 1, 0x4, 19, 1, .ro, 0x0, .warm, .raw⟩,
  ⟨0x40050030, 1, 0x10000, 1, 0x4, 0, 4, .wo, 0x0, .warm, .raw⟩,
  ⟨0x40050034, 1, 0x10000, 1, 0x4, 0, 8, .ro, 0x0, .warm, .raw⟩]

/-- Rows of the PATROL registers, part 2 (R398). -/
def patrolRows2 : List FRow := [
  ⟨0x40050040, 1, 0x10000, 1, 0x4, 0, 1, .rwl, 0x0, .block, .raw⟩,
  ⟨0x40050040, 1, 0x10000, 1, 0x4, 8, 8, .rw, 0x0, .block, .raw⟩,
  ⟨0x40050040, 1, 0x10000, 1, 0x4, 16, 16, .rw, 0x64, .block, .num 1 65535⟩,
  ⟨0x40050044, 1, 0x10000, 1, 0x4, 0, 8, .wo, 0x0, .warm, .raw⟩,
  ⟨0x40050048, 1, 0x10000, 1, 0x4, 0, 16, .ro, 0x0, .warm, .raw⟩,
  ⟨0x40050048, 1, 0x10000, 1, 0x4, 16, 1, .ro, 0x0, .warm, .raw⟩,
  ⟨0x40050048, 1, 0x10000, 1, 0x4, 24, 8, .ro, 0x0, .warm, .raw⟩,
  ⟨0x40050050, 4, 0x4, 1, 0x4, 0, 16, .rw, 0x3e8, .block, .num 1 65535⟩,
  ⟨0x40050060, 1, 0x10000, 1, 0x4, 0, 4, .rwl, 0x0, .block, .raw⟩,
  ⟨0x40050070, 1, 0x10000, 1, 0x4, 0, 6, .rw, 0x0, .warm, .num 0 47⟩,
  ⟨0x40050070, 1, 0x10000, 1, 0x4, 6, 5, .rw, 0x0, .warm, .raw⟩,
  ⟨0x40050074, 1, 0x10000, 1, 0x4, 0, 3, .ro, 0x0, .warm, .raw⟩,
  ⟨0x40050074, 1, 0x10000, 1, 0x4, 3, 1, .ro, 0x0, .warm, .raw⟩,
  ⟨0x40050074, 1, 0x10000, 1, 0x4, 4, 4, .ro, 0x0, .warm, .raw⟩,
  ⟨0x40050074, 1, 0x10000, 1, 0x4, 8, 5, .ro, 0x0, .warm, .raw⟩,
  ⟨0x40050074, 1, 0x10000, 1, 0x4, 13, 1, .ro, 0x0, .warm, .raw⟩,
  ⟨0x40050074, 1, 0x10000, 1, 0x4, 14, 1, .ro, 0x0, .warm, .raw⟩,
  ⟨0x40050080, 8, 0x8, 1, 0x4, 0, 6, .rwl, 0x0, .block, .raw⟩,
  ⟨0x40050080, 8, 0x8, 1, 0x4, 6, 5, .rwl, 0x0, .block, .raw⟩,
  ⟨0x40050080, 8, 0x8, 1, 0x4, 11, 3, .rwl, 0x0, .block, .upTo 4⟩,
  ⟨0x40050080, 8, 0x8, 1, 0x4, 16, 8, .rwl, 0x0, .block, .raw⟩,
  ⟨0x40050080, 8, 0x8, 1, 0x4, 24, 8, .rwl, 0x0, .block, .num 1 255⟩,
  ⟨0x40050084, 8, 0x8, 1, 0x4, 0, 8, .ro, 0x0, .warm, .raw⟩,
  ⟨0x40050084, 8, 0x8, 1, 0x4, 8, 1, .ro, 0x0, .warm, .raw⟩]

/-- Rows of the PATROL registers, part 3 (R398). -/
def patrolRows3 : List FRow := [
  ⟨0x40050100, 1, 0x10000, 1, 0x4, 0, 8, .rw, 0x0, .warm, .raw⟩,
  ⟨0x40050100, 1, 0x10000, 1, 0x4, 8, 8, .rw, 0x0, .warm, .raw⟩,
  ⟨0x40050104, 1, 0x10000, 1, 0x4, 0, 2, .wo, 0x0, .warm, .raw⟩,
  ⟨0x40050108, 1, 0x10000, 1, 0x4, 0, 8, .ro, 0x0, .warm, .raw⟩]

/-- Rows of the PATROL registers. -/
def patrolRows : List FRow :=
  patrolRows1 ++ patrolRows2 ++ patrolRows3

/-- Rows of the HKA registers, part 1 (R420). -/
def hkaRows1 : List FRow := [
  ⟨0x400d0000, 1, 0x10000, 1, 0x4, 0, 1, .ro, 0x0, .block, .raw⟩,
  ⟨0x400d0004, 1, 0x10000, 1, 0x4, 0, 1, .ro, 0x1, .block, .raw⟩,
  ⟨0x400d0004, 1, 0x10000, 1, 0x4, 1, 8, .ro, 0x0, .block, .raw⟩,
  ⟨0x400d0004, 1, 0x10000, 1, 0x4, 9, 4, .ro, 0xf, .block, .raw⟩,
  ⟨0x400d0008, 1, 0x10000, 1, 0x4, 0, 18, .ro, 0x0, .block, .raw⟩,
  ⟨0x400d000c, 1, 0x10000, 1, 0x4, 0, 12, .rw, 0x0, .block, .raw⟩,
  ⟨0x400d0010, 1, 0x10000, 1, 0x4, 0, 32, .w1c, 0x0, .block, .raw⟩,
  ⟨0x400d0014, 1, 0x10000, 1, 0x4, 0, 32, .w1c, 0x0, .block, .raw⟩,
  ⟨0x400d0018, 1, 0x10000, 1, 0x4, 0, 4, .wo, 0x0, .warm, .raw⟩,
  ⟨0x400d0018, 1, 0x10000, 1, 0x4, 8, 8, .wo, 0x0, .warm, .raw⟩,
  ⟨0x400d001c, 1, 0x10000, 1, 0x4, 0, 8, .ro, 0x0, .warm, .raw⟩,
  ⟨0x400d0020, 1, 0x10000, 1, 0x4, 0, 8, .rw, 0x0, .warm, .raw⟩,
  ⟨0x400d0020, 1, 0x10000, 1, 0x4, 8, 8, .rw, 0x0, .warm, .raw⟩,
  ⟨0x400d0024, 1, 0x10000, 1, 0x4, 0, 2, .wo, 0x0, .warm, .raw⟩,
  ⟨0x400d0028, 1, 0x10000, 1, 0x4, 0, 8, .ro, 0x0, .warm, .raw⟩,
  ⟨0x400d0040, 9, 0x4, 1, 0x4, 0, 12, .ro, 0x0, .block, .raw⟩,
  ⟨0x400d0040, 9, 0x4, 1, 0x4, 12, 12, .ro, 0x0, .block, .raw⟩,
  ⟨0x400d0040, 9, 0x4, 1, 0x4, 24, 8, .ro, 0x0, .block, .raw⟩,
  ⟨0x400d0100, 8, 0x80, 1, 0x4, 0, 1, .rwl, 0x0, .block, .raw⟩,
  ⟨0x400d0100, 8, 0x80, 1, 0x4, 1, 3, .rwl, 0x0, .block, .upTo 4⟩,
  ⟨0x400d0100, 8, 0x80, 1, 0x4, 4, 5, .rwl, 0x0, .block, .raw⟩,
  ⟨0x400d0100, 8, 0x80, 1, 0x4, 9, 3, .rwl, 0x0, .block, .raw⟩,
  ⟨0x400d0100, 8, 0x80, 1, 0x4, 12, 4, .rwl, 0x0, .block, .raw⟩,
  ⟨0x400d0100, 8, 0x80, 1, 0x4, 16, 1, .rw, 0x0, .block, .raw⟩]

/-- Rows of the HKA registers, part 2 (R420). -/
def hkaRows2 : List FRow := [
  ⟨0x400d0104, 8, 0x80, 1, 0x4, 0, 16, .rw, 0x3e8, .block, .num 1 65535⟩,
  ⟨0x400d0108, 8, 0x80, 1, 0x4, 0, 16, .rw, 0x0, .block, .raw⟩,
  ⟨0x400d0108, 8, 0x80, 1, 0x4, 16, 8, .rw, 0x14, .block, .num 1 255⟩,
  ⟨0x400d010c, 8, 0x80, 1, 0x4, 0, 16, .ro, 0x0, .block, .raw⟩,
  ⟨0x400d010c, 8, 0x80, 1, 0x4, 16, 15, .ro, 0x0, .block, .raw⟩,
  ⟨0x400d010c, 8, 0x80, 1, 0x4, 31, 1, .ro, 0x0, .block, .raw⟩,
  ⟨0x400d0140, 8, 0x80, 16, 0x4, 0, 6, .rwl, 0x0, .block, .raw⟩,
  ⟨0x400d0140, 8, 0x80, 16, 0x4, 6, 2, .rwl, 0x0, .block, .upTo 2⟩,
  ⟨0x400d0140, 8, 0x80, 16, 0x4, 8, 6, .rwl, 0x0, .block, .raw⟩,
  ⟨0x400d1000, 64, 0x40, 1, 0x4, 0, 1, .rwl, 0x0, .block, .raw⟩,
  ⟨0x400d1000, 64, 0x40, 1, 0x4, 1, 2, .rwl, 0x0, .block, .upTo 2⟩,
  ⟨0x400d1000, 64, 0x40, 1, 0x4, 3, 3, .rwl, 0x0, .block, .raw⟩,
  ⟨0x400d1004, 64, 0x40, 1, 0x4, 0, 16, .rw, 0x1, .block, .num 1 65535⟩,
  ⟨0x400d1008, 64, 0x40, 1, 0x4, 0, 12, .rw, 0x0, .block, .raw⟩,
  ⟨0x400d1008, 64, 0x40, 1, 0x4, 16, 12, .rw, 0xfff, .block, .raw⟩,
  ⟨0x400d1008, 64, 0x40, 1, 0x4, 28, 1, .rw, 0x0, .block, .raw⟩,
  ⟨0x400d100c, 64, 0x40, 1, 0x4, 0, 32, .rw, 0x3f800000, .block, .f32norm⟩,
  ⟨0x400d1010, 64, 0x40, 1, 0x4, 0, 32, .rw, 0x0, .block, .f32⟩,
  ⟨0x400d1014, 64, 0x40, 1, 0x4, 0, 32, .rs, 0x0, .block, .raw⟩,
  ⟨0x400d1018, 64, 0x40, 1, 0x4, 0, 16, .ro, 0x0, .block, .raw⟩,
  ⟨0x400d101c, 64, 0x40, 1, 0x4, 0, 12, .ro, 0x0, .block, .raw⟩,
  ⟨0x400d101c, 64, 0x40, 1, 0x4, 16, 12, .ro, 0x0, .block, .raw⟩,
  ⟨0x400d1020, 64, 0x40, 1, 0x4, 0, 16, .ro, 0x0, .block, .raw⟩,
  ⟨0x400d1020, 64, 0x40, 1, 0x4, 16, 1, .ro, 0x0, .block, .raw⟩]

/-- Rows of the HKA registers, part 3 (R420). -/
def hkaRows3 : List FRow := [
  ⟨0x400d1020, 64, 0x40, 1, 0x4, 17, 1, .ro, 0x0, .block, .raw⟩,
  ⟨0x400d1020, 64, 0x40, 1, 0x4, 18, 1, .ro, 0x0, .block, .raw⟩]

/-- Rows of the HKA registers. -/
def hkaRows : List FRow :=
  hkaRows1 ++ hkaRows2 ++ hkaRows3

/-- Rows of the PROBE registers, part 1 (R448). -/
def probeRows1 : List FRow := [
  ⟨0x40170000, 1, 0x10000, 1, 0x4, 0, 1, .ro, 0x0, .block, .raw⟩,
  ⟨0x40170004, 1, 0x10000, 1, 0x4, 0, 1, .rwl, 0x0, .block, .raw⟩,
  ⟨0x40170004, 1, 0x10000, 1, 0x4, 1, 1, .rwl, 0x0, .block, .raw⟩,
  ⟨0x40170004, 1, 0x10000, 1, 0x4, 2, 4, .rwl, 0x0, .block, .raw⟩,
  ⟨0x40170008, 1, 0x10000, 1, 0x4, 0, 1, .ro, 0x0, .warm, .raw⟩,
  ⟨0x40170008, 1, 0x10000, 1, 0x4, 1, 2, .ro, 0x0, .warm, .raw⟩,
  ⟨0x40170008, 1, 0x10000, 1, 0x4, 3, 2, .ro, 0x0, .warm, .raw⟩,
  ⟨0x4017000c, 1, 0x10000, 1, 0x4, 0, 16, .ro, 0x0, .system, .raw⟩,
  ⟨0x4017000c, 1, 0x10000, 1, 0x4, 16, 16, .ro, 0x0, .system, .raw⟩,
  ⟨0x40170010, 1, 0x10000, 1, 0x4, 0, 6, .ro, 0x0, .system, .raw⟩,
  ⟨0x40170014, 1, 0x10000, 1, 0x4, 0, 32, .rw, 0x43160000, .block, .f32gt0⟩,
  ⟨0x40170018, 1, 0x10000, 1, 0x4, 0, 32, .rw, 0x41200000, .block, .f32gt0⟩,
  ⟨0x4017001c, 1, 0x10000, 1, 0x4, 0, 32, .rw, 0x42c80000, .block, .f32gt0⟩,
  ⟨0x40170020, 1, 0x10000, 1, 0x4, 0, 4, .wo, 0x0, .warm, .raw⟩,
  ⟨0x40170020, 1, 0x10000, 1, 0x4, 4, 2, .wo, 0x0, .warm, .raw⟩,
  ⟨0x40170024, 1, 0x10000, 1, 0x4, 0, 8, .ro, 0x0, .warm, .raw⟩,
  ⟨0x40170028, 1, 0x10000, 1, 0x4, 0, 8, .rw, 0x0, .warm, .raw⟩,
  ⟨0x4017002c, 1, 0x10000, 1, 0x4, 0, 2, .wo, 0x0, .warm, .raw⟩,
  ⟨0x40170030, 1, 0x10000, 1, 0x4, 0, 8, .ro, 0x0, .warm, .raw⟩,
  ⟨0x40170040, 1, 0x10000, 1, 0x4, 0, 11, .ro, 0x0, .warm, .raw⟩,
  ⟨0x40170040, 1, 0x10000, 1, 0x4, 16, 8, .ro, 0x0, .warm, .raw⟩,
  ⟨0x40170040, 1, 0x10000, 1, 0x4, 24, 8, .ro, 0x0, .warm, .raw⟩,
  ⟨0x40170044, 1, 0x10000, 1, 0x4, 0, 32, .ro, 0x0, .warm, .raw⟩,
  ⟨0x40170100, 4, 0x20, 1, 0x4, 0, 3, .rs, 0x0, .warm, .raw⟩]

/-- Rows of the PROBE registers, part 2 (R448). -/
def probeRows2 : List FRow := [
  ⟨0x40170100, 4, 0x20, 1, 0x4, 3, 1, .rs, 0x0, .warm, .raw⟩,
  ⟨0x40170100, 4, 0x20, 1, 0x4, 16, 16, .rs, 0x0, .warm, .raw⟩,
  ⟨0x40170104, 4, 0x20, 4, 0x4, 0, 32, .ro, 0x0, .warm, .raw⟩,
  ⟨0x40170114, 4, 0x20, 1, 0x4, 0, 32, .ro, 0x0, .warm, .raw⟩,
  ⟨0x40170200, 32, 0x4, 1, 0x4, 0, 16, .ro, 0x0, .warm, .raw⟩,
  ⟨0x40170200, 32, 0x4, 1, 0x4, 16, 1, .ro, 0x0, .warm, .raw⟩,
  ⟨0x40170200, 32, 0x4, 1, 0x4, 17, 1, .ro, 0x0, .warm, .raw⟩,
  ⟨0x40170200, 32, 0x4, 1, 0x4, 18, 1, .ro, 0x0, .warm, .raw⟩,
  ⟨0x40170300, 64, 0x8, 1, 0x4, 0, 12, .ro, 0x0, .warm, .raw⟩,
  ⟨0x40170300, 64, 0x8, 1, 0x4, 12, 12, .ro, 0x0, .warm, .raw⟩,
  ⟨0x40170300, 64, 0x8, 1, 0x4, 24, 1, .ro, 0x0, .warm, .raw⟩,
  ⟨0x40170304, 64, 0x8, 1, 0x4, 0, 16, .ro, 0x0, .warm, .raw⟩]

/-- Rows of the PROBE registers. -/
def probeRows : List FRow :=
  probeRows1 ++ probeRows2

/-- Rows of the GROOM registers, part 1 (R450). -/
def groomRows1 : List FRow := [
  ⟨0x40070000, 1, 0x10000, 1, 0x4, 0, 1, .ro, 0x0, .block, .raw⟩,
  ⟨0x40070004, 1, 0x10000, 1, 0x4, 0, 1, .ro, 0x0, .warm, .raw⟩,
  ⟨0x40070008, 1, 0x10000, 1, 0x4, 0, 1, .ro, 0x0, .system, .raw⟩,
  ⟨0x40070008, 1, 0x10000, 1, 0x4, 1, 1, .ro, 0x0, .system, .raw⟩,
  ⟨0x40070008, 1, 0x10000, 1, 0x4, 2, 3, .ro, 0x0, .system, .raw⟩,
  ⟨0x40070008, 1, 0x10000, 1, 0x4, 5, 1, .ro, 0x0, .system, .raw⟩,
  ⟨0x40070008, 1, 0x10000, 1, 0x4, 6, 1, .ro, 0x0, .system, .raw⟩,
  ⟨0x4007000c, 1, 0x10000, 1, 0x4, 0, 8, .ro, 0x0, .system, .raw⟩,
  ⟨0x40070010, 1, 0x10000, 1, 0x4, 0, 16, .ro, 0x0, .system, .raw⟩,
  ⟨0x40070010, 1, 0x10000, 1, 0x4, 16, 16, .ro, 0x0, .system, .raw⟩,
  ⟨0x40070014, 1, 0x10000, 1, 0x4, 0, 32, .ro, 0x0, .system, .raw⟩,
  ⟨0x40070018, 1, 0x10000, 1, 0x4, 0, 16, .rw, 0x1333, .block, .raw⟩,
  ⟨0x40070018, 1, 0x10000, 1, 0x4, 16, 16, .rw, 0x1800, .block, .raw⟩,
  ⟨0x4007001c, 1, 0x10000, 1, 0x4, 0, 8, .rw, 0x4, .block, .num 1 255⟩,
  ⟨0x4007001c, 1, 0x10000, 1, 0x4, 8, 8, .rw, 0x8, .block, .num 1 255⟩,
  ⟨0x40070020, 1, 0x10000, 1, 0x4, 0, 4, .wo, 0x0, .warm, .raw⟩,
  ⟨0x40070020, 1, 0x10000, 1, 0x4, 4, 8, .wo, 0x0, .warm, .raw⟩,
  ⟨0x40070024, 1, 0x10000, 1, 0x4, 0, 8, .ro, 0x0, .warm, .raw⟩,
  ⟨0x40070024, 1, 0x10000, 1, 0x4, 8, 1, .ro, 0x0, .warm, .raw⟩,
  ⟨0x40070028, 1, 0x10000, 1, 0x4, 0, 8, .ro, 0x0, .warm, .raw⟩,
  ⟨0x40070028, 1, 0x10000, 1, 0x4, 8, 4, .ro, 0x0, .warm, .raw⟩,
  ⟨0x40070028, 1, 0x10000, 1, 0x4, 16, 16, .ro, 0x0, .warm, .raw⟩,
  ⟨0x4007002c, 1, 0x10000, 1, 0x4, 0, 16, .ro, 0x0, .system, .raw⟩,
  ⟨0x4007002c, 1, 0x10000, 1, 0x4, 16, 8, .ro, 0xff, .system, .raw⟩]

/-- Rows of the GROOM registers, part 2 (R450). -/
def groomRows2 : List FRow := [
  ⟨0x40070030, 1, 0x10000, 1, 0x4, 0, 8, .rw, 0x0, .warm, .raw⟩,
  ⟨0x40070030, 1, 0x10000, 1, 0x4, 8, 6, .rw, 0x0, .warm, .raw⟩,
  ⟨0x40070034, 1, 0x10000, 1, 0x4, 0, 2, .wo, 0x0, .warm, .raw⟩,
  ⟨0x40070038, 1, 0x10000, 1, 0x4, 0, 8, .ro, 0x0, .warm, .raw⟩,
  ⟨0x40070100, 64, 0x4, 1, 0x4, 0, 16, .ro, 0x0, .system, .raw⟩,
  ⟨0x40070100, 64, 0x4, 1, 0x4, 16, 16, .ro, 0x0, .system, .raw⟩,
  ⟨0x40070200, 64, 0x4, 1, 0x4, 0, 1, .ro, 0x0, .system, .raw⟩,
  ⟨0x40070200, 64, 0x4, 1, 0x4, 1, 1, .ro, 0x0, .system, .raw⟩,
  ⟨0x40070200, 64, 0x4, 1, 0x4, 2, 1, .ro, 0x0, .system, .raw⟩,
  ⟨0x40070200, 64, 0x4, 1, 0x4, 3, 1, .ro, 0x0, .system, .raw⟩]

/-- Rows of the GROOM registers. -/
def groomRows : List FRow :=
  groomRows1 ++ groomRows2

/-- Rows of the RST registers, part 1 (R472). -/
def rstRows1 : List FRow := [
  ⟨0x40030000, 1, 0x10000, 1, 0x4, 0, 9, .ro, 0x0, .episode, .raw⟩,
  ⟨0x40030004, 1, 0x10000, 1, 0x4, 0, 9, .ro, 0x0, .episode, .raw⟩,
  ⟨0x40030008, 1, 0x10000, 1, 0x4, 0, 2, .ro, 0x0, .episode, .raw⟩,
  ⟨0x40030008, 1, 0x10000, 1, 0x4, 2, 1, .ro, 0x0, .episode, .raw⟩,
  ⟨0x40030008, 1, 0x10000, 1, 0x4, 4, 4, .ro, 0x0, .warm, .raw⟩,
  ⟨0x4003000c, 1, 0x10000, 1, 0x4, 0, 16, .ro, 0x0, .power, .raw⟩,
  ⟨0x4003000c, 1, 0x10000, 1, 0x4, 16, 16, .ro, 0x0, .power, .raw⟩,
  ⟨0x40030010, 1, 0x10000, 1, 0x4, 0, 16, .ro, 0x0, .episode, .raw⟩,
  ⟨0x40030014, 1, 0x10000, 1, 0x4, 0, 25, .ro, 0x0, .warm, .raw⟩,
  ⟨0x40030018, 1, 0x10000, 1, 0x4, 0, 4, .wo, 0x0, .warm, .raw⟩,
  ⟨0x40030018, 1, 0x10000, 1, 0x4, 8, 5, .wo, 0x0, .warm, .raw⟩,
  ⟨0x40030018, 1, 0x10000, 1, 0x4, 24, 8, .wo, 0x0, .warm, .raw⟩,
  ⟨0x4003001c, 1, 0x10000, 1, 0x4, 0, 8, .ro, 0x0, .warm, .raw⟩,
  ⟨0x40030020, 1, 0x10000, 1, 0x4, 0, 3, .ro, 0x0, .episode, .raw⟩,
  ⟨0x40030024, 1, 0x10000, 1, 0x4, 0, 4, .rw, 0x0, .warm, .raw⟩,
  ⟨0x40030028, 1, 0x10000, 1, 0x4, 0, 9, .ro, 0x0, .power, .raw⟩,
  ⟨0x40030028, 1, 0x10000, 1, 0x4, 9, 2, .ro, 0x0, .power, .raw⟩,
  ⟨0x40030028, 1, 0x10000, 1, 0x4, 11, 1, .ro, 0x0, .power, .raw⟩,
  ⟨0x40030028, 1, 0x10000, 1, 0x4, 16, 16, .ro, 0x0, .power, .raw⟩,
  ⟨0x4003002c, 1, 0x10000, 1, 0x4, 0, 32, .ro, 0x0, .power, .raw⟩,
  ⟨0x40030030, 1, 0x10000, 1, 0x4, 0, 30, .ro, 0x0, .power, .raw⟩,
  ⟨0x40030080, 32, 0x4, 1, 0x4, 0, 32, .rw, 0x0, .power, .raw⟩]

/-- Rows of the RST registers. -/
def rstRows : List FRow :=
  rstRows1

/-- Rows of the TIME registers, part 1 (R510). -/
def timeRows1 : List FRow := [
  ⟨0x40020000, 1, 0x10000, 1, 0x4, 0, 1, .ro, 0x0, .block, .raw⟩,
  ⟨0x40020004, 1, 0x10000, 1, 0x4, 0, 2, .rw, 0x0, .block, .raw⟩,
  ⟨0x40020004, 1, 0x10000, 1, 0x4, 2, 1, .rwl, 0x0, .block, .raw⟩,
  ⟨0x40020004, 1, 0x10000, 1, 0x4, 3, 1, .rw, 0x0, .block, .raw⟩,
  ⟨0x40020004, 1, 0x10000, 1, 0x4, 8, 8, .rw, 0xa, .block, .num 1 255⟩,
  ⟨0x40020004, 1, 0x10000, 1, 0x4, 16, 16, .rw, 0x64, .block, .num 1 65535⟩,
  ⟨0x40020008, 1, 0x10000, 1, 0x4, 0, 1, .ro, 0x0, .system, .raw⟩,
  ⟨0x40020008, 1, 0x10000, 1, 0x4, 1, 1, .ro, 0x0, .warm, .raw⟩,
  ⟨0x40020008, 1, 0x10000, 1, 0x4, 2, 1, .ro, 0x0, .warm, .raw⟩,
  ⟨0x40020008, 1, 0x10000, 1, 0x4, 3, 2, .ro, 0x0, .warm, .raw⟩,
  ⟨0x40020008, 1, 0x10000, 1, 0x4, 5, 1, .ro, 0x0, .warm, .raw⟩,
  ⟨0x4002000c, 1, 0x10000, 1, 0x4, 0, 32, .rs, 0x0, .system, .raw⟩,
  ⟨0x40020010, 1, 0x10000, 1, 0x4, 0, 16, .ro, 0x0, .system, .raw⟩,
  ⟨0x40020014, 1, 0x10000, 1, 0x4, 0, 30, .ro, 0x0, .system, .raw⟩,
  ⟨0x40020018, 1, 0x10000, 1, 0x4, 0, 16, .ro, 0x0, .system, .raw⟩,
  ⟨0x4002001c, 1, 0x10000, 1, 0x4, 0, 32, .ro, 0x0, .warm, .raw⟩,
  ⟨0x40020020, 1, 0x10000, 1, 0x4, 0, 32, .ro, 0x0, .system, .raw⟩,
  ⟨0x40020024, 1, 0x10000, 1, 0x4, 0, 32, .rw, 0x0, .warm, .raw⟩,
  ⟨0x40020028, 1, 0x10000, 1, 0x4, 0, 16, .rw, 0x0, .warm, .raw⟩,
  ⟨0x4002002c, 1, 0x10000, 1, 0x4, 0, 30, .rw, 0x0, .warm, .raw⟩,
  ⟨0x40020030, 1, 0x10000, 1, 0x4, 0, 4, .wo, 0x0, .warm, .raw⟩,
  ⟨0x40020034, 1, 0x10000, 1, 0x4, 0, 8, .ro, 0x0, .warm, .raw⟩,
  ⟨0x40020038, 3, 0x4, 1, 0x4, 0, 32, .ro, 0x0, .system, .raw⟩,
  ⟨0x40020044, 1, 0x10000, 1, 0x4, 0, 32, .rw, 0x0, .system, .raw⟩,
  ⟨0x40020048, 1, 0x10000, 1, 0x4, 0, 32, .rs, 0x0, .warm, .raw⟩,
  ⟨0x4002004c, 1, 0x10000, 1, 0x4, 0, 30, .ro, 0x0, .warm, .raw⟩]

/-- Rows of the TIME registers, part 2 (R510). -/
def timeRows2 : List FRow := [
  ⟨0x40020050, 1, 0x10000, 1, 0x4, 0, 2, .wo, 0x0, .warm, .raw⟩,
  ⟨0x40020054, 1, 0x10000, 1, 0x4, 0, 8, .ro, 0x0, .warm, .raw⟩]

/-- Rows of the TIME registers. -/
def timeRows : List FRow :=
  timeRows1 ++ timeRows2

/-- Rows of the NET registers, part 1 (R511). -/
def netRows1 : List FRow := [
  ⟨0x40150000, 1, 0x10000, 1, 0x4, 0, 1, .ro, 0x0, .block, .raw⟩,
  ⟨0x40150004, 1, 0x10000, 1, 0x4, 0, 1, .rwl, 0x0, .block, .raw⟩,
  ⟨0x40150004, 1, 0x10000, 1, 0x4, 1, 1, .rwl, 0x0, .block, .raw⟩,
  ⟨0x40150008, 1, 0x10000, 1, 0x4, 0, 4, .wo, 0x0, .warm, .raw⟩,
  ⟨0x40150008, 1, 0x10000, 1, 0x4, 4, 2, .wo, 0x0, .warm, .raw⟩,
  ⟨0x4015000c, 1, 0x10000, 1, 0x4, 0, 8, .ro, 0x0, .warm, .raw⟩,
  ⟨0x40150010, 1, 0x10000, 1, 0x4, 0, 8, .rw, 0x0, .warm, .raw⟩,
  ⟨0x40150010, 1, 0x10000, 1, 0x4, 8, 2, .rw, 0x0, .warm, .raw⟩,
  ⟨0x40150014, 1, 0x10000, 1, 0x4, 0, 2, .wo, 0x0, .warm, .raw⟩,
  ⟨0x40150018, 1, 0x10000, 1, 0x4, 0, 8, .ro, 0x0, .warm, .raw⟩,
  ⟨0x40150100, 3, 0x40, 1, 0x4, 0, 1, .rwl, 0x0, .block, .raw⟩,
  ⟨0x40150100, 3, 0x40, 1, 0x4, 1, 1, .rwl, 0x0, .block, .raw⟩,
  ⟨0x40150100, 3, 0x40, 1, 0x4, 2, 1, .rw, 0x1, .block, .raw⟩,
  ⟨0x40150100, 3, 0x40, 1, 0x4, 3, 1, .rw, 0x1, .block, .raw⟩,
  ⟨0x40150104, 3, 0x40, 1, 0x4, 0, 2, .ro, 0x0, .warm, .raw⟩,
  ⟨0x40150104, 3, 0x40, 1, 0x4, 2, 2, .ro, 0x0, .warm, .raw⟩,
  ⟨0x40150104, 3, 0x40, 1, 0x4, 4, 1, .ro, 0x0, .warm, .raw⟩,
  ⟨0x40150104, 3, 0x40, 1, 0x4, 5, 1, .ro, 0x0, .warm, .raw⟩,
  ⟨0x40150104, 3, 0x40, 1, 0x4, 16, 16, .ro, 0x0, .warm, .raw⟩,
  ⟨0x40150108, 3, 0x40, 1, 0x4, 0, 32, .ro, 0x0, .warm, .raw⟩,
  ⟨0x4015010c, 3, 0x40, 1, 0x4, 0, 32, .ro, 0x0, .const, .raw⟩,
  ⟨0x40150110, 3, 0x40, 1, 0x4, 0, 16, .ro, 0x0, .const, .raw⟩,
  ⟨0x40150114, 3, 0x40, 1, 0x4, 0, 1, .rw, 0x0, .block, .raw⟩,
  ⟨0x40150114, 3, 0x40, 1, 0x4, 1, 1, .ro, 0x0, .block, .raw⟩]

/-- Rows of the NET registers, part 2 (R511). -/
def netRows2 : List FRow := [
  ⟨0x40150114, 3, 0x40, 1, 0x4, 8, 6, .rw, 0x0, .block, .raw⟩,
  ⟨0x40150118, 3, 0x40, 1, 0x4, 0, 32, .rw, 0xf4240, .block, .num 1000 1000000000⟩,
  ⟨0x4015011c, 3, 0x40, 1, 0x4, 0, 32, .rw, 0x0, .block, .raw⟩,
  ⟨0x40150120, 3, 0x40, 1, 0x4, 0, 30, .rw, 0x0, .block, .raw⟩,
  ⟨0x40151000, 3, 0x100, 64, 0x4, 0, 8, .rw, 0xff, .block, .raw⟩,
  ⟨0x40151000, 3, 0x100, 64, 0x4, 8, 24, .rw, 0x0, .block, .raw⟩,
  ⟨0x40150200, 1, 0x10000, 1, 0x4, 0, 8, .rw, 0xff, .block, .raw⟩,
  ⟨0x40150200, 1, 0x10000, 1, 0x4, 8, 8, .rw, 0xf8, .block, .raw⟩,
  ⟨0x40150200, 1, 0x10000, 1, 0x4, 16, 3, .rw, 0x3, .block, .raw⟩,
  ⟨0x40150200, 1, 0x10000, 1, 0x4, 19, 1, .rwl, 0x0, .block, .raw⟩,
  ⟨0x40150204, 1, 0x10000, 1, 0x4, 0, 1, .ro, 0x0, .warm, .raw⟩,
  ⟨0x40150204, 1, 0x10000, 1, 0x4, 1, 1, .ro, 0x0, .warm, .raw⟩,
  ⟨0x40150204, 1, 0x10000, 1, 0x4, 8, 8, .ro, 0xf8, .warm, .raw⟩,
  ⟨0x40150204, 1, 0x10000, 1, 0x4, 16, 16, .ro, 0x0, .warm, .raw⟩,
  ⟨0x40150208, 2, 0x4, 1, 0x4, 0, 32, .ro, 0x0, .warm, .raw⟩,
  ⟨0x40150300, 1, 0x10000, 1, 0x4, 0, 10, .rw, 0x0, .block, .raw⟩,
  ⟨0x40150300, 1, 0x10000, 1, 0x4, 16, 8, .rw, 0xff, .block, .raw⟩,
  ⟨0x40150300, 1, 0x10000, 1, 0x4, 24, 1, .rw, 0x0, .block, .raw⟩,
  ⟨0x40150304, 1, 0x10000, 1, 0x4, 0, 16, .rw, 0x0, .block, .raw⟩,
  ⟨0x40150308, 1, 0x10000, 1, 0x4, 0, 16, .rw, 0x3e8, .block, .raw⟩,
  ⟨0x40150308, 1, 0x10000, 1, 0x4, 16, 8, .rw, 0x4, .block, .num 1 255⟩,
  ⟨0x40150308, 1, 0x10000, 1, 0x4, 24, 6, .rw, 0x10, .block, .num 1 63⟩,
  ⟨0x4015030c, 1, 0x10000, 1, 0x4, 0, 2, .ro, 0x0, .warm, .raw⟩,
  ⟨0x4015030c, 1, 0x10000, 1, 0x4, 2, 6, .ro, 0x3f, .warm, .raw⟩]

/-- Rows of the NET registers, part 3 (R511). -/
def netRows3 : List FRow := [
  ⟨0x4015030c, 1, 0x10000, 1, 0x4, 8, 2, .ro, 0x3, .warm, .raw⟩,
  ⟨0x4015030c, 1, 0x10000, 1, 0x4, 10, 3, .ro, 0x0, .warm, .raw⟩,
  ⟨0x4015030c, 1, 0x10000, 1, 0x4, 13, 1, .ro, 0x0, .warm, .raw⟩,
  ⟨0x4015030c, 1, 0x10000, 1, 0x4, 16, 10, .ro, 0x0, .warm, .raw⟩,
  ⟨0x40150310, 1, 0x10000, 1, 0x4, 0, 32, .ro, 0x0, .warm, .raw⟩,
  ⟨0x40150314, 1, 0x10000, 1, 0x4, 0, 11, .rw, 0x0, .block, .num 0 1024⟩,
  ⟨0x40150318, 1, 0x10000, 1, 0x4, 0, 11, .rs, 0x0, .warm, .raw⟩,
  ⟨0x40150318, 1, 0x10000, 1, 0x4, 16, 11, .rs, 0x0, .warm, .raw⟩,
  ⟨0x4015031c, 1, 0x10000, 1, 0x4, 0, 11, .ro, 0x0, .warm, .raw⟩,
  ⟨0x4015031c, 1, 0x10000, 1, 0x4, 16, 10, .ro, 0x0, .warm, .raw⟩,
  ⟨0x4015031c, 1, 0x10000, 1, 0x4, 31, 1, .ro, 0x1, .warm, .raw⟩,
  ⟨0x40150320, 1, 0x10000, 1, 0x4, 0, 11, .ro, 0x0, .warm, .raw⟩,
  ⟨0x40150320, 1, 0x10000, 1, 0x4, 16, 11, .ro, 0x0, .warm, .raw⟩,
  ⟨0x40150324, 1, 0x10000, 1, 0x4, 0, 11, .ro, 0x0, .warm, .raw⟩,
  ⟨0x40150324, 1, 0x10000, 1, 0x4, 16, 6, .ro, 0x0, .warm, .raw⟩,
  ⟨0x40150328, 1, 0x10000, 1, 0x4, 0, 32, .ro, 0x0, .warm, .raw⟩,
  ⟨0x40150340, 8, 0x4, 1, 0x4, 0, 32, .rw, 0x0, .warm, .raw⟩,
  ⟨0x40150360, 8, 0x4, 1, 0x4, 0, 32, .rw, 0x0, .warm, .raw⟩,
  ⟨0x40150380, 1, 0x10000, 1, 0x4, 0, 32, .rw, 0x0, .warm, .raw⟩,
  ⟨0x40150384, 1, 0x10000, 1, 0x4, 0, 16, .rw, 0x0, .warm, .raw⟩,
  ⟨0x40150388, 1, 0x10000, 1, 0x4, 0, 30, .rw, 0x0, .warm, .raw⟩,
  ⟨0x4015038c, 1, 0x10000, 1, 0x4, 0, 16, .ro, 0x0, .warm, .raw⟩]

/-- Rows of the NET registers. -/
def netRows : List FRow :=
  netRows1 ++ netRows2 ++ netRows3

/-- Rows of the CAN0 registers, part 1 (R536). -/
def can0Rows1 : List FRow := [
  ⟨0x40130000, 1, 0x10000, 1, 0x4, 0, 1, .ro, 0x0, .block, .raw⟩,
  ⟨0x40130004, 1, 0x10000, 1, 0x4, 0, 1, .rw, 0x1, .block, .raw⟩,
  ⟨0x40130004, 1, 0x10000, 1, 0x4, 1, 3, .rw, 0x0, .block, .upTo 4⟩,
  ⟨0x40130004, 1, 0x10000, 1, 0x4, 4, 1, .rw, 0x0, .block, .raw⟩,
  ⟨0x40130004, 1, 0x10000, 1, 0x4, 5, 1, .rw, 0x0, .block, .raw⟩,
  ⟨0x40130004, 1, 0x10000, 1, 0x4, 6, 1, .rw, 0x0, .block, .raw⟩,
  ⟨0x40130004, 1, 0x10000, 1, 0x4, 8, 8, .rw, 0x0, .block, .raw⟩,
  ⟨0x40130004, 1, 0x10000, 1, 0x4, 16, 2, .rw, 0x0, .block, .upTo 2⟩,
  ⟨0x40130008, 1, 0x10000, 1, 0x4, 0, 8, .rw, 0x0, .block, .raw⟩,
  ⟨0x40130008, 1, 0x10000, 1, 0x4, 8, 8, .rw, 0x3e, .block, .num 1 255⟩,
  ⟨0x40130008, 1, 0x10000, 1, 0x4, 16, 7, .rw, 0xf, .block, .raw⟩,
  ⟨0x40130008, 1, 0x10000, 1, 0x4, 23, 7, .rw, 0xf, .block, .raw⟩,
  ⟨0x4013000c, 1, 0x10000, 1, 0x4, 0, 5, .rw, 0x0, .block, .raw⟩,
  ⟨0x4013000c, 1, 0x10000, 1, 0x4, 5, 5, .rw, 0x6, .block, .raw⟩,
  ⟨0x4013000c, 1, 0x10000, 1, 0x4, 10, 4, .rw, 0x1, .block, .raw⟩,
  ⟨0x4013000c, 1, 0x10000, 1, 0x4, 14, 4, .rw, 0x1, .block, .raw⟩,
  ⟨0x4013000c, 1, 0x10000, 1, 0x4, 18, 1, .rw, 0x0, .block, .raw⟩,
  ⟨0x4013000c, 1, 0x10000, 1, 0x4, 19, 7, .rw, 0x8, .block, .raw⟩,
  ⟨0x40130010, 1, 0x10000, 1, 0x4, 0, 3, .ro, 0x0, .warm, .raw⟩,
  ⟨0x40130010, 1, 0x10000, 1, 0x4, 3, 1, .ro, 0x0, .warm, .raw⟩,
  ⟨0x40130010, 1, 0x10000, 1, 0x4, 4, 1, .ro, 0x0, .warm, .raw⟩,
  ⟨0x40130010, 1, 0x10000, 1, 0x4, 5, 1, .ro, 0x0, .warm, .raw⟩,
  ⟨0x40130010, 1, 0x10000, 1, 0x4, 8, 7, .ro, 0x0, .warm, .raw⟩,
  ⟨0x40130010, 1, 0x10000, 1, 0x4, 16, 8, .ro, 0x0, .warm, .raw⟩]

/-- Rows of the CAN0 registers, part 2 (R536). -/
def can0Rows2 : List FRow := [
  ⟨0x40130014, 1, 0x10000, 1, 0x4, 0, 9, .ro, 0x0, .warm, .raw⟩,
  ⟨0x40130014, 1, 0x10000, 1, 0x4, 16, 8, .ro, 0x0, .warm, .raw⟩,
  ⟨0x40130014, 1, 0x10000, 1, 0x4, 24, 3, .ro, 0x0, .warm, .raw⟩,
  ⟨0x40130014, 1, 0x10000, 1, 0x4, 27, 3, .ro, 0x0, .warm, .raw⟩,
  ⟨0x40130018, 1, 0x10000, 1, 0x4, 0, 8, .ro, 0x0, .warm, .raw⟩,
  ⟨0x40130018, 1, 0x10000, 1, 0x4, 8, 8, .ro, 0x0, .block, .raw⟩,
  ⟨0x40130018, 1, 0x10000, 1, 0x4, 16, 16, .ro, 0x0, .block, .raw⟩,
  ⟨0x4013001c, 1, 0x10000, 1, 0x4, 0, 4, .wo, 0x0, .warm, .raw⟩,
  ⟨0x40130020, 1, 0x10000, 1, 0x4, 0, 8, .ro, 0x0, .warm, .raw⟩,
  ⟨0x40130024, 1, 0x10000, 1, 0x4, 0, 1, .rwl, 0x0, .block, .raw⟩,
  ⟨0x40130024, 1, 0x10000, 1, 0x4, 1, 1, .rwl, 0x0, .block, .raw⟩,
  ⟨0x40130024, 1, 0x10000, 1, 0x4, 2, 1, .rwl, 0x0, .block, .raw⟩,
  ⟨0x40130024, 1, 0x10000, 1, 0x4, 3, 1, .rwl, 0x0, .block, .raw⟩,
  ⟨0x40130028, 1, 0x10000, 1, 0x4, 0, 29, .rwl, 0x0, .block, .raw⟩,
  ⟨0x4013002c, 1, 0x10000, 1, 0x4, 0, 5, .ro, 0x0, .warm, .raw⟩,
  ⟨0x4013002c, 1, 0x10000, 1, 0x4, 8, 5, .ro, 0x0, .warm, .raw⟩,
  ⟨0x4013002c, 1, 0x10000, 1, 0x4, 16, 1, .ro, 0x0, .warm, .raw⟩,
  ⟨0x40130030, 1, 0x10000, 1, 0x4, 0, 8, .rw, 0x0, .warm, .raw⟩,
  ⟨0x40130034, 1, 0x10000, 1, 0x4, 0, 2, .wo, 0x0, .warm, .raw⟩,
  ⟨0x40130038, 1, 0x10000, 1, 0x4, 0, 8, .ro, 0x0, .warm, .raw⟩,
  ⟨0x40130600, 48, 0x8, 1, 0x4, 0, 29, .rw, 0x0, .block, .raw⟩,
  ⟨0x40130600, 48, 0x8, 1, 0x4, 29, 1, .rw, 0x0, .block, .raw⟩,
  ⟨0x40130604, 48, 0x8, 1, 0x4, 0, 29, .rw, 0x0, .block, .raw⟩,
  ⟨0x40130604, 48, 0x8, 1, 0x4, 29, 3, .rw, 0x0, .block, .upTo 4⟩]

/-- Rows of the CAN0 registers, part 3 (R536). -/
def can0Rows3 : List FRow := [
  ⟨0x40130200, 3, 0x50, 1, 0x4, 0, 29, .rw, 0x0, .warm, .raw⟩,
  ⟨0x40130200, 3, 0x50, 1, 0x4, 29, 1, .rw, 0x0, .warm, .raw⟩,
  ⟨0x40130200, 3, 0x50, 1, 0x4, 30, 1, .rw, 0x0, .warm, .raw⟩,
  ⟨0x40130204, 3, 0x50, 1, 0x4, 0, 4, .rw, 0x0, .warm, .raw⟩,
  ⟨0x40130204, 3, 0x50, 1, 0x4, 4, 1, .rw, 0x0, .warm, .raw⟩,
  ⟨0x40130204, 3, 0x50, 1, 0x4, 5, 1, .rw, 0x0, .warm, .raw⟩,
  ⟨0x40130208, 3, 0x50, 1, 0x4, 0, 1, .w1s, 0x0, .warm, .raw⟩,
  ⟨0x40130208, 3, 0x50, 1, 0x4, 1, 1, .w1s, 0x0, .warm, .raw⟩,
  ⟨0x4013020c, 3, 0x50, 1, 0x4, 0, 2, .ro, 0x0, .warm, .raw⟩,
  ⟨0x4013020c, 3, 0x50, 1, 0x4, 2, 2, .ro, 0x0, .warm, .raw⟩,
  ⟨0x4013020c, 3, 0x50, 1, 0x4, 8, 8, .ro, 0x0, .warm, .raw⟩,
  ⟨0x40130210, 3, 0x50, 16, 0x4, 0, 32, .rw, 0x0, .warm, .raw⟩,
  ⟨0x40130400, 3, 0x60, 1, 0x4, 0, 29, .rs, 0x0, .warm, .raw⟩,
  ⟨0x40130400, 3, 0x60, 1, 0x4, 29, 1, .rs, 0x0, .warm, .raw⟩,
  ⟨0x40130400, 3, 0x60, 1, 0x4, 30, 1, .rs, 0x0, .warm, .raw⟩,
  ⟨0x40130400, 3, 0x60, 1, 0x4, 31, 1, .rs, 0x0, .warm, .raw⟩,
  ⟨0x40130404, 3, 0x60, 1, 0x4, 0, 4, .ro, 0x0, .warm, .raw⟩,
  ⟨0x40130404, 3, 0x60, 1, 0x4, 4, 1, .ro, 0x0, .warm, .raw⟩,
  ⟨0x40130404, 3, 0x60, 1, 0x4, 5, 1, .ro, 0x0, .warm, .raw⟩,
  ⟨0x40130404, 3, 0x60, 1, 0x4, 6, 1, .ro, 0x0, .warm, .raw⟩,
  ⟨0x40130404, 3, 0x60, 1, 0x4, 8, 6, .ro, 0x0, .warm, .raw⟩,
  ⟨0x40130408, 3, 0x60, 1, 0x4, 0, 30, .ro, 0x0, .warm, .raw⟩,
  ⟨0x4013040c, 3, 0x60, 1, 0x4, 0, 1, .w1s, 0x0, .warm, .raw⟩,
  ⟨0x40130410, 3, 0x60, 16, 0x4, 0, 32, .ro, 0x0, .warm, .raw⟩]

/-- Rows of the CAN0 registers. -/
def can0Rows : List FRow :=
  can0Rows1 ++ can0Rows2 ++ can0Rows3

/-- Rows of the CAN1 registers, part 1 (R536). -/
def can1Rows1 : List FRow := [
  ⟨0x40140000, 1, 0x10000, 1, 0x4, 0, 1, .ro, 0x0, .block, .raw⟩,
  ⟨0x40140004, 1, 0x10000, 1, 0x4, 0, 1, .rw, 0x1, .block, .raw⟩,
  ⟨0x40140004, 1, 0x10000, 1, 0x4, 1, 3, .rw, 0x0, .block, .upTo 4⟩,
  ⟨0x40140004, 1, 0x10000, 1, 0x4, 4, 1, .rw, 0x0, .block, .raw⟩,
  ⟨0x40140004, 1, 0x10000, 1, 0x4, 5, 1, .rw, 0x0, .block, .raw⟩,
  ⟨0x40140004, 1, 0x10000, 1, 0x4, 6, 1, .rw, 0x0, .block, .raw⟩,
  ⟨0x40140004, 1, 0x10000, 1, 0x4, 8, 8, .rw, 0x0, .block, .raw⟩,
  ⟨0x40140004, 1, 0x10000, 1, 0x4, 16, 2, .rw, 0x0, .block, .upTo 2⟩,
  ⟨0x40140008, 1, 0x10000, 1, 0x4, 0, 8, .rw, 0x0, .block, .raw⟩,
  ⟨0x40140008, 1, 0x10000, 1, 0x4, 8, 8, .rw, 0x3e, .block, .num 1 255⟩,
  ⟨0x40140008, 1, 0x10000, 1, 0x4, 16, 7, .rw, 0xf, .block, .raw⟩,
  ⟨0x40140008, 1, 0x10000, 1, 0x4, 23, 7, .rw, 0xf, .block, .raw⟩,
  ⟨0x4014000c, 1, 0x10000, 1, 0x4, 0, 5, .rw, 0x0, .block, .raw⟩,
  ⟨0x4014000c, 1, 0x10000, 1, 0x4, 5, 5, .rw, 0x6, .block, .raw⟩,
  ⟨0x4014000c, 1, 0x10000, 1, 0x4, 10, 4, .rw, 0x1, .block, .raw⟩,
  ⟨0x4014000c, 1, 0x10000, 1, 0x4, 14, 4, .rw, 0x1, .block, .raw⟩,
  ⟨0x4014000c, 1, 0x10000, 1, 0x4, 18, 1, .rw, 0x0, .block, .raw⟩,
  ⟨0x4014000c, 1, 0x10000, 1, 0x4, 19, 7, .rw, 0x8, .block, .raw⟩,
  ⟨0x40140010, 1, 0x10000, 1, 0x4, 0, 3, .ro, 0x0, .warm, .raw⟩,
  ⟨0x40140010, 1, 0x10000, 1, 0x4, 3, 1, .ro, 0x0, .warm, .raw⟩,
  ⟨0x40140010, 1, 0x10000, 1, 0x4, 4, 1, .ro, 0x0, .warm, .raw⟩,
  ⟨0x40140010, 1, 0x10000, 1, 0x4, 5, 1, .ro, 0x0, .warm, .raw⟩,
  ⟨0x40140010, 1, 0x10000, 1, 0x4, 8, 7, .ro, 0x0, .warm, .raw⟩,
  ⟨0x40140010, 1, 0x10000, 1, 0x4, 16, 8, .ro, 0x0, .warm, .raw⟩]

/-- Rows of the CAN1 registers, part 2 (R536). -/
def can1Rows2 : List FRow := [
  ⟨0x40140014, 1, 0x10000, 1, 0x4, 0, 9, .ro, 0x0, .warm, .raw⟩,
  ⟨0x40140014, 1, 0x10000, 1, 0x4, 16, 8, .ro, 0x0, .warm, .raw⟩,
  ⟨0x40140014, 1, 0x10000, 1, 0x4, 24, 3, .ro, 0x0, .warm, .raw⟩,
  ⟨0x40140014, 1, 0x10000, 1, 0x4, 27, 3, .ro, 0x0, .warm, .raw⟩,
  ⟨0x40140018, 1, 0x10000, 1, 0x4, 0, 8, .ro, 0x0, .warm, .raw⟩,
  ⟨0x40140018, 1, 0x10000, 1, 0x4, 8, 8, .ro, 0x0, .block, .raw⟩,
  ⟨0x40140018, 1, 0x10000, 1, 0x4, 16, 16, .ro, 0x0, .block, .raw⟩,
  ⟨0x4014001c, 1, 0x10000, 1, 0x4, 0, 4, .wo, 0x0, .warm, .raw⟩,
  ⟨0x40140020, 1, 0x10000, 1, 0x4, 0, 8, .ro, 0x0, .warm, .raw⟩,
  ⟨0x40140024, 1, 0x10000, 1, 0x4, 0, 1, .rwl, 0x0, .block, .raw⟩,
  ⟨0x40140024, 1, 0x10000, 1, 0x4, 1, 1, .rwl, 0x0, .block, .raw⟩,
  ⟨0x40140024, 1, 0x10000, 1, 0x4, 2, 1, .rwl, 0x0, .block, .raw⟩,
  ⟨0x40140024, 1, 0x10000, 1, 0x4, 3, 1, .rwl, 0x0, .block, .raw⟩,
  ⟨0x40140028, 1, 0x10000, 1, 0x4, 0, 29, .rwl, 0x0, .block, .raw⟩,
  ⟨0x4014002c, 1, 0x10000, 1, 0x4, 0, 5, .ro, 0x0, .warm, .raw⟩,
  ⟨0x4014002c, 1, 0x10000, 1, 0x4, 8, 5, .ro, 0x0, .warm, .raw⟩,
  ⟨0x4014002c, 1, 0x10000, 1, 0x4, 16, 1, .ro, 0x0, .warm, .raw⟩,
  ⟨0x40140030, 1, 0x10000, 1, 0x4, 0, 8, .rw, 0x0, .warm, .raw⟩,
  ⟨0x40140034, 1, 0x10000, 1, 0x4, 0, 2, .wo, 0x0, .warm, .raw⟩,
  ⟨0x40140038, 1, 0x10000, 1, 0x4, 0, 8, .ro, 0x0, .warm, .raw⟩,
  ⟨0x40140600, 48, 0x8, 1, 0x4, 0, 29, .rw, 0x0, .block, .raw⟩,
  ⟨0x40140600, 48, 0x8, 1, 0x4, 29, 1, .rw, 0x0, .block, .raw⟩,
  ⟨0x40140604, 48, 0x8, 1, 0x4, 0, 29, .rw, 0x0, .block, .raw⟩,
  ⟨0x40140604, 48, 0x8, 1, 0x4, 29, 3, .rw, 0x0, .block, .upTo 4⟩]

/-- Rows of the CAN1 registers, part 3 (R536). -/
def can1Rows3 : List FRow := [
  ⟨0x40140200, 3, 0x50, 1, 0x4, 0, 29, .rw, 0x0, .warm, .raw⟩,
  ⟨0x40140200, 3, 0x50, 1, 0x4, 29, 1, .rw, 0x0, .warm, .raw⟩,
  ⟨0x40140200, 3, 0x50, 1, 0x4, 30, 1, .rw, 0x0, .warm, .raw⟩,
  ⟨0x40140204, 3, 0x50, 1, 0x4, 0, 4, .rw, 0x0, .warm, .raw⟩,
  ⟨0x40140204, 3, 0x50, 1, 0x4, 4, 1, .rw, 0x0, .warm, .raw⟩,
  ⟨0x40140204, 3, 0x50, 1, 0x4, 5, 1, .rw, 0x0, .warm, .raw⟩,
  ⟨0x40140208, 3, 0x50, 1, 0x4, 0, 1, .w1s, 0x0, .warm, .raw⟩,
  ⟨0x40140208, 3, 0x50, 1, 0x4, 1, 1, .w1s, 0x0, .warm, .raw⟩,
  ⟨0x4014020c, 3, 0x50, 1, 0x4, 0, 2, .ro, 0x0, .warm, .raw⟩,
  ⟨0x4014020c, 3, 0x50, 1, 0x4, 2, 2, .ro, 0x0, .warm, .raw⟩,
  ⟨0x4014020c, 3, 0x50, 1, 0x4, 8, 8, .ro, 0x0, .warm, .raw⟩,
  ⟨0x40140210, 3, 0x50, 16, 0x4, 0, 32, .rw, 0x0, .warm, .raw⟩,
  ⟨0x40140400, 3, 0x60, 1, 0x4, 0, 29, .rs, 0x0, .warm, .raw⟩,
  ⟨0x40140400, 3, 0x60, 1, 0x4, 29, 1, .rs, 0x0, .warm, .raw⟩,
  ⟨0x40140400, 3, 0x60, 1, 0x4, 30, 1, .rs, 0x0, .warm, .raw⟩,
  ⟨0x40140400, 3, 0x60, 1, 0x4, 31, 1, .rs, 0x0, .warm, .raw⟩,
  ⟨0x40140404, 3, 0x60, 1, 0x4, 0, 4, .ro, 0x0, .warm, .raw⟩,
  ⟨0x40140404, 3, 0x60, 1, 0x4, 4, 1, .ro, 0x0, .warm, .raw⟩,
  ⟨0x40140404, 3, 0x60, 1, 0x4, 5, 1, .ro, 0x0, .warm, .raw⟩,
  ⟨0x40140404, 3, 0x60, 1, 0x4, 6, 1, .ro, 0x0, .warm, .raw⟩,
  ⟨0x40140404, 3, 0x60, 1, 0x4, 8, 6, .ro, 0x0, .warm, .raw⟩,
  ⟨0x40140408, 3, 0x60, 1, 0x4, 0, 30, .ro, 0x0, .warm, .raw⟩,
  ⟨0x4014040c, 3, 0x60, 1, 0x4, 0, 1, .w1s, 0x0, .warm, .raw⟩,
  ⟨0x40140410, 3, 0x60, 16, 0x4, 0, 32, .ro, 0x0, .warm, .raw⟩]

/-- Rows of the CAN1 registers. -/
def can1Rows : List FRow :=
  can1Rows1 ++ can1Rows2 ++ can1Rows3

/-- Rows of the INT registers, part 1 (R554). -/
def intRows1 : List FRow := [
  ⟨0x40040000, 1, 0x10000, 1, 0x4, 0, 1, .rw, 0x1, .warm, .raw⟩,
  ⟨0x40040000, 1, 0x10000, 1, 0x4, 1, 1, .rw, 0x0, .warm, .raw⟩,
  ⟨0x40040004, 1, 0x10000, 1, 0x4, 0, 32, .ro, 0x0, .warm, .raw⟩,
  ⟨0x40040008, 1, 0x10000, 1, 0x4, 0, 32, .ro, 0x0, .warm, .raw⟩,
  ⟨0x4004000c, 1, 0x10000, 1, 0x4, 0, 7, .ro, 0x7f, .warm, .raw⟩,
  ⟨0x4004000c, 1, 0x10000, 1, 0x4, 8, 1, .ro, 0x0, .warm, .raw⟩,
  ⟨0x40040010, 1, 0x10000, 1, 0x4, 0, 32, .ro, 0x0, .warm, .raw⟩,
  ⟨0x40040014, 1, 0x10000, 1, 0x4, 0, 32, .ro, 0x0, .warm, .raw⟩,
  ⟨0x40040100, 64, 0x10, 1, 0x4, 0, 32, .w1c, 0x0, .warm, .raw⟩,
  ⟨0x40040104, 45, 0x10, 1, 0x4, 0, 32, .rw, 0x0, .warm, .raw⟩,
  ⟨0x400403d4, 1, 0x10, 1, 0x4, 0, 32, .rw, 0x1, .warm, .raw⟩,
  ⟨0x400403e4, 18, 0x10, 1, 0x4, 0, 32, .rw, 0x0, .warm, .raw⟩,
  ⟨0x40040108, 64, 0x10, 1, 0x4, 0, 32, .wo, 0x0, .warm, .raw⟩,
  ⟨0x4004010c, 64, 0x10, 1, 0x4, 0, 32, .ro, 0x0, .warm, .raw⟩]

/-- Rows of the INT registers. -/
def intRows : List FRow :=
  intRows1

/-- Rows of the HOST registers, part 1 (R555). -/
def hostRows1 : List FRow := [
  ⟨0x40180000, 1, 0x10000, 1, 0x4, 0, 8, .rw, 0x10, .warm, .raw⟩,
  ⟨0x40180004, 1, 0x10000, 1, 0x4, 0, 5, .w1c, 0x0, .warm, .raw⟩,
  ⟨0x40180008, 1, 0x10000, 1, 0x4, 0, 16, .ro, 0x0, .warm, .raw⟩,
  ⟨0x40180008, 1, 0x10000, 1, 0x4, 16, 16, .ro, 0x0, .warm, .raw⟩,
  ⟨0x4018000c, 1, 0x10000, 1, 0x4, 0, 16, .ro, 0x0, .warm, .raw⟩,
  ⟨0x4018000c, 1, 0x10000, 1, 0x4, 16, 16, .ro, 0x0, .warm, .raw⟩,
  ⟨0x40180010, 1, 0x10000, 1, 0x4, 0, 32, .ro, 0x0, .warm, .raw⟩,
  ⟨0x40180014, 1, 0x10000, 1, 0x4, 0, 32, .rw, 0x0, .warm, .raw⟩,
  ⟨0x40180018, 1, 0x10000, 1, 0x4, 0, 16, .ro, 0x0, .warm, .raw⟩]

/-- Rows of the HOST registers. -/
def hostRows : List FRow :=
  hostRows1

/-- Rows of the HIMET registers, part 1 (R581). -/
def himetRows1 : List FRow := [
  ⟨0x40080000, 1, 0x10000, 1, 0x4, 0, 2, .ro, 0x0, .system, .raw⟩,
  ⟨0x40080000, 1, 0x10000, 1, 0x4, 2, 1, .ro, 0x0, .system, .raw⟩,
  ⟨0x40080000, 1, 0x10000, 1, 0x4, 3, 1, .ro, 0x0, .warm, .raw⟩,
  ⟨0x40080000, 1, 0x10000, 1, 0x4, 4, 2, .ro, 0x0, .system, .raw⟩,
  ⟨0x40080000, 1, 0x10000, 1, 0x4, 6, 1, .ro, 0x0, .warm, .raw⟩,
  ⟨0x40080000, 1, 0x10000, 1, 0x4, 7, 1, .ro, 0x0, .system, .raw⟩,
  ⟨0x40080000, 1, 0x10000, 1, 0x4, 8, 1, .ro, 0x0, .warm, .raw⟩,
  ⟨0x40080000, 1, 0x10000, 1, 0x4, 9, 1, .ro, 0x0, .system, .raw⟩,
  ⟨0x40080000, 1, 0x10000, 1, 0x4, 10, 1, .ro, 0x0, .system, .raw⟩,
  ⟨0x40080004, 1, 0x10000, 1, 0x4, 0, 4, .wo, 0x0, .warm, .raw⟩,
  ⟨0x40080004, 1, 0x10000, 1, 0x4, 8, 3, .wo, 0x0, .warm, .raw⟩,
  ⟨0x40080008, 1, 0x10000, 1, 0x4, 0, 8, .ro, 0x0, .warm, .raw⟩,
  ⟨0x4008000c, 1, 0x10000, 1, 0x4, 0, 8, .ro, 0x0, .warm, .raw⟩,
  ⟨0x4008000c, 1, 0x10000, 1, 0x4, 8, 8, .ro, 0x0, .warm, .raw⟩,
  ⟨0x4008000c, 1, 0x10000, 1, 0x4, 16, 16, .ro, 0x0, .warm, .raw⟩,
  ⟨0x40080010, 1, 0x10000, 1, 0x4, 0, 14, .rw, 0x0, .warm, .num 0 8192⟩,
  ⟨0x40080014, 1, 0x10000, 1, 0x4, 0, 16, .ro, 0x0, .warm, .raw⟩,
  ⟨0x40080014, 1, 0x10000, 1, 0x4, 16, 16, .ro, 0x0, .warm, .raw⟩,
  ⟨0x40080018, 1, 0x10000, 1, 0x4, 0, 32, .rs, 0x0, .warm, .raw⟩,
  ⟨0x40080020, 3, 0x4, 1, 0x4, 0, 32, .ro, 0x0, .system, .raw⟩,
  ⟨0x40080040, 8, 0x4, 1, 0x4, 0, 32, .ro, 0x0, .warm, .raw⟩,
  ⟨0x40080060, 8, 0x4, 1, 0x4, 0, 32, .rw, 0x0, .warm, .raw⟩,
  ⟨0x40080080, 8, 0x4, 1, 0x4, 0, 32, .ro, 0x0, .system, .raw⟩,
  ⟨0x400800a0, 1, 0x10000, 1, 0x4, 0, 8, .rw, 0x0, .warm, .raw⟩]

/-- Rows of the HIMET registers, part 2 (R581). -/
def himetRows2 : List FRow := [
  ⟨0x400800a4, 1, 0x10000, 1, 0x4, 0, 2, .wo, 0x0, .warm, .raw⟩,
  ⟨0x400800a8, 1, 0x10000, 1, 0x4, 0, 8, .ro, 0x0, .warm, .raw⟩,
  ⟨0x40082000, 2048, 0x4, 1, 0x4, 0, 32, .rw, 0x0, .warm, .raw⟩]

/-- Rows of the HIMET registers. -/
def himetRows : List FRow :=
  himetRows1 ++ himetRows2

/-- Rows of the SVC registers, part 1 (R601). -/
def svcRows1 : List FRow := [
  ⟨0x40160000, 1, 0x10000, 1, 0x4, 0, 16, .ro, 0x0, .const, .raw⟩,
  ⟨0x40160000, 1, 0x10000, 1, 0x4, 16, 16, .ro, 0x0, .const, .raw⟩,
  ⟨0x40160004, 1, 0x10000, 1, 0x4, 0, 2, .ro, 0x0, .warm, .raw⟩,
  ⟨0x40160004, 1, 0x10000, 1, 0x4, 2, 1, .ro, 0x0, .warm, .raw⟩,
  ⟨0x40160004, 1, 0x10000, 1, 0x4, 3, 2, .ro, 0x0, .warm, .raw⟩,
  ⟨0x40160004, 1, 0x10000, 1, 0x4, 5, 2, .ro, 0x0, .warm, .raw⟩,
  ⟨0x40160004, 1, 0x10000, 1, 0x4, 7, 1, .ro, 0x0, .system, .raw⟩,
  ⟨0x40160004, 1, 0x10000, 1, 0x4, 8, 2, .ro, 0x0, .system, .raw⟩,
  ⟨0x40160008, 1, 0x10000, 1, 0x4, 0, 9, .rw, 0xc8, .system, .raw⟩,
  ⟨0x4016000c, 1, 0x10000, 1, 0x4, 0, 4, .wo, 0x0, .warm, .raw⟩,
  ⟨0x40160010, 1, 0x10000, 1, 0x4, 0, 8, .ro, 0x0, .warm, .raw⟩,
  ⟨0x40160014, 1, 0x10000, 1, 0x4, 0, 8, .ro, 0x0, .warm, .raw⟩,
  ⟨0x40160014, 1, 0x10000, 1, 0x4, 8, 8, .ro, 0x0, .warm, .raw⟩,
  ⟨0x40160014, 1, 0x10000, 1, 0x4, 16, 16, .ro, 0x0, .warm, .raw⟩,
  ⟨0x40160018, 1, 0x10000, 1, 0x4, 0, 32, .ro, 0x0, .warm, .raw⟩,
  ⟨0x40160020, 1, 0x10000, 1, 0x4, 0, 32, .rw, 0x0, .warm, .raw⟩,
  ⟨0x40160024, 1, 0x10000, 1, 0x4, 0, 16, .rw, 0x0, .warm, .raw⟩,
  ⟨0x40160028, 1, 0x10000, 1, 0x4, 0, 30, .rw, 0x0, .warm, .raw⟩,
  ⟨0x40160040, 2, 0x40, 1, 0x4, 0, 3, .ro, 0x0, .system, .raw⟩,
  ⟨0x40160040, 2, 0x40, 1, 0x4, 16, 16, .ro, 0x0, .system, .raw⟩,
  ⟨0x40160044, 2, 0x40, 1, 0x4, 0, 32, .ro, 0x0, .system, .raw⟩,
  ⟨0x40160060, 2, 0x40, 8, 0x4, 0, 32, .ro, 0x0, .system, .raw⟩,
  ⟨0x40160100, 8, 0x4, 1, 0x4, 0, 32, .ro, 0x0, .system, .raw⟩,
  ⟨0x40160120, 8, 0x4, 1, 0x4, 0, 32, .ro, 0x0, .system, .raw⟩]

/-- Rows of the SVC registers. -/
def svcRows : List FRow :=
  svcRows1

/-- The rows of block n, in the block order of R33; block numbers without registers have none. -/
def rowsOfBlock : Nat → List FRow
  | 0 => sysRows
  | 1 => clkRows
  | 2 => timeRows
  | 3 => rstRows
  | 4 => intRows
  | 5 => patrolRows
  | 6 => triadRows
  | 7 => groomRows
  | 8 => himetRows
  | 9 => pisteRows
  | 10 => pwmRows
  | 11 => edgeRows
  | 12 => sdmRows
  | 13 => hkaRows
  | 14 => posRows
  | 15 => carveRows
  | 16 => slalomRows
  | 17 => profRows
  | 18 => driveRows
  | 19 => can0Rows
  | 20 => can1Rows
  | 21 => netRows
  | 22 => svcRows
  | 23 => probeRows
  | 24 => hostRows
  | _ => []

end RegMap

end Sys2Proof.Machine
end

