-- ==== Sys2Proof/Machine/Reg.lean ====
section
/-! DEFINITION. Named fields of the registers, from the same register tables: `BLOCK.REGISTER.FIELD`, with array
indexes as arguments. An address here is the full address of R3. -/

namespace Sys2Proof.Machine

/-- A field of one register: its address, lowest bit and width. -/
structure Fld where
  addr : Nat
  lsb : Nat
  width : Nat
deriving DecidableEq, Repr

namespace Reg

/-- Address of SYS.ID (R1). -/
abbrev SYS.ID.addr : Nat := 0x40000000
/-- SYS.ID.REV_LETTER (R1). -/
abbrev SYS.ID.REV_LETTER : Fld := ⟨0x40000000, 24, 8⟩
/-- SYS.ID.REV_DIGIT (R1). -/
abbrev SYS.ID.REV_DIGIT : Fld := ⟨0x40000000, 16, 8⟩
/-- SYS.ID.PART (R1). -/
abbrev SYS.ID.PART : Fld := ⟨0x40000000, 0, 16⟩
/-- Address of SYS.UID0 (R1). -/
abbrev SYS.UID0.addr : Nat := 0x40000004
/-- SYS.UID0.SERIAL_LO (R1). -/
abbrev SYS.UID0.SERIAL_LO : Fld := ⟨0x40000004, 0, 32⟩
/-- Address of SYS.UID1 (R1). -/
abbrev SYS.UID1.addr : Nat := 0x40000008
/-- SYS.UID1.SERIAL_HI (R1). -/
abbrev SYS.UID1.SERIAL_HI : Fld := ⟨0x40000008, 0, 32⟩
/-- Address of CLK.STATUS (R31). -/
abbrev CLK.STATUS.addr : Nat := 0x40010000
/-- CLK.STATUS.PLLA_LOCK (R31). -/
abbrev CLK.STATUS.PLLA_LOCK : Fld := ⟨0x40010000, 0, 1⟩
/-- CLK.STATUS.PLLB_LOCK (R31). -/
abbrev CLK.STATUS.PLLB_LOCK : Fld := ⟨0x40010000, 1, 1⟩
/-- CLK.STATUS.ACTIVE (R31). -/
abbrev CLK.STATUS.ACTIVE : Fld := ⟨0x40010000, 2, 1⟩
/-- CLK.STATUS.BRIDGE (R31). -/
abbrev CLK.STATUS.BRIDGE : Fld := ⟨0x40010000, 3, 1⟩
/-- CLK.STATUS.REF_OK (R31). -/
abbrev CLK.STATUS.REF_OK : Fld := ⟨0x40010000, 4, 1⟩
/-- CLK.STATUS.HOLDOVER (R31). -/
abbrev CLK.STATUS.HOLDOVER : Fld := ⟨0x40010000, 5, 1⟩
/-- Address of CLK.CTRL (R31). -/
abbrev CLK.CTRL.addr : Nat := 0x40010004
/-- CLK.CTRL.REF_OUT_EN (R31). -/
abbrev CLK.CTRL.REF_OUT_EN : Fld := ⟨0x40010004, 0, 1⟩
/-- CLK.CTRL.MOD_DIV (R31). -/
abbrev CLK.CTRL.MOD_DIV : Fld := ⟨0x40010004, 8, 1⟩
/-- Address of CLK.EPOCH (R31). -/
abbrev CLK.EPOCH.addr : Nat := 0x40010008
/-- CLK.EPOCH.COUNT (R31). -/
abbrev CLK.EPOCH.COUNT : Fld := ⟨0x40010008, 0, 32⟩
/-- Address of CLK.EVENTS (R31). -/
abbrev CLK.EVENTS.addr : Nat := 0x4001000c
/-- CLK.EVENTS.SWITCHES (R31). -/
abbrev CLK.EVENTS.SWITCHES : Fld := ⟨0x4001000c, 0, 16⟩
/-- CLK.EVENTS.REF_LOSSES (R31). -/
abbrev CLK.EVENTS.REF_LOSSES : Fld := ⟨0x4001000c, 16, 16⟩
/-- Address of PISTE.STATUS (R96). -/
abbrev PISTE.STATUS.addr : Nat := 0x40090000
/-- PISTE.STATUS.STATE (R96). -/
abbrev PISTE.STATUS.STATE : Fld := ⟨0x40090000, 0, 3⟩
/-- PISTE.STATUS.ENCRYPTED (R96). -/
abbrev PISTE.STATUS.ENCRYPTED : Fld := ⟨0x40090000, 3, 1⟩
/-- PISTE.STATUS.TILES_USED (R96). -/
abbrev PISTE.STATUS.TILES_USED : Fld := ⟨0x40090000, 8, 8⟩
/-- Address of PISTE.LOAD_STATUS (R96). -/
abbrev PISTE.LOAD_STATUS.addr : Nat := 0x40090004
/-- PISTE.LOAD_STATUS.CODE (R96). -/
abbrev PISTE.LOAD_STATUS.CODE : Fld := ⟨0x40090004, 0, 8⟩
/-- PISTE.LOAD_STATUS.SECTION (R96). -/
abbrev PISTE.LOAD_STATUS.SECTION : Fld := ⟨0x40090004, 8, 8⟩
/-- Address of PISTE.FMT (R96). -/
abbrev PISTE.FMT.addr : Nat := 0x40090008
/-- PISTE.FMT.MINOR (R96). -/
abbrev PISTE.FMT.MINOR : Fld := ⟨0x40090008, 0, 16⟩
/-- PISTE.FMT.MAJOR (R96). -/
abbrev PISTE.FMT.MAJOR : Fld := ⟨0x40090008, 16, 16⟩
/-- Address of PISTE.SEC_VERSION (R96). -/
abbrev PISTE.SEC_VERSION.addr : Nat := 0x4009000c
/-- PISTE.SEC_VERSION.VALUE (R96). -/
abbrev PISTE.SEC_VERSION.VALUE : Fld := ⟨0x4009000c, 0, 32⟩
/-- Address of PISTE.BUILD (R96). -/
abbrev PISTE.BUILD.addr : Nat := 0x40090010
/-- PISTE.BUILD.VALUE (R96). -/
abbrev PISTE.BUILD.VALUE : Fld := ⟨0x40090010, 0, 32⟩
/-- Address of PISTE.COURSE_ID (R96). -/
abbrev PISTE.COURSE_ID.addr (n : Nat) : Nat := 0x40090014 + n * 0x4
/-- PISTE.COURSE_ID.ID (R96). -/
abbrev PISTE.COURSE_ID.ID (n : Nat) : Fld := ⟨0x40090014 + n * 0x4, 0, 32⟩
/-- Address of PISTE.CDIGEST (R96). -/
abbrev PISTE.CDIGEST.addr (n : Nat) : Nat := 0x40090040 + n * 0x4
/-- PISTE.CDIGEST.DIGEST (R96). -/
abbrev PISTE.CDIGEST.DIGEST (n : Nat) : Fld := ⟨0x40090040 + n * 0x4, 0, 32⟩
/-- Address of PISTE.FPRINT (R96). -/
abbrev PISTE.FPRINT.addr (n : Nat) : Nat := 0x40090060 + n * 0x4
/-- PISTE.FPRINT.FP (R96). -/
abbrev PISTE.FPRINT.FP (n : Nat) : Fld := ⟨0x40090060 + n * 0x4, 0, 32⟩
/-- Address of PISTE.SCRUB_CNT (R96). -/
abbrev PISTE.SCRUB_CNT.addr : Nat := 0x40090080
/-- PISTE.SCRUB_CNT.PASSES (R96). -/
abbrev PISTE.SCRUB_CNT.PASSES : Fld := ⟨0x40090080, 0, 16⟩
/-- PISTE.SCRUB_CNT.FIXES (R96). -/
abbrev PISTE.SCRUB_CNT.FIXES : Fld := ⟨0x40090080, 16, 16⟩
/-- Address of PISTE.SCRUB_LAST (R96). -/
abbrev PISTE.SCRUB_LAST.addr : Nat := 0x40090084
/-- PISTE.SCRUB_LAST.LANE (R96). -/
abbrev PISTE.SCRUB_LAST.LANE : Fld := ⟨0x40090084, 0, 2⟩
/-- PISTE.SCRUB_LAST.TILE (R96). -/
abbrev PISTE.SCRUB_LAST.TILE : Fld := ⟨0x40090084, 2, 8⟩
/-- Address of PISTE.SPARES (R96). -/
abbrev PISTE.SPARES.addr : Nat := 0x40090088
/-- PISTE.SPARES.LEFT (R96). -/
abbrev PISTE.SPARES.LEFT : Fld := ⟨0x40090088, 0, 16⟩
/-- Address of PISTE.CMD (R96). -/
abbrev PISTE.CMD.addr : Nat := 0x4009008c
/-- PISTE.CMD.CODE (R96). -/
abbrev PISTE.CMD.CODE : Fld := ⟨0x4009008c, 0, 4⟩
/-- Address of PISTE.CMD_STATUS (R96). -/
abbrev PISTE.CMD_STATUS.addr : Nat := 0x40090090
/-- PISTE.CMD_STATUS.CODE (R96). -/
abbrev PISTE.CMD_STATUS.CODE : Fld := ⟨0x40090090, 0, 8⟩
/-- PISTE.CMD_STATUS.BUSY (R96). -/
abbrev PISTE.CMD_STATUS.BUSY : Fld := ⟨0x40090090, 8, 1⟩
/-- Address of PISTE.READBACK (R96). -/
abbrev PISTE.READBACK.addr : Nat := 0x40090094
/-- PISTE.READBACK.MISMATCHES (R96). -/
abbrev PISTE.READBACK.MISMATCHES : Fld := ⟨0x40090094, 0, 16⟩
/-- PISTE.READBACK.SEQ (R96). -/
abbrev PISTE.READBACK.SEQ : Fld := ⟨0x40090094, 16, 16⟩
/-- Address of PISTE.ENV_ADDR (R96). -/
abbrev PISTE.ENV_ADDR.addr : Nat := 0x400900a0
/-- PISTE.ENV_ADDR.ADDR (R96). -/
abbrev PISTE.ENV_ADDR.ADDR : Fld := ⟨0x400900a0, 0, 32⟩
/-- Address of PISTE.ENV_LSB (R96). -/
abbrev PISTE.ENV_LSB.addr : Nat := 0x400900a4
/-- PISTE.ENV_LSB.LSB (R96). -/
abbrev PISTE.ENV_LSB.LSB : Fld := ⟨0x400900a4, 0, 5⟩
/-- Address of PISTE.ENV_INFO (R96). -/
abbrev PISTE.ENV_INFO.addr : Nat := 0x400900a8
/-- PISTE.ENV_INFO.FOUND (R96). -/
abbrev PISTE.ENV_INFO.FOUND : Fld := ⟨0x400900a8, 0, 1⟩
/-- PISTE.ENV_INFO.TYPE (R96). -/
abbrev PISTE.ENV_INFO.TYPE : Fld := ⟨0x400900a8, 1, 2⟩
/-- PISTE.ENV_INFO.WIDTH (R96). -/
abbrev PISTE.ENV_INFO.WIDTH : Fld := ⟨0x400900a8, 8, 6⟩
/-- Address of PISTE.ENV_MIN (R96). -/
abbrev PISTE.ENV_MIN.addr : Nat := 0x400900ac
/-- PISTE.ENV_MIN.MIN (R96). -/
abbrev PISTE.ENV_MIN.MIN : Fld := ⟨0x400900ac, 0, 32⟩
/-- Address of PISTE.ENV_MAX (R96). -/
abbrev PISTE.ENV_MAX.addr : Nat := 0x400900b0
/-- PISTE.ENV_MAX.MAX (R96). -/
abbrev PISTE.ENV_MAX.MAX : Fld := ⟨0x400900b0, 0, 32⟩
/-- Address of SDM.LOCK (R126). -/
abbrev SDM.LOCK.addr : Nat := 0x400c0000
/-- SDM.LOCK.val (R126). -/
abbrev SDM.LOCK.val : Fld := ⟨0x400c0000, 0, 1⟩
/-- Address of SDM.STUCK0 (R126). -/
abbrev SDM.STUCK0.addr : Nat := 0x400c0004
/-- SDM.STUCK0.STREAM (R126). -/
abbrev SDM.STUCK0.STREAM : Fld := ⟨0x400c0004, 0, 32⟩
/-- Address of SDM.STUCK1 (R126). -/
abbrev SDM.STUCK1.addr : Nat := 0x400c0008
/-- SDM.STUCK1.STREAM (R126). -/
abbrev SDM.STUCK1.STREAM : Fld := ⟨0x400c0008, 0, 32⟩
/-- Address of SDM.STUCK2 (R126). -/
abbrev SDM.STUCK2.addr : Nat := 0x400c000c
/-- SDM.STUCK2.SDX (R126). -/
abbrev SDM.STUCK2.SDX : Fld := ⟨0x400c000c, 0, 16⟩
/-- Address of SDM.SPARES (R126). -/
abbrev SDM.SPARES.addr : Nat := 0x400c0010
/-- SDM.SPARES.LEFT (R126). -/
abbrev SDM.SPARES.LEFT : Fld := ⟨0x400c0010, 0, 3⟩
/-- Address of SDM.PHV_CFG (R126). -/
abbrev SDM.PHV_CFG.addr : Nat := 0x400c0020
/-- SDM.PHV_CFG.DEC (R126). -/
abbrev SDM.PHV_CFG.DEC : Fld := ⟨0x400c0020, 0, 9⟩
/-- SDM.PHV_CFG.MODE (R126). -/
abbrev SDM.PHV_CFG.MODE : Fld := ⟨0x400c0020, 12, 2⟩
/-- SDM.PHV_CFG.TASK (R126). -/
abbrev SDM.PHV_CFG.TASK : Fld := ⟨0x400c0020, 16, 3⟩
/-- SDM.PHV_CFG.ENABLE (R126). -/
abbrev SDM.PHV_CFG.ENABLE : Fld := ⟨0x400c0020, 31, 1⟩
/-- Address of SDM.DCL_CFG (R126). -/
abbrev SDM.DCL_CFG.addr : Nat := 0x400c0024
/-- SDM.DCL_CFG.DEC (R126). -/
abbrev SDM.DCL_CFG.DEC : Fld := ⟨0x400c0024, 0, 9⟩
/-- SDM.DCL_CFG.MODE (R126). -/
abbrev SDM.DCL_CFG.MODE : Fld := ⟨0x400c0024, 12, 2⟩
/-- SDM.DCL_CFG.TASK (R126). -/
abbrev SDM.DCL_CFG.TASK : Fld := ⟨0x400c0024, 16, 3⟩
/-- SDM.DCL_CFG.ENABLE (R126). -/
abbrev SDM.DCL_CFG.ENABLE : Fld := ⟨0x400c0024, 31, 1⟩
/-- Address of SDM.DCL_TOL (R126). -/
abbrev SDM.DCL_TOL.addr : Nat := 0x400c0028
/-- SDM.DCL_TOL.TOL (R126). -/
abbrev SDM.DCL_TOL.TOL : Fld := ⟨0x400c0028, 0, 12⟩
/-- Address of SDM.DCL_OV0 (R126). -/
abbrev SDM.DCL_OV0.addr : Nat := 0x400c002c
/-- SDM.DCL_OV0.OV_LIM (R126). -/
abbrev SDM.DCL_OV0.OV_LIM : Fld := ⟨0x400c002c, 0, 12⟩
/-- SDM.DCL_OV0.OV_CHOP (R126). -/
abbrev SDM.DCL_OV0.OV_CHOP : Fld := ⟨0x400c002c, 16, 12⟩
/-- Address of SDM.DCL_OV1 (R126). -/
abbrev SDM.DCL_OV1.addr : Nat := 0x400c0030
/-- SDM.DCL_OV1.OV_TRIP2 (R126). -/
abbrev SDM.DCL_OV1.OV_TRIP2 : Fld := ⟨0x400c0030, 0, 12⟩
/-- SDM.DCL_OV1.OV_TRIP3 (R126). -/
abbrev SDM.DCL_OV1.OV_TRIP3 : Fld := ⟨0x400c0030, 16, 12⟩
/-- Address of SDM.DCL_UV (R126). -/
abbrev SDM.DCL_UV.addr : Nat := 0x400c0034
/-- SDM.DCL_UV.UV_TRIP (R126). -/
abbrev SDM.DCL_UV.UV_TRIP : Fld := ⟨0x400c0034, 0, 12⟩
/-- SDM.DCL_UV.UV_WARN (R126). -/
abbrev SDM.DCL_UV.UV_WARN : Fld := ⟨0x400c0034, 16, 12⟩
/-- Address of SDM.DCL_A_RES (R126). -/
abbrev SDM.DCL_A_RES.addr : Nat := 0x400c0040
/-- SDM.DCL_A_RES.VALUE (R126). -/
abbrev SDM.DCL_A_RES.VALUE : Fld := ⟨0x400c0040, 0, 32⟩
/-- Address of SDM.DCL_A_INFO (R126). -/
abbrev SDM.DCL_A_INFO.addr : Nat := 0x400c0044
/-- SDM.DCL_A_INFO.SEQ (R126). -/
abbrev SDM.DCL_A_INFO.SEQ : Fld := ⟨0x400c0044, 0, 16⟩
/-- SDM.DCL_A_INFO.VALID (R126). -/
abbrev SDM.DCL_A_INFO.VALID : Fld := ⟨0x400c0044, 16, 1⟩
/-- SDM.DCL_A_INFO.NEW (R126). -/
abbrev SDM.DCL_A_INFO.NEW : Fld := ⟨0x400c0044, 17, 1⟩
/-- SDM.DCL_A_INFO.OVERLOAD (R126). -/
abbrev SDM.DCL_A_INFO.OVERLOAD : Fld := ⟨0x400c0044, 19, 1⟩
/-- Address of SDM.DCL_B_RES (R126). -/
abbrev SDM.DCL_B_RES.addr : Nat := 0x400c0048
/-- SDM.DCL_B_RES.VALUE (R126). -/
abbrev SDM.DCL_B_RES.VALUE : Fld := ⟨0x400c0048, 0, 32⟩
/-- Address of SDM.DCL_B_INFO (R126). -/
abbrev SDM.DCL_B_INFO.addr : Nat := 0x400c004c
/-- SDM.DCL_B_INFO.SEQ (R126). -/
abbrev SDM.DCL_B_INFO.SEQ : Fld := ⟨0x400c004c, 0, 16⟩
/-- SDM.DCL_B_INFO.VALID (R126). -/
abbrev SDM.DCL_B_INFO.VALID : Fld := ⟨0x400c004c, 16, 1⟩
/-- SDM.DCL_B_INFO.NEW (R126). -/
abbrev SDM.DCL_B_INFO.NEW : Fld := ⟨0x400c004c, 17, 1⟩
/-- SDM.DCL_B_INFO.OVERLOAD (R126). -/
abbrev SDM.DCL_B_INFO.OVERLOAD : Fld := ⟨0x400c004c, 19, 1⟩
/-- Address of SDM.PHV_RES (R126). -/
abbrev SDM.PHV_RES.addr (n : Nat) : Nat := 0x400c0080 + n * 0x8
/-- SDM.PHV_RES.VALUE (R126). -/
abbrev SDM.PHV_RES.VALUE (n : Nat) : Fld := ⟨0x400c0080 + n * 0x8, 0, 32⟩
/-- Address of SDM.PHV_INFO (R126). -/
abbrev SDM.PHV_INFO.addr (n : Nat) : Nat := 0x400c0084 + n * 0x8
/-- SDM.PHV_INFO.SEQ (R126). -/
abbrev SDM.PHV_INFO.SEQ (n : Nat) : Fld := ⟨0x400c0084 + n * 0x8, 0, 16⟩
/-- SDM.PHV_INFO.VALID (R126). -/
abbrev SDM.PHV_INFO.VALID (n : Nat) : Fld := ⟨0x400c0084 + n * 0x8, 16, 1⟩
/-- SDM.PHV_INFO.NEW (R126). -/
abbrev SDM.PHV_INFO.NEW (n : Nat) : Fld := ⟨0x400c0084 + n * 0x8, 17, 1⟩
/-- SDM.PHV_INFO.OVERLOAD (R126). -/
abbrev SDM.PHV_INFO.OVERLOAD (n : Nat) : Fld := ⟨0x400c0084 + n * 0x8, 19, 1⟩
/-- Address of SDM.F.CFG (R126). -/
abbrev SDM.F.CFG.addr (n : Nat) : Nat := 0x400c1000 + n * 0x40
/-- SDM.F.CFG.INPUT_A (R126). -/
abbrev SDM.F.CFG.INPUT_A (n : Nat) : Fld := ⟨0x400c1000 + n * 0x40, 0, 7⟩
/-- SDM.F.CFG.INPUT_B (R126). -/
abbrev SDM.F.CFG.INPUT_B (n : Nat) : Fld := ⟨0x400c1000 + n * 0x40, 8, 7⟩
/-- SDM.F.CFG.ORDER (R126). -/
abbrev SDM.F.CFG.ORDER (n : Nat) : Fld := ⟨0x400c1000 + n * 0x40, 16, 2⟩
/-- SDM.F.CFG.MODE (R126). -/
abbrev SDM.F.CFG.MODE (n : Nat) : Fld := ⟨0x400c1000 + n * 0x40, 18, 2⟩
/-- SDM.F.CFG.TASK (R126). -/
abbrev SDM.F.CFG.TASK (n : Nat) : Fld := ⟨0x400c1000 + n * 0x40, 20, 3⟩
/-- SDM.F.CFG.ENABLE (R126). -/
abbrev SDM.F.CFG.ENABLE (n : Nat) : Fld := ⟨0x400c1000 + n * 0x40, 31, 1⟩
/-- Address of SDM.F.DEC (R126). -/
abbrev SDM.F.DEC.addr (n : Nat) : Nat := 0x400c1004 + n * 0x40
/-- SDM.F.DEC.D (R126). -/
abbrev SDM.F.DEC.D (n : Nat) : Fld := ⟨0x400c1004 + n * 0x40, 0, 9⟩
/-- Address of SDM.F.GAIN (R126). -/
abbrev SDM.F.GAIN.addr (n : Nat) : Nat := 0x400c1008 + n * 0x40
/-- SDM.F.GAIN.val (R126). -/
abbrev SDM.F.GAIN.val (n : Nat) : Fld := ⟨0x400c1008 + n * 0x40, 0, 32⟩
/-- Address of SDM.F.OFFSET (R126). -/
abbrev SDM.F.OFFSET.addr (n : Nat) : Nat := 0x400c100c + n * 0x40
/-- SDM.F.OFFSET.val (R126). -/
abbrev SDM.F.OFFSET.val (n : Nat) : Fld := ⟨0x400c100c + n * 0x40, 0, 32⟩
/-- Address of SDM.F.CMP_CFG (R126). -/
abbrev SDM.F.CMP_CFG.addr (n : Nat) : Nat := 0x400c1010 + n * 0x40
/-- SDM.F.CMP_CFG.CORDER (R126). -/
abbrev SDM.F.CMP_CFG.CORDER (n : Nat) : Fld := ⟨0x400c1010 + n * 0x40, 0, 2⟩
/-- SDM.F.CMP_CFG.CDEC (R126). -/
abbrev SDM.F.CMP_CFG.CDEC (n : Nat) : Fld := ⟨0x400c1010 + n * 0x40, 2, 6⟩
/-- SDM.F.CMP_CFG.CCOUNT (R126). -/
abbrev SDM.F.CMP_CFG.CCOUNT (n : Nat) : Fld := ⟨0x400c1010 + n * 0x40, 8, 3⟩
/-- SDM.F.CMP_CFG.EN_HI (R126). -/
abbrev SDM.F.CMP_CFG.EN_HI (n : Nat) : Fld := ⟨0x400c1010 + n * 0x40, 11, 1⟩
/-- SDM.F.CMP_CFG.EN_LO (R126). -/
abbrev SDM.F.CMP_CFG.EN_LO (n : Nat) : Fld := ⟨0x400c1010 + n * 0x40, 12, 1⟩
/-- Address of SDM.F.CMP_HI (R126). -/
abbrev SDM.F.CMP_HI.addr (n : Nat) : Nat := 0x400c1014 + n * 0x40
/-- SDM.F.CMP_HI.HI (R126). -/
abbrev SDM.F.CMP_HI.HI (n : Nat) : Fld := ⟨0x400c1014 + n * 0x40, 0, 32⟩
/-- Address of SDM.F.CMP_LO (R126). -/
abbrev SDM.F.CMP_LO.addr (n : Nat) : Nat := 0x400c1018 + n * 0x40
/-- SDM.F.CMP_LO.LO (R126). -/
abbrev SDM.F.CMP_LO.LO (n : Nat) : Fld := ⟨0x400c1018 + n * 0x40, 0, 32⟩
/-- Address of SDM.F.CMP_HYS (R126). -/
abbrev SDM.F.CMP_HYS.addr (n : Nat) : Nat := 0x400c101c + n * 0x40
/-- SDM.F.CMP_HYS.HYS (R126). -/
abbrev SDM.F.CMP_HYS.HYS (n : Nat) : Fld := ⟨0x400c101c + n * 0x40, 0, 32⟩
/-- Address of SDM.F.PAIR (R126). -/
abbrev SDM.F.PAIR.addr (n : Nat) : Nat := 0x400c1020 + n * 0x40
/-- SDM.F.PAIR.PARTNER (R126). -/
abbrev SDM.F.PAIR.PARTNER (n : Nat) : Fld := ⟨0x400c1020 + n * 0x40, 0, 6⟩
/-- SDM.F.PAIR.PAIR_EN (R126). -/
abbrev SDM.F.PAIR.PAIR_EN (n : Nat) : Fld := ⟨0x400c1020 + n * 0x40, 6, 1⟩
/-- SDM.F.PAIR.FAILOVER (R126). -/
abbrev SDM.F.PAIR.FAILOVER (n : Nat) : Fld := ⟨0x400c1020 + n * 0x40, 7, 1⟩
/-- SDM.F.PAIR.PCOUNT (R126). -/
abbrev SDM.F.PAIR.PCOUNT (n : Nat) : Fld := ⟨0x400c1020 + n * 0x40, 8, 4⟩
/-- Address of SDM.F.PAIR_TOL (R126). -/
abbrev SDM.F.PAIR_TOL.addr (n : Nat) : Nat := 0x400c1024 + n * 0x40
/-- SDM.F.PAIR_TOL.TOL (R126). -/
abbrev SDM.F.PAIR_TOL.TOL (n : Nat) : Fld := ⟨0x400c1024 + n * 0x40, 0, 32⟩
/-- Address of SDM.F.RES (R126). -/
abbrev SDM.F.RES.addr (n : Nat) : Nat := 0x400c1028 + n * 0x40
/-- SDM.F.RES.VALUE (R126). -/
abbrev SDM.F.RES.VALUE (n : Nat) : Fld := ⟨0x400c1028 + n * 0x40, 0, 32⟩
/-- Address of SDM.F.INFO (R126). -/
abbrev SDM.F.INFO.addr (n : Nat) : Nat := 0x400c102c + n * 0x40
/-- SDM.F.INFO.SEQ (R126). -/
abbrev SDM.F.INFO.SEQ (n : Nat) : Fld := ⟨0x400c102c + n * 0x40, 0, 16⟩
/-- SDM.F.INFO.VALID (R126). -/
abbrev SDM.F.INFO.VALID (n : Nat) : Fld := ⟨0x400c102c + n * 0x40, 16, 1⟩
/-- SDM.F.INFO.NEW (R126). -/
abbrev SDM.F.INFO.NEW (n : Nat) : Fld := ⟨0x400c102c + n * 0x40, 17, 1⟩
/-- SDM.F.INFO.EDGE (R126). -/
abbrev SDM.F.INFO.EDGE (n : Nat) : Fld := ⟨0x400c102c + n * 0x40, 18, 1⟩
/-- SDM.F.INFO.OVERLOAD (R126). -/
abbrev SDM.F.INFO.OVERLOAD (n : Nat) : Fld := ⟨0x400c102c + n * 0x40, 19, 1⟩
/-- SDM.F.INFO.SUBST (R126). -/
abbrev SDM.F.INFO.SUBST (n : Nat) : Fld := ⟨0x400c102c + n * 0x40, 20, 1⟩
/-- SDM.F.INFO.CMP_HI (R126). -/
abbrev SDM.F.INFO.CMP_HI (n : Nat) : Fld := ⟨0x400c102c + n * 0x40, 21, 1⟩
/-- SDM.F.INFO.CMP_LO (R126). -/
abbrev SDM.F.INFO.CMP_LO (n : Nat) : Fld := ⟨0x400c102c + n * 0x40, 22, 1⟩
/-- Address of SDM.F.RAW (R126). -/
abbrev SDM.F.RAW.addr (n : Nat) : Nat := 0x400c1030 + n * 0x40
/-- SDM.F.RAW.val (R126). -/
abbrev SDM.F.RAW.val (n : Nat) : Fld := ⟨0x400c1030 + n * 0x40, 0, 24⟩
/-- Address of POS.LOCK (R158). -/
abbrev POS.LOCK.addr : Nat := 0x400e0000
/-- POS.LOCK.val (R158). -/
abbrev POS.LOCK.val : Fld := ⟨0x400e0000, 0, 1⟩
/-- Address of POS.CH.CFG (R158). -/
abbrev POS.CH.CFG.addr (n : Nat) : Nat := 0x400e0100 + n * 0x100
/-- POS.CH.CFG.MODE (R158). -/
abbrev POS.CH.CFG.MODE (n : Nat) : Fld := ⟨0x400e0100 + n * 0x100, 0, 3⟩
/-- POS.CH.CFG.SLOT (R158). -/
abbrev POS.CH.CFG.SLOT (n : Nat) : Fld := ⟨0x400e0100 + n * 0x100, 4, 2⟩
/-- POS.CH.CFG.NOSLOT (R158). -/
abbrev POS.CH.CFG.NOSLOT (n : Nat) : Fld := ⟨0x400e0100 + n * 0x100, 6, 1⟩
/-- POS.CH.CFG.DIR_INV (R158). -/
abbrev POS.CH.CFG.DIR_INV (n : Nat) : Fld := ⟨0x400e0100 + n * 0x100, 7, 1⟩
/-- POS.CH.CFG.TERM (R158). -/
abbrev POS.CH.CFG.TERM (n : Nat) : Fld := ⟨0x400e0100 + n * 0x100, 8, 1⟩
/-- POS.CH.CFG.INTERP (R158). -/
abbrev POS.CH.CFG.INTERP (n : Nat) : Fld := ⟨0x400e0100 + n * 0x100, 9, 1⟩
/-- POS.CH.CFG.NOREF (R158). -/
abbrev POS.CH.CFG.NOREF (n : Nat) : Fld := ⟨0x400e0100 + n * 0x100, 10, 1⟩
/-- POS.CH.CFG.FILT (R158). -/
abbrev POS.CH.CFG.FILT (n : Nat) : Fld := ⟨0x400e0100 + n * 0x100, 12, 4⟩
/-- POS.CH.CFG.TASK (R158). -/
abbrev POS.CH.CFG.TASK (n : Nat) : Fld := ⟨0x400e0100 + n * 0x100, 16, 3⟩
/-- POS.CH.CFG.ENABLE (R158). -/
abbrev POS.CH.CFG.ENABLE (n : Nat) : Fld := ⟨0x400e0100 + n * 0x100, 31, 1⟩
/-- Address of POS.CH.LINES (R158). -/
abbrev POS.CH.LINES.addr (n : Nat) : Nat := 0x400e0104 + n * 0x100
/-- POS.CH.LINES.val (R158). -/
abbrev POS.CH.LINES.val (n : Nat) : Fld := ⟨0x400e0104 + n * 0x100, 0, 20⟩
/-- Address of POS.CH.ANGLE_OFFSET (R158). -/
abbrev POS.CH.ANGLE_OFFSET.addr (n : Nat) : Nat := 0x400e0108 + n * 0x100
/-- POS.CH.ANGLE_OFFSET.OFFSET (R158). -/
abbrev POS.CH.ANGLE_OFFSET.OFFSET (n : Nat) : Fld := ⟨0x400e0108 + n * 0x100, 0, 32⟩
/-- Address of POS.CH.SPEED_CFG (R158). -/
abbrev POS.CH.SPEED_CFG.addr (n : Nat) : Nat := 0x400e010c + n * 0x100
/-- POS.CH.SPEED_CFG.SPAN (R158). -/
abbrev POS.CH.SPEED_CFG.SPAN (n : Nat) : Fld := ⟨0x400e010c + n * 0x100, 0, 4⟩
/-- POS.CH.SPEED_CFG.ZERO_TIME (R158). -/
abbrev POS.CH.SPEED_CFG.ZERO_TIME (n : Nat) : Fld := ⟨0x400e010c + n * 0x100, 8, 8⟩
/-- Address of POS.CH.INDEX (R158). -/
abbrev POS.CH.INDEX.addr (n : Nat) : Nat := 0x400e0110 + n * 0x100
/-- POS.CH.INDEX.INDEX_MODE (R158). -/
abbrev POS.CH.INDEX.INDEX_MODE (n : Nat) : Fld := ⟨0x400e0110 + n * 0x100, 0, 2⟩
/-- POS.CH.INDEX.QUAL (R158). -/
abbrev POS.CH.INDEX.QUAL (n : Nat) : Fld := ⟨0x400e0110 + n * 0x100, 2, 2⟩
/-- POS.CH.INDEX.INDEX_TOL (R158). -/
abbrev POS.CH.INDEX.INDEX_TOL (n : Nat) : Fld := ⟨0x400e0110 + n * 0x100, 8, 8⟩
/-- Address of POS.CH.LIMITS (R158). -/
abbrev POS.CH.LIMITS.addr (n : Nat) : Nat := 0x400e0114 + n * 0x100
/-- POS.CH.LIMITS.ILLEGAL_LIMIT (R158). -/
abbrev POS.CH.LIMITS.ILLEGAL_LIMIT (n : Nat) : Fld := ⟨0x400e0114 + n * 0x100, 0, 8⟩
/-- POS.CH.LIMITS.ILL_WINDOW (R158). -/
abbrev POS.CH.LIMITS.ILL_WINDOW (n : Nat) : Fld := ⟨0x400e0114 + n * 0x100, 8, 8⟩
/-- POS.CH.LIMITS.WIRE_TIME (R158). -/
abbrev POS.CH.LIMITS.WIRE_TIME (n : Nat) : Fld := ⟨0x400e0114 + n * 0x100, 16, 8⟩
/-- POS.CH.LIMITS.ERR_LIMIT (R158). -/
abbrev POS.CH.LIMITS.ERR_LIMIT (n : Nat) : Fld := ⟨0x400e0114 + n * 0x100, 24, 4⟩
/-- POS.CH.LIMITS.PLAUS_COUNT (R158). -/
abbrev POS.CH.LIMITS.PLAUS_COUNT (n : Nat) : Fld := ⟨0x400e0114 + n * 0x100, 28, 4⟩
/-- Address of POS.CH.FREEZE (R158). -/
abbrev POS.CH.FREEZE.addr (n : Nat) : Nat := 0x400e0118 + n * 0x100
/-- POS.CH.FREEZE.FREEZE_TIME (R158). -/
abbrev POS.CH.FREEZE.FREEZE_TIME (n : Nat) : Fld := ⟨0x400e0118 + n * 0x100, 0, 12⟩
/-- POS.CH.FREEZE.FREEZE_DELTA (R158). -/
abbrev POS.CH.FREEZE.FREEZE_DELTA (n : Nat) : Fld := ⟨0x400e0118 + n * 0x100, 16, 8⟩
/-- POS.CH.FREEZE.TORQ_PORT (R158). -/
abbrev POS.CH.FREEZE.TORQ_PORT (n : Nat) : Fld := ⟨0x400e0118 + n * 0x100, 24, 6⟩
/-- POS.CH.FREEZE.FREEZE_EN (R158). -/
abbrev POS.CH.FREEZE.FREEZE_EN (n : Nat) : Fld := ⟨0x400e0118 + n * 0x100, 30, 1⟩
/-- POS.CH.FREEZE.PLAUS_EN (R158). -/
abbrev POS.CH.FREEZE.PLAUS_EN (n : Nat) : Fld := ⟨0x400e0118 + n * 0x100, 31, 1⟩
/-- Address of POS.CH.FREEZE_TORQUE (R158). -/
abbrev POS.CH.FREEZE_TORQUE.addr (n : Nat) : Nat := 0x400e011c + n * 0x100
/-- POS.CH.FREEZE_TORQUE.TORQUE (R158). -/
abbrev POS.CH.FREEZE_TORQUE.TORQUE (n : Nat) : Fld := ⟨0x400e011c + n * 0x100, 0, 32⟩
/-- Address of POS.CH.PLAUS (R158). -/
abbrev POS.CH.PLAUS.addr (n : Nat) : Nat := 0x400e0120 + n * 0x100
/-- POS.CH.PLAUS.OBS_PORT (R158). -/
abbrev POS.CH.PLAUS.OBS_PORT (n : Nat) : Fld := ⟨0x400e0120 + n * 0x100, 0, 6⟩
/-- Address of POS.CH.PLAUS_BOUND (R158). -/
abbrev POS.CH.PLAUS_BOUND.addr (n : Nat) : Nat := 0x400e0124 + n * 0x100
/-- POS.CH.PLAUS_BOUND.BOUND (R158). -/
abbrev POS.CH.PLAUS_BOUND.BOUND (n : Nat) : Fld := ⟨0x400e0124 + n * 0x100, 0, 32⟩
/-- Address of POS.CH.RES_CFG (R158). -/
abbrev POS.CH.RES_CFG.addr (n : Nat) : Nat := 0x400e0128 + n * 0x100
/-- POS.CH.RES_CFG.EXC_FREQ (R158). -/
abbrev POS.CH.RES_CFG.EXC_FREQ (n : Nat) : Fld := ⟨0x400e0128 + n * 0x100, 0, 3⟩
/-- POS.CH.RES_CFG.PHASE_AUTO (R158). -/
abbrev POS.CH.RES_CFG.PHASE_AUTO (n : Nat) : Fld := ⟨0x400e0128 + n * 0x100, 3, 1⟩
/-- POS.CH.RES_CFG.EXC_AMP (R158). -/
abbrev POS.CH.RES_CFG.EXC_AMP (n : Nat) : Fld := ⟨0x400e0128 + n * 0x100, 4, 7⟩
/-- POS.CH.RES_CFG.RES_PP (R158). -/
abbrev POS.CH.RES_CFG.RES_PP (n : Nat) : Fld := ⟨0x400e0128 + n * 0x100, 12, 4⟩
/-- POS.CH.RES_CFG.BW (R158). -/
abbrev POS.CH.RES_CFG.BW (n : Nat) : Fld := ⟨0x400e0128 + n * 0x100, 16, 7⟩
/-- Address of POS.CH.RES_MON (R158). -/
abbrev POS.CH.RES_MON.addr (n : Nat) : Nat := 0x400e012c + n * 0x100
/-- POS.CH.RES_MON.AMP_MIN (R158). -/
abbrev POS.CH.RES_MON.AMP_MIN (n : Nat) : Fld := ⟨0x400e012c + n * 0x100, 0, 8⟩
/-- POS.CH.RES_MON.AMP_MAX (R158). -/
abbrev POS.CH.RES_MON.AMP_MAX (n : Nat) : Fld := ⟨0x400e012c + n * 0x100, 8, 8⟩
/-- POS.CH.RES_MON.LOT_BOUND (R158). -/
abbrev POS.CH.RES_MON.LOT_BOUND (n : Nat) : Fld := ⟨0x400e012c + n * 0x100, 16, 8⟩
/-- POS.CH.RES_MON.EXC_MIN (R158). -/
abbrev POS.CH.RES_MON.EXC_MIN (n : Nat) : Fld := ⟨0x400e012c + n * 0x100, 24, 8⟩
/-- Address of POS.CH.RES_PHASE (R158). -/
abbrev POS.CH.RES_PHASE.addr (n : Nat) : Nat := 0x400e0130 + n * 0x100
/-- POS.CH.RES_PHASE.PHASE (R158). -/
abbrev POS.CH.RES_PHASE.PHASE (n : Nat) : Fld := ⟨0x400e0130 + n * 0x100, 0, 16⟩
/-- Address of POS.CH.SER_CFG0 (R158). -/
abbrev POS.CH.SER_CFG0.addr (n : Nat) : Nat := 0x400e0134 + n * 0x100
/-- POS.CH.SER_CFG0.DIV (R158). -/
abbrev POS.CH.SER_CFG0.DIV (n : Nat) : Fld := ⟨0x400e0134 + n * 0x100, 0, 10⟩
/-- POS.CH.SER_CFG0.ST_BITS (R158). -/
abbrev POS.CH.SER_CFG0.ST_BITS (n : Nat) : Fld := ⟨0x400e0134 + n * 0x100, 10, 6⟩
/-- POS.CH.SER_CFG0.MT_BITS (R158). -/
abbrev POS.CH.SER_CFG0.MT_BITS (n : Nat) : Fld := ⟨0x400e0134 + n * 0x100, 16, 5⟩
/-- POS.CH.SER_CFG0.STATUS_BITS (R158). -/
abbrev POS.CH.SER_CFG0.STATUS_BITS (n : Nat) : Fld := ⟨0x400e0134 + n * 0x100, 21, 2⟩
/-- POS.CH.SER_CFG0.GRAY (R158). -/
abbrev POS.CH.SER_CFG0.GRAY (n : Nat) : Fld := ⟨0x400e0134 + n * 0x100, 23, 1⟩
/-- POS.CH.SER_CFG0.PARITY (R158). -/
abbrev POS.CH.SER_CFG0.PARITY (n : Nat) : Fld := ⟨0x400e0134 + n * 0x100, 24, 2⟩
/-- POS.CH.SER_CFG0.START (R158). -/
abbrev POS.CH.SER_CFG0.START (n : Nat) : Fld := ⟨0x400e0134 + n * 0x100, 26, 1⟩
/-- POS.CH.SER_CFG0.EXTRAP (R158). -/
abbrev POS.CH.SER_CFG0.EXTRAP (n : Nat) : Fld := ⟨0x400e0134 + n * 0x100, 27, 1⟩
/-- Address of POS.CH.SER_CFG1 (R158). -/
abbrev POS.CH.SER_CFG1.addr (n : Nat) : Nat := 0x400e0138 + n * 0x100
/-- POS.CH.SER_CFG1.CRC_LEN (R158). -/
abbrev POS.CH.SER_CFG1.CRC_LEN (n : Nat) : Fld := ⟨0x400e0138 + n * 0x100, 0, 5⟩
/-- POS.CH.SER_CFG1.CRC_INV (R158). -/
abbrev POS.CH.SER_CFG1.CRC_INV (n : Nat) : Fld := ⟨0x400e0138 + n * 0x100, 5, 1⟩
/-- POS.CH.SER_CFG1.CRC_POLY (R158). -/
abbrev POS.CH.SER_CFG1.CRC_POLY (n : Nat) : Fld := ⟨0x400e0138 + n * 0x100, 16, 16⟩
/-- Address of POS.CH.SER_CFG2 (R158). -/
abbrev POS.CH.SER_CFG2.addr (n : Nat) : Nat := 0x400e013c + n * 0x100
/-- POS.CH.SER_CFG2.SER_PERIOD (R158). -/
abbrev POS.CH.SER_CFG2.SER_PERIOD (n : Nat) : Fld := ⟨0x400e013c + n * 0x100, 0, 16⟩
/-- POS.CH.SER_CFG2.TIMEOUT (R158). -/
abbrev POS.CH.SER_CFG2.TIMEOUT (n : Nat) : Fld := ⟨0x400e013c + n * 0x100, 16, 8⟩
/-- POS.CH.SER_CFG2.SAMPLE_DELAY (R158). -/
abbrev POS.CH.SER_CFG2.SAMPLE_DELAY (n : Nat) : Fld := ⟨0x400e013c + n * 0x100, 24, 8⟩
/-- Address of POS.CH.SER_LAT (R158). -/
abbrev POS.CH.SER_LAT.addr (n : Nat) : Nat := 0x400e0140 + n * 0x100
/-- POS.CH.SER_LAT.SENSOR_LAT (R158). -/
abbrev POS.CH.SER_LAT.SENSOR_LAT (n : Nat) : Fld := ⟨0x400e0140 + n * 0x100, 0, 16⟩
/-- Address of POS.CH.CMD (R158). -/
abbrev POS.CH.CMD.addr (n : Nat) : Nat := 0x400e0144 + n * 0x100
/-- POS.CH.CMD.CODE (R158). -/
abbrev POS.CH.CMD.CODE (n : Nat) : Fld := ⟨0x400e0144 + n * 0x100, 0, 4⟩
/-- Address of POS.CH.CMD_STATUS (R158). -/
abbrev POS.CH.CMD_STATUS.addr (n : Nat) : Nat := 0x400e0148 + n * 0x100
/-- POS.CH.CMD_STATUS.CODE (R158). -/
abbrev POS.CH.CMD_STATUS.CODE (n : Nat) : Fld := ⟨0x400e0148 + n * 0x100, 0, 8⟩
/-- Address of POS.CH.PRESET_LO (R158). -/
abbrev POS.CH.PRESET_LO.addr (n : Nat) : Nat := 0x400e014c + n * 0x100
/-- POS.CH.PRESET_LO.LO (R158). -/
abbrev POS.CH.PRESET_LO.LO (n : Nat) : Fld := ⟨0x400e014c + n * 0x100, 0, 32⟩
/-- Address of POS.CH.PRESET_HI (R158). -/
abbrev POS.CH.PRESET_HI.addr (n : Nat) : Nat := 0x400e0150 + n * 0x100
/-- POS.CH.PRESET_HI.HI (R158). -/
abbrev POS.CH.PRESET_HI.HI (n : Nat) : Fld := ⟨0x400e0150 + n * 0x100, 0, 16⟩
/-- Address of POS.CH.ANGLE (R158). -/
abbrev POS.CH.ANGLE.addr (n : Nat) : Nat := 0x400e0154 + n * 0x100
/-- POS.CH.ANGLE.val (R158). -/
abbrev POS.CH.ANGLE.val (n : Nat) : Fld := ⟨0x400e0154 + n * 0x100, 0, 32⟩
/-- Address of POS.CH.SPEED (R158). -/
abbrev POS.CH.SPEED.addr (n : Nat) : Nat := 0x400e0158 + n * 0x100
/-- POS.CH.SPEED.val (R158). -/
abbrev POS.CH.SPEED.val (n : Nat) : Fld := ⟨0x400e0158 + n * 0x100, 0, 32⟩
/-- Address of POS.CH.POS_LO (R158). -/
abbrev POS.CH.POS_LO.addr (n : Nat) : Nat := 0x400e015c + n * 0x100
/-- POS.CH.POS_LO.LO (R158). -/
abbrev POS.CH.POS_LO.LO (n : Nat) : Fld := ⟨0x400e015c + n * 0x100, 0, 32⟩
/-- Address of POS.CH.POS_HI (R158). -/
abbrev POS.CH.POS_HI.addr (n : Nat) : Nat := 0x400e0160 + n * 0x100
/-- POS.CH.POS_HI.HI (R158). -/
abbrev POS.CH.POS_HI.HI (n : Nat) : Fld := ⟨0x400e0160 + n * 0x100, 0, 16⟩
/-- Address of POS.CH.TSTAMP (R158). -/
abbrev POS.CH.TSTAMP.addr (n : Nat) : Nat := 0x400e0164 + n * 0x100
/-- POS.CH.TSTAMP.T (R158). -/
abbrev POS.CH.TSTAMP.T (n : Nat) : Fld := ⟨0x400e0164 + n * 0x100, 0, 32⟩
/-- Address of POS.CH.STATUS (R158). -/
abbrev POS.CH.STATUS.addr (n : Nat) : Nat := 0x400e0168 + n * 0x100
/-- POS.CH.STATUS.VALID (R158). -/
abbrev POS.CH.STATUS.VALID (n : Nat) : Fld := ⟨0x400e0168 + n * 0x100, 0, 1⟩
/-- POS.CH.STATUS.HOMED (R158). -/
abbrev POS.CH.STATUS.HOMED (n : Nat) : Fld := ⟨0x400e0168 + n * 0x100, 1, 1⟩
/-- POS.CH.STATUS.DIR (R158). -/
abbrev POS.CH.STATUS.DIR (n : Nat) : Fld := ⟨0x400e0168 + n * 0x100, 2, 1⟩
/-- POS.CH.STATUS.SAT_HI (R158). -/
abbrev POS.CH.STATUS.SAT_HI (n : Nat) : Fld := ⟨0x400e0168 + n * 0x100, 3, 1⟩
/-- POS.CH.STATUS.SAT_LO (R158). -/
abbrev POS.CH.STATUS.SAT_LO (n : Nat) : Fld := ⟨0x400e0168 + n * 0x100, 4, 1⟩
/-- POS.CH.STATUS.SECTOR (R158). -/
abbrev POS.CH.STATUS.SECTOR (n : Nat) : Fld := ⟨0x400e0168 + n * 0x100, 5, 3⟩
/-- POS.CH.STATUS.HALL (R158). -/
abbrev POS.CH.STATUS.HALL (n : Nat) : Fld := ⟨0x400e0168 + n * 0x100, 8, 3⟩
/-- POS.CH.STATUS.WIRES (R158). -/
abbrev POS.CH.STATUS.WIRES (n : Nat) : Fld := ⟨0x400e0168 + n * 0x100, 12, 4⟩
/-- POS.CH.STATUS.REASON (R158). -/
abbrev POS.CH.STATUS.REASON (n : Nat) : Fld := ⟨0x400e0168 + n * 0x100, 16, 4⟩
/-- Address of POS.CH.SOFT_MIN_LO (R158). -/
abbrev POS.CH.SOFT_MIN_LO.addr (n : Nat) : Nat := 0x400e016c + n * 0x100
/-- POS.CH.SOFT_MIN_LO.LO (R158). -/
abbrev POS.CH.SOFT_MIN_LO.LO (n : Nat) : Fld := ⟨0x400e016c + n * 0x100, 0, 32⟩
/-- Address of POS.CH.SOFT_MIN_HI (R158). -/
abbrev POS.CH.SOFT_MIN_HI.addr (n : Nat) : Nat := 0x400e0170 + n * 0x100
/-- POS.CH.SOFT_MIN_HI.HI (R158). -/
abbrev POS.CH.SOFT_MIN_HI.HI (n : Nat) : Fld := ⟨0x400e0170 + n * 0x100, 0, 16⟩
/-- Address of POS.CH.SOFT_MAX_LO (R158). -/
abbrev POS.CH.SOFT_MAX_LO.addr (n : Nat) : Nat := 0x400e0174 + n * 0x100
/-- POS.CH.SOFT_MAX_LO.LO (R158). -/
abbrev POS.CH.SOFT_MAX_LO.LO (n : Nat) : Fld := ⟨0x400e0174 + n * 0x100, 0, 32⟩
/-- Address of POS.CH.SOFT_MAX_HI (R158). -/
abbrev POS.CH.SOFT_MAX_HI.addr (n : Nat) : Nat := 0x400e0178 + n * 0x100
/-- POS.CH.SOFT_MAX_HI.HI (R158). -/
abbrev POS.CH.SOFT_MAX_HI.HI (n : Nat) : Fld := ⟨0x400e0178 + n * 0x100, 0, 16⟩
/-- Address of POS.CH.COUNTERS (R158). -/
abbrev POS.CH.COUNTERS.addr (n : Nat) : Nat := 0x400e017c + n * 0x100
/-- POS.CH.COUNTERS.ILLEGAL (R158). -/
abbrev POS.CH.COUNTERS.ILLEGAL (n : Nat) : Fld := ⟨0x400e017c + n * 0x100, 0, 16⟩
/-- POS.CH.COUNTERS.CRC_ERRS (R158). -/
abbrev POS.CH.COUNTERS.CRC_ERRS (n : Nat) : Fld := ⟨0x400e017c + n * 0x100, 16, 16⟩
/-- Address of POS.CH.INDEX_DEV (R158). -/
abbrev POS.CH.INDEX_DEV.addr (n : Nat) : Nat := 0x400e0180 + n * 0x100
/-- POS.CH.INDEX_DEV.DEV (R158). -/
abbrev POS.CH.INDEX_DEV.DEV (n : Nat) : Fld := ⟨0x400e0180 + n * 0x100, 0, 32⟩
/-- Address of POS.CH.COUNTS_PER_TURN (R158). -/
abbrev POS.CH.COUNTS_PER_TURN.addr (n : Nat) : Nat := 0x400e0184 + n * 0x100
/-- POS.CH.COUNTS_PER_TURN.CPT (R158). -/
abbrev POS.CH.COUNTS_PER_TURN.CPT (n : Nat) : Fld := ⟨0x400e0184 + n * 0x100, 0, 32⟩
/-- Address of CARVE.LOCK (R180). -/
abbrev CARVE.LOCK.addr : Nat := 0x400f0000
/-- CARVE.LOCK.val (R180). -/
abbrev CARVE.LOCK.val : Fld := ⟨0x400f0000, 0, 1⟩
/-- Address of CARVE.STATUS (R180). -/
abbrev CARVE.STATUS.addr : Nat := 0x400f0004
/-- CARVE.STATUS.BUSY (R180). -/
abbrev CARVE.STATUS.BUSY : Fld := ⟨0x400f0004, 0, 1⟩
/-- CARVE.STATUS.TASK (R180). -/
abbrev CARVE.STATUS.TASK : Fld := ⟨0x400f0004, 1, 3⟩
/-- CARVE.STATUS.PENDING (R180). -/
abbrev CARVE.STATUS.PENDING : Fld := ⟨0x400f0004, 8, 8⟩
/-- Address of CARVE.LOADED (R180). -/
abbrev CARVE.LOADED.addr : Nat := 0x400f0008
/-- CARVE.LOADED.PWORDS (R180). -/
abbrev CARVE.LOADED.PWORDS : Fld := ⟨0x400f0008, 0, 13⟩
/-- CARVE.LOADED.MWORDS (R180). -/
abbrev CARVE.LOADED.MWORDS : Fld := ⟨0x400f0008, 16, 15⟩
/-- Address of CARVE.TASK.CFG (R180). -/
abbrev CARVE.TASK.CFG.addr (n : Nat) : Nat := 0x400f0100 + n * 0x20
/-- CARVE.TASK.CFG.OWNER (R180). -/
abbrev CARVE.TASK.CFG.OWNER (n : Nat) : Fld := ⟨0x400f0100 + n * 0x20, 0, 2⟩
/-- CARVE.TASK.CFG.BUDGET (R180). -/
abbrev CARVE.TASK.CFG.BUDGET (n : Nat) : Fld := ⟨0x400f0100 + n * 0x20, 16, 16⟩
/-- Address of CARVE.TASK.CYCLES (R180). -/
abbrev CARVE.TASK.CYCLES.addr (n : Nat) : Nat := 0x400f0104 + n * 0x20
/-- CARVE.TASK.CYCLES.LAST (R180). -/
abbrev CARVE.TASK.CYCLES.LAST (n : Nat) : Fld := ⟨0x400f0104 + n * 0x20, 0, 16⟩
/-- CARVE.TASK.CYCLES.MAX (R180). -/
abbrev CARVE.TASK.CYCLES.MAX (n : Nat) : Fld := ⟨0x400f0104 + n * 0x20, 16, 16⟩
/-- Address of CARVE.TASK.RUNS (R180). -/
abbrev CARVE.TASK.RUNS.addr (n : Nat) : Nat := 0x400f0108 + n * 0x20
/-- CARVE.TASK.RUNS.val (R180). -/
abbrev CARVE.TASK.RUNS.val (n : Nat) : Fld := ⟨0x400f0108 + n * 0x20, 0, 32⟩
/-- Address of CARVE.TASK.EVENTS (R180). -/
abbrev CARVE.TASK.EVENTS.addr (n : Nat) : Nat := 0x400f010c + n * 0x20
/-- CARVE.TASK.EVENTS.MISSED (R180). -/
abbrev CARVE.TASK.EVENTS.MISSED (n : Nat) : Fld := ⟨0x400f010c + n * 0x20, 0, 16⟩
/-- CARVE.TASK.EVENTS.OVERRUNS (R180). -/
abbrev CARVE.TASK.EVENTS.OVERRUNS (n : Nat) : Fld := ⟨0x400f010c + n * 0x20, 16, 16⟩
/-- Address of CARVE.TASK.WAIT (R180). -/
abbrev CARVE.TASK.WAIT.addr (n : Nat) : Nat := 0x400f0110 + n * 0x20
/-- CARVE.TASK.WAIT.LAST (R180). -/
abbrev CARVE.TASK.WAIT.LAST (n : Nat) : Fld := ⟨0x400f0110 + n * 0x20, 0, 16⟩
/-- CARVE.TASK.WAIT.MAX (R180). -/
abbrev CARVE.TASK.WAIT.MAX (n : Nat) : Fld := ⟨0x400f0110 + n * 0x20, 16, 16⟩
/-- Address of CARVE.TASK.HELD (R180). -/
abbrev CARVE.TASK.HELD.addr (n : Nat) : Nat := 0x400f0114 + n * 0x20
/-- CARVE.TASK.HELD.val (R180). -/
abbrev CARVE.TASK.HELD.val (n : Nat) : Fld := ⟨0x400f0114 + n * 0x20, 0, 32⟩
/-- Address of CARVE.TASK.CMD (R180). -/
abbrev CARVE.TASK.CMD.addr (n : Nat) : Nat := 0x400f0118 + n * 0x20
/-- CARVE.TASK.CMD.CODE (R180). -/
abbrev CARVE.TASK.CMD.CODE (n : Nat) : Fld := ⟨0x400f0118 + n * 0x20, 0, 4⟩
/-- Address of CARVE.TASK.CMD_STATUS (R180). -/
abbrev CARVE.TASK.CMD_STATUS.addr (n : Nat) : Nat := 0x400f011c + n * 0x20
/-- CARVE.TASK.CMD_STATUS.CODE (R180). -/
abbrev CARVE.TASK.CMD_STATUS.CODE (n : Nat) : Fld := ⟨0x400f011c + n * 0x20, 0, 8⟩
/-- CARVE.TASK.CMD_STATUS.PRE_PENDING (R180). -/
abbrev CARVE.TASK.CMD_STATUS.PRE_PENDING (n : Nat) : Fld := ⟨0x400f011c + n * 0x20, 8, 1⟩
/-- Address of CARVE.PARAM (R180). -/
abbrev CARVE.PARAM.addr (n : Nat) : Nat := 0x400f1000 + n * 0x4
/-- CARVE.PARAM.VALUE (R180). -/
abbrev CARVE.PARAM.VALUE (n : Nat) : Fld := ⟨0x400f1000 + n * 0x4, 0, 32⟩
/-- Address of CARVE.OUT (R180). -/
abbrev CARVE.OUT.addr (n i : Nat) : Nat := 0x400f2000 + n * 0x100 + i * 0x4
/-- CARVE.OUT.VALUE (R180). -/
abbrev CARVE.OUT.VALUE (n i : Nat) : Fld := ⟨0x400f2000 + n * 0x100 + i * 0x4, 0, 32⟩
/-- Address of CARVE.IN (R180). -/
abbrev CARVE.IN.addr (n i : Nat) : Nat := 0x400f3000 + n * 0x100 + i * 0x4
/-- CARVE.IN.VALUE (R180). -/
abbrev CARVE.IN.VALUE (n i : Nat) : Fld := ⟨0x400f3000 + n * 0x100 + i * 0x4, 0, 32⟩
/-- Address of CARVE.INSTAT (R180). -/
abbrev CARVE.INSTAT.addr (n i : Nat) : Nat := 0x400f4000 + n * 0x100 + i * 0x4
/-- CARVE.INSTAT.SEQ (R180). -/
abbrev CARVE.INSTAT.SEQ (n i : Nat) : Fld := ⟨0x400f4000 + n * 0x100 + i * 0x4, 0, 16⟩
/-- CARVE.INSTAT.VALID (R180). -/
abbrev CARVE.INSTAT.VALID (n i : Nat) : Fld := ⟨0x400f4000 + n * 0x100 + i * 0x4, 16, 1⟩
/-- CARVE.INSTAT.OVERLOAD (R180). -/
abbrev CARVE.INSTAT.OVERLOAD (n i : Nat) : Fld := ⟨0x400f4000 + n * 0x100 + i * 0x4, 17, 1⟩
/-- CARVE.INSTAT.SUBST (R180). -/
abbrev CARVE.INSTAT.SUBST (n i : Nat) : Fld := ⟨0x400f4000 + n * 0x100 + i * 0x4, 18, 1⟩
/-- CARVE.INSTAT.ROUTED (R180). -/
abbrev CARVE.INSTAT.ROUTED (n i : Nat) : Fld := ⟨0x400f4000 + n * 0x100 + i * 0x4, 19, 1⟩
/-- Address of PROF.LOCK (R213). -/
abbrev PROF.LOCK.addr : Nat := 0x40110000
/-- PROF.LOCK.val (R213). -/
abbrev PROF.LOCK.val : Fld := ⟨0x40110000, 0, 1⟩
/-- Address of PROF.CH.CFG (R213). -/
abbrev PROF.CH.CFG.addr (n : Nat) : Nat := 0x40110100 + n * 0x40
/-- PROF.CH.CFG.TASK (R213). -/
abbrev PROF.CH.CFG.TASK (n : Nat) : Fld := ⟨0x40110100 + n * 0x40, 0, 3⟩
/-- PROF.CH.CFG.START (R213). -/
abbrev PROF.CH.CFG.START (n : Nat) : Fld := ⟨0x40110100 + n * 0x40, 3, 1⟩
/-- PROF.CH.CFG.ENABLE (R213). -/
abbrev PROF.CH.CFG.ENABLE (n : Nat) : Fld := ⟨0x40110100 + n * 0x40, 31, 1⟩
/-- Address of PROF.CH.TARGET (R213). -/
abbrev PROF.CH.TARGET.addr (n : Nat) : Nat := 0x40110104 + n * 0x40
/-- PROF.CH.TARGET.val (R213). -/
abbrev PROF.CH.TARGET.val (n : Nat) : Fld := ⟨0x40110104 + n * 0x40, 0, 32⟩
/-- Address of PROF.CH.YMAX (R213). -/
abbrev PROF.CH.YMAX.addr (n : Nat) : Nat := 0x40110108 + n * 0x40
/-- PROF.CH.YMAX.val (R213). -/
abbrev PROF.CH.YMAX.val (n : Nat) : Fld := ⟨0x40110108 + n * 0x40, 0, 32⟩
/-- Address of PROF.CH.RMAX (R213). -/
abbrev PROF.CH.RMAX.addr (n : Nat) : Nat := 0x4011010c + n * 0x40
/-- PROF.CH.RMAX.val (R213). -/
abbrev PROF.CH.RMAX.val (n : Nat) : Fld := ⟨0x4011010c + n * 0x40, 0, 32⟩
/-- Address of PROF.CH.JMAX (R213). -/
abbrev PROF.CH.JMAX.addr (n : Nat) : Nat := 0x40110110 + n * 0x40
/-- PROF.CH.JMAX.val (R213). -/
abbrev PROF.CH.JMAX.val (n : Nat) : Fld := ⟨0x40110110 + n * 0x40, 0, 32⟩
/-- Address of PROF.CH.GLIDE_TARGET (R213). -/
abbrev PROF.CH.GLIDE_TARGET.addr (n : Nat) : Nat := 0x40110114 + n * 0x40
/-- PROF.CH.GLIDE_TARGET.TARGET (R213). -/
abbrev PROF.CH.GLIDE_TARGET.TARGET (n : Nat) : Fld := ⟨0x40110114 + n * 0x40, 0, 32⟩
/-- Address of PROF.CH.GLIDE_RMAX (R213). -/
abbrev PROF.CH.GLIDE_RMAX.addr (n : Nat) : Nat := 0x40110118 + n * 0x40
/-- PROF.CH.GLIDE_RMAX.RMAX (R213). -/
abbrev PROF.CH.GLIDE_RMAX.RMAX (n : Nat) : Fld := ⟨0x40110118 + n * 0x40, 0, 32⟩
/-- Address of PROF.CH.GLIDE_JMAX (R213). -/
abbrev PROF.CH.GLIDE_JMAX.addr (n : Nat) : Nat := 0x4011011c + n * 0x40
/-- PROF.CH.GLIDE_JMAX.JMAX (R213). -/
abbrev PROF.CH.GLIDE_JMAX.JMAX (n : Nat) : Fld := ⟨0x4011011c + n * 0x40, 0, 32⟩
/-- Address of PROF.CH.VALUE (R213). -/
abbrev PROF.CH.VALUE.addr (n : Nat) : Nat := 0x40110120 + n * 0x40
/-- PROF.CH.VALUE.Y (R213). -/
abbrev PROF.CH.VALUE.Y (n : Nat) : Fld := ⟨0x40110120 + n * 0x40, 0, 32⟩
/-- Address of PROF.CH.RATE (R213). -/
abbrev PROF.CH.RATE.addr (n : Nat) : Nat := 0x40110124 + n * 0x40
/-- PROF.CH.RATE.R (R213). -/
abbrev PROF.CH.RATE.R (n : Nat) : Fld := ⟨0x40110124 + n * 0x40, 0, 32⟩
/-- Address of PROF.CH.STATUS (R213). -/
abbrev PROF.CH.STATUS.addr (n : Nat) : Nat := 0x40110128 + n * 0x40
/-- PROF.CH.STATUS.STEPPING (R213). -/
abbrev PROF.CH.STATUS.STEPPING (n : Nat) : Fld := ⟨0x40110128 + n * 0x40, 0, 1⟩
/-- PROF.CH.STATUS.AT_TARGET (R213). -/
abbrev PROF.CH.STATUS.AT_TARGET (n : Nat) : Fld := ⟨0x40110128 + n * 0x40, 1, 1⟩
/-- PROF.CH.STATUS.LIMITED (R213). -/
abbrev PROF.CH.STATUS.LIMITED (n : Nat) : Fld := ⟨0x40110128 + n * 0x40, 2, 1⟩
/-- PROF.CH.STATUS.OVERSHOOT (R213). -/
abbrev PROF.CH.STATUS.OVERSHOOT (n : Nat) : Fld := ⟨0x40110128 + n * 0x40, 3, 1⟩
/-- PROF.CH.STATUS.GLIDE (R213). -/
abbrev PROF.CH.STATUS.GLIDE (n : Nat) : Fld := ⟨0x40110128 + n * 0x40, 4, 1⟩
/-- PROF.CH.STATUS.HOLD (R213). -/
abbrev PROF.CH.STATUS.HOLD (n : Nat) : Fld := ⟨0x40110128 + n * 0x40, 5, 1⟩
/-- Address of PROF.CH.STEPS (R213). -/
abbrev PROF.CH.STEPS.addr (n : Nat) : Nat := 0x4011012c + n * 0x40
/-- PROF.CH.STEPS.val (R213). -/
abbrev PROF.CH.STEPS.val (n : Nat) : Fld := ⟨0x4011012c + n * 0x40, 0, 32⟩
/-- Address of PROF.CH.CMD (R213). -/
abbrev PROF.CH.CMD.addr (n : Nat) : Nat := 0x40110130 + n * 0x40
/-- PROF.CH.CMD.CODE (R213). -/
abbrev PROF.CH.CMD.CODE (n : Nat) : Fld := ⟨0x40110130 + n * 0x40, 0, 4⟩
/-- Address of PROF.CH.CMD_STATUS (R213). -/
abbrev PROF.CH.CMD_STATUS.addr (n : Nat) : Nat := 0x40110134 + n * 0x40
/-- PROF.CH.CMD_STATUS.CODE (R213). -/
abbrev PROF.CH.CMD_STATUS.CODE (n : Nat) : Fld := ⟨0x40110134 + n * 0x40, 0, 8⟩
/-- Address of SLALOM.LOCK (R215). -/
abbrev SLALOM.LOCK.addr : Nat := 0x40100000
/-- SLALOM.LOCK.val (R215). -/
abbrev SLALOM.LOCK.val : Fld := ⟨0x40100000, 0, 1⟩
/-- Address of SLALOM.SL.CFG (R215). -/
abbrev SLALOM.SL.CFG.addr (n : Nat) : Nat := 0x40100100 + n * 0x100
/-- SLALOM.SL.CFG.OM_EN (R215). -/
abbrev SLALOM.SL.CFG.OM_EN (n : Nat) : Fld := ⟨0x40100100 + n * 0x100, 0, 1⟩
/-- SLALOM.SL.CFG.SCHUSS_EN (R215). -/
abbrev SLALOM.SL.CFG.SCHUSS_EN (n : Nat) : Fld := ⟨0x40100100 + n * 0x100, 1, 1⟩
/-- SLALOM.SL.CFG.ADV_SVM (R215). -/
abbrev SLALOM.SL.CFG.ADV_SVM (n : Nat) : Fld := ⟨0x40100100 + n * 0x100, 2, 1⟩
/-- SLALOM.SL.CFG.CHOP (R215). -/
abbrev SLALOM.SL.CFG.CHOP (n : Nat) : Fld := ⟨0x40100100 + n * 0x100, 3, 1⟩
/-- SLALOM.SL.CFG.XFER (R215). -/
abbrev SLALOM.SL.CFG.XFER (n : Nat) : Fld := ⟨0x40100100 + n * 0x100, 4, 2⟩
/-- SLALOM.SL.CFG.PHV_BASE (R215). -/
abbrev SLALOM.SL.CFG.PHV_BASE (n : Nat) : Fld := ⟨0x40100100 + n * 0x100, 8, 4⟩
/-- SLALOM.SL.CFG.SCHUSS_COUNT (R215). -/
abbrev SLALOM.SL.CFG.SCHUSS_COUNT (n : Nat) : Fld := ⟨0x40100100 + n * 0x100, 12, 4⟩
/-- SLALOM.SL.CFG.ENABLE (R215). -/
abbrev SLALOM.SL.CFG.ENABLE (n : Nat) : Fld := ⟨0x40100100 + n * 0x100, 31, 1⟩
/-- Address of SLALOM.SL.OM_SPEED (R215). -/
abbrev SLALOM.SL.OM_SPEED.addr (n : Nat) : Nat := 0x40100104 + n * 0x100
/-- SLALOM.SL.OM_SPEED.SPEED (R215). -/
abbrev SLALOM.SL.OM_SPEED.SPEED (n : Nat) : Fld := ⟨0x40100104 + n * 0x100, 0, 32⟩
/-- Address of SLALOM.SL.SCHUSS_SPEED (R215). -/
abbrev SLALOM.SL.SCHUSS_SPEED.addr (n : Nat) : Nat := 0x40100108 + n * 0x100
/-- SLALOM.SL.SCHUSS_SPEED.SPEED (R215). -/
abbrev SLALOM.SL.SCHUSS_SPEED.SPEED (n : Nat) : Fld := ⟨0x40100108 + n * 0x100, 0, 32⟩
/-- Address of SLALOM.SL.SPD_HYS (R215). -/
abbrev SLALOM.SL.SPD_HYS.addr (n : Nat) : Nat := 0x4010010c + n * 0x100
/-- SLALOM.SL.SPD_HYS.HYS (R215). -/
abbrev SLALOM.SL.SPD_HYS.HYS (n : Nat) : Fld := ⟨0x4010010c + n * 0x100, 0, 32⟩
/-- Address of SLALOM.SL.M_HYS (R215). -/
abbrev SLALOM.SL.M_HYS.addr (n : Nat) : Nat := 0x40100110 + n * 0x100
/-- SLALOM.SL.M_HYS.HYS (R215). -/
abbrev SLALOM.SL.M_HYS.HYS (n : Nat) : Fld := ⟨0x40100110 + n * 0x100, 0, 32⟩
/-- Address of SLALOM.SL.VDC_FLOOR (R215). -/
abbrev SLALOM.SL.VDC_FLOOR.addr (n : Nat) : Nat := 0x40100114 + n * 0x100
/-- SLALOM.SL.VDC_FLOOR.V (R215). -/
abbrev SLALOM.SL.VDC_FLOOR.V (n : Nat) : Fld := ⟨0x40100114 + n * 0x100, 0, 32⟩
/-- Address of SLALOM.SL.NP_GAIN (R215). -/
abbrev SLALOM.SL.NP_GAIN.addr (n : Nat) : Nat := 0x40100118 + n * 0x100
/-- SLALOM.SL.NP_GAIN.GAIN (R215). -/
abbrev SLALOM.SL.NP_GAIN.GAIN (n : Nat) : Fld := ⟨0x40100118 + n * 0x100, 0, 32⟩
/-- Address of SLALOM.SL.NP_LIM (R215). -/
abbrev SLALOM.SL.NP_LIM.addr (n : Nat) : Nat := 0x4010011c + n * 0x100
/-- SLALOM.SL.NP_LIM.LIM (R215). -/
abbrev SLALOM.SL.NP_LIM.LIM (n : Nat) : Fld := ⟨0x4010011c + n * 0x100, 0, 32⟩
/-- Address of SLALOM.SL.ADV_STEP (R215). -/
abbrev SLALOM.SL.ADV_STEP.addr (n : Nat) : Nat := 0x40100120 + n * 0x100
/-- SLALOM.SL.ADV_STEP.STEP (R215). -/
abbrev SLALOM.SL.ADV_STEP.STEP (n : Nat) : Fld := ⟨0x40100120 + n * 0x100, 0, 32⟩
/-- Address of SLALOM.SL.ROT_CFG (R215). -/
abbrev SLALOM.SL.ROT_CFG.addr (n : Nat) : Nat := 0x40100124 + n * 0x100
/-- SLALOM.SL.ROT_CFG.PROBE_TIME (R215). -/
abbrev SLALOM.SL.ROT_CFG.PROBE_TIME (n : Nat) : Fld := ⟨0x40100124 + n * 0x100, 0, 8⟩
/-- Address of SLALOM.SL.EMF_MIN (R215). -/
abbrev SLALOM.SL.EMF_MIN.addr (n : Nat) : Nat := 0x40100128 + n * 0x100
/-- SLALOM.SL.EMF_MIN.V (R215). -/
abbrev SLALOM.SL.EMF_MIN.V (n : Nat) : Fld := ⟨0x40100128 + n * 0x100, 0, 32⟩
/-- Address of SLALOM.SL.STILL_SPEED (R215). -/
abbrev SLALOM.SL.STILL_SPEED.addr (n : Nat) : Nat := 0x4010012c + n * 0x100
/-- SLALOM.SL.STILL_SPEED.SPEED (R215). -/
abbrev SLALOM.SL.STILL_SPEED.SPEED (n : Nat) : Fld := ⟨0x4010012c + n * 0x100, 0, 32⟩
/-- Address of SLALOM.SL.STATUS (R215). -/
abbrev SLALOM.SL.STATUS.addr (n : Nat) : Nat := 0x40100130 + n * 0x100
/-- SLALOM.SL.STATUS.MODE (R215). -/
abbrev SLALOM.SL.STATUS.MODE (n : Nat) : Fld := ⟨0x40100130 + n * 0x100, 0, 3⟩
/-- SLALOM.SL.STATUS.SECTOR (R215). -/
abbrev SLALOM.SL.STATUS.SECTOR (n : Nat) : Fld := ⟨0x40100130 + n * 0x100, 3, 3⟩
/-- SLALOM.SL.STATUS.LIMITED (R215). -/
abbrev SLALOM.SL.STATUS.LIMITED (n : Nat) : Fld := ⟨0x40100130 + n * 0x100, 6, 1⟩
/-- SLALOM.SL.STATUS.VDC_STALE (R215). -/
abbrev SLALOM.SL.STATUS.VDC_STALE (n : Nat) : Fld := ⟨0x40100130 + n * 0x100, 7, 1⟩
/-- Address of SLALOM.SL.M (R215). -/
abbrev SLALOM.SL.M.addr (n : Nat) : Nat := 0x40100134 + n * 0x100
/-- SLALOM.SL.M.val (R215). -/
abbrev SLALOM.SL.M.val (n : Nat) : Fld := ⟨0x40100134 + n * 0x100, 0, 32⟩
/-- Address of SLALOM.SL.MODE_CHANGES (R215). -/
abbrev SLALOM.SL.MODE_CHANGES.addr (n : Nat) : Nat := 0x40100138 + n * 0x100
/-- SLALOM.SL.MODE_CHANGES.COUNT (R215). -/
abbrev SLALOM.SL.MODE_CHANGES.COUNT (n : Nat) : Fld := ⟨0x40100138 + n * 0x100, 0, 32⟩
/-- Address of SLALOM.SL.ROT_RESULT (R215). -/
abbrev SLALOM.SL.ROT_RESULT.addr (n : Nat) : Nat := 0x4010013c + n * 0x100
/-- SLALOM.SL.ROT_RESULT.RESULT (R215). -/
abbrev SLALOM.SL.ROT_RESULT.RESULT (n : Nat) : Fld := ⟨0x4010013c + n * 0x100, 0, 3⟩
/-- SLALOM.SL.ROT_RESULT.BUSY (R215). -/
abbrev SLALOM.SL.ROT_RESULT.BUSY (n : Nat) : Fld := ⟨0x4010013c + n * 0x100, 3, 1⟩
/-- SLALOM.SL.ROT_RESULT.SOURCE (R215). -/
abbrev SLALOM.SL.ROT_RESULT.SOURCE (n : Nat) : Fld := ⟨0x4010013c + n * 0x100, 4, 2⟩
/-- SLALOM.SL.ROT_RESULT.SEQ (R215). -/
abbrev SLALOM.SL.ROT_RESULT.SEQ (n : Nat) : Fld := ⟨0x4010013c + n * 0x100, 16, 16⟩
/-- Address of SLALOM.SL.ROT_SPEED (R215). -/
abbrev SLALOM.SL.ROT_SPEED.addr (n : Nat) : Nat := 0x40100140 + n * 0x100
/-- SLALOM.SL.ROT_SPEED.SPEED (R215). -/
abbrev SLALOM.SL.ROT_SPEED.SPEED (n : Nat) : Fld := ⟨0x40100140 + n * 0x100, 0, 32⟩
/-- Address of SLALOM.SL.ROT_ANGLE (R215). -/
abbrev SLALOM.SL.ROT_ANGLE.addr (n : Nat) : Nat := 0x40100144 + n * 0x100
/-- SLALOM.SL.ROT_ANGLE.ANGLE (R215). -/
abbrev SLALOM.SL.ROT_ANGLE.ANGLE (n : Nat) : Fld := ⟨0x40100144 + n * 0x100, 0, 32⟩
/-- Address of SLALOM.SL.CMD (R215). -/
abbrev SLALOM.SL.CMD.addr (n : Nat) : Nat := 0x40100148 + n * 0x100
/-- SLALOM.SL.CMD.CODE (R215). -/
abbrev SLALOM.SL.CMD.CODE (n : Nat) : Fld := ⟨0x40100148 + n * 0x100, 0, 4⟩
/-- Address of SLALOM.SL.CMD_STATUS (R215). -/
abbrev SLALOM.SL.CMD_STATUS.addr (n : Nat) : Nat := 0x4010014c + n * 0x100
/-- SLALOM.SL.CMD_STATUS.CODE (R215). -/
abbrev SLALOM.SL.CMD_STATUS.CODE (n : Nat) : Fld := ⟨0x4010014c + n * 0x100, 0, 8⟩
/-- Address of SLALOM.SL.ADV (R215). -/
abbrev SLALOM.SL.ADV.addr (n i : Nat) : Nat := 0x40100180 + n * 0x100 + i * 0x4
/-- SLALOM.SL.ADV.E_LO (R215). -/
abbrev SLALOM.SL.ADV.E_LO (n i : Nat) : Fld := ⟨0x40100180 + n * 0x100 + i * 0x4, 0, 16⟩
/-- SLALOM.SL.ADV.E_HI (R215). -/
abbrev SLALOM.SL.ADV.E_HI (n i : Nat) : Fld := ⟨0x40100180 + n * 0x100 + i * 0x4, 16, 16⟩
/-- Address of PWM.LOCK (R250). -/
abbrev PWM.LOCK.addr : Nat := 0x400a0000
/-- PWM.LOCK.val (R250). -/
abbrev PWM.LOCK.val : Fld := ⟨0x400a0000, 0, 1⟩
/-- Address of PWM.GLOBAL.CTRL (R250). -/
abbrev PWM.GLOBAL.CTRL.addr : Nat := 0x400a0004
/-- PWM.GLOBAL.CTRL.LOADALL_MODE (R250). -/
abbrev PWM.GLOBAL.CTRL.LOADALL_MODE : Fld := ⟨0x400a0004, 0, 1⟩
/-- PWM.GLOBAL.CTRL.ILOCK_LIMIT (R250). -/
abbrev PWM.GLOBAL.CTRL.ILOCK_LIMIT : Fld := ⟨0x400a0004, 8, 8⟩
/-- PWM.GLOBAL.CTRL.ILOCK_WINDOW (R250). -/
abbrev PWM.GLOBAL.CTRL.ILOCK_WINDOW : Fld := ⟨0x400a0004, 16, 8⟩
/-- Address of PWM.GLOBAL.LOADALL (R250). -/
abbrev PWM.GLOBAL.LOADALL.addr : Nat := 0x400a0008
/-- PWM.GLOBAL.LOADALL.val (R250). -/
abbrev PWM.GLOBAL.LOADALL.val : Fld := ⟨0x400a0008, 0, 1⟩
/-- Address of PWM.GLOBAL.RUN (R250). -/
abbrev PWM.GLOBAL.RUN.addr : Nat := 0x400a000c
/-- PWM.GLOBAL.RUN.val (R250). -/
abbrev PWM.GLOBAL.RUN.val : Fld := ⟨0x400a000c, 0, 32⟩
/-- Address of PWM.GLOBAL.CMD (R250). -/
abbrev PWM.GLOBAL.CMD.addr : Nat := 0x400a0010
/-- PWM.GLOBAL.CMD.CODE (R250). -/
abbrev PWM.GLOBAL.CMD.CODE : Fld := ⟨0x400a0010, 0, 4⟩
/-- Address of PWM.GLOBAL.CMD_STATUS (R250). -/
abbrev PWM.GLOBAL.CMD_STATUS.addr : Nat := 0x400a0014
/-- PWM.GLOBAL.CMD_STATUS.CODE (R250). -/
abbrev PWM.GLOBAL.CMD_STATUS.CODE : Fld := ⟨0x400a0014, 0, 8⟩
/-- Address of PWM.TRIP.ACTIVE (R250). -/
abbrev PWM.TRIP.ACTIVE.addr : Nat := 0x400a0100
/-- PWM.TRIP.ACTIVE.GROUPS (R250). -/
abbrev PWM.TRIP.ACTIVE.GROUPS : Fld := ⟨0x400a0100, 0, 16⟩
/-- PWM.TRIP.ACTIVE.SLOTS (R250). -/
abbrev PWM.TRIP.ACTIVE.SLOTS : Fld := ⟨0x400a0100, 16, 4⟩
/-- PWM.TRIP.ACTIVE.OV (R250). -/
abbrev PWM.TRIP.ACTIVE.OV : Fld := ⟨0x400a0100, 20, 1⟩
/-- Address of PWM.TRIP.CFG (R250). -/
abbrev PWM.TRIP.CFG.addr : Nat := 0x400a0104
/-- PWM.TRIP.CFG.LATCH (R250). -/
abbrev PWM.TRIP.CFG.LATCH : Fld := ⟨0x400a0104, 0, 16⟩
/-- Address of PWM.TRIP.RELEASE (R250). -/
abbrev PWM.TRIP.RELEASE.addr : Nat := 0x400a0108
/-- PWM.TRIP.RELEASE.val (R250). -/
abbrev PWM.TRIP.RELEASE.val : Fld := ⟨0x400a0108, 0, 16⟩
/-- Address of PWM.TRIP.FAILSIDE (R250). -/
abbrev PWM.TRIP.FAILSIDE.addr : Nat := 0x400a010c
/-- PWM.TRIP.FAILSIDE.SIDES (R250). -/
abbrev PWM.TRIP.FAILSIDE.SIDES : Fld := ⟨0x400a010c, 0, 8⟩
/-- Address of PWM.TRIP.SAFE (R250). -/
abbrev PWM.TRIP.SAFE.addr (n : Nat) : Nat := 0x400a0110 + n * 0x4
/-- PWM.TRIP.SAFE.SEL (R250). -/
abbrev PWM.TRIP.SAFE.SEL (n : Nat) : Fld := ⟨0x400a0110 + n * 0x4, 0, 2⟩
/-- PWM.TRIP.SAFE.EFFECTIVE (R250). -/
abbrev PWM.TRIP.SAFE.EFFECTIVE (n : Nat) : Fld := ⟨0x400a0110 + n * 0x4, 2, 2⟩
/-- Address of PWM.TRIPIN.CFG (R250). -/
abbrev PWM.TRIPIN.CFG.addr (n : Nat) : Nat := 0x400a0200 + n * 0x10
/-- PWM.TRIPIN.CFG.ENABLE (R250). -/
abbrev PWM.TRIPIN.CFG.ENABLE (n : Nat) : Fld := ⟨0x400a0200 + n * 0x10, 0, 1⟩
/-- PWM.TRIPIN.CFG.POL (R250). -/
abbrev PWM.TRIPIN.CFG.POL (n : Nat) : Fld := ⟨0x400a0200 + n * 0x10, 1, 1⟩
/-- PWM.TRIPIN.CFG.FILT (R250). -/
abbrev PWM.TRIPIN.CFG.FILT (n : Nat) : Fld := ⟨0x400a0200 + n * 0x10, 2, 8⟩
/-- PWM.TRIPIN.CFG.BLANK_LEG (R250). -/
abbrev PWM.TRIPIN.CFG.BLANK_LEG (n : Nat) : Fld := ⟨0x400a0200 + n * 0x10, 10, 5⟩
/-- PWM.TRIPIN.CFG.BLANK_SRC (R250). -/
abbrev PWM.TRIPIN.CFG.BLANK_SRC (n : Nat) : Fld := ⟨0x400a0200 + n * 0x10, 15, 2⟩
/-- PWM.TRIPIN.CFG.BLANK_TIME (R250). -/
abbrev PWM.TRIPIN.CFG.BLANK_TIME (n : Nat) : Fld := ⟨0x400a0200 + n * 0x10, 17, 10⟩
/-- Address of PWM.TRIPIN.STATUS (R250). -/
abbrev PWM.TRIPIN.STATUS.addr (n : Nat) : Nat := 0x400a0204 + n * 0x10
/-- PWM.TRIPIN.STATUS.LEVEL (R250). -/
abbrev PWM.TRIPIN.STATUS.LEVEL (n : Nat) : Fld := ⟨0x400a0204 + n * 0x10, 0, 1⟩
/-- PWM.TRIPIN.STATUS.BLANKED (R250). -/
abbrev PWM.TRIPIN.STATUS.BLANKED (n : Nat) : Fld := ⟨0x400a0204 + n * 0x10, 1, 1⟩
/-- PWM.TRIPIN.STATUS.TRIPS (R250). -/
abbrev PWM.TRIPIN.STATUS.TRIPS (n : Nat) : Fld := ⟨0x400a0204 + n * 0x10, 16, 16⟩
/-- Address of PWM.TRIPIN.INJECT (R250). -/
abbrev PWM.TRIPIN.INJECT.addr (n : Nat) : Nat := 0x400a0208 + n * 0x10
/-- PWM.TRIPIN.INJECT.CLASS (R250). -/
abbrev PWM.TRIPIN.INJECT.CLASS (n : Nat) : Fld := ⟨0x400a0208 + n * 0x10, 0, 2⟩
/-- Address of PWM.TRIPIN.INJ_STATUS (R250). -/
abbrev PWM.TRIPIN.INJ_STATUS.addr (n : Nat) : Nat := 0x400a020c + n * 0x10
/-- PWM.TRIPIN.INJ_STATUS.CODE (R250). -/
abbrev PWM.TRIPIN.INJ_STATUS.CODE (n : Nat) : Fld := ⟨0x400a020c + n * 0x10, 0, 8⟩
/-- Address of PWM.LEG.CFG (R250). -/
abbrev PWM.LEG.CFG.addr (n : Nat) : Nat := 0x400a1000 + n * 0x80
/-- PWM.LEG.CFG.MODE (R250). -/
abbrev PWM.LEG.CFG.MODE (n : Nat) : Fld := ⟨0x400a1000 + n * 0x80, 0, 2⟩
/-- PWM.LEG.CFG.OUTMODE (R250). -/
abbrev PWM.LEG.CFG.OUTMODE (n : Nat) : Fld := ⟨0x400a1000 + n * 0x80, 2, 1⟩
/-- PWM.LEG.CFG.CTR_A (R250). -/
abbrev PWM.LEG.CFG.CTR_A (n : Nat) : Fld := ⟨0x400a1000 + n * 0x80, 3, 1⟩
/-- PWM.LEG.CFG.CTR_B (R250). -/
abbrev PWM.LEG.CFG.CTR_B (n : Nat) : Fld := ⟨0x400a1000 + n * 0x80, 4, 1⟩
/-- Address of PWM.LEG.PERIOD (R250). -/
abbrev PWM.LEG.PERIOD.addr (n : Nat) : Nat := 0x400a1004 + n * 0x80
/-- PWM.LEG.PERIOD.val (R250). -/
abbrev PWM.LEG.PERIOD.val (n : Nat) : Fld := ⟨0x400a1004 + n * 0x80, 0, 21⟩
/-- Address of PWM.LEG.CMP (R250). -/
abbrev PWM.LEG.CMP.addr (n i : Nat) : Nat := 0x400a1008 + n * 0x80 + i * 0x4
/-- PWM.LEG.CMP.COUNT (R250). -/
abbrev PWM.LEG.CMP.COUNT (n i : Nat) : Fld := ⟨0x400a1008 + n * 0x80 + i * 0x4, 0, 21⟩
/-- PWM.LEG.CMP.HR (R250). -/
abbrev PWM.LEG.CMP.HR (n i : Nat) : Fld := ⟨0x400a1008 + n * 0x80 + i * 0x4, 24, 5⟩
/-- Address of PWM.LEG.DT (R250). -/
abbrev PWM.LEG.DT.addr (n : Nat) : Nat := 0x400a1018 + n * 0x80
/-- PWM.LEG.DT.DTA (R250). -/
abbrev PWM.LEG.DT.DTA (n : Nat) : Fld := ⟨0x400a1018 + n * 0x80, 0, 16⟩
/-- PWM.LEG.DT.DTB (R250). -/
abbrev PWM.LEG.DT.DTB (n : Nat) : Fld := ⟨0x400a1018 + n * 0x80, 16, 16⟩
/-- Address of PWM.LEG.PHASE (R250). -/
abbrev PWM.LEG.PHASE.addr (n : Nat) : Nat := 0x400a101c + n * 0x80
/-- PWM.LEG.PHASE.val (R250). -/
abbrev PWM.LEG.PHASE.val (n : Nat) : Fld := ⟨0x400a101c + n * 0x80, 0, 21⟩
/-- Address of PWM.LEG.COMMIT (R250). -/
abbrev PWM.LEG.COMMIT.addr (n : Nat) : Nat := 0x400a1020 + n * 0x80
/-- PWM.LEG.COMMIT.POINT (R250). -/
abbrev PWM.LEG.COMMIT.POINT (n : Nat) : Fld := ⟨0x400a1020 + n * 0x80, 0, 2⟩
/-- Address of PWM.LEG.COHERENT (R250). -/
abbrev PWM.LEG.COHERENT.addr (n : Nat) : Nat := 0x400a1024 + n * 0x80
/-- PWM.LEG.COHERENT.MASK (R250). -/
abbrev PWM.LEG.COHERENT.MASK (n : Nat) : Fld := ⟨0x400a1024 + n * 0x80, 0, 7⟩
/-- Address of PWM.LEG.MINPULSE (R250). -/
abbrev PWM.LEG.MINPULSE.addr (n : Nat) : Nat := 0x400a1028 + n * 0x80
/-- PWM.LEG.MINPULSE.COUNT (R250). -/
abbrev PWM.LEG.MINPULSE.COUNT (n : Nat) : Fld := ⟨0x400a1028 + n * 0x80, 0, 16⟩
/-- PWM.LEG.MINPULSE.MODE (R250). -/
abbrev PWM.LEG.MINPULSE.MODE (n : Nat) : Fld := ⟨0x400a1028 + n * 0x80, 16, 1⟩
/-- Address of PWM.LEG.EVT_PRE (R250). -/
abbrev PWM.LEG.EVT_PRE.addr (n : Nat) : Nat := 0x400a102c + n * 0x80
/-- PWM.LEG.EVT_PRE.PRE (R250). -/
abbrev PWM.LEG.EVT_PRE.PRE (n : Nat) : Fld := ⟨0x400a102c + n * 0x80, 0, 24⟩
/-- Address of PWM.LEG.EVT_ROUTE (R250). -/
abbrev PWM.LEG.EVT_ROUTE.addr (n : Nat) : Nat := 0x400a1030 + n * 0x80
/-- PWM.LEG.EVT_ROUTE.IRQ (R250). -/
abbrev PWM.LEG.EVT_ROUTE.IRQ (n : Nat) : Fld := ⟨0x400a1030 + n * 0x80, 0, 6⟩
/-- PWM.LEG.EVT_ROUTE.HKA (R250). -/
abbrev PWM.LEG.EVT_ROUTE.HKA (n : Nat) : Fld := ⟨0x400a1030 + n * 0x80, 8, 6⟩
/-- Address of PWM.LEG.STATUS (R250). -/
abbrev PWM.LEG.STATUS.addr (n : Nat) : Nat := 0x400a1034 + n * 0x80
/-- PWM.LEG.STATUS.WRITTEN (R250). -/
abbrev PWM.LEG.STATUS.WRITTEN (n : Nat) : Fld := ⟨0x400a1034 + n * 0x80, 0, 7⟩
/-- PWM.LEG.STATUS.PENDING (R250). -/
abbrev PWM.LEG.STATUS.PENDING (n : Nat) : Fld := ⟨0x400a1034 + n * 0x80, 7, 1⟩
/-- PWM.LEG.STATUS.POINT (R250). -/
abbrev PWM.LEG.STATUS.POINT (n : Nat) : Fld := ⟨0x400a1034 + n * 0x80, 8, 2⟩
/-- PWM.LEG.STATUS.LATE_PEND (R250). -/
abbrev PWM.LEG.STATUS.LATE_PEND (n : Nat) : Fld := ⟨0x400a1034 + n * 0x80, 10, 1⟩
/-- PWM.LEG.STATUS.FORCED (R250). -/
abbrev PWM.LEG.STATUS.FORCED (n : Nat) : Fld := ⟨0x400a1034 + n * 0x80, 11, 1⟩
/-- PWM.LEG.STATUS.PATTERN (R250). -/
abbrev PWM.LEG.STATUS.PATTERN (n : Nat) : Fld := ⟨0x400a1034 + n * 0x80, 12, 2⟩
/-- PWM.LEG.STATUS.OUT_A (R250). -/
abbrev PWM.LEG.STATUS.OUT_A (n : Nat) : Fld := ⟨0x400a1034 + n * 0x80, 14, 1⟩
/-- PWM.LEG.STATUS.OUT_B (R250). -/
abbrev PWM.LEG.STATUS.OUT_B (n : Nat) : Fld := ⟨0x400a1034 + n * 0x80, 15, 1⟩
/-- PWM.LEG.STATUS.WRITTEN_IDLE (R250). -/
abbrev PWM.LEG.STATUS.WRITTEN_IDLE (n : Nat) : Fld := ⟨0x400a1034 + n * 0x80, 16, 1⟩
/-- Address of PWM.LEG.COUNTER (R250). -/
abbrev PWM.LEG.COUNTER.addr (n : Nat) : Nat := 0x400a1038 + n * 0x80
/-- PWM.LEG.COUNTER.COUNT (R250). -/
abbrev PWM.LEG.COUNTER.COUNT (n : Nat) : Fld := ⟨0x400a1038 + n * 0x80, 0, 21⟩
/-- PWM.LEG.COUNTER.DOWN (R250). -/
abbrev PWM.LEG.COUNTER.DOWN (n : Nat) : Fld := ⟨0x400a1038 + n * 0x80, 31, 1⟩
/-- Address of PWM.LEG.STATS (R250). -/
abbrev PWM.LEG.STATS.addr (n : Nat) : Nat := 0x400a103c + n * 0x80
/-- PWM.LEG.STATS.INTERLOCK (R250). -/
abbrev PWM.LEG.STATS.INTERLOCK (n : Nat) : Fld := ⟨0x400a103c + n * 0x80, 0, 16⟩
/-- PWM.LEG.STATS.MP_ACT (R250). -/
abbrev PWM.LEG.STATS.MP_ACT (n : Nat) : Fld := ⟨0x400a103c + n * 0x80, 16, 16⟩
/-- Address of PWM.LEG.COMMITS (R250). -/
abbrev PWM.LEG.COMMITS.addr (n : Nat) : Nat := 0x400a1040 + n * 0x80
/-- PWM.LEG.COMMITS.LATE (R250). -/
abbrev PWM.LEG.COMMITS.LATE (n : Nat) : Fld := ⟨0x400a1040 + n * 0x80, 0, 16⟩
/-- PWM.LEG.COMMITS.PARTIAL (R250). -/
abbrev PWM.LEG.COMMITS.PARTIAL (n : Nat) : Fld := ⟨0x400a1040 + n * 0x80, 16, 16⟩
/-- Address of PWM.LEG.TRANSFERS (R250). -/
abbrev PWM.LEG.TRANSFERS.addr (n : Nat) : Nat := 0x400a1044 + n * 0x80
/-- PWM.LEG.TRANSFERS.COUNT (R250). -/
abbrev PWM.LEG.TRANSFERS.COUNT (n : Nat) : Fld := ⟨0x400a1044 + n * 0x80, 0, 32⟩
/-- Address of PWM.LEG.IDLE (R250). -/
abbrev PWM.LEG.IDLE.addr (n : Nat) : Nat := 0x400a1048 + n * 0x80
/-- PWM.LEG.IDLE.val (R250). -/
abbrev PWM.LEG.IDLE.val (n : Nat) : Fld := ⟨0x400a1048 + n * 0x80, 0, 1⟩
/-- PWM.LEG.IDLE.ACTIVE (R250). -/
abbrev PWM.LEG.IDLE.ACTIVE (n : Nat) : Fld := ⟨0x400a1048 + n * 0x80, 1, 1⟩
/-- Address of PWM.LEG.ACT (R250). -/
abbrev PWM.LEG.ACT.addr (n i : Nat) : Nat := 0x400a1050 + n * 0x80 + i * 0x4
/-- PWM.LEG.ACT.VALUE (R250). -/
abbrev PWM.LEG.ACT.VALUE (n i : Nat) : Fld := ⟨0x400a1050 + n * 0x80 + i * 0x4, 0, 32⟩
/-- Address of EDGE.CH.CFG (R278). -/
abbrev EDGE.CH.CFG.addr (n : Nat) : Nat := 0x400b0000 + n * 0x400
/-- EDGE.CH.CFG.LEG (R278). -/
abbrev EDGE.CH.CFG.LEG (n : Nat) : Fld := ⟨0x400b0000 + n * 0x400, 0, 5⟩
/-- EDGE.CH.CFG.OUT (R278). -/
abbrev EDGE.CH.CFG.OUT (n : Nat) : Fld := ⟨0x400b0000 + n * 0x400, 5, 1⟩
/-- EDGE.CH.CFG.PARTNER (R278). -/
abbrev EDGE.CH.CFG.PARTNER (n : Nat) : Fld := ⟨0x400b0000 + n * 0x400, 8, 6⟩
/-- EDGE.CH.CFG.PAIRED (R278). -/
abbrev EDGE.CH.CFG.PAIRED (n : Nat) : Fld := ⟨0x400b0000 + n * 0x400, 14, 1⟩
/-- EDGE.CH.CFG.DUAL (R278). -/
abbrev EDGE.CH.CFG.DUAL (n : Nat) : Fld := ⟨0x400b0000 + n * 0x400, 15, 1⟩
/-- EDGE.CH.CFG.CLASS (R278). -/
abbrev EDGE.CH.CFG.CLASS (n : Nat) : Fld := ⟨0x400b0000 + n * 0x400, 16, 2⟩
/-- EDGE.CH.CFG.SENSE (R278). -/
abbrev EDGE.CH.CFG.SENSE (n : Nat) : Fld := ⟨0x400b0000 + n * 0x400, 20, 4⟩
/-- EDGE.CH.CFG.MAPPED (R278). -/
abbrev EDGE.CH.CFG.MAPPED (n : Nat) : Fld := ⟨0x400b0000 + n * 0x400, 31, 1⟩
/-- Address of EDGE.CH.RAIL (R278). -/
abbrev EDGE.CH.RAIL.addr (n : Nat) : Nat := 0x400b0004 + n * 0x400
/-- EDGE.CH.RAIL.VPOS (R278). -/
abbrev EDGE.CH.RAIL.VPOS (n : Nat) : Fld := ⟨0x400b0004 + n * 0x400, 0, 7⟩
/-- EDGE.CH.RAIL.VNEG (R278). -/
abbrev EDGE.CH.RAIL.VNEG (n : Nat) : Fld := ⟨0x400b0004 + n * 0x400, 8, 7⟩
/-- EDGE.CH.RAIL.QG (R278). -/
abbrev EDGE.CH.RAIL.QG (n : Nat) : Fld := ⟨0x400b0004 + n * 0x400, 16, 16⟩
/-- Address of EDGE.CH.STATE (R278). -/
abbrev EDGE.CH.STATE.addr (n : Nat) : Nat := 0x400b0008 + n * 0x400
/-- EDGE.CH.STATE.LINK (R278). -/
abbrev EDGE.CH.STATE.LINK (n : Nat) : Fld := ⟨0x400b0008 + n * 0x400, 0, 3⟩
/-- EDGE.CH.STATE.OUTPUT (R278). -/
abbrev EDGE.CH.STATE.OUTPUT (n : Nat) : Fld := ⟨0x400b0008 + n * 0x400, 3, 2⟩
/-- EDGE.CH.STATE.CLAMP (R278). -/
abbrev EDGE.CH.STATE.CLAMP (n : Nat) : Fld := ⟨0x400b0008 + n * 0x400, 5, 1⟩
/-- EDGE.CH.STATE.HOLDOFF (R278). -/
abbrev EDGE.CH.STATE.HOLDOFF (n : Nat) : Fld := ⟨0x400b0008 + n * 0x400, 6, 1⟩
/-- EDGE.CH.STATE.POWERED (R278). -/
abbrev EDGE.CH.STATE.POWERED (n : Nat) : Fld := ⟨0x400b0008 + n * 0x400, 7, 1⟩
/-- EDGE.CH.STATE.SINGLE (R278). -/
abbrev EDGE.CH.STATE.SINGLE (n : Nat) : Fld := ⟨0x400b0008 + n * 0x400, 8, 1⟩
/-- Address of EDGE.CH.CAUSE (R278). -/
abbrev EDGE.CH.CAUSE.addr (n : Nat) : Nat := 0x400b000c + n * 0x400
/-- EDGE.CH.CAUSE.CAUSES (R278). -/
abbrev EDGE.CH.CAUSE.CAUSES (n : Nat) : Fld := ⟨0x400b000c + n * 0x400, 0, 19⟩
/-- Address of EDGE.CH.DRIVE (R278). -/
abbrev EDGE.CH.DRIVE.addr (n : Nat) : Nat := 0x400b0010 + n * 0x400
/-- EDGE.CH.DRIVE.ON_STR (R278). -/
abbrev EDGE.CH.DRIVE.ON_STR (n : Nat) : Fld := ⟨0x400b0010 + n * 0x400, 0, 3⟩
/-- EDGE.CH.DRIVE.OFF_STR (R278). -/
abbrev EDGE.CH.DRIVE.OFF_STR (n : Nat) : Fld := ⟨0x400b0010 + n * 0x400, 4, 3⟩
/-- EDGE.CH.DRIVE.CLAMP_EN (R278). -/
abbrev EDGE.CH.DRIVE.CLAMP_EN (n : Nat) : Fld := ⟨0x400b0010 + n * 0x400, 8, 1⟩
/-- Address of EDGE.CH.PROT0 (R278). -/
abbrev EDGE.CH.PROT0.addr (n : Nat) : Nat := 0x400b0014 + n * 0x400
/-- EDGE.CH.PROT0.SC_HARD (R278). -/
abbrev EDGE.CH.PROT0.SC_HARD (n : Nat) : Fld := ⟨0x400b0014 + n * 0x400, 0, 12⟩
/-- EDGE.CH.PROT0.OC (R278). -/
abbrev EDGE.CH.PROT0.OC (n : Nat) : Fld := ⟨0x400b0014 + n * 0x400, 16, 12⟩
/-- Address of EDGE.CH.PROT1 (R278). -/
abbrev EDGE.CH.PROT1.addr (n : Nat) : Nat := 0x400b0018 + n * 0x400
/-- EDGE.CH.PROT1.DESAT (R278). -/
abbrev EDGE.CH.PROT1.DESAT (n : Nat) : Fld := ⟨0x400b0018 + n * 0x400, 0, 8⟩
/-- EDGE.CH.PROT1.BLANK (R278). -/
abbrev EDGE.CH.PROT1.BLANK (n : Nat) : Fld := ⟨0x400b0018 + n * 0x400, 8, 8⟩
/-- EDGE.CH.PROT1.STO_TIME (R278). -/
abbrev EDGE.CH.PROT1.STO_TIME (n : Nat) : Fld := ⟨0x400b0018 + n * 0x400, 16, 3⟩
/-- EDGE.CH.PROT1.STO_LEVEL (R278). -/
abbrev EDGE.CH.PROT1.STO_LEVEL (n : Nat) : Fld := ⟨0x400b0018 + n * 0x400, 20, 4⟩
/-- EDGE.CH.PROT1.GUV_TIME (R278). -/
abbrev EDGE.CH.PROT1.GUV_TIME (n : Nat) : Fld := ⟨0x400b0018 + n * 0x400, 24, 8⟩
/-- Address of EDGE.CH.PROT2 (R278). -/
abbrev EDGE.CH.PROT2.addr (n : Nat) : Nat := 0x400b001c + n * 0x400
/-- EDGE.CH.PROT2.OT_WARN (R278). -/
abbrev EDGE.CH.PROT2.OT_WARN (n : Nat) : Fld := ⟨0x400b001c + n * 0x400, 0, 12⟩
/-- EDGE.CH.PROT2.OT_TRIP (R278). -/
abbrev EDGE.CH.PROT2.OT_TRIP (n : Nat) : Fld := ⟨0x400b001c + n * 0x400, 16, 12⟩
/-- Address of EDGE.CH.MEAS0 (R278). -/
abbrev EDGE.CH.MEAS0.addr (n : Nat) : Nat := 0x400b0020 + n * 0x400
/-- EDGE.CH.MEAS0.VON (R278). -/
abbrev EDGE.CH.MEAS0.VON (n : Nat) : Fld := ⟨0x400b0020 + n * 0x400, 0, 16⟩
/-- EDGE.CH.MEAS0.SNS (R278). -/
abbrev EDGE.CH.MEAS0.SNS (n : Nat) : Fld := ⟨0x400b0020 + n * 0x400, 16, 16⟩
/-- Address of EDGE.CH.MEAS1 (R278). -/
abbrev EDGE.CH.MEAS1.addr (n : Nat) : Nat := 0x400b0024 + n * 0x400
/-- EDGE.CH.MEAS1.VG_ON (R278). -/
abbrev EDGE.CH.MEAS1.VG_ON (n : Nat) : Fld := ⟨0x400b0024 + n * 0x400, 0, 16⟩
/-- EDGE.CH.MEAS1.VG_OFF (R278). -/
abbrev EDGE.CH.MEAS1.VG_OFF (n : Nat) : Fld := ⟨0x400b0024 + n * 0x400, 16, 16⟩
/-- Address of EDGE.CH.MEAS2 (R278). -/
abbrev EDGE.CH.MEAS2.addr (n : Nat) : Nat := 0x400b0028 + n * 0x400
/-- EDGE.CH.MEAS2.VPOS_ACT (R278). -/
abbrev EDGE.CH.MEAS2.VPOS_ACT (n : Nat) : Fld := ⟨0x400b0028 + n * 0x400, 0, 16⟩
/-- EDGE.CH.MEAS2.VNEG_ACT (R278). -/
abbrev EDGE.CH.MEAS2.VNEG_ACT (n : Nat) : Fld := ⟨0x400b0028 + n * 0x400, 16, 16⟩
/-- Address of EDGE.CH.MEAS3 (R278). -/
abbrev EDGE.CH.MEAS3.addr (n : Nat) : Nat := 0x400b002c + n * 0x400
/-- EDGE.CH.MEAS3.VNTC (R278). -/
abbrev EDGE.CH.MEAS3.VNTC (n : Nat) : Fld := ⟨0x400b002c + n * 0x400, 0, 16⟩
/-- EDGE.CH.MEAS3.TDIE (R278). -/
abbrev EDGE.CH.MEAS3.TDIE (n : Nat) : Fld := ⟨0x400b002c + n * 0x400, 16, 16⟩
/-- Address of EDGE.CH.MEAS4 (R278). -/
abbrev EDGE.CH.MEAS4.addr (n : Nat) : Nat := 0x400b0030 + n * 0x400
/-- EDGE.CH.MEAS4.PGATE (R278). -/
abbrev EDGE.CH.MEAS4.PGATE (n : Nat) : Fld := ⟨0x400b0030 + n * 0x400, 0, 12⟩
/-- EDGE.CH.MEAS4.NOPULSE (R278). -/
abbrev EDGE.CH.MEAS4.NOPULSE (n : Nat) : Fld := ⟨0x400b0030 + n * 0x400, 12, 1⟩
/-- EDGE.CH.MEAS4.SEQ (R278). -/
abbrev EDGE.CH.MEAS4.SEQ (n : Nat) : Fld := ⟨0x400b0030 + n * 0x400, 16, 16⟩
/-- Address of EDGE.CH.LINKSTAT0 (R278). -/
abbrev EDGE.CH.LINKSTAT0.addr (n : Nat) : Nat := 0x400b0038 + n * 0x400
/-- EDGE.CH.LINKSTAT0.CRC_ERRS (R278). -/
abbrev EDGE.CH.LINKSTAT0.CRC_ERRS (n : Nat) : Fld := ⟨0x400b0038 + n * 0x400, 0, 16⟩
/-- EDGE.CH.LINKSTAT0.LATE_EDGES (R278). -/
abbrev EDGE.CH.LINKSTAT0.LATE_EDGES (n : Nat) : Fld := ⟨0x400b0038 + n * 0x400, 16, 16⟩
/-- Address of EDGE.CH.LINKSTAT1 (R278). -/
abbrev EDGE.CH.LINKSTAT1.addr (n : Nat) : Nat := 0x400b003c + n * 0x400
/-- EDGE.CH.LINKSTAT1.RETRAINS (R278). -/
abbrev EDGE.CH.LINKSTAT1.RETRAINS (n : Nat) : Fld := ⟨0x400b003c + n * 0x400, 0, 8⟩
/-- EDGE.CH.LINKSTAT1.ILOCK (R278). -/
abbrev EDGE.CH.LINKSTAT1.ILOCK (n : Nat) : Fld := ⟨0x400b003c + n * 0x400, 8, 8⟩
/-- Address of EDGE.CH.SKEW (R278). -/
abbrev EDGE.CH.SKEW.addr (n : Nat) : Nat := 0x400b0044 + n * 0x400
/-- EDGE.CH.SKEW.TRIM (R278). -/
abbrev EDGE.CH.SKEW.TRIM (n : Nat) : Fld := ⟨0x400b0044 + n * 0x400, 0, 6⟩
/-- EDGE.CH.SKEW.RESID (R278). -/
abbrev EDGE.CH.SKEW.RESID (n : Nat) : Fld := ⟨0x400b0044 + n * 0x400, 16, 16⟩
/-- Address of EDGE.CH.CMD (R278). -/
abbrev EDGE.CH.CMD.addr (n : Nat) : Nat := 0x400b0048 + n * 0x400
/-- EDGE.CH.CMD.CODE (R278). -/
abbrev EDGE.CH.CMD.CODE (n : Nat) : Fld := ⟨0x400b0048 + n * 0x400, 0, 4⟩
/-- Address of EDGE.CH.CMD_STATUS (R278). -/
abbrev EDGE.CH.CMD_STATUS.addr (n : Nat) : Nat := 0x400b004c + n * 0x400
/-- EDGE.CH.CMD_STATUS.CODE (R278). -/
abbrev EDGE.CH.CMD_STATUS.CODE (n : Nat) : Fld := ⟨0x400b004c + n * 0x400, 0, 8⟩
/-- EDGE.CH.CMD_STATUS.BUSY (R278). -/
abbrev EDGE.CH.CMD_STATUS.BUSY (n : Nat) : Fld := ⟨0x400b004c + n * 0x400, 8, 1⟩
/-- Address of EDGE.CH.INJECT (R278). -/
abbrev EDGE.CH.INJECT.addr (n : Nat) : Nat := 0x400b0050 + n * 0x400
/-- EDGE.CH.INJECT.DET (R278). -/
abbrev EDGE.CH.INJECT.DET (n : Nat) : Fld := ⟨0x400b0050 + n * 0x400, 0, 3⟩
/-- EDGE.CH.INJECT.CLASS (R278). -/
abbrev EDGE.CH.INJECT.CLASS (n : Nat) : Fld := ⟨0x400b0050 + n * 0x400, 4, 2⟩
/-- Address of EDGE.CH.INJ_STATUS (R278). -/
abbrev EDGE.CH.INJ_STATUS.addr (n : Nat) : Nat := 0x400b0054 + n * 0x400
/-- EDGE.CH.INJ_STATUS.CODE (R278). -/
abbrev EDGE.CH.INJ_STATUS.CODE (n : Nat) : Fld := ⟨0x400b0054 + n * 0x400, 0, 8⟩
/-- Address of DRIVE.LOCK (R334). -/
abbrev DRIVE.LOCK.addr : Nat := 0x40120000
/-- DRIVE.LOCK.val (R334). -/
abbrev DRIVE.LOCK.val : Fld := ⟨0x40120000, 0, 1⟩
/-- Address of DRIVE.CHOP_CFG (R334). -/
abbrev DRIVE.CHOP_CFG.addr : Nat := 0x40120004
/-- DRIVE.CHOP_CFG.ENABLE (R334). -/
abbrev DRIVE.CHOP_CFG.ENABLE : Fld := ⟨0x40120004, 0, 1⟩
/-- DRIVE.CHOP_CFG.MIN_ON (R334). -/
abbrev DRIVE.CHOP_CFG.MIN_ON : Fld := ⟨0x40120004, 8, 8⟩
/-- DRIVE.CHOP_CFG.VERIFY (R334). -/
abbrev DRIVE.CHOP_CFG.VERIFY : Fld := ⟨0x40120004, 16, 16⟩
/-- Address of DRIVE.CHOP_THR (R334). -/
abbrev DRIVE.CHOP_THR.addr : Nat := 0x40120008
/-- DRIVE.CHOP_THR.HYS (R334). -/
abbrev DRIVE.CHOP_THR.HYS : Fld := ⟨0x40120008, 0, 12⟩
/-- DRIVE.CHOP_THR.DV (R334). -/
abbrev DRIVE.CHOP_THR.DV : Fld := ⟨0x40120008, 16, 12⟩
/-- Address of DRIVE.CHOP_ISENSE (R334). -/
abbrev DRIVE.CHOP_ISENSE.addr : Nat := 0x4012000c
/-- DRIVE.CHOP_ISENSE.ISENSE (R334). -/
abbrev DRIVE.CHOP_ISENSE.ISENSE : Fld := ⟨0x4012000c, 0, 12⟩
/-- Address of DRIVE.CHOP_STATUS (R334). -/
abbrev DRIVE.CHOP_STATUS.addr : Nat := 0x40120010
/-- DRIVE.CHOP_STATUS.REQ (R334). -/
abbrev DRIVE.CHOP_STATUS.REQ : Fld := ⟨0x40120010, 0, 1⟩
/-- DRIVE.CHOP_STATUS.VERIFIED (R334). -/
abbrev DRIVE.CHOP_STATUS.VERIFIED : Fld := ⟨0x40120010, 1, 1⟩
/-- DRIVE.CHOP_STATUS.FAULT (R334). -/
abbrev DRIVE.CHOP_STATUS.FAULT : Fld := ⟨0x40120010, 2, 1⟩
/-- DRIVE.CHOP_STATUS.PULSES (R334). -/
abbrev DRIVE.CHOP_STATUS.PULSES : Fld := ⟨0x40120010, 16, 16⟩
/-- Address of DRIVE.SLOT.CFG (R334). -/
abbrev DRIVE.SLOT.CFG.addr (n : Nat) : Nat := 0x40120100 + n * 0x80
/-- DRIVE.SLOT.CFG.FB_MODE (R334). -/
abbrev DRIVE.SLOT.CFG.FB_MODE (n : Nat) : Fld := ⟨0x40120100 + n * 0x80, 0, 2⟩
/-- DRIVE.SLOT.CFG.GLIDE_KIND (R334). -/
abbrev DRIVE.SLOT.CFG.GLIDE_KIND (n : Nat) : Fld := ⟨0x40120100 + n * 0x80, 2, 1⟩
/-- DRIVE.SLOT.CFG.OBS_EN (R334). -/
abbrev DRIVE.SLOT.CFG.OBS_EN (n : Nat) : Fld := ⟨0x40120100 + n * 0x80, 3, 1⟩
/-- DRIVE.SLOT.CFG.SPD_PORT (R334). -/
abbrev DRIVE.SLOT.CFG.SPD_PORT (n : Nat) : Fld := ⟨0x40120100 + n * 0x80, 4, 6⟩
/-- DRIVE.SLOT.CFG.CUR_BASE (R334). -/
abbrev DRIVE.SLOT.CFG.CUR_BASE (n : Nat) : Fld := ⟨0x40120100 + n * 0x80, 10, 6⟩
/-- DRIVE.SLOT.CFG.CUR_N (R334). -/
abbrev DRIVE.SLOT.CFG.CUR_N (n : Nat) : Fld := ⟨0x40120100 + n * 0x80, 16, 4⟩
/-- DRIVE.SLOT.CFG.OBS_PROG (R334). -/
abbrev DRIVE.SLOT.CFG.OBS_PROG (n : Nat) : Fld := ⟨0x40120100 + n * 0x80, 20, 3⟩
/-- Address of DRIVE.SLOT.PARAMS (R334). -/
abbrev DRIVE.SLOT.PARAMS.addr (n : Nat) : Nat := 0x40120104 + n * 0x80
/-- DRIVE.SLOT.PARAMS.REGEN_PARAM (R334). -/
abbrev DRIVE.SLOT.PARAMS.REGEN_PARAM (n : Nat) : Fld := ⟨0x40120104 + n * 0x80, 0, 8⟩
/-- DRIVE.SLOT.PARAMS.DISCH_PARAM (R334). -/
abbrev DRIVE.SLOT.PARAMS.DISCH_PARAM (n : Nat) : Fld := ⟨0x40120104 + n * 0x80, 8, 8⟩
/-- DRIVE.SLOT.PARAMS.REGEN_EN (R334). -/
abbrev DRIVE.SLOT.PARAMS.REGEN_EN (n : Nat) : Fld := ⟨0x40120104 + n * 0x80, 16, 1⟩
/-- DRIVE.SLOT.PARAMS.DISCH_EN (R334). -/
abbrev DRIVE.SLOT.PARAMS.DISCH_EN (n : Nat) : Fld := ⟨0x40120104 + n * 0x80, 17, 1⟩
/-- Address of DRIVE.SLOT.STATE (R334). -/
abbrev DRIVE.SLOT.STATE.addr (n : Nat) : Nat := 0x40120108 + n * 0x80
/-- DRIVE.SLOT.STATE.val (R334). -/
abbrev DRIVE.SLOT.STATE.val (n : Nat) : Fld := ⟨0x40120108 + n * 0x80, 0, 4⟩
/-- DRIVE.SLOT.STATE.PREV (R334). -/
abbrev DRIVE.SLOT.STATE.PREV (n : Nat) : Fld := ⟨0x40120108 + n * 0x80, 4, 4⟩
/-- DRIVE.SLOT.STATE.REASON (R334). -/
abbrev DRIVE.SLOT.STATE.REASON (n : Nat) : Fld := ⟨0x40120108 + n * 0x80, 8, 3⟩
/-- DRIVE.SLOT.STATE.SPEED_STALE (R334). -/
abbrev DRIVE.SLOT.STATE.SPEED_STALE (n : Nat) : Fld := ⟨0x40120108 + n * 0x80, 11, 1⟩
/-- DRIVE.SLOT.STATE.NSRC (R334). -/
abbrev DRIVE.SLOT.STATE.NSRC (n : Nat) : Fld := ⟨0x40120108 + n * 0x80, 12, 3⟩
/-- DRIVE.SLOT.STATE.METHOD (R334). -/
abbrev DRIVE.SLOT.STATE.METHOD (n : Nat) : Fld := ⟨0x40120108 + n * 0x80, 15, 2⟩
/-- DRIVE.SLOT.STATE.CATCH_TRY (R334). -/
abbrev DRIVE.SLOT.STATE.CATCH_TRY (n : Nat) : Fld := ⟨0x40120108 + n * 0x80, 17, 2⟩
/-- Address of DRIVE.SLOT.SPEED (R334). -/
abbrev DRIVE.SLOT.SPEED.addr (n : Nat) : Nat := 0x4012010c + n * 0x80
/-- DRIVE.SLOT.SPEED.N (R334). -/
abbrev DRIVE.SLOT.SPEED.N (n : Nat) : Fld := ⟨0x4012010c + n * 0x80, 0, 32⟩
/-- Address of DRIVE.SLOT.CMD (R334). -/
abbrev DRIVE.SLOT.CMD.addr (n : Nat) : Nat := 0x40120110 + n * 0x80
/-- DRIVE.SLOT.CMD.CODE (R334). -/
abbrev DRIVE.SLOT.CMD.CODE (n : Nat) : Fld := ⟨0x40120110 + n * 0x80, 0, 4⟩
/-- Address of DRIVE.SLOT.CMD_STATUS (R334). -/
abbrev DRIVE.SLOT.CMD_STATUS.addr (n : Nat) : Nat := 0x40120114 + n * 0x80
/-- DRIVE.SLOT.CMD_STATUS.CODE (R334). -/
abbrev DRIVE.SLOT.CMD_STATUS.CODE (n : Nat) : Fld := ⟨0x40120114 + n * 0x80, 0, 8⟩
/-- Address of DRIVE.SLOT.OBS_CFG (R334). -/
abbrev DRIVE.SLOT.OBS_CFG.addr (n : Nat) : Nat := 0x40120118 + n * 0x80
/-- DRIVE.SLOT.OBS_CFG.OBS_N (R334). -/
abbrev DRIVE.SLOT.OBS_CFG.OBS_N (n : Nat) : Fld := ⟨0x40120118 + n * 0x80, 0, 4⟩
/-- Address of DRIVE.SLOT.ACC_MAX (R334). -/
abbrev DRIVE.SLOT.ACC_MAX.addr (n : Nat) : Nat := 0x4012011c + n * 0x80
/-- DRIVE.SLOT.ACC_MAX.ACC (R334). -/
abbrev DRIVE.SLOT.ACC_MAX.ACC (n : Nat) : Fld := ⟨0x4012011c + n * 0x80, 0, 32⟩
/-- Address of DRIVE.SLOT.STANDSTILL_SPEED (R334). -/
abbrev DRIVE.SLOT.STANDSTILL_SPEED.addr (n : Nat) : Nat := 0x40120120 + n * 0x80
/-- DRIVE.SLOT.STANDSTILL_SPEED.N (R334). -/
abbrev DRIVE.SLOT.STANDSTILL_SPEED.N (n : Nat) : Fld := ⟨0x40120120 + n * 0x80, 0, 32⟩
/-- Address of DRIVE.SLOT.TIMES (R334). -/
abbrev DRIVE.SLOT.TIMES.addr (n : Nat) : Nat := 0x40120124 + n * 0x80
/-- DRIVE.SLOT.TIMES.STANDSTILL_TIME (R334). -/
abbrev DRIVE.SLOT.TIMES.STANDSTILL_TIME (n : Nat) : Fld := ⟨0x40120124 + n * 0x80, 0, 8⟩
/-- DRIVE.SLOT.TIMES.CUR_COUNT (R334). -/
abbrev DRIVE.SLOT.TIMES.CUR_COUNT (n : Nat) : Fld := ⟨0x40120124 + n * 0x80, 8, 4⟩
/-- DRIVE.SLOT.TIMES.GLIDE_TIMEOUT (R334). -/
abbrev DRIVE.SLOT.TIMES.GLIDE_TIMEOUT (n : Nat) : Fld := ⟨0x40120124 + n * 0x80, 16, 16⟩
/-- Address of DRIVE.SLOT.CATCH_CFG (R334). -/
abbrev DRIVE.SLOT.CATCH_CFG.addr (n : Nat) : Nat := 0x40120128 + n * 0x80
/-- DRIVE.SLOT.CATCH_CFG.LOCK_PERIODS (R334). -/
abbrev DRIVE.SLOT.CATCH_CFG.LOCK_PERIODS (n : Nat) : Fld := ⟨0x40120128 + n * 0x80, 0, 4⟩
/-- DRIVE.SLOT.CATCH_CFG.LOCK_TOL (R334). -/
abbrev DRIVE.SLOT.CATCH_CFG.LOCK_TOL (n : Nat) : Fld := ⟨0x40120128 + n * 0x80, 8, 8⟩
/-- Address of DRIVE.SLOT.RS (R334). -/
abbrev DRIVE.SLOT.RS.addr (n : Nat) : Nat := 0x4012012c + n * 0x80
/-- DRIVE.SLOT.RS.val (R334). -/
abbrev DRIVE.SLOT.RS.val (n : Nat) : Fld := ⟨0x4012012c + n * 0x80, 0, 32⟩
/-- Address of DRIVE.SLOT.LQ (R334). -/
abbrev DRIVE.SLOT.LQ.addr (n : Nat) : Nat := 0x40120130 + n * 0x80
/-- DRIVE.SLOT.LQ.val (R334). -/
abbrev DRIVE.SLOT.LQ.val (n : Nat) : Fld := ⟨0x40120130 + n * 0x80, 0, 32⟩
/-- Address of DRIVE.SLOT.DISCH_ID (R334). -/
abbrev DRIVE.SLOT.DISCH_ID.addr (n : Nat) : Nat := 0x40120134 + n * 0x80
/-- DRIVE.SLOT.DISCH_ID.I (R334). -/
abbrev DRIVE.SLOT.DISCH_ID.I (n : Nat) : Fld := ⟨0x40120134 + n * 0x80, 0, 32⟩
/-- Address of DRIVE.SLOT.LINK_HYS (R334). -/
abbrev DRIVE.SLOT.LINK_HYS.addr (n : Nat) : Nat := 0x40120138 + n * 0x80
/-- DRIVE.SLOT.LINK_HYS.V (R334). -/
abbrev DRIVE.SLOT.LINK_HYS.V (n : Nat) : Fld := ⟨0x40120138 + n * 0x80, 0, 32⟩
/-- Address of DRIVE.SLOT.FADE_SPEED (R334). -/
abbrev DRIVE.SLOT.FADE_SPEED.addr (n : Nat) : Nat := 0x4012013c + n * 0x80
/-- DRIVE.SLOT.FADE_SPEED.N (R334). -/
abbrev DRIVE.SLOT.FADE_SPEED.N (n : Nat) : Fld := ⟨0x4012013c + n * 0x80, 0, 32⟩
/-- Address of DRIVE.SLOT.EVENTS (R334). -/
abbrev DRIVE.SLOT.EVENTS.addr (n : Nat) : Nat := 0x40120140 + n * 0x80
/-- DRIVE.SLOT.EVENTS.OBS_LOSSES (R334). -/
abbrev DRIVE.SLOT.EVENTS.OBS_LOSSES (n : Nat) : Fld := ⟨0x40120140 + n * 0x80, 0, 8⟩
/-- DRIVE.SLOT.EVENTS.CATCHES (R334). -/
abbrev DRIVE.SLOT.EVENTS.CATCHES (n : Nat) : Fld := ⟨0x40120140 + n * 0x80, 8, 8⟩
/-- DRIVE.SLOT.EVENTS.CATCH_FAILS (R334). -/
abbrev DRIVE.SLOT.EVENTS.CATCH_FAILS (n : Nat) : Fld := ⟨0x40120140 + n * 0x80, 16, 8⟩
/-- DRIVE.SLOT.EVENTS.SAFE_ENTRIES (R334). -/
abbrev DRIVE.SLOT.EVENTS.SAFE_ENTRIES (n : Nat) : Fld := ⟨0x40120140 + n * 0x80, 24, 8⟩
/-- Address of DRIVE.SLOT.DISCH_STATUS (R334). -/
abbrev DRIVE.SLOT.DISCH_STATUS.addr (n : Nat) : Nat := 0x40120144 + n * 0x80
/-- DRIVE.SLOT.DISCH_STATUS.PHASE (R334). -/
abbrev DRIVE.SLOT.DISCH_STATUS.PHASE (n : Nat) : Fld := ⟨0x40120144 + n * 0x80, 0, 2⟩
/-- DRIVE.SLOT.DISCH_STATUS.TIME (R334). -/
abbrev DRIVE.SLOT.DISCH_STATUS.TIME (n : Nat) : Fld := ⟨0x40120144 + n * 0x80, 16, 16⟩
/-- Address of DRIVE.CHG.CFG (R348). -/
abbrev DRIVE.CHG.CFG.addr : Nat := 0x40120400
/-- DRIVE.CHG.CFG.TOPO (R348). -/
abbrev DRIVE.CHG.CFG.TOPO : Fld := ⟨0x40120400, 0, 2⟩
/-- DRIVE.CHG.CFG.GRID (R348). -/
abbrev DRIVE.CHG.CFG.GRID : Fld := ⟨0x40120400, 2, 2⟩
/-- DRIVE.CHG.CFG.PHV_BASE (R348). -/
abbrev DRIVE.CHG.CFG.PHV_BASE : Fld := ⟨0x40120400, 4, 4⟩
/-- DRIVE.CHG.CFG.CTR_OUT (R348). -/
abbrev DRIVE.CHG.CFG.CTR_OUT : Fld := ⟨0x40120400, 8, 4⟩
/-- DRIVE.CHG.CFG.CTR_FB (R348). -/
abbrev DRIVE.CHG.CFG.CTR_FB : Fld := ⟨0x40120400, 12, 4⟩
/-- DRIVE.CHG.CFG.PARK_IN (R348). -/
abbrev DRIVE.CHG.CFG.PARK_IN : Fld := ⟨0x40120400, 16, 4⟩
/-- DRIVE.CHG.CFG.FB_POL (R348). -/
abbrev DRIVE.CHG.CFG.FB_POL : Fld := ⟨0x40120400, 20, 1⟩
/-- DRIVE.CHG.CFG.PARK_POL (R348). -/
abbrev DRIVE.CHG.CFG.PARK_POL : Fld := ⟨0x40120400, 21, 1⟩
/-- DRIVE.CHG.CFG.MODE_PARAM (R348). -/
abbrev DRIVE.CHG.CFG.MODE_PARAM : Fld := ⟨0x40120400, 24, 8⟩
/-- Address of DRIVE.CHG.TARGET (R348). -/
abbrev DRIVE.CHG.TARGET.addr : Nat := 0x40120404
/-- DRIVE.CHG.TARGET.P (R348). -/
abbrev DRIVE.CHG.TARGET.P : Fld := ⟨0x40120404, 0, 32⟩
/-- Address of DRIVE.CHG.YMAX (R348). -/
abbrev DRIVE.CHG.YMAX.addr : Nat := 0x40120408
/-- DRIVE.CHG.YMAX.P (R348). -/
abbrev DRIVE.CHG.YMAX.P : Fld := ⟨0x40120408, 0, 32⟩
/-- Address of DRIVE.CHG.RMAX (R348). -/
abbrev DRIVE.CHG.RMAX.addr : Nat := 0x4012040c
/-- DRIVE.CHG.RMAX.R (R348). -/
abbrev DRIVE.CHG.RMAX.R : Fld := ⟨0x4012040c, 0, 32⟩
/-- Address of DRIVE.CHG.JMAX (R348). -/
abbrev DRIVE.CHG.JMAX.addr : Nat := 0x40120410
/-- DRIVE.CHG.JMAX.J (R348). -/
abbrev DRIVE.CHG.JMAX.J : Fld := ⟨0x40120410, 0, 32⟩
/-- Address of DRIVE.CHG.VWIN (R348). -/
abbrev DRIVE.CHG.VWIN.addr : Nat := 0x40120414
/-- DRIVE.CHG.VWIN.VMIN (R348). -/
abbrev DRIVE.CHG.VWIN.VMIN : Fld := ⟨0x40120414, 0, 12⟩
/-- DRIVE.CHG.VWIN.VMAX (R348). -/
abbrev DRIVE.CHG.VWIN.VMAX : Fld := ⟨0x40120414, 16, 12⟩
/-- Address of DRIVE.CHG.FWIN (R348). -/
abbrev DRIVE.CHG.FWIN.addr : Nat := 0x40120418
/-- DRIVE.CHG.FWIN.FMIN (R348). -/
abbrev DRIVE.CHG.FWIN.FMIN : Fld := ⟨0x40120418, 0, 10⟩
/-- DRIVE.CHG.FWIN.FMAX (R348). -/
abbrev DRIVE.CHG.FWIN.FMAX : Fld := ⟨0x40120418, 16, 10⟩
/-- Address of DRIVE.CHG.VMARGIN (R348). -/
abbrev DRIVE.CHG.VMARGIN.addr : Nat := 0x4012041c
/-- DRIVE.CHG.VMARGIN.M (R348). -/
abbrev DRIVE.CHG.VMARGIN.M : Fld := ⟨0x4012041c, 0, 32⟩
/-- Address of DRIVE.CHG.TIMES0 (R348). -/
abbrev DRIVE.CHG.TIMES0.addr : Nat := 0x40120420
/-- DRIVE.CHG.TIMES0.CLOSE_TIME (R348). -/
abbrev DRIVE.CHG.TIMES0.CLOSE_TIME : Fld := ⟨0x40120420, 0, 8⟩
/-- DRIVE.CHG.TIMES0.OPEN_TIME (R348). -/
abbrev DRIVE.CHG.TIMES0.OPEN_TIME : Fld := ⟨0x40120420, 8, 8⟩
/-- DRIVE.CHG.TIMES0.SETTLE (R348). -/
abbrev DRIVE.CHG.TIMES0.SETTLE : Fld := ⟨0x40120420, 16, 8⟩
/-- DRIVE.CHG.TIMES0.GRID_LOSS_TIME (R348). -/
abbrev DRIVE.CHG.TIMES0.GRID_LOSS_TIME : Fld := ⟨0x40120420, 24, 8⟩
/-- Address of DRIVE.CHG.TIMES1 (R348). -/
abbrev DRIVE.CHG.TIMES1.addr : Nat := 0x40120424
/-- DRIVE.CHG.TIMES1.GRID_OK_TIME (R348). -/
abbrev DRIVE.CHG.TIMES1.GRID_OK_TIME : Fld := ⟨0x40120424, 0, 8⟩
/-- DRIVE.CHG.TIMES1.RAMP_TIMEOUT (R348). -/
abbrev DRIVE.CHG.TIMES1.RAMP_TIMEOUT : Fld := ⟨0x40120424, 8, 16⟩
/-- Address of DRIVE.CHG.ZTG_ILIM (R348). -/
abbrev DRIVE.CHG.ZTG_ILIM.addr : Nat := 0x40120428
/-- DRIVE.CHG.ZTG_ILIM.I (R348). -/
abbrev DRIVE.CHG.ZTG_ILIM.I : Fld := ⟨0x40120428, 0, 32⟩
/-- Address of DRIVE.CHG.ZTG (R348). -/
abbrev DRIVE.CHG.ZTG.addr : Nat := 0x4012042c
/-- DRIVE.CHG.ZTG.ZTG_COUNT (R348). -/
abbrev DRIVE.CHG.ZTG.ZTG_COUNT : Fld := ⟨0x4012042c, 0, 4⟩
/-- DRIVE.CHG.ZTG.ZTG_POS (R348). -/
abbrev DRIVE.CHG.ZTG.ZTG_POS : Fld := ⟨0x4012042c, 8, 16⟩
/-- Address of DRIVE.CHG.STATUS (R348). -/
abbrev DRIVE.CHG.STATUS.addr : Nat := 0x40120430
/-- DRIVE.CHG.STATUS.PHASE (R348). -/
abbrev DRIVE.CHG.STATUS.PHASE : Fld := ⟨0x40120430, 0, 3⟩
/-- DRIVE.CHG.STATUS.SOURCE_OK (R348). -/
abbrev DRIVE.CHG.STATUS.SOURCE_OK : Fld := ⟨0x40120430, 3, 1⟩
/-- DRIVE.CHG.STATUS.SEQ_OK (R348). -/
abbrev DRIVE.CHG.STATUS.SEQ_OK : Fld := ⟨0x40120430, 4, 1⟩
/-- DRIVE.CHG.STATUS.CTR_CLOSED (R348). -/
abbrev DRIVE.CHG.STATUS.CTR_CLOSED : Fld := ⟨0x40120430, 5, 1⟩
/-- DRIVE.CHG.STATUS.PARK (R348). -/
abbrev DRIVE.CHG.STATUS.PARK : Fld := ⟨0x40120430, 6, 1⟩
/-- DRIVE.CHG.STATUS.DENY (R348). -/
abbrev DRIVE.CHG.STATUS.DENY : Fld := ⟨0x40120430, 8, 4⟩
/-- Address of DRIVE.CHG.SRC_V (R348). -/
abbrev DRIVE.CHG.SRC_V.addr : Nat := 0x40120434
/-- DRIVE.CHG.SRC_V.V (R348). -/
abbrev DRIVE.CHG.SRC_V.V : Fld := ⟨0x40120434, 0, 32⟩
/-- Address of DRIVE.CHG.SRC_F (R348). -/
abbrev DRIVE.CHG.SRC_F.addr : Nat := 0x40120438
/-- DRIVE.CHG.SRC_F.F (R348). -/
abbrev DRIVE.CHG.SRC_F.F : Fld := ⟨0x40120438, 0, 32⟩
/-- Address of DRIVE.CHG.GUARD (R348). -/
abbrev DRIVE.CHG.GUARD.addr : Nat := 0x4012043c
/-- DRIVE.CHG.GUARD.G (R348). -/
abbrev DRIVE.CHG.GUARD.G : Fld := ⟨0x4012043c, 0, 32⟩
/-- Address of DRIVE.CHG.EVENTS (R348). -/
abbrev DRIVE.CHG.EVENTS.addr : Nat := 0x40120440
/-- DRIVE.CHG.EVENTS.SESSIONS (R348). -/
abbrev DRIVE.CHG.EVENTS.SESSIONS : Fld := ⟨0x40120440, 0, 8⟩
/-- DRIVE.CHG.EVENTS.SOURCE_LOSSES (R348). -/
abbrev DRIVE.CHG.EVENTS.SOURCE_LOSSES : Fld := ⟨0x40120440, 8, 8⟩
/-- DRIVE.CHG.EVENTS.ZTG_TRIPS (R348). -/
abbrev DRIVE.CHG.EVENTS.ZTG_TRIPS : Fld := ⟨0x40120440, 16, 8⟩
/-- DRIVE.CHG.EVENTS.CTR_FAULTS (R348). -/
abbrev DRIVE.CHG.EVENTS.CTR_FAULTS : Fld := ⟨0x40120440, 24, 8⟩
/-- Address of TRIAD.STATUS (R372). -/
abbrev TRIAD.STATUS.addr : Nat := 0x40060000
/-- TRIAD.STATUS.MODE (R372). -/
abbrev TRIAD.STATUS.MODE : Fld := ⟨0x40060000, 0, 2⟩
/-- TRIAD.STATUS.VOTING (R372). -/
abbrev TRIAD.STATUS.VOTING : Fld := ⟨0x40060000, 2, 4⟩
/-- TRIAD.STATUS.RETIRED (R372). -/
abbrev TRIAD.STATUS.RETIRED : Fld := ⟨0x40060000, 6, 4⟩
/-- TRIAD.STATUS.ODD (R372). -/
abbrev TRIAD.STATUS.ODD : Fld := ⟨0x40060000, 10, 2⟩
/-- TRIAD.STATUS.SPARE_READY (R372). -/
abbrev TRIAD.STATUS.SPARE_READY : Fld := ⟨0x40060000, 12, 1⟩
/-- TRIAD.STATUS.JUDGES (R372). -/
abbrev TRIAD.STATUS.JUDGES : Fld := ⟨0x40060000, 16, 3⟩
/-- Address of TRIAD.RESYNC (R372). -/
abbrev TRIAD.RESYNC.addr : Nat := 0x40060004
/-- TRIAD.RESYNC.LAST (R372). -/
abbrev TRIAD.RESYNC.LAST : Fld := ⟨0x40060004, 0, 16⟩
/-- TRIAD.RESYNC.MAX (R372). -/
abbrev TRIAD.RESYNC.MAX : Fld := ⟨0x40060004, 16, 16⟩
/-- Address of TRIAD.COUNTS0 (R372). -/
abbrev TRIAD.COUNTS0.addr : Nat := 0x40060008
/-- TRIAD.COUNTS0.LANE_FAULTS (R372). -/
abbrev TRIAD.COUNTS0.LANE_FAULTS : Fld := ⟨0x40060008, 0, 16⟩
/-- TRIAD.COUNTS0.RESYNCS (R372). -/
abbrev TRIAD.COUNTS0.RESYNCS : Fld := ⟨0x40060008, 16, 16⟩
/-- Address of TRIAD.COUNTS1 (R372). -/
abbrev TRIAD.COUNTS1.addr : Nat := 0x4006000c
/-- TRIAD.COUNTS1.LATENT (R372). -/
abbrev TRIAD.COUNTS1.LATENT : Fld := ⟨0x4006000c, 0, 8⟩
/-- TRIAD.COUNTS1.AGREE_FIX (R372). -/
abbrev TRIAD.COUNTS1.AGREE_FIX : Fld := ⟨0x4006000c, 16, 16⟩
/-- Address of TRIAD.COUNTS2 (R372). -/
abbrev TRIAD.COUNTS2.addr : Nat := 0x40060010
/-- TRIAD.COUNTS2.ALIGN_PARITY (R372). -/
abbrev TRIAD.COUNTS2.ALIGN_PARITY : Fld := ⟨0x40060010, 0, 16⟩
/-- TRIAD.COUNTS2.ALIGN_PATH (R372). -/
abbrev TRIAD.COUNTS2.ALIGN_PATH : Fld := ⟨0x40060010, 16, 16⟩
/-- Address of TRIAD.LANE (R372). -/
abbrev TRIAD.LANE.addr (n : Nat) : Nat := 0x40060014 + n * 0x4
/-- TRIAD.LANE.HOUR (R372). -/
abbrev TRIAD.LANE.HOUR (n : Nat) : Fld := ⟨0x40060014 + n * 0x4, 0, 2⟩
/-- TRIAD.LANE.TOTAL (R372). -/
abbrev TRIAD.LANE.TOTAL (n : Nat) : Fld := ⟨0x40060014 + n * 0x4, 8, 8⟩
/-- Address of TRIAD.LAST0 (R372). -/
abbrev TRIAD.LAST0.addr : Nat := 0x40060024
/-- TRIAD.LAST0.LANE (R372). -/
abbrev TRIAD.LAST0.LANE : Fld := ⟨0x40060024, 0, 2⟩
/-- TRIAD.LAST0.POINT (R372). -/
abbrev TRIAD.LAST0.POINT : Fld := ⟨0x40060024, 2, 4⟩
/-- TRIAD.LAST0.VERDICTS (R372). -/
abbrev TRIAD.LAST0.VERDICTS : Fld := ⟨0x40060024, 6, 3⟩
/-- TRIAD.LAST0.LATENT (R372). -/
abbrev TRIAD.LAST0.LATENT : Fld := ⟨0x40060024, 9, 1⟩
/-- Address of TRIAD.LAST1 (R372). -/
abbrev TRIAD.LAST1.addr : Nat := 0x40060028
/-- TRIAD.LAST1.INDEX (R372). -/
abbrev TRIAD.LAST1.INDEX : Fld := ⟨0x40060028, 0, 32⟩
/-- Address of TRIAD.LAST_TIME_S (R372). -/
abbrev TRIAD.LAST_TIME_S.addr : Nat := 0x4006002c
/-- TRIAD.LAST_TIME_S.S (R372). -/
abbrev TRIAD.LAST_TIME_S.S : Fld := ⟨0x4006002c, 0, 32⟩
/-- Address of TRIAD.LAST_TIME_NS (R372). -/
abbrev TRIAD.LAST_TIME_NS.addr : Nat := 0x40060030
/-- TRIAD.LAST_TIME_NS.NS (R372). -/
abbrev TRIAD.LAST_TIME_NS.NS : Fld := ⟨0x40060030, 0, 30⟩
/-- Address of TRIAD.CMD (R372). -/
abbrev TRIAD.CMD.addr : Nat := 0x40060034
/-- TRIAD.CMD.CODE (R372). -/
abbrev TRIAD.CMD.CODE : Fld := ⟨0x40060034, 0, 4⟩
/-- Address of TRIAD.CMD_STATUS (R372). -/
abbrev TRIAD.CMD_STATUS.addr : Nat := 0x40060038
/-- TRIAD.CMD_STATUS.CODE (R372). -/
abbrev TRIAD.CMD_STATUS.CODE : Fld := ⟨0x40060038, 0, 8⟩
/-- Address of TRIAD.INJECT (R372). -/
abbrev TRIAD.INJECT.addr : Nat := 0x4006003c
/-- TRIAD.INJECT.TARGET (R372). -/
abbrev TRIAD.INJECT.TARGET : Fld := ⟨0x4006003c, 0, 3⟩
/-- TRIAD.INJECT.CLASS (R372). -/
abbrev TRIAD.INJECT.CLASS : Fld := ⟨0x4006003c, 4, 2⟩
/-- Address of TRIAD.INJ_STATUS (R372). -/
abbrev TRIAD.INJ_STATUS.addr : Nat := 0x40060040
/-- TRIAD.INJ_STATUS.CODE (R372). -/
abbrev TRIAD.INJ_STATUS.CODE : Fld := ⟨0x40060040, 0, 8⟩
/-- Address of TRIAD.JSTAT (R372). -/
abbrev TRIAD.JSTAT.addr : Nat := 0x40060044
/-- TRIAD.JSTAT.TESTS (R372). -/
abbrev TRIAD.JSTAT.TESTS : Fld := ⟨0x40060044, 0, 16⟩
/-- TRIAD.JSTAT.FAILS (R372). -/
abbrev TRIAD.JSTAT.FAILS : Fld := ⟨0x40060044, 16, 8⟩
/-- Address of PATROL.LOCK (R398). -/
abbrev PATROL.LOCK.addr : Nat := 0x40050000
/-- PATROL.LOCK.val (R398). -/
abbrev PATROL.LOCK.val : Fld := ⟨0x40050000, 0, 1⟩
/-- Address of PATROL.STATUS (R398). -/
abbrev PATROL.STATUS.addr : Nat := 0x40050004
/-- PATROL.STATUS.F4 (R398). -/
abbrev PATROL.STATUS.F4 : Fld := ⟨0x40050004, 0, 1⟩
/-- PATROL.STATUS.SAFE_N (R398). -/
abbrev PATROL.STATUS.SAFE_N : Fld := ⟨0x40050004, 1, 1⟩
/-- PATROL.STATUS.FRICTION (R398). -/
abbrev PATROL.STATUS.FRICTION : Fld := ⟨0x40050004, 2, 1⟩
/-- PATROL.STATUS.TEST_SESSION (R398). -/
abbrev PATROL.STATUS.TEST_SESSION : Fld := ⟨0x40050004, 3, 1⟩
/-- PATROL.STATUS.LIVE_BUSY (R398). -/
abbrev PATROL.STATUS.LIVE_BUSY : Fld := ⟨0x40050004, 4, 1⟩
/-- PATROL.STATUS.SAFE (R398). -/
abbrev PATROL.STATUS.SAFE : Fld := ⟨0x40050004, 8, 4⟩
/-- PATROL.STATUS.DEGRADED (R398). -/
abbrev PATROL.STATUS.DEGRADED : Fld := ⟨0x40050004, 12, 4⟩
/-- Address of PATROL.CLASS (R398). -/
abbrev PATROL.CLASS.addr (n : Nat) : Nat := 0x40050010 + n * 0x4
/-- PATROL.CLASS.CLASSES (R398). -/
abbrev PATROL.CLASS.CLASSES (n : Nat) : Fld := ⟨0x40050010 + n * 0x4, 0, 5⟩
/-- Address of PATROL.FIRST (R398). -/
abbrev PATROL.FIRST.addr : Nat := 0x40050020
/-- PATROL.FIRST.GROUP (R398). -/
abbrev PATROL.FIRST.GROUP : Fld := ⟨0x40050020, 0, 6⟩
/-- PATROL.FIRST.BIT (R398). -/
abbrev PATROL.FIRST.BIT : Fld := ⟨0x40050020, 6, 5⟩
/-- PATROL.FIRST.CLASS (R398). -/
abbrev PATROL.FIRST.CLASS : Fld := ⟨0x40050020, 11, 3⟩
/-- PATROL.FIRST.SLOTS (R398). -/
abbrev PATROL.FIRST.SLOTS : Fld := ⟨0x40050020, 14, 4⟩
/-- PATROL.FIRST.VALID (R398). -/
abbrev PATROL.FIRST.VALID : Fld := ⟨0x40050020, 18, 1⟩
/-- Address of PATROL.FIRST_TIME_S (R398). -/
abbrev PATROL.FIRST_TIME_S.addr : Nat := 0x40050024
/-- PATROL.FIRST_TIME_S.S (R398). -/
abbrev PATROL.FIRST_TIME_S.S : Fld := ⟨0x40050024, 0, 32⟩
/-- Address of PATROL.FIRST_TIME_NS (R398). -/
abbrev PATROL.FIRST_TIME_NS.addr : Nat := 0x40050028
/-- PATROL.FIRST_TIME_NS.NS (R398). -/
abbrev PATROL.FIRST_TIME_NS.NS : Fld := ⟨0x40050028, 0, 30⟩
/-- Address of PATROL.LAST (R398). -/
abbrev PATROL.LAST.addr : Nat := 0x4005002c
/-- PATROL.LAST.GROUP (R398). -/
abbrev PATROL.LAST.GROUP : Fld := ⟨0x4005002c, 0, 6⟩
/-- PATROL.LAST.BIT (R398). -/
abbrev PATROL.LAST.BIT : Fld := ⟨0x4005002c, 6, 5⟩
/-- PATROL.LAST.CLASS (R398). -/
abbrev PATROL.LAST.CLASS : Fld := ⟨0x4005002c, 11, 3⟩
/-- PATROL.LAST.SLOTS (R398). -/
abbrev PATROL.LAST.SLOTS : Fld := ⟨0x4005002c, 14, 4⟩
/-- PATROL.LAST.VALID (R398). -/
abbrev PATROL.LAST.VALID : Fld := ⟨0x4005002c, 18, 1⟩
/-- PATROL.LAST.SHADOW (R398). -/
abbrev PATROL.LAST.SHADOW : Fld := ⟨0x4005002c, 19, 1⟩
/-- Address of PATROL.CMD (R398). -/
abbrev PATROL.CMD.addr : Nat := 0x40050030
/-- PATROL.CMD.CODE (R398). -/
abbrev PATROL.CMD.CODE : Fld := ⟨0x40050030, 0, 4⟩
/-- Address of PATROL.CMD_STATUS (R398). -/
abbrev PATROL.CMD_STATUS.addr : Nat := 0x40050034
/-- PATROL.CMD_STATUS.CODE (R398). -/
abbrev PATROL.CMD_STATUS.CODE : Fld := ⟨0x40050034, 0, 8⟩
/-- Address of PATROL.WDOG_CFG (R398). -/
abbrev PATROL.WDOG_CFG.addr : Nat := 0x40050040
/-- PATROL.WDOG_CFG.ENABLE (R398). -/
abbrev PATROL.WDOG_CFG.ENABLE : Fld := ⟨0x40050040, 0, 1⟩
/-- PATROL.WDOG_CFG.MIN (R398). -/
abbrev PATROL.WDOG_CFG.MIN : Fld := ⟨0x40050040, 8, 8⟩
/-- PATROL.WDOG_CFG.TIMEOUT (R398). -/
abbrev PATROL.WDOG_CFG.TIMEOUT : Fld := ⟨0x40050040, 16, 16⟩
/-- Address of PATROL.WDOG_KICK (R398). -/
abbrev PATROL.WDOG_KICK.addr : Nat := 0x40050044
/-- PATROL.WDOG_KICK.KEY (R398). -/
abbrev PATROL.WDOG_KICK.KEY : Fld := ⟨0x40050044, 0, 8⟩
/-- Address of PATROL.WDOG_STATUS (R398). -/
abbrev PATROL.WDOG_STATUS.addr : Nat := 0x40050048
/-- PATROL.WDOG_STATUS.LEFT (R398). -/
abbrev PATROL.WDOG_STATUS.LEFT : Fld := ⟨0x40050048, 0, 16⟩
/-- PATROL.WDOG_STATUS.NEXT (R398). -/
abbrev PATROL.WDOG_STATUS.NEXT : Fld := ⟨0x40050048, 16, 1⟩
/-- PATROL.WDOG_STATUS.EXPIRIES (R398). -/
abbrev PATROL.WDOG_STATUS.EXPIRIES : Fld := ⟨0x40050048, 24, 8⟩
/-- Address of PATROL.STALL (R398). -/
abbrev PATROL.STALL.addr (n : Nat) : Nat := 0x40050050 + n * 0x4
/-- PATROL.STALL.TIME (R398). -/
abbrev PATROL.STALL.TIME (n : Nat) : Fld := ⟨0x40050050 + n * 0x4, 0, 16⟩
/-- Address of PATROL.FRICTION_CFG (R398). -/
abbrev PATROL.FRICTION_CFG.addr : Nat := 0x40050060
/-- PATROL.FRICTION_CFG.ON_SAFE (R398). -/
abbrev PATROL.FRICTION_CFG.ON_SAFE : Fld := ⟨0x40050060, 0, 4⟩
/-- Address of PATROL.CLS_QUERY (R398). -/
abbrev PATROL.CLS_QUERY.addr : Nat := 0x40050070
/-- PATROL.CLS_QUERY.GROUP (R398). -/
abbrev PATROL.CLS_QUERY.GROUP : Fld := ⟨0x40050070, 0, 6⟩
/-- PATROL.CLS_QUERY.BIT (R398). -/
abbrev PATROL.CLS_QUERY.BIT : Fld := ⟨0x40050070, 6, 5⟩
/-- Address of PATROL.CLS_INFO (R398). -/
abbrev PATROL.CLS_INFO.addr : Nat := 0x40050074
/-- PATROL.CLS_INFO.CLASS (R398). -/
abbrev PATROL.CLS_INFO.CLASS : Fld := ⟨0x40050074, 0, 3⟩
/-- PATROL.CLS_INFO.DEFAULT (R398). -/
abbrev PATROL.CLS_INFO.DEFAULT : Fld := ⟨0x40050074, 3, 1⟩
/-- PATROL.CLS_INFO.SLOTS (R398). -/
abbrev PATROL.CLS_INFO.SLOTS : Fld := ⟨0x40050074, 4, 4⟩
/-- PATROL.CLS_INFO.TRIP (R398). -/
abbrev PATROL.CLS_INFO.TRIP : Fld := ⟨0x40050074, 8, 5⟩
/-- PATROL.CLS_INFO.FRICTION (R398). -/
abbrev PATROL.CLS_INFO.FRICTION : Fld := ⟨0x40050074, 13, 1⟩
/-- PATROL.CLS_INFO.ESC (R398). -/
abbrev PATROL.CLS_INFO.ESC : Fld := ⟨0x40050074, 14, 1⟩
/-- Address of PATROL.ESC.CFG (R398). -/
abbrev PATROL.ESC.CFG.addr (n : Nat) : Nat := 0x40050080 + n * 0x8
/-- PATROL.ESC.CFG.GROUP (R398). -/
abbrev PATROL.ESC.CFG.GROUP (n : Nat) : Fld := ⟨0x40050080 + n * 0x8, 0, 6⟩
/-- PATROL.ESC.CFG.BIT (R398). -/
abbrev PATROL.ESC.CFG.BIT (n : Nat) : Fld := ⟨0x40050080 + n * 0x8, 6, 5⟩
/-- PATROL.ESC.CFG.CLASS (R398). -/
abbrev PATROL.ESC.CFG.CLASS (n : Nat) : Fld := ⟨0x40050080 + n * 0x8, 11, 3⟩
/-- PATROL.ESC.CFG.COUNT (R398). -/
abbrev PATROL.ESC.CFG.COUNT (n : Nat) : Fld := ⟨0x40050080 + n * 0x8, 16, 8⟩
/-- PATROL.ESC.CFG.WINDOW (R398). -/
abbrev PATROL.ESC.CFG.WINDOW (n : Nat) : Fld := ⟨0x40050080 + n * 0x8, 24, 8⟩
/-- Address of PATROL.ESC.STATUS (R398). -/
abbrev PATROL.ESC.STATUS.addr (n : Nat) : Nat := 0x40050084 + n * 0x8
/-- PATROL.ESC.STATUS.RUN (R398). -/
abbrev PATROL.ESC.STATUS.RUN (n : Nat) : Fld := ⟨0x40050084 + n * 0x8, 0, 8⟩
/-- PATROL.ESC.STATUS.FIRED (R398). -/
abbrev PATROL.ESC.STATUS.FIRED (n : Nat) : Fld := ⟨0x40050084 + n * 0x8, 8, 1⟩
/-- Address of PATROL.INJ_TARGET (R398). -/
abbrev PATROL.INJ_TARGET.addr : Nat := 0x40050100
/-- PATROL.INJ_TARGET.TARGET (R398). -/
abbrev PATROL.INJ_TARGET.TARGET : Fld := ⟨0x40050100, 0, 8⟩
/-- PATROL.INJ_TARGET.INDEX (R398). -/
abbrev PATROL.INJ_TARGET.INDEX : Fld := ⟨0x40050100, 8, 8⟩
/-- Address of PATROL.INJECT (R398). -/
abbrev PATROL.INJECT.addr : Nat := 0x40050104
/-- PATROL.INJECT.CLASS (R398). -/
abbrev PATROL.INJECT.CLASS : Fld := ⟨0x40050104, 0, 2⟩
/-- Address of PATROL.INJ_STATUS (R398). -/
abbrev PATROL.INJ_STATUS.addr : Nat := 0x40050108
/-- PATROL.INJ_STATUS.CODE (R398). -/
abbrev PATROL.INJ_STATUS.CODE : Fld := ⟨0x40050108, 0, 8⟩
/-- Address of HKA.LOCK (R420). -/
abbrev HKA.LOCK.addr : Nat := 0x400d0000
/-- HKA.LOCK.val (R420). -/
abbrev HKA.LOCK.val : Fld := ⟨0x400d0000, 0, 1⟩
/-- Address of HKA.STATUS (R420). -/
abbrev HKA.STATUS.addr : Nat := 0x400d0004
/-- HKA.STATUS.IDLE (R420). -/
abbrev HKA.STATUS.IDLE : Fld := ⟨0x400d0004, 0, 1⟩
/-- HKA.STATUS.BUSY (R420). -/
abbrev HKA.STATUS.BUSY : Fld := ⟨0x400d0004, 1, 8⟩
/-- HKA.STATUS.SPARE_FOR (R420). -/
abbrev HKA.STATUS.SPARE_FOR : Fld := ⟨0x400d0004, 9, 4⟩
/-- Address of HKA.CORES (R420). -/
abbrev HKA.CORES.addr : Nat := 0x400d0008
/-- HKA.CORES.STATE (R420). -/
abbrev HKA.CORES.STATE : Fld := ⟨0x400d0008, 0, 18⟩
/-- Address of HKA.TDAC (R420). -/
abbrev HKA.TDAC.addr : Nat := 0x400d000c
/-- HKA.TDAC.CODE (R420). -/
abbrev HKA.TDAC.CODE : Fld := ⟨0x400d000c, 0, 12⟩
/-- Address of HKA.LIMHIT0 (R420). -/
abbrev HKA.LIMHIT0.addr : Nat := 0x400d0010
/-- HKA.LIMHIT0.TRK (R420). -/
abbrev HKA.LIMHIT0.TRK : Fld := ⟨0x400d0010, 0, 32⟩
/-- Address of HKA.LIMHIT1 (R420). -/
abbrev HKA.LIMHIT1.addr : Nat := 0x400d0014
/-- HKA.LIMHIT1.TRK (R420). -/
abbrev HKA.LIMHIT1.TRK : Fld := ⟨0x400d0014, 0, 32⟩
/-- Address of HKA.CMD (R420). -/
abbrev HKA.CMD.addr : Nat := 0x400d0018
/-- HKA.CMD.CODE (R420). -/
abbrev HKA.CMD.CODE : Fld := ⟨0x400d0018, 0, 4⟩
/-- HKA.CMD.MASK (R420). -/
abbrev HKA.CMD.MASK : Fld := ⟨0x400d0018, 8, 8⟩
/-- Address of HKA.CMD_STATUS (R420). -/
abbrev HKA.CMD_STATUS.addr : Nat := 0x400d001c
/-- HKA.CMD_STATUS.CODE (R420). -/
abbrev HKA.CMD_STATUS.CODE : Fld := ⟨0x400d001c, 0, 8⟩
/-- Address of HKA.INJ_TARGET (R420). -/
abbrev HKA.INJ_TARGET.addr : Nat := 0x400d0020
/-- HKA.INJ_TARGET.TARGET (R420). -/
abbrev HKA.INJ_TARGET.TARGET : Fld := ⟨0x400d0020, 0, 8⟩
/-- HKA.INJ_TARGET.INDEX (R420). -/
abbrev HKA.INJ_TARGET.INDEX : Fld := ⟨0x400d0020, 8, 8⟩
/-- Address of HKA.INJECT (R420). -/
abbrev HKA.INJECT.addr : Nat := 0x400d0024
/-- HKA.INJECT.CLASS (R420). -/
abbrev HKA.INJECT.CLASS : Fld := ⟨0x400d0024, 0, 2⟩
/-- Address of HKA.INJ_STATUS (R420). -/
abbrev HKA.INJ_STATUS.addr : Nat := 0x400d0028
/-- HKA.INJ_STATUS.CODE (R420). -/
abbrev HKA.INJ_STATUS.CODE : Fld := ⟨0x400d0028, 0, 8⟩
/-- Address of HKA.CHECK (R420). -/
abbrev HKA.CHECK.addr (n : Nat) : Nat := 0x400d0040 + n * 0x4
/-- HKA.CHECK.REF (R420). -/
abbrev HKA.CHECK.REF (n : Nat) : Fld := ⟨0x400d0040 + n * 0x4, 0, 12⟩
/-- HKA.CHECK.ZERO (R420). -/
abbrev HKA.CHECK.ZERO (n : Nat) : Fld := ⟨0x400d0040 + n * 0x4, 12, 12⟩
/-- HKA.CHECK.FAILS (R420). -/
abbrev HKA.CHECK.FAILS (n : Nat) : Fld := ⟨0x400d0040 + n * 0x4, 24, 8⟩
/-- Address of HKA.SEQ.CFG (R420). -/
abbrev HKA.SEQ.CFG.addr (n : Nat) : Nat := 0x400d0100 + n * 0x80
/-- HKA.SEQ.CFG.ENABLE (R420). -/
abbrev HKA.SEQ.CFG.ENABLE (n : Nat) : Fld := ⟨0x400d0100 + n * 0x80, 0, 1⟩
/-- HKA.SEQ.CFG.TRIG (R420). -/
abbrev HKA.SEQ.CFG.TRIG (n : Nat) : Fld := ⟨0x400d0100 + n * 0x80, 1, 3⟩
/-- HKA.SEQ.CFG.LEG (R420). -/
abbrev HKA.SEQ.CFG.LEG (n : Nat) : Fld := ⟨0x400d0100 + n * 0x80, 4, 5⟩
/-- HKA.SEQ.CFG.CHAIN_SRC (R420). -/
abbrev HKA.SEQ.CFG.CHAIN_SRC (n : Nat) : Fld := ⟨0x400d0100 + n * 0x80, 9, 3⟩
/-- HKA.SEQ.CFG.LEN (R420). -/
abbrev HKA.SEQ.CFG.LEN (n : Nat) : Fld := ⟨0x400d0100 + n * 0x80, 12, 4⟩
/-- HKA.SEQ.CFG.PD (R420). -/
abbrev HKA.SEQ.CFG.PD (n : Nat) : Fld := ⟨0x400d0100 + n * 0x80, 16, 1⟩
/-- Address of HKA.SEQ.TIMER (R420). -/
abbrev HKA.SEQ.TIMER.addr (n : Nat) : Nat := 0x400d0104 + n * 0x80
/-- HKA.SEQ.TIMER.PERIOD (R420). -/
abbrev HKA.SEQ.TIMER.PERIOD (n : Nat) : Fld := ⟨0x400d0104 + n * 0x80, 0, 16⟩
/-- Address of HKA.SEQ.DELAY (R420). -/
abbrev HKA.SEQ.DELAY.addr (n : Nat) : Nat := 0x400d0108 + n * 0x80
/-- HKA.SEQ.DELAY.val (R420). -/
abbrev HKA.SEQ.DELAY.val (n : Nat) : Fld := ⟨0x400d0108 + n * 0x80, 0, 16⟩
/-- HKA.SEQ.DELAY.IDLE_PD (R420). -/
abbrev HKA.SEQ.DELAY.IDLE_PD (n : Nat) : Fld := ⟨0x400d0108 + n * 0x80, 16, 8⟩
/-- Address of HKA.SEQ.STAT (R420). -/
abbrev HKA.SEQ.STAT.addr (n : Nat) : Nat := 0x400d010c + n * 0x80
/-- HKA.SEQ.STAT.PASSES (R420). -/
abbrev HKA.SEQ.STAT.PASSES (n : Nat) : Fld := ⟨0x400d010c + n * 0x80, 0, 16⟩
/-- HKA.SEQ.STAT.MISSED (R420). -/
abbrev HKA.SEQ.STAT.MISSED (n : Nat) : Fld := ⟨0x400d010c + n * 0x80, 16, 15⟩
/-- HKA.SEQ.STAT.DEAD (R420). -/
abbrev HKA.SEQ.STAT.DEAD (n : Nat) : Fld := ⟨0x400d010c + n * 0x80, 31, 1⟩
/-- Address of HKA.SEQ.ENTRY (R420). -/
abbrev HKA.SEQ.ENTRY.addr (n i : Nat) : Nat := 0x400d0140 + n * 0x80 + i * 0x4
/-- HKA.SEQ.ENTRY.INPUT (R420). -/
abbrev HKA.SEQ.ENTRY.INPUT (n i : Nat) : Fld := ⟨0x400d0140 + n * 0x80 + i * 0x4, 0, 6⟩
/-- HKA.SEQ.ENTRY.OW (R420). -/
abbrev HKA.SEQ.ENTRY.OW (n i : Nat) : Fld := ⟨0x400d0140 + n * 0x80 + i * 0x4, 6, 2⟩
/-- HKA.SEQ.ENTRY.TRK (R420). -/
abbrev HKA.SEQ.ENTRY.TRK (n i : Nat) : Fld := ⟨0x400d0140 + n * 0x80 + i * 0x4, 8, 6⟩
/-- Address of HKA.TRK.CFG (R420). -/
abbrev HKA.TRK.CFG.addr (n : Nat) : Nat := 0x400d1000 + n * 0x40
/-- HKA.TRK.CFG.ENABLE (R420). -/
abbrev HKA.TRK.CFG.ENABLE (n : Nat) : Fld := ⟨0x400d1000 + n * 0x40, 0, 1⟩
/-- HKA.TRK.CFG.WMODE (R420). -/
abbrev HKA.TRK.CFG.WMODE (n : Nat) : Fld := ⟨0x400d1000 + n * 0x40, 1, 2⟩
/-- HKA.TRK.CFG.WIN_SEQ (R420). -/
abbrev HKA.TRK.CFG.WIN_SEQ (n : Nat) : Fld := ⟨0x400d1000 + n * 0x40, 3, 3⟩
/-- Address of HKA.TRK.WIN (R420). -/
abbrev HKA.TRK.WIN.addr (n : Nat) : Nat := 0x400d1004 + n * 0x40
/-- HKA.TRK.WIN.N (R420). -/
abbrev HKA.TRK.WIN.N (n : Nat) : Fld := ⟨0x400d1004 + n * 0x40, 0, 16⟩
/-- Address of HKA.TRK.LIM (R420). -/
abbrev HKA.TRK.LIM.addr (n : Nat) : Nat := 0x400d1008 + n * 0x40
/-- HKA.TRK.LIM.LO (R420). -/
abbrev HKA.TRK.LIM.LO (n : Nat) : Fld := ⟨0x400d1008 + n * 0x40, 0, 12⟩
/-- HKA.TRK.LIM.HI (R420). -/
abbrev HKA.TRK.LIM.HI (n : Nat) : Fld := ⟨0x400d1008 + n * 0x40, 16, 12⟩
/-- HKA.TRK.LIM.EN (R420). -/
abbrev HKA.TRK.LIM.EN (n : Nat) : Fld := ⟨0x400d1008 + n * 0x40, 28, 1⟩
/-- Address of HKA.TRK.GAIN (R420). -/
abbrev HKA.TRK.GAIN.addr (n : Nat) : Nat := 0x400d100c + n * 0x40
/-- HKA.TRK.GAIN.val (R420). -/
abbrev HKA.TRK.GAIN.val (n : Nat) : Fld := ⟨0x400d100c + n * 0x40, 0, 32⟩
/-- Address of HKA.TRK.OFFSET (R420). -/
abbrev HKA.TRK.OFFSET.addr (n : Nat) : Nat := 0x400d1010 + n * 0x40
/-- HKA.TRK.OFFSET.val (R420). -/
abbrev HKA.TRK.OFFSET.val (n : Nat) : Fld := ⟨0x400d1010 + n * 0x40, 0, 32⟩
/-- Address of HKA.TRK.SUM (R420). -/
abbrev HKA.TRK.SUM.addr (n : Nat) : Nat := 0x400d1014 + n * 0x40
/-- HKA.TRK.SUM.val (R420). -/
abbrev HKA.TRK.SUM.val (n : Nat) : Fld := ⟨0x400d1014 + n * 0x40, 0, 32⟩
/-- Address of HKA.TRK.COUNT (R420). -/
abbrev HKA.TRK.COUNT.addr (n : Nat) : Nat := 0x400d1018 + n * 0x40
/-- HKA.TRK.COUNT.val (R420). -/
abbrev HKA.TRK.COUNT.val (n : Nat) : Fld := ⟨0x400d1018 + n * 0x40, 0, 16⟩
/-- Address of HKA.TRK.MINMAX (R420). -/
abbrev HKA.TRK.MINMAX.addr (n : Nat) : Nat := 0x400d101c + n * 0x40
/-- HKA.TRK.MINMAX.MIN (R420). -/
abbrev HKA.TRK.MINMAX.MIN (n : Nat) : Fld := ⟨0x400d101c + n * 0x40, 0, 12⟩
/-- HKA.TRK.MINMAX.MAX (R420). -/
abbrev HKA.TRK.MINMAX.MAX (n : Nat) : Fld := ⟨0x400d101c + n * 0x40, 16, 12⟩
/-- Address of HKA.TRK.STAT (R420). -/
abbrev HKA.TRK.STAT.addr (n : Nat) : Nat := 0x400d1020 + n * 0x40
/-- HKA.TRK.STAT.WSEQ (R420). -/
abbrev HKA.TRK.STAT.WSEQ (n : Nat) : Fld := ⟨0x400d1020 + n * 0x40, 0, 16⟩
/-- HKA.TRK.STAT.VALID (R420). -/
abbrev HKA.TRK.STAT.VALID (n : Nat) : Fld := ⟨0x400d1020 + n * 0x40, 16, 1⟩
/-- HKA.TRK.STAT.STALE (R420). -/
abbrev HKA.TRK.STAT.STALE (n : Nat) : Fld := ⟨0x400d1020 + n * 0x40, 17, 1⟩
/-- HKA.TRK.STAT.EMPTY (R420). -/
abbrev HKA.TRK.STAT.EMPTY (n : Nat) : Fld := ⟨0x400d1020 + n * 0x40, 18, 1⟩
/-- Address of PROBE.LOCK (R448). -/
abbrev PROBE.LOCK.addr : Nat := 0x40170000
/-- PROBE.LOCK.val (R448). -/
abbrev PROBE.LOCK.val : Fld := ⟨0x40170000, 0, 1⟩
/-- Address of PROBE.CFG (R448). -/
abbrev PROBE.CFG.addr : Nat := 0x40170004
/-- PROBE.CFG.MID_AT_LIFT (R448). -/
abbrev PROBE.CFG.MID_AT_LIFT : Fld := ⟨0x40170004, 0, 1⟩
/-- PROBE.CFG.CABLE_AT_LIFT (R448). -/
abbrev PROBE.CFG.CABLE_AT_LIFT : Fld := ⟨0x40170004, 1, 1⟩
/-- PROBE.CFG.MID_SLOTS (R448). -/
abbrev PROBE.CFG.MID_SLOTS : Fld := ⟨0x40170004, 2, 4⟩
/-- Address of PROBE.STATUS (R448). -/
abbrev PROBE.STATUS.addr : Nat := 0x40170008
/-- PROBE.STATUS.BUSY (R448). -/
abbrev PROBE.STATUS.BUSY : Fld := ⟨0x40170008, 0, 1⟩
/-- PROBE.STATUS.TASK (R448). -/
abbrev PROBE.STATUS.TASK : Fld := ⟨0x40170008, 1, 2⟩
/-- PROBE.STATUS.SLOT (R448). -/
abbrev PROBE.STATUS.SLOT : Fld := ⟨0x40170008, 3, 2⟩
/-- Address of PROBE.SUPPLY (R448). -/
abbrev PROBE.SUPPLY.addr : Nat := 0x4017000c
/-- PROBE.SUPPLY.AUX (R448). -/
abbrev PROBE.SUPPLY.AUX : Fld := ⟨0x4017000c, 0, 16⟩
/-- PROBE.SUPPLY.HOLDUP (R448). -/
abbrev PROBE.SUPPLY.HOLDUP : Fld := ⟨0x4017000c, 16, 16⟩
/-- Address of PROBE.RAILS (R448). -/
abbrev PROBE.RAILS.addr : Nat := 0x40170010
/-- PROBE.RAILS.OUT (R448). -/
abbrev PROBE.RAILS.OUT : Fld := ⟨0x40170010, 0, 6⟩
/-- Address of PROBE.VP (R448). -/
abbrev PROBE.VP.addr : Nat := 0x40170014
/-- PROBE.VP.val (R448). -/
abbrev PROBE.VP.val : Fld := ⟨0x40170014, 0, 32⟩
/-- Address of PROBE.MID_I (R448). -/
abbrev PROBE.MID_I.addr : Nat := 0x40170018
/-- PROBE.MID_I.I (R448). -/
abbrev PROBE.MID_I.I : Fld := ⟨0x40170018, 0, 32⟩
/-- Address of PROBE.MID_VDC (R448). -/
abbrev PROBE.MID_VDC.addr : Nat := 0x4017001c
/-- PROBE.MID_VDC.V (R448). -/
abbrev PROBE.MID_VDC.V : Fld := ⟨0x4017001c, 0, 32⟩
/-- Address of PROBE.CMD (R448). -/
abbrev PROBE.CMD.addr : Nat := 0x40170020
/-- PROBE.CMD.CODE (R448). -/
abbrev PROBE.CMD.CODE : Fld := ⟨0x40170020, 0, 4⟩
/-- PROBE.CMD.SLOT (R448). -/
abbrev PROBE.CMD.SLOT : Fld := ⟨0x40170020, 4, 2⟩
/-- Address of PROBE.CMD_STATUS (R448). -/
abbrev PROBE.CMD_STATUS.addr : Nat := 0x40170024
/-- PROBE.CMD_STATUS.CODE (R448). -/
abbrev PROBE.CMD_STATUS.CODE : Fld := ⟨0x40170024, 0, 8⟩
/-- Address of PROBE.INJ_TARGET (R448). -/
abbrev PROBE.INJ_TARGET.addr : Nat := 0x40170028
/-- PROBE.INJ_TARGET.TARGET (R448). -/
abbrev PROBE.INJ_TARGET.TARGET : Fld := ⟨0x40170028, 0, 8⟩
/-- Address of PROBE.INJECT (R448). -/
abbrev PROBE.INJECT.addr : Nat := 0x4017002c
/-- PROBE.INJECT.CLASS (R448). -/
abbrev PROBE.INJECT.CLASS : Fld := ⟨0x4017002c, 0, 2⟩
/-- Address of PROBE.INJ_STATUS (R448). -/
abbrev PROBE.INJ_STATUS.addr : Nat := 0x40170030
/-- PROBE.INJ_STATUS.CODE (R448). -/
abbrev PROBE.INJ_STATUS.CODE : Fld := ⟨0x40170030, 0, 8⟩
/-- Address of PROBE.PEERS (R448). -/
abbrev PROBE.PEERS.addr : Nat := 0x40170040
/-- PROBE.PEERS.COUNT (R448). -/
abbrev PROBE.PEERS.COUNT : Fld := ⟨0x40170040, 0, 11⟩
/-- PROBE.PEERS.MIN_REV (R448). -/
abbrev PROBE.PEERS.MIN_REV : Fld := ⟨0x40170040, 16, 8⟩
/-- PROBE.PEERS.MISMATCH (R448). -/
abbrev PROBE.PEERS.MISMATCH : Fld := ⟨0x40170040, 24, 8⟩
/-- Address of PROBE.PEER_FW (R448). -/
abbrev PROBE.PEER_FW.addr : Nat := 0x40170044
/-- PROBE.PEER_FW.VER (R448). -/
abbrev PROBE.PEER_FW.VER : Fld := ⟨0x40170044, 0, 32⟩
/-- Address of PROBE.MID.STATUS (R448). -/
abbrev PROBE.MID.STATUS.addr (n : Nat) : Nat := 0x40170100 + n * 0x20
/-- PROBE.MID.STATUS.RESULT (R448). -/
abbrev PROBE.MID.STATUS.RESULT (n : Nat) : Fld := ⟨0x40170100 + n * 0x20, 0, 3⟩
/-- PROBE.MID.STATUS.PSI_VALID (R448). -/
abbrev PROBE.MID.STATUS.PSI_VALID (n : Nat) : Fld := ⟨0x40170100 + n * 0x20, 3, 1⟩
/-- PROBE.MID.STATUS.SEQ (R448). -/
abbrev PROBE.MID.STATUS.SEQ (n : Nat) : Fld := ⟨0x40170100 + n * 0x20, 16, 16⟩
/-- Address of PROBE.MID.PARM (R448). -/
abbrev PROBE.MID.PARM.addr (n i : Nat) : Nat := 0x40170104 + n * 0x20 + i * 0x4
/-- PROBE.MID.PARM.VALUE (R448). -/
abbrev PROBE.MID.PARM.VALUE (n i : Nat) : Fld := ⟨0x40170104 + n * 0x20 + i * 0x4, 0, 32⟩
/-- Address of PROBE.MID.D_ANGLE (R448). -/
abbrev PROBE.MID.D_ANGLE.addr (n : Nat) : Nat := 0x40170114 + n * 0x20
/-- PROBE.MID.D_ANGLE.ANGLE (R448). -/
abbrev PROBE.MID.D_ANGLE.ANGLE (n : Nat) : Fld := ⟨0x40170114 + n * 0x20, 0, 32⟩
/-- Address of PROBE.CABLE (R448). -/
abbrev PROBE.CABLE.addr (n : Nat) : Nat := 0x40170200 + n * 0x4
/-- PROBE.CABLE.LEN (R448). -/
abbrev PROBE.CABLE.LEN (n : Nat) : Fld := ⟨0x40170200 + n * 0x4, 0, 16⟩
/-- PROBE.CABLE.VALID (R448). -/
abbrev PROBE.CABLE.VALID (n : Nat) : Fld := ⟨0x40170200 + n * 0x4, 16, 1⟩
/-- PROBE.CABLE.OVERRANGE (R448). -/
abbrev PROBE.CABLE.OVERRANGE (n : Nat) : Fld := ⟨0x40170200 + n * 0x4, 17, 1⟩
/-- PROBE.CABLE.SKIPPED (R448). -/
abbrev PROBE.CABLE.SKIPPED (n : Nat) : Fld := ⟨0x40170200 + n * 0x4, 18, 1⟩
/-- Address of PROBE.SWC.DELAY (R448). -/
abbrev PROBE.SWC.DELAY.addr (n : Nat) : Nat := 0x40170300 + n * 0x8
/-- PROBE.SWC.DELAY.TD_ON (R448). -/
abbrev PROBE.SWC.DELAY.TD_ON (n : Nat) : Fld := ⟨0x40170300 + n * 0x8, 0, 12⟩
/-- PROBE.SWC.DELAY.TD_OFF (R448). -/
abbrev PROBE.SWC.DELAY.TD_OFF (n : Nat) : Fld := ⟨0x40170300 + n * 0x8, 12, 12⟩
/-- PROBE.SWC.DELAY.VALID (R448). -/
abbrev PROBE.SWC.DELAY.VALID (n : Nat) : Fld := ⟨0x40170300 + n * 0x8, 24, 1⟩
/-- Address of PROBE.SWC.QG (R448). -/
abbrev PROBE.SWC.QG.addr (n : Nat) : Nat := 0x40170304 + n * 0x8
/-- PROBE.SWC.QG.QG_MEAS (R448). -/
abbrev PROBE.SWC.QG.QG_MEAS (n : Nat) : Fld := ⟨0x40170304 + n * 0x8, 0, 16⟩
/-- Address of GROOM.LOCK (R450). -/
abbrev GROOM.LOCK.addr : Nat := 0x40070000
/-- GROOM.LOCK.val (R450). -/
abbrev GROOM.LOCK.val : Fld := ⟨0x40070000, 0, 1⟩
/-- Address of GROOM.STATUS (R450). -/
abbrev GROOM.STATUS.addr : Nat := 0x40070004
/-- GROOM.STATUS.BUSY (R450). -/
abbrev GROOM.STATUS.BUSY : Fld := ⟨0x40070004, 0, 1⟩
/-- Address of GROOM.SPARES0 (R450). -/
abbrev GROOM.SPARES0.addr : Nat := 0x40070008
/-- GROOM.SPARES0.LANE (R450). -/
abbrev GROOM.SPARES0.LANE : Fld := ⟨0x40070008, 0, 1⟩
/-- GROOM.SPARES0.HC8 (R450). -/
abbrev GROOM.SPARES0.HC8 : Fld := ⟨0x40070008, 1, 1⟩
/-- GROOM.SPARES0.SDM (R450). -/
abbrev GROOM.SPARES0.SDM : Fld := ⟨0x40070008, 2, 3⟩
/-- GROOM.SPARES0.PLL (R450). -/
abbrev GROOM.SPARES0.PLL : Fld := ⟨0x40070008, 5, 1⟩
/-- GROOM.SPARES0.ETH (R450). -/
abbrev GROOM.SPARES0.ETH : Fld := ⟨0x40070008, 6, 1⟩
/-- Address of GROOM.SPARES1 (R450). -/
abbrev GROOM.SPARES1.addr : Nat := 0x4007000c
/-- GROOM.SPARES1.ROWS (R450). -/
abbrev GROOM.SPARES1.ROWS : Fld := ⟨0x4007000c, 0, 8⟩
/-- Address of GROOM.SPARES2 (R450). -/
abbrev GROOM.SPARES2.addr : Nat := 0x40070010
/-- GROOM.SPARES2.MRAM_A (R450). -/
abbrev GROOM.SPARES2.MRAM_A : Fld := ⟨0x40070010, 0, 16⟩
/-- GROOM.SPARES2.MRAM_B (R450). -/
abbrev GROOM.SPARES2.MRAM_B : Fld := ⟨0x40070010, 16, 16⟩
/-- Address of GROOM.OP_TIME (R450). -/
abbrev GROOM.OP_TIME.addr : Nat := 0x40070014
/-- GROOM.OP_TIME.S (R450). -/
abbrev GROOM.OP_TIME.S : Fld := ⟨0x40070014, 0, 32⟩
/-- Address of GROOM.WEAR_CFG (R450). -/
abbrev GROOM.WEAR_CFG.addr : Nat := 0x40070018
/-- GROOM.WEAR_CFG.D_WARN (R450). -/
abbrev GROOM.WEAR_CFG.D_WARN : Fld := ⟨0x40070018, 0, 16⟩
/-- GROOM.WEAR_CFG.K_WARN (R450). -/
abbrev GROOM.WEAR_CFG.K_WARN : Fld := ⟨0x40070018, 16, 16⟩
/-- Address of GROOM.MEM_CFG (R450). -/
abbrev GROOM.MEM_CFG.addr : Nat := 0x4007001c
/-- GROOM.MEM_CFG.ROW_CE_LIMIT (R450). -/
abbrev GROOM.MEM_CFG.ROW_CE_LIMIT : Fld := ⟨0x4007001c, 0, 8⟩
/-- GROOM.MEM_CFG.SECTOR_CE_LIMIT (R450). -/
abbrev GROOM.MEM_CFG.SECTOR_CE_LIMIT : Fld := ⟨0x4007001c, 8, 8⟩
/-- Address of GROOM.CMD (R450). -/
abbrev GROOM.CMD.addr : Nat := 0x40070020
/-- GROOM.CMD.CODE (R450). -/
abbrev GROOM.CMD.CODE : Fld := ⟨0x40070020, 0, 4⟩
/-- GROOM.CMD.TARGET (R450). -/
abbrev GROOM.CMD.TARGET : Fld := ⟨0x40070020, 4, 8⟩
/-- Address of GROOM.CMD_STATUS (R450). -/
abbrev GROOM.CMD_STATUS.addr : Nat := 0x40070024
/-- GROOM.CMD_STATUS.CODE (R450). -/
abbrev GROOM.CMD_STATUS.CODE : Fld := ⟨0x40070024, 0, 8⟩
/-- GROOM.CMD_STATUS.BUSY (R450). -/
abbrev GROOM.CMD_STATUS.BUSY : Fld := ⟨0x40070024, 8, 1⟩
/-- Address of GROOM.BIST_RESULT (R450). -/
abbrev GROOM.BIST_RESULT.addr : Nat := 0x40070028
/-- GROOM.BIST_RESULT.TARGET (R450). -/
abbrev GROOM.BIST_RESULT.TARGET : Fld := ⟨0x40070028, 0, 8⟩
/-- GROOM.BIST_RESULT.VERDICT (R450). -/
abbrev GROOM.BIST_RESULT.VERDICT : Fld := ⟨0x40070028, 8, 4⟩
/-- GROOM.BIST_RESULT.SEQ (R450). -/
abbrev GROOM.BIST_RESULT.SEQ : Fld := ⟨0x40070028, 16, 16⟩
/-- Address of GROOM.LIFT_BIST (R450). -/
abbrev GROOM.LIFT_BIST.addr : Nat := 0x4007002c
/-- GROOM.LIFT_BIST.TIME (R450). -/
abbrev GROOM.LIFT_BIST.TIME : Fld := ⟨0x4007002c, 0, 16⟩
/-- GROOM.LIFT_BIST.LAST_FAIL (R450). -/
abbrev GROOM.LIFT_BIST.LAST_FAIL : Fld := ⟨0x4007002c, 16, 8⟩
/-- Address of GROOM.INJ_TARGET (R450). -/
abbrev GROOM.INJ_TARGET.addr : Nat := 0x40070030
/-- GROOM.INJ_TARGET.TARGET (R450). -/
abbrev GROOM.INJ_TARGET.TARGET : Fld := ⟨0x40070030, 0, 8⟩
/-- GROOM.INJ_TARGET.INDEX (R450). -/
abbrev GROOM.INJ_TARGET.INDEX : Fld := ⟨0x40070030, 8, 6⟩
/-- Address of GROOM.INJECT (R450). -/
abbrev GROOM.INJECT.addr : Nat := 0x40070034
/-- GROOM.INJECT.CLASS (R450). -/
abbrev GROOM.INJECT.CLASS : Fld := ⟨0x40070034, 0, 2⟩
/-- Address of GROOM.INJ_STATUS (R450). -/
abbrev GROOM.INJ_STATUS.addr : Nat := 0x40070038
/-- GROOM.INJ_STATUS.CODE (R450). -/
abbrev GROOM.INJ_STATUS.CODE : Fld := ⟨0x40070038, 0, 8⟩
/-- Address of GROOM.SW (R450). -/
abbrev GROOM.SW.addr (n : Nat) : Nat := 0x40070100 + n * 0x4
/-- GROOM.SW.D (R450). -/
abbrev GROOM.SW.D (n : Nat) : Fld := ⟨0x40070100 + n * 0x4, 0, 16⟩
/-- GROOM.SW.K (R450). -/
abbrev GROOM.SW.K (n : Nat) : Fld := ⟨0x40070100 + n * 0x4, 16, 16⟩
/-- Address of GROOM.SWSTAT (R450). -/
abbrev GROOM.SWSTAT.addr (n : Nat) : Nat := 0x40070200 + n * 0x4
/-- GROOM.SWSTAT.BASE_D (R450). -/
abbrev GROOM.SWSTAT.BASE_D (n : Nat) : Fld := ⟨0x40070200 + n * 0x4, 0, 1⟩
/-- GROOM.SWSTAT.BASE_K (R450). -/
abbrev GROOM.SWSTAT.BASE_K (n : Nat) : Fld := ⟨0x40070200 + n * 0x4, 1, 1⟩
/-- GROOM.SWSTAT.D_HIGH (R450). -/
abbrev GROOM.SWSTAT.D_HIGH (n : Nat) : Fld := ⟨0x40070200 + n * 0x4, 2, 1⟩
/-- GROOM.SWSTAT.K_HIGH (R450). -/
abbrev GROOM.SWSTAT.K_HIGH (n : Nat) : Fld := ⟨0x40070200 + n * 0x4, 3, 1⟩
/-- Address of RST.CAUSE (R472). -/
abbrev RST.CAUSE.addr : Nat := 0x40030000
/-- RST.CAUSE.SOURCES (R472). -/
abbrev RST.CAUSE.SOURCES : Fld := ⟨0x40030000, 0, 9⟩
/-- Address of RST.CAUSE_PREV (R472). -/
abbrev RST.CAUSE_PREV.addr : Nat := 0x40030004
/-- RST.CAUSE_PREV.SOURCES (R472). -/
abbrev RST.CAUSE_PREV.SOURCES : Fld := ⟨0x40030004, 0, 9⟩
/-- Address of RST.STATUS (R472). -/
abbrev RST.STATUS.addr : Nat := 0x40030008
/-- RST.STATUS.REACH (R472). -/
abbrev RST.STATUS.REACH : Fld := ⟨0x40030008, 0, 2⟩
/-- RST.STATUS.TRIM_VALID (R472). -/
abbrev RST.STATUS.TRIM_VALID : Fld := ⟨0x40030008, 2, 1⟩
/-- RST.STATUS.HOLD (R472). -/
abbrev RST.STATUS.HOLD : Fld := ⟨0x40030008, 4, 4⟩
/-- Address of RST.COUNTS (R472). -/
abbrev RST.COUNTS.addr : Nat := 0x4003000c
/-- RST.COUNTS.WARMS (R472). -/
abbrev RST.COUNTS.WARMS : Fld := ⟨0x4003000c, 0, 16⟩
/-- RST.COUNTS.SYSTEMS (R472). -/
abbrev RST.COUNTS.SYSTEMS : Fld := ⟨0x4003000c, 16, 16⟩
/-- Address of RST.TIMING (R472). -/
abbrev RST.TIMING.addr : Nat := 0x40030010
/-- RST.TIMING.LIFT (R472). -/
abbrev RST.TIMING.LIFT : Fld := ⟨0x40030010, 0, 16⟩
/-- Address of RST.IDLE (R472). -/
abbrev RST.IDLE.addr : Nat := 0x40030014
/-- RST.IDLE.val (R472). -/
abbrev RST.IDLE.val : Fld := ⟨0x40030014, 0, 25⟩
/-- Address of RST.CMD (R472). -/
abbrev RST.CMD.addr : Nat := 0x40030018
/-- RST.CMD.CODE (R472). -/
abbrev RST.CMD.CODE : Fld := ⟨0x40030018, 0, 4⟩
/-- RST.CMD.BLOCK (R472). -/
abbrev RST.CMD.BLOCK : Fld := ⟨0x40030018, 8, 5⟩
/-- RST.CMD.KEY (R472). -/
abbrev RST.CMD.KEY : Fld := ⟨0x40030018, 24, 8⟩
/-- Address of RST.CMD_STATUS (R472). -/
abbrev RST.CMD_STATUS.addr : Nat := 0x4003001c
/-- RST.CMD_STATUS.CODE (R472). -/
abbrev RST.CMD_STATUS.CODE : Fld := ⟨0x4003001c, 0, 8⟩
/-- Address of RST.TRIM (R472). -/
abbrev RST.TRIM.addr : Nat := 0x40030020
/-- RST.TRIM.COPY_OK (R472). -/
abbrev RST.TRIM.COPY_OK : Fld := ⟨0x40030020, 0, 3⟩
/-- Address of RST.LOG_SEL (R472). -/
abbrev RST.LOG_SEL.addr : Nat := 0x40030024
/-- RST.LOG_SEL.INDEX (R472). -/
abbrev RST.LOG_SEL.INDEX : Fld := ⟨0x40030024, 0, 4⟩
/-- Address of RST.LOG_CAUSE (R472). -/
abbrev RST.LOG_CAUSE.addr : Nat := 0x40030028
/-- RST.LOG_CAUSE.SOURCES (R472). -/
abbrev RST.LOG_CAUSE.SOURCES : Fld := ⟨0x40030028, 0, 9⟩
/-- RST.LOG_CAUSE.REACH (R472). -/
abbrev RST.LOG_CAUSE.REACH : Fld := ⟨0x40030028, 9, 2⟩
/-- RST.LOG_CAUSE.VALID (R472). -/
abbrev RST.LOG_CAUSE.VALID : Fld := ⟨0x40030028, 11, 1⟩
/-- RST.LOG_CAUSE.LIFT (R472). -/
abbrev RST.LOG_CAUSE.LIFT : Fld := ⟨0x40030028, 16, 16⟩
/-- Address of RST.LOG_TIME_S (R472). -/
abbrev RST.LOG_TIME_S.addr : Nat := 0x4003002c
/-- RST.LOG_TIME_S.S (R472). -/
abbrev RST.LOG_TIME_S.S : Fld := ⟨0x4003002c, 0, 32⟩
/-- Address of RST.LOG_TIME_NS (R472). -/
abbrev RST.LOG_TIME_NS.addr : Nat := 0x40030030
/-- RST.LOG_TIME_NS.NS (R472). -/
abbrev RST.LOG_TIME_NS.NS : Fld := ⟨0x40030030, 0, 30⟩
/-- Address of RST.BKP (R472). -/
abbrev RST.BKP.addr (n : Nat) : Nat := 0x40030080 + n * 0x4
/-- RST.BKP.DATA (R472). -/
abbrev RST.BKP.DATA (n : Nat) : Fld := ⟨0x40030080 + n * 0x4, 0, 32⟩
/-- Address of TIME.LOCK (R510). -/
abbrev TIME.LOCK.addr : Nat := 0x40020000
/-- TIME.LOCK.val (R510). -/
abbrev TIME.LOCK.val : Fld := ⟨0x40020000, 0, 1⟩
/-- Address of TIME.CFG (R510). -/
abbrev TIME.CFG.addr : Nat := 0x40020004
/-- TIME.CFG.SOURCE (R510). -/
abbrev TIME.CFG.SOURCE : Fld := ⟨0x40020004, 0, 2⟩
/-- TIME.CFG.STEER (R510). -/
abbrev TIME.CFG.STEER : Fld := ⟨0x40020004, 2, 1⟩
/-- TIME.CFG.PPS_OUT_EN (R510). -/
abbrev TIME.CFG.PPS_OUT_EN : Fld := ⟨0x40020004, 3, 1⟩
/-- TIME.CFG.BW (R510). -/
abbrev TIME.CFG.BW : Fld := ⟨0x40020004, 8, 8⟩
/-- TIME.CFG.PPS_WIDTH (R510). -/
abbrev TIME.CFG.PPS_WIDTH : Fld := ⟨0x40020004, 16, 16⟩
/-- Address of TIME.STATUS (R510). -/
abbrev TIME.STATUS.addr : Nat := 0x40020008
/-- TIME.STATUS.VALID (R510). -/
abbrev TIME.STATUS.VALID : Fld := ⟨0x40020008, 0, 1⟩
/-- TIME.STATUS.LOCKED (R510). -/
abbrev TIME.STATUS.LOCKED : Fld := ⟨0x40020008, 1, 1⟩
/-- TIME.STATUS.HOLDOVER (R510). -/
abbrev TIME.STATUS.HOLDOVER : Fld := ⟨0x40020008, 2, 1⟩
/-- TIME.STATUS.ACTIVE (R510). -/
abbrev TIME.STATUS.ACTIVE : Fld := ⟨0x40020008, 3, 2⟩
/-- TIME.STATUS.SYNC_ARMED (R510). -/
abbrev TIME.STATUS.SYNC_ARMED : Fld := ⟨0x40020008, 5, 1⟩
/-- Address of TIME.NOW_S_LO (R510). -/
abbrev TIME.NOW_S_LO.addr : Nat := 0x4002000c
/-- TIME.NOW_S_LO.S (R510). -/
abbrev TIME.NOW_S_LO.S : Fld := ⟨0x4002000c, 0, 32⟩
/-- Address of TIME.NOW_S_HI (R510). -/
abbrev TIME.NOW_S_HI.addr : Nat := 0x40020010
/-- TIME.NOW_S_HI.S (R510). -/
abbrev TIME.NOW_S_HI.S : Fld := ⟨0x40020010, 0, 16⟩
/-- Address of TIME.NOW_NS (R510). -/
abbrev TIME.NOW_NS.addr : Nat := 0x40020014
/-- TIME.NOW_NS.NS (R510). -/
abbrev TIME.NOW_NS.NS : Fld := ⟨0x40020014, 0, 30⟩
/-- Address of TIME.NOW_FRAC (R510). -/
abbrev TIME.NOW_FRAC.addr : Nat := 0x40020018
/-- TIME.NOW_FRAC.FRAC (R510). -/
abbrev TIME.NOW_FRAC.FRAC : Fld := ⟨0x40020018, 0, 16⟩
/-- Address of TIME.OFFSET (R510). -/
abbrev TIME.OFFSET.addr : Nat := 0x4002001c
/-- TIME.OFFSET.val (R510). -/
abbrev TIME.OFFSET.val : Fld := ⟨0x4002001c, 0, 32⟩
/-- Address of TIME.RATE (R510). -/
abbrev TIME.RATE.addr : Nat := 0x40020020
/-- TIME.RATE.val (R510). -/
abbrev TIME.RATE.val : Fld := ⟨0x40020020, 0, 32⟩
/-- Address of TIME.ARG (R510). -/
abbrev TIME.ARG.addr (n : Nat) : Nat := 0x40020024 + n * 0x4
/-- TIME.ARG.T (R510). -/
abbrev TIME.ARG.T (n : Nat) : Fld := ⟨0x40020024 + n * 0x4, 0, 32⟩
/-- Address of TIME.CMD (R510). -/
abbrev TIME.CMD.addr : Nat := 0x40020030
/-- TIME.CMD.CODE (R510). -/
abbrev TIME.CMD.CODE : Fld := ⟨0x40020030, 0, 4⟩
/-- Address of TIME.CMD_STATUS (R510). -/
abbrev TIME.CMD_STATUS.addr : Nat := 0x40020034
/-- TIME.CMD_STATUS.CODE (R510). -/
abbrev TIME.CMD_STATUS.CODE : Fld := ⟨0x40020034, 0, 8⟩
/-- Address of TIME.SYNC (R510). -/
abbrev TIME.SYNC.addr (n : Nat) : Nat := 0x40020038 + n * 0x4
/-- TIME.SYNC.T (R510). -/
abbrev TIME.SYNC.T (n : Nat) : Fld := ⟨0x40020038 + n * 0x4, 0, 32⟩
/-- Address of TIME.GRID (R510). -/
abbrev TIME.GRID.addr : Nat := 0x40020044
/-- TIME.GRID.CYCLES (R510). -/
abbrev TIME.GRID.CYCLES : Fld := ⟨0x40020044, 0, 32⟩
/-- Address of TIME.PPS_IN_S (R510). -/
abbrev TIME.PPS_IN_S.addr : Nat := 0x40020048
/-- TIME.PPS_IN_S.S (R510). -/
abbrev TIME.PPS_IN_S.S : Fld := ⟨0x40020048, 0, 32⟩
/-- Address of TIME.PPS_IN_NS (R510). -/
abbrev TIME.PPS_IN_NS.addr : Nat := 0x4002004c
/-- TIME.PPS_IN_NS.NS (R510). -/
abbrev TIME.PPS_IN_NS.NS : Fld := ⟨0x4002004c, 0, 30⟩
/-- Address of TIME.INJECT (R510). -/
abbrev TIME.INJECT.addr : Nat := 0x40020050
/-- TIME.INJECT.CLASS (R510). -/
abbrev TIME.INJECT.CLASS : Fld := ⟨0x40020050, 0, 2⟩
/-- Address of TIME.INJ_STATUS (R510). -/
abbrev TIME.INJ_STATUS.addr : Nat := 0x40020054
/-- TIME.INJ_STATUS.CODE (R510). -/
abbrev TIME.INJ_STATUS.CODE : Fld := ⟨0x40020054, 0, 8⟩
/-- Address of NET.LOCK (R511). -/
abbrev NET.LOCK.addr : Nat := 0x40150000
/-- NET.LOCK.val (R511). -/
abbrev NET.LOCK.val : Fld := ⟨0x40150000, 0, 1⟩
/-- Address of NET.CFG (R511). -/
abbrev NET.CFG.addr : Nat := 0x40150004
/-- NET.CFG.ETH2_SPARE (R511). -/
abbrev NET.CFG.ETH2_SPARE : Fld := ⟨0x40150004, 0, 1⟩
/-- NET.CFG.SPARE_OF (R511). -/
abbrev NET.CFG.SPARE_OF : Fld := ⟨0x40150004, 1, 1⟩
/-- Address of NET.CMD (R511). -/
abbrev NET.CMD.addr : Nat := 0x40150008
/-- NET.CMD.CODE (R511). -/
abbrev NET.CMD.CODE : Fld := ⟨0x40150008, 0, 4⟩
/-- NET.CMD.PORT (R511). -/
abbrev NET.CMD.PORT : Fld := ⟨0x40150008, 4, 2⟩
/-- Address of NET.CMD_STATUS (R511). -/
abbrev NET.CMD_STATUS.addr : Nat := 0x4015000c
/-- NET.CMD_STATUS.CODE (R511). -/
abbrev NET.CMD_STATUS.CODE : Fld := ⟨0x4015000c, 0, 8⟩
/-- Address of NET.INJ_TARGET (R511). -/
abbrev NET.INJ_TARGET.addr : Nat := 0x40150010
/-- NET.INJ_TARGET.TARGET (R511). -/
abbrev NET.INJ_TARGET.TARGET : Fld := ⟨0x40150010, 0, 8⟩
/-- NET.INJ_TARGET.INDEX (R511). -/
abbrev NET.INJ_TARGET.INDEX : Fld := ⟨0x40150010, 8, 2⟩
/-- Address of NET.INJECT (R511). -/
abbrev NET.INJECT.addr : Nat := 0x40150014
/-- NET.INJECT.CLASS (R511). -/
abbrev NET.INJECT.CLASS : Fld := ⟨0x40150014, 0, 2⟩
/-- Address of NET.INJ_STATUS (R511). -/
abbrev NET.INJ_STATUS.addr : Nat := 0x40150018
/-- NET.INJ_STATUS.CODE (R511). -/
abbrev NET.INJ_STATUS.CODE : Fld := ⟨0x40150018, 0, 8⟩
/-- Address of NET.PORT.CFG (R511). -/
abbrev NET.PORT.CFG.addr (n : Nat) : Nat := 0x40150100 + n * 0x40
/-- NET.PORT.CFG.ENABLE (R511). -/
abbrev NET.PORT.CFG.ENABLE (n : Nat) : Fld := ⟨0x40150100 + n * 0x40, 0, 1⟩
/-- NET.PORT.CFG.PHY_MASTER (R511). -/
abbrev NET.PORT.CFG.PHY_MASTER (n : Nat) : Fld := ⟨0x40150100 + n * 0x40, 1, 1⟩
/-- NET.PORT.CFG.GPTP (R511). -/
abbrev NET.PORT.CFG.GPTP (n : Nat) : Fld := ⟨0x40150100 + n * 0x40, 2, 1⟩
/-- NET.PORT.CFG.FOLIS (R511). -/
abbrev NET.PORT.CFG.FOLIS (n : Nat) : Fld := ⟨0x40150100 + n * 0x40, 3, 1⟩
/-- Address of NET.PORT.STATUS (R511). -/
abbrev NET.PORT.STATUS.addr (n : Nat) : Nat := 0x40150104 + n * 0x40
/-- NET.PORT.STATUS.LINK (R511). -/
abbrev NET.PORT.STATUS.LINK (n : Nat) : Fld := ⟨0x40150104 + n * 0x40, 0, 2⟩
/-- NET.PORT.STATUS.GPTP_ROLE (R511). -/
abbrev NET.PORT.STATUS.GPTP_ROLE (n : Nat) : Fld := ⟨0x40150104 + n * 0x40, 2, 2⟩
/-- NET.PORT.STATUS.PARENT (R511). -/
abbrev NET.PORT.STATUS.PARENT (n : Nat) : Fld := ⟨0x40150104 + n * 0x40, 4, 1⟩
/-- NET.PORT.STATUS.CHILD (R511). -/
abbrev NET.PORT.STATUS.CHILD (n : Nat) : Fld := ⟨0x40150104 + n * 0x40, 5, 1⟩
/-- NET.PORT.STATUS.SYM_ERRS (R511). -/
abbrev NET.PORT.STATUS.SYM_ERRS (n : Nat) : Fld := ⟨0x40150104 + n * 0x40, 16, 16⟩
/-- Address of NET.PORT.DELAY (R511). -/
abbrev NET.PORT.DELAY.addr (n : Nat) : Nat := 0x40150108 + n * 0x40
/-- NET.PORT.DELAY.D (R511). -/
abbrev NET.PORT.DELAY.D (n : Nat) : Fld := ⟨0x40150108 + n * 0x40, 0, 32⟩
/-- Address of NET.PORT.MAC_LO (R511). -/
abbrev NET.PORT.MAC_LO.addr (n : Nat) : Nat := 0x4015010c + n * 0x40
/-- NET.PORT.MAC_LO.MAC (R511). -/
abbrev NET.PORT.MAC_LO.MAC (n : Nat) : Fld := ⟨0x4015010c + n * 0x40, 0, 32⟩
/-- Address of NET.PORT.MAC_HI (R511). -/
abbrev NET.PORT.MAC_HI.addr (n : Nat) : Nat := 0x40150110 + n * 0x40
/-- NET.PORT.MAC_HI.MAC (R511). -/
abbrev NET.PORT.MAC_HI.MAC (n : Nat) : Fld := ⟨0x40150110 + n * 0x40, 0, 16⟩
/-- Address of NET.PORT.QBV_CTRL (R511). -/
abbrev NET.PORT.QBV_CTRL.addr (n : Nat) : Nat := 0x40150114 + n * 0x40
/-- NET.PORT.QBV_CTRL.ENABLE (R511). -/
abbrev NET.PORT.QBV_CTRL.ENABLE (n : Nat) : Fld := ⟨0x40150114 + n * 0x40, 0, 1⟩
/-- NET.PORT.QBV_CTRL.BANK (R511). -/
abbrev NET.PORT.QBV_CTRL.BANK (n : Nat) : Fld := ⟨0x40150114 + n * 0x40, 1, 1⟩
/-- NET.PORT.QBV_CTRL.LEN (R511). -/
abbrev NET.PORT.QBV_CTRL.LEN (n : Nat) : Fld := ⟨0x40150114 + n * 0x40, 8, 6⟩
/-- Address of NET.PORT.QBV_CYCLE (R511). -/
abbrev NET.PORT.QBV_CYCLE.addr (n : Nat) : Nat := 0x40150118 + n * 0x40
/-- NET.PORT.QBV_CYCLE.NS (R511). -/
abbrev NET.PORT.QBV_CYCLE.NS (n : Nat) : Fld := ⟨0x40150118 + n * 0x40, 0, 32⟩
/-- Address of NET.PORT.QBV_BASE_S (R511). -/
abbrev NET.PORT.QBV_BASE_S.addr (n : Nat) : Nat := 0x4015011c + n * 0x40
/-- NET.PORT.QBV_BASE_S.S (R511). -/
abbrev NET.PORT.QBV_BASE_S.S (n : Nat) : Fld := ⟨0x4015011c + n * 0x40, 0, 32⟩
/-- Address of NET.PORT.QBV_BASE_NS (R511). -/
abbrev NET.PORT.QBV_BASE_NS.addr (n : Nat) : Nat := 0x40150120 + n * 0x40
/-- NET.PORT.QBV_BASE_NS.NS (R511). -/
abbrev NET.PORT.QBV_BASE_NS.NS (n : Nat) : Fld := ⟨0x40150120 + n * 0x40, 0, 30⟩
/-- Address of NET.GCL (R511). -/
abbrev NET.GCL.addr (n i : Nat) : Nat := 0x40151000 + n * 0x100 + i * 0x4
/-- NET.GCL.GATES (R511). -/
abbrev NET.GCL.GATES (n i : Nat) : Fld := ⟨0x40151000 + n * 0x100 + i * 0x4, 0, 8⟩
/-- NET.GCL.INTERVAL (R511). -/
abbrev NET.GCL.INTERVAL (n i : Nat) : Fld := ⟨0x40151000 + n * 0x100 + i * 0x4, 8, 24⟩
/-- Address of NET.GPTP.CFG (R511). -/
abbrev NET.GPTP.CFG.addr : Nat := 0x40150200
/-- NET.GPTP.CFG.PRIO1 (R511). -/
abbrev NET.GPTP.CFG.PRIO1 : Fld := ⟨0x40150200, 0, 8⟩
/-- NET.GPTP.CFG.PRIO2 (R511). -/
abbrev NET.GPTP.CFG.PRIO2 : Fld := ⟨0x40150200, 8, 8⟩
/-- NET.GPTP.CFG.LOG_SYNC (R511). -/
abbrev NET.GPTP.CFG.LOG_SYNC : Fld := ⟨0x40150200, 16, 3⟩
/-- NET.GPTP.CFG.EXTERNAL (R511). -/
abbrev NET.GPTP.CFG.EXTERNAL : Fld := ⟨0x40150200, 19, 1⟩
/-- Address of NET.GPTP.STATUS (R511). -/
abbrev NET.GPTP.STATUS.addr : Nat := 0x40150204
/-- NET.GPTP.STATUS.GM (R511). -/
abbrev NET.GPTP.STATUS.GM : Fld := ⟨0x40150204, 0, 1⟩
/-- NET.GPTP.STATUS.SYNCED (R511). -/
abbrev NET.GPTP.STATUS.SYNCED : Fld := ⟨0x40150204, 1, 1⟩
/-- NET.GPTP.STATUS.CLOCK_CLASS (R511). -/
abbrev NET.GPTP.STATUS.CLOCK_CLASS : Fld := ⟨0x40150204, 8, 8⟩
/-- NET.GPTP.STATUS.STEPS_REMOVED (R511). -/
abbrev NET.GPTP.STATUS.STEPS_REMOVED : Fld := ⟨0x40150204, 16, 16⟩
/-- Address of NET.GPTP.GM_ID (R511). -/
abbrev NET.GPTP.GM_ID.addr (n : Nat) : Nat := 0x40150208 + n * 0x4
/-- NET.GPTP.GM_ID.ID (R511). -/
abbrev NET.GPTP.GM_ID.ID (n : Nat) : Fld := ⟨0x40150208 + n * 0x4, 0, 32⟩
/-- Address of NET.FOLIS.CFG (R511). -/
abbrev NET.FOLIS.CFG.addr : Nat := 0x40150300
/-- NET.FOLIS.CFG.NODE_ID (R511). -/
abbrev NET.FOLIS.CFG.NODE_ID : Fld := ⟨0x40150300, 0, 10⟩
/-- NET.FOLIS.CFG.MASTER_PRIO (R511). -/
abbrev NET.FOLIS.CFG.MASTER_PRIO : Fld := ⟨0x40150300, 16, 8⟩
/-- NET.FOLIS.CFG.ENABLE (R511). -/
abbrev NET.FOLIS.CFG.ENABLE : Fld := ⟨0x40150300, 24, 1⟩
/-- Address of NET.FOLIS.DOMAIN (R511). -/
abbrev NET.FOLIS.DOMAIN.addr : Nat := 0x40150304
/-- NET.FOLIS.DOMAIN.val (R511). -/
abbrev NET.FOLIS.DOMAIN.val : Fld := ⟨0x40150304, 0, 16⟩
/-- Address of NET.FOLIS.CYCLE (R511). -/
abbrev NET.FOLIS.CYCLE.addr : Nat := 0x40150308
/-- NET.FOLIS.CYCLE.PERIOD (R511). -/
abbrev NET.FOLIS.CYCLE.PERIOD : Fld := ⟨0x40150308, 0, 16⟩
/-- NET.FOLIS.CYCLE.REPORT_HOP (R511). -/
abbrev NET.FOLIS.CYCLE.REPORT_HOP : Fld := ⟨0x40150308, 16, 8⟩
/-- NET.FOLIS.CYCLE.DEPTH_MAX (R511). -/
abbrev NET.FOLIS.CYCLE.DEPTH_MAX : Fld := ⟨0x40150308, 24, 6⟩
/-- Address of NET.FOLIS.STATUS (R511). -/
abbrev NET.FOLIS.STATUS.addr : Nat := 0x4015030c
/-- NET.FOLIS.STATUS.ROLE (R511). -/
abbrev NET.FOLIS.STATUS.ROLE : Fld := ⟨0x4015030c, 0, 2⟩
/-- NET.FOLIS.STATUS.DEPTH (R511). -/
abbrev NET.FOLIS.STATUS.DEPTH : Fld := ⟨0x4015030c, 2, 6⟩
/-- NET.FOLIS.STATUS.PARENT (R511). -/
abbrev NET.FOLIS.STATUS.PARENT : Fld := ⟨0x4015030c, 8, 2⟩
/-- NET.FOLIS.STATUS.CHILDREN (R511). -/
abbrev NET.FOLIS.STATUS.CHILDREN : Fld := ⟨0x4015030c, 10, 3⟩
/-- NET.FOLIS.STATUS.SYNCED (R511). -/
abbrev NET.FOLIS.STATUS.SYNCED : Fld := ⟨0x4015030c, 13, 1⟩
/-- NET.FOLIS.STATUS.MASTER_ID (R511). -/
abbrev NET.FOLIS.STATUS.MASTER_ID : Fld := ⟨0x4015030c, 16, 10⟩
/-- Address of NET.FOLIS.CYCLE_NO (R511). -/
abbrev NET.FOLIS.CYCLE_NO.addr : Nat := 0x40150310
/-- NET.FOLIS.CYCLE_NO.K (R511). -/
abbrev NET.FOLIS.CYCLE_NO.K : Fld := ⟨0x40150310, 0, 32⟩
/-- Address of NET.FOLIS.EXPECTED (R511). -/
abbrev NET.FOLIS.EXPECTED.addr : Nat := 0x40150314
/-- NET.FOLIS.EXPECTED.N (R511). -/
abbrev NET.FOLIS.EXPECTED.N : Fld := ⟨0x40150314, 0, 11⟩
/-- Address of NET.FOLIS.AGG0 (R511). -/
abbrev NET.FOLIS.AGG0.addr : Nat := 0x40150318
/-- NET.FOLIS.AGG0.NODES (R511). -/
abbrev NET.FOLIS.AGG0.NODES : Fld := ⟨0x40150318, 0, 11⟩
/-- NET.FOLIS.AGG0.AGREE (R511). -/
abbrev NET.FOLIS.AGG0.AGREE : Fld := ⟨0x40150318, 16, 11⟩
/-- Address of NET.FOLIS.AGG1 (R511). -/
abbrev NET.FOLIS.AGG1.addr : Nat := 0x4015031c
/-- NET.FOLIS.AGG1.DISAGREE (R511). -/
abbrev NET.FOLIS.AGG1.DISAGREE : Fld := ⟨0x4015031c, 0, 11⟩
/-- NET.FOLIS.AGG1.LOWEST (R511). -/
abbrev NET.FOLIS.AGG1.LOWEST : Fld := ⟨0x4015031c, 16, 10⟩
/-- NET.FOLIS.AGG1.NONE (R511). -/
abbrev NET.FOLIS.AGG1.NONE : Fld := ⟨0x4015031c, 31, 1⟩
/-- Address of NET.FOLIS.AGG2 (R511). -/
abbrev NET.FOLIS.AGG2.addr : Nat := 0x40150320
/-- NET.FOLIS.AGG2.SAFE (R511). -/
abbrev NET.FOLIS.AGG2.SAFE : Fld := ⟨0x40150320, 0, 11⟩
/-- NET.FOLIS.AGG2.F4 (R511). -/
abbrev NET.FOLIS.AGG2.F4 : Fld := ⟨0x40150320, 16, 11⟩
/-- Address of NET.FOLIS.AGG3 (R511). -/
abbrev NET.FOLIS.AGG3.addr : Nat := 0x40150324
/-- NET.FOLIS.AGG3.STAGED (R511). -/
abbrev NET.FOLIS.AGG3.STAGED : Fld := ⟨0x40150324, 0, 11⟩
/-- NET.FOLIS.AGG3.MAX_DEPTH (R511). -/
abbrev NET.FOLIS.AGG3.MAX_DEPTH : Fld := ⟨0x40150324, 16, 6⟩
/-- Address of NET.FOLIS.AGG4 (R511). -/
abbrev NET.FOLIS.AGG4.addr : Nat := 0x40150328
/-- NET.FOLIS.AGG4.CYCLE (R511). -/
abbrev NET.FOLIS.AGG4.CYCLE : Fld := ⟨0x40150328, 0, 32⟩
/-- Address of NET.FOLIS.REF_FP (R511). -/
abbrev NET.FOLIS.REF_FP.addr (n : Nat) : Nat := 0x40150340 + n * 0x4
/-- NET.FOLIS.REF_FP.FP (R511). -/
abbrev NET.FOLIS.REF_FP.FP (n : Nat) : Fld := ⟨0x40150340 + n * 0x4, 0, 32⟩
/-- Address of NET.FOLIS.TGT_FP (R511). -/
abbrev NET.FOLIS.TGT_FP.addr (n : Nat) : Nat := 0x40150360 + n * 0x4
/-- NET.FOLIS.TGT_FP.FP (R511). -/
abbrev NET.FOLIS.TGT_FP.FP (n : Nat) : Fld := ⟨0x40150360 + n * 0x4, 0, 32⟩
/-- Address of NET.FOLIS.ACT (R511). -/
abbrev NET.FOLIS.ACT.addr (n : Nat) : Nat := 0x40150380 + n * 0x4
/-- NET.FOLIS.ACT.T (R511). -/
abbrev NET.FOLIS.ACT.T (n : Nat) : Fld := ⟨0x40150380 + n * 0x4, 0, 32⟩
/-- Address of NET.FOLIS.SCHED_SEQ (R511). -/
abbrev NET.FOLIS.SCHED_SEQ.addr : Nat := 0x4015038c
/-- NET.FOLIS.SCHED_SEQ.SEQ (R511). -/
abbrev NET.FOLIS.SCHED_SEQ.SEQ : Fld := ⟨0x4015038c, 0, 16⟩
/-- Address of CAN.LOCK (R536). -/
abbrev CAN.LOCK.addr (c : Nat) : Nat := 0x40130000 + c * 0x10000
/-- CAN.LOCK.val (R536). -/
abbrev CAN.LOCK.val (c : Nat) : Fld := ⟨0x40130000 + c * 0x10000, 0, 1⟩
/-- Address of CAN.CTRL (R536). -/
abbrev CAN.CTRL.addr (c : Nat) : Nat := 0x40130004 + c * 0x10000
/-- CAN.CTRL.INIT (R536). -/
abbrev CAN.CTRL.INIT (c : Nat) : Fld := ⟨0x40130004 + c * 0x10000, 0, 1⟩
/-- CAN.CTRL.MODE (R536). -/
abbrev CAN.CTRL.MODE (c : Nat) : Fld := ⟨0x40130004 + c * 0x10000, 1, 3⟩
/-- CAN.CTRL.AUTO_RECOVER (R536). -/
abbrev CAN.CTRL.AUTO_RECOVER (c : Nat) : Fld := ⟨0x40130004 + c * 0x10000, 4, 1⟩
/-- CAN.CTRL.ORDER (R536). -/
abbrev CAN.CTRL.ORDER (c : Nat) : Fld := ⟨0x40130004 + c * 0x10000, 5, 1⟩
/-- CAN.CTRL.PXHD (R536). -/
abbrev CAN.CTRL.PXHD (c : Nat) : Fld := ⟨0x40130004 + c * 0x10000, 6, 1⟩
/-- CAN.CTRL.RETRY_LIMIT (R536). -/
abbrev CAN.CTRL.RETRY_LIMIT (c : Nat) : Fld := ⟨0x40130004 + c * 0x10000, 8, 8⟩
/-- CAN.CTRL.NOMATCH (R536). -/
abbrev CAN.CTRL.NOMATCH (c : Nat) : Fld := ⟨0x40130004 + c * 0x10000, 16, 2⟩
/-- Address of CAN.NBT (R536). -/
abbrev CAN.NBT.addr (c : Nat) : Nat := 0x40130008 + c * 0x10000
/-- CAN.NBT.NBRP (R536). -/
abbrev CAN.NBT.NBRP (c : Nat) : Fld := ⟨0x40130008 + c * 0x10000, 0, 8⟩
/-- CAN.NBT.NTSEG1 (R536). -/
abbrev CAN.NBT.NTSEG1 (c : Nat) : Fld := ⟨0x40130008 + c * 0x10000, 8, 8⟩
/-- CAN.NBT.NTSEG2 (R536). -/
abbrev CAN.NBT.NTSEG2 (c : Nat) : Fld := ⟨0x40130008 + c * 0x10000, 16, 7⟩
/-- CAN.NBT.NSJW (R536). -/
abbrev CAN.NBT.NSJW (c : Nat) : Fld := ⟨0x40130008 + c * 0x10000, 23, 7⟩
/-- Address of CAN.DBT (R536). -/
abbrev CAN.DBT.addr (c : Nat) : Nat := 0x4013000c + c * 0x10000
/-- CAN.DBT.DBRP (R536). -/
abbrev CAN.DBT.DBRP (c : Nat) : Fld := ⟨0x4013000c + c * 0x10000, 0, 5⟩
/-- CAN.DBT.DTSEG1 (R536). -/
abbrev CAN.DBT.DTSEG1 (c : Nat) : Fld := ⟨0x4013000c + c * 0x10000, 5, 5⟩
/-- CAN.DBT.DTSEG2 (R536). -/
abbrev CAN.DBT.DTSEG2 (c : Nat) : Fld := ⟨0x4013000c + c * 0x10000, 10, 4⟩
/-- CAN.DBT.DSJW (R536). -/
abbrev CAN.DBT.DSJW (c : Nat) : Fld := ⟨0x4013000c + c * 0x10000, 14, 4⟩
/-- CAN.DBT.TDC_EN (R536). -/
abbrev CAN.DBT.TDC_EN (c : Nat) : Fld := ⟨0x4013000c + c * 0x10000, 18, 1⟩
/-- CAN.DBT.TDCO (R536). -/
abbrev CAN.DBT.TDCO (c : Nat) : Fld := ⟨0x4013000c + c * 0x10000, 19, 7⟩
/-- Address of CAN.STATUS (R536). -/
abbrev CAN.STATUS.addr (c : Nat) : Nat := 0x40130010 + c * 0x10000
/-- CAN.STATUS.STATE (R536). -/
abbrev CAN.STATUS.STATE (c : Nat) : Fld := ⟨0x40130010 + c * 0x10000, 0, 3⟩
/-- CAN.STATUS.ALONE (R536). -/
abbrev CAN.STATUS.ALONE (c : Nat) : Fld := ⟨0x40130010 + c * 0x10000, 3, 1⟩
/-- CAN.STATUS.TX_BUSY (R536). -/
abbrev CAN.STATUS.TX_BUSY (c : Nat) : Fld := ⟨0x40130010 + c * 0x10000, 4, 1⟩
/-- CAN.STATUS.RX_BUSY (R536). -/
abbrev CAN.STATUS.RX_BUSY (c : Nat) : Fld := ⟨0x40130010 + c * 0x10000, 5, 1⟩
/-- CAN.STATUS.TDCV (R536). -/
abbrev CAN.STATUS.TDCV (c : Nat) : Fld := ⟨0x40130010 + c * 0x10000, 8, 7⟩
/-- CAN.STATUS.RECOVERY (R536). -/
abbrev CAN.STATUS.RECOVERY (c : Nat) : Fld := ⟨0x40130010 + c * 0x10000, 16, 8⟩
/-- Address of CAN.ERR (R536). -/
abbrev CAN.ERR.addr (c : Nat) : Nat := 0x40130014 + c * 0x10000
/-- CAN.ERR.TEC (R536). -/
abbrev CAN.ERR.TEC (c : Nat) : Fld := ⟨0x40130014 + c * 0x10000, 0, 9⟩
/-- CAN.ERR.REC (R536). -/
abbrev CAN.ERR.REC (c : Nat) : Fld := ⟨0x40130014 + c * 0x10000, 16, 8⟩
/-- CAN.ERR.LEC (R536). -/
abbrev CAN.ERR.LEC (c : Nat) : Fld := ⟨0x40130014 + c * 0x10000, 24, 3⟩
/-- CAN.ERR.DLEC (R536). -/
abbrev CAN.ERR.DLEC (c : Nat) : Fld := ⟨0x40130014 + c * 0x10000, 27, 3⟩
/-- Address of CAN.COUNTS (R536). -/
abbrev CAN.COUNTS.addr (c : Nat) : Nat := 0x40130018 + c * 0x10000
/-- CAN.COUNTS.ACK_RUN (R536). -/
abbrev CAN.COUNTS.ACK_RUN (c : Nat) : Fld := ⟨0x40130018 + c * 0x10000, 0, 8⟩
/-- CAN.COUNTS.BUSOFFS (R536). -/
abbrev CAN.COUNTS.BUSOFFS (c : Nat) : Fld := ⟨0x40130018 + c * 0x10000, 8, 8⟩
/-- CAN.COUNTS.RX_DROPS (R536). -/
abbrev CAN.COUNTS.RX_DROPS (c : Nat) : Fld := ⟨0x40130018 + c * 0x10000, 16, 16⟩
/-- Address of CAN.CMD (R536). -/
abbrev CAN.CMD.addr (c : Nat) : Nat := 0x4013001c + c * 0x10000
/-- CAN.CMD.CODE (R536). -/
abbrev CAN.CMD.CODE (c : Nat) : Fld := ⟨0x4013001c + c * 0x10000, 0, 4⟩
/-- Address of CAN.CMD_STATUS (R536). -/
abbrev CAN.CMD_STATUS.addr (c : Nat) : Nat := 0x40130020 + c * 0x10000
/-- CAN.CMD_STATUS.CODE (R536). -/
abbrev CAN.CMD_STATUS.CODE (c : Nat) : Fld := ⟨0x40130020 + c * 0x10000, 0, 8⟩
/-- Address of CAN.STATUS_CFG (R536). -/
abbrev CAN.STATUS_CFG.addr (c : Nat) : Nat := 0x40130024 + c * 0x10000
/-- CAN.STATUS_CFG.EN (R536). -/
abbrev CAN.STATUS_CFG.EN (c : Nat) : Fld := ⟨0x40130024 + c * 0x10000, 0, 1⟩
/-- CAN.STATUS_CFG.IDE (R536). -/
abbrev CAN.STATUS_CFG.IDE (c : Nat) : Fld := ⟨0x40130024 + c * 0x10000, 1, 1⟩
/-- CAN.STATUS_CFG.FDF (R536). -/
abbrev CAN.STATUS_CFG.FDF (c : Nat) : Fld := ⟨0x40130024 + c * 0x10000, 2, 1⟩
/-- CAN.STATUS_CFG.BRS (R536). -/
abbrev CAN.STATUS_CFG.BRS (c : Nat) : Fld := ⟨0x40130024 + c * 0x10000, 3, 1⟩
/-- Address of CAN.STATUS_ID (R536). -/
abbrev CAN.STATUS_ID.addr (c : Nat) : Nat := 0x40130028 + c * 0x10000
/-- CAN.STATUS_ID.ID (R536). -/
abbrev CAN.STATUS_ID.ID (c : Nat) : Fld := ⟨0x40130028 + c * 0x10000, 0, 29⟩
/-- Address of CAN.FILL (R536). -/
abbrev CAN.FILL.addr (c : Nat) : Nat := 0x4013002c + c * 0x10000
/-- CAN.FILL.FIFO0 (R536). -/
abbrev CAN.FILL.FIFO0 (c : Nat) : Fld := ⟨0x4013002c + c * 0x10000, 0, 5⟩
/-- CAN.FILL.FIFO1 (R536). -/
abbrev CAN.FILL.FIFO1 (c : Nat) : Fld := ⟨0x4013002c + c * 0x10000, 8, 5⟩
/-- CAN.FILL.HPB (R536). -/
abbrev CAN.FILL.HPB (c : Nat) : Fld := ⟨0x4013002c + c * 0x10000, 16, 1⟩
/-- Address of CAN.INJ_TARGET (R536). -/
abbrev CAN.INJ_TARGET.addr (c : Nat) : Nat := 0x40130030 + c * 0x10000
/-- CAN.INJ_TARGET.TARGET (R536). -/
abbrev CAN.INJ_TARGET.TARGET (c : Nat) : Fld := ⟨0x40130030 + c * 0x10000, 0, 8⟩
/-- Address of CAN.INJECT (R536). -/
abbrev CAN.INJECT.addr (c : Nat) : Nat := 0x40130034 + c * 0x10000
/-- CAN.INJECT.CLASS (R536). -/
abbrev CAN.INJECT.CLASS (c : Nat) : Fld := ⟨0x40130034 + c * 0x10000, 0, 2⟩
/-- Address of CAN.INJ_STATUS (R536). -/
abbrev CAN.INJ_STATUS.addr (c : Nat) : Nat := 0x40130038 + c * 0x10000
/-- CAN.INJ_STATUS.CODE (R536). -/
abbrev CAN.INJ_STATUS.CODE (c : Nat) : Fld := ⟨0x40130038 + c * 0x10000, 0, 8⟩
/-- Address of CAN.FLT.ID (R536). -/
abbrev CAN.FLT.ID.addr (c n : Nat) : Nat := 0x40130600 + c * 0x10000 + n * 0x8
/-- CAN.FLT.ID.val (R536). -/
abbrev CAN.FLT.ID.val (c n : Nat) : Fld := ⟨0x40130600 + c * 0x10000 + n * 0x8, 0, 29⟩
/-- CAN.FLT.ID.IDE (R536). -/
abbrev CAN.FLT.ID.IDE (c n : Nat) : Fld := ⟨0x40130600 + c * 0x10000 + n * 0x8, 29, 1⟩
/-- Address of CAN.FLT.MASK (R536). -/
abbrev CAN.FLT.MASK.addr (c n : Nat) : Nat := 0x40130604 + c * 0x10000 + n * 0x8
/-- CAN.FLT.MASK.val (R536). -/
abbrev CAN.FLT.MASK.val (c n : Nat) : Fld := ⟨0x40130604 + c * 0x10000 + n * 0x8, 0, 29⟩
/-- CAN.FLT.MASK.ACTION (R536). -/
abbrev CAN.FLT.MASK.ACTION (c n : Nat) : Fld := ⟨0x40130604 + c * 0x10000 + n * 0x8, 29, 3⟩
/-- Address of CAN.TXB.ID (R536). -/
abbrev CAN.TXB.ID.addr (c n : Nat) : Nat := 0x40130200 + c * 0x10000 + n * 0x50
/-- CAN.TXB.ID.val (R536). -/
abbrev CAN.TXB.ID.val (c n : Nat) : Fld := ⟨0x40130200 + c * 0x10000 + n * 0x50, 0, 29⟩
/-- CAN.TXB.ID.IDE (R536). -/
abbrev CAN.TXB.ID.IDE (c n : Nat) : Fld := ⟨0x40130200 + c * 0x10000 + n * 0x50, 29, 1⟩
/-- CAN.TXB.ID.RTR (R536). -/
abbrev CAN.TXB.ID.RTR (c n : Nat) : Fld := ⟨0x40130200 + c * 0x10000 + n * 0x50, 30, 1⟩
/-- Address of CAN.TXB.HDR (R536). -/
abbrev CAN.TXB.HDR.addr (c n : Nat) : Nat := 0x40130204 + c * 0x10000 + n * 0x50
/-- CAN.TXB.HDR.DLC (R536). -/
abbrev CAN.TXB.HDR.DLC (c n : Nat) : Fld := ⟨0x40130204 + c * 0x10000 + n * 0x50, 0, 4⟩
/-- CAN.TXB.HDR.FDF (R536). -/
abbrev CAN.TXB.HDR.FDF (c n : Nat) : Fld := ⟨0x40130204 + c * 0x10000 + n * 0x50, 4, 1⟩
/-- CAN.TXB.HDR.BRS (R536). -/
abbrev CAN.TXB.HDR.BRS (c n : Nat) : Fld := ⟨0x40130204 + c * 0x10000 + n * 0x50, 5, 1⟩
/-- Address of CAN.TXB.REQ (R536). -/
abbrev CAN.TXB.REQ.addr (c n : Nat) : Nat := 0x40130208 + c * 0x10000 + n * 0x50
/-- CAN.TXB.REQ.val (R536). -/
abbrev CAN.TXB.REQ.val (c n : Nat) : Fld := ⟨0x40130208 + c * 0x10000 + n * 0x50, 0, 1⟩
/-- CAN.TXB.REQ.ABORT (R536). -/
abbrev CAN.TXB.REQ.ABORT (c n : Nat) : Fld := ⟨0x40130208 + c * 0x10000 + n * 0x50, 1, 1⟩
/-- Address of CAN.TXB.STATE (R536). -/
abbrev CAN.TXB.STATE.addr (c n : Nat) : Nat := 0x4013020c + c * 0x10000 + n * 0x50
/-- CAN.TXB.STATE.val (R536). -/
abbrev CAN.TXB.STATE.val (c n : Nat) : Fld := ⟨0x4013020c + c * 0x10000 + n * 0x50, 0, 2⟩
/-- CAN.TXB.STATE.RESULT (R536). -/
abbrev CAN.TXB.STATE.RESULT (c n : Nat) : Fld := ⟨0x4013020c + c * 0x10000 + n * 0x50, 2, 2⟩
/-- CAN.TXB.STATE.TRIES (R536). -/
abbrev CAN.TXB.STATE.TRIES (c n : Nat) : Fld := ⟨0x4013020c + c * 0x10000 + n * 0x50, 8, 8⟩
/-- Address of CAN.TXB.DATA (R536). -/
abbrev CAN.TXB.DATA.addr (c n i : Nat) : Nat := 0x40130210 + c * 0x10000 + n * 0x50 + i * 0x4
/-- CAN.TXB.DATA.BYTES (R536). -/
abbrev CAN.TXB.DATA.BYTES (c n i : Nat) : Fld := ⟨0x40130210 + c * 0x10000 + n * 0x50 + i * 0x4, 0, 32⟩
/-- Address of CAN.RX.ID (R536). -/
abbrev CAN.RX.ID.addr (c n : Nat) : Nat := 0x40130400 + c * 0x10000 + n * 0x60
/-- CAN.RX.ID.val (R536). -/
abbrev CAN.RX.ID.val (c n : Nat) : Fld := ⟨0x40130400 + c * 0x10000 + n * 0x60, 0, 29⟩
/-- CAN.RX.ID.IDE (R536). -/
abbrev CAN.RX.ID.IDE (c n : Nat) : Fld := ⟨0x40130400 + c * 0x10000 + n * 0x60, 29, 1⟩
/-- CAN.RX.ID.RTR (R536). -/
abbrev CAN.RX.ID.RTR (c n : Nat) : Fld := ⟨0x40130400 + c * 0x10000 + n * 0x60, 30, 1⟩
/-- CAN.RX.ID.VALID (R536). -/
abbrev CAN.RX.ID.VALID (c n : Nat) : Fld := ⟨0x40130400 + c * 0x10000 + n * 0x60, 31, 1⟩
/-- Address of CAN.RX.HDR (R536). -/
abbrev CAN.RX.HDR.addr (c n : Nat) : Nat := 0x40130404 + c * 0x10000 + n * 0x60
/-- CAN.RX.HDR.DLC (R536). -/
abbrev CAN.RX.HDR.DLC (c n : Nat) : Fld := ⟨0x40130404 + c * 0x10000 + n * 0x60, 0, 4⟩
/-- CAN.RX.HDR.FDF (R536). -/
abbrev CAN.RX.HDR.FDF (c n : Nat) : Fld := ⟨0x40130404 + c * 0x10000 + n * 0x60, 4, 1⟩
/-- CAN.RX.HDR.BRS (R536). -/
abbrev CAN.RX.HDR.BRS (c n : Nat) : Fld := ⟨0x40130404 + c * 0x10000 + n * 0x60, 5, 1⟩
/-- CAN.RX.HDR.ESI (R536). -/
abbrev CAN.RX.HDR.ESI (c n : Nat) : Fld := ⟨0x40130404 + c * 0x10000 + n * 0x60, 6, 1⟩
/-- CAN.RX.HDR.FILTER (R536). -/
abbrev CAN.RX.HDR.FILTER (c n : Nat) : Fld := ⟨0x40130404 + c * 0x10000 + n * 0x60, 8, 6⟩
/-- Address of CAN.RX.TS (R536). -/
abbrev CAN.RX.TS.addr (c n : Nat) : Nat := 0x40130408 + c * 0x10000 + n * 0x60
/-- CAN.RX.TS.NS (R536). -/
abbrev CAN.RX.TS.NS (c n : Nat) : Fld := ⟨0x40130408 + c * 0x10000 + n * 0x60, 0, 30⟩
/-- Address of CAN.RX.POP (R536). -/
abbrev CAN.RX.POP.addr (c n : Nat) : Nat := 0x4013040c + c * 0x10000 + n * 0x60
/-- CAN.RX.POP.val (R536). -/
abbrev CAN.RX.POP.val (c n : Nat) : Fld := ⟨0x4013040c + c * 0x10000 + n * 0x60, 0, 1⟩
/-- Address of CAN.RX.DATA (R536). -/
abbrev CAN.RX.DATA.addr (c n i : Nat) : Nat := 0x40130410 + c * 0x10000 + n * 0x60 + i * 0x4
/-- CAN.RX.DATA.BYTES (R536). -/
abbrev CAN.RX.DATA.BYTES (c n i : Nat) : Fld := ⟨0x40130410 + c * 0x10000 + n * 0x60 + i * 0x4, 0, 32⟩
/-- Address of INT.CTRL (R554). -/
abbrev INT.CTRL.addr : Nat := 0x40040000
/-- INT.CTRL.IRQ_EN (R554). -/
abbrev INT.CTRL.IRQ_EN : Fld := ⟨0x40040000, 0, 1⟩
/-- INT.CTRL.EDGE (R554). -/
abbrev INT.CTRL.EDGE : Fld := ⟨0x40040000, 1, 1⟩
/-- Address of INT.SUM0 (R554). -/
abbrev INT.SUM0.addr : Nat := 0x40040004
/-- INT.SUM0.PEND (R554). -/
abbrev INT.SUM0.PEND : Fld := ⟨0x40040004, 0, 32⟩
/-- Address of INT.SUM1 (R554). -/
abbrev INT.SUM1.addr : Nat := 0x40040008
/-- INT.SUM1.PEND (R554). -/
abbrev INT.SUM1.PEND : Fld := ⟨0x40040008, 0, 32⟩
/-- Address of INT.TOP (R554). -/
abbrev INT.TOP.addr : Nat := 0x4004000c
/-- INT.TOP.GROUP (R554). -/
abbrev INT.TOP.GROUP : Fld := ⟨0x4004000c, 0, 7⟩
/-- INT.TOP.IRQ (R554). -/
abbrev INT.TOP.IRQ : Fld := ⟨0x4004000c, 8, 1⟩
/-- Address of INT.SET0 (R554). -/
abbrev INT.SET0.addr : Nat := 0x40040010
/-- INT.SET0.SET (R554). -/
abbrev INT.SET0.SET : Fld := ⟨0x40040010, 0, 32⟩
/-- Address of INT.SET1 (R554). -/
abbrev INT.SET1.addr : Nat := 0x40040014
/-- INT.SET1.SET (R554). -/
abbrev INT.SET1.SET : Fld := ⟨0x40040014, 0, 32⟩
/-- Address of INT.GRP.CAUSE (R554). -/
abbrev INT.GRP.CAUSE.addr (n : Nat) : Nat := 0x40040100 + n * 0x10
/-- INT.GRP.CAUSE.val (R554). -/
abbrev INT.GRP.CAUSE.val (n : Nat) : Fld := ⟨0x40040100 + n * 0x10, 0, 32⟩
/-- Address of INT.GRP.ENABLE (R554). -/
abbrev INT.GRP.ENABLE.addr (n : Nat) : Nat := 0x40040104 + n * 0x10
/-- INT.GRP.ENABLE.val (R554). -/
abbrev INT.GRP.ENABLE.val (n : Nat) : Fld := ⟨0x40040104 + n * 0x10, 0, 32⟩
/-- Address of INT.GRP.INJECT (R554). -/
abbrev INT.GRP.INJECT.addr (n : Nat) : Nat := 0x40040108 + n * 0x10
/-- INT.GRP.INJECT.val (R554). -/
abbrev INT.GRP.INJECT.val (n : Nat) : Fld := ⟨0x40040108 + n * 0x10, 0, 32⟩
/-- Address of INT.GRP.PEND (R554). -/
abbrev INT.GRP.PEND.addr (n : Nat) : Nat := 0x4004010c + n * 0x10
/-- INT.GRP.PEND.val (R554). -/
abbrev INT.GRP.PEND.val (n : Nat) : Fld := ⟨0x4004010c + n * 0x10, 0, 32⟩
/-- Address of HOST.CFG (R555). -/
abbrev HOST.CFG.addr : Nat := 0x40180000
/-- HOST.CFG.WAIT (R555). -/
abbrev HOST.CFG.WAIT : Fld := ⟨0x40180000, 0, 8⟩
/-- Address of HOST.CAUSE (R555). -/
abbrev HOST.CAUSE.addr : Nat := 0x40180004
/-- HOST.CAUSE.val (R555). -/
abbrev HOST.CAUSE.val : Fld := ⟨0x40180004, 0, 5⟩
/-- Address of HOST.COUNTS0 (R555). -/
abbrev HOST.COUNTS0.addr : Nat := 0x40180008
/-- HOST.COUNTS0.CRC_ERRS (R555). -/
abbrev HOST.COUNTS0.CRC_ERRS : Fld := ⟨0x40180008, 0, 16⟩
/-- HOST.COUNTS0.FRAMING (R555). -/
abbrev HOST.COUNTS0.FRAMING : Fld := ⟨0x40180008, 16, 16⟩
/-- Address of HOST.COUNTS1 (R555). -/
abbrev HOST.COUNTS1.addr : Nat := 0x4018000c
/-- HOST.COUNTS1.DECODE (R555). -/
abbrev HOST.COUNTS1.DECODE : Fld := ⟨0x4018000c, 0, 16⟩
/-- HOST.COUNTS1.LATE (R555). -/
abbrev HOST.COUNTS1.LATE : Fld := ⟨0x4018000c, 16, 16⟩
/-- Address of HOST.LAST_BAD (R555). -/
abbrev HOST.LAST_BAD.addr : Nat := 0x40180010
/-- HOST.LAST_BAD.ADDR (R555). -/
abbrev HOST.LAST_BAD.ADDR : Fld := ⟨0x40180010, 0, 32⟩
/-- Address of HOST.SCRATCH (R555). -/
abbrev HOST.SCRATCH.addr : Nat := 0x40180014
/-- HOST.SCRATCH.DATA (R555). -/
abbrev HOST.SCRATCH.DATA : Fld := ⟨0x40180014, 0, 32⟩
/-- Address of HOST.SEQ (R555). -/
abbrev HOST.SEQ.addr : Nat := 0x40180018
/-- HOST.SEQ.COUNT (R555). -/
abbrev HOST.SEQ.COUNT : Fld := ⟨0x40180018, 0, 16⟩
/-- Address of HIMET.STATUS (R581). -/
abbrev HIMET.STATUS.addr : Nat := 0x40080000
/-- HIMET.STATUS.OWN (R581). -/
abbrev HIMET.STATUS.OWN : Fld := ⟨0x40080000, 0, 2⟩
/-- HIMET.STATUS.LOCKED (R581). -/
abbrev HIMET.STATUS.LOCKED : Fld := ⟨0x40080000, 2, 1⟩
/-- HIMET.STATUS.TEST (R581). -/
abbrev HIMET.STATUS.TEST : Fld := ⟨0x40080000, 3, 1⟩
/-- HIMET.STATUS.DEBUG (R581). -/
abbrev HIMET.STATUS.DEBUG : Fld := ⟨0x40080000, 4, 2⟩
/-- HIMET.STATUS.BUSY (R581). -/
abbrev HIMET.STATUS.BUSY : Fld := ⟨0x40080000, 6, 1⟩
/-- HIMET.STATUS.STORE_FAIL (R581). -/
abbrev HIMET.STATUS.STORE_FAIL : Fld := ⟨0x40080000, 7, 1⟩
/-- HIMET.STATUS.TRNG_OK (R581). -/
abbrev HIMET.STATUS.TRNG_OK : Fld := ⟨0x40080000, 8, 1⟩
/-- HIMET.STATUS.CK_CUR (R581). -/
abbrev HIMET.STATUS.CK_CUR : Fld := ⟨0x40080000, 9, 1⟩
/-- HIMET.STATUS.CK_PREV (R581). -/
abbrev HIMET.STATUS.CK_PREV : Fld := ⟨0x40080000, 10, 1⟩
/-- Address of HIMET.CMD (R581). -/
abbrev HIMET.CMD.addr : Nat := 0x40080004
/-- HIMET.CMD.CODE (R581). -/
abbrev HIMET.CMD.CODE : Fld := ⟨0x40080004, 0, 4⟩
/-- HIMET.CMD.SLOT (R581). -/
abbrev HIMET.CMD.SLOT : Fld := ⟨0x40080004, 8, 3⟩
/-- Address of HIMET.CMD_STATUS (R581). -/
abbrev HIMET.CMD_STATUS.addr : Nat := 0x40080008
/-- HIMET.CMD_STATUS.CODE (R581). -/
abbrev HIMET.CMD_STATUS.CODE : Fld := ⟨0x40080008, 0, 8⟩
/-- Address of HIMET.AUTH_STATUS (R581). -/
abbrev HIMET.AUTH_STATUS.addr : Nat := 0x4008000c
/-- HIMET.AUTH_STATUS.RESULT (R581). -/
abbrev HIMET.AUTH_STATUS.RESULT : Fld := ⟨0x4008000c, 0, 8⟩
/-- HIMET.AUTH_STATUS.KIND (R581). -/
abbrev HIMET.AUTH_STATUS.KIND : Fld := ⟨0x4008000c, 8, 8⟩
/-- HIMET.AUTH_STATUS.SEQ (R581). -/
abbrev HIMET.AUTH_STATUS.SEQ : Fld := ⟨0x4008000c, 16, 16⟩
/-- Address of HIMET.MBOX_LEN (R581). -/
abbrev HIMET.MBOX_LEN.addr : Nat := 0x40080010
/-- HIMET.MBOX_LEN.LEN (R581). -/
abbrev HIMET.MBOX_LEN.LEN : Fld := ⟨0x40080010, 0, 14⟩
/-- Address of HIMET.SESSION_LEFT (R581). -/
abbrev HIMET.SESSION_LEFT.addr : Nat := 0x40080014
/-- HIMET.SESSION_LEFT.TEST (R581). -/
abbrev HIMET.SESSION_LEFT.TEST : Fld := ⟨0x40080014, 0, 16⟩
/-- HIMET.SESSION_LEFT.DEBUG (R581). -/
abbrev HIMET.SESSION_LEFT.DEBUG : Fld := ⟨0x40080014, 16, 16⟩
/-- Address of HIMET.RANDOM (R581). -/
abbrev HIMET.RANDOM.addr : Nat := 0x40080018
/-- HIMET.RANDOM.BITS (R581). -/
abbrev HIMET.RANDOM.BITS : Fld := ⟨0x40080018, 0, 32⟩
/-- Address of HIMET.CTR (R581). -/
abbrev HIMET.CTR.addr (n : Nat) : Nat := 0x40080020 + n * 0x4
/-- HIMET.CTR.VALUE (R581). -/
abbrev HIMET.CTR.VALUE (n : Nat) : Fld := ⟨0x40080020 + n * 0x4, 0, 32⟩
/-- Address of HIMET.NONCE (R581). -/
abbrev HIMET.NONCE.addr (n : Nat) : Nat := 0x40080040 + n * 0x4
/-- HIMET.NONCE.val (R581). -/
abbrev HIMET.NONCE.val (n : Nat) : Fld := ⟨0x40080040 + n * 0x4, 0, 32⟩
/-- Address of HIMET.QNONCE (R581). -/
abbrev HIMET.QNONCE.addr (n : Nat) : Nat := 0x40080060 + n * 0x4
/-- HIMET.QNONCE.NONCE (R581). -/
abbrev HIMET.QNONCE.NONCE (n : Nat) : Fld := ⟨0x40080060 + n * 0x4, 0, 32⟩
/-- Address of HIMET.OWNER_ID (R581). -/
abbrev HIMET.OWNER_ID.addr (n : Nat) : Nat := 0x40080080 + n * 0x4
/-- HIMET.OWNER_ID.ID (R581). -/
abbrev HIMET.OWNER_ID.ID (n : Nat) : Fld := ⟨0x40080080 + n * 0x4, 0, 32⟩
/-- Address of HIMET.INJ_TARGET (R581). -/
abbrev HIMET.INJ_TARGET.addr : Nat := 0x400800a0
/-- HIMET.INJ_TARGET.TARGET (R581). -/
abbrev HIMET.INJ_TARGET.TARGET : Fld := ⟨0x400800a0, 0, 8⟩
/-- Address of HIMET.INJECT (R581). -/
abbrev HIMET.INJECT.addr : Nat := 0x400800a4
/-- HIMET.INJECT.CLASS (R581). -/
abbrev HIMET.INJECT.CLASS : Fld := ⟨0x400800a4, 0, 2⟩
/-- Address of HIMET.INJ_STATUS (R581). -/
abbrev HIMET.INJ_STATUS.addr : Nat := 0x400800a8
/-- HIMET.INJ_STATUS.CODE (R581). -/
abbrev HIMET.INJ_STATUS.CODE : Fld := ⟨0x400800a8, 0, 8⟩
/-- Address of HIMET.MBOX (R581). -/
abbrev HIMET.MBOX.addr (n : Nat) : Nat := 0x40082000 + n * 0x4
/-- HIMET.MBOX.DATA (R581). -/
abbrev HIMET.MBOX.DATA (n : Nat) : Fld := ⟨0x40082000 + n * 0x4, 0, 32⟩
/-- Address of SVC.USB_ID (R601). -/
abbrev SVC.USB_ID.addr : Nat := 0x40160000
/-- SVC.USB_ID.PID (R601). -/
abbrev SVC.USB_ID.PID : Fld := ⟨0x40160000, 0, 16⟩
/-- SVC.USB_ID.VID (R601). -/
abbrev SVC.USB_ID.VID : Fld := ⟨0x40160000, 16, 16⟩
/-- Address of SVC.STATUS (R601). -/
abbrev SVC.STATUS.addr : Nat := 0x40160004
/-- SVC.STATUS.USB (R601). -/
abbrev SVC.STATUS.USB : Fld := ⟨0x40160004, 0, 2⟩
/-- SVC.STATUS.HS (R601). -/
abbrev SVC.STATUS.HS : Fld := ⟨0x40160004, 2, 1⟩
/-- SVC.STATUS.STAGE (R601). -/
abbrev SVC.STATUS.STAGE : Fld := ⟨0x40160004, 3, 2⟩
/-- SVC.STATUS.ACT (R601). -/
abbrev SVC.STATUS.ACT : Fld := ⟨0x40160004, 5, 2⟩
/-- SVC.STATUS.RUNNING (R601). -/
abbrev SVC.STATUS.RUNNING : Fld := ⟨0x40160004, 7, 1⟩
/-- SVC.STATUS.STARTS (R601). -/
abbrev SVC.STATUS.STARTS : Fld := ⟨0x40160004, 8, 2⟩
/-- Address of SVC.CFG (R601). -/
abbrev SVC.CFG.addr : Nat := 0x40160008
/-- SVC.CFG.AUX_UPDATE_MIN (R601). -/
abbrev SVC.CFG.AUX_UPDATE_MIN : Fld := ⟨0x40160008, 0, 9⟩
/-- Address of SVC.CMD (R601). -/
abbrev SVC.CMD.addr : Nat := 0x4016000c
/-- SVC.CMD.CODE (R601). -/
abbrev SVC.CMD.CODE : Fld := ⟨0x4016000c, 0, 4⟩
/-- Address of SVC.CMD_STATUS (R601). -/
abbrev SVC.CMD_STATUS.addr : Nat := 0x40160010
/-- SVC.CMD_STATUS.CODE (R601). -/
abbrev SVC.CMD_STATUS.CODE : Fld := ⟨0x40160010, 0, 8⟩
/-- Address of SVC.RESULT (R601). -/
abbrev SVC.RESULT.addr : Nat := 0x40160014
/-- SVC.RESULT.CODE (R601). -/
abbrev SVC.RESULT.CODE : Fld := ⟨0x40160014, 0, 8⟩
/-- SVC.RESULT.OP (R601). -/
abbrev SVC.RESULT.OP : Fld := ⟨0x40160014, 8, 8⟩
/-- SVC.RESULT.SEQ (R601). -/
abbrev SVC.RESULT.SEQ : Fld := ⟨0x40160014, 16, 16⟩
/-- Address of SVC.PROGRESS (R601). -/
abbrev SVC.PROGRESS.addr : Nat := 0x40160018
/-- SVC.PROGRESS.BYTES (R601). -/
abbrev SVC.PROGRESS.BYTES : Fld := ⟨0x40160018, 0, 32⟩
/-- Address of SVC.ACT (R601). -/
abbrev SVC.ACT.addr (n : Nat) : Nat := 0x40160020 + n * 0x4
/-- SVC.ACT.T (R601). -/
abbrev SVC.ACT.T (n : Nat) : Fld := ⟨0x40160020 + n * 0x4, 0, 32⟩
/-- Address of SVC.BANK.STATE (R601). -/
abbrev SVC.BANK.STATE.addr (n : Nat) : Nat := 0x40160040 + n * 0x40
/-- SVC.BANK.STATE.val (R601). -/
abbrev SVC.BANK.STATE.val (n : Nat) : Fld := ⟨0x40160040 + n * 0x40, 0, 3⟩
/-- SVC.BANK.STATE.SCHEMA (R601). -/
abbrev SVC.BANK.STATE.SCHEMA (n : Nat) : Fld := ⟨0x40160040 + n * 0x40, 16, 16⟩
/-- Address of SVC.BANK.FW_VER (R601). -/
abbrev SVC.BANK.FW_VER.addr (n : Nat) : Nat := 0x40160044 + n * 0x40
/-- SVC.BANK.FW_VER.VERSION (R601). -/
abbrev SVC.BANK.FW_VER.VERSION (n : Nat) : Fld := ⟨0x40160044 + n * 0x40, 0, 32⟩
/-- Address of SVC.BANK.FP (R601). -/
abbrev SVC.BANK.FP.addr (n i : Nat) : Nat := 0x40160060 + n * 0x40 + i * 0x4
/-- SVC.BANK.FP.val (R601). -/
abbrev SVC.BANK.FP.val (n i : Nat) : Fld := ⟨0x40160060 + n * 0x40 + i * 0x4, 0, 32⟩
/-- Address of SVC.FWDIGEST (R601). -/
abbrev SVC.FWDIGEST.addr (n : Nat) : Nat := 0x40160100 + n * 0x4
/-- SVC.FWDIGEST.DIGEST (R601). -/
abbrev SVC.FWDIGEST.DIGEST (n : Nat) : Fld := ⟨0x40160100 + n * 0x4, 0, 32⟩
/-- Address of SVC.PDIGEST (R601). -/
abbrev SVC.PDIGEST.addr (n : Nat) : Nat := 0x40160120 + n * 0x4
/-- SVC.PDIGEST.DIGEST (R601). -/
abbrev SVC.PDIGEST.DIGEST (n : Nat) : Fld := ⟨0x40160120 + n * 0x4, 0, 32⟩

end Reg

end Sys2Proof.Machine
end

