-- ==== Sys2Proof/Machine/Cells.lean ====
section
/-! DEFINITION. Sparse storage in one canonical form: (key, value) pairs with keys strictly rising and no entry equal
to what an unlisted key reads as. The register file and the buffers of the module are held so. -/

namespace Sys2Proof.Machine

/-- Sparse storage of w-bit values. -/
abbrev Cells (w : Nat) := List (Nat × BitVec w)

/-- The value at key `a`; an unlisted key reads as `d a`. -/
def cellGet {w : Nat} (d : Nat → BitVec w) : Cells w → Nat → BitVec w
  | [], a => d a
  | (k, v) :: t, a => if k = a then v else cellGet d t a

/-- Remove what stands at key `a`. -/
def cellErase {w : Nat} : Cells w → Nat → Cells w
  | [], _ => []
  | (k, v) :: t, a => if k = a then cellErase t a else (k, v) :: cellErase t a

/-- Put an entry at key `a`, in key order. -/
def cellInsert {w : Nat} : Cells w → Nat → BitVec w → Cells w
  | [], a, x => [(a, x)]
  | (k, v) :: t, a, x => if a < k then (a, x) :: (k, v) :: t else (k, v) :: cellInsert t a x

/-- Write `x` at key `a`, keeping the canonical form: writing the unlisted value removes the entry. -/
def cellSet {w : Nat} (d : Nat → BitVec w) (m : Cells w) (a : Nat) (x : BitVec w) : Cells w :=
  if x = d a then cellErase m a else cellInsert (cellErase m a) a x

/-- Keys strictly rising, every key above `lo` when `lo` is given. -/
def cellSorted {w : Nat} : Option Nat → Cells w → Bool
  | _, [] => true
  | none, (k, _) :: t => cellSorted (some k) t
  | some lo, (k, _) :: t => decide (lo < k) && cellSorted (some k) t

/-- The canonical form: keys strictly rising, no entry equal to its unlisted value. -/
def cellWf {w : Nat} (d : Nat → BitVec w) (m : Cells w) : Bool :=
  cellSorted none m && m.all (fun p => decide (p.2 ≠ d p.1))

end Sys2Proof.Machine
end

