-- ==== Sys2Proof/Config.lean ====
section
/-! DEFINITION. What an implementation fixes and what the spec leaves open: constants without a body, so that no proof
can see a value of them. -/

namespace Sys2Proof.Config

/-- A fresh free value for each use: applied to the state's counter of free values. -/
opaque freeValue : Nat → BitVec 64

/-- The 64-bit unit serial number (R1). -/
opaque serial : BitVec 64

/-- The revision digit of SYS.ID, 1 to 9 (R1): this constant modulo 9, plus 1. -/
opaque revSeed : BitVec 8

/-- idVendor and idProduct of the service port, fixed per revision (R601): [31:16] and [15:0]. -/
opaque usbId : BitVec 32

/-- The MAC address of Ethernet port p, fixed per unit (R511). -/
opaque mac : Nat → BitVec 48

/-- The hedged ML-DSA-65 signature of the identity key (R558, R560): message, randomness. -/
opaque mldsaSign : List Byte → BitVec 64 → List Byte

/-- offsetScaledLogVariance of the module's clock (R490 states none). -/
opaque gptpVariance : BitVec 16

/-- The parameter set that the firmware's migrators make of a source set (R596): firmware image, source set; none when a migrator
fails. -/
opaque migrate : List Byte → List Byte → Option (List Byte)

/-- The public identity key of the unit (R558). -/
opaque identityKey : List Byte

/-- The public key that the module carries in a Himet key slot from manufacture: slot number. -/
opaque rootKey : Nat → List Byte

/-- The identity certificate of the unit (R559). -/
opaque identityCert : List Byte

/-- Sine and cosine of a binary32 word in the Carve engine, within the bound of its rule. -/
opaque sinF : BitVec 32 → BitVec 32
/-- See `sinF`. -/
opaque cosF : BitVec 32 → BitVec 32
/-- The two-argument arctangent of the Carve engine, within the bound of its rule. -/
opaque atan2F : BitVec 32 → BitVec 32 → BitVec 32

/-- Whether a voltage between two whole volts is given as the higher one in the status frame (R326 states no rounding). -/
opaque voltsUp : BitVec 32 → Bool

/-- Whether the profile channel of a slot is one of torque, not of speed (R182, R317 name no field that tells). -/
opaque torqueChannel : Fin 4 → Bool

/-- Whether A leading B is the forward direction of a quadrature sensor (R129, R134 state no direction). -/
opaque quadForward : Bool

end Sys2Proof.Config
end

