-- ==== Sys2Proof/Machine/Course.lean ====
section
/-! DEFINITION. Bytes of images and frames: little-endian fields, the CRC-32 of IEEE 802.3 and digests (R59, R62, R82). -/

namespace Sys2Proof.Machine

/-- A little-endian field of n bytes at an offset; a byte beyond the end counts as 0. -/
def leAt (b : List Byte) (off n : Nat) : Nat :=
  ((b.drop off).take n).foldr (fun x acc => x.toNat + 256 * acc) 0

/-- The n bytes of a number, little-endian. -/
def leBytes : Nat → Nat → List Byte
  | 0, _ => []
  | n + 1, v => BitVec.ofNat 8 v :: leBytes n (v / 256)

/-- n bytes from an offset, filled with zeros beyond the end. -/
def slice (b : List Byte) (off n : Nat) : List Byte :=
  let x := (b.drop off).take n
  x ++ List.replicate (n - x.length) 0#8

/-- Whether n bytes from an offset are all 0. -/
def zeros (b : List Byte) (off n : Nat) : Bool := ((b.drop off).take n).all (fun x => x == 0#8)

/-- One bit of the CRC-32, least significant first. -/
def crc32Bit (c : Word) : Word := if c.getLsbD 0 then (c >>> 1) ^^^ 0xEDB88320#32 else c >>> 1

/-- One byte of the CRC-32. -/
def crc32Byte (c : Word) (b : Byte) : Word :=
  crc32Bit (crc32Bit (crc32Bit (crc32Bit (crc32Bit (crc32Bit (crc32Bit (crc32Bit (c ^^^ b.zeroExtend 32))))))))

/-- The CRC-32 with the IEEE 802.3 polynomial (R62). -/
def crc32 (b : List Byte) : Word := ~~~(b.foldl crc32Byte 0xFFFFFFFF#32)

/-- The bytes of a digest. -/
def digestBytes (d : BitVec 256) : List Byte := leBytes 32 d.toNat

/-- A digest from its bytes. -/
def digestOf (b : List Byte) : BitVec 256 := BitVec.ofNat 256 (leAt b 0 32)

/-- Word i of a digest: bytes 4i to 4i + 3 (R96). -/
def digestWord (d : BitVec 256) (i : Nat) : Word := BitVec.ofNat 32 (d.toNat / 2 ^ (32 * i))

end Sys2Proof.Machine
end

