-- ==== Sys2Proof/Machine/State.lean ====
section
/-! DEFINITION. The state of the module as plain data, block by block, and its value at reset. -/

namespace Sys2Proof.Machine

/-- Marks of a cause (R391, R392). -/
inductive Mark where
  | real | shadow | live
deriving DecidableEq, Repr

/-- One setting of a cause on its way to Patrol (R374): group, bit, mark. -/
structure Setting where
  grp : Nat
  bit : Nat
  mark : Mark := .real
deriving DecidableEq, Repr

/-- Where the module stands between supply and run (R49, R453 to R467): without supply, in reset, lifting, or past host
enable (L8, or W5 of a warm lift), or halted in reset-safe (R464). -/
inductive Life where
  | noSupply | reset | lifting | run | resetSafe
deriving DecidableEq, Repr

/-- The host port (chapter 20) beyond its registers: the bytes that the module returned in the last transaction, data, status byte
and CRC (none while it drove no line); DECODE and LATE of the last READ or WRITE; IRQ_N in its release of EDGE mode (R551). -/
structure HostSt where
  reply : List Byte := []
  lastDecode : Bool := false
  lastLate : Bool := false
  irqReleased : Bool := false
deriving DecidableEq, Repr

/-- The supply (chapter 2) beyond its registers: AUX_IN below 16.0 V and above 36.0 V, each after its comparator filter;
the hold-up capacitor supplies the module; internal rails outside their 3 % and 6 % bands. -/
structure SupplySt where
  below16 : Bool := true
  above36 : Bool := false
  holdup : Bool := false
deriving DecidableEq, Repr

/-- A slot record of TOPOLOGY (R65). -/
structure SlotRec where
  enable : Bool := false
  kind : Nat := 0
  phases : Nat := 0
  sets : Nat := 0
  levels : Nat := 0
  topo : Nat := 0
  polePairs : Nat := 0
  reverse : Nat := 0
  omegaX : Word := 0#32
  speedMax : Word := 0#32
  vdcMax : Word := 0#32
  setShift : Word := 0#32
  commut : Nat := 0
deriving DecidableEq, Repr

/-- A leg record of TOPOLOGY (R66); slot 255 = none. -/
structure LegRec where
  slot : Nat := 255
  function : Nat := 0
  set : Nat := 0
  phase : Nat := 0
  position : Nat := 0
  trip : Nat := 1
deriving DecidableEq, Repr

/-- A channel record of TOPOLOGY (R67). -/
structure ChanRec where
  leg : Nat := 0
  out : Nat := 0
  unmapped : Bool := true
  partner : Nat := 255
  cls : Nat := 0
  sense : Nat := 0
  vpos : Nat := 0
  vneg : Nat := 0
  qg : Nat := 0
deriving DecidableEq, Repr

/-- An interlock record (R69): two leg outputs (0 = A, 1 = B) and the least dead time in CLK_EDGE counts. -/
structure Interlock where
  legX : Nat
  outX : Nat
  legY : Nat
  outY : Nat
  dtMin : Nat
deriving DecidableEq, Repr

/-- A route record (R70). -/
structure Route where
  srcClass : Nat
  srcIndex : Nat
  dstClass : Nat
  dstIndex : Nat
  slot : Nat
deriving DecidableEq, Repr

/-- An envelope record (R72): TYPE 0 unsigned, 1 signed, 2 binary32, 3 enumerated. -/
structure EnvRec where
  addr : Nat
  lsb : Nat
  width : Nat
  type : Nat
  min : Word
  max : Word
deriving DecidableEq, Repr

/-- A SAFESTATE record (R74). -/
structure SafeRec where
  below : Nat := 0
  above : Nat := 0
  hyst : Word := 0#32
deriving DecidableEq, Repr

/-- A FAULTGROUP entry (R76); trip 255 = none. -/
structure FaultRec where
  grp : Nat
  bit : Nat
  cls : Nat
  slots : Nat
  trip : Nat
  flags : Nat
deriving DecidableEq, Repr

/-- A SCHEDULE record (R78); leg 255 = unused task. -/
structure TaskRec where
  leg : Nat := 255
  events : Nat := 0
  prescale : Nat := 1
  delay : Nat := 0
  entry : Nat := 0
deriving DecidableEq, Repr

/-- The loaded course (R60 to R84), section by section. `frames` holds the tile index and payload CRC of every fabric
frame (R71); the payloads' meaning is not in the spec. -/
structure Course where
  fmtMinor : Nat := 0
  fmtMajor : Nat := 0
  encrypted : Bool := false
  secVersion : Nat := 0
  build : Nat := 0
  courseId : List Word := []
  digest : BitVec 256 := 0#256
  slots : List SlotRec := []
  legs : List LegRec := []
  chans : List ChanRec := []
  interlocks : List Interlock := []
  routes : List Route := []
  frames : List (Nat × Word) := []
  env : List EnvRec := []
  safe : List SafeRec := []
  tgMasks : List Word := []
  faults : List FaultRec := []
  tasks : List TaskRec := []
  blockcfg : List (Nat × Word) := []
  prog : List (BitVec 64) := []
  matrix : List Word := []
deriving DecidableEq, Repr

/-- A spare tile (128 to 135) at work in place of a failed tile of its lane (R89, R91, R96). -/
structure TileSpare where
  lane : Nat
  tile : Nat
  spare : Nat
deriving DecidableEq, Repr

/-- A replacement under way (R91): the spare runs beside the failed tile; `compared` says that the compare run has ended. -/
structure TileRepair where
  unit : TileSpare
  compared : Bool := false
deriving DecidableEq, Repr

/-- The fabric (chapter 3) beyond its registers: frames rewritten into a standby copy and waiting for the swap, as
(lane, tile); the runs of successive mismatching passes per lane and tile (key lane * 256 + tile); repairs under way;
tiles replaced by spares; lanes reported beyond repair. -/
structure PisteSt where
  swaps : List (Nat × Nat) := []
  runs : Cells 8 := []
  repairs : List TileRepair := []
  replaced : List TileSpare := []
  beyond : List Nat := []
deriving DecidableEq, Repr

/-- The clock unit (chapter 1) beyond its registers: the root runs (from L4 on); root epochs since it started; the CLK_EDGE cycle of the running
epoch, 0 to 4,499, that the module has come to as far as anything has shown (R474, R475). -/
structure ClkSt where
  rootRuns : Bool := false
  epochs : Nat := 0
  edge : Nat := 0
deriving DecidableEq, Repr

/-- The triggers of the task that a LOCKED or NOTCH channel follows (R105, R106): one whose result is still to come, the CLK_CTL cycle of
the latest one, and the cycles since the one before it. -/
structure SdmTrig where
  due : Bool := false
  last : Option Nat := none
  gap : Option Nat := none
deriving DecidableEq, Repr

/-- A result channel of the SDM block (R105 to R112): the last result with its status; NEW until RES is read; the CLK_CTL cycle from which its bits
have come without a break, since it was enabled or its input became valid (R103, R104); its triggers. -/
structure SdmCh where
  res : Word := 0#32
  raw : BitVec 24 := 0#24
  seq : BitVec 16 := 0#16
  valid : Bool := false
  new : Bool := false
  edge : Bool := false
  overl : Bool := false
  subst : Bool := false
  fresh : Bool := false
  freshFrom : Option Nat := none
  trig : SdmTrig := {}
deriving DecidableEq, Repr

/-- A filter's comparators and pair (R113 to R118): asserted sides, runs of successive outputs beyond a threshold, the
pair's run; whether a spare filter runs beside it, with the results compared so far, and its number (R125); the gate state changes of its inputs' channels as counted at the latest results, as
(cycle, channel of INPUT_A, channel of INPUT_B), newest first (R116). -/
structure SdmFilter where
  ch : SdmCh := {}
  hi : Bool := false
  lo : Bool := false
  hiRun : Nat := 0
  loRun : Nat := 0
  pairRun : Nat := 0
  spare : Option Nat := none
  beside : Nat := 0
  seen : List (Nat × Nat × Nat) := []
deriving DecidableEq, Repr

/-- The DC-link channels (R119 to R124): both results, runs of R121, what OV_LIM and UV_WARN were judged at the last
pair, per channel (A, B) whether OV_CHOP, OV_TRIP2, OV_TRIP3 and UV_TRIP stand crossed, and the latest values known of the
link, in mV: those of the hardware comparison and of the result pair. -/
structure DclSt where
  a : SdmCh := {}
  b : SdmCh := {}
  disRun : Nat := 0
  aRun : Nat := 0
  bRun : Nat := 0
  ovLim : Bool := false
  uvWarn : Bool := false
  crossA : BitVec 4 := 0#4
  crossB : BitVec 4 := 0#4
  nowA : Nat := 0
  nowB : Nat := 0
deriving DecidableEq, Repr

/-- A position interface (chapter 5) beyond its registers: filtered levels; the count that gives the angle and the one
that saturates (POS); stamps of successive edges or frames in one direction, newest first, as (position, CLK_CTL cycle);
direction and whether one is known; whether the Hall angle has reached its sector's end; live speed; whether values exist; the reasons
that hold VALID at 0, by code of STATUS.REASON; the recorded
reason and whether its episode lasts; Hall sector and code; wires in fault; the running frame and the last good one;
runs of the monitors; POS at the latest freeze (R153), at the checks of the freeze window, as (POS, CLK_CTL cycle), newest first, and the
cycle since which the torque port has exceeded FREEZE_TORQUE; the resolver. -/
structure PosCh where
  a : Bool := false
  b : Bool := false
  cnt : Int := 0
  pos : Int := 0
  stamps : List (Int × Nat) := []
  dirNeg : Bool := false
  dirSeen : Bool := false
  atEnd : Bool := false
  speed : Word := 0#32
  base : Bool := false
  homed : Bool := false
  bad : BitVec 10 := 0#10
  reason : Nat := 0
  satHi : Bool := false
  satLo : Bool := false
  sector : Nat := 0
  hall : Nat := 0
  wires : BitVec 4 := 0#4
  wireActive : BitVec 4 := 0#4
  illWin : Nat := 0
  frameRun : Bool := false
  frameAt : Nat := 0
  lastFrame : Option Nat := none
  tstamp : Nat := 0
  errRun : Nat := 0
  frzRef : Int := 0
  frz : List (Int × Nat) := []
  frzAt : Option Nat := none
  plausBad : Nat := 0
  plausOk : Nat := 0
  losRun : Nat := 0
  lotRun : Nat := 0
  excRun : Nat := 0
  amp : Rat := 0
  amp7 : Rat := 0
  loop : BitVec 16 := 0#16
  loopSeen : Bool := false
  rate : Rat := 0
deriving DecidableEq, Repr

/-- An input port as the fabric or a dispatch holds it (R174): value, status of its route, and whether it has one. -/
structure Port where
  val : Word := 0#32
  hasSeq : Bool := false
  seq : BitVec 16 := 0#16
  valid : Bool := true
  overload : Bool := false
  subst : Bool := false
  routed : Bool := false
deriving DecidableEq, Repr

/-- Flags of the Carve engine (R169, R163). -/
structure CarveFlags where
  lt : Bool := false
  eq : Bool := false
  gt : Bool := false
  un : Bool := false
  vld : Bool := false
  new : Bool := false
  sat : Bool := false
  pre : Bool := false
  fblost : Bool := false
  arith : Bool := false
deriving DecidableEq, Repr

/-- The Carve engine (chapter 6): registers V and S, flags, saturation masks, matrix base, matrix and program memory;
the running task with its program address, cycles, staged outputs and marks; triggers not yet ready, ready triggers in
order, the cycle at which each task's latest trigger becomes ready; the slots whose Slalom job waits or runs, in order of END (R192); held parameter writes; per port the value latched at the last dispatch (key 64 * slot + port), the SEQ latched at the previous dispatch of the
running task (same key; bit 16 = present) and at the latest dispatch of every task (key 256 * task + port); presets pending per task; Carve is released (R162): by the load of its memories, until a reset or a halt. -/
structure CarveSt where
  v : Vector (Vector Word 16) 32 := Vector.replicate 32 (Vector.replicate 16 0#32)
  s : Vector Word 64 := Vector.replicate 64 0#32
  fl : CarveFlags := {}
  sathi : Vector (BitVec 16) 32 := Vector.replicate 32 0#16
  satlo : Vector (BitVec 16) 32 := Vector.replicate 32 0#16
  mb : Nat := 0
  matrix : Cells 32 := []
  prog : List (BitVec 64) := []
  pc : Nat := 0
  cycles : Nat := 0
  running : Option (Fin 8) := none
  lastTask : Nat := 0
  staged : List (Nat × Word) := []
  nonfinite : Bool := false
  heldRun : Bool := false
  ipreWrote : Bool := false
  progSet : BitVec 8 := 0#8
  notReady : List (Fin 8) := []
  waiting : List (Fin 8) := []
  readyAt : Vector Nat 8 := Vector.replicate 8 0
  jobs : List (Fin 4) := []
  heldParams : List (Nat × Word) := []
  latched : List (Nat × Port) := []
  prevSeq : Cells 17 := []
  seqs : Cells 17 := []
  preset : Vector Bool 8 := Vector.replicate 8 false
  endedOk : Vector Bool 8 := Vector.replicate 8 false
  lastAt : Vector (Option Nat) 8 := Vector.replicate 8 none
  released : Bool := false
deriving DecidableEq, Repr

/-- A profile channel (R182 to R187) beyond its registers: rate, flags as they stand (a read of VALUE latches them),
hold command, whether the next step is the first (T = 0), and a step computed at a trigger and not yet written (R183). -/
structure Prof where
  r : Word := 0#32
  atTarget : Bool := false
  limited : Bool := false
  overshoot : Bool := false
  hold : Bool := false
  first : Bool := true
  step : Option (Word × Word) := none
deriving DecidableEq, Repr

/-- Modulation modes (R215). -/
inductive SlMode where
  | off | svm | overmod | schuss | block
deriving DecidableEq, Repr

/-- Code of a mode. -/
def SlMode.code : SlMode → Nat
  | .off => 0 | .svm => 1 | .overmod => 2 | .schuss => 3 | .block => 4

/-- A back-EMF result of a slot (R210): its CLK_CTL cycle, the square of the amplitude A in V², and θ_e unwrapped, in turns. -/
structure EmfPt where
  cycle : Nat
  amp2 : Rat
  theta : Rat
deriving DecidableEq, Repr

/-- The modulator of a slot (R190 to R212) beyond its registers: the mode and the count
of R202; whether the slot was modulated at the last job; the last valid link voltage; the SCHUSS angle of W0 in turns; the
last legal sector; whether IDLE has been written since the slot left the five states; the detector: running, the
values last written (a read of ROT_RESULT latches them), the CLK_CTL cycles of its window, whether a valid POS speed has reached
STILL_SPEED in it, and whether there was once none (R211); the latest back-EMF results, newest first (R210, R303); whether one
reached EMF_MIN since the lock started (R312). -/
structure SlalomSt where
  mode : SlMode := .off
  cnt : Nat := 0
  active : Bool := false
  idled : Bool := false
  vdc : Word := 0#32
  theta0 : Rat := 0
  sector : Nat := 0
  pattern : Nat := 0
  rotBusy : Bool := false
  rotSpeed : Word := 0#32
  rotAngle : Word := 0#32
  rotSpan : Nat := 0
  rotHigh : Bool := false
  rotLow : Bool := false
  emf : List EmfPt := []
  lockHigh : Bool := false
deriving DecidableEq, Repr

/-- One output of a leg between its reference and the interlock (R217 stages 1 to 3): reference level; dead time
running; level after dead time and minimum pulse; a stretched trailing edge running (R235); in taps of leg time, when the
running dead time ends and when the present on-pulse led (R234); of that pulse, the minimum in counts in force at its leading
edge, whether it was judged shorter there, and whether a transfer has come since (R235). -/
structure OutSt where
  ref : Bool := false
  dtRun : Bool := false
  on : Bool := false
  stretch : Bool := false
  due : Int := 0
  lead : Int := 0
  least : Nat := 0
  short : Bool := false
  moved : Bool := false
deriving DecidableEq, Repr

/-- What the trip network commands of a leg's outputs (R242). -/
inductive Pattern where
  | off | aOn | bOn
deriving DecidableEq, Repr

/-- The content of a commit as fixed at its deadline (R227): the mask of written shadows in COHERENT order, whether
IDLE is among them, the seven shadow words and the IDLE shadow. -/
structure Content where
  mask : BitVec 7 := 0#7
  idleW : Bool := false
  words : List Word := []
  idle : Bool := true
deriving DecidableEq, Repr

/-- A leg (chapter 8) beyond its registers; `time` counts its CLK_EDGE cycles, `ahead` of them past its counter's present value. -/
structure Leg where
  counting : Bool := false
  counter : Nat := 0
  down : Bool := false
  time : Nat := 0
  ahead : Nat := 0
  nextPeriod : Option Word := none
  written : BitVec 7 := 0#7
  writtenIdle : Bool := false
  armed : Option Nat := none
  fixed : Option Content := none
  following : Option Nat := none
  latePend : Bool := false
  followLate : Bool := false
  loadAll : Bool := false
  outA : OutSt := {}
  outB : OutSt := {}
  forced : Option Pattern := none
  forceWaitA : Bool := false
  forceWaitB : Bool := false
  forceOnA : Bool := false
  forceOnB : Bool := false
  liveA : Bool := false
  liveB : Bool := false
  presc : Vector Nat 6 := Vector.replicate 6 0
  episodes : Nat := 0
  hold : Option Pattern := none
deriving DecidableEq, Repr

/-- A trip input (R246 to R248): the filtered level of its contact, which is high while the contact is open (R58; DESIGN CHOICE at
power-on, log entry 72), blanking window open, the state on which it acts, and whether a shadow
injection's request has asserted; the state that the live input alone would have given it in a shadow window (R395). -/
structure TripIn where
  high : Bool := true
  blanked : Bool := false
  active : Bool := false
  injSeen : Bool := false
  shadowed : Bool := false
deriving DecidableEq, Repr

/-- A request on its way into the trip network (R240): a trip group, with whether its condition lasts. -/
structure TripReq where
  group : Nat
  grp : Nat
  bit : Nat
deriving DecidableEq, Repr

/-- The trip network (R240 to R245): asserted groups; the causes whose condition is present, as (group, bit); requests
not yet arrived; slot lines; the OV_TRIP2 line; the selected safe state per slot (SAFE.SEL); interlock pairs held off
(R236), by index in the course; slots under reset hold (R469); OV_TRIP2 as copied for a warm reset, in V (R468);
interlock pairs in an episode at the controller end of the links (R270); a SYNC accepted at GLOBAL.CMD and not issued yet (R224). -/
structure TripSt where
  asserted : BitVec 16 := 0#16
  present : List (Nat × Nat) := []
  reqs : List TripReq := []
  slotLines : BitVec 4 := 0#4
  ov : Bool := false
  sel : Vector Nat 4 := Vector.replicate 4 0
  held : List Nat := []
  resetHold : BitVec 4 := 0#4
  ovCopy : Option Nat := none
  heldLink : List Nat := []
  syncPending : Bool := false
deriving DecidableEq, Repr

/-- An injection (R388 to R396): the address of its INJ_STATUS register, its class, its target and index, and how
far its stimulus has run; 2 says that a LIVE one has acted, and is pending no more, while its stimulus lasts (R248). -/
structure Inj where
  ctrl : Nat
  live : Bool
  target : Nat
  index : Nat
  seen : Nat := 0
deriving DecidableEq, Repr

/-- The output stage of an edge channel (R278, R286): the three phases of a soft turn-off apart. -/
inductive EdgeOut where
  | off | on | soft1 | soft2 | soft3 | parked
deriving DecidableEq, Repr

/-- The wear record of a switch (R299 to R301, R434 to R436): the OP_TIME at which learning started; low-load values of
R_on within the last 24 h as (VNTC bin, OP_TIME, Ω), newest first; first-hours count and mean per bin; κ0 per bin and PWM
period. -/
structure Wear where
  learnFrom : Nat := 0
  low : List (Nat × Nat × Rat) := []
  low0 : List (Nat × Nat × Rat) := []
  kappa0 : List (Nat × Nat × Rat) := []
deriving DecidableEq, Repr

/-- An edge channel (chapters 9 and 10) beyond its registers: link state by its code in STATE.LINK; output stage; hold-off
latch, and a RELEASE on its way; domain supply; survivor of a degraded pair; protection latch; blanking window open; the
commanded gate state of the latest good downlink frame; SNS above OC and DS above DESAT now; supply, OT_TRIP, DIE_HOT and
OT_WARN conditions present; STO_TIME and STO_LEVEL as captured at the latest turn-on; thermal actions that wait for the
turn-off; actions on their way to the controller end, as (detail bit, soft turn-off); whether the turn-off has ended; the
acting channels that hold this one off at the controller end (R290); commanded off since a link loss (R264, R268); the
count of the CRC window; live measurements with SEQ; the next detector of a running SELFTEST; retraining by command; the
gate power of the last 100 updates; wear. -/
structure EdgeCh where
  link : Nat := 0
  out : EdgeOut := .off
  holdoff : Bool := false
  releaseDue : Bool := false
  powered : Bool := false
  single : Bool := false
  latch : Bool := false
  blank : Bool := false
  cmdOn : Bool := false
  ocOver : Bool := false
  dsOver : Bool := false
  supUv : Bool := false
  ot : Bool := false
  hot : Bool := false
  otw : Bool := false
  thermal : List Nat := []
  flags : List (Nat × Bool) := []
  ended : Bool := false
  heldBy : List Nat := []
  lost : Bool := false
  crcWin : Nat := 0
  meas : EdgeMeas := {}
  measSeq : BitVec 16 := 0#16
  selftest : Option Nat := none
  retrain : Bool := false
  pwr : List Nat := []
  wear : Wear := {}
  flips : Nat := 0
  prot0 : Word := 0x07D009C4#32
  prot1 : Word := 0x28612864#32
  prot2 : Word := 0x01F40258#32
  onStr : Nat := 7
  offStr : Nat := 7
deriving DecidableEq, Repr

/-- Slot states (R302). -/
inductive SlotState where
  | off | armed | probe | catching | run | glide | stopped | safe | charge | discharge
deriving DecidableEq, Repr

/-- Code of a slot state (R302). -/
def SlotState.code : SlotState → Nat
  | .off => 0 | .armed => 1 | .probe => 2 | .catching => 3 | .run => 4
  | .glide => 5 | .stopped => 6 | .safe => 7 | .charge => 8 | .discharge => 9

/-- STATE.REASON (R334). -/
inductive Reason where
  | none | host | f2 | f3 | f4 | reverse | obsLost | restart
deriving DecidableEq, Repr

/-- Code of a reason (R334). -/
def Reason.code : Reason → Nat
  | .none => 0 | .host => 1 | .f2 => 2 | .f3 => 3 | .f4 => 4 | .reverse => 5 | .obsLost => 6 | .restart => 7

/-- The ASC estimator of a slot (R313): the samples (CLK_CTL cycle, iα, iβ), newest first; θ_i of the latest estimate and the turn since the
latest full period ended, in turns; magnitude and speed of that period; how many successive periods have agreed. -/
structure AscSt where
  pts : List (Nat × Rat × Rat) := []
  last : Rat := 0
  acc : Rat := 0
  prev : Option (Rat × Rat) := none
  agree : Nat := 0
deriving DecidableEq, Repr

/-- A drive slot (chapter 11) beyond its registers. -/
structure Slot where
  state : SlotState := .off
  prev : SlotState := .off
  reason : Reason := .none
  stale : Bool := false
  nsrc : Nat := 0
  method : Nat := 0
  tries : Nat := 0
  above : Bool := true
  speed : Word := 0#32
  everSourced : Bool := false
  origin : SlotState := .off
  probeRes : Nat := 0
  unsure : Nat := 0
  formerReason : Reason := .none
  glideNext : Bool := false
  pendEntry : Option SlotState := none
  pendReason : Reason := .none
  episode : Bool := false
  restRun : Bool := false
  obsRun : Nat := 0
  obsDue : Bool := false
  lastSpd : Option (Word × Nat) := none
  curRun : Nat := 0
  lineRelease : Bool := false
  lineArmed : Bool := false
  estSpeed : Option Word := none
  estAngle : Word := 0#32
  asc : AscSt := {}
  stillDue : Bool := false
  ovHold : Bool := false
  dischPhase : Nat := 0
deriving DecidableEq, Repr

/-- The brake chopper (R323 to R325): request, the DC-link value at the pulse's start in mV, whether SNS crossed
CHOP_ISENSE in the pulse, whether the pulse awaits verification, whether CHOP_MIN_ON has passed, the friction request of
R327, whether a discharge holds the request of the FUNCTION 3 and 4 legs (R332). -/
structure ChopSt where
  req : Bool := false
  startMv : Nat := 0
  nowMv : Nat := 0
  sensed : Bool := false
  waiting : Bool := false
  friction : Bool := false
  dischReq : Bool := false
deriving DecidableEq, Repr

/-- Charging phases (R348). -/
inductive ChgPhase where
  | idle | closing | active | rampDown | opening
deriving DecidableEq, Repr

/-- Code of a charging phase. -/
def ChgPhase.code : ChgPhase → Nat
  | .idle => 0 | .closing => 1 | .active => 2 | .rampDown => 3 | .opening => 4

/-- Charging (chapter 12) beyond its registers: the phase; CTR_OUT driven low; the levels of the feedback and park-brake inputs after
their 1 ms, high while the contacts are open (R58; DESIGN CHOICE at power-on, log entry 72); SETTLE running; the samples of the source since the last rising zero crossing, as (cycle, v0, v1, v2); whether a
crossing has been seen and the sign of the last v0; the measured rms values (or the mean), frequency, sequence; the recorded
position; runs of R345 and R346, and whether the run of R345 has tripped; G as last formed; the reason that STOPPED will take. -/
structure ChgSt where
  phase : ChgPhase := .idle
  ctrLow : Bool := false
  fbHigh : Bool := true
  parkHigh : Bool := true
  settle : Bool := false
  win : List (Nat × Rat × Rat × Rat) := []
  crossed : Bool := false
  neg : Bool := false
  rms : List Word := []
  freq : Word := 0#32
  seqPos : Bool := false
  posRef : Int := 0
  invRun : Nat := 0
  ztgRun : Nat := 0
  ztgTripped : Bool := false
  guard : Word := 0#32
  stopReason : Reason := .none
deriving DecidableEq, Repr

/-- Triad (chapter 13) beyond its registers: seconds of the last lane faults per lane, newest first (R364); the lane that
stands as the spare (lane D at first, R363, R446); where the judge test rotation stands; whether the sweep has ended; lanes
whose report beyond repair is held (R357); whether the next epoch tests both judges out of rotation (R368); what the last
lane fault left for LAST1 and its time; judges whose next test verdict is inverted; the first mismatched write of the episode
was at point 0, 1 or 7; where the rotation of the lanes under test stands (R366); the word that the output voter delivered last (R355); a
WARM reset follows a DOUBLE. -/
structure TriadSt where
  times : List (List Nat) := [[], [], [], []]
  spare : Option Nat := some 3
  rot : Nat := 0
  sweepDone : Bool := false
  heldReports : List Nat := []
  retest : Bool := false
  lastIndex : Word := 0#32
  lastTime : Nat × Nat := (0, 0)
  invert : BitVec 3 := 0#3
  latentPoint : Bool := false
  turn : Nat := 0
  voted : Option CompareWord := none
  resetDue : Bool := false
deriving DecidableEq, Repr

/-- Patrol (chapter 14) beyond its registers: F4; the host's friction request; the watchdog armed, whether a kick has
been accepted since arming, and the root epoch of its deadline; the time of FIRST;
SUP_WDOG standing until its reset; settings that an escalation raised, as (group, bit, class). -/
structure PatrolSt where
  f4 : Bool := false
  hostFriction : Bool := false
  wdogArmed : Bool := false
  kicked : Bool := false
  deadline : Nat := 0
  firstTime : Nat × Nat := (0, 0)
  supDue : Bool := false
  raised : List (Nat × Nat × Nat) := []
deriving DecidableEq, Repr

/-- Where a sequence of the HKA stands (R403, R406, R416). -/
inductive SeqPhase where
  | idle | delay | pass | check
deriving DecidableEq, Repr

/-- A sequence (chapter 15) beyond its registers: where it stands, its entry, whether its pass carries a check, and whether
its core is powered (with PD = AUTO). -/
structure HkaSeq where
  phase : SeqPhase := .idle
  entry : Nat := 0
  check : Bool := false
  powered : Bool := false
deriving DecidableEq, Repr

/-- A completed window of a tracker (R412). -/
structure HkaWindow where
  sum : Nat
  count : Nat
  least : Nat
  most : Nat
  wseq : BitVec 16
deriving DecidableEq, Repr

/-- A tracker (R410 to R414): the running window, its sequence number, the completed window, the number that the last read
of SUM returned, and the latest completed window that is not empty. -/
structure HkaTrk where
  sum : Nat := 0
  count : Nat := 0
  least : Nat := 0
  most : Nat := 0
  wseq : BitVec 16 := 0#16
  full : Option HkaWindow := none
  seen : Option (BitVec 16) := none
  last : Option HkaWindow := none
deriving DecidableEq, Repr

/-- The spare core's bring-in (R417): the sequence it is assigned to and the core; whether it runs the passes yet, and how many it has run beside
the core that it replaces. -/
structure CoreBring where
  seq : Nat
  core : Nat
  on : Bool := false
  passes : Nat := 0
deriving DecidableEq, Repr

/-- The HKA beyond its registers: sequences and trackers, successive failed checks per core, the bring-in of the spare core; the sequences stopped for want of a
core (R417); the checks that the present LIVE injection has met (R419). -/
structure HkaSt where
  seqs : Vector HkaSeq 8 := Vector.replicate 8 {}
  trks : Vector HkaTrk 64 := Vector.replicate 64 {}
  fails : Vector Nat 9 := Vector.replicate 9 0
  bring : Option CoreBring := none
  dead : BitVec 8 := 0#8
  injChecks : Nat := 0
deriving DecidableEq, Repr

/-- The Probe task under way (R426, R430, R433). -/
inductive ProbeTask where
  | none | mid | cable | peers
deriving DecidableEq, Repr

/-- What an identification of a slot left (R427, R429), as it is latched by a read of STATUS: result code, valid PSI, RS,
LD, LQ, PSI, D_ANGLE. -/
structure MidRes where
  result : Nat := 0
  reason : Nat := 0
  psiValid : Bool := false
  rs : Word := 0#32
  ld : Word := 0#32
  lq : Word := 0#32
  psi : Word := 0#32
  dAngle : Word := 0#32
deriving DecidableEq, Repr

/-- Probe (chapter 16) beyond its registers: the running task, its slot and leg; the output of that leg which a cable test has turned on
(true: B); the position at the start of an identification; results per slot. -/
structure ProbeSt where
  task : ProbeTask := .none
  slot : Nat := 0
  leg : Nat := 0
  pulse : Option Bool := none
  posRef : Option (Fin 4 × Int) := none
  mid : Vector MidRes 4 := Vector.replicate 4 {}
deriving DecidableEq, Repr

/-- The Groomer record in the non-volatile store of Himet (R442): retired lanes and PLLs; filter indices that another filter than their own
serves, as (index, filter), and the faulty ones of the filters 0 to 51 (48 to 51 the spares of R444); faulty HKA cores (8 = HC8), and the sequences
that another core than their own serves, as (sequence, core); tiles served by spares; spare tiles found faulty,
as (lane, tile); SRAM rows and MRAM
sectors (bank, number) marked and remapped; faulty Ethernet ports; the seconds of operation; the wear of every channel, with the words that
GROOM.SW and GROOM.SWSTAT show of it; the edge channels that Groomer has parked; the target code of the block that halted the last
lift. -/
structure GroomRec where
  lanes : BitVec 4 := 0#4
  plls : BitVec 2 := 0#2
  filterUnit : List (Nat × Nat) := []
  badFilters : List Nat := []
  cores : List Nat := []
  seqCores : List (Nat × Nat) := []
  tiles : List TileSpare := []
  badTiles : List (Nat × Nat) := []
  rows : List Nat := []
  marked : List (Nat × Nat) := []
  sectors : List (Nat × Nat) := []
  ports : List Nat := []
  opTime : Nat := 0
  wear : List Wear := []
  figures : List (Word × Word) := []
  parked : List Nat := []
  lastFail : Nat := 0xFF
deriving DecidableEq, Repr

/-- What an on-demand test does with its target (R444): an idle unit tested in place, or a unit in use whose spare is being
brought in. -/
inductive BistKind where
  | idle | inUse | lane | returnLane
deriving DecidableEq, Repr

/-- An on-demand test under way (R444, R446): the target code and how it is handled. -/
structure BistRun where
  target : Nat
  kind : BistKind
deriving DecidableEq, Repr

/-- Groomer (chapter 16) beyond its registers: the record as it stands and as it is stored; switchovers caused by each PLL, as
(PLL, second), newest first; the PLL under test; the running on-demand test;
measurements of AUX_IN in the present second of operation; the filters
that wait for the bring-in of another to end (R441); the sequences that wait for the end of a core's test, a loss of the active PLL that waits
for the end of the other's, and a failed port that waits for the end of ETH2's (R445). -/
structure GroomSt where
  live : GroomRec := {}
  stored : GroomRec := {}
  switches : List (Nat × Nat) := []
  pllTest : Option Nat := none
  bist : Option BistRun := none
  ticks : Nat := 0
  filterWait : List Nat := []
  coreWait : List Nat := []
  pllWait : Bool := false
  ethWait : Bool := false
deriving DecidableEq, Repr

/-- An entry of the reset log (R461): sources, effective reach (0 POWER, 1 SYSTEM, 2 WARM), duration of the lift in 10 µs,
time of day at the first assertion. -/
structure ResetEntry where
  sources : BitVec 9
  reach : Nat
  lift : Nat
  timeS : Nat
  timeNs : Nat
deriving DecidableEq, Repr

/-- Resets (chapter 17) beyond their registers: the sources asserted now; the sources and the effective reach of the episode; the
time of day at its first assertion; the reset log, latest first; the lift waits in L2 for its conditions (R443); the lift that
follows is a warm swap (R467), and whether it activates (ACTIVATED) or returns to the PREVIOUS bank; the block held by a BLOCK
reset; the CRC-32 of the supervisor firmware's image as recorded at L3 (R467); the lift stage whose work on the contacts is done (R58):
0 from the assertion on, 4, 5 and 8 as the stages complete, W3 as 5 and W5 as 8. -/
structure RstSt where
  active : BitVec 9 := 0#9
  sources : BitVec 9 := 0#9
  reach : Nat := 0
  fromS : Nat := 0
  fromNs : Nat := 0
  log : List ResetEntry := []
  waitL2 : Bool := false
  swapLoad : Bool := false
  swapBack : Bool := false
  block : Option Nat := none
  image : Word := 0#32
  stage : Nat := 0
deriving DecidableEq, Repr

/-- The time reference (chapter 18) beyond its registers: the advance of the counter in the running epoch, in 2^-32 ns (R475); an instant
that SET loads at the next epoch start; a step of the servo due then, in 2^-16 ns; runs of measurements within 100 ns and beyond 1 µs; the last
16 rates, newest first; the stamp of the last accepted PPS_IN edge and the steps of the counter since, in 2^-32 ns, and whether the edge still
waits for its measurement (R478, R479); the measurements a TIME injection still withholds; the armed SYNC and the last one issued; the instant of
the SYNC that GRID delays, in 2^-32 ns (R486); the PPS_OUT contact; the SOURCE of the last lock, 0 before one (clockClass, R490). -/
structure TimeSt where
  advance : Int := 3000 * 2 ^ 32
  setAt : Option (Nat × Nat) := none
  step : Option Int := none
  near : Nat := 0
  far : Nat := 0
  rates : List Int := []
  ppsAt : Option Int := none
  ppsMove : Int := 0
  ppsDue : Bool := false
  ppsLost : Bool := true
  withhold : Nat := 0
  syncAt : Option (Nat × Nat) := none
  syncLast : Nat × Nat := (0, 0)
  gridAt : Option Int := none
  ppsOut : Bool := false
  lockedTo : Nat := 0
deriving DecidableEq, Repr

/-- What the latest BEACON of a neighbour says (R496, R497): the port, its sender, the master it names, HOPS, its parent, and the
beacon intervals since it came. -/
structure Beacon where
  port : Nat
  node : Nat
  masterId : Nat
  masterPrio : Nat
  hops : Nat
  parentId : Nat
  age : Nat := 0
deriving DecidableEq, Repr

/-- A record of a cycle (R503, R504); lowest 0xFFFF = none. -/
structure FolisRec where
  nodes : Nat := 0
  agree : Nat := 0
  disagree : Nat := 0
  lowest : Nat := 0xFFFF
  safe : Nat := 0
  f4 : Nat := 0
  staged : Nat := 0
  maxDepth : Nat := 0
deriving DecidableEq, Repr

/-- A peer's capability record (R433, R496). -/
structure Peer where
  node : Nat
  unit : Nat
  part : Nat
  letter : Nat
  digit : Nat
  fw : Nat
deriving DecidableEq, Repr

/-- The link delay measurement of a port (R501), in 2^-16 ns: SEQ of the request under way; the results that make the mean, newest
first; the discarded ones in a row. -/
structure DelaySt where
  seq : Nat := 0
  waiting : Bool := false
  good : List Int := []
  odd : List Int := []
deriving DecidableEq, Repr

/-- What the network sends: an own frame, a bridged frame with its traffic class (R492), both as bytes from the destination
address up to the check sequence, or a gPTP message. -/
inductive NetOut where
  | own (port : Nat) (bytes : List Byte)
  | bridged (port cls : Nat) (bytes : List Byte)
  | gptp (port : Nat) (kind : GptpKind)
deriving DecidableEq, Repr

/-- A bank of a gate control list (R492, R493); an entry beyond the list reads 0x000000FF. -/
structure GclBank where
  entries : List Word := []
  len : Nat := 0
  cycle : Nat := 1000000
  baseS : Nat := 0
  baseNs : Nat := 0
deriving DecidableEq, Repr

/-- The network (chapter 18) beyond its registers: what the latest network command sent; the ports whose
latest report fulfils a condition of R437; the bridge's address table as (address,
port, root epoch of the last frame), newest first; per port the active bank of the gate control list and the start instant of a
commit that waits for it; per port the best Announce vector held, and the grandmaster; the code of logSyncInterval in its Sync messages; per port
how far a peer delay exchange has come (1 request sent, 2 answered) and the peer delay in 2^-16 ns; the BEACONs of the last 3 beacon intervals,
newest first; the priority of the elected master and the NODE of the parent; masters out of the election, with the intervals left;
the number of the cycle held, own record of it, reports held per child port, and whether the cycle's report has been sent or
completed; the latest aggregate with its cycle; PERIOD in µs of the latest CYCLE frame, 0 before one; the active schedule as (SEC, NS) with its TARGET_FP, whether this master sends it,
whether it has armed this node, and the CANCEL frames still to send; link delays; peers. -/
structure NetSt where
  out : List NetOut := []
  portBad : BitVec 3 := 0#3
  table : List (BitVec 48 × Nat × Nat) := []
  active : Vector GclBank 3 := Vector.replicate 3 {}
  commits : Vector (Option (Nat × Nat)) 3 := Vector.replicate 3 none
  announce : Vector (Option GptpVec) 3 := Vector.replicate 3 none
  gm : Option (BitVec 64) := none
  syncLog : Option Nat := none
  pdelayStage : Vector Nat 3 := Vector.replicate 3 0
  peerDelay : Vector Int 3 := Vector.replicate 3 0
  beacons : List Beacon := []
  masterPrio : Nat := 255
  parentNode : Nat := 0xFFFF
  excluded : List (Nat × Nat) := []
  cycle : Option Nat := none
  own : FolisRec := {}
  held : List (Nat × FolisRec) := []
  closed : Bool := true
  agg : FolisRec := {}
  aggCycle : Nat := 0
  period : Nat := 0
  sched : Option (Nat × Nat) := none
  target : BitVec 256 := 0#256
  sending : Bool := false
  armedHere : Bool := false
  cancels : Nat := 0
  delays : Vector DelaySt 3 := Vector.replicate 3 {}
  peers : List Peer := []
deriving DecidableEq, Repr

/-- A stored received frame (R530), with a number of its own by which POP knows it (R531). -/
structure RxEntry where
  frame : CanFrame
  filter : Nat
  ns : Nat
  tag : Nat
deriving DecidableEq, Repr

/-- A CAN controller (chapter 19) beyond its registers: the stores FIFO0, FIFO1 and HPB, head first; the entry latched per
store; the last number given; whether CONFIG was entered from bus-off; aborts of active buffers, and of one selected; a status frame that waits
for the active one to end; the latest frame on the bus was this node's; the buffer selected at the start of a suspend (R523); the filters as at
the start of an own frame in loop-back, as (mask, identifier) (R517). -/
structure CanSt where
  stores : Vector (List RxEntry) 3 := Vector.replicate 3 []
  latched : Vector (Option Nat) 3 := Vector.replicate 3 none
  tags : Nat := 0
  fromBusOff : Bool := false
  abort : Vector Bool 3 := Vector.replicate 3 false
  statusDue : Option (List Byte) := none
  sent : Bool := false
  chosen : Option (Fin 3) := none
  filters : List (Word × Word) := []
deriving DecidableEq, Repr

/-- The records of Himet's store (R578): ownership, lock, the owner's key and its successor (empty = no key), course keys, counters
0 to 2, lifts since manufacture, and the record of a migrated parameter set: its digest and that of its source (R596). -/
structure HimetStore where
  owned : Bool := false
  locked : Bool := false
  owner : List Byte := []
  ownerNext : List Byte := []
  ckCur : Option (List Byte) := none
  ckPrev : Option (List Byte) := none
  ctr : Vector Word 3 := #v[0#32, 0#32, 0#32]
  lifts : Nat := 0
  migrated : Option (BitVec 256 × BitVec 256) := none
deriving DecidableEq, Repr

/-- The operation that Himet runs (R562): the verification of a token as the mailbox held it, or the signature of a report. -/
inductive HimetOp where
  | auth (token : List Byte)
  | attest (body : List Byte)
deriving DecidableEq, Repr

/-- Himet (chapter 21) beyond its registers: the store; a valid nonce stands in NONCE; the running operation; open sessions as (root
epoch at which it opened, seconds); the level of a debug session, which outlasts the resets of level 2; a reset waits for the slots
(R578); the source output withheld (R580). -/
structure HimetSt where
  store : HimetStore := {}
  nonce : Bool := false
  op : Option HimetOp := none
  test : Option (Nat × Nat) := none
  debug : Option (Nat × Nat) := none
  level : Nat := 0
  resetDue : Bool := false
deriving DecidableEq, Repr

/-- A bank of MRAM (R583): the images it holds; the parameter set that its firmware has migrated the source to, once it has been
written (R596). -/
structure Bank where
  firmware : List Byte := []
  course : List Byte := []
  params : List Byte := []
  migrated : Option (List Byte) := none
deriving DecidableEq, Repr

/-- A staging under way (R591): the bundle's bytes received so far, header and directory first. -/
structure Staging where
  data : List Byte
deriving DecidableEq, Repr

/-- A response on the service port (R585): OP, STATUS, TAG, OFFSET and payload. -/
structure SvcResponse where
  op : Nat := 0
  status : Nat := 0
  tag : BitVec 16 := 0#16
  offset : Nat := 0
  payload : List Byte := []
deriving DecidableEq, Repr

/-- Updating (chapter 22) beyond its registers: the banks; the staging; the armed instant, and whether the activation is
postponed; whether the swap under way returns to the PREVIOUS bank; the record of Himet: states of the banks, the running one,
STARTS; lifts of the TRIAL bank since its last successful start; the present lift has met R597 apart from its 60 s, and no F4 has
come since; a rollback that waits for the slots; MIGRATE_FAIL; a migrated set in force that is not written yet; the parameter
set of the running bank has failed its verification at L5; the last response. -/
structure SvcSt where
  banks : Vector Bank 2 := Vector.replicate 2 {}
  staging : Option Staging := none
  armed : Option (Nat × Nat) := none
  postponed : Bool := false
  swapBack : Bool := false
  states : Vector Nat 2 := #v[4, 0]
  running : Fin 2 := 0
  starts : Nat := 0
  trialLifts : Nat := 0
  liftOk : Bool := false
  clean : Bool := false
  rollbackDue : Bool := false
  migrateFail : Bool := false
  migrated : List Byte := []
  paramBad : Bool := false
  response : Option SvcResponse := none
deriving DecidableEq, Repr

/-- Reasons for which a command stops with a fault. -/
inductive Fault where
  /-- Raised by no meaning of this model: every command answers a next state or a refusal. Safe. -/
  | none
deriving DecidableEq, Repr

/-- Reasons for which a command is refused. -/
inductive Refusal where
  /-- The command has no meaning yet (raised by the dispatcher alone); safe: nothing follows from it. -/
  | notModelled (mnemonic : String)
deriving DecidableEq, Repr

/-- The time-of-day counter (R474): seconds (48 bits), nanoseconds below 10^9 and a fraction in 2^-32 ns. -/
structure Tod where
  sec : Nat := 0
  ns : Nat := 0
  frac : Nat := 0
deriving DecidableEq, Repr

/-- The module. `regs` holds every register of the register tables whose value is stored (an unlisted address reads as its
reset value); registers whose value follows from other state are computed at the read (Ops, `readWord`). The other fields
hold what the spec gives the machine beyond its registers. `pending` is the queue of commands, `freeCount` the model's own
counter of free values. -/
structure State where
  pending : List Instr := []
  regs : Cells 32 := []
  shadowMarks : Cells 32 := []
  liveMarks : Cells 32 := []
  toClassify : List Setting := []
  life : Life := .noSupply
  freeCount : Nat := 0
  tod : Tod := {}
  host : HostSt := {}
  course : Course := {}
  clk : ClkSt := {}
  piste : PisteSt := {}
  legs : Vector Leg 32 := Vector.replicate 32 {}
  tripIns : Vector TripIn 16 := Vector.replicate 16 {}
  trip : TripSt := {}
  injs : List Inj := []
  slots : Vector Slot 4 := Vector.replicate 4 {}
  chop : ChopSt := {}
  hkaEvents : List Nat := []
  taskPresc : Vector Nat 8 := Vector.replicate 8 0
  taskDelays : List Nat := []
  carve : CarveSt := {}
  ports : List (Nat × Port) := []
  prof : Vector Prof 4 := Vector.replicate 4 {}
  slalom : Vector SlalomSt 4 := Vector.replicate 4 {}
  sdm : Vector SdmFilter 48 := Vector.replicate 48 {}
  phv : Vector SdmCh 12 := Vector.replicate 12 {}
  dcl : DclSt := {}
  pos : Vector PosCh 4 := Vector.replicate 4 {}
  chg : ChgSt := {}
  triad : TriadSt := {}
  patrol : PatrolSt := {}
  swapping : Bool := false
  edges : Vector EdgeCh 64 := Vector.replicate 64 {}
  can : Vector CanSt 2 := Vector.replicate 2 {}
  probe : ProbeSt := {}
  supply : SupplySt := {}
  groom : GroomSt := {}
  time : TimeSt := {}
  svc : SvcSt := {}
  hka : HkaSt := {}
  rst : RstSt := {}
  net : NetSt := {}
  himet : HimetSt := {}
deriving DecidableEq, Repr

/-- The module before power: registers at their reset values, nothing stored, no command waiting (R7, R8, R49). -/
def State.reset : State := {}


end Sys2Proof.Machine
end

