-- ==== Sys2Proof/Machine/Ops.lean ====
section
/-! DEFINITION. The named operations over the module's registers, causes, commands' status and injections. -/

namespace Sys2Proof.Machine

/-- The block of an address (R3, R33). -/
def blockOf (a : Nat) : Nat := (a - 0x40000000) / 0x10000

/-- Whether a row of the register map lies at an address. -/
def rowHit (a : Nat) (r : FRow) : Bool :=
  decide (r.base ≤ a) && decide ((a - r.base) / r.s1 < r.c1) &&
    decide ((a - r.base) % r.s1 % r.s2 = 0) && decide ((a - r.base) % r.s1 / r.s2 < r.c2)

/-- The fields implemented at an address; none at an address without a register (R34). -/
def rowsAt (a : Nat) : List FRow :=
  if 0x40000000 ≤ a then (RegMap.rowsOfBlock (blockOf a)).filter (rowHit a) else []

/-- The reset value of the register at an address: what it reads as while nothing else is stored (R8). -/
def resetOf (a : Nat) : Word :=
  (rowsAt a).foldl (fun w r => w ||| (BitVec.ofNat 32 r.reset <<< r.lsb)) 0#32

/-- The stored value of the register at an address. -/
def State.rd (s : State) (a : Nat) : Word := cellGet resetOf s.regs a

/-- Store a register value. -/
def State.wr (s : State) (a : Nat) (x : Word) : State := { s with regs := cellSet resetOf s.regs a x }

/-- The mask of a field. -/
def fieldMask (lsb width : Nat) : Word := BitVec.ofNat 32 (2 ^ width - 1) <<< lsb

/-- A word with one field replaced; the value's higher bits are dropped. -/
def setBits (w : Word) (lsb width v : Nat) : Word :=
  (w &&& ~~~(fieldMask lsb width)) ||| ((BitVec.ofNat 32 v <<< lsb) &&& fieldMask lsb width)

/-- Bits of a word as a number. -/
def getBits (w : Word) (lsb width : Nat) : Nat := w.toNat / 2 ^ lsb % 2 ^ width

/-- The value of a stored field. -/
def State.get (s : State) (f : Fld) : Nat := getBits (s.rd f.addr) f.lsb f.width

/-- A stored field as a flag. -/
def State.flag (s : State) (f : Fld) : Bool := decide (s.get f ≠ 0)

/-- Store a field, leaving the other bits of its register. -/
def State.put (s : State) (f : Fld) (v : Nat) : State := s.wr f.addr (setBits (s.rd f.addr) f.lsb f.width v)

/-- Count one more in a field that saturates. -/
def State.bump (s : State) (f : Fld) : State := s.put f (min (s.get f + 1) (2 ^ f.width - 1))

/-- Count one more in a field that wraps. -/
def State.bumpWrap (s : State) (f : Fld) : State := s.put f ((s.get f + 1) % 2 ^ f.width)

/-- 1 for true, 0 for false. -/
def b2n (b : Bool) : Nat := if b then 1 else 0

/-- A fresh free value; the counter moves on, so that no two uses share one. -/
def State.fresh (s : State) : BitVec 64 × State :=
  (Config.freeValue s.freeCount, { s with freeCount := s.freeCount + 1 })

/-- A cause: group and bit of the interrupt tree (R549). -/
structure Cause where
  grp : Nat
  bit : Nat
deriving DecidableEq, Repr

/-- The CAUSE word of a group. -/
def State.causeWord (s : State) (g : Nat) : Word := s.rd (Reg.INT.GRP.CAUSE.addr g)

/-- Whether a cause bit is set. -/
def State.causeSet (s : State) (c : Cause) : Bool := (s.causeWord c.grp).getLsbD c.bit

/-- The shadow marks of a group (R391). -/
def State.shadowWord (s : State) (g : Nat) : Word := cellGet (fun _ => 0#32) s.shadowMarks g
/-- The live marks of a group (R392). -/
def State.liveWord (s : State) (g : Nat) : Word := cellGet (fun _ => 0#32) s.liveMarks g

/-- Whether a cause stands with a shadow mark. -/
def State.shadowed (s : State) (c : Cause) : Bool := (s.shadowWord c.grp).getLsbD c.bit

/-- Set or clear one bit of a word. -/
def bitTo (w : Word) (b : Nat) (v : Bool) : Word := if v then w ||| (1#32 <<< b) else w &&& ~~~(1#32 <<< b)

/-- Set the shadow mark word of a group. -/
def State.setShadow (s : State) (g : Nat) (w : Word) : State :=
  { s with shadowMarks := cellSet (fun _ => 0#32) s.shadowMarks g w }
/-- Set the live mark word of a group. -/
def State.setLive (s : State) (g : Nat) (w : Word) : State :=
  { s with liveMarks := cellSet (fun _ => 0#32) s.liveMarks g w }

/-- PEND of a group (R549). -/
def State.pendWord (s : State) (g : Nat) : Word := s.causeWord g &&& s.rd (Reg.INT.GRP.ENABLE.addr g)

/-- Whether any group is pending (R549). -/
def State.anyPend (s : State) : Bool := (List.range 48).any (fun g => s.pendWord g ≠ 0#32)

/-- IRQ_N asserted (R549, R551, R464): released during every reset, and for 1.0 µs in EDGE mode. -/
def State.irqAsserted (s : State) : Bool :=
  decide (s.life = .run) && s.flag Reg.INT.CTRL.IRQ_EN && s.anyPend && !s.host.irqReleased

/-- After `s0` became `s`: in EDGE mode a PEND bit of group g that went from 0 to 1 while IRQ_N was asserted releases
IRQ_N for 1.0 µs (R551). -/
def State.irqEdge (s0 s : State) (g : Nat) : State :=
  if s.flag Reg.INT.CTRL.EDGE && s0.irqAsserted && (s.pendWord g &&& ~~~(s0.pendWord g)) ≠ 0#32 then
    { s with host := { s.host with irqReleased := true } }
  else s

/-- A block sets a cause (R374, R391, R392, R550): the bit is set, its marks follow the setting, and the setting goes to
Patrol. A shadow setting of a bit that already stands without a shadow mark leaves the bit's standing as it is. -/
def State.setCauseM (s : State) (c : Cause) (m : Mark) : State :=
  let real := s.causeSet c && !s.shadowed c
  let s1 := s.put ⟨Reg.INT.GRP.CAUSE.addr c.grp, c.bit, 1⟩ 1
  let s2 := match m with
    | .real => s1.setShadow c.grp (bitTo (s1.shadowWord c.grp) c.bit false)
    | .shadow => if real then s1 else s1.setShadow c.grp (bitTo (s1.shadowWord c.grp) c.bit true)
    | .live => (s1.setShadow c.grp (bitTo (s1.shadowWord c.grp) c.bit false)).setLive c.grp
        (bitTo (s1.liveWord c.grp) c.bit true)
  { State.irqEdge s s2 c.grp with toClassify := s2.toClassify ++ [⟨c.grp, c.bit, m⟩] }

/-- A detector sets a cause. -/
def State.setCause (s : State) (c : Cause) : State := s.setCauseM c .real

/-- The FAULTGROUP entry of a cause (R76). DESIGN CHOICE (log entry 85): of two entries for one cause the first holds. -/
def State.faultRec (s : State) (c : Cause) : Option FaultRec :=
  s.course.faults.find? (fun e => e.grp == c.grp && e.bit == c.bit)

/-- A cause without a lasting condition presents its request for one CLK_CTL cycle (R240). -/
def State.pulseTrip (s : State) (c : Cause) : State :=
  match s.faultRec c with
  | some e => if e.trip < 16 then { s with trip := { s.trip with reqs := s.trip.reqs ++ [⟨e.trip, c.grp, c.bit⟩] } } else s
  | none => s

/-- A detector without a lasting condition sets its cause and presents its trip request (R240). -/
def State.raise (s : State) (c : Cause) : State := (s.setCause c).pulseTrip c

/-- The setting of a cause without a lasting condition, with its mark (R391, R392): a shadow setting presents no request. -/
def State.raiseM (s : State) (c : Cause) (m : Mark) : State :=
  match m with
  | .real => s.raise c
  | .live => (s.setCauseM c .live).pulseTrip c
  | .shadow => s.setCauseM c .shadow

/-- Set a cause when a condition holds. -/
def State.setIf (s : State) (b : Bool) (c : Cause) : State := if b then s.raise c else s

/-- Status codes of R386. -/
abbrev codeOk : Nat := 0x01
/-- STATE_DENIED (R386). -/
abbrev codeDenied : Nat := 0x02
/-- BLOCK_BUSY (R386). -/
abbrev codeBlockBusy : Nat := 0x03
/-- PENDING (R386). -/
abbrev codePending : Nat := 0x04
/-- PASS (R386). -/
abbrev codePass : Nat := 0x05
/-- FAIL (R386). -/
abbrev codeFail : Nat := 0x06
/-- ACTED (R386). -/
abbrev codeActed : Nat := 0x07
/-- TIMEOUT (R386). -/
abbrev codeTimeout : Nat := 0x08
/-- ABORTED (R386). -/
abbrev codeAborted : Nat := 0x09

/-- Store the CODE of a status register (bits [7:0]). -/
def State.status (s : State) (addr code : Nat) : State := s.put ⟨addr, 0, 8⟩ code

/-- A command is refused by its state guard (R14 step 3, R387): the status code and the block's refusal cause, nothing
else. -/
def State.deny (s : State) (addr : Nat) (c : Cause) : State := (s.status addr codeDenied).raise c

/-- A slot of the module. -/
def State.slot (s : State) (i : Fin 4) : Slot := s.slots[i]
/-- Replace a slot's record. -/
def State.setSlot (s : State) (i : Fin 4) (x : Slot) : State := { s with slots := s.slots.set i x }
/-- A leg of the module. -/
def State.leg (s : State) (i : Fin 32) : Leg := s.legs[i]
/-- Replace a leg's record. -/
def State.setLeg (s : State) (i : Fin 32) (x : Leg) : State := { s with legs := s.legs.set i x }

/-- OFF or STOPPED. -/
def SlotState.resting : SlotState → Bool
  | .off => true
  | .stopped => true
  | _ => false

/-- Every slot OFF or STOPPED. -/
def State.allResting (s : State) : Bool := s.slots.toList.all (fun x => x.state.resting)

/-- The slot records of the course. -/
def State.slotRec (s : State) (i : Nat) : SlotRec := s.course.slots.getD i {}
/-- The leg records of the course. -/
def State.legRec (s : State) (i : Nat) : LegRec := s.course.legs.getD i {}
/-- The channel records of the course. -/
def State.chanRec (s : State) (i : Nat) : ChanRec := s.course.chans.getD i {}
/-- The SAFESTATE records of the course. -/
def State.safeRec (s : State) (i : Nat) : SafeRec := s.course.safe.getD i {}
/-- The SCHEDULE records of the course. -/
def State.taskRec (s : State) (i : Nat) : TaskRec := s.course.tasks.getD i {}
/-- Course ACTIVE (R96). -/
def State.courseActive (s : State) : Bool := decide (s.get Reg.PISTE.STATUS.STATE = 3)

/-- A Himet test session is open (R389, R571). -/
def State.testOpen (s : State) : Bool := s.flag Reg.HIMET.STATUS.TEST

/-- A LIVE injection is busy (R390): pending, or its setting not yet reacted to. -/
def State.liveBusy (s : State) : Bool :=
  s.injs.any (fun i => i.live && decide (i.seen ≠ 2)) || s.toClassify.any (fun c => decide (c.mark = .live))

/-- What R389 asks of every LIVE injection. -/
def State.liveAllowed (s : State) : Bool := s.allResting && s.testOpen && !s.liveBusy

/-- The pending injection of a control, by its INJ_STATUS address. -/
def State.injAt (s : State) (ctrl : Nat) : Option Inj := s.injs.find? (fun i => i.ctrl == ctrl)

/-- INJ_DONE and INJ_ABORTED causes: those of PATROL and of the blocks that have one (R396). -/
def injDoneCause (ctrl : Nat) : Option Cause :=
  match blockOf ctrl with
  | 5 => some ⟨0, 9⟩
  | 7 => some ⟨5, 13⟩
  | 8 => some ⟨6, 15⟩
  | 13 => some ⟨23, 23⟩
  | 19 => some ⟨38, 16⟩
  | 20 => some ⟨39, 16⟩
  | 23 => some ⟨44, 13⟩
  | _ => none

/-- An injection is accepted: PENDING (R396). -/
def State.injStart (s : State) (i : Inj) : State :=
  { s.status i.ctrl codePending with injs := s.injs.filter (fun j => j.ctrl != i.ctrl) ++ [i] }

/-- An injection of a control ends with a result (R396): the status, and INJ_DONE of the block that has it. -/
def State.injEnd (s : State) (ctrl code : Nat) : State :=
  let s1 := { s.status ctrl code with injs := s.injs.filter (fun i => i.ctrl != ctrl) }
  match injDoneCause ctrl with
  | some c => s1.raise c
  | none => s1

/-- The acceptance of an injection written to a control (R387 to R389): classes 0 and 3 change nothing; one pending per
control; the detector must be enabled; LIVE needs R389 and what its control adds. `start` is the accepted injection. -/
def State.inject (s : State) (ctrl cls : Nat) (denied : Cause) (enabled liveOk : Bool) (target index : Nat)
    (start : State → Bool → State) : State :=
  if cls = 1 ∨ cls = 2 then
    let live := decide (cls = 2)
    if (s.injAt ctrl).any (fun j => decide (j.seen ≠ 2)) || !enabled || (live && !(s.liveAllowed && liveOk)) then s.deny ctrl denied
    else start (s.injStart ⟨ctrl, live, target, index, 0⟩) live
  else s

/-- Every pending LIVE injection is withdrawn when the test session closes (R393, R396): no judge's verdict is inverted any more (R371). -/
def State.abortLive (s : State) : State :=
  let gone := s.injs.filter (fun i => i.live && decide (i.seen ≠ 2))
  let t := gone.foldl
    (fun t i => ({ t.status i.ctrl codeAborted with injs := t.injs.filter (fun j => j.ctrl != i.ctrl) }).raise ⟨0, 10⟩) s
  if gone.any (fun i => i.ctrl == Reg.TRIAD.INJ_STATUS.addr) then { t with triad := { t.triad with invert := 0#3 } } else t

/-- The mark of a setting made by an injection of the given class. -/
def injMark (live : Bool) : Mark := if live then .live else .shadow

/-- A SHADOW injection of Patrol has its window open at a detector: target and index of R394. -/
def State.windowAt (s : State) (target index : Nat) : Bool :=
  match s.injAt Reg.PATROL.INJ_STATUS.addr with
  | some i => !i.live && decide (i.target = target) && decide (i.index = index)
  | none => false

/-- Note whether the live input of the detector under a SHADOW window stands asserted (R395). -/
def State.noteSeen (s : State) (v : Nat) : State :=
  { s with injs := s.injs.map (fun i => if i.ctrl = Reg.PATROL.INJ_STATUS.addr then { i with seen := v } else i) }

/-- A detector acts on its live input; inside a SHADOW window of its own the action waits for the window's end (R395). -/
def State.heldAct (s : State) (target index : Nat) (act : State → State) : State :=
  if s.windowAt target index then s.noteSeen 1 else act s

/-- The live input of a detector releases: nothing waits for the end of its window any more (R395). -/
def State.heldEnd (s : State) (target index : Nat) : State :=
  if s.windowAt target index then s.noteSeen 0 else s

/-- The counter in 2^-32 ns. -/
def Tod.units (t : Tod) : Int := ((t.sec * 1000000000 + t.ns) * 2 ^ 32 + t.frac : Nat)

/-- The counter from 2^-32 ns; it wraps at 2^48 s (R474). -/
def todOf (u : Int) : Tod :=
  let v := (u % ((2 ^ 48 * 1000000000 * 2 ^ 32 : Nat) : Int)).toNat
  { sec := v / 2 ^ 32 / 1000000000, ns := v / 2 ^ 32 % 1000000000, frac := v % 2 ^ 32 }

/-- The module has come to CLK_EDGE cycle c of the running epoch. DESIGN CHOICE (log entry 98): a cycle before the latest one shown counts as that
one, so that no reading of the counter decreases within an epoch (R474). -/
def State.edgeTo (s : State) (c : Nat) : State :=
  if s.clk.rootRuns then { s with clk := { s.clk with edge := max s.clk.edge (min c 4499) } } else s

/-- The counter now, in 2^-32 ns: the advance of the epoch is spread evenly over its 4,500 CLK_EDGE cycles (R475). -/
def State.todUnits (s : State) : Int := s.tod.units + s.time.advance * (s.clk.edge : Int) / 4500

/-- An unstated CLK_EDGE cycle of the running epoch, not before the latest one shown, at which a command takes effect (log entry 98). -/
def State.edgeNow (s : State) : State :=
  let (v, s1) := s.fresh
  s1.edgeTo (s1.clk.edge + v.toNat % (4500 - s1.clk.edge))

/-- The time of day at that cycle (R474, R475). -/
def State.now (s : State) : (Nat × Nat) × State :=
  let s1 := s.edgeNow
  let t := todOf s1.todUnits
  ((t.sec, t.ns), s1)

/-- The CLK_CTL cycle at that cycle, of 720 in an epoch (R18, R23). -/
def State.ctlNow (s : State) : Nat × State :=
  let s1 := s.edgeNow
  (s1.clk.epochs * 720 + s1.clk.edge * 4 / 25, s1)

/-- Replace an element of a list by index. -/
def listSet {α : Type} : List α → Nat → α → List α
  | [], _, _ => []
  | _ :: t, 0, x => x :: t
  | h :: t, n + 1, x => h :: listSet t n x

/-- A copy of an incoming value differed from the median, which the lanes take (R351, R352). -/
def State.agreeFix (s : State) (differs : Bool) : State :=
  if differs then (s.bump Reg.TRIAD.COUNTS1.AGREE_FIX).raise ⟨4, 13⟩ else s

/-- A signed value of a w-bit field. -/
def signedOf (w v : Nat) : Int := if v < 2 ^ (w - 1) then (v : Int) else (v : Int) - (2 ^ w : Nat)

/-- The w-bit code of a signed value, modulo 2^w. -/
def codeOf (w : Nat) (v : Int) : Nat := (v % (2 ^ w : Nat)).toNat

/-- The element of a register array that lies at an address: base, distance and number of elements. -/
def elemOf (a base dist n : Nat) : Option Nat :=
  if base ≤ a ∧ (a - base) % dist = 0 ∧ (a - base) / dist < n then some ((a - base) / dist) else none

end Sys2Proof.Machine
end

