-- ==== Sys2Proof/Machine/Trip.lean ====
section
/-! DEFINITION. The trip network and the stages of a leg output behind the reference (R217, R232 to R245). -/

namespace Sys2Proof.Machine

/-- TRIP.SAFE[s].EFFECTIVE from a chosen state and the failed sides (R243, R75): 0 FREE, 1 ASC_LOW, 2 ASC_HIGH. -/
def effectiveOf (failside : Nat) (slot sel : Nat) : Nat :=
  let low := decide (failside / 2 ^ (2 * slot) % 2 = 1)
  let high := decide (failside / 2 ^ (2 * slot + 1) % 2 = 1)
  if low && high then 0 else if low then 2 else if high then 1 else sel

/-- EFFECTIVE of a slot's SEL. -/
def State.effective (s : State) (slot : Fin 4) : Nat :=
  effectiveOf (s.get Reg.PWM.TRIP.FAILSIDE.SIDES) slot.val s.trip.sel[slot]

/-- The outputs that a safe state commands of a leg by its POSITION (R242). -/
def patternOf (position st : Nat) : Pattern :=
  if position = 3 then .off
  else if st = 2 then .aOn
  else if st = 1 then .bOn
  else .off

/-- A trip group that holds the leg is asserted (R240, R241). -/
def State.groupHolds (s : State) (n : Nat) : Bool :=
  (List.range 16).any (fun g => s.trip.asserted.getLsbD g && (s.course.tgMasks.getD g 0#32).getLsbD n)

/-- What the trip network asks of a leg now (R241): by its TRIP field, and the pattern of a reset hold (R469). -/
def State.legRequest (s : State) (n : Fin 32) : Option Pattern :=
  let r := s.legRec n.val
  let line := decide (r.slot < 4) && s.trip.slotLines.getLsbD r.slot
  let grp := s.groupHolds n.val
  if r.slot < 4 ∧ s.trip.resetHold.getLsbD r.slot = true ∧ (s.leg n).hold.isSome then (s.leg n).hold
  else match r.trip with
    | 2 => if grp then some .off else none
    | 1 => if grp || line || s.trip.ov then some .off else none
    | _ =>
      if s.trip.ov then
        some (patternOf r.position
          (effectiveOf (s.get Reg.PWM.TRIP.FAILSIDE.SIDES) r.slot (s.safeRec r.slot).above))
      else if grp || line then some (patternOf r.position (s.effective (Fin.ofNat 4 r.slot)))
      else none

/-- The command of output A or B behind trip forcing (R217 stage 4). -/
def Leg.commandedA (l : Leg) : Bool :=
  match l.forced with
  | none => l.outA.on
  | some p => decide (p = .aOn) && l.forceOnA
/-- See `Leg.commandedA`. -/
def Leg.commandedB (l : Leg) : Bool :=
  match l.forced with
  | none => l.outB.on
  | some p => decide (p = .bOn) && l.forceOnB

/-- The command of a leg output: output 0 = A, 1 = B. -/
def State.commanded (s : State) (n out : Nat) : Bool :=
  let l := s.leg (Fin.ofNat 32 n)
  if out = 0 then l.commandedA else l.commandedB

/-- Both outputs of an interlock pair are commanded on (R236). -/
def State.overlap (s : State) (p : Interlock) : Bool := s.commanded p.legX p.outX && s.commanded p.legY p.outY

/-- An output is held off by an interlock pair. -/
def State.heldOff (s : State) (n out : Nat) : Bool :=
  s.trip.held.any (fun k => match s.course.interlocks[k]? with
    | some p => (decide (p.legX = n) && decide (p.outX = out)) || (decide (p.legY = n) && decide (p.outY = out))
    | none => false)

/-- Interlock episodes begin on every pair that overlaps and is not held yet (R236): the pair is held off, STATS.INTERLOCK
of LEG_X and its window count go up. -/
def State.ilockEpisodes (s : State) : State :=
  (List.range s.course.interlocks.length).foldl (fun t k =>
    match t.course.interlocks[k]? with
    | none => t
    | some p =>
      if t.overlap p && !(t.trip.held.contains k) then
        let n := Fin.ofNat 32 p.legX
        let l := t.leg n
        (({ t with trip := { t.trip with held := t.trip.held ++ [k] } }).setLeg n { l with episodes := l.episodes + 1 }).bump
          (Reg.PWM.LEG.STATS.INTERLOCK n.val)
      else t) s

/-- A trip input whose blanking watches an edge of the output opens its window (R247); one of 0 cycles is none. -/
def State.openBlank (s : State) (n : Nat) (edgeA edgeB : Bool) : State :=
  if edgeA || edgeB then
    { s with tripIns := Vector.ofFn (fun i : Fin 16 =>
        let t := s.tripIns[i]
        let src := s.get (Reg.PWM.TRIPIN.CFG.BLANK_SRC i.val)
        if decide (s.get (Reg.PWM.TRIPIN.CFG.BLANK_LEG i.val) = n) && decide (s.get (Reg.PWM.TRIPIN.CFG.BLANK_TIME i.val) ≠ 0) &&
            ((edgeA && decide (src % 2 = 1)) || (edgeB && decide (2 ≤ src))) then { t with blanked := true } else t) }
  else s

/-- The live outputs of every leg follow the commands through the interlock (R217 stage 5), and every output edge opens
the blanking windows that watch it. -/
def State.settle (s0 : State) : State :=
  let s := s0.ilockEpisodes
  (List.finRange 32).foldl (fun t n =>
    let l := t.leg n
    let a := l.commandedA && !t.heldOff n.val 0
    let b := l.commandedB && !t.heldOff n.val 1
    (t.setLeg n { l with liveA := a, liveB := b }).openBlank n.val (a != l.liveA) (b != l.liveB)) s

/-- A leg comes under a forced pattern (R242, R244): outputs to be off are off at once, an output to be on that is on
stays on, another waits for its partner's off-time. -/
def Leg.force (l : Leg) (p : Pattern) : Leg :=
  { l with
    forced := some p
    forceOnA := decide (p = .aOn) && l.liveA
    forceWaitA := decide (p = .aOn) && !l.liveA
    forceOnB := decide (p = .bOn) && l.liveB
    forceWaitB := decide (p = .bOn) && !l.liveB }

/-- The dead time of an output in counts, from the active DT (R234). -/
def State.deadTime (s : State) (n : Nat) (outB : Bool) : Nat := getBits (s.rd (Reg.PWM.LEG.ACT.addr n 5)) (if outB then 16 else 0) 16

/-- A leg leaves forcing and resumes its latest transfer (R245); an output that turns on then gets its dead time, `dtA` or `dtB`. -/
def Leg.leave (l : Leg) (dtA dtB : Nat) : Leg :=
  let re (o : OutSt) (live : Bool) (dt : Nat) : OutSt :=
    if o.on && !live && decide (dt ≠ 0) then { o with on := false, dtRun := true, due := (l.time + dt) * 32 } else o
  { l with
    forced := none, forceOnA := false, forceWaitA := false, forceOnB := false, forceWaitB := false
    outA := re l.outA l.liveA dtA, outB := re l.outB l.liveB dtB }

/-- A leg follows what the trip network asks; without a request it leaves forcing at `point`, or at once when it does not
count (R245). -/
def State.followForce (s : State) (n : Fin 32) (point : Bool) : State :=
  let l := s.leg n
  match s.legRequest n with
  | some p => if l.forced = some p then s else s.setLeg n (l.force p)
  | none => if l.forced.isSome && (point || !l.counting) then s.setLeg n (l.leave (s.deadTime n.val false) (s.deadTime n.val true)) else s

/-- Every leg follows the trip network (R241 to R245). -/
def State.reforce (s : State) : State :=
  ((List.finRange 32).foldl (fun t n => t.followForce n false) s).settle

/-- Assert or deassert the line of a slot (R240, R306, R309). -/
def State.slotLine (s : State) (i : Fin 4) (v : Bool) : State :=
  State.reforce { s with trip := { s.trip with
    slotLines := if v then s.trip.slotLines ||| (1#4 <<< i.val) else s.trip.slotLines &&& ~~~(1#4 <<< i.val) } }

/-- Assert or deassert the OV_TRIP2 line (R124, R321). -/
def State.ovLine (s : State) (v : Bool) : State := State.reforce { s with trip := { s.trip with ov := v } }

/-- A cause with a lasting condition presents its request to the trip network (R115, R240). -/
def State.presentTrip (s : State) (c : Cause) : State :=
  match s.faultRec c with
  | some e =>
    if e.trip < 16 then
      { s with trip := { s.trip with
          present := s.trip.present.filter (fun p => p != (c.grp, c.bit)) ++ [(c.grp, c.bit)]
          reqs := s.trip.reqs ++ [⟨e.trip, c.grp, c.bit⟩] } }
    else s
  | none => s

/-- The condition of a cause ends: it is no source of its trip group any more (R240, R245). -/
def State.endTrip (s : State) (c : Cause) : State :=
  { s with trip := { s.trip with present := s.trip.present.filter (fun p => p != (c.grp, c.bit)) } }

/-- A source of trip group g is present. -/
def State.groupSource (s : State) (g : Nat) : Bool :=
  s.trip.present.any (fun p => match s.faultRec ⟨p.1, p.2⟩ with
    | some e => decide (e.trip = g)
    | none => false)

end Sys2Proof.Machine
end

