-- ==== Sys2Proof/Machine/Carve.lean ====
section
/-! DEFINITION. The Carve engine's instructions and the commands of its block (chapter 6). -/

namespace Sys2Proof.Machine

/-- Subnormals become zero, with the sign kept (R163). -/
def fFlush (x : Word) : Word := if fSub? x then fSign (fNeg? x) 0 else x

/-- A Carve result: flushed, and every NaN the quiet NaN (R163). -/
def fOut (x : Word) : Word := if fNaN? x then fQNaN else fFlush x

/-- A result with flushing and the canonical NaN. -/
def FRes.carve (r : FRes) : FRes := ⟨fOut r.val, r.exc⟩

/-- A signalling NaN, which raises the invalid exception of IEEE 754 as an operand (R163); it can stand in matrix memory, no register. -/
def fSig? (x : Word) : Bool := fNaN? x && !x.getLsbD 22

/-- A result with the invalid exception of a signalling operand. -/
def FRes.signal (r : FRes) (sig : Bool) : FRes := ⟨r.val, r.exc || sig⟩

/-- Carve arithmetic (R163): flushed operands, one rounding, flushed result. -/
def cAdd (x y : Word) : FRes := (fAddR (fFlush x) (fFlush y)).carve.signal (fSig? x || fSig? y)
/-- Difference. -/
def cSub (x y : Word) : FRes := (fSubR (fFlush x) (fFlush y)).carve.signal (fSig? x || fSig? y)
/-- Product. -/
def cMul (x y : Word) : FRes := (fMulR (fFlush x) (fFlush y)).carve.signal (fSig? x || fSig? y)
/-- Fused multiply-accumulate x * y + z. -/
def cFma (x y z : Word) : FRes := (fFmaR (fFlush x) (fFlush y) (fFlush z)).carve.signal (fSig? x || fSig? y || fSig? z)
/-- Quotient. -/
def cDiv (x y : Word) : FRes := (fDivR (fFlush x) (fFlush y)).carve.signal (fSig? x || fSig? y)
/-- Square root. -/
def cSqrt (x : Word) : FRes := (fSqrtR (fFlush x)).carve.signal (fSig? x)

/-- Order of two words that are no NaN, −0.0 below +0.0. -/
def fTotLt (x y : Word) : Bool := fLt x y || (fZero? x && fZero? y && fNeg? x && !fNeg? y)

/-- Minimum; a NaN operand gives NaN (R163). PRESUMED (IEEE 754): −0.0 is below +0.0. -/
def cMin (x y : Word) : Word :=
  if fNaN? x || fNaN? y then fQNaN else if fTotLt (fFlush y) (fFlush x) then fFlush y else fFlush x
/-- Maximum; a NaN operand gives NaN. -/
def cMax (x y : Word) : Word :=
  if fNaN? x || fNaN? y then fQNaN else if fTotLt (fFlush x) (fFlush y) then fFlush y else fFlush x

/-- A rational close to π (error below 2^−255). -/
def piQ : Rat := (0x3243f6a8885a308d313198a2e03707344a4093822299f31d0082efa98ec4e6c89 : Nat) / ((2 ^ 256 : Nat) : Rat)

/-- Terms of an alternating power series with quotient `q` of neighbouring powers: k, k + 2, k + 4 and so on. -/
def trigSum (q : Rat) : Nat → Nat → Rat → Rat
  | 0, _, _ => 0
  | n + 1, k, t => t + trigSum q n (k + 2) (-(t * q) / (((k + 1) * (k + 2) : Nat) : Rat))

/-- A rational reduced to −π to π by whole turns. -/
def reducePi (x : Rat) : Rat := x - 2 * piQ * ((x / (2 * piQ) + 1 / 2).floor : Rat)

/-- sin of a rational, error below 2^−40. -/
def sinQ (x : Rat) : Rat := let r := reducePi x; trigSum (r * r) 14 1 r
/-- cos of a rational, error below 2^−40. -/
def cosQ (x : Rat) : Rat := let r := reducePi x; trigSum (r * r) 14 0 1

/-- Odd terms of the arctangent series. -/
def atanSum (q : Rat) : Nat → Nat → Rat → Rat
  | 0, _, _ => 0
  | n + 1, k, t => t / ((k : Nat) : Rat) + atanSum q n (k + 2) (-(t * q))

/-- arctangent of a rational from 0 to 1, error below 2^−40. -/
def atan01 (t : Rat) : Rat :=
  if t * 5 ≤ 2 then atanSum (t * t) 20 1 t
  else let u := (t - 1) / (t + 1); piQ / 4 + atanSum (u * u) 20 1 u

/-- atan2 of two rationals, not both zero; `yneg` is the sign of y where y is a zero. -/
def atan2Q (y x : Rat) (yneg : Bool) : Rat :=
  let ax := if x < 0 then -x else x
  let ay := if y < 0 then -y else y
  let a := if ay ≤ ax then atan01 (ay / ax) else piQ / 2 - atan01 (ax / ay)
  let b := if x < 0 then piQ - a else a
  if y < 0 ∨ (y = 0 ∧ yneg = true) then -b else b

/-- A free word kept where it lies within `tol` of a value, else the value rounded: a result known to a bound only. -/
def within (free : Word) (q tol : Rat) : Word :=
  if fFinite? free = true ∧ fSub? free = false ∧ fRat free - q ≤ tol ∧ q - fRat free ≤ tol then free else fOut (fOfRat q)

/-- The bound of R163. -/
def trigTol : Rat := 1 / ((2 ^ 22 : Nat) : Rat)

/-- SSINCOS (R163): beyond 2^12 rad, and for a NaN or an infinity, NaN; invalid unless the operand is a NaN. -/
def cSinCos (x : Word) : FRes × FRes :=
  let x := fFlush x
  if fNaN? x then (⟨fQNaN, false⟩, ⟨fQNaN, false⟩)
  else if fLt 0x45800000#32 (fAbs x) then (⟨fQNaN, true⟩, ⟨fQNaN, true⟩)
  else (⟨within (Config.sinF x) (sinQ (fRat x)) trigTol, false⟩, ⟨within (Config.cosF x) (cosQ (fRat x)) trigTol, false⟩)

/-- SATAN2 (R163, R168), within −π to π: to the bound where |Sa| ≤ 2^12, an infinite Sb included; beyond it, and for two zeros, the spec
states no value, and the result is a free one within −π to π. -/
def cAtan2 (y x : Word) : FRes :=
  let y := fFlush y
  let x := fFlush x
  if fNaN? x || fNaN? y then ⟨fQNaN, false⟩
  else if (fZero? x && fZero? y) || fLt 0x45800000#32 (fAbs y) then
    ⟨within (Config.atan2F y x) 0 (fRat 0x40490FDB#32), false⟩
  else
    let half : Rat := if fNeg? x then piQ else 0
    let q := if fInf? x then (if fNeg? y then -half else half) else atan2Q (fRat y) (fRat x) (fNeg? y)
    let w := within (Config.atan2F y x) q trigTol
    ⟨if fLe (fAbs w) 0x40490FDB#32 then w else fSign (fNeg? w) 0x40490FDB, false⟩

/-- SWRAP (R168): the exact remainder modulo 2π, rounded once; a result equal to 2π becomes 0.0. -/
def cWrap (x : Word) : FRes :=
  let x := fFlush x
  if fNaN? x then ⟨fQNaN, false⟩
  else if fInf? x then ⟨fQNaN, true⟩
  else
    let q := fRat x
    let r := fOut (fOfRat (q - 2 * piQ * ((q / (2 * piQ)).floor : Rat)))
    ⟨if r = 0x40C90FDB#32 then f0 else r, false⟩

/-- A vector of 16 words. -/
abbrev Vec := Vector Word 16

/-- The 16 products, one rounding each, added in the fixed pairwise tree (R170). -/
def cDot (a b : Vec) : FRes :=
  let ps := (List.finRange 16).map (fun i => cMul a[i] b[i])
  let rec pairs : List FRes → List FRes
    | x :: y :: t => (let r := cAdd x.val y.val; ⟨r.val, r.exc || x.exc || y.exc⟩) :: pairs t
    | l => l
  match pairs (pairs (pairs (pairs ps))) with
  | r :: _ => r
  | [] => ⟨f0, false⟩

/-- The effective address of a row (R170). -/
def CarveSt.ea (c : CarveSt) (maddr : BitVec 14) (ind : Bool) : Nat := (maddr.toNat + if ind then c.mb else 0) % 16384

/-- A matrix word; an address counts modulo the memory. -/
def CarveSt.mat (c : CarveSt) (a : Nat) : Word := cellGet (fun _ => f0) c.matrix (a % 16384)

/-- The row at a word address. -/
def CarveSt.row (c : CarveSt) (a : Nat) : Vec := Vector.ofFn (fun i => c.mat (a + i.val))

/-- Store a row. -/
def CarveSt.setRow (c : CarveSt) (a : Nat) (v : Vec) : CarveSt :=
  { c with matrix := (List.finRange 16).foldl (fun m i => cellSet (fun _ => f0) m ((a + i.val) % 16384) v[i]) c.matrix }

/-- Write Sd. -/
def CarveSt.setS (c : CarveSt) (d : Fin 64) (x : Word) : CarveSt := { c with s := c.s.set d x }

/-- Write Sd with an arithmetic result; exceptions set the sticky ARITH flag (R163). -/
def CarveSt.setSR (c : CarveSt) (d : Fin 64) (r : FRes) : CarveSt :=
  { c.setS d r.val with fl := { c.fl with arith := c.fl.arith || r.exc } }

/-- Write Vd by an instruction other than VCLAMP: its saturation masks clear (R168). -/
def CarveSt.setV (c : CarveSt) (d : Fin 32) (v : Vec) : CarveSt :=
  { c with v := c.v.set d v, sathi := c.sathi.set d 0#16, satlo := c.satlo.set d 0#16 }

/-- Write Vd element by element with arithmetic results. -/
def CarveSt.setVR (c : CarveSt) (d : Fin 32) (f : Fin 16 → FRes) : CarveSt :=
  let rs := Vector.ofFn f
  { c.setV d (rs.map (·.val)) with fl := { c.fl with arith := c.fl.arith || rs.toList.any (·.exc) } }

/-- A condition of field C (R169); reserved codes 16 and above do not fit the field. -/
def CarveFlags.holds (f : CarveFlags) (cond : Fin 16) : Bool :=
  match cond.val with
  | 0 => true
  | 1 => f.lt
  | 2 => f.lt || f.eq
  | 3 => f.eq
  | 4 => !f.eq
  | 5 => f.gt || f.eq
  | 6 => f.gt
  | 7 => f.un
  | 8 => f.vld
  | 9 => !f.vld
  | 10 => f.new
  | 11 => !f.new
  | 12 => f.sat
  | 13 => f.pre
  | 14 => !f.fblost
  | _ => f.fblost

/-- BUDGET of the running task (R173). -/
def State.budget (s : State) : Nat :=
  match s.carve.running with
  | some t => s.get (Reg.CARVE.TASK.CFG.BUDGET t.val)
  | none => 0

/-- Whether an instruction of `cyc` cycles completes: a task runs and its BUDGET is not used up before (R164, R173). -/
def State.issues (s : State) (cyc : Nat) : Bool := s.carve.running.isSome && decide (s.carve.cycles + cyc ≤ s.budget)

/-- One instruction of `cyc` cycles that acts on the engine alone (R164): the next word follows. Without a running task
Carve issues nothing. -/
def State.issue (s : State) (cyc : Nat) (f : CarveSt → CarveSt) : State :=
  if s.issues cyc then
    let c := f s.carve
    { s with carve := { c with pc := s.carve.pc + 1, cycles := s.carve.cycles + cyc } }
  else s

/-- An instruction writing one scalar from arithmetic. -/
def State.issueS (s : State) (cyc : Nat) (d : Fin 64) (f : CarveSt → FRes) : State :=
  s.issue cyc (fun c => c.setSR d (f c))

/-- An instruction writing one vector from arithmetic. -/
def State.issueV (s : State) (d : Fin 32) (f : CarveSt → Fin 16 → FRes) : State :=
  s.issue 1 (fun c => c.setVR d (f c))

/-- The instruction that the running task has next (R164, R166): the one which the program word at its address spells. -/
def State.fetched (s : State) : Option Instr :=
  if s.carve.running.isSome then (s.carve.prog[s.carve.pc]?).bind carveDecode else none

/-- NOP (R168). -/
def execNop (s : State) : Host.Outcome State Fault Refusal := .next (s.issue 1 id)

/-- BR (R168): the next word is TARGET where the condition holds. -/
def execBr (cond : Fin 16) (target : Fin 4096) (s : State) : Host.Outcome State Fault Refusal :=
  if s.issues 2 then
    let c := s.carve
    .next { s with carve := { c with pc := if c.fl.holds cond then target.val else c.pc + 1, cycles := c.cycles + 2 } }
  else .next s

/-- The owner slot of the running task (R171). -/
def State.ownerOf (s : State) (t : Nat) : Nat := s.get (Reg.CARVE.TASK.CFG.OWNER t)

/-- The cause group of a slot's Carve causes (R181). -/
def carveCause (slot bit : Nat) : Cause := ⟨28 + slot, bit⟩

/-- SIG (R168): PROGn of the owner slot where the condition holds. -/
def execSig (cond : Fin 16) (n : Fin 8) (s : State) : Host.Outcome State Fault Refusal :=
  match s.carve.running with
  | none => .next s
  | some t =>
    if s.issues 1 then
      let s1 := s.issue 1 id
      if s.carve.fl.holds cond then
        let c := s1.carve
        .next ({ s1 with carve := { c with progSet := c.progSet ||| (1#8 <<< n.val) } }.raise
          (carveCause (s.ownerOf t.val) (8 + n.val)))
      else .next s1
    else .next s

/-- The index of SETB: the floor of a word, limited to 0 to NMAX; a NaN gives 0 (R168). -/
def setbIndex (x : Word) (nmax : Nat) : Nat :=
  let x := fFlush x
  if fNaN? x then 0
  else if fInf? x then (if fNeg? x then 0 else nmax)
  else min ((fRat x).floor.toNat) nmax

/-- SETB (R168). -/
def execSetb (a : Fin 64) (stride : BitVec 14) (nmax : BitVec 8) (s : State) : Host.Outcome State Fault Refusal :=
  .next (s.issue 2 (fun c => { c with mb := stride.toNat * setbIndex c.s[a] nmax.toNat }))

/-- SADD (R168). -/
def execSadd (d a b : Fin 64) (s : State) : Host.Outcome State Fault Refusal :=
  .next (s.issueS 1 d (fun c => cAdd c.s[a] c.s[b]))
/-- SSUB (R168). -/
def execSsub (d a b : Fin 64) (s : State) : Host.Outcome State Fault Refusal :=
  .next (s.issueS 1 d (fun c => cSub c.s[a] c.s[b]))
/-- SMUL (R168). -/
def execSmul (d a b : Fin 64) (s : State) : Host.Outcome State Fault Refusal :=
  .next (s.issueS 1 d (fun c => cMul c.s[a] c.s[b]))
/-- SMAC (R163, R168): fused. -/
def execSmac (d a b : Fin 64) (s : State) : Host.Outcome State Fault Refusal :=
  .next (s.issueS 1 d (fun c => cFma c.s[a] c.s[b] c.s[d]))
/-- SMIN (R168). -/
def execSmin (d a b : Fin 64) (s : State) : Host.Outcome State Fault Refusal :=
  .next (s.issueS 1 d (fun c => ⟨cMin c.s[a] c.s[b], false⟩))
/-- SMAX (R168). -/
def execSmax (d a b : Fin 64) (s : State) : Host.Outcome State Fault Refusal :=
  .next (s.issueS 1 d (fun c => ⟨cMax c.s[a] c.s[b], false⟩))
/-- SABS (R168). -/
def execSabs (d a : Fin 64) (s : State) : Host.Outcome State Fault Refusal :=
  .next (s.issueS 1 d (fun c => ⟨fOut (fAbs c.s[a]), false⟩))
/-- SNEG (R168). -/
def execSneg (d a : Fin 64) (s : State) : Host.Outcome State Fault Refusal :=
  .next (s.issueS 1 d (fun c => ⟨fOut (fNeg c.s[a]), false⟩))
/-- SMOV (R168). -/
def execSmov (d a : Fin 64) (s : State) : Host.Outcome State Fault Refusal :=
  .next (s.issueS 1 d (fun c => ⟨fOut c.s[a], false⟩))
/-- SLDI (R168). -/
def execSldi (d : Fin 64) (x : Word) (s : State) : Host.Outcome State Fault Refusal :=
  .next (s.issueS 1 d (fun _ => ⟨fOut x, false⟩))

/-- SCMP (R169): LT, EQ, GT and UN. -/
def execScmp (a b : Fin 64) (s : State) : Host.Outcome State Fault Refusal :=
  .next (s.issue 1 (fun c =>
    let x := fFlush c.s[a]
    let y := fFlush c.s[b]
    { c with fl := { c.fl with lt := fLt x y, eq := fEq x y, gt := fLt y x, un := fNaN? x || fNaN? y } }))

/-- SSEL (R168). -/
def execSsel (d : Fin 64) (cond : Fin 16) (a b : Fin 64) (s : State) : Host.Outcome State Fault Refusal :=
  .next (s.issueS 1 d (fun c => ⟨fOut (if c.fl.holds cond then c.s[a] else c.s[b]), false⟩))

/-- SCLAMP (R168): SAT where Sa < Sb or Sa > Sc. -/
def execSclamp (d a b e : Fin 64) (s : State) : Host.Outcome State Fault Refusal :=
  .next (s.issue 1 (fun c =>
    let x := fFlush c.s[a]
    let lo := fFlush c.s[b]
    let hi := fFlush c.s[e]
    let c1 := c.setSR d ⟨cMin (cMax x lo) hi, false⟩
    { c1 with fl := { c1.fl with sat := fLt x lo || fLt hi x } }))

/-- SWRAP (R168). -/
def execSwrap (d a : Fin 64) (s : State) : Host.Outcome State Fault Refusal :=
  .next (s.issueS 1 d (fun c => cWrap c.s[a]))
/-- SDIV (R163, R168). -/
def execSdiv (d a b : Fin 64) (s : State) : Host.Outcome State Fault Refusal :=
  .next (s.issueS 10 d (fun c => cDiv c.s[a] c.s[b]))
/-- SSQRT (R163, R168). -/
def execSsqrt (d a : Fin 64) (s : State) : Host.Outcome State Fault Refusal :=
  .next (s.issueS 8 d (fun c => cSqrt c.s[a]))

/-- SSINCOS (R163, R168): Sd = sin, S(d+1) = cos. S63 as destination is refused at course load (R167); its cosine has no
register and is dropped. -/
def execSsincos (d a : Fin 64) (s : State) : Host.Outcome State Fault Refusal :=
  .next (s.issue 6 (fun c =>
    let r := cSinCos c.s[a]
    let c1 := c.setSR d r.1
    if h : d.val + 1 < 64 then c1.setSR ⟨d.val + 1, h⟩ r.2 else c1))

/-- SATAN2 (R163, R168). -/
def execSatan2 (d a b : Fin 64) (s : State) : Host.Outcome State Fault Refusal :=
  .next (s.issueS 8 d (fun c => cAtan2 c.s[a] c.s[b]))

/-- VADD (R168). -/
def execVadd (d a b : Fin 32) (s : State) : Host.Outcome State Fault Refusal :=
  .next (s.issueV d (fun c e => cAdd c.v[a][e] c.v[b][e]))
/-- VSUB (R168). -/
def execVsub (d a b : Fin 32) (s : State) : Host.Outcome State Fault Refusal :=
  .next (s.issueV d (fun c e => cSub c.v[a][e] c.v[b][e]))
/-- VMUL (R168). -/
def execVmul (d a b : Fin 32) (s : State) : Host.Outcome State Fault Refusal :=
  .next (s.issueV d (fun c e => cMul c.v[a][e] c.v[b][e]))
/-- VMAC (R163, R168): fused. -/
def execVmac (d a b : Fin 32) (s : State) : Host.Outcome State Fault Refusal :=
  .next (s.issueV d (fun c e => cFma c.v[a][e] c.v[b][e] c.v[d][e]))
/-- VSCL (R168). -/
def execVscl (d a : Fin 32) (b : Fin 64) (s : State) : Host.Outcome State Fault Refusal :=
  .next (s.issueV d (fun c e => cMul c.v[a][e] c.s[b]))
/-- VBCAST (R168). -/
def execVbcast (d : Fin 32) (a : Fin 64) (s : State) : Host.Outcome State Fault Refusal :=
  .next (s.issueV d (fun c _ => ⟨fOut c.s[a], false⟩))
/-- VINS (R168). -/
def execVins (d : Fin 32) (e : Fin 16) (a : Fin 64) (s : State) : Host.Outcome State Fault Refusal :=
  .next (s.issue 1 (fun c => c.setV d (c.v[d].set e (fOut c.s[a]))))
/-- VEXT (R168). -/
def execVext (d : Fin 64) (a : Fin 32) (e : Fin 16) (s : State) : Host.Outcome State Fault Refusal :=
  .next (s.issueS 1 d (fun c => ⟨fOut c.v[a][e], false⟩))

/-- A mask of 16 elements. -/
def mask16 (f : Fin 16 → Bool) : BitVec 16 :=
  (List.finRange 16).foldl (fun m i => if f i then m ||| (1#16 <<< i.val) else m) 0#16

/-- VCLAMP (R168): the saturation masks of Vd and SAT. -/
def execVclamp (d a b e : Fin 32) (s : State) : Host.Outcome State Fault Refusal :=
  .next (s.issue 1 (fun c =>
    let x (i : Fin 16) := fFlush c.v[a][i]
    let lo (i : Fin 16) := fFlush c.v[b][i]
    let hi (i : Fin 16) := fFlush c.v[e][i]
    let ml := mask16 (fun i => fLt (x i) (lo i))
    let mh := mask16 (fun i => fLt (hi i) (x i))
    { c with
      v := c.v.set d (Vector.ofFn (fun i => cMin (cMax (x i) (lo i)) (hi i)))
      satlo := c.satlo.set d ml, sathi := c.sathi.set d mh
      fl := { c.fl with sat := decide (ml ≠ 0#16 ∨ mh ≠ 0#16) } }))

/-- Whether VINT holds element i (R178). -/
def CarveSt.vintHolds (c : CarveSt) (a : Fin 32) (b : Fin 64) (e : Fin 32) (shift : Fin 16) (dir : Bool) (i : Fin 16) :
    Bool :=
  if i.val < shift.val then false
  else
    let j := i.val - shift.val
    let hi := c.sathi[e].getLsbD j
    let lo := c.satlo[e].getLsbD j
    let p := (cMul c.v[a][i] c.s[b]).val
    (hi || lo) && !(dir && ((hi && fLt p f0) || (lo && fLt f0 p)))

/-- Sum of a word and a product, each rounded: R163 names SMAC and VMAC alone as fused (DEDUCED). -/
def cIntegrate (z x y : Word) : FRes :=
  let p := cMul x y
  let r := cAdd z p.val
  ⟨r.val, p.exc || r.exc⟩

/-- VINT (R178): held elements keep their value, the others integrate. -/
def execVint (d a : Fin 32) (b : Fin 64) (e : Fin 32) (shift : Fin 16) (dir : Bool) (s : State) :
    Host.Outcome State Fault Refusal :=
  .next (s.issue 1 (fun c =>
    let held (i : Fin 16) := c.vintHolds a b e shift dir i
    let c1 := c.setVR d (fun i => if held i then ⟨c.v[d][i], false⟩ else cIntegrate c.v[d][i] c.v[a][i] c.s[b])
    { c1 with heldRun := c1.heldRun || (List.finRange 16).any held }))

/-- IPRE (R179): writes the masked elements when PRE is set, else nothing. -/
def execIpre (d a : Fin 32) (mask : BitVec 16) (s : State) : Host.Outcome State Fault Refusal :=
  .next (s.issue 1 (fun c =>
    if c.fl.pre = true ∧ mask ≠ 0#16 then
      { c.setV d (Vector.ofFn (fun i => if mask.getLsbD i.val then fOut c.v[a][i] else c.v[d][i])) with ipreWrote := true }
    else c))

/-- VDOT (R170). -/
def execVdot (d : Fin 64) (a b : Fin 32) (s : State) : Host.Outcome State Fault Refusal :=
  .next (s.issueS 2 d (fun c => cDot c.v[a] c.v[b]))
/-- VLD (R170). -/
def execVld (d : Fin 32) (maddr : BitVec 14) (ind : Bool) (s : State) : Host.Outcome State Fault Refusal :=
  .next (s.issue 1 (fun c => c.setV d ((c.row (c.ea maddr ind)).map fOut)))
/-- VST (R170). -/
def execVst (d : Fin 32) (maddr : BitVec 14) (ind : Bool) (s : State) : Host.Outcome State Fault Refusal :=
  .next (s.issue 1 (fun c => c.setRow (c.ea maddr ind) c.v[d]))

/-- ROWS is at least 1: the field holds ROWS − 1 (R166). -/
def rowsOf (rows : Fin 16) : Nat := rows.val + 1

/-- MVM (R170): element DOFF + j is row a + 16 j times Va; the others 0.0. `rows` is the field ROWS − 1. -/
def execMvm (d a : Fin 32) (maddr : BitVec 14) (ind : Bool) (rows doff : Fin 16) (s : State) :
    Host.Outcome State Fault Refusal :=
  .next (s.issue (rowsOf rows) (fun c => c.setVR d (fun i =>
    if doff.val ≤ i.val ∧ i.val < doff.val + rowsOf rows then
      cDot (c.row (c.ea maddr ind + 16 * (i.val - doff.val))) c.v[a]
    else ⟨f0, false⟩)))

/-- MVMA (R170): as MVM, added to those elements; the others unchanged. -/
def execMvma (d a : Fin 32) (maddr : BitVec 14) (ind : Bool) (rows doff : Fin 16) (s : State) :
    Host.Outcome State Fault Refusal :=
  .next (s.issue (rowsOf rows) (fun c => c.setVR d (fun i =>
    if doff.val ≤ i.val ∧ i.val < doff.val + rowsOf rows then
      let p := cDot (c.row (c.ea maddr ind + 16 * (i.val - doff.val))) c.v[a]
      let r := cAdd c.v[d][i] p.val
      ⟨r.val, r.exc || p.exc⟩
    else ⟨c.v[d][i], false⟩)))

/-- VMOV (R168). -/
def execVmov (d a : Fin 32) (s : State) : Host.Outcome State Fault Refusal :=
  .next (s.issueV d (fun c e => ⟨fOut c.v[a][e], false⟩))

/-- A port latched at dispatch (R174); a port with no route reads 0.0. -/
def CarveSt.port (c : CarveSt) (k : Nat) : Port := ((c.latched.find? (fun p => p.1 == k)).map (·.2)).getD {}

/-- VLD and NEW over the ports read (R174): ports without a route are left out. -/
def CarveSt.portFlags (c : CarveSt) (ks : List Nat) : CarveSt :=
  let routed := ks.filter (fun k => (c.port k).routed)
  let seqs := routed.filter (fun k => (c.port k).hasSeq)
  { c with fl := { c.fl with
      vld := routed.all (fun k => (c.port k).valid)
      new := seqs.all (fun k => decide (cellGet (fun _ => 0#17) c.prevSeq k ≠ (1#1 ++ (c.port k).seq : BitVec 17))) } }

/-- IN (R174). -/
def execInPort (d : Fin 64) (slot : Fin 4) (port : Fin 64) (s : State) : Host.Outcome State Fault Refusal :=
  let k := 64 * slot.val + port.val
  .next (s.issue 1 (fun c => (c.setS d (fOut (c.port k).val)).portFlags [k]))

/-- INV (R174). Ports beyond 63 are no ports: they read as ports with no route. -/
def execInv (d : Fin 32) (slot : Fin 4) (port : Fin 64) (s : State) : Host.Outcome State Fault Refusal :=
  let key (i : Nat) := if port.val + i < 64 then 64 * slot.val + port.val + i else 256
  .next (s.issue 2 (fun c =>
    (c.setV d (Vector.ofFn (fun i => fOut (c.port (key i.val)).val))).portFlags ((List.range 16).map key)))

/-- Stage an output port (R175): NaN and infinity leave the port at its previous value. -/
def CarveSt.stage (c : CarveSt) (k : Nat) (x : Word) : CarveSt :=
  if fFinite? x then { c with staged := c.staged.filter (fun p => p.1 != k) ++ [(k, fOut x)] }
  else { c with nonfinite := true }

/-- OUT (R175). -/
def execOutPort (slot : Fin 4) (port a : Fin 64) (s : State) : Host.Outcome State Fault Refusal :=
  .next (s.issue 1 (fun c => c.stage (64 * slot.val + port.val) c.s[a]))

/-- OUTV (R175). -/
def execOutv (slot : Fin 4) (port : Fin 64) (a : Fin 32) (s : State) : Host.Outcome State Fault Refusal :=
  .next (s.issue 2 (fun c => (List.finRange 16).foldl (fun c1 i =>
    if port.val + i.val < 64 then c1.stage (64 * slot.val + port.val + i.val) c.v[a][i] else c1) c))

/-- A parameter word (R176): host writes during a run are held, so the stored word is the one of the dispatch. -/
def State.param (s : State) (k : Nat) : Word := s.rd (Reg.CARVE.PARAM.addr k)

/-- LDP (R176). -/
def execLdp (d : Fin 64) (k : Fin 256) (s : State) : Host.Outcome State Fault Refusal :=
  .next (s.issue 1 (fun c => c.setS d (fOut (s.param k.val))))

/-- LDPV (R176). Words beyond P255 are none: they read 0.0. -/
def execLdpv (d : Fin 32) (k : Fin 256) (s : State) : Host.Outcome State Fault Refusal :=
  .next (s.issue 2 (fun c => c.setV d
    (Vector.ofFn (fun i => if k.val + i.val < 256 then fOut (s.param (k.val + i.val)) else f0))))

/-- Carve runs or dispatches a task. -/
def State.carveBusy (s : State) : Bool := s.carve.running.isSome

/-- Parameter writes held during the run are applied, the last of each word winning (R176). -/
def State.applyHeld (s : State) : State :=
  let t := s.carve.heldParams.foldl (fun t p => t.wr (Reg.CARVE.PARAM.addr p.1) p.2) s
  { t with carve := { t.carve with heldParams := [] } }

/-- A parameter word is written under R176: at once while Carve is idle, else held until the run ends. -/
def State.writeParam (s : State) (k : Nat) (x : Word) : State :=
  if s.carveBusy then { s with carve := { s.carve with heldParams := s.carve.heldParams ++ [(k, x)] } }
  else s.wr (Reg.CARVE.PARAM.addr k) x

/-- A ready trigger takes its place among the waiting ones (R172): in order of readiness, at one edge in ascending task number. -/
def CarveSt.queue (c : CarveSt) (t : Fin 8) : CarveSt :=
  let before (u : Fin 8) : Bool := decide (c.readyAt[u] < c.readyAt[t]) || (decide (c.readyAt[u] = c.readyAt[t]) && decide (u < t))
  { c with
    notReady := c.notReady.erase t
    waiting := c.waiting.takeWhile before ++ t :: c.waiting.dropWhile before }

/-- TRIGGER_READY (R172): 32 CLK_CTL cycles after the trigger instant. -/
def execTriggerReady (t : Fin 8) (s : State) : Host.Outcome State Fault Refusal :=
  let c := s.carve
  if c.notReady.contains t then
    .next { s with carve := c.queue t }
  else .next s

/-- The running task t is aborted after `ran` cycles (R173, R176); CYCLES and HELD count its run all the same (R178, R180). -/
def State.abortRun (s : State) (t : Fin 8) (ran : Nat) (m : Mark) : State :=
  let c := s.carve
  let s1 := { s with carve := { c with
    running := none, lastTask := t.val, staged := [], endedOk := c.endedOk.set t false } }
  let cyc := min ran 65535
  let s2 := (s1.put (Reg.CARVE.TASK.CYCLES.LAST t.val) cyc).put (Reg.CARVE.TASK.CYCLES.MAX t.val)
    (max cyc (s1.get (Reg.CARVE.TASK.CYCLES.MAX t.val)))
  let s3 := if c.heldRun then s2.bumpWrap (Reg.CARVE.TASK.HELD.val t.val) else s2
  State.applyHeld ((s3.bump (Reg.CARVE.TASK.EVENTS.OVERRUNS t.val)).raiseM (carveCause (s.ownerOf t.val) 0) m)

/-- Cycles of the instruction that a program word spells (R164, R168). -/
def wordCycles (w : BitVec 64) : Nat :=
  match w.toNat / 2 ^ 56 with
  | 0x02 | 0x04 | 0x3B | 0x51 | 0x53 | 0x55 => 2
  | 0x1E => 10
  | 0x1F | 0x21 => 8
  | 0x20 => 6
  | 0x3E | 0x3F => w.toNat / 2 ^ 20 % 16 + 1
  | _ => 1

/-- The running task reaches BUDGET before its next word completes (R164, R173); where the program memory holds no word, none ends it. -/
def State.overBudget (s : State) : Bool :=
  match s.carve.prog[s.carve.pc]? with
  | some w => decide (s.budget < s.carve.cycles + wordCycles w)
  | none => true

/-- TASK_ABORT (R173, R176, R395): a task that runs for BUDGET cycles without END is aborted. Its outputs do not transfer, Slalom is not
started, writes and stores made before stand, held parameter writes apply. In a SHADOW window of the budget detector it is aborted at the window's
end. -/
def execTaskAbort (s : State) : Host.Outcome State Fault Refusal :=
  match s.carve.running with
  | none => .next s
  | some t => if s.overBudget then .next (s.heldAct 7 t.val (fun u => u.abortRun t s.budget .real)) else .next s

/-- CARVE_PRESET (R179, R180): a preset becomes pending; the command reads OK. -/
def execCarvePreset (t : Fin 8) (s : State) : Host.Outcome State Fault Refusal :=
  .next ({ s with carve := { s.carve with preset := s.carve.preset.set t true } }.status
    (Reg.CARVE.TASK.CMD_STATUS.addr t.val) codeOk)

/-- CARVE_CLEAR_STATS (R180). -/
def execCarveClearStats (t : Fin 8) (s : State) : Host.Outcome State Fault Refusal :=
  .next (((s.put (Reg.CARVE.TASK.CYCLES.MAX t.val) 0).put (Reg.CARVE.TASK.WAIT.MAX t.val) 0).status
    (Reg.CARVE.TASK.CMD_STATUS.addr t.val) codeOk)

/-- PARAM_WRITE (R176): a write that has passed its envelope is applied at once, or held. -/
def execParamWrite (k : Fin 256) (value : Word) (s : State) : Host.Outcome State Fault Refusal :=
  .next (s.writeParam k.val value)

/-- Key of a route destination: class, slot and index (R70). -/
def portKey (cls slot idx : Nat) : Nat := cls * 65536 + slot * 256 + idx

/-- Whether a source class carries a status (R174); those of the profile generators carry none (R189). -/
def srcHasValid (cls : Nat) : Bool := decide (1 ≤ cls ∧ cls ≤ 7)
/-- Whether a source class carries a SEQ (R174): the SDM sources. -/
def srcHasSeq (cls : Nat) : Bool := decide (cls = 1 ∨ cls = 5 ∨ cls = 6 ∨ cls = 7)

/-- A port as the fabric holds it now (R70, R174): without a route 0.0 and valid; before its source's first value 0.0,
invalid where the source carries a status. -/
def State.portNow (s : State) (cls slot idx : Nat) : Port :=
  match s.course.routes.find? (fun r => r.dstClass == cls && r.dstIndex == idx && r.slot == slot) with
  | none => {}
  | some r =>
    match s.ports.find? (fun p => p.1 == portKey cls slot idx) with
    | some p => p.2
    | none => { valid := !srcHasValid r.srcClass, hasSeq := srcHasSeq r.srcClass, routed := true }

/-- A source value travels along its routes (R70, R174). -/
def State.route (s : State) (cls idx : Nat) (p : Port) : State :=
  s.course.routes.foldl (fun t r =>
    if r.srcClass = cls ∧ r.srcIndex = idx then
      let k := portKey r.dstClass r.slot r.dstIndex
      { t with ports := t.ports.filter (fun q => q.1 != k) ++ [(k, { p with routed := true })] }
    else t) s

/-- A value without status travels along its routes. -/
def State.routeVal (s : State) (cls idx : Nat) (x : Word) : State := s.route cls idx { val := x }

/-- INSTAT of a port's status (R180). -/
def Port.stat (p : Port) : Word :=
  BitVec.ofNat 32 ((if p.hasSeq then p.seq.toNat else 0) + b2n (p.valid && p.routed) * 65536 + b2n p.overload * 131072 +
    b2n p.subst * 262144 + b2n p.routed * 524288)

/-- CARVE_IN_READ (R180): a read of CARVE.IN latches INSTAT. -/
def execCarveInRead (slot : Fin 4) (port : Fin 64) (s : State) : Host.Outcome State Fault Refusal :=
  .next (s.wr (Reg.CARVE.INSTAT.addr slot.val port.val) (s.portNow 0x10 slot.val port.val).stat)

/-- CARVE_ECC_SWEEP (R162): the background sweep, or a read of program or matrix memory by the running task, corrects a single-bit error
where `fixed` says that it met one; it sets ECC_FIX. The spec gives the memories no owner slot: the
cause is set in the group of every slot (DEDUCED). -/
def execCarveEccSweep (fixed byRead : Bool) (s : State) : Host.Outcome State Fault Refusal :=
  if fixed && (!byRead || s.carve.running.isSome) then .next ((List.range 4).foldl (fun t k => t.raise (carveCause k 6)) s) else .next s

end Sys2Proof.Machine
end

