-- ==== Sys2Proof/Machine/Can.lean ====
section
/-! DEFINITION. The CAN FD controllers (chapter 19) and the status frame (R326, R534). -/

namespace Sys2Proof.Machine

/-- A cause of controller c (R537). -/
def canCause (c : Fin 2) (b : Nat) : Cause := ⟨38 + c.val, b⟩

/-- Replace a controller's record. -/
def State.setCan (s : State) (c : Fin 2) (x : CanSt) : State := { s with can := s.can.set c x }

/-- STATUS.STATE by code (R536): 0 CONFIG, 1 INTEGRATING, 2 ERROR_ACTIVE, 3 ERROR_PASSIVE, 4 BUS_OFF, 5 RECOVERING. -/
def State.canState (s : State) (c : Fin 2) : Nat := s.get (Reg.CAN.STATUS.STATE c.val)
/-- Enter a controller state. -/
def State.setCanState (s : State) (c : Fin 2) (v : Nat) : State := s.put (Reg.CAN.STATUS.STATE c.val) v

/-- The state of a transmit buffer (R521): 0 IDLE, 1 PENDING, 2 ACTIVE, 3 HELD. -/
def State.txb (s : State) (c : Fin 2) (b : Nat) : Nat := s.get (Reg.CAN.TXB.STATE.val c.val b)
/-- Enter a buffer state. -/
def State.setTxb (s : State) (c : Fin 2) (b v : Nat) : State := s.put (Reg.CAN.TXB.STATE.val c.val b) v
/-- A buffer goes to IDLE with a RESULT (R524, R525). -/
def State.endTxb (s : State) (c : Fin 2) (b result : Nat) : State :=
  (s.setTxb c b 0).put (Reg.CAN.TXB.STATE.RESULT c.val b) result

/-- An ACTIVE buffer whose frame did not complete (R519, R522, R525, R526): with an abort it goes to IDLE as ABORTED, else to
the state `v`. -/
def State.dropActive (s : State) (c : Fin 2) (b : Fin 3) (v : Nat) : State :=
  if s.can[c].abort[b] then
    (s.endTxb c b.val 2).setCan c { s.can[c] with abort := s.can[c].abort.set b false }
  else s.setTxb c b.val v

/-- A selection made for the end of a suspend is void (R523): its buffer waits for the next one. -/
def State.dropChosen (s : State) (c : Fin 2) : State :=
  let s1 := s.setCan c { s.can[c] with chosen := none, sent := false }
  match s.can[c].chosen with
  | some b => s1.dropActive c b 1
  | none => s1

/-- The buffer whose frame is on the bus. -/
def State.canActive (s : State) (c : Fin 2) : Option (Fin 3) :=
  (List.finRange 3).find? (fun b => decide (s.txb c b.val = 2))

/-- TEC and REC. -/
def State.tec (s : State) (c : Fin 2) : Nat := s.get (Reg.CAN.ERR.TEC c.val)
/-- See `State.tec`. -/
def State.rec_ (s : State) (c : Fin 2) : Nat := s.get (Reg.CAN.ERR.REC c.val)

/-- STATUS_HELD where a status frame waits in HELD or in CONFIG (R534). -/
def State.heldStatus (s : State) (c : Fin 2) : State :=
  if s.flag (Reg.CAN.STATUS_CFG.EN c.val) && (decide (s.txb c 2 = 3) || (decide (s.txb c 2 = 1) && decide (s.canState c = 0))) then
    s.raise (canCause c 13)
  else s

/-- Words of a byte list: byte 4i lowest (R536; DEDUCED). -/
def bytesWord (l : List Byte) (i : Nat) : Word :=
  (l.getD (4 * i + 3) 0#8) ++ (l.getD (4 * i + 2) 0#8) ++ (l.getD (4 * i + 1) 0#8) ++ (l.getD (4 * i) 0#8)

/-- Write the data of a transmit buffer. -/
def State.setTxData (s : State) (c : Fin 2) (b : Nat) (l : List Byte) : State :=
  (List.range 16).foldl (fun t i => t.wr (Reg.CAN.TXB.DATA.addr c.val b i) (bytesWord l i)) s

/-- The status frame is written into TXB2 and requested (R534). -/
def State.loadStatus (s : State) (c : Fin 2) (l : List Byte) : State :=
  let s1 := s.wr (Reg.CAN.TXB.ID.addr c.val 2) 0#32
  let s2 := (s1.put (Reg.CAN.TXB.ID.val c.val 2) (s.get (Reg.CAN.STATUS_ID.ID c.val))).put
    (Reg.CAN.TXB.ID.IDE c.val 2) (s.get (Reg.CAN.STATUS_CFG.IDE c.val))
  let s3 := ((s2.put (Reg.CAN.TXB.HDR.DLC c.val 2) 8).put (Reg.CAN.TXB.HDR.FDF c.val 2)
    (s.get (Reg.CAN.STATUS_CFG.FDF c.val))).put (Reg.CAN.TXB.HDR.BRS c.val 2) (s.get (Reg.CAN.STATUS_CFG.BRS c.val))
  let s4 := (s3.setTxData c 2 l).put (Reg.CAN.TXB.STATE.TRIES c.val 2) 0
  (if s4.txb c 2 = 0 then s4.setTxb c 2 1 else s4).heldStatus c

/-- The higher DC-link result (R326). -/
def State.linkHigh (s : State) : Word := fMax s.dcl.a.res s.dcl.b.res

/-- The status frame of a cause code, as the module stands (R326). A result between two whole volts takes one of the two:
the spec states no rounding. -/
def State.statusBytes (s : State) (code : Nat) : List Byte :=
  let q := fRat s.linkHigh
  let v := if fNaN? s.linkHigh then 0
    else (q.floor.toNat + if q.den ≠ 1 ∧ Config.voltsUp s.linkHigh = true then 1 else 0) % 65536
  let st (i : Nat) := ((s.slots.toList.map (fun x => x.state.code)).getD i 0)
  [BitVec.ofNat 8 code, BitVec.ofNat 8 (v % 256), BitVec.ofNat 8 (v / 256),
    BitVec.ofNat 8 (st 0 + 16 * st 1), BitVec.ofNat 8 (st 2 + 16 * st 3), 0#8, 0#8, 0#8]

/-- The status frame is formed and queued on each controller that the course gives one (R326, R534): 1 CHOP_FAULT,
2 OV_TRIP3, 3 DISCHARGE_FAIL. -/
def State.statusFrame (s : State) (code : Nat) : State :=
  let l := s.statusBytes code
  (List.finRange 2).foldl (fun t c =>
    if t.flag (Reg.CAN.STATUS_CFG.EN c.val) then
      (if t.txb c 2 = 2 then t.setCan c { t.can[c] with statusDue := some l } else t.loadStatus c l)
    else t) s

/-- A status frame that waited for the active one to end is written and requested (R534). -/
def State.statusAfter (s : State) (c : Fin 2) : State :=
  match s.can[c].statusDue with
  | some l => if s.txb c 2 ≠ 2 then (s.setCan c { s.can[c] with statusDue := none }).loadStatus c l else s
  | none => s

/-- Fault confinement after TEC or REC moved (R518, R526): error passive and back, and bus-off with its holds, where a status frame
that waited for the active one is loaded (R534). -/
def State.canConfine (s : State) (c : Fin 2) (m : Mark) : State :=
  let set_ (t : State) (b : Nat) : State := (t.setCauseM (canCause c b) m).pulseTrip (canCause c b)
  let st := s.canState c
  let hot := decide (128 ≤ s.tec c) || decide (128 ≤ s.rec_ c)
  if st = 2 ∨ st = 3 then
    let s1 := if st = 2 ∧ hot = true then set_ (s.setCanState c 3) 7 else if st = 3 ∧ hot = false then s.setCanState c 2 else s
    if 255 < s1.tec c then
      let s2 := State.dropChosen ((s1.put (Reg.CAN.ERR.TEC c.val) 256).setCanState c 4) c
      let s3 := (List.finRange 3).foldl (fun t b => if t.txb c b = 1 then t.setTxb c b 3 else if t.txb c b = 2 then t.dropActive c b 3 else t) s2
      let s4 := set_ ((s3.put (Reg.CAN.STATUS.TX_BUSY c.val) 0).bump (Reg.CAN.COUNTS.BUSOFFS c.val)) 8
      let s5 := (s4.statusAfter c).heldStatus c
      if s5.flag (Reg.CAN.CTRL.AUTO_RECOVER c.val) then
        (s5.put (Reg.CAN.STATUS.RECOVERY c.val) 0).setCanState c 5
      else s5
    else s1
  else s

/-- CAN_INIT_CLEAR (R518): from CONFIG onto the bus; a controller that came from bus-off recovers. -/
def execCanInitClear (c : Fin 2) (s : State) : Host.Outcome State Fault Refusal :=
  let s1 := s.put (Reg.CAN.CTRL.INIT c.val) 0
  if s.canState c = 0 then
    if s.can[c].fromBusOff then
      .next ((s1.put (Reg.CAN.STATUS.RECOVERY c.val) 0).setCanState c 5)
    else .next (s1.setCanState c 1)
  else .next s1

/-- CAN_INIT_SET (R518): a request of CONFIG. -/
def execCanInitSet (c : Fin 2) (s : State) : Host.Outcome State Fault Refusal :=
  .next (s.put (Reg.CAN.CTRL.INIT c.val) 1)

/-- CAN_CONFIG_ENTRY (R518, R519): where CONFIG is requested, the active buffer returns to PENDING, the others keep their
state. -/
def execCanConfigEntry (c : Fin 2) (s : State) : Host.Outcome State Fault Refusal :=
  let st := s.canState c
  if s.flag (Reg.CAN.CTRL.INIT c.val) && decide (st ≠ 0) then
    let s1 := (s.setCan c { s.can[c] with fromBusOff := decide (4 ≤ st) }).setCanState c 0
    let s2 := (s1.put (Reg.CAN.STATUS.TX_BUSY c.val) 0).put (Reg.CAN.STATUS.RX_BUSY c.val) 0
    let s3 := match s2.canActive c with
      | some b => s2.dropActive c b 1
      | none => s2.dropChosen c
    .next ((s3.statusAfter c).heldStatus c)
  else .next s

/-- CAN_INTEGRATION_DONE (R518): 11 recessive bits. -/
def execCanIntegrationDone (c : Fin 2) (s : State) : Host.Outcome State Fault Refusal :=
  if s.canState c = 1 then
    .next (s.setCanState c (if 128 ≤ s.tec c ∨ 128 ≤ s.rec_ c then 3 else 2))
  else .next s

/-- CAN_TX_REQ (R521): an IDLE buffer becomes PENDING with TRIES 0; a request to another buffer, or to TXB2 where it is the
status frame's (R534), is refused. -/
def execCanTxReq (c : Fin 2) (b : Fin 3) (s : State) : Host.Outcome State Fault Refusal :=
  if s.txb c b.val ≠ 0 ∨ (b.val = 2 ∧ s.flag (Reg.CAN.STATUS_CFG.EN c.val) = true) then .next (s.raise (canCause c 15))
  else .next ((s.setTxb c b.val 1).put (Reg.CAN.TXB.STATE.TRIES c.val b.val) 0)

/-- CAN_TX_ABORT (R522, R525): of a buffer selected for the end of a suspend it applies to the next selection, so to one on the bus already.
DEDUCED (log entry 105). -/
def execCanTxAbort (c : Fin 2) (b : Fin 3) (s : State) : Host.Outcome State Fault Refusal :=
  match s.txb c b.val with
  | 0 => .next s
  | 2 => .next (s.setCan c { s.can[c] with abort := s.can[c].abort.set b true })
  | _ => if s.can[c].chosen = some b then .next (s.setCan c { s.can[c] with abort := s.can[c].abort.set b true })
    else .next (s.endTxb c b.val 2)

/-- The arbitration field of a buffer as a number: the lower wins (R522). -/
def State.arbKey (s : State) (c : Fin 2) (b : Nat) : Nat :=
  let id := s.get (Reg.CAN.TXB.ID.val c.val b)
  let rtr := b2n (s.flag (Reg.CAN.TXB.ID.RTR c.val b) && !s.flag (Reg.CAN.TXB.HDR.FDF c.val b))
  if s.flag (Reg.CAN.TXB.ID.IDE c.val b) then
    (id / 2 ^ 18) * 2 ^ 21 + 2 ^ 20 + 2 ^ 19 + (id % 2 ^ 18) * 2 + rtr
  else (id % 2 ^ 11) * 2 ^ 21 + rtr * 2 ^ 20

/-- The PENDING buffer that a selection takes (R522). -/
def State.canPick (s : State) (c : Fin 2) : Option Nat :=
  let pend := (List.range 3).filter (fun b => decide (s.txb c b = 1))
  if s.flag (Reg.CAN.CTRL.ORDER c.val) then pend.head?
  else pend.foldl (fun m b => match m with
    | none => some b
    | some k => if s.arbKey c b < s.arbKey c k then some b else m) none

/-- MODE of a controller (R533). -/
def State.canMode (s : State) (c : Fin 2) : Nat := s.get (Reg.CAN.CTRL.MODE c.val)

/-- The filters of a controller as they stand, as (mask, identifier) (R529). -/
def State.canFilters (s : State) (c : Fin 2) : List (Word × Word) :=
  (List.range 48).map (fun f => (s.rd (Reg.CAN.FLT.MASK.addr c.val f), s.rd (Reg.CAN.FLT.ID.addr c.val f)))

/-- The frame of a buffer starts on the bus (R521, R522); in a loop-back mode with the filters as they stand (R517). -/
def State.canStart (s : State) (c : Fin 2) (b : Fin 3) : State :=
  let flt := if 3 ≤ s.canMode c then s.canFilters c else []
  ((s.setCan c { s.can[c] with chosen := none, sent := false, filters := flt }).setTxb c b.val 2).put (Reg.CAN.STATUS.TX_BUSY c.val) 1

/-- CAN_TX_SELECT (R522, R523, R533): a controller on the bus that transmits in its MODE and is asked for no CONFIG selects a buffer. In
ERROR_PASSIVE after a frame of this node's own the buffer waits for the end of the suspend, which the next CAN_TX_SELECT is. -/
def execCanTxSelect (c : Fin 2) (s : State) : Host.Outcome State Fault Refusal :=
  let st := s.canState c
  if (st = 2 ∨ st = 3) ∧ s.canMode c ∈ [0, 3, 4] ∧ s.flag (Reg.CAN.CTRL.INIT c.val) = false ∧ s.canActive c = none then
    match s.can[c].chosen, s.canPick c with
    | some b, _ => .next (s.canStart c b)
    | none, some b =>
      if st = 3 ∧ s.can[c].sent = true then
        .next (s.setCan c { s.can[c] with chosen := some (Fin.ofNat 3 b), sent := false })
      else .next (s.canStart c (Fin.ofNat 3 b))
    | none, none => .next (s.setCan c { s.can[c] with sent := false })
  else .next s

/-- A frame without error ends the run of ACK errors (R528). -/
def State.ackClear (s : State) (c : Fin 2) : State :=
  (s.put (Reg.CAN.COUNTS.ACK_RUN c.val) 0).put (Reg.CAN.STATUS.ALONE c.val) 0

/-- The number of data bytes of a DLC (R513, R514). -/
def dlcBytes (fdf : Bool) (dlc : Nat) : Nat :=
  if dlc ≤ 8 then dlc
  else if !fdf then 8
  else match dlc with
    | 9 => 12 | 10 => 16 | 11 => 20 | 12 => 24 | 13 => 32 | 14 => 48 | _ => 64

/-- Update FILL from the stores. -/
def State.canFill (s : State) (c : Fin 2) : State :=
  let st := s.can[c].stores
  ((s.put (Reg.CAN.FILL.FIFO0 c.val) st[0].length).put (Reg.CAN.FILL.FIFO1 c.val) st[1].length).put
    (Reg.CAN.FILL.HPB c.val) (b2n (!st[2].isEmpty))

/-- Store a frame in FIFO0, FIFO1 or the HPB (R530). -/
def State.canStore (s : State) (c : Fin 2) (f : Fin 3) (e : CanFrame) (filter ns : Nat) : State :=
  let x := s.can[c]
  let q := x.stores[f]
  let fr := { e with data := if e.rtr && !e.fdf then [] else e.data.take (dlcBytes e.fdf e.dlc.toNat) }
  let ent : RxEntry := ⟨fr, filter, ns, x.tags⟩
  if f.val < 2 ∧ 16 ≤ q.length then (s.bump (Reg.CAN.COUNTS.RX_DROPS c.val)).raise (canCause c 3)
  else
    let lost := decide (f.val = 2) && !q.isEmpty
    let s1 := s.setCan c { x with stores := x.stores.set f (if f.val = 2 then [ent] else q ++ [ent]), tags := x.tags + 1 }
    let s2 := if lost then s1.raise (canCause c 4) else s1
    (s2.canFill c).raise (canCause c f.val)

/-- A filter matches a frame (R529). -/
def fltMatch (e : CanFrame) (f : Word × Word) : Bool :=
  let act := Reg.CAN.FLT.MASK.ACTION 0 0
  let m := Reg.CAN.FLT.MASK.val 0 0
  let id := Reg.CAN.FLT.ID.val 0 0
  let a := getBits f.1 act.lsb act.width
  decide (1 ≤ a ∧ a ≤ 4) && decide ((e.id ^^^ BitVec.ofNat 29 (getBits f.2 id.lsb id.width)) &&& BitVec.ofNat 29 (getBits f.1 m.lsb m.width) = 0#29) &&
    (e.ide == f.2.getLsbD (Reg.CAN.FLT.ID.IDE 0 0).lsb)

/-- The first of the filters that matches a frame, with its ACTION (R529). -/
def fltFirst (l : List (Word × Word)) (e : CanFrame) : Option (Nat × Nat) :=
  let act := Reg.CAN.FLT.MASK.ACTION 0 0
  match l.findIdx? (fltMatch e) with
  | some k => some (k, getBits (l.getD k (0#32, 0#32)).1 act.lsb act.width)
  | none => none

/-- A frame as the bus carries it (R529): a base identifier is bits [10:0]. -/
def canOnBus (e : CanFrame) : CanFrame := if e.ide then e else { e with id := e.id &&& 0x7FF#29 }

/-- A good frame passes the filters `l` (R529). -/
def State.canAccept (s : State) (c : Fin 2) (f : CanFrame) (ns : Nat) (l : List (Word × Word)) : State :=
  let e := canOnBus f
  match fltFirst l e with
  | some (f, 1) => s.canStore c 0 e f ns
  | some (f, 2) => s.canStore c 1 e f ns
  | some (f, 3) => s.canStore c 2 e f ns
  | some _ => s
  | none =>
    (match s.get (Reg.CAN.CTRL.NOMATCH c.val) with
     | 1 => s.canStore c 0 e 0x3F ns
     | 2 => s.canStore c 1 e 0x3F ns
     | _ => s)

/-- The frame in a transmit buffer (R514). -/
def State.txFrame (s : State) (c : Fin 2) (b : Nat) : CanFrame :=
  let fdf := s.flag (Reg.CAN.TXB.HDR.FDF c.val b)
  let byte (i : Nat) : Byte := ((s.rd (Reg.CAN.TXB.DATA.addr c.val b (i / 4))) >>> (8 * (i % 4))).truncate 8
  { id := BitVec.ofNat 29 (s.get (Reg.CAN.TXB.ID.val c.val b)), ide := s.flag (Reg.CAN.TXB.ID.IDE c.val b)
    rtr := s.flag (Reg.CAN.TXB.ID.RTR c.val b) && !fdf
    dlc := BitVec.ofNat 4 (s.get (Reg.CAN.TXB.HDR.DLC c.val b)), fdf := fdf
    brs := s.flag (Reg.CAN.TXB.HDR.BRS c.val b) && fdf, esi := decide (s.canState c = 3)
    data := (List.range 64).map byte }

/-- The loop delay measured in an FD frame with BRS (R516). -/
def State.canDelay (s : State) (c : Fin 2) (e : CanFrame) (tdcv : BitVec 7) : State :=
  if s.flag (Reg.CAN.DBT.TDC_EN c.val) && e.fdf && e.brs then
    (s.put (Reg.CAN.STATUS.TDCV c.val) tdcv.toNat).setIf (decide (127 < tdcv.toNat + s.get (Reg.CAN.DBT.TDCO c.val))) (canCause c 12)
  else s

/-- TX_DONE (R516, R524, R527, R528, R533): the active frame completed; `tdcv` is the loop delay measured in it. -/
def execTxDone (c : Fin 2) (tdcv : BitVec 7) (ns : Nat) (s : State) : Host.Outcome State Fault Refusal :=
  match s.canActive c with
  | none => .next s
  | some b =>
    let e := s.txFrame c b.val
    let s1 := s.canDelay c e tdcv
    let s2 := ((s1.endTxb c b.val 1).setCan c { s1.can[c] with abort := s1.can[c].abort.set b false, sent := true }).put
      (Reg.CAN.STATUS.TX_BUSY c.val) 0
    let s3 := ((s2.put (Reg.CAN.ERR.TEC c.val) (s2.tec c - 1)).ackClear c).raise (canCause c 5)
    let s4 := s3.canConfine c .real
    let s5 := if s4.canMode c = 3 ∨ s4.canMode c = 4 then s4.canAccept c e (ns % 2 ^ 30) s.can[c].filters else s4
    .next (s5.statusAfter c)

/-- LEC or DLEC after an error (R536). -/
def State.lec (s : State) (c : Fin 2) (kind : Nat) (dataPhase : Bool) : State :=
  s.put (if dataPhase then Reg.CAN.ERR.DLEC c.val else Reg.CAN.ERR.LEC c.val) kind

/-- An attempt ended in an ACK error (R528). -/
def State.ackError (s : State) (c : Fin 2) : State :=
  let t := s.bump (Reg.CAN.COUNTS.ACK_RUN c.val)
  if t.get (Reg.CAN.COUNTS.ACK_RUN c.val) = 16 then (t.put (Reg.CAN.STATUS.ALONE c.val) 1).raise (canCause c 10) else t

/-- TEC after an error of an own frame (R513, R527): 8 more, but not for an ACK error met with a passive error flag during which no dominant bit
appeared (`noDominant`), nor for a stuff error of the arbitration at a recessive bit seen dominant; and 8 for each further sequence of dominant
bits after the flag. PRESUMED (log entry 106): the last two as in ISO 11898-1. -/
def State.tecError (s : State) (c : Fin 2) (e : CanError) (noDominant : Bool) : State :=
  let spare := (decide (e.code.val = 3) && decide (s.canState c = 3) && noDominant) || (decide (e.code.val = 1) && e.arbitration)
  s.put (Reg.CAN.ERR.TEC c.val) (min (s.tec c + (if spare then 0 else 8) + 8 * e.repeats) 256)

/-- Where a buffer goes whose attempt ended in an error (R524, R525). -/
def State.retryTxb (s : State) (c : Fin 2) (b : Fin 3) : State :=
  let lim := s.get (Reg.CAN.CTRL.RETRY_LIMIT c.val)
  if s.can[c].abort[b] then s.dropActive c b 1
  else if 0 < lim ∧ lim ≤ s.get (Reg.CAN.TXB.STATE.TRIES c.val b.val) then (s.endTxb c b.val 3).raise (canCause c 6)
  else s.setTxb c b.val 1

/-- The loop delay measured in a frame that ended in an error (R516). -/
def State.errorDelay (s : State) (c : Fin 2) (b : Fin 3) (e : CanError) : State :=
  match e.delay with
  | some v => s.canDelay c (s.txFrame c b.val) v
  | none => s

/-- CAN_TX_ERROR (R513, R516, R524 to R528): an attempt ended in an error. -/
def execCanTxError (c : Fin 2) (kind : CanError) (dataPhase noDominant : Bool) (s : State) :
    Host.Outcome State Fault Refusal :=
  match s.canActive c with
  | none => .next s
  | some b =>
    let s1 := (((s.errorDelay c b kind).lec c kind.code.val dataPhase).bump (Reg.CAN.TXB.STATE.TRIES c.val b.val)).tecError c kind noDominant
    let s2 := (if kind.code.val = 3 then s1.ackError c else s1).put (Reg.CAN.STATUS.TX_BUSY c.val) 0
    .next ((((s2.setCan c { s2.can[c] with sent := true }).retryTxb c b).statusAfter c).canConfine c .real)

/-- CAN_RESTART (R518): recovery starts; refused outside BUS_OFF and with AUTO_RECOVER. -/
def execCanRestart (c : Fin 2) (s : State) : Host.Outcome State Fault Refusal :=
  let a := Reg.CAN.CMD_STATUS.addr c.val
  if s.canState c ≠ 4 ∨ s.flag (Reg.CAN.CTRL.AUTO_RECOVER c.val) = true then .next (s.deny a (canCause c 15))
  else .next (((s.put (Reg.CAN.STATUS.RECOVERY c.val) 0).setCanState c 5).status a codeOk)

/-- RECOVERED (R518): the 128th occurrence of 11 recessive bits. -/
def execRecovered (c : Fin 2) (s : State) : Host.Outcome State Fault Refusal :=
  if s.canState c = 5 then
    let s1 := ((s.put (Reg.CAN.ERR.TEC c.val) 0).put (Reg.CAN.ERR.REC c.val) 0).put (Reg.CAN.STATUS.RECOVERY c.val) 128
    let s2 := (List.range 3).foldl (fun t b => if t.txb c b = 3 then t.setTxb c b 1 else t) s1
    .next (((s2.setCan c { s2.can[c] with fromBusOff := false }).setCanState c 2).raise (canCause c 9))
  else .next s

/-- CAN_CLEAR_STATS (R536). -/
def execCanClearStats (c : Fin 2) (s : State) : Host.Outcome State Fault Refusal :=
  .next (((s.put (Reg.CAN.COUNTS.BUSOFFS c.val) 0).put (Reg.CAN.COUNTS.RX_DROPS c.val) 0).status
    (Reg.CAN.CMD_STATUS.addr c.val) codeOk)

/-- Another node's frame goes on where this node's own lost arbitration to it, or stood selected (R522, R523): the buffer waits again. -/
def State.canLost (s : State) (c : Fin 2) : State :=
  (match s.canActive c with
    | some b => ((s.put (Reg.CAN.STATUS.TX_BUSY c.val) 0).dropChosen c).dropActive c b 1
    | none => s.dropChosen c).statusAfter c

/-- REC after a good reception (R513; PRESUMED, log entry 106: ISO 11898-1): one less; above 127 a value between 119 and 127, which one the standard
leaves open. -/
def State.recGood (s : State) (c : Fin 2) : State :=
  let r := s.rec_ c
  if 127 < r then
    let (v, s1) := s.fresh
    s1.put (Reg.CAN.ERR.REC c.val) (119 + v.toNat % 9)
  else s.put (Reg.CAN.ERR.REC c.val) (r - 1)

/-- CAN_FRAME_RECEIVED (R522, R529, R530, R532): a frame of another node. An own frame that lost arbitration to it waits
again; a recessive res bit starts protocol exception handling, or with PXHD is a form error. DESIGN CHOICE (log entry 105): the filters are those at the
command, since none tells of the start of another node's frame (R517). -/
def execCanFrameReceived (c : Fin 2) (sample : Sampled CanFrame) (resRecessive : Bool) (ns : Nat) (s0 : State) :
    Host.Outcome State Fault Refusal :=
  let s := s0.agreeFix sample.differs
  let frame := sample.value
  let st := s.canState c
  if (st = 2 ∨ st = 3) ∧ s.canMode c ≠ 3 then
    let s2 := s.canLost c
    let quiet := decide (s.canMode c = 1)
    if resRecessive && frame.fdf then
      if s2.flag (Reg.CAN.CTRL.PXHD c.val) then
        let t := s2.lec c 2 false
        .next (if quiet then t else (t.bump (Reg.CAN.ERR.REC c.val)).canConfine c .real)
      else .next ((s2.setCanState c 1).raise (canCause c 11))
    else
      let s3 := if quiet then s2 else (s2.recGood c).canConfine c .real
      .next ((s3.ackClear c).canAccept c frame (ns % 2 ^ 30) (s.canFilters c))
  else .next s

/-- CAN_RX_READ (R531): the head entry is latched; VALID reads 0 with an empty store. -/
def execCanRxRead (c : Fin 2) (f : Fin 3) (s : State) : Host.Outcome State Fault Refusal :=
  let x := s.can[c]
  match x.stores[f].head? with
  | none =>
    .next ((s.wr (Reg.CAN.RX.ID.addr c.val f.val) 0#32).setCan c { x with latched := x.latched.set f none })
  | some e =>
    let g := e.frame
    let s1 := s.setCan c { x with latched := x.latched.set f (some e.tag) }
    let s2 := s1.wr (Reg.CAN.RX.ID.addr c.val f.val)
      (BitVec.ofNat 32 (g.id.toNat + b2n g.ide * 2 ^ 29 + b2n g.rtr * 2 ^ 30 + 2 ^ 31))
    let s3 := s2.wr (Reg.CAN.RX.HDR.addr c.val f.val)
      (BitVec.ofNat 32 (g.dlc.toNat + b2n g.fdf * 16 + b2n g.brs * 32 + b2n g.esi * 64 + e.filter % 64 * 256))
    let s4 := s3.wr (Reg.CAN.RX.TS.addr c.val f.val) (BitVec.ofNat 32 (e.ns % 2 ^ 30))
    .next ((List.range 16).foldl (fun t i => t.wr (Reg.CAN.RX.DATA.addr c.val f.val i) (bytesWord g.data i)) s4)

/-- CAN_RX_POP (R531): the latched entry leaves the store if it is still the head. -/
def execCanRxPop (c : Fin 2) (f : Fin 3) (s : State) : Host.Outcome State Fault Refusal :=
  let x := s.can[c]
  match x.latched[f], x.stores[f] with
  | some t, e :: rest =>
    if e.tag = t then
      .next ((s.setCan c { x with stores := x.stores.set f rest, latched := x.latched.set f none }).canFill c)
    else .next s
  | _, _ => .next s

/-- CAN_INJECT (R388, R389, R535): a SHADOW one in any state. DESIGN CHOICE (log entry 105): a LIVE one only in ERROR_ACTIVE or ERROR_PASSIVE, from which
alone R518 lets TEC act. -/
def execCanInject (c : Fin 2) (cls : Nat) (s : State) : Host.Outcome State Fault Refusal :=
  let a := Reg.CAN.INJ_STATUS.addr c.val
  let tgt := s.get (Reg.CAN.INJ_TARGET.TARGET c.val)
  let bit := if tgt = 0 then 7 else if tgt = 1 then 8 else 10
  let up := decide (cls = 1) || decide (s.canState c = 2 ∨ s.canState c = 3)
  .next (s.inject a cls (canCause c 15) (decide (tgt ≤ 2) && up) (decide (tgt < 2)) tgt 0 (fun t live =>
    if live then
      let t1 := (t.put (Reg.CAN.ERR.TEC c.val) (if tgt = 0 then 128 else 256)).canConfine c .live
      t1.injEnd a codeActed
    else (t.setCauseM (canCause c bit) .shadow).injEnd a codePass))

/-- RECEIVE_ERROR (R513, R518, R522): an error while receiving; REC rises by 1, or by 8 as ISO 11898-1 says of a dominant bit after the
error flag; in RESTRICTED mode nothing counts (R533), and in LOOP_INTERNAL nothing is received. An own frame that lost arbitration waits again. -/
def execReceiveError (c : Fin 2) (kind : Fin 7) (dataPhase by8 : Bool) (s : State) : Host.Outcome State Fault Refusal :=
  let st := s.canState c
  if (st = 2 ∨ st = 3) ∧ s.canMode c ≠ 3 then
    let s1 := (s.canLost c).lec c kind.val dataPhase
    if s.canMode c = 1 then .next s1
    else .next ((s1.put (Reg.CAN.ERR.REC c.val) (min (s1.rec_ c + if by8 then 8 else 1) 255)).canConfine c .real)
  else .next s

/-- A read of STATUS while RECOVERING (R518, R536): no command tells of the occurrences before the 128th, so the count is free and never falls
(log entry 98). -/
def State.recoveryShown (s : State) (c : Fin 2) : State :=
  if s.canState c = 5 then
    let (v, s1) := s.fresh
    let n := s1.get (Reg.CAN.STATUS.RECOVERY c.val)
    s1.put (Reg.CAN.STATUS.RECOVERY c.val) (n + v.toNat % (128 - n))
  else s

/-- A frame of another node may be running (R536): no command tells of its start, so RX_BUSY is free here (log entry 98). -/
def State.mayReceive (s : State) (c : Fin 2) : Bool :=
  decide (s.canState c = 2 ∨ s.canState c = 3) && decide (s.canMode c ≠ 3) && !s.flag (Reg.CAN.STATUS.TX_BUSY c.val)

end Sys2Proof.Machine
end

