-- ==== Sys2Proof/Machine/Causes.lean ====
section
/-! DEFINITION. The class of every cause and the slots it applies to (R77, R375 and the cause tables of the chapters). -/

namespace Sys2Proof.Machine

/-- The class that FB_MODE of the slot a position channel names gives FB_LOST (R330). -/
def State.fbClass (s : State) (k : Nat) : Nat :=
  match s.get (Reg.DRIVE.SLOT.CFG.FB_MODE (s.get (Reg.POS.CH.CFG.SLOT k))) with
  | 0 => 1
  | 1 => 2
  | _ => 3

/-- The default class of a cause, from the tables of the chapters: R400, R349, R253, R365, R373, R451, R582, R98, R252, R281,
R127, R421, R160, R181, R216, R214, R335, R537, R512, R602, R449, R473, R30, R556. -/
def State.defaultClass (s : State) (c : Cause) : Nat :=
  match c.grp with
  | 0 => if c.bit = 0 then 2 else if c.bit ≤ 5 then 3 else 0
  | 2 => if c.bit ∈ [0, 1, 2, 4, 5] then 3 else if c.bit = 3 then 2 else if c.bit = 7 then 1 else 0
  | 3 => if c.bit ≤ 15 then 3 else 0
  | 4 => if c.bit = 10 then 4 else if c.bit = 3 then 3 else if c.bit = 6 then 2
    else if c.bit ∈ [0, 4, 7, 8, 9, 12] then 1 else 0
  | 5 => if c.bit ∈ [1, 2, 4, 8, 10] then 1 else 0
  | 6 => if c.bit ∈ [4, 10, 11, 13] then 1 else 0
  | 7 => if c.bit = 6 then 4 else if c.bit ∈ [1, 2, 5] then 1 else 0
  | 20 => 3
  | 21 => if c.bit ≤ 15 then 3 else if c.bit ≤ 19 then 1 else 0
  | 22 => if c.bit = 3 then 4 else if c.bit ∈ [2, 5] then 3 else if c.bit = 6 then 2 else if c.bit ∈ [4, 7, 8] then 1 else 0
  | 23 => if c.bit ∈ [17, 18, 20] then 1 else 0
  | 32 => if c.bit < 20 ∧ c.bit % 5 ∈ [2, 4] then 1 else 0
  | 33 => if c.bit < 16 ∧ c.bit % 4 = 2 then 1 else 0
  | 38 => if c.bit ∈ [3, 4, 6, 7, 8, 10, 12, 13] then 1 else 0
  | 39 => if c.bit ∈ [3, 4, 6, 7, 8, 10, 12, 13] then 1 else 0
  | 40 => if c.bit ∈ [0, 1, 2, 5, 7] then 1 else 0
  | 41 => if c.bit ∈ [1, 2, 3, 5, 8] then 1 else 0
  | 42 => if c.bit ∈ [1, 2, 3, 6, 7, 8] then 1 else 0
  | 43 => if c.bit ∈ [7, 8] then 1 else 0
  | 44 => if c.bit ∈ [2, 4] then 4 else if c.bit ∈ [0, 1, 3, 5, 7, 10] then 1 else 0
  | 45 => if c.bit ∈ [1, 2] then 1 else 0
  | 46 => if c.bit ∈ [3, 4] then 4 else if c.bit = 2 then 2 else if c.bit ∈ [0, 1] then 1 else 0
  | 47 => if c.bit ∈ [0, 2, 3] then 1 else 0
  | g =>
    if 8 ≤ g ∧ g ≤ 11 then (match c.bit % 4 with | 2 => 1 | 3 => 2 | _ => 0)
    else if 12 ≤ g ∧ g ≤ 19 then (match c.bit % 4 with | 2 => 1 | 3 => 0 | _ => 3)
    else if 24 ≤ g ∧ g ≤ 27 then
      (if c.bit = 17 then s.fbClass (g - 24) else if c.bit ∈ [1, 2, 6, 7, 8, 9, 12, 14, 15, 16] then 1 else 0)
    else if 28 ≤ g ∧ g ≤ 31 then (if c.bit ∈ [0, 2] then 3 else if c.bit = 1 then 1 else 0)
    else if 34 ≤ g ∧ g ≤ 37 then
      (if c.bit ∈ [1, 3, 4, 5] then 3 else if c.bit = 8 then 2 else if c.bit ∈ [2, 6, 7, 10] then 1 else 0)
    else 0

/-- One slot as a mask. -/
def slotMask (n : Nat) : Nat := 2 ^ n

/-- The mask of the slot of a leg; none for 255. -/
def State.legMask (s : State) (n : Nat) : Nat :=
  let k := (s.legRec n).slot
  if k < 4 then slotMask k else 0

/-- The slots a cause applies to without a FAULTGROUP entry (R375). -/
def State.defaultSlots (s : State) (c : Cause) : Nat :=
  let g := c.grp
  if g = 0 ∧ 1 ≤ c.bit ∧ c.bit ≤ 4 then slotMask (c.bit - 1)
  else if g = 2 then 1
  else if 8 ≤ g ∧ g ≤ 11 then s.legMask ((g - 8) * 8 + c.bit / 4)
  else if 12 ≤ g ∧ g ≤ 19 then
    (let r := s.chanRec ((g - 12) * 8 + c.bit / 4)
     if r.unmapped then 0 else s.legMask r.leg)
  else if g = 20 ∨ (g = 21 ∧ c.bit ≤ 15) then
    (let n := (g - 20) * 32 + c.bit
     let m := (List.range 4).foldl (fun m k =>
       if s.course.routes.any (fun r => r.srcClass == 1 && r.srcIndex == n && r.dstClass == 0x10 && r.slot == k) then
         m + slotMask k else m) 0
     if m = 0 then 15 else m)
  else if 24 ≤ g ∧ g ≤ 27 then
    (if s.flag (Reg.POS.CH.CFG.NOSLOT (g - 24)) then 0 else slotMask (s.get (Reg.POS.CH.CFG.SLOT (g - 24))))
  else if 28 ≤ g ∧ g ≤ 31 then slotMask (g - 28)
  else if g = 32 ∧ c.bit < 20 then slotMask (c.bit / 5)
  else if g = 33 ∧ c.bit < 16 then slotMask (c.bit / 4)
  else if 34 ≤ g ∧ g ≤ 37 then slotMask (g - 34)
  else 15

/-- The class in force of a cause (R77, R375). -/
def State.classOf (s : State) (c : Cause) : Nat :=
  match s.faultRec c with
  | some e => e.cls
  | none => s.defaultClass c

/-- The slots a cause applies to (R375). -/
def State.slotsOf (s : State) (c : Cause) : Nat :=
  match s.faultRec c with
  | some e => e.slots % 16
  | none => s.defaultSlots c

/-- Whether a slot lies in a slot mask. -/
def inMask (m : Nat) (i : Fin 4) : Bool := decide (m / 2 ^ i.val % 2 = 1)

/-- The causes set without a shadow mark (R377). -/
def State.realCauses (s : State) : List Cause :=
  (List.range 48).flatMap (fun g =>
    let w := s.causeWord g &&& ~~~(s.shadowWord g)
    if w = 0#32 then [] else (List.range 32).filterMap (fun b => if w.getLsbD b then some ⟨g, b⟩ else none))

/-- The class that stands for a set cause: the one to which an escalation raised a setting of it, else the class in force (R377,
R378). -/
def State.classNow (s : State) (c : Cause) : Nat :=
  match s.patrol.raised.find? (fun e => e.1 == c.grp && e.2.1 == c.bit) with
  | some e => max e.2.2 (s.classOf c)
  | none => s.classOf c

/-- Whether a set cause is one of slot i: by its slots, or by class F4, which acts on every slot (R374, R375). -/
def State.causeOf (s : State) (c : Cause) (i : Fin 4) : Bool :=
  decide (s.classNow c = 4) || inMask (s.slotsOf c) i

/-- A cause of class F3 or F4 of the slot is set (R306, R377). -/
def State.hardCause (s : State) (i : Fin 4) : Bool :=
  s.realCauses.any (fun c => decide (3 ≤ s.classNow c) && s.causeOf c i)

end Sys2Proof.Machine
end

