-- ==== Sys2Proof/Machine/Pos.lean ====
section
/-! DEFINITION. The position interfaces (chapter 5). -/

namespace Sys2Proof.Machine

/-- A cause of interface k (R160). -/
def posCause (k : Fin 4) (b : Nat) : Cause := ⟨24 + k.val, b⟩

/-- Replace an interface's record. -/
def State.setPos (s : State) (k : Fin 4) (x : PosCh) : State := { s with pos := s.pos.set k x }

/-- MODE of an interface (R158): 0 OFF, 1 QUAD, 2 HALL, 3 RESOLVER, 4 BISS_C, 5 SSI; OFF while disabled. -/
def State.posMode (s : State) (k : Fin 4) : Nat :=
  if s.flag (Reg.POS.CH.CFG.ENABLE k.val) then s.get (Reg.POS.CH.CFG.MODE k.val) else 0

/-- The slot of an interface, none with NOSLOT (R156). -/
def State.posSlot (s : State) (k : Fin 4) : Option (Fin 4) :=
  if s.flag (Reg.POS.CH.CFG.NOSLOT k.val) then none else some (Fin.ofNat 4 (s.get (Reg.POS.CH.CFG.SLOT k.val)))

/-- The interface that serves a slot (R156). -/
def State.servingPos (s : State) (i : Fin 4) : Option (Fin 4) :=
  (List.finRange 4).find? (fun k => decide (s.posSlot k = some i))

/-- POLE_PAIRS as R131 takes it. -/
def State.posPP (s : State) (k : Fin 4) : Nat :=
  match s.posSlot k with
  | some i => (s.slotRec i.val).polePairs
  | none => 1

/-- COUNTS_PER_TURN of the mode (chapter 5, first table). -/
def State.posCpt (s : State) (k : Fin 4) : Nat :=
  match s.get (Reg.POS.CH.CFG.MODE k.val) with
  | 1 => 4 * s.get (Reg.POS.CH.LINES.val k.val)
  | 2 => 6 * (match s.posSlot k with
      | some i => (s.slotRec i.val).polePairs
      | none => 1)
  | 3 => 65536 * s.get (Reg.POS.CH.RES_CFG.RES_PP k.val)
  | 4 => 2 ^ s.get (Reg.POS.CH.SER_CFG0.ST_BITS k.val)
  | 5 => 2 ^ s.get (Reg.POS.CH.SER_CFG0.ST_BITS k.val)
  | _ => 0

/-- Whether an interface's VALID is 1 (R134 to R137, R144, R149, R152 to R154): it runs, values exist, nothing holds VALID
at 0, and in QUAD the count has its reference. -/
def State.posValid (s : State) (k : Fin 4) : Bool :=
  let x := s.pos[k]
  match s.posMode k with
  | 0 => false
  | 1 => decide (x.bad = 0#10) && (x.homed || s.flag (Reg.POS.CH.CFG.NOREF k.val))
  | _ => decide (x.bad = 0#10) && x.base

/-- Speed in rpm from a travel in counts over CLK_CTL cycles (R138). -/
def speedOf (counts : Int) (cpt cycles : Nat) : Word :=
  if cpt = 0 ∨ cycles = 0 then f0 else fOfRat ((counts : Rat) / (cpt : Rat) * 60 * 300000000 / (cycles : Rat))

/-- The speed at an instant: while no edge arrives its magnitude is limited to one count over the time since the last
(R138). -/
def State.posSpeedAt (s : State) (k : Fin 4) (cycle : Nat) : Word :=
  let x := s.pos[k]
  match x.stamps, s.posMode k with
  | (_, t) :: _, m =>
    if m = 1 ∨ m = 2 then
      (if cycle ≤ t then x.speed
       else
         let lim := speedOf 1 (s.posCpt k) (cycle - t)
         if fLt lim (fAbs x.speed) then (if fNeg? x.speed then fNeg lim else lim) else x.speed)
    else x.speed
  | [], _ => x.speed

/-- The detector of a slot takes the speed of its interface at an instant (R210, R211): whether a valid one has reached STILL_SPEED in the
window, and whether it has once not. -/
def State.rotSampleSlot (s : State) (i : Fin 4) (cycle : Nat) : State :=
  let x := s.slalom[i]
  if x.rotBusy then
    let high := match (s.servingPos i).filter (fun k => s.posValid k) with
      | some k => fLe (s.rd (Reg.SLALOM.SL.STILL_SPEED.addr i.val)) (fAbs (s.posSpeedAt k cycle))
      | none => false
    { s with slalom := s.slalom.set i { x with rotHigh := x.rotHigh || high, rotLow := x.rotLow || !high } }
  else s

/-- The detector of the slot that an interface serves takes its speed. -/
def State.rotSample (s : State) (k : Fin 4) (cycle : Nat) : State :=
  match s.posSlot k with
  | some i => s.rotSampleSlot i cycle
  | none => s

/-- An interface changes; where its VALID falls while its slot is not OFF, FB_LOST is set with a mark, the first reason of the
episode is kept (R155), and a running detector of the slot finds no valid speed (R211). DESIGN CHOICE (log entry 97): the reason stays
after the episode, and a fall while the slot is OFF or none is served leaves it. -/
def State.posUpdM (s : State) (k : Fin 4) (x : PosCh) (reason : Nat) (m : Mark) : State :=
  let v0 := s.posValid k
  let s1 := s.setPos k x
  if v0 && !s1.posValid k then
    match s.posSlot k with
    | some i =>
      if (s.slot i).state = .off then s1.rotSample k 0
      else ((s1.setPos k { x with reason := reason }).rotSample k 0).raiseM (posCause k 17) m
    | none => s1
  else s1

/-- `State.posUpdM` where nothing is injected. -/
def State.posUpd (s : State) (k : Fin 4) (x : PosCh) (reason : Nat) : State := s.posUpdM k x reason .real

/-- Hold VALID at 0 for a reason (codes of STATUS.REASON, R158). -/
def State.posBadM (s : State) (k : Fin 4) (reason : Nat) (m : Mark) : State :=
  s.posUpdM k { s.pos[k] with bad := s.pos[k].bad ||| (1#10 <<< reason) } reason m

/-- `State.posBadM` where nothing is injected. -/
def State.posBad (s : State) (k : Fin 4) (reason : Nat) : State := s.posBadM k reason .real

/-- A reason holds VALID no more. -/
def State.posGood (s : State) (k : Fin 4) (reason : Nat) : State :=
  s.setPos k { s.pos[k] with bad := s.pos[k].bad &&& ~~~(1#10 <<< reason) }

/-- SOFT_MIN and SOFT_MAX (R151). -/
def State.softMin (s : State) (k : Fin 4) : Int :=
  signedOf 48 (s.get (Reg.POS.CH.SOFT_MIN_LO.LO k.val) + s.get (Reg.POS.CH.SOFT_MIN_HI.HI k.val) * 2 ^ 32)
/-- See `State.softMin`. -/
def State.softMax (s : State) (k : Fin 4) : Int :=
  signedOf 48 (s.get (Reg.POS.CH.SOFT_MAX_LO.LO k.val) + s.get (Reg.POS.CH.SOFT_MAX_HI.HI k.val) * 2 ^ 32)

/-- POS takes a value, and the count another: POS stops at its bounds, and standing at one it was to pass sets SAT and SOFT_LIMIT
(R151). A frozen sensor (R153) is valid again once POS has left its value at the freeze by more than FREEZE_DELTA. DESIGN CHOICE (log
entry 97): a write of SOFT_MIN or SOFT_MAX does not move POS; the next count does. -/
def State.posPlace (s : State) (k : Fin 4) (cnt p : Int) : State :=
  let hi := decide (s.softMax k < p)
  let lo := decide (p < s.softMin k)
  let x := s.pos[k]
  let q := if hi then s.softMax k else if lo then s.softMin k else p
  let thawed := decide (s.get (Reg.POS.CH.FREEZE.FREEZE_DELTA k.val) < (q - x.frzRef).natAbs)
  let s1 := s.setPos k { x with
    cnt := cnt, pos := q, satHi := hi, satLo := lo, bad := if thawed then x.bad &&& ~~~(1#10 <<< 8) else x.bad }
  s1.setIf (hi || lo) (posCause k 16)

/-- The count moves by d counts of the interface. -/
def State.posShift (s : State) (k : Fin 4) (d : Int) : State :=
  if d = 0 then s else s.posPlace k (s.pos[k].cnt + d) (s.pos[k].pos + d)

/-- The count moves by d counts of the sensor; DIR_INV reverses the direction (R129). -/
def State.posMove (s : State) (k : Fin 4) (d : Int) : State :=
  s.posShift k (if s.flag (Reg.POS.CH.CFG.DIR_INV k.val) then -d else d)

/-- The count is set anew: homing and PRESET (R135, R157). The stamps move with it, so that the speed keeps its edges (R136, R138). -/
def State.posRebase (s : State) (k : Fin 4) (p : Int) : State :=
  let x := s.pos[k]
  let s1 := s.posPlace k p p
  s1.setPos k { s1.pos[k] with homed := true, stamps := x.stamps.map (fun q => (q.1 + (p - x.cnt), q.2)), bad := x.bad &&& 0x3F5#10 }

/-- An edge or a frame at position `p` is stamped and the speed formed from up to SPAN + 1 stamps in one direction; at a
change of direction the interval is discarded, the speed reads 0.0 and the span restarts (R138, R139). `dir` is the direction of
the edge or of the motion since the frame before, 1 = negative; none for a frame without motion (R148). -/
def State.posMeasure (s : State) (k : Fin 4) (dir : Option Bool) (cycle : Nat) : State :=
  let x := { s.pos[k] with atEnd := false }
  let p := x.cnt
  let span := s.get (Reg.POS.CH.SPEED_CFG.SPAN k.val) + 1
  let neg := dir.getD x.dirNeg
  if x.dirSeen ∧ neg ≠ x.dirNeg then
    s.setPos k { x with stamps := [(p, cycle)], dirNeg := neg, speed := f0 }
  else
    let st := ((p, cycle) :: x.stamps).take (span + 1)
    let v := match st.getLast? with
      | some (p0, t0) => if st.length < 2 then x.speed else speedOf (p - p0) (s.posCpt k) (cycle - t0)
      | none => x.speed
    s.setPos k { x with stamps := st, dirNeg := neg, dirSeen := x.dirSeen || dir.isSome, speed := v }

/-- A stamp, with the speed as a running detector finds it before and after. -/
def State.posStamp (s : State) (k : Fin 4) (dir : Option Bool) (cycle : Nat) : State :=
  ((s.rotSample k cycle).posMeasure k dir cycle).rotSample k cycle

/-- An illegal transition counts; beyond ILLEGAL_LIMIT in its window it takes VALID and HOMED (R134). -/
def State.posIllegal (s : State) (k : Fin 4) : State :=
  let s1 := ((s.setPos k { s.pos[k] with illWin := s.pos[k].illWin + 1 }).bump (Reg.POS.CH.COUNTERS.ILLEGAL k.val)).raise
    (posCause k 0)
  if s.get (Reg.POS.CH.LIMITS.ILLEGAL_LIMIT k.val) < s.pos[k].illWin + 1 then
    (s1.posUpd k { s1.pos[k] with homed := false, bad := s1.pos[k].bad ||| (1#10 <<< 1) } 1).raise (posCause k 1)
  else s1

/-- The step of a quadrature transition from (a, b): +1 along the cycle in which A leads. -/
def quadStep (a b a' b' : Bool) : Int :=
  let fwd := if a ≠ a' then (a' != b) else (b' == a)
  if fwd then 1 else -1

/-- QUAD_EDGE (R134): the filtered levels after a sample. -/
def execQuadEdge (k : Fin 4) (a b : Bool) (cycle : Nat) (s : State) : Host.Outcome State Fault Refusal :=
  let x := s.pos[k]
  if s.posMode k ≠ 1 then .next s
  else
    let s1 := s.setPos k { x with a := a, b := b, tstamp := cycle }
    if x.a ≠ a ∧ x.b ≠ b then .next (s1.posIllegal k)
    else if x.a = a ∧ x.b = b then .next s
    else
      let d0 := quadStep x.a x.b a b
      let d := if Config.quadForward then d0 else -d0
      let s2 := s1.posMove k d
      .next (s2.posStamp k (some (decide (d < 0) != s.flag (Reg.POS.CH.CFG.DIR_INV k.val))) cycle)

/-- ILL_WINDOW_END (R134): the window restarts. In HALL mode, which has no homing, a window that kept its limit lets VALID
return (DEDUCED). -/
def execIllWindowEnd (k : Fin 4) (s : State) : Host.Outcome State Fault Refusal :=
  let s1 := s.setPos k { s.pos[k] with illWin := 0 }
  let ok := decide (s.pos[k].illWin ≤ s.get (Reg.POS.CH.LIMITS.ILLEGAL_LIMIT k.val))
  .next (if s.posMode k = 2 ∧ ok = true then s1.posGood k 1 else s1)

/-- The deviation of a count from the nearest multiple of COUNTS_PER_TURN (R135). DESIGN CHOICE (log entry 97): exactly halfway between
two multiples the lower one counts as the nearest, which gives +COUNTS_PER_TURN / 2. -/
def indexDev (c : Int) (cpt : Nat) : Int :=
  if cpt = 0 then 0 else
    let r := c % (cpt : Int)
    if (cpt : Int) < 2 * r then r - cpt else r

/-- INDEX_EVENT (R135, R136): a rising edge of Z while A and B hold the levels of QUAL; in a sample with an illegal
transition it is ignored. -/
def execIndexEvent (k : Fin 4) (illegal : Bool) (s : State) : Host.Outcome State Fault Refusal :=
  let x := s.pos[k]
  let q := s.get (Reg.POS.CH.INDEX.QUAL k.val)
  let qual := (x.a == decide (q / 2 % 2 = 1)) && (x.b == decide (q % 2 = 1))
  if s.posMode k ≠ 1 || illegal || !qual then .next s
  else if !x.homed then
    .next (s.posRebase k 0)
  else
    let mode := s.get (Reg.POS.CH.INDEX.INDEX_MODE k.val)
    if mode = 0 then .next s
    else
      let dev := indexDev x.cnt (s.posCpt k)
      let s1 := s.wr (Reg.POS.CH.INDEX_DEV.addr k.val) (BitVec.ofInt 32 dev)
      let mag := dev.natAbs
      if mag = 0 then .next s1
      else if mag ≤ s.get (Reg.POS.CH.INDEX.INDEX_TOL k.val) then
        (if mode = 2 then
          .next (((s1.setPos k { x with stamps := x.stamps.map (fun p => (p.1 - dev, p.2)) }).posShift k (-dev)).raise (posCause k 5))
        else .next (s1.raise (posCause k 4)))
      else
        (match mode with
         | 2 => .next (s1.raise (posCause k 6))
         | 3 => .next ((s1.posUpd k { x with homed := false, bad := x.bad ||| (1#10 <<< 3) } 3).raise (posCause k 6))
         | _ => .next (s1.raise (posCause k 4)))

/-- SPEED_ZERO_TIMEOUT (R138): no edge for ZERO_TIME. A Hall angle that the interpolation has carried to the sector's end by then stays
there until the next edge (R141). -/
def execSpeedZeroTimeout (k : Fin 4) (s : State) : Host.Outcome State Fault Refusal :=
  let x := s.pos[k]
  let turns : Rat := fRat x.speed / 60 * s.posPP k * (s.get (Reg.POS.CH.SPEED_CFG.ZERO_TIME k.val) : Rat) / 1000
  if s.posMode k = 1 ∨ s.posMode k = 2 then
    .next (State.rotSample (s.setPos k { x with
      speed := f0, atEnd := x.atEnd || decide (2 ≤ x.stamps.length ∧ 1 / 6 ≤ turns) }) k 0)
  else .next s

/-- The sector of a legal Hall code (R140). -/
def hallSector (code : Nat) : Option Nat :=
  match code with
  | 5 => some 0 | 4 => some 1 | 6 => some 2 | 2 => some 3 | 3 => some 4 | 1 => some 5 | _ => none

/-- HALL_EDGE (R140, R141): a filtered code change. A step of two or three sectors counts as illegal and does not count;
the sector follows the code (DEDUCED). -/
def execHallEdge (k : Fin 4) (code : Fin 8) (cycle : Nat) (s : State) : Host.Outcome State Fault Refusal :=
  if s.posMode k ≠ 2 then .next s
  else
    let x := s.pos[k]
    match hallSector code.val with
    | none => .next (((s.setPos k { x with hall := code.val }).raise (posCause k 3)).posIllegal k)
    | some sec =>
      let s1 := s.setPos k { x with hall := code.val, sector := sec, base := true, tstamp := cycle }
      if !x.base then .next s1
      else
        match (sec + 6 - x.sector) % 6 with
        | 0 => .next s1
        | 1 => .next ((s1.posMove k 1).posStamp k (some (s.flag (Reg.POS.CH.CFG.DIR_INV k.val))) cycle)
        | 5 => .next ((s1.posMove k (-1)).posStamp k (some (!s.flag (Reg.POS.CH.CFG.DIR_INV k.val))) cycle)
        | _ => .next ((s1.raise (posCause k 3)).posIllegal k)

/-- A monitor acts: its reason holds VALID at 0 and its cause is set. -/
def State.monAct (s : State) (k : Fin 4) (bit reason : Nat) (m : Mark) : State :=
  (s.posBadM k reason m).raiseM (posCause k bit) m

/-- A run of successive failures of a monitor: 8 of them set its cause and hold VALID (R144). DESIGN CHOICE (log entry 97): the first
period or update without the condition lets VALID return; R144 names no return. -/
def State.posMonitor (s : State) (k : Fin 4) (run bit reason : Nat) (bad : Bool) : State :=
  if bad then (if run = 8 then s.monAct k bit reason .real else s) else s.posGood k reason

/-- The excitation frequency in Hz (R142). -/
def excHz (code : Nat) : Nat :=
  match code with
  | 0 => 4000 | 1 => 5000 | 2 => 8000 | 3 => 10000 | 4 => 12500 | 5 => 16000 | _ => 20000

/-- The steady-state error of the tracking loop under a constant angular acceleration α in rad/s² at the resolver (R143), in resolver
cycles: α over the square of 2π × 50 Hz × BW, none at constant speed. -/
def loopLag (alpha : Rat) (bw : Nat) : Rat :=
  let w : Rat := 2 * piQ * 50 * (bw : Rat)
  alpha / (w * w) / (2 * piQ)

/-- RESOLVER_UPDATE (R143, R144): the resolver's angle (2^−16 cycle), the tracked speed in resolver cycles per second and the tracking
error in resolver cycles, which is `error` while the loop settles and that of R143 under a lasting acceleration. The loop's output is the
angle less the error. A resolver frequency above an eighth of the excitation sets RES_LOT. DESIGN CHOICE (log entry 69): the first update moves
POS by nothing; the spec says only that POS counts resolver cycles. -/
def execResolverUpdate (k : Fin 4) (shaft : BitVec 16) (rate error : Rat) (steady : Option Rat) (cycle : Nat) (s : State) :
    Host.Outcome State Fault Refusal :=
  if s.posMode k ≠ 3 then .next s
  else
    let x := s.pos[k]
    let error : Rat := match steady with
      | some alpha => loopLag alpha (s.get (Reg.POS.CH.RES_CFG.BW k.val))
      | none => error
    let angle := shaft - BitVec.ofInt 16 ((error * 65536 + 1 / 2).floor)
    let d := if x.loopSeen then (angle - x.loop).toInt else 0
    let s1 := s.posMove k d
    let bound : Rat := (s.get (Reg.POS.CH.RES_MON.LOT_BOUND k.val) : Rat) / 1024
    let far := decide (bound < error ∨ bound < -error)
    let fast := decide ((excHz (s.get (Reg.POS.CH.RES_CFG.EXC_FREQ k.val)) : Rat) / 8 < rate ∨
      (excHz (s.get (Reg.POS.CH.RES_CFG.EXC_FREQ k.val)) : Rat) / 8 < -rate)
    let rpm := rate / (s.get (Reg.POS.CH.RES_CFG.RES_PP k.val) : Rat) * 60
    let inv := s.flag (Reg.POS.CH.CFG.DIR_INV k.val)
    let run := if far then min (s1.pos[k].lotRun + 1) 9 else 0
    let y := { s1.pos[k] with
      base := true, loop := angle, loopSeen := true, rate := rate, tstamp := cycle, lotRun := run
      speed := fOfRat (if inv then -rpm else rpm), dirNeg := decide (rate < 0) != inv }
    let s2 := s1.setPos k y
    let s3 := s2.rotSample k cycle
    if fast then .next (if y.bad.getLsbD 5 then s3 else (s3.posBad k 5).raise (posCause k 8))
    else .next (s3.posMonitor k run 8 5 far)

/-- RES_MONITOR (R144): amplitude in V rms and excitation current peak in mA over an excitation period. -/
def execResMonitor (k : Fin 4) (amplitude current : Rat) (limited : Bool) (s : State) :
    Host.Outcome State Fault Refusal :=
  if s.posMode k ≠ 3 then .next s
  else
    let lo : Rat := (s.get (Reg.POS.CH.RES_MON.AMP_MIN k.val) : Rat) / 256 * 4
    let hi : Rat := (s.get (Reg.POS.CH.RES_MON.AMP_MAX k.val) : Rat) / 256 * 4
    let los := decide (amplitude < lo ∨ hi < amplitude)
    let exc := decide (current < (s.get (Reg.POS.CH.RES_MON.EXC_MIN k.val) : Rat)) || limited
    let r1 := if los then min (s.pos[k].losRun + 1) 9 else 0
    let r2 := if exc then min (s.pos[k].excRun + 1) 9 else 0
    let s1 := s.setPos k { s.pos[k] with amp := amplitude, losRun := r1, excRun := r2 }
    let s2 := if los then (if r1 = 8 then s1.heldAct 6 k.val (fun t => t.monAct k 7 4 .real) else s1)
      else (s1.heldEnd 6 k.val).posGood k 4
    .next (s2.posMonitor k r2 9 6 exc)

/-- RES_PHASE_MEASURE (R145): with PHASE_AUTO, once the amplitude of a valid signal fell below half of its value at L7. -/
def execResPhaseMeasure (k : Fin 4) (phase : BitVec 16) (s : State) : Host.Outcome State Fault Refusal :=
  if s.posMode k = 3 ∧ s.flag (Reg.POS.CH.RES_CFG.PHASE_AUTO k.val) = true ∧ s.posValid k = true ∧
      s.pos[k].amp * 2 < s.pos[k].amp7 then
    .next (s.put (Reg.POS.CH.RES_PHASE.PHASE k.val) phase.toNat)
  else .next s

/-- A frame is discarded with the cause of each of its failures (R149): ERR_LIMIT in a row hold VALID. -/
def State.posDiscard (s : State) (k : Fin 4) (bits : List Nat) : State :=
  let r := s.pos[k].errRun + 1
  let s1 := bits.foldl (fun u b => u.raise (posCause k b)) (s.setPos k { s.pos[k] with errRun := r })
  if s.get (Reg.POS.CH.LIMITS.ERR_LIMIT k.val) ≤ r then s1.posBad k 7 else s1

/-- SER_FRAME_START (R146 to R149): a trigger during a frame starts none; SDA must read high before it. The sampling
instant is the first falling edge of SCK plus SENSOR_LAT ns. DESIGN CHOICE (log entry 97): SENSOR_LAT is rounded down to whole CLK_CTL
cycles; a trigger that starts no frame counts among the ERR_LIMIT discarded ones, and a running frame goes on. -/
def execSerFrameStart (k : Fin 4) (sdaHigh : Bool) (cycle : Nat) (s : State) : Host.Outcome State Fault Refusal :=
  if s.posMode k ≠ 4 ∧ s.posMode k ≠ 5 then .next s
  else if s.pos[k].frameRun || !sdaHigh then .next (s.posDiscard k [10])
  else
    .next (s.setPos k { s.pos[k] with
      frameRun := true, frameAt := cycle + s.get (Reg.POS.CH.SER_LAT.SENSOR_LAT k.val) * 3 / 10 })

/-- One step of a CRC over a bit, most significant first (R146): `w` bits, polynomial without its leading term. -/
def crcStep (w poly acc : Nat) (b : Bool) : Nat :=
  let top := decide (acc / 2 ^ (w - 1) % 2 = 1) != b
  let sh := (acc * 2) % 2 ^ w
  if top then Nat.xor sh (poly % 2 ^ w) else sh

/-- The CRC of the n low bits of a number, most significant first, start value 0. -/
def crcBits (w poly data : Nat) : Nat → Nat → Nat
  | 0, acc => acc
  | n + 1, acc => crcBits w poly data n (crcStep w poly acc (decide (data / 2 ^ n % 2 = 1)))

/-- Gray code to binary, n bits. -/
def grayDecode (g : Nat) : Nat → Nat
  | 0 => 0
  | n + 1 => Nat.xor (g / 2 ^ 0) (grayDecode (g / 2) n)

/-- Bits set in the n low bits. -/
def onesIn (x : Nat) : Nat → Nat
  | 0 => 0
  | n + 1 => x % 2 + onesIn (x / 2) n

/-- SER_FRAME_END (R146 to R150): `data` holds the position and status bits as received, first bit highest. Discarded: SDA
not back high, CRC or parity mismatch, an active error bit; each sets its cause. The status bits are active low, error first, then
warning. DESIGN CHOICE (log entry 97): a warning bit beside an active error bit sets SENSOR_WARN too. -/
def execSerFrameEnd (k : Fin 4) (data crc : Nat) (parity sdaHigh : Bool) (s : State) :
    Host.Outcome State Fault Refusal :=
  let x := s.pos[k]
  let mode := s.posMode k
  if (mode ≠ 4 ∧ mode ≠ 5) ∨ x.frameRun = false then .next s
  else
    let st := s.get (Reg.POS.CH.SER_CFG0.ST_BITS k.val)
    let mt := s.get (Reg.POS.CH.SER_CFG0.MT_BITS k.val)
    let sb := min (s.get (Reg.POS.CH.SER_CFG0.STATUS_BITS k.val)) 2
    let w := s.get (Reg.POS.CH.SER_CFG1.CRC_LEN k.val)
    let poly := s.get (Reg.POS.CH.SER_CFG1.CRC_POLY k.val)
    let d := data % 2 ^ (mt + st + sb)
    let want0 := if w = 0 then 0 else crcBits w poly d (mt + st + sb) 0
    let want := if s.flag (Reg.POS.CH.SER_CFG1.CRC_INV k.val) then 2 ^ w - 1 - want0 else want0
    let par := s.get (Reg.POS.CH.SER_CFG0.PARITY k.val)
    let odd := decide ((onesIn d (mt + st + sb) + b2n parity) % 2 = 1)
    let crcBad := (decide (mode = 4) && decide (0 < w) && decide (crc % 2 ^ w ≠ want)) ||
      (decide (mode = 5) && ((decide (par = 1) && odd) || (decide (par = 2) && !odd)))
    let err := decide (1 ≤ sb) && decide (d / 2 ^ (sb - 1) % 2 = 0)
    let warn := decide (sb = 2) && decide (d % 2 = 0)
    let s0 := s.setPos k { x with frameRun := false }
    let s1 := s0.setIf (warn && sdaHigh && !crcBad) (posCause k 13)
    let failures := (if sdaHigh then [] else [10]) ++ (if crcBad then [11] else []) ++ (if err then [12] else [])
    if failures ≠ [] then
      .next ((if crcBad then s1.bump (Reg.POS.CH.COUNTERS.CRC_ERRS k.val) else s1).posDiscard k failures)
    else
      let raw0 := d / 2 ^ sb
      let raw := if mode = 5 ∧ s.flag (Reg.POS.CH.SER_CFG0.GRAY k.val) = true then grayDecode raw0 (mt + st) else raw0
      let n := mt + st
      match x.lastFrame with
      | none =>
        let p := signedOf n raw
        let p := if s.flag (Reg.POS.CH.CFG.DIR_INV k.val) then -p else p
        let s3 := s1.posPlace k p p
        .next ((s3.setPos k { s3.pos[k] with
          lastFrame := some raw, base := true, errRun := 0, tstamp := x.frameAt, stamps := [(p, x.frameAt)], dirSeen := false
          bad := s3.pos[k].bad &&& ~~~(1#10 <<< 7) }))
      | some r0 =>
        let diff := signedOf n ((raw + 2 ^ n - r0 % 2 ^ n) % 2 ^ n)
        let s2 := s1.posMove k diff
        let s3 := s2.setPos k { s2.pos[k] with
          lastFrame := some raw, errRun := 0, tstamp := x.frameAt, bad := s2.pos[k].bad &&& ~~~(1#10 <<< 7) }
        if diff = 0 then .next (s3.posStamp k none x.frameAt)
        else .next (s3.posStamp k (some (decide (diff < 0) != s.flag (Reg.POS.CH.CFG.DIR_INV k.val))) x.frameAt)

/-- SER_TIMEOUT (R149): the frame is discarded with FRAME_ERR. -/
def execSerTimeout (k : Fin 4) (s : State) : Host.Outcome State Fault Refusal :=
  if s.pos[k].frameRun then .next ((s.setPos k { s.pos[k] with frameRun := false }).posDiscard k [10]) else .next s

/-- A fraction of a turn as ANGLE counts. DESIGN CHOICE (log entry 70): what does not fit 32 bits is cut off; R131 names no rounding. -/
def angleOf (q : Rat) : Word := BitVec.ofNat 32 (((q - (q.floor : Rat)) * (2 ^ 32 : Nat)).floor.toNat % 2 ^ 32)

/-- Turns as a routed angle: binary32 radians from 0 to 2π (R128). -/
def radOf (a : Word) : Word := fOfRat ((a.toNat : Rat) / (2 ^ 32 : Nat) * 2 * piQ)

/-- The electrical angle at an instant (R131, R132, R141), in ANGLE units; `adv` where the instant is a task's trigger. DESIGN CHOICE (log
entry 97): a Hall speed below zero, as every forward rotation with DIR_INV = 1 has, adds nothing, so the angle holds the start of the
sector; R141 speaks of the end alone. -/
def State.posAngleAt (s : State) (k : Fin 4) (cycle : Nat) (adv : Bool) : Word :=
  let x := s.pos[k]
  let off := s.rd (Reg.POS.CH.ANGLE_OFFSET.addr k.val)
  let pp := s.posPP k
  let cpt := s.posCpt k
  let age : Rat := ((cycle - x.tstamp : Nat) : Rat) / 300000000
  let base : Rat := if cpt = 0 then 0 else (x.cnt : Rat) * pp / cpt
  let rps : Rat := fRat x.speed / 60
  match s.posMode k with
  | 2 =>
    let top : Rat := 1 / 6 - 1 / (2 ^ 32 : Nat)
    let step : Rat := if s.flag (Reg.POS.CH.CFG.INTERP k.val) && decide (2 ≤ x.stamps.length) then
        (if x.atEnd then top else rps * pp * age) else 0
    let step := if step < 0 then 0 else min step top
    angleOf ((x.sector : Rat) / 6 + step) + off
  | 3 =>
    let turn : Rat := (x.loop.toNat : Rat) / 65536 * pp / (s.get (Reg.POS.CH.RES_CFG.RES_PP k.val) : Rat)
    angleOf ((if s.flag (Reg.POS.CH.CFG.DIR_INV k.val) then -turn else turn) + if adv then rps * pp * age else 0) + off
  | 4 => angleOf (base + if adv && s.flag (Reg.POS.CH.SER_CFG0.EXTRAP k.val) then rps * pp * age else 0) + off
  | 5 => angleOf (base + if adv && s.flag (Reg.POS.CH.SER_CFG0.EXTRAP k.val) then rps * pp * age else 0) + off
  | _ => angleOf base + off

/-- The values of the interfaces of a task travel at its trigger instant (R128 to R132). -/
def State.routePos (s : State) (t : Fin 8) (cycle : Nat) : State :=
  (List.finRange 4).foldl (fun u k =>
    if u.posMode k ≠ 0 ∧ u.get (Reg.POS.CH.CFG.TASK k.val) = t.val then
      let v := u.posValid k
      let cpt := u.posCpt k
      let turns := if cpt = 0 then f0 else fOfRat ((u.pos[k].pos : Rat) / (cpt : Rat))
      ((u.route 2 k.val { val := radOf (u.posAngleAt k cycle true), valid := v }).route 3 k.val
        { val := u.posSpeedAt k cycle, valid := v }).route 4 k.val { val := turns, valid := v }
    else u) s

/-- STATUS of an interface (R158). -/
def State.posStatus (s : State) (k : Fin 4) : Word :=
  let x := s.pos[k]
  BitVec.ofNat 32 (b2n (s.posValid k) + b2n x.homed * 2 + b2n x.dirNeg * 4 + b2n x.satHi * 8 + b2n x.satLo * 16 +
    x.sector * 32 + x.hall * 256 + x.wires.toNat * 4096 + x.reason * 65536)

/-- POS_ANGLE_READ (R133): a read of ANGLE returns the angle and latches the rest of the same instant. DESIGN CHOICE (log entry 71): in
QUAD the sampling instant of a read is its own cycle, in HALL the last edge, in the other modes that of the last loop output or frame,
whose angle is not advanced; the spec states an advance for a task's trigger only. -/
def execPosAngleRead (k : Fin 4) (cycle : Nat) (s : State) : Host.Outcome State Fault Refusal :=
  let x := s.pos[k]
  let p := codeOf 48 x.pos
  .next ((((((s.wr (Reg.POS.CH.ANGLE.addr k.val) (s.posAngleAt k cycle false)).wr
    (Reg.POS.CH.SPEED.addr k.val) (s.posSpeedAt k cycle)).wr
    (Reg.POS.CH.POS_LO.addr k.val) (BitVec.ofNat 32 p)).wr
    (Reg.POS.CH.POS_HI.addr k.val) (BitVec.ofNat 32 (p / 2 ^ 32))).wr
    (Reg.POS.CH.TSTAMP.addr k.val) (BitVec.ofNat 32 (if s.posMode k ≤ 1 then cycle else x.tstamp))).wr
    (Reg.POS.CH.STATUS.addr k.val) (s.posStatus k))

/-- The mode of an interface uses a pair: 0 A, 1 B, 2 Z, 3 SDA (R152). -/
def State.pairUsed (s : State) (k : Fin 4) (pair : Nat) : Bool :=
  let m := s.posMode k
  decide (m = 1 ∧ pair ≤ 2 ∨ (m = 4 ∨ m = 5) ∧ pair = 3)

/-- The wire comparators of a pair act (R152). In QUAD mode HOMED clears. -/
def State.wireAct (s : State) (k : Fin 4) (pair : Nat) (m : Mark) : State :=
  let x := s.pos[k]
  (s.posUpdM k { x with
    wires := x.wires ||| (1#4 <<< pair), bad := x.bad ||| (1#10 <<< 2)
    homed := x.homed && decide (s.posMode k ≠ 1) } 2 m).raiseM (posCause k 2) m

/-- WIRE_FAULT (R152): both wires of a pair in one class for longer than WIRE_TIME. -/
def execWireFault (k : Fin 4) (pair : Fin 4) (s : State) : Host.Outcome State Fault Refusal :=
  if s.pairUsed k pair.val then
    .next (s.heldAct 4 (4 * k.val + pair.val) (fun t => t.wireAct k pair.val .real))
  else .next s

/-- WIRE_RECOVER (R152): 1 ms after every pair has left the condition. DESIGN CHOICE (log entry 97): the bits of STATUS.WIRES stand until
then and clear together. -/
def execWireRecover (k : Fin 4) (s : State) : Host.Outcome State Fault Refusal :=
  let s1 := (List.range 4).foldl (fun t p => t.heldEnd 4 (4 * k.val + p)) s
  .next ((s1.setPos k { s1.pos[k] with wires := 0#4 }).posGood k 2)

/-- The slot of an interface is OFF or STOPPED, or it serves none (R157). -/
def State.posResting (s : State) (k : Fin 4) : Bool :=
  match s.posSlot k with
  | some i => (s.slot i).state.resting
  | none => true

/-- POS_PRESET (R157): `edge` is a count edge in the same cycle, −1, 0 or 1. -/
def execPosPreset (k : Fin 4) (edge : BitVec 2) (s : State) : Host.Outcome State Fault Refusal :=
  let a := Reg.POS.CH.CMD_STATUS.addr k.val
  if s.posResting k then
    let p := signedOf 48 (s.get (Reg.POS.CH.PRESET_LO.LO k.val) + s.get (Reg.POS.CH.PRESET_HI.HI k.val) * 2 ^ 32)
    .next (((s.posRebase k p).posMove k edge.toInt).status a codeOk)
  else .next (s.deny a (posCause k 19))

/-- CLEAR_HOMED (R157). -/
def execClearHomed (k : Fin 4) (s : State) : Host.Outcome State Fault Refusal :=
  .next ((s.posUpd k { s.pos[k] with homed := false } 0).status (Reg.POS.CH.CMD_STATUS.addr k.val) codeOk)

/-- POS_CLEAR_COUNTERS (R157). -/
def execPosClearCounters (k : Fin 4) (s : State) : Host.Outcome State Fault Refusal :=
  .next (((s.put (Reg.POS.CH.COUNTERS.ILLEGAL k.val) 0).put (Reg.POS.CH.COUNTERS.CRC_ERRS k.val) 0).status
    (Reg.POS.CH.CMD_STATUS.addr k.val) codeOk)

/-- A Carve output port as last transferred. -/
def State.outPort (s : State) (slot port : Nat) : Word := s.rd (Reg.CARVE.OUT.addr slot port)

/-- POS at the checks of R153 over the window that starts at `start`, newest first: those after it and the latest of the others. -/
def frzKeep (start : Nat) : List (Int × Nat) → List (Int × Nat)
  | [] => []
  | p :: l => if p.2 ≤ start then [p] else p :: frzKeep start l

/-- The frozen-sensor check after a task of the slot (R153); `cycle` is the END in CLK_CTL cycles. POS over the last FREEZE_TIME is what
it was at the checks in that time; no two of them may differ by more than FREEZE_DELTA. -/
def State.posFreeze (s : State) (k i : Fin 4) (cycle : Nat) : State :=
  let x := s.pos[k]
  let span := s.get (Reg.POS.CH.FREEZE.FREEZE_TIME k.val) * 300000
  let pulls := fLt (s.rd (Reg.POS.CH.FREEZE_TORQUE.addr k.val))
    (fAbs (s.outPort i.val (s.get (Reg.POS.CH.FREEZE.TORQ_PORT k.val))))
  let since := if pulls then some (x.frzAt.getD cycle) else none
  let seen := frzKeep (cycle - span) ((x.pos, cycle) :: x.frz)
  let s1 := s.setPos k { x with frz := seen, frzAt := since }
  let still := seen.all (fun p => seen.all (fun q =>
    decide ((p.1 - q.1).natAbs ≤ s.get (Reg.POS.CH.FREEZE.FREEZE_DELTA k.val))))
  let whole := seen.any (fun p => decide (p.2 + span ≤ cycle)) && since.any (fun t0 => decide (t0 + span ≤ cycle))
  if s.flag (Reg.POS.CH.FREEZE.FREEZE_EN k.val) && still && whole && !x.bad.getLsbD 8 then
    ((s1.setPos k { s1.pos[k] with frzRef := x.pos }).posBad k 8).raise (posCause k 14)
  else s1

/-- The plausibility check after a task of the slot (R154). DESIGN CHOICE (log entry 97): with PLAUS_EN cleared after PLAUS, VALID stays 0
until PLAUS_EN is set again and PLAUS_COUNT tasks agree. -/
def State.posPlaus (s : State) (k i : Fin 4) (cycle : Nat) : State :=
  let x := s.pos[k]
  if s.flag (Reg.POS.CH.FREEZE.PLAUS_EN k.val) then
    let n := s.get (Reg.POS.CH.LIMITS.PLAUS_COUNT k.val)
    let bound := s.rd (Reg.POS.CH.PLAUS_BOUND.addr k.val)
    let v := s.posSpeedAt k cycle
    let diff := fAbs (fSub v (s.outPort i.val (s.get (Reg.POS.CH.PLAUS.OBS_PORT k.val))))
    if fLt bound diff then
      let r := min (x.plausBad + 1) 16
      let s1 := s.setPos k { x with plausBad := r, plausOk := 0 }
      if n ≤ r ∧ x.bad.getLsbD 9 = false then s1.heldAct 5 k.val (fun t => t.monAct k 15 9 .real) else s1
    else
      let r := min (x.plausOk + 1) 16
      let s1 := (s.heldEnd 5 k.val).setPos k { x with plausBad := 0, plausOk := r }
      if n ≤ r then s1.posGood k 9 else s1
  else s

end Sys2Proof.Machine
end

