-- ==== Sys2Proof/Machine/Pwm.lean ====
section
/-! DEFINITION. PWM legs, trip inputs and the commands of the PWM block (chapter 8). -/

namespace Sys2Proof.Machine

/-- A cause of leg n (R252): 0 EVENT, 1 LATE, 2 COMMIT_PARTIAL, 3 ILOCK_LIMIT. -/
def legCause (n b : Nat) : Cause := ⟨8 + n / 8, 4 * (n % 8) + b⟩

/-- Address of the shadow register i of a leg in COHERENT order (R250): PERIOD, CMPA to CMPD, DT, PHASE. -/
def shadowAddr (n i : Nat) : Nat :=
  match i with
  | 0 => Reg.PWM.LEG.PERIOD.addr n
  | 5 => Reg.PWM.LEG.DT.addr n
  | 6 => Reg.PWM.LEG.PHASE.addr n
  | k => Reg.PWM.LEG.CMP.addr n (k - 1)

/-- The active value i of a leg, in its shadow's layout (R250). -/
def State.act (s : State) (n i : Nat) : Word := s.rd (Reg.PWM.LEG.ACT.addr n i)

/-- The active PERIOD in counts. -/
def State.actPeriod (s : State) (n : Nat) : Nat := getBits (s.act n 0) 0 21

/-- The counting mode of a leg: 0 OFF, 1 UP, 2 UPDOWN (R218). -/
def State.legMode (s : State) (n : Nat) : Nat := s.get (Reg.PWM.LEG.CFG.MODE n)

/-- The active IDLE of a leg (R223). -/
def State.actIdle (s : State) (n : Nat) : Bool := s.flag (Reg.PWM.LEG.IDLE.ACTIVE n)

/-- Position in the period, in counts: the counter in UP; past PERIOD while counting down in UPDOWN. -/
def phaseOf (mode period counter : Nat) (down : Bool) : Nat :=
  if mode = 2 ∧ down then 2 * period - counter else counter

/-- Length of a period in counts (R218). -/
def spanOf (mode period : Nat) : Nat := if mode = 2 then 2 * period else period

/-- The reference level of a compare waveform just after the start of the cycle with the given count (R220, R221). -/
def refLevel (mode : Nat) (ctr : Bool) (period c counter : Nat) (down : Bool) : Bool :=
  if period ≤ c then true
  else if c = 0 then false
  else if mode = 1 then (if ctr then decide (period - c ≤ counter) else decide (counter < c))
  else if mode = 2 then
    (match ctr, down with
     | false, false => decide (counter < c)
     | false, true => decide (counter ≤ c)
     | true, false => decide (period - c ≤ counter)
     | true, true => decide (period - c < counter))
  else false

/-- The legs that obey a chopper request now (R323, R332). -/
def State.chopLeg (s : State) (n : Nat) : Bool :=
  let f := (s.legRec n).function
  (s.chop.req && s.flag Reg.DRIVE.CHOP_CFG.ENABLE && (f == 2 || f == 4)) || (s.chop.dischReq && (f == 3 || f == 4))

/-- The leg whose outputs a cable test drives (R430). -/
def State.cableLeg (s : State) (n : Nat) : Bool := decide (s.probe.task = .cable) && decide (s.probe.leg = n)

/-- The references of both outputs of a leg (R217 stage 1, R220 to R223, R323, R430); `tap` the compares whose waveform is on at this
instant by its taps alone (R221). -/
def State.refsTap (s : State) (n : Fin 32) (tap : Nat → Bool → Bool) : Bool × Bool :=
  let l := s.leg n
  let mode := s.legMode n.val
  let p := s.actPeriod n.val
  let indep := s.flag (Reg.PWM.LEG.CFG.OUTMODE n.val)
  let runs := l.counting && decide (mode ≠ 0) && !s.actIdle n.val
  let lv (i : Nat) (ctr : Bool) := refLevel mode ctr p (getBits (s.act n.val i) 0 21) l.counter l.down || tap i ctr
  let a := runs && lv 1 (s.flag (Reg.PWM.LEG.CFG.CTR_A n.val))
  let b := runs && (if indep then lv 2 (s.flag (Reg.PWM.LEG.CFG.CTR_B n.val)) else !a)
  if s.cableLeg n.val then (decide (s.probe.pulse = some false), decide (s.probe.pulse = some true))
  else if s.chopLeg n.val then (true, if indep then b else false) else (a, b)

/-- The references just after the leg's present cycle starts. -/
def State.refs (s : State) (n : Fin 32) : Bool × Bool := s.refsTap n (fun _ _ => false)

/-- The on-pulse of taps alone of compare i (R221): with c = 0 and h > 0 its waveform is on just before a point of the period
(`before`), or just after it. -/
def State.tapOn (s : State) (n : Fin 32) (mid before : Bool) (i : Nat) (ctr : Bool) : Bool :=
  let w := s.act n.val i
  decide (getBits w 0 21 = 0) && decide (0 < getBits w 24 5) &&
    (if s.legMode n.val = 2 then mid == ctr else !mid && (ctr == before))

/-- Where in the period, in taps of 1/32 count, the on-time of an output's reference starts and ends (R220, R222); none when it
has no edge. -/
def State.edgePhases (s : State) (n : Nat) (outB : Bool) : Option (Nat × Nat) :=
  let mode := s.legMode n
  let p := s.actPeriod n
  let indep := s.flag (Reg.PWM.LEG.CFG.OUTMODE n)
  let i := if outB && indep then 2 else 1
  let ctr := if outB && indep then s.flag (Reg.PWM.LEG.CFG.CTR_B n) else s.flag (Reg.PWM.LEG.CFG.CTR_A n)
  let c := getBits (s.act n i) 0 21
  let h := getBits (s.act n i) 24 5
  if p ≤ c ∨ (c = 0 ∧ h = 0) then none
  else
    let on := match mode, ctr with
      | 1, false => 0
      | 1, true => (p - c) * 32 - h
      | _, false => (2 * p - c) * 32 - h
      | _, true => (p - c) * 32 - h
    let off := match mode, ctr with
      | 1, false => c * 32 + h
      | 1, true => p * 32
      | _, false => c * 32 + h
      | _, true => (p + c) * 32 + h
    if outB && !indep then some (off, on) else some (on, off)

/-- The taps from the leg's present cycle start on to a place in its period. -/
def State.tapsTo (s : State) (n : Fin 32) (place : Nat) : Nat :=
  let l := s.leg n
  let span := spanOf (s.legMode n.val) (s.actPeriod n.val) * 32
  if span = 0 then 0
  else (place + span - phaseOf (s.legMode n.val) (s.actPeriod n.val) l.counter l.down * 32 % span) % span

/-- The taps by which an edge at a place in the period lies after the leg's present cycle start, or before it as a negative number;
0 where it lies a count or more away (R220, R234). -/
def State.edgeTaps (s : State) (n : Fin 32) (place : Nat) : Int :=
  let d := s.tapsTo n place
  let span := spanOf (s.legMode n.val) (s.actPeriod n.val) * 32
  if d < 32 then d else if span < d + 32 then (d : Int) - span else 0

/-- The length in taps of the on-pulse that leads at leg time `lead`, from the values in force (R235); none when it does
not end by its values, as under a chopper request (R323) or in a cable test (R430). -/
def State.pulseTaps (s : State) (n : Fin 32) (outB : Bool) (lead : Int) : Option Int :=
  if (s.chopLeg n.val && !outB) || s.cableLeg n.val then none
  else
    let now : Int := (s.leg n).time * 32
    match s.edgePhases n.val outB with
    | none => none
    | some (_, off) =>
      let rem := s.tapsTo n off
      let span := spanOf (s.legMode n.val) (s.actPeriod n.val) * 32
      some ((if rem = 0 ∧ now ≤ lead then (span : Int) else rem) + now - lead)

/-- One output of a leg. -/
def Leg.out (l : Leg) (outB : Bool) : OutSt := if outB then l.outB else l.outA
/-- Replace one output of a leg. -/
def Leg.setOut (l : Leg) (outB : Bool) (o : OutSt) : Leg := if outB then { l with outB := o } else { l with outA := o }

/-- Count a minimum-pulse action (R235). -/
def State.mpAct (s : State) (n : Nat) : State := s.bump (Reg.PWM.LEG.STATS.MP_ACT n)

/-- The leading edge of an on-pulse after dead time (R234, R235): the pulse is judged from the values in force here. One foreseen
shorter than COUNT is removed in DROP mode and will be stretched in STRETCH mode; a stretched pulse that reaches its next turn-on
merges with it. -/
def State.leadEdge (s : State) (n : Fin 32) (outB : Bool) : State :=
  let l := s.leg n
  let o := l.out outB
  let cnt := s.get (Reg.PWM.LEG.MINPULSE.COUNT n.val)
  let short := decide (0 < cnt) && match s.pulseTaps n outB o.due with
    | none => false
    | some t => decide (t < cnt * 32)
  if o.stretch then s.setLeg n (l.setOut outB { o with dtRun := false, stretch := false, on := true })
  else if short && !s.flag (Reg.PWM.LEG.MINPULSE.MODE n.val) then
    (s.setLeg n (l.setOut outB { o with dtRun := false, on := false })).mpAct n.val
  else
    let s1 := s.setLeg n (l.setOut outB { o with
      dtRun := false, on := true, lead := o.due, least := cnt, short := short, moved := false })
    if short then s1.mpAct n.val else s1

/-- What moves a reference: an edge of its waveform, a transfer, or anything else. -/
inductive RefMove where
  | edge | transfer | other
deriving DecidableEq, Repr

/-- The turn-on of an output is put off by a stretched pulse of the leg's other output (R235, COMPLEMENTARY mode). -/
def State.putOff (s : State) (n : Fin 32) (outB : Bool) : Bool :=
  ((s.leg n).out (!outB)).stretch && !s.flag (Reg.PWM.LEG.CFG.OUTMODE n.val)

/-- The reference of an output turns on at leg time `t` taps (R232, R234, R235): its dead time starts there, or where a stretched pulse
of the other output ends. -/
def State.refOn (s : State) (n : Fin 32) (outB : Bool) (t : Int) : State :=
  let l := s.leg n
  let other := l.out (!outB)
  let dt := s.deadTime n.val outB
  let wait := s.putOff n outB
  let start := if wait then other.lead + other.least * 32 else t
  let s1 := s.setLeg n (l.setOut outB { l.out outB with ref := true, dtRun := true, due := start + dt * 32 })
  if dt = 0 ∧ wait = false then s1.leadEdge n outB else s1

/-- The reference of an output turns off at leg time `t` taps (R234, R235). A dead time that ended before has led in the pulse; a pulse
judged shorter than its minimum, or cut by a transfer below it, runs on to the minimum. -/
def State.refOff (s0 : State) (n : Fin 32) (outB : Bool) (t : Int) (by_ : RefMove) : State :=
  let o0 := (s0.leg n).out outB
  let s := if o0.dtRun && decide (o0.due < t) && !s0.putOff n outB then s0.leadEdge n outB else s0
  let l := s.leg n
  let o := l.out outB
  if o.on && !o.stretch && (o.short || o.moved || decide (by_ = .transfer)) && decide (t < o.lead + o.least * 32) then
    let s1 := s.setLeg n (l.setOut outB { o with ref := false, dtRun := false, stretch := true })
    if o.short then s1 else s1.mpAct n.val
  else s.setLeg n (l.setOut outB { o with ref := false, dtRun := false, on := o.on && o.stretch })

/-- The reference of an output takes a level at the leg's present instant, with the tap fraction of the edge of its waveform
(R232, R234, R235). -/
def State.applyRef (s : State) (n : Fin 32) (outB new : Bool) (by_ : RefMove) : State :=
  let l := s.leg n
  if new = (l.out outB).ref then s
  else
    let off : Int := match by_, s.edgePhases n.val outB with
      | .edge, some (on, off) => s.edgeTaps n (if new then on else off)
      | _, _ => 0
    let t := (l.time : Int) * 32 + off
    if new then s.refOn n outB t else s.refOff n outB t by_

/-- Both outputs take their references, one that turns off first. -/
def State.applyRefs (s : State) (n : Fin 32) (r : Bool × Bool) (by_ : RefMove) : State :=
  if r.1 then (s.applyRef n true r.2 by_).applyRef n false r.1 by_
  else (s.applyRef n false r.1 by_).applyRef n true r.2 by_

/-- Both references of a leg are formed anew (R217 stages 1 to 3). -/
def State.updateRefs (s : State) (n : Fin 32) (by_ : RefMove) : State := s.applyRefs n (s.refs n) by_

/-- A pulse of taps alone turns on before a point (R221): the references it moves, under the values before the transfer. -/
def State.tapLead (s : State) (n : Fin 32) (mid : Bool) : State :=
  let l := s.leg n
  let indep := s.flag (Reg.PWM.LEG.CFG.OUTMODE n.val)
  let runs := l.counting && decide (s.legMode n.val ≠ 0) && !s.actIdle n.val
  let a := runs && !s.chopLeg n.val && s.tapOn n mid true 1 (s.flag (Reg.PWM.LEG.CFG.CTR_A n.val))
  let b := runs && indep && s.tapOn n mid true 2 (s.flag (Reg.PWM.LEG.CFG.CTR_B n.val))
  if a || b then (s.applyRefs n (a || l.outA.ref, if indep then b || l.outB.ref else l.outB.ref && !a) .edge).settle else s

/-- The references after a point (R221): a pulse of taps alone that is on just after it turns off within the count. -/
def State.tapTrail (s : State) (n : Fin 32) (mid : Bool) (by_ : RefMove) : State :=
  let r := s.refsTap n (s.tapOn n mid false)
  let s1 := s.applyRefs n r by_
  if r = s.refs n then s1 else s1.settle.updateRefs n .edge

/-- The CLK_EDGE cycles that may pass before the leg's next transfer point (R218); a leg that does not count has none. -/
def State.legRoom (s : State) (n : Fin 32) : Nat :=
  let l := s.leg n
  if !l.counting then 2 ^ 32
  else if s.legMode n.val = 2 ∧ l.down = true then l.counter else s.actPeriod n.val - l.counter

/-- Something that no event of the leg tells of comes at an unstated instant before its next point (R224, R323): leg time goes on to it, by a free
number of cycles (log entry 98). -/
def State.legElapse (s0 : State) (n : Fin 32) : State :=
  let (v, s) := s0.fresh
  let l := s.leg n
  let ahead := l.ahead + v.toNat % (s.legRoom n - l.ahead + 1)
  s.setLeg n { l with time := l.time + (ahead - l.ahead), ahead := if l.counting then ahead else 0 }

/-- The leg's counter moves on to a position of its period; leg time counts the CLK_EDGE cycles between. -/
def State.moveTo (s : State) (n : Fin 32) (counter : Nat) (down : Bool) : State :=
  let l := s.leg n
  let mode := s.legMode n.val
  let p := s.actPeriod n.val
  let span := spanOf mode p
  let p0 := phaseOf mode p l.counter l.down
  let p1 := phaseOf mode p counter down
  let d := if p0 ≤ p1 then p1 - p0 else p1 + span - p0
  s.setLeg n { l with counter := counter, down := down, time := l.time + (d - l.ahead), ahead := 0 }

/-- One occurrence of an event source of a leg (R238, R239): 0 ZERO, 1 PERIOD, 2 to 5 CMPA to CMPD. A passed event sets
the leg's EVENT cause and starts the HKA trigger where routed; every occurrence goes to the Carve task triggers, which
apply the PRESCALE of their SCHEDULE record. -/
def State.fireEvent (s : State) (n : Fin 32) (src : Fin 6) : State :=
  let l := s.leg n
  let p := s.get ⟨Reg.PWM.LEG.EVT_PRE.addr n.val, 4 * src.val, 4⟩ + 1
  let k := l.presc[src] + 1
  let pass := decide (p ≤ k)
  let s1 := s.setLeg n { l with presc := l.presc.set src (if pass then 0 else k) }
  let s2 := s1.setIf (pass && s1.flag ⟨Reg.PWM.LEG.EVT_ROUTE.addr n.val, src.val, 1⟩) (legCause n.val 0)
  let s3 := if pass && s2.flag ⟨Reg.PWM.LEG.EVT_ROUTE.addr n.val, 8 + src.val, 1⟩ then
      { s2 with hkaEvents := s2.hkaEvents ++ [n.val] } else s2
  (List.finRange 8).foldl (fun t (i : Fin 8) =>
    let r := t.taskRec i.val
    if r.leg = n.val ∧ r.events / 2 ^ src.val % 2 = 1 then
      let c := t.taskPresc[i] + 1
      if r.prescale ≤ c then { t with taskPresc := t.taskPresc.set i 0, taskDelays := t.taskDelays ++ [i.val] }
      else { t with taskPresc := t.taskPresc.set i c }
    else t) s3

/-- Store the content of a transfer into the active values (R227, R231): PERIOD at once at BOUNDARY and at MID in UPDOWN,
where it replaces the counter; at the next BOUNDARY for a MID in UP. -/
def State.loadActive (s : State) (n : Fin 32) (c : Content) (mid : Bool) : State :=
  let deferP := mid && decide (s.legMode n.val = 1)
  let s1 := (List.range 7).foldl (fun t i =>
    if c.mask.getLsbD i && !(decide (i = 0) && deferP) then t.wr (Reg.PWM.LEG.ACT.addr n.val i) (c.words.getD i 0#32) else t) s
  let s2 := if c.idleW then s1.put (Reg.PWM.LEG.IDLE.ACTIVE n.val) (b2n c.idle) else s1
  let l := s2.leg n
  let l1 := if c.mask.getLsbD 0 && deferP then { l with nextPeriod := some (c.words.getD 0 0#32) } else l
  let l2 := if c.mask.getLsbD 0 && mid && !deferP then { l1 with counter := getBits (c.words.getD 0 0#32) 0 21 } else l1
  s2.setLeg n l2

/-- A pulse that is on has met a transfer (R235). -/
def OutSt.crossed (o : OutSt) : OutSt := if o.on then { o with moved := true } else o

/-- The transfer of a leg's fixed content (R227 to R230, R233): active values, TRANSFERS, COMMIT_PARTIAL, and the next
armed point. -/
def State.transfer (s : State) (n : Fin 32) (mid : Bool) : State :=
  match (s.leg n).fixed with
  | none => s
  | some c =>
    let coh := BitVec.ofNat 7 (s.get (Reg.PWM.LEG.COHERENT.MASK n.val))
    let partial_ := decide (c.mask &&& coh ≠ 0#7) && decide (c.mask &&& coh ≠ coh)
    let s1 := (s.loadActive n c mid).bumpWrap (Reg.PWM.LEG.TRANSFERS.COUNT n.val)
    let s2 := if partial_ then (s1.bump (Reg.PWM.LEG.COMMITS.PARTIAL n.val)).raise (legCause n.val 2) else s1
    let l := s2.leg n
    let s3 := s2.setLeg n { l with
      fixed := none, armed := l.following, following := none, latePend := l.followLate, followLate := false, loadAll := false
      outA := l.outA.crossed, outB := l.outB.crossed }
    if l.loadAll && !(s3.legs.toList.any (fun x => x.loadAll)) then s3.put Reg.PWM.GLOBAL.LOADALL.val 0 else s3

/-- The armed commit of a leg transfers at this kind of point (R226, R233). -/
def Leg.dueAt (l : Leg) (mid : Bool) : Bool :=
  l.fixed.isSome && ((l.loadAll && !mid) || (match l.armed with
    | none => false
    | some 0 => !mid
    | some 1 => mid
    | some _ => true))

/-- A commit came too late for the point it selects (R230, R233): LATE, counted. -/
def State.lateCommit (s : State) (n : Fin 32) : State := (s.bump (Reg.PWM.LEG.COMMITS.LATE n.val)).raise (legCause n.val 1)

/-- Arm a commit of a leg (R226, R228, R230). -/
def State.commit (s : State) (n : Fin 32) (point : Nat) (late : Bool) : State :=
  let l := s.leg n
  let l1 := if l.fixed.isSome then { l with following := some point, followLate := l.followLate || late }
    else { l with armed := some point }
  if late then (s.setLeg n { l1 with latePend := true }).lateCommit n else s.setLeg n l1

/-- The phase legs of the slot under identification, which Probe owns (R426). -/
def State.midOwns (s : State) (n : Fin 32) : Bool :=
  decide (s.probe.task = .mid) && decide ((s.legRec n.val).slot = s.probe.slot) && decide ((s.legRec n.val).function = 1)

/-- Probe commits a leg that it owns (R426), as R226 and R233 let a commit be. DESIGN CHOICE (log entry 103): at the next point of either kind. -/
def State.midCommit (s : State) (n : Fin 32) : State :=
  if s.flag Reg.PWM.GLOBAL.CTRL.LOADALL_MODE then s.raise ⟨3, 16⟩ else s.commit n 2 false

/-- Probe writes a leg for the next step of its phases (R426, R427): compare words that the spec does not name, free here. -/
def State.midWrite (s : State) (n : Fin 32) : State :=
  let s1 := (List.range 4).foldl (fun u k =>
    let (v, w) := u.fresh
    (w.wr (Reg.PWM.LEG.CMP.addr n.val k) (setBits (setBits 0#32 0 21 v.toNat) 24 5 (v.toNat / 2 ^ 24))).setLeg n
      { w.leg n with written := (w.leg n).written ||| (1#7 <<< (k + 1)) }) s
  State.midCommit ((s1.put (Reg.PWM.LEG.IDLE.val n.val) 0).setLeg n { s1.leg n with writtenIdle := true }) n

/-- Probe turns a leg off (R428): IDLE, committed. -/
def State.midIdle (s : State) (n : Fin 32) : State :=
  State.midCommit ((s.put (Reg.PWM.LEG.IDLE.val n.val) 1).setLeg n { s.leg n with writtenIdle := true }) n

/-- At a transfer point the due transfer is made, forcing is left where no request holds it, references follow, the event
fires (R221, R227, R232, R238, R245). A leg that LOADALL waits for and whose deadline has not come misses this BOUNDARY (R233; COMMITS.LATE
counts it, DEDUCED, log entry 73). -/
def State.pointAct (s0 : State) (n : Fin 32) (mid : Bool) : State :=
  let l := s0.leg n
  let due := l.dueAt mid
  let s1 := if due then (let u := s0.transfer n mid; if u.midOwns n then u.midWrite n else u) else if l.loadAll && l.fixed.isNone && !mid then s0.lateCommit n else s0
  let s2 := (s1.followForce n true).tapTrail n mid (if due then .transfer else .edge)
  (s2.fireEvent n (if mid then 1 else 0)).settle

/-- A transfer point that the counter reaches: a pulse of taps alone leads before it (R221). -/
def State.point (s : State) (n : Fin 32) (mid : Bool) : State := (s.tapLead n mid).pointAct n mid

/-- A PERIOD transferred at MID in UP governs from a BOUNDARY on (R231). -/
def State.periodDue (s : State) (n : Fin 32) : State :=
  let l := s.leg n
  match l.nextPeriod with
  | some w => (s.wr (Reg.PWM.LEG.ACT.addr n.val 0) w).setLeg n { l with nextPeriod := none }
  | none => s

/-- The leg reaches BOUNDARY, with the counter at 0 (R218, R231). -/
def State.atBoundary (s : State) (n : Fin 32) : State := ((s.moveTo n 0 false).periodDue n).point n false

/-- PWM_BOUNDARY (R218): a counting leg's counter reaches BOUNDARY. -/
def execPwmBoundary (n : Fin 32) (s : State) : Host.Outcome State Fault Refusal :=
  .next (if (s.leg n).counting then s.atBoundary n else s)

/-- The leg reaches MID: floor(PERIOD / 2) in UP, PERIOD with the down-count following in UPDOWN (R218). -/
def State.atMid (s : State) (n : Fin 32) : State :=
  let p := s.actPeriod n.val
  ((if s.legMode n.val = 2 then s.moveTo n p true else s.moveTo n (p / 2) false)).point n true

/-- PWM_MID (R218). -/
def execPwmMid (n : Fin 32) (s : State) : Host.Outcome State Fault Refusal :=
  .next (if (s.leg n).counting then s.atMid n else s)

/-- PWM_COMPARE_EVENT (R238): the counter takes the COUNT of an active compare and the event fires; with `mirror` it takes
PERIOD − COUNT, where a centred waveform has its edge (R220) and no event fires. A position that the counter never takes is
no event. -/
def execPwmCompareEvent (n : Fin 32) (src : Fin 4) (down mirror : Bool) (s : State) : Host.Outcome State Fault Refusal :=
  let c := getBits (s.act n.val (src.val + 1)) 0 21
  let p := s.actPeriod n.val
  let k := if mirror then p - c else c
  if (s.leg n).counting && decide (c ≤ p) && decide (phaseOf (s.legMode n.val) p k down < spanOf (s.legMode n.val) p) then
    let s1 := (s.moveTo n k (down && decide (s.legMode n.val = 2))).updateRefs n .edge
    .next (if mirror then s1.settle else (s1.fireEvent n ⟨src.val + 2, by omega⟩).settle)
  else .next s

/-- The shadows of a leg as a commit's content (R227). -/
def State.contentOf (s : State) (n : Fin 32) : Content :=
  let l := s.leg n
  { mask := l.written, idleW := l.writtenIdle
    words := (List.range 7).map (fun i => s.rd (shadowAddr n.val i))
    idle := s.flag (Reg.PWM.LEG.IDLE.val n.val) }

/-- COMMIT_DEADLINE (R227, R309): the content of the armed commit is fixed; the slot line deasserts at the deadline of the
slot's first Slalom commit after it left SAFE. -/
def execCommitDeadline (n : Fin 32) (s : State) : Host.Outcome State Fault Refusal :=
  let l := s.leg n
  if (l.armed.isSome || l.loadAll) && l.fixed.isNone then
    let s1 := s.setLeg n { l with fixed := some (s.contentOf n), written := 0#7, writtenIdle := false }
    let r := s.legRec n.val
    if r.slot < 4 ∧ r.function = 1 then
      let i := Fin.ofNat 4 r.slot
      let x := s1.slot i
      if x.lineArmed then
        .next ((s1.setSlot i { x with lineRelease := false, lineArmed := false }).slotLine i false)
      else .next s1
    else .next s1
  else .next s

/-- PWM_COMMIT (R226, R228, R230, R233): a write to COMMIT; POINT 3 is ignored, and in LOADALL_MODE every write is. `late`:
visible less than 2 CLK_EDGE cycles before the instant it selects. -/
def execPwmCommit (n : Fin 32) (point : Fin 4) (late : Bool) (s : State) : Host.Outcome State Fault Refusal :=
  if s.flag Reg.PWM.GLOBAL.CTRL.LOADALL_MODE then .next (s.raise ⟨3, 16⟩)
  else if point = 3 then .next s
  else .next (s.commit n point.val late)

/-- PWM_LOADALL (R233): every leg whose MODE is not OFF transfers at its next BOUNDARY; no effect while it reads 1. -/
def execPwmLoadall (s : State) : Host.Outcome State Fault Refusal :=
  if s.flag Reg.PWM.GLOBAL.CTRL.LOADALL_MODE && !s.flag Reg.PWM.GLOBAL.LOADALL.val &&
      (List.range 32).any (fun n => s.legMode n ≠ 0) then
    .next { s.put Reg.PWM.GLOBAL.LOADALL.val 1 with
      legs := Vector.ofFn (fun n : Fin 32 => { s.leg n with loadAll := decide (s.legMode n.val ≠ 0) }) }
  else .next s

/-- PWM_SYNC (R224, R251): GLOBAL.CMD = SYNC is accepted while every slot is OFF or STOPPED; the SYNC is issued later. -/
def execPwmSync (s : State) : Host.Outcome State Fault Refusal :=
  if s.allResting then .next (State.status { s with trip := { s.trip with syncPending := true } } Reg.PWM.GLOBAL.CMD_STATUS.addr codeOk)
  else .next (s.deny Reg.PWM.GLOBAL.CMD_STATUS.addr ⟨3, 18⟩)

/-- PWM_CLEAR_STATS (R250): STATS and COMMITS of every leg read 0. -/
def execPwmClearStats (s : State) : Host.Outcome State Fault Refusal :=
  .next (((List.range 32).foldl (fun t n =>
    (t.wr (Reg.PWM.LEG.STATS.addr n) 0#32).wr (Reg.PWM.LEG.COMMITS.addr n) 0#32) s).status
      Reg.PWM.GLOBAL.CMD_STATUS.addr codeOk)

/-- One leg under a SYNC (R224): it counts from its active PHASE, its prescalers are 0, and a PHASE that lands on a
transfer point is one. DESIGN CHOICE (log entry 98): the counter jumps there, so that no pulse of taps alone leads before it (R221). -/
def State.syncLeg (st : State) (n : Fin 32) : State :=
  let mode := st.legMode n.val
  if mode = 0 then st
  else
    let s := if (st.leg n).counting then st.legElapse n else st
    let p := s.actPeriod n.val
    let ph := getBits (s.act n.val 6) 0 21 % (if spanOf mode p = 0 then 1 else spanOf mode p)
    let down := decide (mode = 2) && decide (p < ph)
    let c := if down then 2 * p - ph else ph
    let s1 := s.setLeg n { s.leg n with counting := true, counter := c, down := down, ahead := 0, presc := Vector.replicate 6 0 }
    if c = 0 ∧ down = false then (s1.periodDue n).pointAct n false
    else if mode = 2 ∧ c = p then (s1.setLeg n { s1.leg n with down := true }).pointAct n true
    else (s1.updateRefs n .other).settle

/-- A SYNC of every leg (R224): the Carve prescalers count from it too (R239). -/
def State.sync (s : State) : State :=
  (List.finRange 32).foldl (fun t n => t.syncLeg n) { s with taskPresc := Vector.replicate 8 0 }

/-- SYNC_ISSUE (R224): the SYNC that GLOBAL.CMD asked for. The SYNC at the end of L6 and the one at a time of day are part of those
commands' effects. -/
def execSyncIssue (s : State) : Host.Outcome State Fault Refusal :=
  if s.trip.syncPending then
    .next (State.sync { s with trip := { s.trip with syncPending := false }, time := { s.time with gridAt := none } })
  else .next s

/-- DEAD_TIME_END (R234): the output turns on after its dead time; in COMPLEMENTARY mode not before a stretched pulse of the
other output has ended (R235). -/
def execDeadTimeEnd (n : Fin 32) (outB : Bool) (s : State) : Host.Outcome State Fault Refusal :=
  let l := s.leg n
  let o := l.out outB
  if o.dtRun && !s.putOff n outB then
    .next (if o.ref then (s.leadEdge n outB).settle
      else (s.setLeg n (l.setOut outB { o with dtRun := false })).settle)
  else .next s

/-- MINPULSE_STRETCH_END (R235): the stretched on-pulse ends. -/
def execMinpulseStretchEnd (n : Fin 32) (outB : Bool) (s : State) : Host.Outcome State Fault Refusal :=
  let l := s.leg n
  let o := l.out outB
  if o.stretch then .next (s.setLeg n (l.setOut outB { o with stretch := false, on := false })).settle else .next s

/-- The live output of a leg (0 = A, 1 = B), or the hold pattern in its place (R269). -/
def State.legOut (s : State) (leg out : Nat) : Bool :=
  let l := s.leg (Fin.ofNat 32 leg)
  match l.hold with
  | some p => if out = 0 then decide (p = .aOn) else decide (p = .bOn)
  | none => if out = 0 then l.liveA else l.liveB

/-- The outputs of interlock pair k are both on at the controller end (R270). -/
def State.linkOverlap (s : State) (k : Nat) : Bool :=
  match s.course.interlocks[k]? with
  | some p => s.legOut p.legX p.outX && s.legOut p.legY p.outY
  | none => false

/-- INTERLOCK_RELEASE (R236, R270): the overlap of the pair has ended and DT_I has passed, at either stage; the output still commanded on
turns on. -/
def execInterlockRelease (k : Nat) (s : State) : Host.Outcome State Fault Refusal :=
  match s.course.interlocks[k]? with
  | some p =>
    let s1 := if s.linkOverlap k then s
      else { s with trip := { s.trip with heldLink := s.trip.heldLink.filter (fun j => j != k) } }
    if s1.trip.held.contains k && !s1.overlap p then
      .next (State.settle { s1 with trip := { s1.trip with held := s1.trip.held.filter (fun j => j != k) } })
    else .next s1
  | none => .next s

/-- ILOCK_WINDOW_END (R237): more than ILOCK_LIMIT episodes of a leg in the window set its ILOCK_LIMIT; the counts
restart. -/
def execIlockWindowEnd (s : State) : Host.Outcome State Fault Refusal :=
  let lim := s.get Reg.PWM.GLOBAL.CTRL.ILOCK_LIMIT
  let s1 := (List.finRange 32).foldl (fun t n =>
    if lim < (t.leg n).episodes then t.raise (legCause n.val 3) else t) s
  .next { s1 with legs := s1.legs.map (fun l => { l with episodes := 0 }) }

/-- TRIP_REQUEST (R240, R241): the oldest request reaches the network, its group asserts and forces the legs it holds. A
cycle-by-cycle group stays asserted only while a source of it is present. -/
def execTripRequest (s : State) : Host.Outcome State Fault Refusal :=
  match s.trip.reqs with
  | [] => .next s
  | r :: rest =>
    .next (State.reforce { s with trip := { s.trip with
      reqs := rest, asserted := s.trip.asserted ||| (1#16 <<< r.group) } })

/-- An output drives on now: 0 A, 1 B. -/
def State.liveOut (s : State) (n out : Nat) : Bool :=
  if out = 0 then (s.leg (Fin.ofNat 32 n)).liveA else (s.leg (Fin.ofNat 32 n)).liveB

/-- Every interlock partner of an output is off (R236, R244): the leg's other output, and those that the course pairs with it. -/
def State.partnersOff (s : State) (n : Fin 32) (out : Nat) : Bool :=
  !s.liveOut n.val (1 - out) && s.course.interlocks.all (fun p =>
    !((decide (p.legX = n.val) && decide (p.outX = out) && s.liveOut p.legY p.outY) ||
      (decide (p.legY = n.val) && decide (p.outY = out) && s.liveOut p.legX p.outX)))

/-- FORCED_TURN_ON (R244): a forced output turns on once its interlock partners have been off for its dead time. -/
def execForcedTurnOn (n : Fin 32) (outB : Bool) (s : State) : Host.Outcome State Fault Refusal :=
  let l := s.leg n
  if outB then
    .next (if l.forceWaitB && s.partnersOff n 1 then (s.setLeg n { l with forceWaitB := false, forceOnB := true }).settle else s)
  else
    .next (if l.forceWaitA && s.partnersOff n 0 then (s.setLeg n { l with forceWaitA := false, forceOnA := true }).settle else s)

/-- TRIP_RELEASE (R245): each latched group of the mask is released unless a source of it is still present, which sets
RELEASE_BLOCKED. -/
def execTripRelease (mask : BitVec 16) (s : State) : Host.Outcome State Fault Refusal :=
  let latch := BitVec.ofNat 16 (s.get Reg.PWM.TRIP.CFG.LATCH)
  let blocked := (List.range 16).any (fun g => mask.getLsbD g && latch.getLsbD g && s.groupSource g)
  let rel := (List.range 16).foldl (fun (m : BitVec 16) g =>
    if mask.getLsbD g && latch.getLsbD g && !s.groupSource g then m ||| (1#16 <<< g) else m) 0#16
  .next ((State.reforce { s with trip := { s.trip with asserted := s.trip.asserted &&& ~~~rel } }).setIf blocked ⟨3, 19⟩)

/-- TRIP_DEASSERT (R245): a cycle-by-cycle group without a present source deasserts. -/
def execTripDeassert (g : Fin 16) (s : State) : Host.Outcome State Fault Refusal :=
  if (s.get Reg.PWM.TRIP.CFG.LATCH) / 2 ^ g.val % 2 = 0 ∧ s.groupSource g.val = false then
    .next (State.reforce { s with trip := { s.trip with asserted := s.trip.asserted &&& ~~~(1#16 <<< g.val) } })
  else .next s

/-- A trip input's record. -/
def State.setTripIn (s : State) (i : Fin 16) (t : TripIn) : State := { s with tripIns := s.tripIns.set i t }

/-- INJ_STATUS of a trip input. -/
def tripInjCtrl (i : Fin 16) : Nat := Reg.PWM.TRIPIN.INJ_STATUS.addr i.val

/-- A trip input acts on a level (R247, R253): a rise counts, sets its cause and presents its request; a fall ends the
request. Under a LIVE injection the setting carries a live mark. -/
def State.tripInAct (s : State) (i : Fin 16) (level live : Bool) : State :=
  let t := s.tripIns[i]
  if level && !t.active then
    (((s.setTripIn i { t with active := true }).bump (Reg.PWM.TRIPIN.STATUS.TRIPS i.val)).setCauseM ⟨3, i.val⟩
      (if live then .live else .real)).presentTrip ⟨3, i.val⟩
  else if !level && t.active then (s.setTripIn i { t with active := false }).endTrip ⟨3, i.val⟩
  else s

/-- The injection pending at a trip input, with its class. -/
def State.tripInj (s : State) (i : Fin 16) : Option Inj := s.injAt (tripInjCtrl i)

/-- The filtered level of a trip input, active or not, by its polarity (R246): a disabled input is inactive. -/
def State.tripLevel (s : State) (i : Fin 16) : Bool :=
  s.flag (Reg.PWM.TRIPIN.CFG.ENABLE i.val) && (s.tripIns[i].high == s.flag (Reg.PWM.TRIPIN.CFG.POL i.val))

/-- A trip input evaluates its filtered level, unless a window is open or an injection presents a level (R247, R248,
R395). A LIVE stimulus on an input that is active already makes it act on nothing, so its injection runs into its timeout (R396). -/
def State.tripInEval (s : State) (i : Fin 16) : State :=
  let t := s.tripIns[i]
  if t.blanked then s
  else match s.tripInj i with
    | some j =>
      if !j.live then s.setTripIn i { t with injSeen := true, shadowed := s.tripLevel i }
      else if t.active then s
      else
        let s1 := (s.tripInAct i true true).status (tripInjCtrl i) codeActed
        { s1 with injs := s1.injs.map (fun k => if k.ctrl = tripInjCtrl i then { k with seen := 2 } else k) }
    | none => s.tripInAct i (s.tripLevel i) false

/-- TRIPIN_FILTER_DONE (R246, R247): the filtered level follows the contact. -/
def execTripinFilterDone (i : Fin 16) (high : Sampled Bool) (s0 : State) : Host.Outcome State Fault Refusal :=
  let s := s0.agreeFix high.differs
  .next ((s.setTripIn i { s.tripIns[i] with high := high.value }).tripInEval i)

/-- BLANK_WINDOW_END (R247): the input takes the state of its filtered level at once. -/
def execBlankWindowEnd (i : Fin 16) (s : State) : Host.Outcome State Fault Refusal :=
  .next ((s.setTripIn i { s.tripIns[i] with blanked := false }).tripInEval i)

/-- TRIPIN_INJECT (R248, R388, R389): an injection into a disabled input is refused; an accepted one presents an active
level, a SHADOW one with the input's trip group masked. -/
def execTripinInject (i : Fin 16) (cls : Nat) (s : State) : Host.Outcome State Fault Refusal :=
  .next (s.inject (tripInjCtrl i) cls ⟨3, 18⟩ (s.flag (Reg.PWM.TRIPIN.CFG.ENABLE i.val)) true i.val 0
    (fun t _ => (t.setTripIn i { t.tripIns[i] with injSeen := false, shadowed := t.tripIns[i].active }).tripInEval i))

/-- TRIPIN_INJECT_END (R248, R395): the stimulus is withdrawn. A SHADOW injection passes when its request asserted and then released,
with no window open and the live level inactive, and sets the cause with a shadow mark; the input then takes the state that its live
level alone would have given it, a blanking window opened within notwithstanding. A LIVE one that has not acted stays. -/
def execTripinInjectEnd (i : Fin 16) (s : State) : Host.Outcome State Fault Refusal :=
  match s.tripInj i with
  | none => .next s
  | some j =>
    let t := s.tripIns[i]
    if j.live ∧ j.seen ≠ 2 then .next s
    else if j.live then
      .next ({ s with injs := s.injs.filter (fun k => k.ctrl != tripInjCtrl i) }.tripInEval i)
    else
      let pass := t.injSeen && !t.blanked && !s.tripLevel i
      let s1 := s.injEnd (tripInjCtrl i) (if pass then codePass else codeFail)
      let s2 := if pass then s1.setCauseM ⟨3, i.val⟩ .shadow else s1
      .next (if t.blanked then s2.tripInAct i t.shadowed false else s2.tripInEval i)

end Sys2Proof.Machine
end

