-- ==== Sys2Proof/Machine/Slot.lean ====
section
/-! DEFINITION. The drive slots: transitions between the states of R302 and what each transition starts or ends (R306 to
R310, R315, R325 to R333, R340, R342). -/

namespace Sys2Proof.Machine

/-- A cause of slot i (R335). -/
def driveCause (i : Fin 4) (b : Nat) : Cause := ⟨34 + i.val, b⟩

/-- The state against which the table of R306 judges an event: an entry to RUN or CHARGE counts from its event on, though
it takes effect at the next dispatch edge (R307, R308; DEDUCED). -/
def Slot.judged (x : Slot) : SlotState := x.pendEntry.getD x.state

/-- The higher of the two DC-link results, over the channels whose result is valid; none when neither is (R332; DEDUCED:
an invalid result is no measure of the link). -/
def State.higherDc (s : State) : Option Word :=
  match s.dcl.a.valid, s.dcl.b.valid with
  | true, true => some (fMax s.dcl.a.res s.dcl.b.res)
  | true, false => some s.dcl.a.res
  | false, true => some s.dcl.b.res
  | false, false => none

/-- The link counts as discharged: the higher result is below 60 V (R332). -/
def State.linkDischarged (s : State) : Bool :=
  match s.higherDc with
  | some v => fLt v 0x42700000#32
  | none => false

/-- FRICTION_REQ of CHOP_FAULT ends once every slot is OFF or STOPPED and the cause is cleared in every group (R327). -/
def State.frictionCheck (s : State) : State :=
  if s.chop.friction && s.allResting && (List.finRange 4).all (fun i => !s.causeSet (driveCause i 8)) then
    { s with chop := { s.chop with friction := false } }
  else s

/-- Every leg that a chopper request can drive forms its references anew (R323). -/
def State.chopRefs (s : State) : State :=
  ((List.finRange 32).foldl (fun t n =>
    let f := (t.legRec n.val).function
    if (f = 2 ∨ f = 3 ∨ f = 4) ∧ t.refs n ≠ ((t.leg n).outA.ref, (t.leg n).outB.ref) then (t.legElapse n).updateRefs n .other else t) s).settle

/-- DISCH_PARAM of a slot is written under R176 (R332, R333). -/
def State.writeDisch (s : State) (i : Fin 4) (x : Word) : State :=
  s.writeParam (s.get (Reg.DRIVE.SLOT.PARAMS.DISCH_PARAM i.val)) x

/-- MODE_PARAM is written under R176 (R340). -/
def State.writeMode (s : State) (x : Word) : State := s.writeParam (s.get Reg.DRIVE.CHG.CFG.MODE_PARAM) x

/-- The contactor feedback reads closed (R341). -/
def State.fbClosed (s : State) : Bool := s.chg.fbHigh == s.flag Reg.DRIVE.CHG.CFG.FB_POL

/-- The park-brake input reads applied (R341). -/
def State.parkApplied (s : State) : Bool := s.chg.parkHigh == s.flag Reg.DRIVE.CHG.CFG.PARK_POL

/-- A slot leaves CHARGE for STOPPED or SAFE (R340, R342): in SAFE the phase stays OPENING until the feedback reads open. -/
def State.leaveCharge (s : State) (safe : Bool) : State :=
  let c := s.chg
  let t := s.writeMode f0
  { t with chg := { c with
      ctrLow := false, settle := false, phase := if safe && s.fbClosed then .opening else .idle } }

/-- The request of a discharge ends (R332, R324): a pulse not yet verified that no other request holds has released before its verification
and passes. -/
def State.dischRelease (s : State) : State :=
  let t := { s with chop := { s.chop with dischReq := false } }
  if s.chop.waiting && !s.chop.req then
    State.put { t with chop := { t.chop with waiting := false } } Reg.DRIVE.CHOP_STATUS.VERIFIED 1
  else t

/-- A slot leaves DISCHARGE (R332): the chopper request ends; the end of phase 2 writes 0.0 to DISCH_PARAM. -/
def State.leaveDischarge (s : State) (i : Fin 4) : State :=
  let x := s.slot i
  let s1 := if x.dischPhase = 2 then s.writeDisch i f0 else s
  let s2 := s1.setSlot i { x with dischPhase := 3 }
  State.chopRefs (State.dischRelease s2)

/-- The rotation detector of a slot starts (R210). -/
def State.rotStart (s : State) (i : Fin 4) : State :=
  { s with slalom := s.slalom.set i { s.slalom[i] with
      rotBusy := true, rotHigh := false, rotLow := false, rotSpan := s.get (Reg.SLALOM.SL.ROT_CFG.PROBE_TIME i.val) * 300000 } }.put (Reg.SLALOM.SL.ROT_RESULT.BUSY i.val) 1

/-- The rotation detector of a slot stops without a result. -/
def State.rotStop (s : State) (i : Fin 4) : State :=
  { s with slalom := s.slalom.set i { s.slalom[i] with rotBusy := false } }.put (Reg.SLALOM.SL.ROT_RESULT.BUSY i.val) 0

/-- A result of the detector or of a lock is written (R211, R212, R314): 1 STILL, 2 FORWARD, 3 REVERSE, 4 UNSURE. -/
def State.rotWrite (s : State) (i : Fin 4) (res src : Nat) (speed angle : Word) : State :=
  let s1 := (((s.put (Reg.SLALOM.SL.ROT_RESULT.RESULT i.val) res).put (Reg.SLALOM.SL.ROT_RESULT.SOURCE i.val) src).put
    (Reg.SLALOM.SL.ROT_RESULT.BUSY i.val) 0).bumpWrap (Reg.SLALOM.SL.ROT_RESULT.SEQ i.val)
  let s2 := { s1 with slalom := s1.slalom.set i { s1.slalom[i] with rotBusy := false, rotSpeed := speed, rotAngle := angle } }
  (s2.routeVal 0x0B (32 + 2 * i.val) (radOf angle)).routeVal 0x0B (33 + 2 * i.val) speed

/-- Slalom takes a slot that enters one of the five states of R193 (R202): SVM, or BLOCK with COMMUT = 1 (R206). -/
def State.slalomEnter (s : State) (i : Fin 4) : State :=
  { s with slalom := s.slalom.set i { s.slalom[i] with
      mode := if (s.slotRec i.val).commut = 1 then .block else .svm
      cnt := 0, active := false, idled := false } }

/-- A lock starts (R311, R312): no result of it has reached EMF_MIN yet. -/
def State.lockBegin (s : State) (i : Fin 4) : State :=
  { s with slalom := s.slalom.set i { s.slalom[i] with lockHigh := false } }

/-- The states in which Slalom modulates (R193). -/
def SlotState.modulated : SlotState → Bool
  | .catching | .run | .glide | .charge | .discharge => true
  | .off | .armed | .probe | .stopped | .safe => false

/-- What a slot's record becomes at a transition (R306, R308, R310, R315, R334). PREV is the state that STATE showed; an entry still waiting
for its dispatch edge counts as the state that the machine is caught from. An episode of catching begins at the
first entry to CATCH from RUN, GLIDE or SAFE and ends in SAFE; the states before CATCH and its former reason are kept for the row of the lock. -/
def Slot.moved (x : Slot) (st : SlotState) (r : Reason) : Slot :=
  let left := x.judged
  let enters := decide (st = .catching)
  let safe := decide (st = .safe)
  { x with
    state := st
    prev := x.state
    reason := r
    pendEntry := none
    pendReason := .none
    glideNext := false
    lineRelease := decide (x.state = .safe) || (x.lineRelease && !safe)
    lineArmed := x.lineArmed && !safe
    tries := if safe || (enters && !x.episode) then 0 else x.tries
    episode := (enters && (decide (left = .run) || decide (left = .glide) || decide (left = .safe))) || (x.episode && !safe)
    method := if enters then (if x.above then 2 else 1) else x.method
    origin := if enters then left else x.origin
    formerReason := if enters && decide (left = .glide) then x.reason else x.formerReason
    unsure := if st = .probe then 0 else x.unsure
    probeRes := if st = .probe then 0 else x.probeRes
    stillDue := false }

/-- The reset hold of a slot ends (R469): its legs follow the trip network alone. -/
def State.endHold (s : State) (i : Fin 4) : State :=
  if s.trip.resetHold.getLsbD i.val then
    let t := { s with
      trip := { s.trip with resetHold := s.trip.resetHold &&& ~~~(1#4 <<< i.val) }
      legs := Vector.ofFn (fun n : Fin 32 =>
        if (s.legRec n.val).slot = i.val then { s.legs[n] with hold := none } else s.legs[n]) }
    t.reforce
  else s

/-- The latch of a channel clears, unless a detector still reads active (R289). -/
def EdgeCh.unlatch (e : EdgeCh) : EdgeCh := { e with latch := e.supUv || e.ot || e.hot }

/-- A soft turn-off is running (R286). -/
def EdgeCh.soft (e : EdgeCh) : Bool := decide (e.out = .soft1) || decide (e.out = .soft2) || decide (e.out = .soft3)

/-- A channel of a leg that is not FOLLOW_SLOT holds others off until its latch clears (R292). -/
def State.dropHolds (s : State) : State :=
  let done (a : Nat) : Bool :=
    let e := s.edges[(Fin.ofNat 64 a)]
    decide ((s.legRec (s.chanRec a).leg).trip ≠ 0) && !e.latch && !e.soft
  { s with edges := s.edges.map (fun e => { e with heldBy := e.heldBy.filter (fun a => !done a) }) }

/-- The latches of a slot's channels and its FAILSIDE bits clear (R289, R292, R306). -/
def State.clearLatches (s : State) (i : Fin 4) : State :=
  let t := { s with edges := Vector.ofFn (fun n : Fin 64 =>
    let r := s.chanRec n.val
    if !r.unmapped && decide ((s.legRec r.leg).slot = i.val) then s.edges[n].unlatch else s.edges[n]) }
  let m := t.get Reg.PWM.TRIP.FAILSIDE.SIDES
  State.reforce (t.dropHolds.put Reg.PWM.TRIP.FAILSIDE.SIDES (m - m / 4 ^ i.val % 4 * 4 ^ i.val))

/-- A transition takes effect (R289, R302, R306, R308). -/
def State.enterNow (s : State) (i : Fin 4) (st : SlotState) (r : Reason) : State :=
  let x := s.slot i
  let s1 := if x.judged = .charge ∧ (st = .safe ∨ st = .stopped) then s.leaveCharge (decide (st = .safe)) else s
  let s2 := if x.state = .discharge then s1.leaveDischarge i else s1
  let s3 := if x.state = .probe then s2.rotStop i else s2
  let s4 := s3.setSlot i ((s3.slot i).moved st r)
  let s5 := if st.modulated then (s4.slalomEnter i).lockBegin i else s4
  let s6 := if st = .safe then ((s5.bump (Reg.DRIVE.SLOT.EVENTS.SAFE_ENTRIES i.val)).slotLine i true).endHold i else s5
  let s7 := if st = .probe then s6.rotStart i else if st = .armed then s6.clearLatches i else s6
  (s7.raise (driveCause i 0)).frictionCheck

/-- A transition of R306: an entry to RUN or CHARGE waits for the next dispatch edge of the slot's task (R308). -/
def State.enter (s : State) (i : Fin 4) (st : SlotState) (r : Reason) : State :=
  if st = .run ∨ st = .charge then
    let s1 := if (s.slot i).state = .probe then s.rotStop i else s
    s1.setSlot i { s1.slot i with pendEntry := some st, pendReason := r }
  else s.enterNow i st r

/-- The discharge of a slot fails (R332, R333): DISCHARGE_FAIL, the status frame, 0.0 to DISCH_PARAM, STOPPED. -/
def State.dischargeFail (s : State) (i : Fin 4) (r : Reason) : State :=
  let s1 := (s.writeDisch i f0).raise (driveCause i 10)
  (s1.enter i .stopped r).statusFrame 3

/-- The discharge of a slot is done (R332). -/
def State.dischargeDone (s : State) (i : Fin 4) : State := (s.raise (driveCause i 9)).enter i .stopped .none

/-- Phase 2 of a discharge starts (R332). -/
def State.dischPhase2 (s : State) (i : Fin 4) : State :=
  let s1 := s.dischRelease.chopRefs
  if s1.linkDischarged then s1.dischargeDone i
  else if s1.flag (Reg.DRIVE.SLOT.PARAMS.DISCH_EN i.val) then
    (s1.setSlot i { s1.slot i with dischPhase := 2 }).writeDisch i (s1.rd (Reg.DRIVE.SLOT.DISCH_ID.addr i.val))
  else s1.dischargeFail i .none

/-- A leg with FUNCTION 3 or 4 exists (R332). -/
def State.hasDischLeg (s : State) : Bool := (List.range 32).any (fun n => [3, 4].contains (s.legRec n).function)

/-- A chopper pulse starts (R323): counted, and due for verification from the link value at its start. -/
def State.chopStart (s : State) : State :=
  let hi := max s.dcl.nowA s.dcl.nowB
  State.bump { s with chop := { s.chop with startMv := hi, nowMv := hi, sensed := false, waiting := true } }
    Reg.DRIVE.CHOP_STATUS.PULSES

/-- DISCHARGE begins (R332): phase 1 with a chopper leg, else phase 2. -/
def State.dischBegin (s : State) (i : Fin 4) : State :=
  if s.linkDischarged then s.dischargeDone i
  else if s.hasDischLeg then
    let s1 := s.setSlot i { s.slot i with dischPhase := 1 }
    State.chopRefs (State.chopStart { s1 with chop := { s1.chop with dischReq := true } })
  else s.dischPhase2 i

/-- A pulse that passes no test (R324 to R327): CHOP_FAULT in the group of every slot that Slalom serves, or of D0; the
regenerative parameters zeroed; FRICTION_REQ; the status frame; a discharge in phase 1 goes on to phase 2 (R332). -/
def State.chopFault (s : State) (m : Mark) : State :=
  let served := (List.finRange 4).filter (fun i => s.flag (Reg.SLALOM.SL.CFG.ENABLE i.val))
  let s1 := (if served = [] then [0] else served).foldl (fun t i => t.raiseM (driveCause i 8) m) s
  let s2 := (List.finRange 4).foldl (fun t i =>
    if t.flag (Reg.DRIVE.SLOT.PARAMS.REGEN_EN i.val) then t.writeParam (t.get (Reg.DRIVE.SLOT.PARAMS.REGEN_PARAM i.val)) f0
    else t) s1
  let s3 := State.statusFrame
    (State.put { s2 with chop := { s2.chop with friction := true } } Reg.DRIVE.CHOP_STATUS.FAULT 1) 1
  (List.finRange 4).foldl (fun t i =>
    if (t.slot i).state = .discharge ∧ (t.slot i).dischPhase = 1 then t.dischPhase2 i else t) s3

/-- A chopper pulse is judged (R324): `fell` when the link has fallen by CHOP_DV, `ended` when the request has released. -/
def State.chopJudge (s : State) (fell ended : Bool) : State :=
  if s.chop.waiting then
    let pass := s.chop.sensed || fell || ended
    let s1 := State.put { s with chop := { s.chop with waiting := false } } Reg.DRIVE.CHOP_STATUS.VERIFIED (b2n pass)
    if pass then s1 else s1.chopFault .real
  else s

/-- The chopper request asserts (R323): an OV_CHOP crossing while CHOP_CFG.ENABLE = 1. -/
def State.chopAssert (s : State) : State :=
  if s.flag Reg.DRIVE.CHOP_CFG.ENABLE && !s.chop.req then
    State.chopRefs (State.chopStart { s with chop := { s.chop with req := true } })
  else s

/-- CHARGE ends by STOP or F2 (R342): from CLOSING the contactor opens, from ACTIVE the power ramps down; before the
contactor has moved the slot stops at once. -/
def State.chargeStop (s : State) (i : Fin 4) (r : Reason) : State :=
  match s.chg.phase with
  | .idle => s.enter i .stopped r
  | .closing =>
    if s.fbClosed then { s with chg := { s.chg with phase := .opening, ctrLow := false, settle := false, stopReason := r } }
    else s.enter i .stopped r
  | .active => { s with chg := { s.chg with phase := .rampDown, stopReason := r } }
  | .rampDown => s
  | .opening => s

/-- The contactor of a ramped-down session opens (R342); with the feedback open already the slot is STOPPED. -/
def State.chargeOpen (s : State) : State :=
  if s.fbClosed then { s with chg := { s.chg with phase := .opening, ctrLow := false } }
  else s.enter 0 .stopped s.chg.stopReason

/-- Patrol applies F2 to a slot (R306). -/
def State.applyF2 (s : State) (i : Fin 4) : State :=
  match (s.slot i).judged with
  | .run => s.enter i .glide .f2
  | .catching => s.enter i .glide .f2
  | .probe => s.enter i .armed .f2
  | .charge => s.chargeStop i .f2
  | .discharge => s.dischargeFail i .f2
  | .off => s
  | .armed => s
  | .glide => s
  | .stopped => s
  | .safe => s

/-- Patrol applies F3 or F4 to a slot (R306): SAFE from any state; a discharge cut short writes 0.0 (R333). -/
def State.applyF34 (s : State) (i : Fin 4) (r : Reason) : State :=
  if (s.slot i).state = .safe ∧ (s.slot i).pendEntry = none then s
  else
    let s1 := if (s.slot i).state = .discharge then s.writeDisch i f0 else s
    s1.enter i .safe r

end Sys2Proof.Machine
end

