-- ==== Sys2Proof/Machine/Emf.lean ====
section
/-! DEFINITION. What the phase contacts of a slot show of its machine: the back-EMF in the PHV results (R210 to R212, R303, R312) and the
short-circuit currents of an ASC pattern (R313). -/

namespace Sys2Proof.Machine

/-- √3 to 40 decimals. -/
def sqrt3Q : Rat := (17320508075688772935274463415058723669428 : Nat) / ((10 ^ 40 : Nat) : Rat)

/-- Square root of a rational that is not negative, error below 2^−40. -/
def sqrtQ (q : Rat) : Rat :=
  let n := q.num.natAbs * 2 ^ 80 / q.den
  (isqrtBits n (Nat.log2 n / 2 + 1) 0 : Rat) / ((2 ^ 40 : Nat) : Rat)

/-- Magnitude of a rational. -/
def absQ (v : Rat) : Rat := if v < 0 then -v else v

/-- Sign of a rational. -/
def signQ (v : Rat) : Rat := if v < 0 then -1 else if v = 0 then 0 else 1

/-- A difference of angles in turns, brought to within half a turn. -/
def wrapTurn (d : Rat) : Rat := d - ((d + 1 / 2).floor : Rat)

/-- α and β of three phase values without their mean, the phase voltages of R197 in reverse (R210). -/
def clarke (a b c : Rat) : Rat × Rat :=
  let mean := (a + b + c) / 3
  (a - mean, (b - c) / sqrt3Q)

/-- The angle of a vector in turns; that of the zero vector is `last`. -/
def angleTurns (v : Rat × Rat) (last : Rat) : Rat := if v.1 = 0 ∧ v.2 = 0 then last else atan2Q v.2 v.1 false / (2 * piQ)

/-- Mechanical rpm of an electrical speed in turns per second. -/
def State.rpmOf (s : State) (i : Fin 4) (tps : Rat) : Rat :=
  let pp := (s.slotRec i.val).polePairs
  if pp = 0 then 0 else tps * 60 / (pp : Rat)

/-- EMF_MIN of a slot in V. -/
def State.emfMin (s : State) (i : Fin 4) : Rat := fRat (s.rd (Reg.SLALOM.SL.EMF_MIN.addr i.val))

/-- The amplitude of a back-EMF result is at or above a bound. -/
def EmfPt.atLeast (p : EmfPt) (v : Rat) : Bool := decide (v ≤ 0 ∨ v * v ≤ p.amp2)

/-- CLK_CTL cycles of the span of source 4 and of the EMF lock, 2 ms (R303, R312). -/
abbrev emfSpanCycles : Nat := 600000

/-- The three PHV results of a slot, taken as the last of them arrives, give a back-EMF result where all are valid (R210). It stays as long
as the 2 ms span or the detector's window may need it. -/
def State.emfMeasure (s : State) (i : Fin 4) (cycle : Nat) : State :=
  let b := s.get (Reg.SLALOM.SL.CFG.PHV_BASE i.val)
  let ch (k : Nat) : SdmCh := s.phv[Fin.ofNat 12 (b + k)]
  if (ch 0).valid && (ch 1).valid && (ch 2).valid then
    let x := s.slalom[i]
    let v := clarke (fRat (ch 0).res) (fRat (ch 1).res) (fRat (ch 2).res)
    let last := (x.emf.head?.map (fun p => p.theta)).getD 0
    let pt : EmfPt := { cycle := cycle, amp2 := v.1 * v.1 + v.2 * v.2, theta := last + wrapTurn (angleTurns v last - last) }
    let keep := max emfSpanCycles x.rotSpan
    { s with slalom := s.slalom.set i { x with
        emf := pt :: x.emf.takeWhile (fun p => decide (cycle ≤ p.cycle + keep))
        lockHigh := x.lockHigh || pt.atLeast (s.emfMin i) } }
  else s

/-- A PHV result of channel k completes the triple of the slots whose last channel it is (R210). -/
def State.emfTake (s : State) (k cycle : Nat) : State :=
  (List.finRange 4).foldl (fun t i =>
    if t.get (Reg.SLALOM.SL.CFG.PHV_BASE i.val) + 2 = k then (t.emfMeasure i cycle).rotSampleSlot i cycle else t) s

/-- What the valid PHV results of a span show of the back-EMF (R210 to R212, R303, R312, R429): whether A was at or above EMF_MIN in every
result (for the detector: of its second half), or below it in every one; the unwrapped rate of θ_e over the span and over its two halves,
where each has one, in turns per second; θ_e at the end, in turns; the mean of A. -/
structure EmfSpan where
  allHigh : Bool
  allLow : Bool
  rate : Rat
  halves : Option (Rat × Rat)
  theta : Rat
  amp : Rat
deriving DecidableEq, Repr

/-- The rate of θ_e from one result to a later one, in turns per second. -/
def emfRate (a b : EmfPt) : Rat :=
  if b.cycle ≤ a.cycle then 0 else (b.theta - a.theta) * 300000000 / ((b.cycle - a.cycle : Nat) : Rat)

/-- The results from CLK_CTL cycle `start` on, newest first; those from `highStart` on decide on `allHigh`. None without a result. -/
def emfSpanOf (bound : Rat) (pts : List EmfPt) (start highStart : Nat) : Option EmfSpan :=
  let w := pts.filter (fun p => decide (start ≤ p.cycle))
  match w, w.getLast? with
  | z :: _, some a =>
    let mid := (a.cycle + z.cycle) / 2
    let m := ((w.filter (fun p => decide (mid ≤ p.cycle))).getLast?).getD z
    let late := w.filter (fun p => decide (highStart ≤ p.cycle))
    some {
      allHigh := decide (late ≠ []) && late.all (fun p => p.atLeast bound)
      allLow := w.all (fun p => !p.atLeast bound)
      rate := emfRate a z
      halves := if a.cycle < m.cycle ∧ m.cycle < z.cycle then some (emfRate a m, emfRate m z) else none
      theta := z.theta
      amp := (w.map (fun p => sqrtQ p.amp2)).sum / (w.length : Rat) }
  | _, _ => none

/-- The back-EMF of a slot over the last 2 ms (R303, R312). -/
def State.emfNow (s : State) (i : Fin 4) (cycle : Nat) : Option EmfSpan :=
  emfSpanOf (s.emfMin i) s.slalom[i].emf (cycle - emfSpanCycles) (cycle - emfSpanCycles)

/-- The back-EMF of a slot over the detector's window that ends now (R210, R211). -/
def State.emfWindow (s : State) (i : Fin 4) (cycle : Nat) : Option EmfSpan :=
  let span := s.slalom[i].rotSpan
  emfSpanOf (s.emfMin i) s.slalom[i].emf (cycle - span) (cycle - span / 2)

/-- The speed in rpm and the rotor flux angle that a back-EMF shows (R212). -/
def State.emfMotion (s : State) (i : Fin 4) (e : EmfSpan) : Rat × Word :=
  (s.rpmOf i e.rate, angleOf (e.theta - signQ e.rate / 4))

/-- The samples of short-circuit currents without their mean (R313). -/
def ascCentred (l : List (Nat × Rat × Rat)) : List (Nat × Rat × Rat) :=
  let n : Rat := l.length
  let ma := (l.map (fun p => p.2.1)).sum / n
  let mb := (l.map (fun p => p.2.2)).sum / n
  l.map (fun p => (p.1, p.2.1 - ma, p.2.2 - mb))

/-- The unwrapped turn of samples, newest first, from the oldest to the newest. -/
def ascTurn : List (Nat × Rat × Rat) → Rat
  | z :: y :: rest => wrapTurn (angleTurns z.2 0 - angleTurns y.2 0) + ascTurn (y :: rest)
  | _ => 0

/-- The latest full electrical period: the fewest newest samples that turn once about their own mean (R313; DEDUCED, log entry 76). -/
def ascPeriod (l : List (Nat × Rat × Rat)) : Option Nat :=
  (List.range (l.length + 1)).find? (fun w => decide (3 ≤ w ∧ 1 ≤ absQ (ascTurn (ascCentred (l.take w)))))

/-- What the estimator makes of its samples at a dispatch (R313): the offset-free current's magnitude over the latest full period, the
electrical speed in turns per second and θ_i in turns. -/
def ascEstimate (l : List (Nat × Rat × Rat)) : Option (Nat × Rat × Rat × Rat) :=
  match ascPeriod l with
  | none => none
  | some w =>
    match ascCentred (l.take w) with
    | [] => none
    | z :: rest =>
      let c := z :: rest
      let first := (c.getLast?).getD z
      let mag := sqrtQ ((c.map (fun p => p.2.1 * p.2.1 + p.2.2 * p.2.2)).sum / (c.length : Rat))
      let omega := if z.1 ≤ first.1 then 0 else ascTurn c * 300000000 / ((z.1 - first.1 : Nat) : Rat)
      some (w, mag, omega, angleTurns z.2 0)

/-- Two values differ by at most `tol` percent of the first. -/
def withinPct (tol : Nat) (a b : Rat) : Bool := decide (absQ (b - a) * 100 ≤ (tol : Rat) * absQ a)

/-- A full period ends each time the estimate has turned once more; it agrees with the one before when the magnitude and the speed differ
by at most LOCK_TOL % (R313). -/
def AscSt.advance (x : AscSt) (tol : Nat) (mag omega theta : Rat) : AscSt :=
  match x.prev with
  | none => { x with prev := some (mag, omega), last := theta, acc := 0, agree := 0 }
  | some (m0, o0) =>
    let acc := x.acc + wrapTurn (theta - x.last)
    if 1 ≤ absQ acc then
      { x with
        prev := some (mag, omega), last := theta, acc := acc - signQ acc
        agree := if withinPct tol m0 mag && withinPct tol o0 omega then x.agree + 1 else 0 }
    else { x with last := theta, acc := acc }

/-- An input port of a slot as latched at the dispatch. -/
def State.latchedPort (s : State) (slot port : Nat) : Port :=
  if port < 64 then s.carve.port (64 * slot + port) else {}

/-- The currents of a slot as its task latched them at the dispatch (R313). -/
def State.ascCurrents (s : State) (i : Fin 4) : Rat × Rat :=
  let b := s.get (Reg.DRIVE.SLOT.CFG.CUR_BASE i.val)
  let v (j : Nat) : Rat := fRat (s.latchedPort i.val (b + j)).val
  clarke (v 0) (v 1) (v 2)

/-- The ASC estimator at a dispatch with the phase legs in an ASC pattern (R313): speed, and the rotor flux angle
θ_i + π − sign(ω) × atan(RS / (|ω| × LQ)). -/
def State.ascTake (s : State) (i : Fin 4) (cycle : Nat) : State :=
  let x := s.slot i
  let pts := (cycle, s.ascCurrents i) :: x.asc.pts
  match ascEstimate pts with
  | none => s.setSlot i { x with asc := { x.asc with pts := pts }, estSpeed := none }
  | some (w, mag, omega, theta) =>
    let rs := fRat (s.rd (Reg.DRIVE.SLOT.RS.addr i.val))
    let d := absQ omega * 2 * piQ * fRat (s.rd (Reg.DRIVE.SLOT.LQ.addr i.val))
    let ph := if d = 0 ∧ rs = 0 then 0 else atan2Q rs d false / (2 * piQ)
    let st := { x.asc with pts := pts.take (2 * w + 2) }.advance (s.get (Reg.DRIVE.SLOT.CATCH_CFG.LOCK_TOL i.val)) mag omega theta
    s.setSlot i { x with
      asc := st
      estSpeed := some (fOfRat (s.rpmOf i omega))
      estAngle := angleOf (theta + 1 / 2 - signQ omega * ph) }

end Sys2Proof.Machine
end

