-- ==== Sys2Proof/Machine/Drive.lean ====
section
/-! DEFINITION. The commands of the drive slots, the timers of their states and the brake chopper (chapter 11). -/

namespace Sys2Proof.Machine

/-- A slot command is refused (R307); under a reset hold the RST group sets its own STATE_DENIED too (R469, R473). -/
def State.driveDeny (s : State) (i : Fin 4) : State :=
  (s.deny (Reg.DRIVE.SLOT.CMD_STATUS.addr i.val) (driveCause i 13)).setIf (s.trip.resetHold.getLsbD i.val) ⟨45, 5⟩

/-- Probe owns the phase legs of a slot (R426, R430). -/
def State.probed (s : State) (i : Fin 4) : Bool :=
  (decide (s.probe.task = .mid) || decide (s.probe.task = .cable)) && decide (s.probe.slot = i.val)

/-- No drive command is accepted: the course has failed (R86), or the migration of the parameter set (R596). -/
def State.driveHeld (s : State) : Bool := decide (s.get Reg.PISTE.STATUS.STATE = 4) || s.svc.migrateFail

/-- A slot command is accepted when its condition holds, the slot is neither under a reset hold nor owned by Probe, and neither the course
nor a migration has failed; it is refused otherwise (R14, R86, R307, R426, R469, R596). -/
def State.driveCmd (s : State) (i : Fin 4) (ok : Bool) (act : State → State) : Host.Outcome State Fault Refusal :=
  if ok && !s.driveHeld && !s.trip.resetHold.getLsbD i.val && !s.probed i then .next ((act s).status (Reg.DRIVE.SLOT.CMD_STATUS.addr i.val) codeOk) else .next (s.driveDeny i)

/-- A first-level debug session is open (R572). -/
def State.debugOne (s : State) : Bool := decide (s.get Reg.HIMET.STATUS.DEBUG = 1)

/-- What refuses ARM, CHARGE and DISCHARGE whatever the slot's state (R379, R390, R572, R595). -/
def State.driveBlocked (s : State) : Bool := s.patrol.f4 || s.liveBusy || s.debugOne || s.swapping

/-- ARM (R306, R289). -/
def execArm (i : Fin 4) (s : State) : Host.Outcome State Fault Refusal :=
  let x := s.slot i
  s.driveCmd i (x.judged.resting && s.courseActive && !x.above && !s.hardCause i && !s.driveBlocked)
    (fun t => t.enter i .armed .host)

/-- START (R306). -/
def execStart (i : Fin 4) (s : State) : Host.Outcome State Fault Refusal :=
  s.driveCmd i (decide ((s.slot i).judged = .armed) && !s.liveBusy && !s.swapping) (fun t => t.enter i .probe .host)

/-- STOP (R306, R342). -/
def execStop (i : Fin 4) (s : State) : Host.Outcome State Fault Refusal :=
  match (s.slot i).judged with
  | .run => s.driveCmd i true (fun t => t.enter i .glide .host)
  | .charge => s.driveCmd i true (fun t => t.chargeStop i .host)
  | _ => s.driveCmd i false id

/-- RESUME (R306). -/
def execResume (i : Fin 4) (s : State) : Host.Outcome State Fault Refusal :=
  let x := s.slot i
  s.driveCmd i (decide (x.judged = .glide) && decide (x.reason = .host)) (fun t => t.enter i .run .host)

/-- DISARM (R306). -/
def execDisarm (i : Fin 4) (s : State) : Host.Outcome State Fault Refusal :=
  let j := (s.slot i).judged
  s.driveCmd i (decide (j = .armed) || decide (j = .stopped)) (fun t => t.enter i .off .host)

/-- RECOVER (R306, R379). -/
def execRecover (i : Fin 4) (s : State) : Host.Outcome State Fault Refusal :=
  let x := s.slot i
  s.driveCmd i (decide (x.judged = .safe) && !x.above && !s.hardCause i && !s.patrol.f4)
    (fun t => t.enter i .stopped .host)

/-- A trip group that holds a phase leg of the slot is asserted (R306). -/
def State.phaseHeld (s : State) (i : Fin 4) : Bool :=
  (List.range 32).any (fun n => decide ((s.legRec n).slot = i.val) && decide ((s.legRec n).function = 1) && s.groupHolds n)

/-- RESTART (R306, R379). -/
def execRestart (i : Fin 4) (s : State) : Host.Outcome State Fault Refusal :=
  s.driveCmd i (decide ((s.slot i).judged = .safe) &&
      decide (s.get Reg.PWM.TRIP.FAILSIDE.SIDES / 4 ^ i.val % 4 = 0) && !s.trip.ov && !s.phaseHeld i && !s.hardCause i &&
      !s.patrol.f4)
    (fun t => t.enter i .catching .restart)

/-- |n̂| is below STANDSTILL_SPEED (R306, R319). -/
def State.slow (s : State) (i : Fin 4) : Bool :=
  fLt (fAbs (s.slot i).speed) (s.rd (Reg.DRIVE.SLOT.STANDSTILL_SPEED.addr i.val))

/-- DISCHARGE (R306, R332). -/
def execDischarge (i : Fin 4) (s : State) : Host.Outcome State Fault Refusal :=
  let j := (s.slot i).judged
  s.driveCmd i ((j.resting || decide (j = .armed)) &&
      (List.finRange 4).all (fun k => decide (k = i) || (s.slot k).state.resting) && s.slow i && !s.driveBlocked)
    (fun t => (t.enter i .discharge .host).dischBegin i)

/-- The fields of REVERSE in a slot record (R65): 0 CATCH_AND_BRAKE, 1 REFUSE, 2 START_WITH_ROTATION. -/
abbrev reverseRefuse : Nat := 1

/-- A lock is achieved (R306, R312 to R314): the result is written and the slot goes on by it and by where CATCH was entered from. -/
def State.catchLock (s : State) (i : Fin 4) (res src : Nat) (speed angle : Word) : State :=
  let x := s.slot i
  let s1 := (s.rotWrite i res src speed angle).bump (Reg.DRIVE.SLOT.EVENTS.CATCHES i.val)
  match x.origin with
  | .probe => if res = 3 ∧ (s.slotRec i.val).reverse = 0 then s1.enter i .glide .reverse else s1.enter i .run .none
  | .glide =>
    let s2 := s1.enter i .run .none
    s2.setSlot i { s2.slot i with glideNext := true }
  | _ => s1.enter i .run .none

/-- The result of a motion by the sign of its speed: 2 FORWARD, 3 REVERSE; 1 STILL at 0. -/
def motionOf (speed : Word) : Nat := if fZero? speed then 1 else if fNeg? speed then 3 else 2

/-- CATCH_DEADLINE (R311, R312, R315): by the EMF method an amplitude below EMF_MIN throughout is a lock at the next dispatch; else
the attempt has failed, and the third of an episode ends in SAFE. -/
def execCatchDeadline (i : Fin 4) (s : State) : Host.Outcome State Fault Refusal :=
  let x := s.slot i
  if x.judged ≠ .catching ∨ x.stillDue = true then .next s
  else if !s.slalom[i].lockHigh && decide (x.method = 1) then .next (s.setSlot i { x with stillDue := true })
  else
    let s1 := ((s.setSlot i { x with tries := x.tries + 1 }).bump (Reg.DRIVE.SLOT.EVENTS.CATCH_FAILS i.val)).lockBegin i
    if 3 ≤ x.tries + 1 then .next ((s1.raise (driveCause i 3)).enter i .safe .f3) else .next s1

/-- CATCH_EPISODE_END (R315): 1 s in RUN or GLIDE without a new entry to CATCH. -/
def execCatchEpisodeEnd (i : Fin 4) (s : State) : Host.Outcome State Fault Refusal :=
  let x := s.slot i
  if x.state = .run ∨ x.state = .glide then .next (s.setSlot i { x with episode := false, tries := 0 }) else .next s

/-- STANDSTILL (R319, R306): |n̂| below STANDSTILL_SPEED at every update for STANDSTILL_TIME. -/
def execStandstill (i : Fin 4) (s : State) : Host.Outcome State Fault Refusal :=
  if s.slow i then
    let s1 := s.setSlot i { s.slot i with restRun := true }
    let x := s1.slot i
    if x.judged = .glide then
      (if x.reason = .reverse then .next (s1.enter i .run .none) else .next (s1.enter i .stopped .none))
    else .next s1
  else .next s

/-- GLIDE_TIMEOUT (R319): a glide that has not reached standstill in time. -/
def execGlideTimeout (i : Fin 4) (s : State) : Host.Outcome State Fault Refusal :=
  if (s.slot i).judged = .glide ∧ s.get (Reg.DRIVE.SLOT.TIMES.GLIDE_TIMEOUT i.val) ≠ 0 then
    .next (s.raise (driveCause i 5))
  else .next s

/-- OV_TRIP2_RELEASE (R321): both values of the hardware comparison have stayed below OV_LIM for 1 ms; with a crossing of
OV_TRIP2 still standing they have not. -/
def execOvTrip2Release (s : State) : Host.Outcome State Fault Refusal :=
  if s.trip.ov && !s.dcl.crossA.getLsbD 1 && !s.dcl.crossB.getLsbD 1 then .next (s.ovLine false) else .next s

/-- DISCHARGE_PHASE1_TIMEOUT (R332): 2 s of phase 1. -/
def execDischargePhase1Timeout (i : Fin 4) (s : State) : Host.Outcome State Fault Refusal :=
  if (s.slot i).state = .discharge ∧ (s.slot i).dischPhase = 1 then .next (s.dischPhase2 i) else .next s

/-- DISCHARGE_PHASE2_TIMEOUT (R332): 5 s of phase 2. -/
def execDischargePhase2Timeout (i : Fin 4) (s : State) : Host.Outcome State Fault Refusal :=
  if (s.slot i).state = .discharge ∧ (s.slot i).dischPhase = 2 then
    .next (if s.linkDischarged then s.dischargeDone i else s.dischargeFail i .none)
  else .next s

/-- CHOP_REQUEST_RELEASE (R323, R324): both channels below OV_CHOP − CHOP_HYS and CHOP_MIN_ON over; `aMv` and `bMv` are
the values of the hardware comparison in mV. A pulse not yet verified passes, unless a discharge holds it. -/
def execChopRequestRelease (aMv bMv : Nat) (s : State) : Host.Outcome State Fault Refusal :=
  let thr := (s.get Reg.SDM.DCL_OV0.OV_CHOP - s.get Reg.DRIVE.CHOP_THR.HYS) * 1000
  let s1 := { s with dcl := { s.dcl with nowA := aMv, nowB := bMv } }
  if s.chop.req = true ∧ aMv < thr ∧ bMv < thr then
    let s2 := { s1 with chop := { s1.chop with req := false, nowMv := max aMv bMv } }
    let s3 := if s2.chop.dischReq then s2 else s2.chopJudge false true
    .next s3.chopRefs
  else .next s1

/-- CHOP_VERIFY (R324): the verification instant of the running pulse; `mv` is the higher value of the comparison. -/
def execChopVerify (mv : Nat) (s : State) : Host.Outcome State Fault Refusal :=
  .next (State.chopJudge { s with chop := { s.chop with nowMv := mv } }
    (decide (mv + s.get Reg.DRIVE.CHOP_THR.DV * 1000 ≤ s.chop.startMv)) false)

end Sys2Proof.Machine
end

