-- ==== Sys2Proof/Machine/Charge.lean ====
section
/-! DEFINITION. Charging through the windings (chapter 12). -/

namespace Sys2Proof.Machine

/-- A charging cause (R349). -/
def chgCause (b : Nat) : Cause := ⟨2, b⟩

/-- TOPO and GRID as one of the sources of R337: 0 none, 1 single-phase, 2 three wires, 3 with neutral, 4 DC. -/
def State.chgSource (s : State) : Nat :=
  match s.get Reg.DRIVE.CHG.CFG.TOPO, s.get Reg.DRIVE.CHG.CFG.GRID with
  | 1, 0 => 1
  | 1, 1 => 2
  | 1, 2 => 3
  | 2, _ => 4
  | _, _ => 0

/-- A PHV result in V. -/
def State.phvVal (s : State) (n : Nat) : Rat := if h : n < 12 then fRat s.phv[n].res else 0

/-- The last PHV channel that the measurement takes (R337). -/
def State.chgLast (s : State) : Nat :=
  s.get Reg.DRIVE.CHG.CFG.PHV_BASE + (match s.chgSource with | 1 => 1 | 2 => 2 | 3 => 3 | _ => 0)

/-- The measured voltages (R337). -/
def State.chgVolts (s : State) : Rat × Rat × Rat :=
  let b := s.get Reg.DRIVE.CHG.CFG.PHV_BASE
  let v (i : Nat) := s.phvVal (b + i)
  match s.chgSource with
  | 1 => (v 0 - v 1, 0, 0)
  | 2 => let m := (v 0 + v 1 + v 2) / 3; (v 0 - m, v 1 - m, v 2 - m)
  | 3 => (v 0 - v 3, v 1 - v 3, v 2 - v 3)
  | _ => (v 0, 0, 0)

/-- Square root of a rational as binary32. -/
def fRoot (q : Rat) : Word := (fSqrtR (fOfRat q)).val

/-- The mean square of a voltage over samples. -/
def meanSq (l : List Rat) : Rat := if l = [] then 0 else (l.map (fun v => v * v)).sum / (l.length : Rat)

/-- The phasor of the fundamental over one period of samples: the sums with cosine and sine of their phase, as (time,
value), `t0` and `T` the start and length of the period. -/
def phasor (l : List (Nat × Rat)) (t0 T : Nat) : Rat × Rat :=
  l.foldl (fun p x =>
    let a := 2 * piQ * ((x.1 : Rat) - (t0 : Rat)) / (T : Rat)
    (p.1 + x.2 * cosQ a, p.2 + x.2 * sinQ a)) (0, 0)

/-- By how many degrees the fundamental of `b` lags that of `a`, from −180 to 180. -/
def lagDeg (a b : Rat × Rat) : Rat :=
  let re := a.1 * b.1 + a.2 * b.2
  let im := a.1 * b.2 - a.2 * b.1
  if re = 0 ∧ im = 0 then 0 else atan2Q im re false * 180 / piQ

/-- Within 10° of an angle. -/
def nearDeg (x want : Rat) : Bool := decide (want - 10 ≤ x ∧ x ≤ want + 10)

/-- SEQ_OK (R338, R348). -/
def State.setSeqOk (s : State) (v : Bool) : State := s.put Reg.DRIVE.CHG.STATUS.SEQ_OK (b2n v)

/-- The source is measured at a PHV result (R337): for an AC source over the period that a rising zero crossing ends, for
a DC source over the latest 10 ms. -/
def State.sourceMeasure (s : State) (cycle : Nat) : State :=
  let src := s.chgSource
  let c := s.chg
  let v := s.chgVolts
  if src = 0 then s
  else if src = 4 then
    let win := ((cycle, v) :: c.win).filter (fun x => decide (cycle ≤ x.1 + 3000000))
    let mean := fOfRat ((win.map (fun x => x.2.1)).sum / (win.length : Rat))
    State.setSeqOk (State.wr { s with chg := { c with win := win, rms := [mean], freq := f0, seqPos := true } }
      Reg.DRIVE.CHG.SRC_V.addr mean) true
  else
    let rising := c.neg && decide (0 ≤ v.1)
    let neg := decide (v.1 < 0)
    if rising && c.crossed then
      let t0 := (c.win.getLast?.map (·.1)).getD cycle
      let per := cycle - t0
      let l := c.win
      let three := decide (src ≠ 1)
      let r0 := fRoot (meanSq (l.map (fun x => x.2.1)))
      let r1 := fRoot (meanSq (l.map (fun x => x.2.2.1)))
      let r2 := fRoot (meanSq (l.map (fun x => x.2.2.2)))
      let rms := if three then [r0, r1, r2] else [r0]
      let low := rms.foldl fMin r0
      let lag := lagDeg (phasor (l.map (fun x => (x.1, x.2.1))) t0 per) (phasor (l.map (fun x => (x.1, x.2.2.1))) t0 per)
      let pos := !three || nearDeg lag 120
      let freq := if per = 0 then f0 else fOfRat ((300000000 : Rat) / (per : Rat))
      let s1 := { s with chg := { c with win := [(cycle, v)], neg := neg, rms := rms, freq := freq, seqPos := pos } }
      ((s1.wr Reg.DRIVE.CHG.SRC_V.addr low).setSeqOk pos).setIf (three && nearDeg lag (-120)) (chgCause 6)
    else if rising then { s with chg := { c with win := [(cycle, v)], neg := neg, crossed := true } }
    else { s with chg := { c with win := if c.crossed then (cycle, v) :: c.win else [], neg := neg } }

/-- The conditions of SOURCE_OK hold now (R338). -/
def State.sourceGood (s : State) : Bool :=
  let c := s.chg
  let lo := fOfNat (s.get Reg.DRIVE.CHG.VWIN.VMIN)
  let hi := fOfNat (s.get Reg.DRIVE.CHG.VWIN.VMAX)
  decide (s.chgSource ≠ 0) && decide (c.rms ≠ []) && c.rms.all (fun v => fLe lo v && fLe v hi) &&
    (decide (s.chgSource = 4) ||
      (decide ((s.get Reg.DRIVE.CHG.FWIN.FMIN : Rat) ≤ fRat c.freq * 10) &&
       decide (fRat c.freq * 10 ≤ (s.get Reg.DRIVE.CHG.FWIN.FMAX : Rat)) && c.seqPos))

/-- SOURCE_OK (R338): the conditions have held for GRID_OK_TIME. -/
def execSourceOk (s : State) : Host.Outcome State Fault Refusal :=
  if s.sourceGood then .next (s.put Reg.DRIVE.CHG.STATUS.SOURCE_OK 1) else .next s

/-- SOURCE_LOST (R338): a condition has failed for GRID_LOSS_TIME. -/
def execSourceLost (s : State) : Host.Outcome State Fault Refusal :=
  if s.flag Reg.DRIVE.CHG.STATUS.SOURCE_OK && !s.sourceGood then
    let s1 := s.put Reg.DRIVE.CHG.STATUS.SOURCE_OK 0
    match s.chg.phase with
    | .closing => .next ((s1.bump Reg.DRIVE.CHG.EVENTS.SOURCE_LOSSES).raise (chgCause 0))
    | .active => .next ((s1.bump Reg.DRIVE.CHG.EVENTS.SOURCE_LOSSES).raise (chgCause 0))
    | .rampDown => .next ((s1.bump Reg.DRIVE.CHG.EVENTS.SOURCE_LOSSES).raise (chgCause 0))
    | .idle => .next s1
    | .opening => .next s1
  else .next s

/-- The square of the source peak (R337). -/
def State.peakSq (s : State) : Rat :=
  let hi := s.chg.rms.foldl fMax f0
  match s.chgSource with
  | 1 => 2 * fRat hi * fRat hi
  | 4 => fRat hi * fRat hi
  | _ => 6 * fRat hi * fRat hi

/-- A DC-link result is at least VMARGIN times the source peak (R339). -/
def State.linkMargin (s : State) (v : Word) : Bool :=
  let m := fRat (s.rd Reg.DRIVE.CHG.VMARGIN.addr)
  decide (0 ≤ fRat v) && decide (m * m * s.peakSq ≤ fRat v * fRat v)

/-- The first condition of R339 that fails; 0 when all hold. -/
def State.chargeDeny (s : State) : Nat :=
  let x := s.slot 0
  if s.get Reg.DRIVE.CHG.CFG.TOPO = 0 then 1
  else if x.stale ∨ x.nsrc ≠ 1 then 2
  else if !x.restRun then 3
  else if !s.parkApplied then 4
  else if s.fbClosed then 5
  else if !s.flag Reg.DRIVE.CHG.STATUS.SOURCE_OK then 6
  else if !(s.linkMargin s.dcl.a.res && s.linkMargin s.dcl.b.res) then 7
  else 0

/-- CHARGE (R306, R339, R340): D0 alone charges. -/
def execCharge (i : Fin 4) (s : State) : Host.Outcome State Fault Refusal :=
  if i ≠ 0 then s.driveCmd i false id
  else
    let d := s.chargeDeny
    let s1 := if d = 0 then s else s.put Reg.DRIVE.CHG.STATUS.DENY d
    s1.driveCmd i (decide (d = 0) && decide ((s.slot 0).judged = .armed) && !s.driveBlocked)
      (fun t => (((t.put Reg.DRIVE.CHG.STATUS.DENY 0).bump Reg.DRIVE.CHG.EVENTS.SESSIONS).writeMode f1).enter 0 .charge .host)

/-- The position that the channel serving D0 counts. -/
def State.chgPos (s : State) : Option (Fin 4 × Int) := (s.servingPos 0).map (fun k => (k, s.pos[k].pos))

/-- The entry to CHARGE takes effect (R342, R346): CTR_OUT low, the position recorded; a park brake released since the command sets
PARK_LOST. -/
def State.chargeEntered (s : State) : State :=
  State.setIf { s with chg := { s.chg with
      phase := .closing, ctrLow := true, settle := s.fbClosed, invRun := 0, ztgRun := 0, ztgTripped := false, stopReason := .none
      posRef := (s.chgPos.map (·.2)).getD 0 } } (!s.parkApplied) (chgCause 3)

/-- A contactor fault is counted (R348). -/
def State.ctrFault (s : State) (b : Nat) : State := (s.bump Reg.DRIVE.CHG.EVENTS.CTR_FAULTS).raise (chgCause b)

/-- CTR_FB_CHANGE (R341, R342): the feedback has held a new level for 1 ms. -/
def execCtrFbChange (high : Bool) (s : State) : Host.Outcome State Fault Refusal :=
  let s1 := { s with chg := { s.chg with fbHigh := high } }
  match s.chg.phase, s1.fbClosed with
  | .closing, c => .next { s1 with chg := { s1.chg with settle := c } }
  | .active, false => .next (s1.ctrFault 1)
  | .opening, false =>
    if (s.slot 0).judged = .charge then .next (s1.enter 0 .stopped s.chg.stopReason)
    else .next { s1 with chg := { s1.chg with phase := .idle } }
  | _, _ => .next s1

/-- PARK_IN_CHANGE (R341, R346): the park-brake input has held a new level for 1 ms. -/
def execParkInChange (high : Bool) (s : State) : Host.Outcome State Fault Refusal :=
  let s1 := { s with chg := { s.chg with parkHigh := high } }
  .next (s1.setIf (!s1.parkApplied && decide ((s.slot 0).state = .charge)) (chgCause 3))

/-- CLOSE_TIME_EXPIRY (R342). -/
def execCloseTimeExpiry (s : State) : Host.Outcome State Fault Refusal :=
  if s.chg.phase = .closing ∧ s.fbClosed = false then .next (s.ctrFault 1) else .next s

/-- SETTLE_EXPIRY (R342). -/
def execSettleExpiry (s : State) : Host.Outcome State Fault Refusal :=
  if s.chg.phase = .closing ∧ s.chg.settle = true ∧ s.fbClosed = true then
    .next { s with chg := { s.chg with phase := .active, settle := false } }
  else .next s

/-- RAMP_TIMEOUT (R342). -/
def execRampTimeout (s : State) : Host.Outcome State Fault Refusal :=
  if s.chg.phase = .rampDown then .next ((s.raise (chgCause 7)).chargeOpen) else .next s

/-- D0 is in SAFE after CHARGE (R342). -/
def State.safeAfterCharge (s : State) : Bool := decide ((s.slot 0).state = .safe) && decide ((s.slot 0).prev = .charge)

/-- OPEN_TIME_EXPIRY (R342): the feedback reads closed, in OPENING or in SAFE after CHARGE, whatever it has read in between. -/
def execOpenTimeExpiry (s : State) : Host.Outcome State Fault Refusal :=
  if (s.chg.phase = .opening ∨ s.safeAfterCharge = true) ∧ s.fbClosed = true then .next (s.ctrFault 2) else .next s

/-- The OV_TRIP2 line in CHARGE opens the contactor (R342); with the feedback open already the slot is STOPPED. -/
def State.chargeOv (s : State) : State :=
  match s.chg.phase with
  | .idle => s
  | .closing | .active | .rampDown | .opening =>
    if (s.slot 0).state = .charge then
      if s.fbClosed then { s with chg := { s.chg with phase := .opening, ctrLow := false, settle := false } }
      else s.enter 0 .stopped s.chg.stopReason
    else s

/-- The square of the differential current of set k (R345): iα² + iβ². -/
def State.guardSq (s : State) (k : Nat) : Rat :=
  let b := s.get (Reg.DRIVE.SLOT.CFG.CUR_BASE 0) + 3 * k
  let i (j : Nat) : Rat := fRat (s.latchedPort 0 (b + j)).val
  let a := (2 * i 0 - i 1 - i 2) / 3
  let d := i 1 - i 2
  a * a + d * d / 3

/-- The zero-torque guard and the motion checks at a dispatch of task 0 in CHARGE (R345, R346). -/
def State.ztg (s : State) : State :=
  if (s.slot 0).state ≠ .charge then s
  else
    let n := s.get Reg.DRIVE.CHG.ZTG.ZTG_COUNT
    let sets := (s.slotRec 0).phases / 3
    let base := s.get (Reg.DRIVE.SLOT.CFG.CUR_BASE 0)
    let ok := (List.range (3 * sets)).all (fun j => (s.latchedPort 0 (base + j)).valid)
    let s1 :=
      if ok then
        let g := (List.range sets).foldl (fun m k => max m (s.guardSq k)) 0
        let lim := fRat (s.rd Reg.DRIVE.CHG.ZTG_ILIM.addr)
        let run := if lim * lim < g then min (s.chg.ztgRun + 1) 16 else 0
        let trips := decide (1 ≤ run) && decide (n ≤ run)
        let t := { s with chg := { s.chg with guard := fRoot g, ztgRun := run, ztgTripped := trips } }
        if trips && !s.chg.ztgTripped then (t.bump Reg.DRIVE.CHG.EVENTS.ZTG_TRIPS).raise (chgCause 5) else t
      else s
    let inv := match s.servingPos 0 with
      | some k => !s.posValid k
      | none => true
    let run := if inv then min (s1.chg.invRun + 1) 16 else 0
    let s2 := { s1 with chg := { s1.chg with invRun := run } }
    let moved := match s.chgPos with
      | some p => decide (s.get Reg.DRIVE.CHG.ZTG.ZTG_POS < (p.2 - s.chg.posRef).natAbs)
      | none => false
    s2.setIf (moved || !s.slow 0 || (inv && decide (n ≤ run))) (chgCause 4)

end Sys2Proof.Machine
end

