-- ==== Sys2Proof/Machine/Clk.lean ====
section
/-! DEFINITION. The clock unit: loss of lock, loss of the reference and bridging (R27 to R31, R440), and what a spare's
bring-in records (R441), with the spare tiles that stand free (R91, R442). -/

namespace Sys2Proof.Machine

/-- A spare has been brought in (R441): BRING_IN, and SPARE_LOW when none of its kind is left. -/
def State.broughtIn (s : State) (left : Nat) : State := (s.raise ⟨5, 0⟩).setIf (decide (left = 0)) ⟨5, 1⟩

/-- A unit has failed with no spare of its kind left (R441). -/
def State.spareOut (s : State) : State := s.raise ⟨5, 2⟩

/-- An on-demand test of a unit that is not in use runs (R444): a failure that would need the unit waits for its end (R445). -/
def State.underTest (s : State) (target : Nat) : Bool :=
  s.groom.bist.any (fun b => decide (b.kind = .idle) && decide (b.target = target))

/-- Spare tiles left in a lane (R96). -/
def sparesFld (lane : Nat) : Fld := ⟨Reg.PISTE.SPARES.addr, 4 * lane, 4⟩

/-- The spare tiles of a lane that stand free: assigned to no tile, at work in no replacement, and not found faulty (R91, R442). -/
def State.freeSpares (s : State) (lane : Nat) : List Nat :=
  (List.range' 128 8).filter (fun k =>
    !s.piste.replaced.any (fun r => r.lane == lane && r.spare == k) &&
      !s.piste.repairs.any (fun r => r.unit.lane == lane && r.unit.spare == k) && !s.groom.live.badTiles.contains (lane, k))

/-- SPARES of a lane shows how many spare tiles are left (R96). -/
def State.showSpares (s : State) (lane : Nat) : State := s.put (sparesFld lane) (s.freeSpares lane).length

/-- The lock bit of a PLL: 0 = A, 1 = B. -/
def pllLock (p : Nat) : Fld := if p = 0 then Reg.CLK.STATUS.PLLA_LOCK else Reg.CLK.STATUS.PLLB_LOCK

/-- A PLL that lost lock is handed to Groomer (R27, R29, R440). -/
def State.pllToGroomer (s : State) (p : Nat) : State :=
  if s.groom.live.plls.getLsbD p then s else { s with groom := { s.groom with pllTest := some p } }

/-- A PLL has caused a switchover (R440): the third within one hour retires it. -/
def State.pllCaused (s : State) (p : Nat) : State :=
  let times := (p, s.tod.sec) :: s.groom.switches.filter (fun x => decide (s.tod.sec < x.2 + 3600))
  let s1 := { s with groom := { s.groom with switches := times } }
  if 3 ≤ (times.filter (fun x => x.1 == p)).length ∧ s.groom.live.plls.getLsbD p = false then
    State.raise { s1 with groom := { s1.groom with
      pllTest := none, live := { s1.groom.live with plls := s1.groom.live.plls ||| (1#2 <<< p) } } } ⟨5, 4⟩
  else s1.pllToGroomer p

/-- No PLL drives the root (R29, R441): the bridge oscillator does. With the other PLL under an on-demand test the failure waits for its end
(R445). -/
def State.bridge (s : State) : State :=
  let a := s.get Reg.CLK.STATUS.ACTIVE
  let s1 := (((s.put Reg.CLK.STATUS.PLLA_LOCK 0).put Reg.CLK.STATUS.PLLB_LOCK 0).put Reg.CLK.STATUS.BRIDGE 1).raise ⟨46, 3⟩
  if s.underTest (0x71 - a) then { s1 with groom := { s1.groom with pllWait := true } } else s1.spareOut

/-- The root moves from the bridge oscillator to a PLL, and the other goes to Groomer (R29, R440). -/
def State.bridgeEnd (s : State) (p : Nat) : State :=
  let s1 := ((s.put Reg.CLK.STATUS.BRIDGE 0).put (pllLock p) 1).put Reg.CLK.STATUS.ACTIVE p
  State.pllToGroomer { s1 with groom := { s1.groom with pllWait := false } } (1 - p)

/-- PLL_SWITCH (R27, R30, R437): the active PLL loses lock while the other is locked, and the root moves to the other. DESIGN CHOICE
(log entry 65): a PLL that has relocked but is still in Groomer's 10 s test (R440) counts as unlocked, so no switchover goes to it. With the other PLL
under an on-demand test the root bridges, as with no spare PLL, until the test ends (R445). -/
def execPllSwitch (s : State) : Host.Outcome State Fault Refusal :=
  let a := s.get Reg.CLK.STATUS.ACTIVE
  if s.flag (pllLock a) && s.flag (pllLock (1 - a)) && !s.flag Reg.CLK.STATUS.BRIDGE && !s.underTest (0x71 - a) then
    let s1 := ((s.put (pllLock a) 0).put Reg.CLK.STATUS.ACTIVE (1 - a)).bump Reg.CLK.EVENTS.SWITCHES
    .next (((s1.raise ⟨46, 0⟩).pllCaused a).broughtIn 0)
  else if s.clk.rootRuns && s.flag (pllLock a) && !s.flag Reg.CLK.STATUS.BRIDGE && s.underTest (0x71 - a) then .next s.bridge
  else .next s

/-- REF_IN is lost (R28). -/
def State.refLoss (s : State) (m : Mark) : State :=
  if s.flag Reg.CLK.STATUS.REF_OK then
    (((s.put Reg.CLK.STATUS.REF_OK 0).put Reg.CLK.STATUS.HOLDOVER 1).bump Reg.CLK.EVENTS.REF_LOSSES).raiseM ⟨46, 1⟩ m
  else s

/-- REF_LOSS (R28). -/
def execRefLoss (s : State) : Host.Outcome State Fault Refusal :=
  .next (s.heldAct 0x0B 0 (fun t => t.refLoss .real))

/-- HOLDOVER_LIMIT (R28): 100 ms of holdover. -/
def execHoldoverLimit (s : State) : Host.Outcome State Fault Refusal :=
  .next (s.setIf (s.flag Reg.CLK.STATUS.HOLDOVER) ⟨46, 2⟩)

/-- REF_RETURN (R28): the PLL relocks to REF_IN. -/
def execRefReturn (s : State) : Host.Outcome State Fault Refusal :=
  if s.clk.rootRuns then .next (((s.put Reg.CLK.STATUS.REF_OK 1).put Reg.CLK.STATUS.HOLDOVER 0).heldEnd 0x0B 0) else .next s

/-- PLL_BOTH (R29, R441): no PLL is locked; the bridge oscillator drives the root. -/
def execPllBoth (s : State) : Host.Outcome State Fault Refusal :=
  if s.clk.rootRuns && !s.flag Reg.CLK.STATUS.BRIDGE then .next s.bridge else .next s

/-- BRIDGE_TO_PLL (R29, R440): at a root epoch start, the PLLs named have held lock for 1 ms; the other PLL goes to
Groomer. -/
def execBridgeToPll (a b : Bool) (s : State) : Host.Outcome State Fault Refusal :=
  if s.flag Reg.CLK.STATUS.BRIDGE && (a || b) then
    let p := if a then 0 else 1
    .next ((if a && b then s.put (pllLock 1) 1 else s).bridgeEnd p)
  else .next s

/-- PLL_SPARE_TEST_END (R440): the tested PLL becomes the hot spare when it relocked within 1 ms and held for 10 s. -/
def execPllSpareTestEnd (ok : Bool) (s : State) : Host.Outcome State Fault Refusal :=
  match s.groom.pllTest with
  | none => .next s
  | some p =>
    let s1 := { s with groom := { s.groom with pllTest := none } }
    .next (s1.put (pllLock p) (b2n ok))

end Sys2Proof.Machine
end

