-- ==== Sys2Proof/Machine/Sdm.lean ====
section
/-! DEFINITION. Current and voltage sensing: the SDM filters, the PHV channels and the DC link (chapter 4). -/

namespace Sys2Proof.Machine

/-- CMP of filter n (R127). -/
def cmpCause (n : Nat) : Cause := if n < 32 then ⟨20, n⟩ else ⟨21, n - 32⟩

/-- The link of an edge channel is up (R103, R278). -/
def EdgeCh.linked (e : EdgeCh) : Bool := decide (e.link = 2)

/-- The STUCK bit of stream k (R103, R126). -/
def stuckFld (k : Nat) : Fld :=
  if k < 32 then ⟨Reg.SDM.STUCK0.addr, k, 1⟩ else if k < 64 then ⟨Reg.SDM.STUCK1.addr, k - 32, 1⟩
  else ⟨Reg.SDM.STUCK2.addr, k - 64, 1⟩

/-- Stream k delivers bits (R101, R103): not stuck; an internal one has a sense source and a link that is up. -/
def State.streamOk (s : State) (k : Nat) : Bool :=
  !s.flag (stuckFld k) &&
    (if k < 64 then
      let r := s.chanRec k
      !r.unmapped && decide (r.sense % 4 ≠ 0) && (s.edges[Fin.ofNat 64 k]).linked
    else decide (k < 80))

/-- The inputs of filter n: streams A and B, 127 = none. -/
def State.inputs (s : State) (n : Nat) : Nat × Nat := (s.get (Reg.SDM.F.CFG.INPUT_A n), s.get (Reg.SDM.F.CFG.INPUT_B n))

/-- The inputs of filter n deliver valid bits (R101, R103); a filter without INPUT_A has no bits (DEDUCED). -/
def State.inputsOk (s : State) (n : Nat) : Bool :=
  let p := s.inputs n
  s.streamOk p.1 && (decide (p.2 = 127) || s.streamOk p.2)

/-- A window value x of stream k is near full scale or outside the stream's working range (R102, R110). -/
def State.overRange (s : State) (k : Nat) (x : Rat) : Bool :=
  let r := s.chanRec k
  decide (19 / 20 ≤ x ∨ x ≤ -(19 / 20)) ||
    (decide (k < 64) &&
      (if r.sense / 2 % 2 = 1 then decide (x < -(250 / 320) ∨ 250 / 320 < x)
       else decide (x * (16 / 5) < -1 ∨ 3 < x * (16 / 5))))

/-- CLK_CTL cycles per CLK_MOD cycle (R25). -/
def State.modCycles (s : State) : Nat := if s.flag Reg.CLK.CTRL.MOD_DIV then 15 else 12

/-- The sums of d successive values of a list, one for each place in it. -/
def boxSums (d : Nat) : List Int → List Int
  | [] => []
  | x :: xs => ((x :: xs).take d).sum :: boxSums d xs

/-- The window value x of a sinc filter of an order and decimation D over the newest order × D bits, newest first (R102, R104); a bit is +1
or −1. DEDUCED (log entry 84): a sinc filter is D-fold summing, order times over, so that its response lies on the newest order × (D − 1) + 1 of
these bits. -/
def sincValue (order d : Nat) (bits : List Bool) : Rat :=
  let one (b : Bool) : Int := if b then 1 else -1
  let v := (List.range order).foldl (fun l _ => boxSums d l) ((bits.take (order * d)).map one)
  ((v.headD 0 : Int) : Rat) / ((d ^ order : Nat) : Rat)

/-- How many results of spacing D a result averages (R105, R106): 1 but in NOTCH, where it is K, and not known before the second trigger. -/
def State.meanCount (s : State) (mode d : Nat) (t : SdmTrig) : Option Nat :=
  if mode = 2 then t.gap.map (fun g => max 1 (min (g / (s.modCycles * d)) 256)) else some 1

/-- The value of a filter's window on bits newest first (R104 to R106); none without a full window. -/
def sdmWindow (order d : Nat) (k : Option Nat) (bits : List Bool) : Option Rat :=
  match k with
  | none => none
  | some k =>
    if bits.length < (order + k - 1) * d then none
    else some (((List.range k).map (fun j => sincValue order d (bits.drop (j * d)))).sum / (k : Rat))

/-- A free number of −1 to 1: the window value where no full window exists, of which the spec says only VALID = 0. -/
def freeX (v : BitVec 32) : Rat := (v.toInt : Rat) / 2147483648

/-- A trigger of the task that a LOCKED or NOTCH channel follows (R105, R106). -/
def SdmCh.trigger (c : SdmCh) (cycle : Nat) : SdmCh :=
  { c with trig := { due := true, last := some cycle, gap := c.trig.last.map (cycle - ·) } }

/-- A trigger of task t reaches the filters, PHV and DC-link channels that follow it (R105). -/
def State.sdmTrigger (s : State) (t cycle : Nat) : State :=
  let on (en mode task : Fld) : Bool := s.flag en && (decide (s.get mode = 1) || decide (s.get mode = 2)) && decide (s.get task = t)
  let phv := on Reg.SDM.PHV_CFG.ENABLE Reg.SDM.PHV_CFG.MODE Reg.SDM.PHV_CFG.TASK
  let dcl := on Reg.SDM.DCL_CFG.ENABLE Reg.SDM.DCL_CFG.MODE Reg.SDM.DCL_CFG.TASK
  { s with
    sdm := Vector.ofFn (fun n : Fin 48 =>
      let f := s.sdm[n]
      if on (Reg.SDM.F.CFG.ENABLE n.val) (Reg.SDM.F.CFG.MODE n.val) (Reg.SDM.F.CFG.TASK n.val) then
        { f with ch := f.ch.trigger cycle } else f)
    phv := if phv then s.phv.map (fun c => c.trigger cycle) else s.phv
    dcl := if dcl then { s.dcl with a := s.dcl.a.trigger cycle } else s.dcl }

/-- A channel forms a result now: in FREE mode always, else for a trigger whose result is still to come (R105). -/
def SdmCh.forms (c : SdmCh) (mode : Nat) : Bool := decide (mode = 0) || c.trig.due

/-- The gate state changes of the channel of stream k so far (R116). -/
def State.gateFlips (s : State) (k : Nat) : Nat := if k < 64 then s.edges[Fin.ofNat 64 k].flips else 0

/-- EDGE of a window from `start` on (R116): 1 where a count seen within the window differs from the present one, 0 where the one seen at its
start does not; between them the channel's last change may lie on either side of the start, and `gateEdge` says on which. -/
def edgeIn (seen : List (Nat × Nat × Nat)) (start fa fb : Nat) (gateEdge : Bool) : Bool :=
  let same (r : Nat × Nat × Nat) : Bool := decide (r.2.1 = fa) && decide (r.2.2 = fb)
  seen.any (fun r => decide (start ≤ r.1) && !same r) || (gateEdge && !seen.any (fun r => decide (r.1 ≤ start) && same r))

/-- RAW of x (R108). DESIGN CHOICE (log entry 82): a tie rounds away from zero; the spec names no tie rule. -/
def rawOf (x : Rat) : BitVec 24 :=
  let v := ratRound (x * (4194304 : Rat))
  BitVec.ofInt 24 (max (-8388608) (min v 8388607))

/-- A window of `need` CLK_CTL cycles that ends at `cycle` starts no earlier than the bits of its channel (R104). -/
def SdmCh.whole (c : SdmCh) (need cycle : Nat) : Bool :=
  match c.freshFrom with
  | some from_ => decide (from_ + need ≤ cycle)
  | none => true

/-- Replace a filter's record. -/
def State.setSdm (s : State) (n : Fin 48) (f : SdmFilter) : State := { s with sdm := s.sdm.set n f }

/-- The filter of a number that a PARTNER field gives. -/
def sdmIdx (n : Nat) : Fin 48 := Fin.ofNat 48 n

/-- Two filters name each other in PARTNER, lock to the same TASK and run LOCKED or NOTCH (R117, R118). -/
def State.paired (s : State) (n : Fin 48) : Bool :=
  let m := s.get (Reg.SDM.F.PAIR.PARTNER n.val)
  let locked (k : Nat) := let v := s.get (Reg.SDM.F.CFG.MODE k); decide (v = 1) || decide (v = 2)
  decide (m < 48) && decide (m ≠ n.val) && decide (s.get (Reg.SDM.F.PAIR.PARTNER m) = n.val) &&
    decide (s.get (Reg.SDM.F.CFG.TASK m) = s.get (Reg.SDM.F.CFG.TASK n.val)) && locked m && locked n.val

/-- A pair's comparison of the two results of one trigger (R117). -/
def State.pairCompare (s : State) (n : Fin 48) : State :=
  let m := sdmIdx (s.get (Reg.SDM.F.PAIR.PARTNER n.val))
  if s.paired n && s.flag (Reg.SDM.F.PAIR.PAIR_EN n.val) && s.flag (Reg.SDM.F.PAIR.PAIR_EN m.val) &&
      s.sdm[n].ch.fresh && s.sdm[m].ch.fresh then
    let lo := if n.val < m.val then n else m
    let a := s.sdm[n].ch
    let b := s.sdm[m].ch
    let s1 := (s.setSdm n { s.sdm[n] with ch := { a with fresh := false } })
    let s2 := s1.setSdm m { s1.sdm[m] with ch := { b with fresh := false } }
    if !a.valid || !b.valid || a.edge || b.edge then s2
    else
      let d := (Ext.of a.res).sub (Ext.of b.res)
      let tol := Ext.of (s.rd (Reg.SDM.F.PAIR_TOL.addr lo.val))
      let run := if tol.lt d || tol.lt d.neg then min (s2.sdm[lo].pairRun + 1) 16 else 0
      (s2.setSdm lo { s2.sdm[lo] with pairRun := run }).setIf
        (decide (run = s.get (Reg.SDM.F.PAIR.PCOUNT lo.val))) ⟨21, 16⟩
  else s

/-- A status of a result as a port carries it (R174). -/
def SdmCh.port (c : SdmCh) : Port :=
  { val := c.res, hasSeq := true, seq := c.seq, valid := c.valid, overload := c.overl, subst := c.subst }

/-- A filter's result is written and routed (R104 to R108, R110 to R112, R116 to R118, R125): the bits of its inputs, newest first, with the
window that ends at CLK_CTL cycle `cycle`. DESIGN CHOICE (log entry 82): GAIN × (x − OFFSET) rounds x to binary32 first, then the difference, then
the product; the spec says only that it is formed in binary32. -/
def State.filterResult (st : State) (n : Fin 48) (bitsA bitsB : List Bool) (gateEdge : Bool) (cycle : Nat) : State :=
  let f := st.sdm[n]
  let p := st.inputs n.val
  let order := st.get (Reg.SDM.F.CFG.ORDER n.val) + 1
  let d := st.get (Reg.SDM.F.DEC.D n.val)
  let k := st.meanCount (st.get (Reg.SDM.F.CFG.MODE n.val)) d f.ch.trig
  let need := (order + k.getD 1 - 1) * d * st.modCycles
  let wA := if p.1 = 127 then none else sdmWindow order d k bitsA
  let wB := if p.2 = 127 then some 0 else sdmWindow order d k bitsB
  let (fv, s) := if wA.isNone || wB.isNone then st.fresh else (0#64, st)
  let xA := wA.getD (freeX (fv.setWidth 32))
  let xB := wB.getD (freeX ((fv >>> 32).setWidth 32))
  let x := xA - xB
  let res := fMul (s.rd (Reg.SDM.F.GAIN.addr n.val)) (fSub (fOfRat x) (s.rd (Reg.SDM.F.OFFSET.addr n.val)))
  let valid := wA.isSome && wB.isSome && s.inputsOk n.val && f.ch.whole need cycle
  let overl := s.overRange p.1 xA || (decide (p.2 ≠ 127) && s.overRange p.2 xB)
  let fa := s.gateFlips p.1
  let fb := s.gateFlips p.2
  let late (r : Nat × Nat × Nat) : Bool := decide (cycle - need < r.1)
  let edge := (decide (p.1 < 64) || decide (p.2 < 64)) && edgeIn f.seen (cycle - need) fa fb gateEdge
  let seen := (cycle, fa, fb) :: (f.seen.takeWhile late ++ (f.seen.dropWhile late).take 1)
  let m := s.sdm[sdmIdx (s.get (Reg.SDM.F.PAIR.PARTNER n.val))].ch
  let sub := s.flag (Reg.SDM.F.PAIR.FAILOVER n.val) && s.paired n && (!valid || overl) && m.valid && !m.overl
  let ch : SdmCh := {
    res := res, raw := rawOf x, seq := f.ch.seq + 1#16, valid := valid, new := true, edge := edge, overl := overl
    subst := sub, fresh := true, freshFrom := f.ch.freshFrom, trig := { f.ch.trig with due := false } }
  let s1 := (s.setSdm n { f with ch := ch, spare := f.spare.map (· + 1), seen := seen }).wr (Reg.SDM.F.RES.addr n.val) res
  let s2 := (s1.setIf overl ⟨21, 19⟩).setIf sub ⟨21, 17⟩
  let s3 := s2.pairCompare n
  let out : Port := if sub then { ch.port with val := m.res, valid := true, overload := false } else ch.port
  s3.route 1 n.val out

/-- A PHV result is written and routed (R105, R119): a sinc3 window; the last of their channels measures the back-EMF of a slot (R210) and
the charging source (R337). -/
def State.phvResult (st : State) (i : Fin 12) (bits : List Bool) (cycle : Nat) : State :=
  let c := st.phv[i]
  let d := st.get Reg.SDM.PHV_CFG.DEC
  let k := st.meanCount (st.get Reg.SDM.PHV_CFG.MODE) d c.trig
  let w := sdmWindow 3 d k bits
  let need := (2 + k.getD 1) * d * st.modCycles
  let (fv, s) := if w.isNone then st.fresh else (0#64, st)
  let x := w.getD (freeX (fv.setWidth 32))
  let res := fMul 0x45160000#32 (fOfRat x)
  let overl := decide (19 / 20 ≤ x ∨ x ≤ -(19 / 20)) || decide (x * 2400 < -100 ∨ 2200 < x * 2400)
  let ch : SdmCh := { c with
    res := res, raw := rawOf x, seq := c.seq + 1#16, valid := w.isSome && c.whole need cycle, new := true, overl := overl
    trig := { c.trig with due := false } }
  let s1 := State.wr { s with phv := s.phv.set i ch } (Reg.SDM.PHV_RES.addr i.val) res
  let s2 := (s1.setIf overl ⟨21, 19⟩).route 7 i.val ch.port
  let s3 := s2.emfTake i.val cycle
  if i.val = s3.chgLast then s3.sourceMeasure cycle else s3

/-- SDM_RESULT (R104 to R107): a window of filter n, or of PHV channel n − 48, ends at CLK_CTL cycle `cycle` with these bits of its inputs,
newest first: as many as there have been since the channel was enabled or its input became valid, up to the window. A LOCKED or NOTCH
channel forms one for each trigger. -/
def execSdmResult (n : Fin 60) (bitsA bitsB : List Bool) (gateEdge copyDiffers : Bool) (cycle : Nat) (s : State) :
    Host.Outcome State Fault Refusal :=
  let s0 := s.agreeFix copyDiffers
  if n.val < 48 then
    let k := sdmIdx n.val
    if s.flag (Reg.SDM.F.CFG.ENABLE n.val) && s.sdm[k].ch.forms (s.get (Reg.SDM.F.CFG.MODE n.val)) then
      .next (s0.filterResult k bitsA bitsB gateEdge cycle)
    else .next s
  else
    let i := Fin.ofNat 12 (n.val - 48)
    if s.flag Reg.SDM.PHV_CFG.ENABLE && s.phv[i].forms (s.get Reg.SDM.PHV_CFG.MODE) then .next (s0.phvResult i bitsA cycle)
    else .next s

/-- A stream becomes stuck (R103): its STUCK bit and STREAM_STUCK. -/
def State.streamDown (s : State) (k : Nat) : State :=
  if s.flag (stuckFld k) then s else (s.put (stuckFld k) 1).raise ⟨21, 18⟩

/-- STREAM_STUCK (R103): no change of the bit for 256 cycles, or the link of an internal stream down. DEDUCED (log entry 77): the PHV and DCL_A
streams, which have no STUCK bit, are never stuck. -/
def execStreamStuck (n : Fin 80) (s : State) : Host.Outcome State Fault Refusal := .next (s.streamDown n.val)

/-- The bits of stream k are fresh from CLK_CTL cycle `cycle` on (R103, R104). -/
def State.streamFresh (s : State) (k cycle : Nat) : State :=
  { s with sdm := s.sdm.mapFinIdx (fun n f h =>
      let p := s.inputs n
      if p.1 = k ∨ p.2 = k then { f with ch := { f.ch with freshFrom := some cycle } } else f) }

/-- The link of edge channel k has been trained (R103, R104): its stream gives bits from now on. -/
def State.streamUp (s : State) (k : Nat) : State :=
  let (c, s1) := s.ctlNow
  s1.streamFresh k c

/-- Every channel of the SDM that is enabled in `s` and was not in `s0` gives bits from now on (R104). DESIGN CHOICE (log entry 98): the CLK_CTL
cycle of the enabling within its root epoch is free. -/
def State.sdmEnabled (s0 s : State) : State :=
  let rises (f : Fld) : Bool := s.flag f && !s0.flag f
  if rises Reg.SDM.PHV_CFG.ENABLE || rises Reg.SDM.DCL_CFG.ENABLE || (List.range 48).any (fun n => rises (Reg.SDM.F.CFG.ENABLE n)) then
    let (c, s1) := s.ctlNow
    let mark (b : Bool) (ch : SdmCh) : SdmCh := if b then { ch with freshFrom := some c } else ch
    { s1 with
      sdm := Vector.ofFn (fun n : Fin 48 => { s1.sdm[n] with ch := mark (rises (Reg.SDM.F.CFG.ENABLE n.val)) s1.sdm[n].ch })
      phv := s1.phv.map (mark (rises Reg.SDM.PHV_CFG.ENABLE))
      dcl := { s1.dcl with a := mark (rises Reg.SDM.DCL_CFG.ENABLE) s1.dcl.a } }
  else s

/-- STREAM_CHANGE (R103): the bit in the STUCK register clears; the bits of the stream are fresh from CLK_CTL cycle `cycle` on. A link that
is down changes nothing. -/
def execStreamChange (n : Fin 80) (cycle : Nat) (s : State) : Host.Outcome State Fault Refusal :=
  if s.flag (stuckFld n.val) && (decide (64 ≤ n.val) || (s.edges[Fin.ofNat 64 n.val]).linked) then
    .next ((s.put (stuckFld n.val) 0).streamFresh n.val cycle)
  else .next s

/-- A comparator's request ends when neither side is asserted (R115, R240). -/
def State.cmpRelease (s : State) (n : Fin 48) : State :=
  if s.sdm[n].hi || s.sdm[n].lo then s else s.endTrip (cmpCause n.val)

/-- A comparator asserts (R115). -/
def State.cmpAssert (s : State) (n : Fin 48) (m : Mark) : State :=
  (s.setCauseM (cmpCause n.val) m).presentTrip (cmpCause n.val)

/-- A side of a comparator asserts, unless a SHADOW window is open at it (R395): target 1 HI, 2 LO. -/
def State.cmpSide (s : State) (n : Fin 48) (target : Nat) (up : Bool) : State :=
  if up then s.heldAct target n.val (fun t => t.cmpAssert n .real) else s

/-- The comparators of a filter that is disabled, or whose enable bit is 0, release (R113). -/
def State.cmpGate (s : State) (n : Fin 48) : State :=
  let on := s.flag (Reg.SDM.F.CFG.ENABLE n.val)
  let f := s.sdm[n]
  let h := on && s.flag (Reg.SDM.F.CMP_CFG.EN_HI n.val)
  let l := on && s.flag (Reg.SDM.F.CMP_CFG.EN_LO n.val)
  let g := { f with
    hi := f.hi && h, lo := f.lo && l
    hiRun := if h then f.hiRun else 0, loRun := if l then f.loRun else 0 }
  if (f.hi && !h) || (f.lo && !l) then (s.setSdm n g).cmpRelease n else s.setSdm n g

/-- SDM_CMP_OUTPUT (R113 to R115): an output of the comparator filter, on the bits of both inputs newest first, judged in result units
against both thresholds, exactly. DESIGN CHOICE (log entry 83): without a full window of bits its value is free. -/
def execSdmCmpOutput (n : Fin 48) (bitsA bitsB : List Bool) (st : State) : Host.Outcome State Fault Refusal :=
  if st.flag (Reg.SDM.F.CFG.ENABLE n.val) then
    let p := st.inputs n.val
    let order := st.get (Reg.SDM.F.CMP_CFG.CORDER n.val) + 1
    let d := st.get (Reg.SDM.F.CMP_CFG.CDEC n.val)
    let wA := if p.1 = 127 then none else sdmWindow order d (some 1) bitsA
    let wB := if p.2 = 127 then some 0 else sdmWindow order d (some 1) bitsB
    let (fv, s) := if wA.isNone || wB.isNone then st.fresh else (0#64, st)
    let x := wA.getD (freeX (fv.setWidth 32)) - wB.getD (freeX ((fv >>> 32).setWidth 32))
    let val (a : Nat) : Ext := Ext.of (s.rd a)
    let y := (val (Reg.SDM.F.GAIN.addr n.val)).mul ((Ext.num x).sub (val (Reg.SDM.F.OFFSET.addr n.val)))
    let hi := val (Reg.SDM.F.CMP_HI.addr n.val)
    let lo := val (Reg.SDM.F.CMP_LO.addr n.val)
    let hys := val (Reg.SDM.F.CMP_HYS.addr n.val)
    let cnt := s.get (Reg.SDM.F.CMP_CFG.CCOUNT n.val) + 1
    let enH := s.flag (Reg.SDM.F.CMP_CFG.EN_HI n.val)
    let enL := s.flag (Reg.SDM.F.CMP_CFG.EN_LO n.val)
    let f := s.sdm[n]
    let rh := if enH && hi.lt y then min (f.hiRun + 1) 8 else 0
    let rl := if enL && y.lt lo then min (f.loRun + 1) 8 else 0
    let upH := !f.hi && enH && decide (cnt ≤ rh)
    let upL := !f.lo && enL && decide (cnt ≤ rl)
    let h := upH || (f.hi && enH && !y.lt (hi.sub hys))
    let l := upL || (f.lo && enL && !(lo.add hys).lt y)
    let s1 := s.setSdm n { f with hi := h, lo := l, hiRun := rh, loRun := rl }
    let s2 := if h then s1 else s1.heldEnd 1 n.val
    let s3 := if l then s2 else s2.heldEnd 2 n.val
    if upH && upL then .next ((s3.cmpSide n 1 true).cmpSide n 2 (s3.windowAt 1 n.val))
    else if upH || upL then .next ((s3.cmpSide n 1 upH).cmpSide n 2 upL)
    else if (f.hi || f.lo) && !(h || l) then .next (s3.cmpRelease n)
    else .next s3
  else .next st

/-- INFO of a result (R126) at the read of its RES (R112). -/
def SdmCh.info (c : SdmCh) : Word :=
  BitVec.ofNat 32 (c.seq.toNat + b2n c.valid * 65536 + b2n c.new * 131072 + b2n c.edge * 262144 + b2n c.overl * 524288 +
    b2n c.subst * 1048576)

/-- SDM_RES_READ (R112): a read of RES latches INFO and RAW; 48 to 59 PHV, 60 DCL_A, 61 DCL_B. -/
def execSdmResRead (n : Fin 62) (s : State) : Host.Outcome State Fault Refusal :=
  if n.val < 48 then
    let k := sdmIdx n.val
    let c := s.sdm[k].ch
    .next (((s.wr (Reg.SDM.F.INFO.addr n.val) c.info).wr (Reg.SDM.F.RAW.addr n.val) (c.raw.setWidth 32)).setSdm k
      { s.sdm[k] with ch := { c with new := false } })
  else if n.val < 60 then
    let i : Fin 12 := Fin.ofNat 12 (n.val - 48)
    let c := s.phv[i]
    .next { s.wr (Reg.SDM.PHV_INFO.addr i.val) c.info with phv := s.phv.set i { c with new := false } }
  else if n.val = 60 then
    .next { s.wr Reg.SDM.DCL_A_INFO.addr s.dcl.a.info with dcl := { s.dcl with a := { s.dcl.a with new := false } } }
  else
    .next { s.wr Reg.SDM.DCL_B_INFO.addr s.dcl.b.info with dcl := { s.dcl with b := { s.dcl.b with new := false } } }

/-- A DC-link result in V for the comparisons of R123: the higher or the lower of the valid results. -/
def State.lowerDc (s : State) : Option Word :=
  match s.dcl.a.valid, s.dcl.b.valid with
  | true, true => some (fMin s.dcl.a.res s.dcl.b.res)
  | true, false => some s.dcl.a.res
  | false, true => some s.dcl.b.res
  | false, false => none

/-- The glide hold of a slot follows the higher result (R318): set at or above OV_LIM in GLIDE, over below
OV_LIM − LINK_HYS. -/
def State.ovHold (s : State) (i : Fin 4) : State :=
  let x := s.slot i
  if x.state ≠ .glide then (if x.ovHold then s.setSlot i { x with ovHold := false } else s)
  else match s.higherDc with
  | none => s
  | some v =>
    let lim := fOfNat (s.get Reg.SDM.DCL_OV0.OV_LIM)
    if fLe lim v then
      (if x.ovHold then s else (s.setSlot i { x with ovHold := true }).raise (driveCause i 11))
    else if x.ovHold && fLt v (fSub lim (s.rd (Reg.DRIVE.SLOT.LINK_HYS.addr i.val))) then
      s.setSlot i { x with ovHold := false }
    else s

/-- A voltage in mV, not below 0. -/
def mvOf (volts : Rat) : Nat := (volts * 1000).floor.toNat

/-- A DC-link voltage of a SAR code (R102). -/
def sarVolts (c : Rat) : Rat := c * 2400 / 4096

/-- The value of the hardware comparison of DCL_A (R123): a sinc2 with D = 8 over the newest bits, in mV; none without a full window. -/
def dclBitsMv (bits : List Bool) : Option Nat := (sdmWindow 2 8 (some 1) bits).map (fun x => mvOf (x * 2400))

/-- The value of the hardware comparison of DCL_B (R123): its conversion, in mV. -/
def dclCodeMv (code : BitVec 12) : Nat := mvOf (sarVolts (code.toNat : Rat))

/-- DCL_RESULT (R105, R120, R121, R123): the bits of DCL_A and the SAR codes that ended within its window, newest first. Both also show
what the hardware comparison has, a sinc2 with D = 8 and the latest conversion. DESIGN CHOICE (log entry 98): the CLK_CTL cycle of the result
within its root epoch is free. -/
def execDclResult (bitsA : List Bool) (sample : Sampled (List (BitVec 12))) (s0 : State) : Host.Outcome State Fault Refusal :=
  let s := s0.agreeFix sample.differs
  let codes := sample.value
  let mode := s.get Reg.SDM.DCL_CFG.MODE
  if !s.flag Reg.SDM.DCL_CFG.ENABLE || !s.dcl.a.forms mode then .next s
  else
    let dec := s.get Reg.SDM.DCL_CFG.DEC
    let w := sdmWindow 3 dec (s.meanCount mode dec s.dcl.a.trig) bitsA
    let (now, s0) := if s.dcl.a.freshFrom.isSome then s.ctlNow else (0, s)
    let (fv, s0) := if w.isNone || codes.isEmpty then s0.fresh else (0#64, s0)
    let d := s0.dcl
    let need := (2 + (s.meanCount mode dec s.dcl.a.trig).getD 1) * dec * s.modCycles
    let xA := w.getD (freeX ((fv >>> 32).setWidth 32))
    let a : SdmCh := { d.a with
      res := fMul 0x45160000#32 (fOfRat xA), raw := rawOf xA, seq := d.a.seq + 1#16, valid := w.isSome && d.a.whole need now, new := true
      overl := decide (19 / 20 ≤ xA ∨ xA ≤ -(19 / 20)) || decide (xA * 2400 < 0 ∨ 2200 < xA * 2400)
      trig := { d.a.trig with due := false } }
    let mean : Rat := (((codes.map (·.toNat)).sum : Nat) : Rat) / (codes.length : Rat)
    let b : SdmCh := { d.b with
      res := if codes.isEmpty then fv.setWidth 32 else fOfRat (sarVolts mean)
      seq := d.a.seq + 1#16, valid := !codes.isEmpty, new := true, overl := codes.any (· == 4095#12) }
    let nowA := (dclBitsMv bitsA).getD d.nowA
    let nowB := (codes.head?.map dclCodeMv).getD d.nowB
    let both := a.valid && b.valid
    let diff := fRat a.res - fRat b.res
    let tol : Rat := (s.get Reg.SDM.DCL_TOL.TOL : Rat)
    let dis := if both then (if tol < diff ∨ tol < -diff then min (d.disRun + 1) 4 else 0) else d.disRun
    let ra := if !a.valid || a.overl then min (d.aRun + 1) 4 else 0
    let rb := if !b.valid || b.overl then min (d.bRun + 1) 4 else 0
    let s1 := (({ s0 with dcl := { d with a := a, b := b, disRun := dis, aRun := ra, bRun := rb, nowA := nowA, nowB := nowB } }.wr
      Reg.SDM.DCL_A_RES.addr a.res).wr Reg.SDM.DCL_B_RES.addr b.res)
    let s2 := (((s1.setIf (a.overl || b.overl) ⟨21, 19⟩).setIf (both && decide (dis = 3)) ⟨22, 6⟩).setIf
      (decide (ra = 3)) ⟨22, 7⟩).setIf (decide (rb = 3)) ⟨22, 8⟩
    let ov := match s1.higherDc with
      | some v => fLe (fOfNat (s.get Reg.SDM.DCL_OV0.OV_LIM)) v
      | none => d.ovLim
    let uv := match s1.lowerDc with
      | some v => fLt v (fOfNat (s.get Reg.SDM.DCL_UV.UV_WARN))
      | none => d.uvWarn
    let s3 := { s2 with dcl := { s2.dcl with ovLim := ov, uvWarn := uv } }
    let s4 := (s3.setIf (ov && !d.ovLim) ⟨22, 0⟩).setIf (uv && !d.uvWarn) ⟨22, 4⟩
    let s5 := (s4.route 5 0 a.port).route 6 0 b.port
    .next ((List.finRange 4).foldl (fun t i =>
      let u := t.ovHold i
      if (u.slot i).state = .discharge ∧ u.linkDischarged = true then u.dischargeDone i else u) s5)

/-- A crossing of the copied OV_TRIP2 in a warm reset (R468): the hold pattern of every FOLLOW_SLOT leg becomes the ABOVE
state of its slot, with the failure overrides. -/
def State.warmOv (s : State) : State :=
  (List.finRange 32).foldl (fun t n =>
    let r := t.legRec n.val
    if r.trip = 0 ∧ r.slot < 4 ∧ (t.leg n).hold.isSome = true then
      t.setLeg n { t.leg n with hold := some (patternOf r.position
        (effectiveOf (t.get Reg.PWM.TRIP.FAILSIDE.SIDES) r.slot (t.safeRec r.slot).above)) }
    else t) s

/-- What a crossing of a threshold starts (R122 to R124, R320, R322, R323, R342): 0 OV_CHOP, 1 OV_TRIP2, 2 OV_TRIP3,
3 UV_TRIP. -/
def State.crossAct (s : State) (t : Fin 4) (m : Mark) : State :=
  match t.val with
  | 0 => (s.raiseM ⟨22, 1⟩ m).chopAssert
  | 1 => ((s.ovLine true).raiseM ⟨22, 2⟩ m).chargeOv
  | 2 => (s.raiseM ⟨22, 3⟩ m).statusFrame 2
  | _ => s.raiseM ⟨22, 5⟩ m

/-- The register field of threshold t (R122, R126). -/
def dclThr (t : Fin 4) : Fld :=
  match t.val with
  | 0 => Reg.SDM.DCL_OV0.OV_CHOP
  | 1 => Reg.SDM.DCL_OV1.OV_TRIP2
  | 2 => Reg.SDM.DCL_OV1.OV_TRIP3
  | _ => Reg.SDM.DCL_UV.UV_TRIP

/-- A value of mv mV stands across threshold t (R123). DEDUCED (log entry 81): an over-voltage threshold is crossed at its value, as R318 has it
of OV_LIM; UV_TRIP below it. -/
def State.dclAcross (s : State) (t : Fin 4) (mv : Nat) : Bool :=
  let thr := s.get (dclThr t) * 1000
  if t.val = 3 then decide (mv < thr) else decide (thr ≤ mv)

/-- The value that the hardware comparison of a channel judges, in mV (R123). DESIGN CHOICE (log entry 83): of DCL_A without a full window it is
free. -/
def State.dclSeen (s : State) (chB : Bool) (obs : DclObs) : Nat × State :=
  if chB then (dclCodeMv obs.code, s)
  else match dclBitsMv obs.bits with
    | some mv => (mv, s)
    | none =>
      let (v, s1) := s.fresh
      (mvOf (freeX (v.setWidth 32) * 2400), s1)

/-- DCL_THRESHOLD_CROSS (R123, R468): the hardware comparison of channel B, else A, judges its value against threshold t. Under a warm reset
only the copied OV_TRIP2 is compared. -/
def execDclThresholdCross (t : Fin 4) (chB : Bool) (obs : DclObs) (st : State) : Host.Outcome State Fault Refusal :=
  let (mv, s) := st.dclSeen chB obs
  match s.trip.ovCopy with
  | some v => if t.val = 1 ∧ v * 1000 ≤ mv then .next s.warmOv else .next s
  | none =>
    let d := s.dcl
    let crossed := s.dclAcross t mv
    let upd (w : BitVec 4) : BitVec 4 := if crossed then w ||| (1#4 <<< t.val) else w &&& ~~~(1#4 <<< t.val)
    let a := if chB then d.crossA else upd d.crossA
    let b := if chB then upd d.crossB else d.crossB
    let stands (x y : BitVec 4) : Bool :=
      if t.val = 3 then x.getLsbD 3 && y.getLsbD 3 else x.getLsbD t.val || y.getLsbD t.val
    let s1 := { s with dcl := { d with
      crossA := a, crossB := b, nowA := if chB then d.nowA else mv, nowB := if chB then mv else d.nowB } }
    if !stands a b then .next (s1.heldEnd 3 t.val)
    else if stands d.crossA d.crossB then .next s1
    else .next (s1.heldAct 3 t.val (fun u => u.crossAct t .real))

/-- The filter that serves an index by the record (R125, R444). -/
def GroomRec.unitOf (g : GroomRec) (n : Nat) : Nat :=
  match g.filterUnit.find? (fun x => x.1 == n) with
  | some x => x.2
  | none => n

/-- What of a filter's working state a reset leaves: a bring-in starts again from its beginning (R442). -/
def SdmFilter.again (f : SdmFilter) : SdmFilter := { spare := f.spare.map (fun _ => 0), beside := f.beside }

/-- The index that filter u serves by the record (R444). -/
def State.unitUsed (s : State) (u : Nat) : Option Nat := (List.range 48).find? (fun n => s.groom.live.unitOf n == u)

/-- A filter is being brought in for an index. -/
def State.unitBeside (s : State) (u : Nat) : Bool := s.sdm.toList.any (fun f => f.spare.isSome && f.beside == u)

/-- The spare filters that stand free (R125, R442, R444): sound, serving no index, in no bring-in, and not in test after use. -/
def State.freeFilters (s : State) : List Nat :=
  (List.range 52).filter (fun u => !s.groom.live.badFilters.contains u && (s.unitUsed u).isNone && !s.unitBeside u &&
    !s.groom.bist.any (fun b => decide (b.kind = .inUse ∧ b.target = 0x20 + u)))

/-- SPARES shows how many spare filters are left (R126). -/
def State.showFilters (s : State) : State := s.put Reg.SDM.SPARES.LEFT s.freeFilters.length

/-- A filter is marked faulty, or is so no more (R442, R444). -/
def State.markFilter (s : State) (u : Nat) (bad : Bool) : State :=
  let g := s.groom
  let l := g.live.badFilters.filter (fun x => x != u)
  { s with groom := { g with live := { g.live with badFilters := if bad then u :: l else l } } }

/-- A spare filter starts to run beside the one of an index, where one is left (R125, R437, R441): the filter `want` where it stands free, as R445 asks.
DESIGN CHOICE (log entry 89): else the one with the lowest number. -/
def State.sdmSpareStart (s : State) (n : Fin 48) (want : Nat) : State :=
  match s.freeFilters with
  | [] => s.spareOut
  | u :: rest => (s.setSdm n { s.sdm[n] with spare := some 0, beside := if rest.contains want then want else u }).showFilters

/-- A spare filter is being brought in (R441). -/
def State.filterBring (s : State) : Bool := s.sdm.toList.any (fun f => f.spare.isSome)

/-- The filter under an on-demand test after use, which its own bring-in precedes (R444). -/
def State.filterInTest (s : State) : Option BistRun := s.groom.bist.filter (fun b => decide (0x20 ≤ b.target) && decide (b.target ≤ 0x53))

/-- A spare filter is being brought in, or a filter is under an on-demand test: a further failure waits (R441, R445). -/
def State.filterBusy (s : State) : Bool := s.filterBring || s.filterInTest.isSome

/-- The first filter that waits gets its spare (R441, R445): while one is tested, only the index that it served. -/
def State.nextFilter (s : State) (want : Nat) : State :=
  match s.groom.filterWait with
  | [] => s
  | m :: rest =>
    let mine := match s.filterInTest with
      | none => true
      | some b => decide (b.kind = .inUse ∧ b.target = 0x20 + s.groom.live.unitOf m)
    if s.filterBring || !mine then s
    else State.sdmSpareStart { s with groom := { s.groom with filterWait := rest } } (sdmIdx m) want

/-- SDM_SPARE_ASSIGN (R125, R437, R442): filter n is found faulty; one bring-in of the kind runs at a time, and a further filter waits for its end
(R441). -/
def execSdmSpareAssign (n : Fin 48) (s0 : State) : Host.Outcome State Fault Refusal :=
  let s := s0.markFilter (s0.groom.live.unitOf n.val) true
  if s.sdm[n].spare.isSome || s.groom.filterWait.contains n.val then .next s
  else if s.filterBusy then .next { s with groom := { s.groom with filterWait := s.groom.filterWait ++ [n.val] } }
  else .next (s.sdmSpareStart n 52)

/-- SDM_SPARE_TAKEOVER (R125, R441): after 16 compared results the spare takes over, and a filter that waits gets its own. -/
def execSdmSpareTakeover (n : Fin 48) (s : State) : Host.Outcome State Fault Refusal :=
  match s.sdm[n].spare with
  | some k =>
    if 16 ≤ k then
      let u := s.sdm[n].beside
      let s1 := s.setSdm n { s.sdm[n] with spare := none }
      let g := s1.groom
      let s2 := State.showFilters { s1 with groom := { g with
        live := { g.live with filterUnit := (n.val, u) :: g.live.filterUnit.filter (fun x => x.1 != n.val) } } }
      .next (((s2.raise ⟨21, 20⟩).broughtIn (s2.get Reg.SDM.SPARES.LEFT)).nextFilter 52)
    else .next s
  | none => .next s

end Sys2Proof.Machine
end

