-- ==== Sys2Proof/Machine/Edge.lean ====
section
/-! DEFINITION. The edge channels, their links, pairs and measurements, and the protection of each switch (chapters 9, 10). -/

namespace Sys2Proof.Machine

/-- The record of an edge channel beyond its registers. -/
def State.edge (s : State) (n : Fin 64) : EdgeCh := s.edges[n]
/-- The gate state of an output stage as R116 counts its changes: off, on, in a soft turn-off, parked. -/
def EdgeOut.gate : EdgeOut → Nat
  | .off => 0 | .on => 1 | .soft1 => 2 | .soft2 => 2 | .soft3 => 2 | .parked => 3
/-- Replace an edge channel's record; a change of its gate state is counted (R116). -/
def State.setEdge (s : State) (n : Fin 64) (e : EdgeCh) : State :=
  let old := s.edges[n]
  { s with edges := s.edges.set n { e with flips := if e.out.gate = old.out.gate then old.flips else old.flips + 1 } }
/-- An edge channel of a number. -/
def edgeIdx (n : Nat) : Fin 64 := Fin.ofNat 64 n

/-- The channel is mapped by the course (R67, R278). -/
def State.mapped (s : State) (n : Fin 64) : Bool := !(s.chanRec n.val).unmapped
/-- The channel is mapped and its domain powered. -/
def State.alive (s : State) (n : Fin 64) : Bool := s.mapped n && (s.edge n).powered
/-- The other channel of a pair (R68). -/
def State.mate (s : State) (n : Fin 64) : Option (Fin 64) :=
  let p := (s.chanRec n.val).partner
  if p < 64 ∧ s.mapped n = true then some (edgeIdx p) else none
/-- The leg record of a channel. -/
def State.chLeg (s : State) (n : Fin 64) : LegRec := s.legRec (s.chanRec n.val).leg
/-- The summary bit of a detail cause (R281). -/
def edgeSummary (d : Nat) : Nat := if d ≤ 2 then 0 else if d ≤ 9 then 1 else if d ≤ 15 then 2 else 3
/-- The interrupt cause of summary b of channel n (R281). -/
def edgeCause (n : Fin 64) (b : Nat) : Cause := ⟨12 + n.val / 8, 4 * (n.val % 8) + b⟩

/-- A detail cause of a channel sets, and with it its summary (R281). -/
def State.edgeDetail (s : State) (n : Fin 64) (d : Nat) (m : Mark) : State :=
  let c := edgeCause n (edgeSummary d)
  let t := (s.put ⟨Reg.EDGE.CH.CAUSE.addr n.val, d, 1⟩ 1).setCauseM c m
  if m = .shadow then t else t.pulseTrip c

/-- A detail cause sets when a condition holds. -/
def State.edgeIf (s : State) (b : Bool) (n : Fin 64) (d : Nat) : State := if b then s.edgeDetail n d .real else s

/-- A command of a channel is refused (R279, R387). -/
def State.edgeDeny (s : State) (addr : Nat) (n : Fin 64) : State := (s.status addr codeDenied).edgeDetail n 18 .real

/-- The side of the channel's output is marked in FAILSIDE (R264, R290): output A high, output B low; a clamp leg marks
none. EFFECTIVE of the slot follows (R243, R293). -/
def State.markSide (s : State) (n : Fin 64) : State :=
  let l := s.chLeg n
  if l.position ≤ 2 ∧ l.slot < 4 then
    let b := 2 * l.slot + (if (s.chanRec n.val).out = 0 then 1 else 0)
    State.reforce (s.wr Reg.PWM.TRIP.FAILSIDE.addr (bitTo (s.rd Reg.PWM.TRIP.FAILSIDE.addr) b true))
  else s

/-- The other member of a pair that has not degraded (R271, R272). -/
def State.twin (s : State) (n : Fin 64) : Option (Fin 64) :=
  (s.mate n).filter (fun p => !(s.edge n).single && !(s.edge p).single)

/-- The controller end keeps a channel off (R264, R267, R268, R271, R273): its own link or that of the channel paired with it lost until a
RELEASE, degraded or not; in a pair that has not degraded, either under its hold-off. -/
def State.linkOff (s : State) (n : Fin 64) : Bool :=
  let e := s.edge n
  e.lost || (s.mate n).any (fun p => (s.edge p).lost) || (s.twin n).any (fun p => (s.edge p).holdoff || e.holdoff)

/-- A hold of R290 lies on a channel or on the other member of its pair (R271). -/
def State.heldAny (s : State) (n : Fin 64) : Bool :=
  decide ((s.edge n).heldBy ≠ []) || (match s.twin n with
    | some p => decide ((s.edge p).heldBy ≠ [])
    | none => false)

/-- An interlock pair holds an output, as a pair (leg, output). -/
def Interlock.has (p : Interlock) (leg out : Nat) : Bool :=
  (decide (p.legX = leg) && decide (p.outX = out)) || (decide (p.legY = leg) && decide (p.outY = out))

/-- The output that forms an interlock pair with the given one. -/
def Interlock.other (p : Interlock) (leg out : Nat) : Nat × Nat :=
  if p.legX = leg ∧ p.outX = out then (p.legY, p.outY) else (p.legX, p.outX)

/-- The gate state that the controller end places in a downlink frame (R260, R264, R269 to R271, R290): an interlock pair holds its outputs
off from an overlap until its release (R236). -/
def State.edgeCmd (s : State) (n : Fin 64) : Bool :=
  let r := s.chanRec n.val
  let held := (List.range s.course.interlocks.length).any (fun k =>
    (match s.course.interlocks[k]? with | some p => p.has r.leg r.out | none => false) &&
      (s.linkOverlap k || s.trip.heldLink.contains k))
  s.legOut r.leg r.out && !held && !s.heldAny n && !s.linkOff n

/-- The channels mapped to an output. -/
def State.channelsOf (s : State) (leg out : Nat) : List (Fin 64) :=
  (List.finRange 64).filter (fun n =>
    s.mapped n && decide ((s.chanRec n.val).leg = leg) && decide ((s.chanRec n.val).out = out))

/-- Interlock episodes at the controller end (R270): an overlap starts one, unless the pair is held from the one before. -/
def State.linkEpisodes (s : State) (n : Fin 64) : State :=
  let r := s.chanRec n.val
  (List.range s.course.interlocks.length).foldl (fun t k =>
    match t.course.interlocks[k]? with
    | none => t
    | some p =>
      if p.has r.leg r.out = false ∨ t.linkOverlap k = false ∨ t.trip.heldLink.contains k = true then t
      else
        let x := Fin.ofNat 32 p.legX
        let t1 := State.setLeg { t with trip := { t.trip with heldLink := t.trip.heldLink ++ [k] } } x
          { t.leg x with episodes := (t.leg x).episodes + 1 }
        (t.channelsOf p.legX p.outX ++ t.channelsOf p.legY p.outY).foldl (fun u m =>
          (u.bump (Reg.EDGE.CH.LINKSTAT1.ILOCK m.val)).edgeDetail m 12 .real) t1) s

/-- A bad frame of a link (R261, R263): the 1,001st of a window sets LINK_CRC. -/
def State.badFrame (s : State) (n : Fin 64) (late : Bool) : State :=
  let s1 := s.bump (Reg.EDGE.CH.LINKSTAT0.CRC_ERRS n.val)
  let s2 := if late then s1.bump (Reg.EDGE.CH.LINKSTAT0.LATE_EDGES n.val) else s1
  let c := (s2.edge n).crcWin + 1
  (s2.setEdge n { s2.edge n with crcWin := c }).edgeIf (decide (c = 1001)) n 11

/-- The strengths that a gate edge brings into force (R257). -/
def State.newStrength (s : State) (n : Fin 64) (e : EdgeCh) : EdgeCh :=
  { e with onStr := s.get (Reg.EDGE.CH.DRIVE.ON_STR n.val), offStr := s.get (Reg.EDGE.CH.DRIVE.OFF_STR n.val) }

/-- The protection words as they reach the domain (R285). -/
def State.newProt (s : State) (n : Fin 64) (e : EdgeCh) : EdgeCh :=
  { e with
    prot0 := s.rd (Reg.EDGE.CH.PROT0.addr n.val), prot1 := s.rd (Reg.EDGE.CH.PROT1.addr n.val)
    prot2 := s.rd (Reg.EDGE.CH.PROT2.addr n.val) }

/-- A command to turn on reaches the output stage (R257, R258, R267, R284, R285, R289): new strengths and protection values come into
force. -/
def State.stageOn (s : State) (n : Fin 64) : State :=
  let e := s.edge n
  if e.out = .off ∧ e.latch = false ∧ e.holdoff = false ∧ e.powered = true then
    s.setEdge n { s.newProt n (s.newStrength n e) with
      out := .on, blank := true, ocOver := false, dsOver := false, ended := false }
  else s

/-- An ordinary turn-off reaches the output stage (R257, R284, R287, R288): a soft turn-off runs on. Thermal actions that waited
for it go on their way to the controller end. -/
def State.stageOff (s : State) (n : Fin 64) : State :=
  let e := s.edge n
  if e.out = .on then
    s.setEdge n { s.newStrength n e with
      out := .off, blank := false, ocOver := false, dsOver := false
      flags := e.flags ++ e.thermal.map (fun d => (d, false)), ended := e.ended || decide (e.thermal ≠ []), thermal := [] }
  else s

/-- The settings of the positive and the negative rail of a domain in mV (R254). -/
def State.railsMv (s : State) (n : Fin 64) : Int × Int :=
  let r := s.chanRec n.val
  (10000 + 100 * (r.vpos : Int), -2000 - 100 * (r.vneg : Int))

/-- The peak currents of an output stage in A, source and sink (R257). -/
def EdgeCh.peak (e : EdgeCh) : Rat × Rat := (25 * ((e.onStr : Rat) + 1) / 8, 25 * ((e.offStr : Rat) + 1) / 8)

/-- The sink current in A of a soft turn-off (R286): code 0 in phase 1, code 1 in phase 3, whatever OFF_STR says; none in phase 2, which
regulates. -/
def EdgeCh.softSink (e : EdgeCh) : Option Rat :=
  match e.out with
  | .soft1 => some (25 / 8)
  | .soft3 => some (25 * 2 / 8)
  | _ => none

/-- The level L of a soft turn-off in mV (R286), with the STO_LEVEL in force. -/
def State.softLevel (s : State) (n : Fin 64) : Int :=
  min (6000 + 500 * (getBits (s.edge n).prot1 20 4 : Int)) ((s.railsMv n).1 - 2000)

/-- DOWNLINK_FRAME (R260, R261, R267, R270, R282, R287 to R289): a good frame is taken, RELEASE included; a bad one is
discarded, `changed` when its period held a change of the commanded state. -/
def execDownlinkFrame (n : Fin 64) (good changed : Bool) (s : State) : Host.Outcome State Fault Refusal :=
  let s1 := s.linkEpisodes n
  if !s.alive n ∨ (s.edge n).link = 0 then .next s
  else if good then
    let e := s1.edge n
    let cmd := s1.edgeCmd n
    let s2 := s1.setEdge n { e with
      holdoff := e.holdoff && !e.releaseDue, releaseDue := false, cmdOn := cmd }
    .next (if cmd then s2.stageOn n else s2.stageOff n)
  else .next (s1.badFrame n changed)

/-- UPLINK_FRAME (R260, R261, R324): a bad frame counts; a good one reports SNS in mV, which shows current of a chopper switch above
CHOP_ISENSE. -/
def execUplinkFrame (n : Fin 64) (good : Bool) (sns : BitVec 16) (s : State) : Host.Outcome State Fault Refusal :=
  if !s.alive n ∨ (s.edge n).link = 0 then .next s
  else if good then
    let r := s.chanRec n.val
    let f := (s.chLeg n).function
    if decide ((s.get Reg.DRIVE.CHOP_ISENSE.ISENSE : Int) < sns.toInt) && decide (r.out = 0) && decide (r.sense % 2 = 1) && (f == 2 || f == 3 || f == 4) && s.chop.waiting then
      .next { s with chop := { s.chop with sensed := true } }
    else .next s
  else .next (s.badFrame n false)

/-- LINK_CRC_WINDOW_END (R263): the window restarts. -/
def execLinkCrcWindowEnd (n : Fin 64) (s : State) : Host.Outcome State Fault Refusal :=
  .next (s.setEdge n { s.edge n with crcWin := 0 })

/-- LINK_LOSS (R264, R103): no good uplink frame for 200 ns. -/
def execLinkLoss (n : Fin 64) (s : State) : Host.Outcome State Fault Refusal :=
  let e := s.edge n
  if s.alive n ∧ (e.linked = true ∨ e.link = 1) then
    .next ((((s.setEdge n { e with link := 4, lost := true }).edgeDetail n 8 .real).streamDown n.val).markSide n)
  else .next s

/-- HOLDOFF (R267, R288): no good downlink frame for 2 µs. -/
def execHoldoff (n : Fin 64) (s : State) : Host.Outcome State Fault Refusal :=
  if s.alive n then .next ((s.setEdge n { s.edge n with holdoff := true, cmdOn := false }).stageOff n) else .next s

/-- A link has been trained after L6 (R263, R278). -/
def State.trained (s : State) (n : Fin 64) : State :=
  ((s.setEdge n { s.edge n with link := 2, crcWin := 0 }).bump (Reg.EDGE.CH.LINKSTAT1.RETRAINS n.val)).streamUp n.val

/-- LINK_AUTO_RETRAIN (R268): a lost link is trained again without RELEASE. -/
def execLinkAutoRetrain (n : Fin 64) (s : State) : Host.Outcome State Fault Refusal :=
  if s.alive n ∧ (s.edge n).link = 4 then .next (s.trained n) else .next s

/-- SKEW_CAL_PASS (R265, R266): `measured` with a gate edge in the pass before, `resid` in ps, positive for a late edge. TRIM moves by one
tap against it where the bound of 125 ps is broken, and within the bound where the module chooses to (`refine`). A residual above 125 ps at
TRIM 0 or 63 sets SKEW_RANGE. -/
def execSkewCalPass (n : Fin 64) (measured : Bool) (resid : BitVec 16) (refine : Bool) (s : State) :
    Host.Outcome State Fault Refusal :=
  if s.alive n && measured then
    let trim := s.get (Reg.EDGE.CH.SKEW.TRIM n.val)
    let s1 := s.put (Reg.EDGE.CH.SKEW.RESID n.val) resid.toNat
    let r := resid.toInt
    let out := decide (125 < r.natAbs)
    if !out && !refine || decide (r = 0) then .next s1
    else if 0 < r then .next (if 0 < trim then s1.put (Reg.EDGE.CH.SKEW.TRIM n.val) (trim - 1) else s1.edgeIf out n 13)
    else .next (if trim < 63 then s1.put (Reg.EDGE.CH.SKEW.TRIM n.val) (trim + 1) else s1.edgeIf out n 13)
  else .next s

/-- The slot of a channel is OFF or STOPPED; a leg without a slot asks it of every slot (R274, R279, R289). -/
def State.edgeResting (s : State) (n : Fin 64) : Bool :=
  let k := (s.chLeg n).slot
  if k < 4 then (s.slot (Fin.ofNat 4 k)).state.resting else s.allResting

/-- A self-test or a retrain runs (R387). -/
def EdgeCh.busy (e : EdgeCh) : Bool := e.selftest.isSome || e.retrain

/-- The detector of a DET code may act on the channel: its SENSE bit is set (R282). -/
def State.detAllowed (s : State) (n : Fin 64) (det : Nat) : Bool :=
  let q := (s.chanRec n.val).sense
  match det with
  | 0 => decide (q % 2 = 1)
  | 1 => decide (q % 2 = 1)
  | 2 => decide (q / 8 % 2 = 1)
  | 3 => true
  | 4 => true
  | 5 => decide (q / 4 % 2 = 1)
  | _ => false

/-- The first allowed detector from a code on (R297). -/
def State.nextDet (s : State) (n : Fin 64) (det : Nat) : Option Nat :=
  (List.range 6).find? (fun d => decide (det ≤ d) && s.detAllowed n d)

/-- CMD_STATUS.BUSY of a channel shows whether a self-test or a retrain still runs. -/
def State.edgeBusy (s : State) (n : Fin 64) : State := s.put (Reg.EDGE.CH.CMD_STATUS.BUSY n.val) (b2n (s.edge n).busy)

/-- A command written to a channel (R279, R387): a refused one sets STATE_DENIED; one that is allowed does nothing on a channel without a
domain. -/
def State.edgeCommand (s : State) (n : Fin 64) (ok : Bool) (act : State → State) : Host.Outcome State Fault Refusal :=
  let addr := Reg.EDGE.CH.CMD_STATUS.addr n.val
  if !ok then .next (s.edgeDeny addr n)
  else if s.mapped n then .next (act (s.status addr codeOk))
  else .next s

/-- EDGE_RETRAIN (R268, R279, R289): the link goes down into training; a channel whose leg has no slot clears its latch. -/
def execEdgeRetrain (n : Fin 64) (s : State) : Host.Outcome State Fault Refusal :=
  s.edgeCommand n (!(s.edge n).busy && s.edgeResting n)
    (fun t =>
      let e := if 4 ≤ (t.chLeg n).slot then (t.edge n).unlatch else t.edge n
      ((State.edgeBusy (t.setEdge n { e with retrain := true, link := 1 }) n).dropHolds).streamDown n.val)

/-- RETRAIN_END (R268): RELEASE is sent only when the link trains. -/
def execRetrainEnd (n : Fin 64) (ok : Bool) (s : State) : Host.Outcome State Fault Refusal :=
  if (s.edge n).retrain then
    let s1 := State.edgeBusy (s.setEdge n { s.edge n with retrain := false }) n
    if ok then
      let s2 := s1.trained n
      .next (s2.setEdge n { s2.edge n with releaseDue := true, lost := false })
    else .next (((s1.setEdge n { s1.edge n with link := 4, lost := true }).edgeDetail n 8 .real).streamDown n.val)
  else .next s

/-- The least period that the PERIOD envelope of a leg allows, in counts (R72, R219). -/
def State.minPeriod (s : State) (leg : Nat) : Nat :=
  let lo := match s.legMode leg with
    | 1 => 7500
    | _ => 3750
  match s.course.env.find? (fun r => r.addr == shadowAddr leg 0 && r.lsb == 0) with
  | some r => max lo r.min.toNat
  | none => lo

/-- Gate power of a channel that drives its switch alone, in W (R272): charge, rail swing and highest frequency. -/
def State.singlePower (s : State) (n : Fin 64) : Rat :=
  let r := s.chanRec n.val
  let span := spanOf (s.legMode r.leg) (s.minPeriod r.leg)
  let swing : Rat := 12 + ((r.vpos + r.vneg : Nat) : Rat) / 10
  ((r.qg : Rat) / 1000000000) * swing * ((1500000000 : Rat) / (span : Rat)) + 1 / 5

/-- The pair of a channel is dual-sensed (R272): the SENSE byte of its secondary has bit 0, bit 3 or both set. -/
def State.dualSensed (s : State) (n p : Fin 64) : Bool :=
  let q := (s.chanRec (max n.val p.val)).sense
  decide (q % 2 = 1) || decide (q / 8 % 2 = 1)

/-- The conditions of a park (R272, R274), of a channel whose partner is not parked itself. -/
def State.parkable (s : State) (n : Fin 64) : Bool :=
  match s.mate n with
  | none => false
  | some p =>
    decide ((s.edge n).link = 2) && decide ((s.edge p).out ≠ .parked) &&
      (decide (p.val < n.val) || s.dualSensed n p) && decide (s.singlePower p ≤ 3)

/-- A pair degrades to single (R272). -/
def State.park (s : State) (n : Fin 64) : State :=
  match s.mate n with
  | none => s
  | some p =>
    let s1 := s.setEdge n { s.edge n with out := .parked, blank := false, flags := [], thermal := [] }
    ((s1.setEdge p { s1.edge p with single := true }).edgeDetail n 14 .real).edgeDetail p 14 .real

/-- EDGE_PARK (R274). -/
def execEdgePark (n : Fin 64) (s : State) : Host.Outcome State Fault Refusal :=
  let parked := decide ((s.edge n).out = .parked)
  s.edgeCommand n (!(s.edge n).busy && s.edgeResting n && s.parkable n) (fun t => if parked then t else t.park n)

/-- PAIR_SINGLE clears (R274). -/
def State.clearSingle (s : State) (n : Fin 64) : State :=
  (s.setEdge n { s.edge n with single := false }).put ⟨Reg.EDGE.CH.CAUSE.addr n.val, 14, 1⟩ 0

/-- EDGE_UNPARK (R274): refused while a HEALTH cause of the channel is set. -/
def execEdgeUnpark (n : Fin 64) (s : State) : Host.Outcome State Fault Refusal :=
  let ok := (s.mate n).isSome && s.edgeResting n && !(s.edge n).busy &&
    decide (s.get (Reg.EDGE.CH.CAUSE.CAUSES n.val) / 8 % 128 = 0)
  s.edgeCommand n ok (fun t =>
    if (t.edge n).out = .parked then
      let g := t.groom.live
      let t0 := { t with groom := { t.groom with live := { g with parked := g.parked.filter (fun k => k != n.val) } } }
      let t1 := State.clearSingle (t0.setEdge n { t0.edge n with out := .off }) n
      match t1.mate n with
      | some p => t1.clearSingle p
      | none => t1
    else t)

/-- EDGE_CLEAR_STATS (R278, R279). -/
def execEdgeClearStats (n : Fin 64) (s : State) : Host.Outcome State Fault Refusal :=
  s.edgeCommand n true (fun t =>
    (t.wr (Reg.EDGE.CH.LINKSTAT0.addr n.val) 0#32).wr (Reg.EDGE.CH.LINKSTAT1.addr n.val) 0#32)

/-- The next turn-on of a channel's output lies at least 100 ns away by the active compare values and dead times, `elapsed` CLK_EDGE counts
after the present cycle of its leg started, with no transfer instant and no SYNC within them (R273). -/
def State.parkWindow (s : State) (n : Fin 64) (elapsed : Nat) : Bool :=
  let r := s.chanRec n.val
  let k := Fin.ofNat 32 r.leg
  let l := s.leg k
  let outB := decide (r.out = 1)
  let near (place : Nat) : Bool := decide (s.tapsTo k place < (150 + elapsed) * 32)
  let turnOn := if l.forced.isSome || l.hold.isSome then false
    else if (l.out outB).dtRun then true
    else match s.edgePhases k.val outB with
      | some (on, _) =>
        let t := s.tapsTo k on
        decide ((if t = 0 then spanOf (s.legMode k.val) (s.actPeriod k.val) * 32 else t) + s.deadTime k.val outB * 32 < (150 + elapsed) * 32)
      | none => false
  let armed := l.fixed.isSome || l.armed.isSome || l.following.isSome || l.loadAll
  !turnOn && !s.trip.syncPending && !(armed && (near 0 || near (s.actPeriod k.val / (if s.legMode k.val = 2 then 1 else 2) * 32)))

/-- A channel is parked for good: Groomer's record keeps it (R442). -/
def State.recordPark (s : State) (n : Fin 64) : State :=
  { s with groom := { s.groom with live := { s.groom.live with parked := s.groom.live.parked ++ [n.val] } } }

/-- GROOMER_PARK (R272, R273, R441): with both commands off, the faulty channel of a pair is parked, which uses the one spare of its kind;
after LINK_CRC, SUP_OVERLOAD, SKEW_RANGE or OT_WARN only in a cycle that keeps clear of the next turn-on. Where a condition of R272 fails,
the switch counts as failed. DESIGN CHOICE (log entry 79): its side is then marked, as for any failed switch (R293). A channel that drives
its switch alone has no spare: a failure of it sets SPARE_OUT. -/
def execGroomerPark (n : Fin 64) (elapsed : Nat) (s : State) : Host.Outcome State Fault Refusal :=
  let c := s.rd (Reg.EDGE.CH.CAUSE.addr n.val)
  let failed := [4, 6, 7, 9].any (fun b => c.getLsbD b)
  let worn := [10, 11, 13, 15].any (fun b => c.getLsbD b)
  let e := s.edge n
  if !(failed || worn) || decide (e.out = .parked) || e.soft then .next s
  else match (s.mate n).filter (fun p => decide ((s.edge p).out ≠ .parked)) with
  | none => .next (if failed then s.spareOut else s)
  | some p =>
    if !s.parkable n then .next (s.markSide n).spareOut
    else if !e.cmdOn && !(s.edge p).cmdOn && (failed || s.parkWindow n elapsed) then .next (((s.park n).recordPark n).broughtIn 0)
    else .next s

/-- The control of a channel's injection. -/
def edgeInj (n : Fin 64) : Nat := Reg.EDGE.CH.INJ_STATUS.addr n.val

/-- A LIVE injection into a detector of the channel is pending (R298). -/
def State.edgeLive (s : State) (n : Fin 64) (det : Nat) : Bool :=
  match s.injAt (edgeInj n) with
  | some i => i.live && decide (i.target = det)
  | none => false

/-- EDGE_INJECT (R280, R298). -/
def execEdgeInject (n : Fin 64) (det : Fin 8) (cls : Nat) (s : State) : Host.Outcome State Fault Refusal :=
  if 6 ≤ det.val ∨ (cls ≠ 1 ∧ cls ≠ 2) then .next s
  else
    let live := decide (cls = 2)
    if (s.injAt (edgeInj n)).isSome || !s.alive n || !s.detAllowed n det.val || (live && !s.liveAllowed) then
      .next (s.edgeDeny (edgeInj n) n)
    else .next (s.injStart ⟨edgeInj n, live, det.val, n.val, 0⟩)

/-- A soft turn-off starts (R286, R287): the pulse that a thermal action waited for ends with it. -/
def EdgeCh.softStart (e : EdgeCh) : EdgeCh :=
  { e with
    out := .soft1, blank := false, ocOver := false, dsOver := false, ended := false
    flags := e.flags ++ e.thermal.map (fun d => (d, false)), thermal := [] }

/-- A protection action of the domain (R282, R286, R288, R289): the detail cause, the latch and a soft turn-off; a running
soft turn-off only gains the cause, and so does a parked channel, whose reactions are masked (R272). -/
def State.protAct (s : State) (n : Fin 64) (det : Nat) (m : Mark) : State :=
  let e := s.edge n
  if !s.alive n then s
  else if e.soft || decide (e.out = .parked) then s.edgeDetail n det m
  else
    let on := (decide (e.out = .on) && !e.latch) || decide (m = .live)
    let e1 := { e with latch := true, flags := e.flags ++ [(det, on)] }
    let s1 := if on then s.setEdge n e1.softStart
      else State.stageOff (s.setEdge n { e1 with ended := true }) n
    s1.edgeDetail n det m

/-- A detector finds its condition at the row of its event: a LIVE injection into it acts with the live mark and ends (R298, R396); else
the detector acts where it is active. -/
def State.protRow (s : State) (n : Fin 64) (det : Nat) (active : Bool) : State :=
  if s.edgeLive n det then (s.protAct n det .live).injEnd (edgeInj n) codeActed
  else if active && s.detAllowed n det then s.protAct n det .real
  else s

/-- The channel is ON in the sense of R282: no turn-off, soft turn-off or latch has followed the turn-on. -/
def EdgeCh.isOn (e : EdgeCh) : Bool := decide (e.out = .on) && !e.latch

/-- The channel is ON, or its soft turn-off runs, in which a detector still sets its cause (R282, R288). -/
def State.conducting (s : State) (n : Fin 64) : Bool := (s.edge n).isOn || (s.edge n).soft

/-- SC_HARD (R282, R283): SNS in mV, signed, above the threshold in force; never blanked. -/
def execScHard (n : Fin 64) (sns : BitVec 16) (s : State) : Host.Outcome State Fault Refusal :=
  if (getBits (s.edge n).prot0 0 12 : Int) < sns.toInt ∨ s.edgeLive n 0 = true then .next (s.protRow n 0 (s.conducting n)) else .next s

/-- OC (R282 to R284): SNS in mV, signed, against the threshold in force; a crossing inside the blanking window waits for its end. -/
def execOc (n : Fin 64) (sns : BitVec 16) (s : State) : Host.Outcome State Fault Refusal :=
  let above := decide ((getBits (s.edge n).prot0 16 12 : Int) < sns.toInt)
  let s1 := s.setEdge n { s.edge n with ocOver := above && (s.edge n).isOn }
  if above || s.edgeLive n 1 then .next (s1.protRow n 1 (s.conducting n && !(s.edge n).blank)) else .next s1

/-- DESAT (R282 to R284): DS in mV, signed, against the threshold in force. -/
def execDesat (n : Fin 64) (ds : BitVec 16) (s : State) : Host.Outcome State Fault Refusal :=
  let above := decide (100 * (getBits (s.edge n).prot1 0 8 : Int) < ds.toInt)
  let s1 := s.setEdge n { s.edge n with dsOver := above && (s.edge n).isOn }
  if above || s.edgeLive n 2 then .next (s1.protRow n 2 (s.conducting n && !(s.edge n).blank)) else .next s1

/-- PROTECTION_BLANK_END (R284): BLANK × 25 ns after the turn-on, `ns` now; a condition still present acts. -/
def execProtectionBlankEnd (n : Fin 64) (ns : Nat) (s : State) : Host.Outcome State Fault Refusal :=
  let e := s.edge n
  if e.blank && e.isOn && decide (25 * getBits e.prot1 8 8 ≤ ns) then
    let s1 := s.setEdge n { e with blank := false }
    let s2 := if e.ocOver then s1.protRow n 1 true else s1
    .next (if e.dsOver then s2.protRow n 2 true else s2)
  else .next s

/-- GATE_UV (R259, R282): `ns` after the turn-on, GUV_TIME over, Gn in mV stands below VPOS − 1.5 V. -/
def execGateUv (n : Fin 64) (gn : Int) (ns : Nat) (s : State) : Host.Outcome State Fault Refusal :=
  let low := decide (gn < (s.railsMv n).1 - 1500) && decide (25 * getBits (s.edge n).prot1 24 8 ≤ ns)
  if low || s.edgeLive n 3 then .next (s.protRow n 3 (s.conducting n)) else .next s

/-- A step of the self-test or of a SHADOW injection runs on a detector, which masks its reaction (R295). -/
def State.testing (s : State) (n : Fin 64) (det : Nat) : Bool :=
  decide ((s.edge n).selftest = some det) || (match s.injAt (edgeInj n) with
    | some i => !i.live && decide (i.target = det)
    | none => false)

/-- SUP_UV (R256, R282, R295): the rails in mV have stood so for 10 µs; one lies more than 1.0 V inside its setting, or both stand within it
again. -/
def execSupUv (n : Fin 64) (vpos vneg : Int) (s : State) : Host.Outcome State Fault Refusal :=
  let r := s.railsMv n
  let present := decide (vpos < r.1 - 1000) || decide (r.2 + 1000 < vneg)
  if !s.alive n then .next s
  else if s.edgeLive n 4 then .next (s.protRow n 4 true)
  else
    let s1 := s.setEdge n { s.edge n with supUv := present }
    .next (if present && !s.testing n 4 then s1.protRow n 4 true else s1)

/-- A HEALTH fault without an action of R282 keeps the channel off until the slot enters ARMED (R273, R281): on a pair both
channels are off and the side is marked. -/
def State.healthOff (s : State) (n : Fin 64) (d : Nat) : State :=
  let lock (t : State) (m : Fin 64) : State := State.stageOff (t.setEdge m { t.edge m with latch := true }) m
  let s1 := lock (s.edgeDetail n d .real) n
  match s1.mate n with
  | some p => (lock s1 p).markSide n
  | none => s1

/-- OUT_FAULT (R259): Gn in mV has stood above the negative rail + 3.0 V for more than 1 µs while commanded off and without a soft
turn-off. -/
def execOutFault (n : Fin 64) (gn : Int) (s : State) : Host.Outcome State Fault Refusal :=
  if s.alive n && decide ((s.edge n).out = .off) && decide ((s.railsMv n).2 + 3000 < gn) then .next (s.healthOff n 7) else .next s

/-- SOFT_OFF_PHASE1_END (R286): Gn in mV has reached L. -/
def execSoftOffPhase1End (n : Fin 64) (gn : Int) (s : State) : Host.Outcome State Fault Refusal :=
  if (s.edge n).out = .soft1 ∧ gn ≤ s.softLevel n then .next (s.setEdge n { s.edge n with out := .soft2 }) else .next s

/-- STO_TIME_EXPIRY (R286): `ns` after the start, STO_TIME is over. -/
def execStoTimeExpiry (n : Fin 64) (ns : Nat) (s : State) : Host.Outcome State Fault Refusal :=
  let e := s.edge n
  if (e.out = .soft1 ∨ e.out = .soft2) ∧ 1000 * (getBits e.prot1 16 3 + 1) ≤ ns then .next (s.setEdge n { e with out := .soft3 })
  else .next s

/-- SOFT_OFF_END (R286, R290): Gn in mV has fallen below the negative rail + 2.0 V; the clamp engages and the end goes to the controller
end. -/
def execSoftOffEnd (n : Fin 64) (gn : Int) (s : State) : Host.Outcome State Fault Refusal :=
  if (s.edge n).out = .soft3 ∧ gn < (s.railsMv n).2 + 2000 then .next (s.setEdge n { s.edge n with out := .off, ended := true }) else .next s

/-- The other channel of a pair takes over an action (R271, R288, R289): its latch, the same turn-off, no cause. -/
def State.relay (s : State) (p : Fin 64) (soft : Bool) : State :=
  let e := s.edge p
  if !s.alive p || decide (e.out = .parked) || e.soft then s
  else
    let e1 := { e with latch := true, ended := !soft, blank := false }
    if soft then s.setEdge p e1.softStart else State.stageOff (s.setEdge p e1) p

/-- PROTECTION_FLAG (R290, R292, R293). -/
def execProtectionFlag (n : Fin 64) (s : State) : Host.Outcome State Fault Refusal :=
  let e := s.edge n
  match e.flags with
  | [] => .next s
  | f =>
    let soft := f.any (·.2)
    let r := s.chanRec n.val
    let l := s.chLeg n
    let s1 := s.setEdge n { e with flags := [] }
    let s2 := match s1.mate n with
      | some p => s1.relay p soft
      | none => s1
    let holders : List Nat := n.val :: (match s2.mate n with
      | some p => if (s2.edge p).soft then [p.val] else []
      | none => [])
    let s3 := s2.course.interlocks.foldl (fun t p =>
      if p.has r.leg r.out then
        let o := p.other r.leg r.out
        (t.channelsOf o.1 o.2).foldl (fun u m =>
          u.setEdge m { u.edge m with
            heldBy := (u.edge m).heldBy.filter (fun x => !holders.contains x) ++ holders }) t
      else t) s2
    let s4 := s3.markSide n
    .next (if l.trip = 0 ∧ l.slot < 4 then s4.slotLine (Fin.ofNat 4 l.slot) true else s4)

/-- An acting channel holds no more (R290, R292): its turn-off has ended, as it has wherever its latch has cleared, and on a leg that is
not FOLLOW_SLOT its latch has cleared. -/
def State.holdOver (s : State) (a : Nat) : Bool :=
  let e := s.edge (edgeIdx a)
  !e.soft && (!e.latch || (e.ended && decide ((s.chLeg (edgeIdx a)).trip = 0)))

/-- PROTECTION_HOLD_RELEASE (R290): DT_I after the ends of the turn-offs that hold channel n. -/
def execProtectionHoldRelease (n : Fin 64) (s : State) : Host.Outcome State Fault Refusal :=
  let e := s.edge n
  .next (s.setEdge n { e with heldBy := e.heldBy.filter (fun a => !s.holdOver a) })

/-- A step passes (R295): the comparator asserts at 110 % of its threshold within 60 ns, releases at 90 % within 100 ns and stays released
for 200 ns; OT_TRIP, which is judged on two conversions, only asserts and releases. -/
def stepPasses (det : Nat) (assertNs releaseNs : Option Nat) (quietNs : Nat) : Bool :=
  match assertNs, releaseNs with
  | some a, some r => decide (det = 5) || (decide (a ≤ 60) && decide (r ≤ 100) && decide (200 ≤ quietNs))
  | _, _ => false

/-- The mask of a step of SUP_UV ends: a condition that stands and has not acted acts now (R295). -/
def State.unmask (s : State) (n : Fin 64) (det : Nat) : State :=
  if det = 4 ∧ (s.edge n).supUv = true ∧ (s.edge n).latch = false ∧ s.testing n 4 = false then s.protRow n 4 true else s

/-- EDGE_SELFTEST (R279, R297). DEDUCED (log entry 80): "Always" holds against the general rule of R387 too; a run under way starts anew,
which ends the mask of the step that it was at. -/
def execEdgeSelftest (n : Fin 64) (s : State) : Host.Outcome State Fault Refusal :=
  s.edgeCommand n true (fun t =>
    (State.edgeBusy (t.setEdge n { t.edge n with selftest := t.nextDet n 0 }) n).unmask n ((t.edge n).selftest.getD 0))

/-- What a step of one detector makes of the SELFTEST run or of the SHADOW injection it belongs to (R297, R298). -/
def State.stepEnd (s : State) (n : Fin 64) (det : Fin 6) (inject pass : Bool) : Host.Outcome State Fault Refusal :=
  let e := s.edge n
  if inject then
    match s.injAt (edgeInj n) with
    | some i =>
      if i.live = false ∧ i.target = det.val then
        .next (if pass then (s.edgeDetail n det.val .shadow).injEnd (edgeInj n) codePass
          else (s.healthOff n 9).injEnd (edgeInj n) codeFail)
      else .next s
    | none => .next s
  else if e.selftest = some det.val then
    if pass then
      match s.nextDet n (det.val + 1) with
      | some d => .next (s.setEdge n { e with selftest := some d })
      | none => .next ((State.edgeBusy (s.setEdge n { e with selftest := none }) n).edgeDetail n 16 .real)
    else .next ((State.edgeBusy (s.setEdge n { e with selftest := none }) n).healthOff n 9)
  else .next s

/-- SELFTEST_STEP (R295 to R298): a step of one detector, with the times in ns that its comparator took to assert and to release, and for
which it stayed released. A step of SC_HARD, OC, DESAT or GATE_UV completes only on a channel that is off. -/
def execSelftestStep (n : Fin 64) (det : Fin 6) (inject : Bool) (assertNs releaseNs : Option Nat) (quietNs : Nat) (s : State) :
    Host.Outcome State Fault Refusal :=
  let e := s.edge n
  if det.val ≤ 3 ∧ (e.out = .on ∨ e.soft = true) then .next s
  else match s.stepEnd n det inject (stepPasses det.val assertNs releaseNs quietNs) with
    | .next t => .next (t.unmask n det.val)
    | o => o

/-- SELFTEST_TIMEOUT (R297): 100 ms. The mask of the step that the run was at ends with it (R295). -/
def execSelftestTimeout (n : Fin 64) (s : State) : Host.Outcome State Fault Refusal :=
  match (s.edge n).selftest with
  | some d => .next ((State.edgeBusy (s.setEdge n { s.edge n with selftest := none }) n).unmask n d)
  | none => .next s

/-- The channel is held on by a forced ASC state (R287). -/
def State.heldOn (s : State) (n : Fin 64) : Bool :=
  let l := s.leg (Fin.ofNat 32 (s.chanRec n.val).leg)
  decide ((s.edge n).out = .on) && (l.forced.isSome || l.hold.isSome)

/-- OT_TRIP and DIE_HOT at an update (R287): a new condition latches and waits for the turn-off; one that is still present
ends a forced on-state. -/
def State.thermalAct (s : State) (n : Fin 64) (det : Nat) (now was : Bool) (m : Mark) : State :=
  let e := s.edge n
  if !now then s
  else if e.soft || decide (e.out = .parked) then (if was then s else s.edgeDetail n det m)
  else if was && e.latch then (if s.heldOn n then s.stageOff n else s)
  else if e.out = .on then (s.setEdge n { e with latch := true, thermal := e.thermal ++ [det] }).edgeDetail n det m
  else
    (s.setEdge n { e with latch := true, flags := e.flags ++ [(det, false)], ended := true }).edgeDetail n det m

/-- The sense scale and full scale of a channel: |GAIN| of the lowest filter that reads stream n, in A (R299); none when no
filter reads it. -/
def State.senseGain (s : State) (n : Fin 64) : Option Rat :=
  ((List.range 48).find? (fun f => decide ((s.inputs f).1 = n.val) || decide ((s.inputs f).2 = n.val))).map
    (fun f => fRat (s.rd (Reg.SDM.F.GAIN.addr f)))

/-- The mean of a list of values; none of an empty one. -/
def meanOf (l : List Rat) : Option Rat := if l = [] then none else some (l.sum / (l.length : Rat))

/-- A ratio in steps of 2^−12, saturating. -/
def ratioCode (q : Rat) : Nat := min (ratRound (q * 4096)).toNat 65535

/-- A wear figure against its threshold (R435): sets its bit and SWITCH_WEAR when it reaches it, clears 2 % below. -/
def State.wearJudge (s : State) (high : Fld) (thr : Nat) (figure : Option Rat) : State :=
  match figure with
  | none => s
  | some q =>
    let t : Rat := (thr : Rat) / 4096
    if t ≤ q then (if s.flag high then s else (s.put high 1).raise ⟨5, 3⟩)
    else if q < t * 49 / 50 then s.put high 0 else s

/-- The Groomer injection into switch wear of channel n (R447): the next counted update is seen at D_WARN. -/
def State.wearInject (s : State) (n : Fin 64) : State :=
  match s.injAt Reg.GROOM.INJ_STATUS.addr with
  | some i =>
    if i.index = n.val then
      (if i.live then
        ((s.put (Reg.GROOM.SWSTAT.D_HIGH n.val) 1).raiseM ⟨5, 3⟩ .live).injEnd Reg.GROOM.INJ_STATUS.addr codeActed
      else (s.setCauseM ⟨5, 3⟩ .shadow).injEnd Reg.GROOM.INJ_STATUS.addr codePass)
    else s
  | none => s

/-- The wear figures of an update (R299 to R301, R434, R435). -/
def State.wearUpdate (s : State) (n : Fin 64) (m : EdgeMeas) : State :=
  match s.senseGain n with
  | none => s
  | some gain =>
    let e := s.edge n
    let i : Rat := (m.sns.toInt : Rat) / 1000 * (gain / (16 / 5))
    if m.nopulse || e.latch || !decide (gain / 10 ≤ i) || !decide (0 < i) then s
    else
      let von : Rat := (m.von.toNat : Rat) / 1000
      let ron := von / i
      let bin := m.vntc.toNat / 10
      let op := s.get Reg.GROOM.OP_TIME.S
      let w := e.wear
      let learning := decide (op < w.learnFrom + 360000)
      let lowBand := decide (i ≤ gain * 3 / 10)
      let low := (if lowBand then (bin, op, ron) :: w.low else w.low).filter (fun x => decide (op ≤ x.2.1 + 86400))
      let old := (w.low0.find? (fun x => x.1 == bin)).getD (bin, 0, 0)
      let low0 :=
        if learning && lowBand then
          (bin, old.2.1 + 1, (old.2.2 * (old.2.1 : Rat) + ron) / ((old.2.1 + 1 : Nat) : Rat)) ::
            w.low0.filter (fun x => x.1 != bin)
        else w.low0
      let rLow := meanOf ((low.filter (fun x => x.1 == bin)).map (·.2.2))
      let per := s.actPeriod (s.chanRec n.val).leg
      let kappa := if decide (gain / 2 ≤ i) && decide (0 < von) then rLow.map (fun r => (ron - r) / (von * i)) else none
      let kappa0 := match kappa with
        | some k =>
          if learning then (bin, per, k) :: w.kappa0.filter (fun x => !(x.1 == bin && x.2.1 == per)) else w.kappa0
        | none => w.kappa0
      let base0 := if learning then none else (low0.find? (fun x => x.1 == bin)).map (·.2.2)
      let baseK := if learning then none else (kappa0.find? (fun x => x.1 == bin && x.2.1 == per)).map (·.2.2)
      let div (a b : Option Rat) : Option Rat :=
        match a, b with
        | some x, some y => if y = 0 then none else some (x / y)
        | _, _ => none
      let d := div rLow base0
      let s1 := s.setEdge n { e with wear := { w with low := low, low0 := low0, kappa0 := kappa0 } }
      let s2 := (s1.put (Reg.GROOM.SW.D n.val) ((d.map ratioCode).getD 0)).put (Reg.GROOM.SWSTAT.BASE_D n.val)
        (b2n base0.isSome)
      let s3 := s2.put (Reg.GROOM.SWSTAT.BASE_K n.val) (b2n baseK.isSome)
      let s4 := s3.wearJudge (Reg.GROOM.SWSTAT.D_HIGH n.val) (s3.get Reg.GROOM.WEAR_CFG.D_WARN) d
      let s5 :=
        if decide (gain / 2 ≤ i) then
          let k := div kappa baseK
          (s4.put (Reg.GROOM.SW.K n.val) ((k.map ratioCode).getD 0)).wearJudge (Reg.GROOM.SWSTAT.K_HIGH n.val)
            (s4.get Reg.GROOM.WEAR_CFG.K_WARN) k
        else s4.put (Reg.GROOM.SW.K n.val) 0
      s5.wearInject n

/-- EDGE_MEAS_UPDATE (R276, R256, R282, R287, R299). -/
def execEdgeMeasUpdate (n : Fin 64) (sample : Sampled EdgeMeas) (s0 : State) : Host.Outcome State Fault Refusal :=
  let s := s0.agreeFix sample.differs
  let m := sample.value
  if !s.alive n then .next s
  else
    let e := s.edge n
    let q := (s.chanRec n.val).sense
    let m1 : EdgeMeas := { m with
      von := if m.nopulse then e.meas.von else if q / 8 % 2 = 1 then m.von else 0#16
      sns := if m.nopulse then e.meas.sns else m.sns }
    let heavy (l : List Nat) : Bool := decide (l.length = 100) && decide (300000 < l.sum)
    let pwr := (m.pgate.toNat :: e.pwr).take 100
    let trip := if s.testing n 5 then e.ot else s.detAllowed n 5 && decide (m.vntc.toNat ≤ getBits e.prot2 16 12)
    let warn := s.detAllowed n 5 && decide (m.vntc.toNat ≤ getBits e.prot2 0 12)
    let hot := decide (1450 < m.tdie.toInt)
    let s1 := s.setEdge n { e with
      meas := m1, measSeq := e.measSeq + 1#16, pwr := pwr, ot := trip, hot := hot, otw := warn }
    let s2 := (s1.put (Reg.EDGE.CH.MEAS0.VON n.val) m1.von.toNat).put (Reg.EDGE.CH.MEAS0.SNS n.val) m1.sns.toNat
    let s3 := (s2.edgeIf (heavy pwr && !heavy e.pwr) n 15).edgeIf (warn && !e.otw) n 10
    let s4 := if s3.edgeLive n 5 then (s3.thermalAct n 5 true false .live).injEnd (edgeInj n) codeActed
      else s3.thermalAct n 5 (trip && !s.testing n 5) e.ot .real
    .next ((s4.thermalAct n 6 hot e.hot .real).wearUpdate n m1)

/-- MEAS_READ (R277): a read of MEAS0 latches MEAS1 to MEAS4 of the same update. -/
def execMeasRead (n : Fin 64) (s : State) : Host.Outcome State Fault Refusal :=
  let m := (s.edge n).meas
  let two (a b : BitVec 16) : Word := b ++ a
  if s.mapped n then
    .next ((((s.wr (Reg.EDGE.CH.MEAS1.addr n.val) (two m.vgOn m.vgOff)).wr (Reg.EDGE.CH.MEAS2.addr n.val)
      (two m.vpos m.vneg)).wr (Reg.EDGE.CH.MEAS3.addr n.val) (two m.vntc m.tdie)).wr (Reg.EDGE.CH.MEAS4.addr n.val)
      (two (m.pgate.setWidth 16 ||| (if m.nopulse then 0x1000#16 else 0#16)) (s.edge n).measSeq))
  else .next s

end Sys2Proof.Machine
end

