-- ==== Sys2Proof/Machine/Hka.lean ====
section
/-! DEFINITION. The housekeeping converter: sequences, trackers, self-check and injection (chapter 15). -/

namespace Sys2Proof.Machine

/-- A cause of the HKA group (R421). -/
def hkaCause (b : Nat) : Cause := ⟨23, b⟩

/-- Replace a sequence's record. -/
def State.setSeq (s : State) (q : Fin 8) (x : HkaSeq) : State := { s with hka := { s.hka with seqs := s.hka.seqs.set q x } }
/-- Replace a tracker's record. -/
def State.setTrk (s : State) (k : Fin 64) (x : HkaTrk) : State := { s with hka := { s.hka with trks := s.hka.trks.set k x } }

/-- A sequence runs: enabled and not stopped for want of a core (R417). -/
def State.seqOn (s : State) (q : Fin 8) : Bool :=
  s.flag (Reg.HKA.SEQ.CFG.ENABLE q.val) && !s.hka.dead.getLsbD q.val

/-- A sequence stops for want of a core, or has one again (R417): DEAD shows it. -/
def State.setDead (s : State) (q : Nat) (v : Bool) : State :=
  State.put { s with hka := { s.hka with dead := if v then s.hka.dead ||| (1#8 <<< q) else s.hka.dead &&& ~~~(1#8 <<< q) } }
    (Reg.HKA.SEQ.STAT.DEAD q) (b2n v)

/-- The cores by the set-up of their sequences (R408): with PD = ON a core is powered, and not while its sequence is not enabled. -/
def State.hkaPower (s : State) : State :=
  { s with hka := { s.hka with seqs := Vector.ofFn (fun q : Fin 8 =>
      let x := s.hka.seqs[q]
      { x with powered := s.flag (Reg.HKA.SEQ.CFG.ENABLE q.val) && (x.powered || !s.flag (Reg.HKA.SEQ.CFG.PD q.val)) }) } }

/-- The core that the record gives a sequence (R442, R444). -/
def GroomRec.coreFor (g : GroomRec) (q : Nat) : Nat :=
  match g.seqCores.find? (fun x => x.1 == q) with
  | some x => x.2
  | none => q

/-- The core that serves a sequence: the spare from its first trigger after the assignment (R417). -/
def State.seqCore (s : State) (q : Fin 8) : Fin 9 :=
  match s.hka.bring with
  | some b => if b.seq = q.val ∧ b.on = true then Fin.ofNat 9 b.core else Fin.ofNat 9 (s.groom.live.coreFor q.val)
  | none => Fin.ofNat 9 (s.groom.live.coreFor q.val)

/-- A trigger of sequence q starts the passes of the core assigned to it (R417). -/
def CoreBring.start (q : Nat) (b : CoreBring) : CoreBring := if b.seq = q then { b with on := true } else b

/-- A pass of sequence q has been run by both cores (R417). -/
def CoreBring.pass (q : Nat) (b : CoreBring) : CoreBring := if b.seq = q ∧ b.on = true then { b with passes := b.passes + 1 } else b

/-- A reset starts a bring-in again from its beginning (R442). -/
def CoreBring.again (b : CoreBring) : CoreBring := { seq := b.seq, core := b.core }

/-- The sequence that core c is assigned to by the record (R444). -/
def State.coreUsed (s : State) (c : Nat) : Option Nat := (List.range 8).find? (fun q => s.groom.live.coreFor q == c)

/-- A trigger of a sequence becomes effective (R406, R407). -/
def State.seqTrigger (s : State) (q : Fin 8) : State :=
  if s.seqOn q then
    let x := s.hka.seqs[q]
    if x.phase = .idle then
      let s1 := { s with hka := { s.hka with bring := s.hka.bring.map (CoreBring.start q.val) } }
      s1.setSeq q { x with phase := .delay, entry := 0, check := false }
    else (s.bump (Reg.HKA.SEQ.STAT.MISSED q.val)).raise (hkaCause 17)
  else s

/-- HKA_TIMER_TICK (R404). -/
def execHkaTimerTick (q : Fin 8) (s : State) : Host.Outcome State Fault Refusal :=
  if s.get (Reg.HKA.SEQ.CFG.TRIG q.val) = 1 then .next (s.seqTrigger q) else .next s

/-- HKA_PWM_TRIGGER (R405): the oldest event on its way from the PWM becomes effective. -/
def execHkaPwmTrigger (s : State) : Host.Outcome State Fault Refusal :=
  match s.hkaEvents with
  | [] => .next s
  | n :: t => .next ((List.finRange 8).foldl (fun u q =>
      if u.get (Reg.HKA.SEQ.CFG.TRIG q.val) = 2 ∧ u.get (Reg.HKA.SEQ.CFG.LEG q.val) = n then u.seqTrigger q else u)
      { s with hkaEvents := t })

/-- HKA_START (R404, R420). -/
def execHkaStart (mask : BitVec 8) (s : State) : Host.Outcome State Fault Refusal :=
  .next (((List.finRange 8).foldl (fun u q =>
    if mask.getLsbD q.val = true ∧ u.get (Reg.HKA.SEQ.CFG.TRIG q.val) = 3 then u.seqTrigger q else u) s).status
    Reg.HKA.CMD_STATUS.addr codeOk)

/-- HKA_CLEAR_STATS (R420): STAT and CHECK.FAILS; a stopped sequence stays stopped (R417). -/
def execHkaClearStats (s : State) : Host.Outcome State Fault Refusal :=
  let s1 := (List.range 8).foldl (fun t q => t.wr (Reg.HKA.SEQ.STAT.addr q) 0#32) s
  .next (((List.range 9).foldl (fun t c => t.put (Reg.HKA.CHECK.FAILS c) 0) s1).status Reg.HKA.CMD_STATUS.addr codeOk)

/-- HKA_DELAY_END (R406, R416): the first acquisition starts; `checkDue` says that the pass starts 1 ms or more after the
core's previous check. -/
def execHkaDelayEnd (q : Fin 8) (checkDue : Bool) (s : State) : Host.Outcome State Fault Refusal :=
  let x := s.hka.seqs[q]
  if x.phase = .delay then .next (s.setSeq q { x with phase := .pass, check := checkDue, powered := true }) else .next s

/-- The value that a tracker's route carries (R414). DESIGN CHOICE (log entry 88): rounded once, at the end. -/
def State.trkValue (s : State) (k : Nat) (w : HkaWindow) : Word :=
  let gain := s.rd (Reg.HKA.TRK.GAIN.addr k)
  let offset := s.rd (Reg.HKA.TRK.OFFSET.addr k)
  let mean : Rat := (w.sum : Rat) / (w.count : Rat)
  if fFinite? gain && fFinite? offset then fOfRat (fRat gain * mean + fRat offset)
  else fAdd (fMul gain (fOfRat mean)) offset

/-- The route of a tracker follows its latest window that is not empty, and GAIN and OFFSET as they stand (R414). -/
def State.trkRoute (s : State) (k : Fin 64) : State :=
  match s.hka.trks[k].last with
  | some w => s.routeVal 0x08 k.val (s.trkValue k.val w)
  | none => s

/-- A tracker is enabled (R413): no window has completed since. -/
def State.trkEnabled (s : State) (k : Fin 64) : State :=
  let x := s.hka.trks[k]
  s.setTrk k { wseq := x.wseq, seen := x.seen, last := x.last }

/-- A BLOCK reset of the HKA leaves its routes at 0.0 (R414). -/
def State.trkZero (s : State) : State := (List.range 64).foldl (fun t k => t.routeVal 0x08 k f0) s

/-- A window ends (R412): the completed-window buffer takes it, the next one starts, the route follows. -/
def State.trkEnd (s : State) (k : Fin 64) : State :=
  let x := s.hka.trks[k]
  let n := x.wseq + 1#16
  let w : HkaWindow := ⟨x.sum, x.count, if x.count = 0 then 0 else x.least, if x.count = 0 then 0 else x.most, n⟩
  let s1 := s.setTrk k { x with
    sum := 0, count := 0, least := 0, most := 0, wseq := n, full := some w, last := if x.count = 0 then x.last else some w }
  s1.trkRoute k

/-- A result for a tracker meets the limit check (R415). -/
def State.limCheck (s : State) (k : Fin 64) (out : Bool) (m : Mark) : State :=
  if out then
    let reg := if k.val < 32 then Reg.HKA.LIMHIT0.addr else Reg.HKA.LIMHIT1.addr
    let s1 := if m = .shadow then s else s.put ⟨reg, k.val % 32, 1⟩ 1
    s1.raiseM (hkaCause (min k.val 16)) m
  else s

/-- A result enters a tracker (R410, R411, R415); under an injection it meets the limit check as HI + 1 or LO − 1, and enters no window (R419):
with the check off by then a SHADOW one fails, and a LIVE one has met its result without an action. -/
def State.trkResult (s : State) (k : Fin 64) (code : Nat) : State :=
  if s.flag (Reg.HKA.TRK.CFG.ENABLE k.val) then
    let lim := s.flag (Reg.HKA.TRK.LIM.EN k.val)
    match (s.injAt Reg.HKA.INJ_STATUS.addr).filter (fun i => decide (i.target = 0 ∧ i.index = k.val ∧ i.seen = 0)) with
    | some i =>
      if lim then (s.limCheck k true (injMark i.live)).injEnd i.ctrl (if i.live then codeActed else codePass)
      else if i.live then { s with injs := s.injs.map (fun j => if j.ctrl = i.ctrl then { j with seen := 3 } else j) }
      else s.injEnd i.ctrl codeFail
    | none =>
      let s1 := s.limCheck k (lim && (decide (code < s.get (Reg.HKA.TRK.LIM.LO k.val)) ||
        decide (s.get (Reg.HKA.TRK.LIM.HI k.val) < code))) .real
      let x := s1.hka.trks[k]
      let y := { x with
        sum := x.sum + code, count := x.count + 1
        least := if x.count = 0 then code else min x.least code
        most := if x.count = 0 then code else max x.most code }
      let s2 := s1.setTrk k y
      if 65535 ≤ y.count ∨
          s2.get (Reg.HKA.TRK.CFG.WMODE k.val) = 0 ∧ s2.get (Reg.HKA.TRK.WIN.N k.val) ≤ y.count then s2.trkEnd k
      else s2
  else s

/-- The CHAIN triggers at the end of a pass of sequence q (R404). -/
def State.chain (s : State) (q : Fin 8) : State :=
  (List.finRange 8).foldl (fun t r =>
    if r ≠ q ∧ t.get (Reg.HKA.SEQ.CFG.TRIG r.val) = 4 ∧ t.get (Reg.HKA.SEQ.CFG.CHAIN_SRC r.val) = q.val then
      t.seqTrigger r else t) s

/-- A pass ends (R403, R411, R416, R417). -/
def State.passEnd (s : State) (q : Fin 8) : State :=
  let s1 := s.bumpWrap (Reg.HKA.SEQ.STAT.PASSES q.val)
  let s2 := (List.finRange 64).foldl (fun t k =>
    if t.flag (Reg.HKA.TRK.CFG.ENABLE k.val) = true ∧ t.get (Reg.HKA.TRK.CFG.WMODE k.val) = 2 ∧
        t.get (Reg.HKA.TRK.CFG.WIN_SEQ k.val) = q.val then t.trkEnd k else t) s1
  let s3 := { s2 with hka := { s2.hka with bring := s2.hka.bring.map (CoreBring.pass q.val) } }
  let x := s3.hka.seqs[q]
  if x.check then s3.setSeq q { x with phase := .check }
  else (s3.setSeq q { x with phase := .idle }).chain q

/-- What a conversion of an input gives (R401, R402, R418): inputs 42 and 63 convert the test DAC, within its ±2 codes and the ±4 of the
converter; DESIGN CHOICE (log entry 101): the 10 µs of its settling are left out. -/
def State.converted (s : State) (input code : Nat) : Nat :=
  if input = 42 ∨ input = 63 then
    let c := s.get Reg.HKA.TDAC.CODE
    max (c - 6) (min code (min (c + 6) 4095))
  else code

/-- HKA_CONVERSION_END (R403, R410, R418, R351): a result of the present entry. -/
def execHkaConversionEnd (q : Fin 8) (sample : Sampled (BitVec 12)) (s0 : State) : Host.Outcome State Fault Refusal :=
  let s := s0.agreeFix sample.differs
  let code := sample.value
  let x := s.hka.seqs[q]
  if x.phase = .pass then
    let k : Fin 64 := Fin.ofNat 64 (s.get (Reg.HKA.SEQ.ENTRY.TRK q.val x.entry))
    let last := decide (s.get (Reg.HKA.SEQ.CFG.LEN q.val) ≤ x.entry)
    let s1 := (s.setSeq q { x with entry := x.entry + 1 }).trkResult k
      (s.converted (s.get (Reg.HKA.SEQ.ENTRY.INPUT q.val x.entry)) code.toNat)
    .next (if last then s1.passEnd q else s1)
  else .next s

/-- A core is under an on-demand test (R444). -/
def State.coreTested (s : State) : Bool := s.groom.bist.any (fun b => decide (0x10 ≤ b.target) && decide (b.target ≤ 0x18))

/-- The free spare core (R417, R444): HC8, or a core that it has set free and that passed its test. -/
def State.spareCore (s : State) : Option Nat :=
  [8, 7, 6, 5, 4, 3, 2, 1, 0].find? (fun c => !s.groom.live.cores.contains c && (s.coreUsed c).isNone &&
    !s.hka.bring.any (fun b => b.core == c) && !s.groom.bist.any (fun b => decide (b.kind = .inUse ∧ b.target = 0x10 + c)))

/-- The spare core c is assigned to a sequence, from its next trigger on (R417). -/
def State.assignCore (s : State) (c q : Nat) : State := { s with hka := { s.hka with bring := some { seq := q, core := c } } }

/-- A core is found faulty (R416, R417, R441): the spare takes its sequence, or the sequence stops. While a core is under test the faulty one
waits, its sequence stopped, for the end of the test (R445). A core that the spare is replacing already changes nothing more. -/
def State.coreFault (s0 : State) (c : Nat) (q : Fin 8) (m : Mark) : State :=
  let g := s0.groom
  let s1 := State.raiseM { s0 with
    groom := { g with live := { g.live with cores := c :: g.live.cores.filter (fun x => x != c) } } } (hkaCause 18) m
  if s1.hka.bring.any (fun b => decide (b.seq = q.val ∧ b.core ≠ c)) then s1
  else
    let s2 := { s1 with hka := { s1.hka with bring := s1.hka.bring.filter (fun b => b.core != c) } }
    match s2.coreTested, s2.spareCore with
    | false, some d => s2.assignCore d q.val
    | tested, _ =>
      let s3 := (s2.setDead q.val true).setSeq q { s2.hka.seqs[q] with phase := .idle }
      if tested then { s3 with groom := { s3.groom with coreWait := s3.groom.coreWait ++ [q.val] } } else s3.spareOut

/-- The test of a core has ended (R445): the spare, where one stands free, is brought in for the sequence that waited, and a further one has
none. -/
def State.coreServe (s : State) : State :=
  s.groom.coreWait.foldl (fun t q =>
    match t.spareCore with
    | some d => (t.assignCore d q).setDead q false
    | none => t.spareOut) { s with groom := { s.groom with coreWait := [] } }

/-- The injection that the next check of a core meets (R419): a LIVE one in three checks. -/
def State.checkInj (s : State) (c : Nat) : Option Inj :=
  (s.injAt Reg.HKA.INJ_STATUS.addr).filter (fun i => decide (i.target = 1 ∧ i.index = c) && (!i.live || decide (s.hka.injChecks < 3)))

/-- HKA_CHECK_END (R416, R419). -/
def execHkaCheckEnd (q : Fin 8) (ref zero : BitVec 12) (s : State) : Host.Outcome State Fault Refusal :=
  let x := s.hka.seqs[q]
  if x.phase = .check then
    let c := s.seqCore q
    let inj := s.checkInj c.val
    let seen := if inj.isSome then min (ref.toNat + 64) 4095 else ref.toNat
    let pass := decide (2040 ≤ seen ∧ seen ≤ 2056 ∧ zero.toNat ≤ 8)
    let s1 := (s.put (Reg.HKA.CHECK.REF c.val) seen).put (Reg.HKA.CHECK.ZERO c.val) zero.toNat
    let shadow := match inj with
      | some i => !i.live
      | none => false
    let s2 :=
      if shadow then
        (if pass then s1.injEnd Reg.HKA.INJ_STATUS.addr codeFail
        else (s1.setCauseM (hkaCause 18) .shadow).injEnd Reg.HKA.INJ_STATUS.addr codePass)
      else
        let run := if pass then 0 else s1.hka.fails[c] + 1
        let t := { s1 with hka := { s1.hka with
          fails := s1.hka.fails.set c (run % 3), injChecks := s1.hka.injChecks + b2n inj.isSome } }
        let u := if pass then t else t.bump (Reg.HKA.CHECK.FAILS c.val)
        if run = 3 then
          (if inj.isSome then (u.coreFault c.val q .live).injEnd Reg.HKA.INJ_STATUS.addr codeActed
          else u.coreFault c.val q .real)
        else u
    .next ((s2.setSeq q { s2.hka.seqs[q] with phase := .idle }).chain q)
  else .next s

/-- CHECK_STARVED (R416): an enabled sequence with a TIMER, PWM or CHAIN trigger makes no pass for 10 ms. -/
def execCheckStarved (q : Fin 8) (s : State) : Host.Outcome State Fault Refusal :=
  let t := s.get (Reg.HKA.SEQ.CFG.TRIG q.val)
  .next (s.setIf (s.flag (Reg.HKA.SEQ.CFG.ENABLE q.val) && decide (t = 1 ∨ t = 2 ∨ t = 4)) (hkaCause 20))

/-- HKA_IDLE_POWER_DOWN (R408). -/
def execHkaIdlePowerDown (q : Fin 8) (s : State) : Host.Outcome State Fault Refusal :=
  let x := s.hka.seqs[q]
  if x.phase = .idle ∧ s.flag (Reg.HKA.SEQ.CFG.PD q.val) = true then .next (s.setSeq q { x with powered := false }) else .next s

/-- TRACKER_WINDOW_END (R411): the end of a TIME window. -/
def execTrackerWindowEnd (k : Fin 64) (s : State) : Host.Outcome State Fault Refusal :=
  if s.flag (Reg.HKA.TRK.CFG.ENABLE k.val) && decide (s.get (Reg.HKA.TRK.CFG.WMODE k.val) = 1) then .next (s.trkEnd k)
  else .next s

/-- TRACKER_SUM_READ (R413). -/
def execTrackerSumRead (k : Fin 64) (s : State) : Host.Outcome State Fault Refusal :=
  let x := s.hka.trks[k]
  match x.full with
  | none => .next ((((s.wr (Reg.HKA.TRK.SUM.addr k.val) 0#32).wr (Reg.HKA.TRK.COUNT.addr k.val) 0#32).wr
      (Reg.HKA.TRK.MINMAX.addr k.val) 0#32).wr (Reg.HKA.TRK.STAT.addr k.val) 0#32)
  | some w =>
    let stale := decide (x.seen = some w.wseq)
    .next (((((s.setTrk k { x with seen := some w.wseq }).wr (Reg.HKA.TRK.SUM.addr k.val) (BitVec.ofNat 32 w.sum)).wr
      (Reg.HKA.TRK.COUNT.addr k.val) (BitVec.ofNat 32 w.count)).wr (Reg.HKA.TRK.MINMAX.addr k.val)
      (BitVec.ofNat 32 (w.least + w.most * 65536))).wr (Reg.HKA.TRK.STAT.addr k.val)
      (BitVec.ofNat 32 (w.wseq.toNat + 65536 + b2n stale * 131072 + b2n (decide (w.count = 0)) * 262144)))

/-- TDAC_WRITE (R418). -/
def execTdacWrite (code : BitVec 12) (s : State) : Host.Outcome State Fault Refusal :=
  .next (s.put Reg.HKA.TDAC.CODE code.toNat)

/-- The sequence that core c serves. -/
def State.servedBy (s : State) (c : Nat) : Option (Fin 8) := (List.finRange 8).find? (fun q => (s.seqCore q).val == c)

/-- HKA_INJECT (R419). -/
def execHkaInject (cls : Nat) (s : State) : Host.Outcome State Fault Refusal :=
  let t := s.get Reg.HKA.INJ_TARGET.TARGET
  let k := s.get Reg.HKA.INJ_TARGET.INDEX
  let ok := match t with
    | 0 => decide (k < 64) && s.flag (Reg.HKA.TRK.CFG.ENABLE k) && s.flag (Reg.HKA.TRK.LIM.EN k)
    | 1 => match s.servedBy k with
      | some q => s.seqOn q
      | none => false
    | _ => false
  .next (s.inject Reg.HKA.INJ_STATUS.addr cls (hkaCause 22) ok true t k (fun x _ => { x with hka := { x.hka with injChecks := 0 } }))

/-- HKA_SPARE_TAKEOVER (R417, R437): after 16 passes beside the core that it replaces, the spare serves the sequence by the record. -/
def execHkaSpareTakeover (s : State) : Host.Outcome State Fault Refusal :=
  match s.hka.bring with
  | some b =>
    if b.on && decide (16 ≤ b.passes) then
      let g := s.groom.live
      .next ((State.raise { s with
        hka := { s.hka with bring := none }
        groom := { s.groom with live := { g with seqCores := (b.seq, b.core) :: g.seqCores.filter (fun x => x.1 != b.seq) } } }
        (hkaCause 19)).broughtIn 0)
    else .next s
  | none => .next s

/-- The sequence that HC8 serves or is assigned to; 15 for none (R420). -/
def State.spareFor (s : State) : Nat :=
  match s.hka.bring.filter (fun b => b.core == 8) with
  | some b => b.seq
  | none => (s.coreUsed 8).getD 15

/-- HKA.STATUS (R420): BUSY shows a delay or pass, IDLE that no check runs either. -/
def State.hkaStatus (s : State) : Word :=
  let idle := s.hka.seqs.toList.all (fun x => decide (x.phase = .idle))
  let busy := ((List.finRange 8).map (fun q =>
    b2n (decide (s.hka.seqs[q].phase = .delay) || decide (s.hka.seqs[q].phase = .pass)) * 2 ^ q.val)).sum
  BitVec.ofNat 32 (b2n idle + busy * 2 + s.spareFor * 512)

/-- HKA.CORES (R408, R420): 0 DOWN, 1 WAKING, 2 ON, 3 FAULTY. -/
def State.hkaCores (s : State) : Word :=
  BitVec.ofNat 32 ((List.range 9).map (fun c =>
    (if s.groom.live.cores.contains c then 3
    else match s.servedBy c with
      | some q =>
        let x := s.hka.seqs[q]
        if !s.seqOn q then 0
        else if !s.flag (Reg.HKA.SEQ.CFG.PD q.val) || x.powered then 2
        else if x.phase = .delay then 1 else 0
      | none => 0) * 4 ^ c)).sum

end Sys2Proof.Machine
end

