-- ==== Sys2Proof/Machine/Supply.lean ====
section
/-! DEFINITION. The supply: comparators of AUX_IN, hold-up, rails and the time of operation (R51, R52, R422, R423, R434,
R605). -/

namespace Sys2Proof.Machine

/-- AUX_HIGH (R51, R605): AUX_IN stands above 36.0 V, or no more. -/
def execAuxHigh (present : Bool) (s : State) : Host.Outcome State Fault Refusal :=
  .next (State.setIf { s with supply := { s.supply with above36 := present } } present ⟨44, 0⟩)

/-- AUX_LOW (R51, R605): AUX_IN stands below 16.0 V, or no more. -/
def execAuxLow (present : Bool) (s : State) : Host.Outcome State Fault Refusal :=
  .next (State.setIf { s with supply := { s.supply with below16 := present } } present ⟨44, 1⟩)

/-- AUX_FAIL (R51, R605): AUX_IN falls through 14.0 V; the F4 follows from the cause's class. -/
def execAuxFail (s : State) : Host.Outcome State Fault Refusal := .next (s.raise ⟨44, 2⟩)

/-- HOLDUP_START (R52). -/
def execHoldupStart (s : State) : Host.Outcome State Fault Refusal :=
  .next { s with supply := { s.supply with holdup := true } }

/-- HOLDUP_RECOVER (R52). -/
def execHoldupRecover (s : State) : Host.Outcome State Fault Refusal :=
  .next { s with supply := { s.supply with holdup := false } }

/-- A second of operation has passed (R434): after L8, with AUX_IN within 16.0 V to 36.0 V, counted by the 100 µs
measurements. -/
def State.opTick (s : State) : State :=
  if decide (s.life = .run) && !s.supply.below16 && !s.supply.above36 then
    let g := s.groom
    if g.ticks + 1 < 10000 then { s with groom := { g with ticks := g.ticks + 1 } }
    else State.bumpWrap { s with groom := { g with
      ticks := 0, live := { g.live with opTime := g.live.opTime + 1 } } } Reg.GROOM.OP_TIME.S
  else s

/-- AUX_MEASURE (R422, R434): AUX_IN in 10 mV. -/
def execAuxMeasure (code : BitVec 16) (s : State) : Host.Outcome State Fault Refusal :=
  .next (s.put Reg.PROBE.SUPPLY.AUX code.toNat).opTick

/-- RAIL_EXCURSION (R423): a rail has been for 10 µs within 3 % (band 0), outside 3 % (1) or outside 6 % (2); rails in the
order of PROBE.RAILS. -/
def execRailExcursion (rail : Fin 6) (band : Fin 3) (s : State) : Host.Outcome State Fault Refusal :=
  let f : Fld := ⟨Reg.PROBE.RAILS.addr, rail.val, 1⟩
  let out := decide (band.val ≠ 0)
  .next (((s.put f (b2n out)).setIf (out && !s.flag f) ⟨44, 3⟩).setIf (decide (band.val = 2)) ⟨44, 4⟩)

end Sys2Proof.Machine
end

