-- ==== Sys2Proof/Machine/Triad.lean ====
section
/-! DEFINITION. Triad: the lanes, the judges, resync, retirement and the alignment stage (chapter 13). -/

namespace Sys2Proof.Machine

/-- A cause of the TRIAD group (R373). -/
def triadCause (b : Nat) : Cause := ⟨4, b⟩

/-- Number of ones in a mask of at most 8 bits. -/
def ones {w : Nat} (m : BitVec w) : Nat := ((List.range w).filter (fun i => m.getLsbD i)).length

/-- The voting lanes. -/
def State.voting (s : State) : BitVec 4 := BitVec.ofNat 4 (s.get Reg.TRIAD.STATUS.VOTING)
/-- The healthy judges. -/
def State.judges (s : State) : BitVec 3 := BitVec.ofNat 3 (s.get Reg.TRIAD.STATUS.JUDGES)
/-- MODE (R357): 0 TRIPLE, 1 RESYNC, 2 DUPLEX, 3 HALT. -/
def State.laneMode (s : State) : Nat := s.get Reg.TRIAD.STATUS.MODE
/-- Store MODE. -/
def State.setLaneMode (s : State) (v : Nat) : State := s.put Reg.TRIAD.STATUS.MODE v

/-- Judges are removed (R367, R369), with the mark of what showed them faulty. -/
def State.removeJudges (s : State) (m : BitVec 3) (mark : Mark) : State :=
  let bad := m &&& s.judges
  if bad = 0#3 then s
  else
    let left := s.judges &&& ~~~bad
    let s1 := (s.put Reg.TRIAD.STATUS.JUDGES left.toNat).raiseM (triadCause 8) mark
    if ones left < 2 ∧ 2 ≤ ones s.judges then s1.raiseM (triadCause 10) mark else s1

/-- A DOUBLE (R357, R358): Triad itself asserts the line of every slot and goes to HALT; a WARM reset follows. -/
def State.double (s : State) : State :=
  let s1 := (s.setLaneMode 3).raise (triadCause 3)
  State.reforce { s1 with
    triad := { s1.triad with resetDue := true }
    trip := { s1.trip with slotLines := 0xF#4 } }

/-- The sweep starts into a lane (R359). -/
def State.startSweep (s : State) (odd : Nat) : State :=
  let s1 := { s with triad := { s.triad with sweepDone := false } }
  (s1.put Reg.TRIAD.STATUS.ODD odd).setLaneMode 1

/-- A lane stops voting (R356). -/
def State.haltLane (s : State) (x : Nat) : State := s.put Reg.TRIAD.STATUS.VOTING (bitTo (s.voting.setWidth 32) x false).toNat

/-- A lane is retired for good (R357, R363): the Groomer record keeps it. -/
def State.retireLane (s : State) (x : Nat) : State :=
  let l := s.groom.live.lanes ||| (1#4 <<< x)
  State.put { s.haltLane x with groom := { s.groom with live := { s.groom.live with lanes := l } } } Reg.TRIAD.STATUS.RETIRED l.toNat

/-- The spare can be brought in (R357): not while it is under an on-demand test (R445). -/
def State.spareReady (s : State) : Option Nat :=
  if s.flag Reg.TRIAD.STATUS.SPARE_READY then s.triad.spare.filter (fun d => !s.underTest d) else none

/-- After a retirement: a sweep into the spare, or DUPLEX when none is ready (R357, R441). -/
def State.replaceLane (s : State) : State :=
  match s.spareReady with
  | some d => s.startSweep d
  | none => ((s.setLaneMode 2).raise (triadCause 6)).spareOut

/-- A lane reported beyond repair (R92, R357): the spare is retired where it stands, unless its bring-in runs, which ends first. -/
def State.beyondRepair (s : State) (x : Nat) : State :=
  if s.triad.spare = some x ∧ ¬ (s.laneMode = 1 ∧ s.get Reg.TRIAD.STATUS.ODD = x) then
    let s1 := State.put { s with triad := { s.triad with spare := none } } Reg.TRIAD.STATUS.SPARE_READY 0
    (s1.retireLane x).raise (triadCause 4)
  else match s.laneMode with
    | 0 => if s.voting.getLsbD x then ((s.retireLane x).raise (triadCause 4)).replaceLane else s
    | 1 => { s with triad := { s.triad with heldReports := s.triad.heldReports ++ [x] } }
    | 2 => if s.voting.getLsbD x then s.double else s
    | _ => s

/-- A LIVE lane injection waits for the next point-0 write of lane x (R371). -/
def State.liveFlip (s : State) (x point : Nat) : Bool :=
  match s.injAt Reg.TRIAD.INJ_STATUS.addr with
  | some i => i.live && decide (i.target = x) && decide (point = 0)
  | none => false

/-- A lane fault on x, declared in TRIPLE (R354, R357, R364, R371). -/
def State.laneFault (s : State) (x point : Nat) (index : Word) (named : BitVec 3) : State :=
  let live := s.liveFlip x point
  let (t, s0) := s.now
  let old := s0.triad.times.getD x []
  let third := match old with
    | _ :: b :: _ => !live && decide (t.1 < b + 3600)
    | _ => false
  let s1 := { s0 with triad := { s0.triad with
    times := if live then s0.triad.times else listSet s0.triad.times x ((t.1 :: old).take 3)
    lastIndex := index, lastTime := t
    latentPoint := decide (point = 0 ∨ point = 1 ∨ point = 7) } }
  let s2 := (s1.bump Reg.TRIAD.COUNTS0.LANE_FAULTS).bump (Reg.TRIAD.LANE.TOTAL x)
  let s3 := s2.wr Reg.TRIAD.LAST0.addr (BitVec.ofNat 32 (x + point * 4 + named.toNat * 64))
  if third then ((s3.retireLane x).raise (triadCause 4)).replaceLane
  else
    let s4 := ((s3.haltLane x).startSweep x).raiseM (triadCause 0) (if live then .live else .real)
    if live then s4.injEnd Reg.TRIAD.INJ_STATUS.addr codeActed else s4

/-- Judges that two others, in agreement, contradict (R367). -/
def oddJudges (h : BitVec 3) (a b c : BitVec 4) : BitVec 3 :=
  if h ≠ 7#3 then 0#3
  else if a = b ∧ c ≠ a then 4#3
  else if a = c ∧ b ≠ a then 2#3
  else if b = c ∧ a ≠ b then 1#3
  else 0#3

/-- Bitwise median of three. -/
def median3 {w : Nat} (a b c : BitVec w) : BitVec w := a &&& b ||| a &&& c ||| b &&& c

/-- The words of lanes. -/
def wordsOf (words : Vector CompareWord 4) (m : BitVec 4) : List CompareWord :=
  ((List.finRange 4).filter (fun l => m.getLsbD l.val)).map (fun l => words[l])

/-- No two of the words are alike; of a pair, the two differ (R357). -/
def noneAlike : List CompareWord → Bool
  | [] => true
  | w :: rest => !rest.contains w && noneAlike rest

/-- What the output voter delivers (R355): the bitwise median of three lanes, the common word of fewer. -/
def votedWord : List CompareWord → Option CompareWord
  | [a, b, c] => some ⟨median3 a.index b.index c.index, median3 a.data b.data c.data, median3 a.enables b.enables c.enables⟩
  | a :: _ => some a
  | [] => none

/-- The points whose output passes the voter (R355). -/
def votedPoint : ComparePoint → Bool
  | .outPort | .slalom | .eccStore | .blockWrite => true
  | .regFile | .matrixStore | .prof | .drive | .route | .superReg => false

/-- The output voter delivers the words of the lanes in `m`. -/
def State.vote (s : State) (point : ComparePoint) (words : Vector CompareWord 4) (m : BitVec 4) : State :=
  if votedPoint point then { s with triad := { s.triad with voted := votedWord (wordsOf words m) } } else s

/-- LANE_FAULT (R353 to R355, R357 to R359, R367 to R370): one comparison at `point` of the words that the lanes present. `j1` to `j3` are the
lanes that each judge names odd; `stream` says that the stream of a sweep differs from the other lane of the pair; `parity` and `path` are the
lanes with a parity error in one copy, and with an error that excludes their word. The lanes that no two alike or an excluded word leave
without agreement are a DOUBLE; LAST1 takes the index of the odd lane's word. -/
def execLaneFault (point : ComparePoint) (words : Vector CompareWord 4) (j1 j2 j3 : BitVec 4) (stream : Bool) (parity path : BitVec 4)
    (s0 : State) : Host.Outcome State Fault Refusal :=
  let s := if s0.laneMode = 3 ∨ s0.clk.rootRuns = false then s0 else s0.vote point words (s0.voting &&& ~~~path)
  if s.laneMode = 3 ∨ s.clk.rootRuns = false then .next s
  else
    let v := s.voting
    let fix := parity &&& v &&& ~~~path
    let out := path &&& v
    let count (f : Fld) (k : Nat) (t : State) : State := t.put f (min (t.get f + k) 65535)
    let s1 := if fix = 0#4 then s else (count Reg.TRIAD.COUNTS2.ALIGN_PARITY (ones fix) s).raise (triadCause 11)
    let s2 := if out = 0#4 then s1 else (count Reg.TRIAD.COUNTS2.ALIGN_PATH (ones out) s1).raise (triadCause 12)
    let left := v &&& ~~~out
    if ones left < 2 then .next s2.double
    else
      let h := s2.judges
      let s3 := if out = 0#4 then s2.removeJudges (oddJudges h (j1 &&& left) (j2 &&& left) (j3 &&& left)) .real else s2
      let h3 := s3.judges
      let names (x : Nat) : BitVec 3 :=
        h3 &&& BitVec.ofNat 3 (b2n (j1.getLsbD x) + b2n (j2.getLsbD x) * 2 + b2n (j3.getLsbD x) * 4)
      let odd := (List.range 4).filter (fun x => left.getLsbD x && decide (2 ≤ ones (names x)))
      let split := decide (ones h3 = 2) && (List.range 4).any (fun x => left.getLsbD x && decide (ones (names x) = 1))
      if ones h3 < 2 then .next s3
      else if noneAlike (wordsOf words left) || (stream && decide (s3.laneMode = 1)) then .next s3.double
      else match odd with
        | [] => .next (if split then { s3 with triad := { s3.triad with retest := true } } else s3)
        | [x] => .next (if s3.laneMode = 0 then s3.laneFault x point.code (words[Fin.ofNat 4 x]).index (names x) else s3.double)
        | _ => .next s3.double

/-- SWEEP_END (R359). -/
def execSweepEnd (s : State) : Host.Outcome State Fault Refusal :=
  if s.laneMode = 1 then .next { s with triad := { s.triad with sweepDone := true } } else .next s

/-- Carve and Slalom are idle with no trigger waiting (R360). -/
def State.lanesIdle (s : State) : Bool :=
  s.carve.running.isNone && s.carve.waiting.isEmpty && s.carve.notReady.isEmpty && s.carve.jobs.isEmpty

/-- LANE_REJOIN (R360, R361, R363): at a root epoch start, `cycles` CLK_CTL cycles after the declaration; `wasRead` says
that the odd lane read the differing word before its halt. -/
def execLaneRejoin (cycles : Nat) (wasRead : Bool) (s : State) : Host.Outcome State Fault Refusal :=
  if s.laneMode = 1 ∧ s.triad.sweepDone = true ∧ s.lanesIdle = true then
    let x := s.get Reg.TRIAD.STATUS.ODD
    let spare := decide (s.triad.spare = some x)
    let s1 := (s.put Reg.TRIAD.STATUS.VOTING (bitTo (s.voting.setWidth 32) x true).toNat).setLaneMode 0
    let s2 := (s1.bump Reg.TRIAD.COUNTS0.RESYNCS).put Reg.TRIAD.RESYNC.LAST (min cycles 65535)
    let s3 := (s2.put Reg.TRIAD.RESYNC.MAX (max (s2.get Reg.TRIAD.RESYNC.MAX) (min cycles 65535))).raise (triadCause 1)
    let s4 :=
      if spare then
        State.broughtIn (State.raise (State.put { s3 with triad := { s3.triad with spare := none } }
          Reg.TRIAD.STATUS.SPARE_READY 0) (triadCause 5)) 0
      else if s3.triad.latentPoint && !wasRead then
        ((s3.bump Reg.TRIAD.COUNTS1.LATENT).put Reg.TRIAD.LAST0.LATENT 1).raise (triadCause 2)
      else s3
    .next (s4.triad.heldReports.foldl State.beyondRepair { s4 with triad := { s4.triad with heldReports := [] } })
  else .next s

/-- RESYNC_TIMEOUT (R357): 100 µs without rejoin. -/
def execResyncTimeout (s : State) : Host.Outcome State Fault Refusal :=
  if s.laneMode = 1 then
    let x := s.get Reg.TRIAD.STATUS.ODD
    let s1 := (s.retireLane x).raise (triadCause 7)
    if s.triad.spare = some x then
      .next ((((State.put { s1 with triad := { s1.triad with spare := none } } Reg.TRIAD.STATUS.SPARE_READY 0).setLaneMode
        2).raise (triadCause 6)).spareOut)
    else .next s1.replaceLane
  else .next s

/-- TRIAD_INJECT (R371, R388, R389): 0 to 3 = lane A to D, 4 to 6 = J1 to J3. A test runs at the next root epoch start. -/
def execTriadInject (target : Fin 8) (cls : Nat) (s : State) : Host.Outcome State Fault Refusal :=
  if target.val = 7 then .next s
  else
    let lane := decide (target.val < 4)
    let ok := if lane then s.voting.getLsbD target.val else true
    let liveOk := if lane then decide (s.laneMode = 0) else decide (s.judges = 7#3)
    .next (s.inject Reg.TRIAD.INJ_STATUS.addr cls (triadCause 14) ok liveOk target.val 0 (fun t live =>
      if live && !lane then { t with triad := { t.triad with invert := t.triad.invert ||| (1#3 <<< (target.val - 4)) } }
      else t))

/-- The lane whose word a test flips (R366). DEDUCED (log entry 93): A, B and C in turn, each epoch the next; D, or another voting lane, in the
place of one that does not vote. -/
def State.testLane (s : State) : Nat :=
  let p := s.triad.turn % 3
  ([p, 3, (p + 1) % 3, (p + 2) % 3].find? (fun l => s.voting.getLsbD l)).getD p

/-- The judges whose verdicts in a test are wrong (R366): a judge under test must name the lane, every other judge none. -/
def wrongJudges (under : BitVec 3) (lane : Nat) (voting : BitVec 4) (names : JudgeNames) : BitVec 3 :=
  let wrong (j : Fin 3) : Bool := decide (names[j] &&& voting ≠ if under.getLsbD j.val then 1#4 <<< lane else 0#4)
  BitVec.ofNat 3 (b2n (wrong 0) + b2n (wrong 1) * 2 + b2n (wrong 2) * 4)

/-- A test of R366 is judged: `wrong` are the judges that gave a wrong verdict, those in `live` by a LIVE injection (R392). -/
def State.judgeTest (s : State) (wrong live : BitVec 3) : State :=
  let bad := wrong &&& s.judges
  let s1 := s.bumpWrap Reg.TRIAD.JSTAT.TESTS
  ((s1.put Reg.TRIAD.JSTAT.FAILS (min (s1.get Reg.TRIAD.JSTAT.FAILS + ones bad) 255)).removeJudges (bad &&& ~~~live) .real).removeJudges
    (bad &&& live) .live

/-- The judge whose turn it is: the first healthy one from the rotation's place on (R366). -/
def State.judgeTurn (s : State) : Option Nat :=
  ((List.range 3).map (fun k => (s.triad.rot + k) % 3)).find? (fun j => s.judges.getLsbD j)

/-- The tests out of rotation after a split (R368): each of the two judges in turn. -/
def State.splitTests (s : State) (lane : Nat) (extra : Vector JudgeNames 3) : State :=
  let js := (List.range 3).filter (fun j => s.judges.getLsbD j)
  let bad := (js.zip [extra[0], extra[1]]).foldl (fun m x => m ||| wrongJudges (1#3 <<< x.1) lane s.voting x.2) 0#3 &&& s.judges
  let t := (s.judgeTest bad 0#3).bumpWrap Reg.TRIAD.JSTAT.TESTS
  t.setIf (decide (bad = 0#3) && decide (ones t.judges = 2)) (triadCause 9)

/-- The tests at a root epoch start (R366, R368, R371): `names` in the rotation, `extra` out of rotation. A LIVE injection inverts the verdict
of the judge under test. -/
def State.judgeEpoch (s : State) (names : JudgeNames) (extra : Vector JudgeNames 3) : State :=
  let lane := s.testLane
  let s1 := match s.judgeTurn with
    | none => s
    | some j =>
      let m := 1#3 <<< j
      let inv := s.triad.invert &&& m
      let t := State.judgeTest { s with triad := { s.triad with
        rot := (j + 1) % 3, turn := (s.triad.turn + 1) % 3, invert := s.triad.invert &&& ~~~m } } (wrongJudges m lane s.voting names ^^^ inv) inv
      if inv = 0#3 then t else t.injEnd Reg.TRIAD.INJ_STATUS.addr codeActed
  let s2 :=
    if s1.triad.retest then
      State.splitTests { s1 with triad := { s1.triad with retest := false } } lane extra
    else s1
  match s2.injAt Reg.TRIAD.INJ_STATUS.addr with
  | some i =>
    if i.live then s2
    else
      let under : BitVec 3 := if i.target < 4 then s2.judges else 1#3 <<< (i.target - 4)
      let wrong := wrongJudges under (if i.target < 4 then i.target else lane) s2.voting extra[2]
      let pass := decide (wrong &&& under = 0#3)
      let t := s2.judgeTest wrong 0#3
      let u := if pass && decide (i.target < 4) then t.setCauseM (triadCause 0) .shadow else t
      u.injEnd i.ctrl (if pass then codePass else codeFail)
  | none => s2

/-- TRIAD_CLEAR_STATS (R372). -/
def execTriadClearStats (s : State) : Host.Outcome State Fault Refusal :=
  .next (((((((s.wr Reg.TRIAD.RESYNC.addr 0#32).wr Reg.TRIAD.COUNTS0.addr 0#32).wr Reg.TRIAD.COUNTS1.addr 0#32).wr
    Reg.TRIAD.COUNTS2.addr 0#32).wr Reg.TRIAD.JSTAT.addr 0#32).status Reg.TRIAD.CMD_STATUS.addr codeOk))

/-- LANE[l].HOUR (R364, R372). -/
def State.laneHour (s : State) (l : Nat) : Nat :=
  ((s.triad.times.getD l []).filter (fun t => decide (s.tod.sec < t + 3600))).length

/-- A read of LAST0 latches LAST1 and the time fields (R372). -/
def State.lastLaneRead (s : State) : State :=
  ((s.wr Reg.TRIAD.LAST1.addr s.triad.lastIndex).wr Reg.TRIAD.LAST_TIME_S.addr (BitVec.ofNat 32 s.triad.lastTime.1)).put
    Reg.TRIAD.LAST_TIME_NS.NS s.triad.lastTime.2

end Sys2Proof.Machine
end

