-- ==== Sys2Proof/Machine/Time.lean ====
section
/-! DEFINITION. The root epoch and the time reference: the time-of-day counter, the servo, PPS and the armed SYNC (R23, R30,
R366, R474 to R486, R509, R510). -/

namespace Sys2Proof.Machine

/-- An instant of whole nanoseconds in 2^-32 ns. -/
def instantUnits (t : Nat × Nat) : Int := ((t.1 * 1000000000 + t.2) * 2 ^ 32 : Nat)

/-- RATE as a signed number of 2^-32 (R510). -/
def State.rate (s : State) : Int := (s.rd Reg.TIME.RATE.addr).toInt

/-- The time of one root epoch in 2^-32 ns (R475). DESIGN CHOICE (log entry 98): a RATE or STEER that changes within an epoch acts from the next
epoch start on. -/
def State.epochUnits (s : State) : Int :=
  if s.flag Reg.TIME.CFG.STEER then 3000 * 2 ^ 32 else 3000 * 2 ^ 32 + 3000 * s.rate

/-- A jump of the counter from a to b steps forward over an instant. -/
def steppedOver (a b : Int) (t : Option (Nat × Nat)) : Bool :=
  match t with
  | some x => decide (a < instantUnits x ∧ instantUnits x ≤ b)
  | none => false

/-- The value that a SET or a step of the servo gives the counter at the coming epoch start, in place of u (R479, R510). -/
def State.jumpTo (s : State) (u : Int) : Option Int :=
  match s.time.setAt with
  | some x => some (instantUnits x)
  | none => s.time.step.map (fun d => u + d * 2 ^ 16)

/-- A jump of the counter from a to b: STEPPED; a SYNC it steps over is cancelled (R485), and the latest PPS_IN edge moves with it (R478). -/
def State.jumped (s : State) (a b : Int) : State :=
  let s1 := { s with time := { s.time with ppsMove := s.time.ppsMove + (b - a) } }
  let s2 := if steppedOver a b s1.time.syncAt then
      (State.put { s1 with time := { s1.time with syncAt := none } } Reg.TIME.STATUS.SYNC_ARMED 0).raise ⟨42, 6⟩ else s1
  s2.raise ⟨42, 3⟩

/-- The counter at a root epoch start (R475, R479, R510): it advances; a SET loads it, or a step of the servo moves it and makes it valid. -/
def State.todEpoch (s : State) : State :=
  let u := s.tod.units + s.time.advance
  let s1 := { s with clk := { s.clk with edge := 0 }, time := { s.time with advance := s.epochUnits, setAt := none, step := none } }
  match s.jumpTo u with
  | some v =>
    let s2 := if s.time.setAt.isSome then s1 else s1.put Reg.TIME.STATUS.VALID 1
    State.jumped { s2 with tod := todOf v } u v
  | none => { s1 with tod := todOf u }

/-- Nanoseconds from instant a to instant b. -/
def nsBetween (a b : Nat × Nat) : Int := ((b.1 * 1000000000 + b.2 : Nat) : Int) - ((a.1 * 1000000000 + a.2 : Nat) : Int)

/-- Milliseconds in 2^-32 ns. -/
def msUnits (n : Nat) : Int := (n * 1000000 * 2 ^ 32 : Nat)

/-- A PPS_IN edge stamped t may be taken (R478): it lies within 1 s ± 1 ms of the previous accepted one, or is the first after a loss. -/
def State.ppsFits (s : State) (t : Int) : Bool :=
  match s.time.ppsAt with
  | none => true
  | some p =>
    let d := t - (p + s.time.ppsMove)
    s.time.ppsLost || decide (msUnits 3000 < d) || decide (msUnits 999 ≤ d ∧ d ≤ msUnits 1001)

/-- PPS_IN_EDGE (R477, R478): an edge in CLK_EDGE cycle `after` of the running epoch. -/
def execPpsInEdge (after : Nat) (s : State) : Host.Outcome State Fault Refusal :=
  if s.clk.rootRuns then
    let s1 := s.edgeTo after
    let t := s1.todUnits
    if s.ppsFits t then
      .next (State.wr { s1 with time := { s1.time with ppsAt := some t, ppsMove := 0, ppsDue := true, ppsLost := false } }
        Reg.TIME.PPS_IN_S.addr (BitVec.ofNat 32 (todOf t).sec))
    else .next (s1.raise ⟨42, 4⟩)
  else .next s

/-- The reference that CFG.SOURCE names exists (R477): a Folis master or a gPTP grandmaster is its own. -/
def State.hasRef (s : State) : Bool :=
  match s.get Reg.TIME.CFG.SOURCE with
  | 1 => true
  | 2 => decide (s.get Reg.NET.FOLIS.STATUS.ROLE ≠ 1)
  | 3 => !s.flag Reg.NET.GPTP.STATUS.GM
  | _ => false

/-- PERIOD in µs (R499): that of the master, as the latest CYCLE frame has it; before one has come, this node's own. -/
def State.cyclePeriod (s : State) : Nat := if s.net.period = 0 then s.get Reg.NET.FOLIS.CYCLE.PERIOD else s.net.period

/-- The code of logSyncInterval that the grandmaster followed has in its Sync messages (R477, R481); before one has come, this node's own. -/
def State.syncLog (s : State) : Nat := s.net.syncLog.getD (s.get Reg.NET.GPTP.CFG.LOG_SYNC)

/-- Seconds of the measurement interval (R477). -/
def State.measureSeconds (s : State) : Rat :=
  match s.get Reg.TIME.CFG.SOURCE with
  | 2 => (s.cyclePeriod : Rat) / 1000000
  | 3 => 1 / ((2 ^ s.syncLog : Nat) : Rat)
  | _ => 1

/-- Hold a number within ±m. -/
def clampInt (m x : Int) : Int := max (-m) (min m x)

/-- RATE from the loop of R479, whose gains the spec does not give: a free value, within the limits of R481. -/
def State.servoRate (s : State) : State :=
  let (v, s1) := s.fresh
  let raw : Int := (v.setWidth 32).toInt
  let steer := s1.flag Reg.TIME.CFG.STEER
  let lim : Int := if steer then 214748 else 858993
  let held := clampInt lim raw
  let slew : Int := (s1.measureSeconds * 4294).floor
  let r := if steer then s1.rate + clampInt slew (held - s1.rate) else held
  let s2 := { s1 with time := { s1.time with rates := (r :: s1.time.rates).take 16 } }
  (s2.wr Reg.TIME.RATE.addr (BitVec.ofInt 32 r)).setIf (decide (lim < raw ∨ raw < -lim)) ⟨42, 8⟩

/-- The module holds over (R480): RATE freezes at the mean of its last 16 values. -/
def State.todHold (s : State) (m : Mark) : State :=
  if s.flag Reg.TIME.STATUS.HOLDOVER then s
  else
    let l := s.time.rates
    let s1 := { s with time := { s.time with ppsLost := true } }
    let s2 := if l = [] then s1 else s1.wr Reg.TIME.RATE.addr (BitVec.ofInt 32 (l.sum / (l.length : Int)))
    ((s2.put Reg.TIME.STATUS.HOLDOVER 1).put Reg.TIME.STATUS.ACTIVE 0).raiseM ⟨42, 2⟩ m

/-- The reference is lost (R477, R480). -/
def State.refLostHold (s : State) (m : Mark) : State := if s.hasRef then s.todHold m else s

/-- A module that has become the source its own servo names has no reference (R477): it holds over. -/
def State.ownRef (s : State) : State :=
  if 2 ≤ s.get Reg.TIME.CFG.SOURCE ∧ s.hasRef = false then s.todHold .real else s

/-- OFFSET in 2^-8 ns (R510); an offset that the register cannot hold leaves it open. -/
def State.putOffset (s : State) (offset : Int) : State :=
  let v := offset / 256
  if -(2 ^ 31 : Int) ≤ v ∧ v < 2 ^ 31 then s.wr Reg.TIME.OFFSET.addr (BitVec.ofInt 32 v)
  else
    let (x, s1) := s.fresh
    s1.wr Reg.TIME.OFFSET.addr (x.setWidth 32)

/-- A measurement reaches the servo (R476, R479, R480). -/
def State.servo (s : State) (offset : Int) : State :=
  let src := s.get Reg.TIME.CFG.SOURCE
  let s1 := ((s.putOffset offset).put Reg.TIME.STATUS.HOLDOVER 0).put Reg.TIME.STATUS.ACTIVE src
  let abs := max offset (-offset)
  let big := decide (1000 * 65536 < abs)
  let locked := s1.flag Reg.TIME.STATUS.LOCKED
  let far := if big && locked then min (s1.time.far + 1) 3 else 0
  let near := if abs < 100 * 65536 then min (s1.time.near + 1) 16 else 0
  let s2 := { s1 with time := { s1.time with far := far, near := near } }
  let stepBy (t : State) : State := { t with time := { t.time with step := some (-offset), far := 0, near := 0 } }
  if big && !locked then stepBy s2
  else if decide (far = 3) then stepBy ((s2.put Reg.TIME.STATUS.LOCKED 0).raise ⟨42, 1⟩)
  else
    let s3 := s2.servoRate
    let s4 := if near = 16 then { s3 with time := { s3.time with lockedTo := src } } else s3
    if near = 16 ∧ locked = false then ((s4.put Reg.TIME.STATUS.LOCKED 1).put Reg.TIME.STATUS.VALID 1).raise ⟨42, 0⟩ else s4

/-- A measurement (R479, R509): OFFSET in 2^-16 ns. Under a TIME injection the measurement is withheld, a SHADOW one from the
loss detector only; at the third the detector flags the loss. -/
def State.measure (s : State) (offset : Int) : State :=
  if !s.hasRef then s
  else match s.injAt Reg.TIME.INJ_STATUS.addr with
    | none => s.servo offset
    | some i =>
      let k := s.time.withhold + 1
      let s1 := if i.live then s else s.servo offset
      let s2 := { s1 with time := { s1.time with withhold := k } }
      if k < 3 then s2
      else if i.live then (s2.refLostHold .live).injEnd i.ctrl codeActed
      else (s2.setCauseM ⟨42, 2⟩ .shadow).injEnd i.ctrl codePass

/-- Local time minus the second boundary that a PPS_IN edge stamped u marks, the nearest one (R477, R479), in 2^-16 ns. -/
def ppsOffset (u : Int) : Int :=
  let sec : Int := 1000000000 * 65536
  (u / 65536 + sec / 2) % sec - sec / 2

/-- OFFSET of a measurement, local time minus reference time in 2^-16 ns (R477, R479): of the latest accepted PPS_IN edge, if it waits for its
measurement; else of what the frames give at their ingress. The grandmaster's time is the origin and corrections of its Sync and Follow_Up, and
the peer delay of the slave port (R490). -/
def State.servoOffset (s : State) (m : ServoMeas) : Option Int :=
  if s.get Reg.TIME.CFG.SOURCE = 1 then
    (if s.time.ppsDue then s.time.ppsAt.map (fun p => ppsOffset (p + s.time.ppsMove)) else none)
  else if s.get Reg.TIME.CFG.SOURCE = 3 then
    let delay := ((List.finRange 3).find? (fun p => s.get (Reg.NET.PORT.STATUS.GPTP_ROLE p.val) == 2)).elim 0 (fun p => s.net.peerDelay[p])
    some ((s.edgeTo m.after).todUnits / 65536 - (m.reference + delay))
  else some ((s.edgeTo m.after).todUnits / 65536 - m.reference)

/-- SERVO_MEASUREMENT (R477, R479, R509). -/
def execServoMeasurement (m : ServoMeas) (s : State) : Host.Outcome State Fault Refusal :=
  match s.servoOffset m with
  | none => .next s
  | some offset =>
    let s1 := s.edgeTo m.after
    .next (State.measure { s1 with time := { s1.time with ppsDue := false } } offset)

/-- REFERENCE_LOSS (R477, R480). -/
def execReferenceLoss (s : State) : Host.Outcome State Fault Refusal := .next (s.refLostHold .real)

/-- PPS_OUT_PULSE (R482, R58). -/
def execPpsOutPulse (s : State) : Host.Outcome State Fault Refusal :=
  .next { s with time := { s.time with
    ppsOut := s.time.ppsOut ||
      (s.flag Reg.TIME.CFG.PPS_OUT_EN && s.flag Reg.TIME.STATUS.VALID && decide (s.life = .run)) } }

/-- PPS_OUT_FALL (R482). -/
def execPpsOutFall (s : State) : Host.Outcome State Fault Refusal :=
  .next { s with time := { s.time with ppsOut := false } }

/-- The instant held in TIME.ARG (R510). -/
def State.timeArg (s : State) : Nat × Nat :=
  ((s.rd (Reg.TIME.ARG.addr 0)).toNat + (s.rd (Reg.TIME.ARG.addr 1)).toNat % 65536 * 2 ^ 32,
    (s.rd (Reg.TIME.ARG.addr 2)).toNat % 2 ^ 30)

/-- TIME_SET (R476, R510): allowed only with SOURCE = 0; the counter takes ARG at the next root epoch start. -/
def execTimeSet (s : State) : Host.Outcome State Fault Refusal :=
  if s.get Reg.TIME.CFG.SOURCE = 0 then
    .next ((State.put { s with time := { s.time with setAt := some s.timeArg } } Reg.TIME.STATUS.VALID 1).status
      Reg.TIME.CMD_STATUS.addr codeOk)
  else .next (s.deny Reg.TIME.CMD_STATUS.addr ⟨42, 10⟩)

/-- SYNC_ARM (R484). -/
def execSyncArm (s : State) : Host.Outcome State Fault Refusal :=
  let (t, s1) := s.now
  let a := s1.timeArg
  if s1.allResting && s1.flag Reg.TIME.STATUS.VALID && decide (1000000 ≤ nsBetween t a) then
    .next ((State.put { s1 with time := { s1.time with syncAt := some a } } Reg.TIME.STATUS.SYNC_ARMED 1).status
      Reg.TIME.CMD_STATUS.addr codeOk)
  else .next (s1.deny Reg.TIME.CMD_STATUS.addr ⟨42, 10⟩)

/-- The armed SYNC is disarmed. -/
def State.disarmSync (s : State) : State :=
  State.put { s with time := { s.time with syncAt := none } } Reg.TIME.STATUS.SYNC_ARMED 0

/-- SYNC_CANCEL (R510). -/
def execSyncCancel (s : State) : Host.Outcome State Fault Refusal :=
  .next (s.disarmSync.status Reg.TIME.CMD_STATUS.addr codeOk)

/-- TIME_SYNC_FIRE (R484, R486): the counter reaches the armed instant. -/
def execTimeSyncFire (s : State) : Host.Outcome State Fault Refusal :=
  match s.time.syncAt with
  | none => .next s
  | some a =>
    let s1 := s.disarmSync
    if s1.allResting then
      .next (State.raise { s1.sync with time := { s1.time with syncLast := a } } ⟨42, 5⟩)
    else .next (s1.raise ⟨42, 6⟩)

/-- GRID × 2/3 ns in 2^-32 ns, held to FRAC resolution (R486). -/
def State.gridStep (s : State) : Int := ((s.rd Reg.TIME.GRID.addr).toNat * 2 * 65536 / 3 : Nat) * 65536

/-- The SYNC that the module issues by itself at L6 or W4 (R224, R469, R486): at once, or with GRID ≠ 0 by SYNC_ISSUE at the first instant a whole
number of grid steps past TIME.SYNC. -/
def State.ownSync (s : State) : State :=
  if s.rd Reg.TIME.GRID.addr = 0#32 then s.sync
  else
    let s1 := s.edgeNow
    let base := instantUnits s1.time.syncLast
    let n := -((base - s1.todUnits) / s1.gridStep)
    { s1 with time := { s1.time with gridAt := some (base + n * s1.gridStep) }, trip := { s1.trip with syncPending := true } }

/-- TIME.SYNC[i] (R486, R510): the armed instant, or the last issued. -/
def State.syncWord (s : State) (i : Nat) : Word :=
  let t := s.time.syncAt.getD s.time.syncLast
  match i with
  | 0 => BitVec.ofNat 32 t.1
  | 1 => BitVec.ofNat 32 (t.1 / 2 ^ 32 % 65536)
  | _ => BitVec.ofNat 32 t.2

/-- TIME_NOW_READ (R474, R510): a read of NOW_S_LO in CLK_EDGE cycle `after` of the running epoch latches the instant. -/
def execTimeNowRead (after : Nat) (st : State) : Host.Outcome State Fault Refusal :=
  let s := st.edgeTo after
  let t := todOf s.todUnits
  .next ((((s.wr Reg.TIME.NOW_S_LO.addr (BitVec.ofNat 32 t.sec)).put Reg.TIME.NOW_S_HI.S (t.sec / 2 ^ 32)).put
    Reg.TIME.NOW_NS.NS t.ns).put Reg.TIME.NOW_FRAC.FRAC (t.frac / 65536))

/-- PPS_IN_READ (R510). -/
def execPpsInRead (s : State) : Host.Outcome State Fault Refusal :=
  .next (s.put Reg.TIME.PPS_IN_NS.NS (match s.time.ppsAt with
    | some t => (todOf t).ns
    | none => 0))

/-- TIME_INJECT (R509). -/
def execTimeInject (cls : Nat) (s : State) : Host.Outcome State Fault Refusal :=
  .next (s.inject Reg.TIME.INJ_STATUS.addr cls ⟨42, 10⟩ (s.hasRef && !s.flag Reg.TIME.STATUS.HOLDOVER) true 0 0
    (fun t _ => { t with time := { t.time with withhold := 0 } }))

end Sys2Proof.Machine
end

