-- ==== Sys2Proof/Machine/Groom.lean ====
section
/-! DEFINITION. Groomer: on-demand tests, returned lanes, baselines, memory spares and the record (R434 to R447). -/

namespace Sys2Proof.Machine

/-- A cause of the GROOM group (R451). -/
def groomCause (b : Nat) : Cause := ⟨5, b⟩

/-- A Groomer command is refused (R387, R444). -/
def State.groomDeny (s : State) : State := s.deny Reg.GROOM.CMD_STATUS.addr (groomCause 12)

/-- How an on-demand test handles a target (R444): none where the target does not exist, is in use without a spare, is a spare on its way in,
or may not be tested. Targets 0x20 to 0x53 are the filters 0 to 51. -/
def State.bistKind (s : State) (t : Nat) : Option BistKind :=
  let g := s.groom.live
  if t < 4 then
    (if s.triad.spare = some t ∨ g.lanes.getLsbD t = true then
      (if s.laneMode = 1 ∧ s.get Reg.TRIAD.STATUS.ODD = t then none else some .idle)
    else if s.voting.getLsbD t = true ∧ s.laneMode = 0 ∧ s.spareReady.isSome = true then some .lane
    else none)
  else if 0x10 ≤ t ∧ t ≤ 0x18 then
    (let c := t - 0x10
     if g.cores.contains c then some .idle
     else if s.hka.bring.any (fun b => b.core == c) then none
     else if (s.coreUsed c).isNone then some .idle
     else if s.spareCore.isSome then some .inUse
     else none)
  else if 0x20 ≤ t ∧ t ≤ 0x53 then
    (let u := t - 0x20
     if g.badFilters.contains u then some .idle
     else if s.unitBeside u then none
     else if (s.unitUsed u).isNone then some .idle
     else if s.freeFilters ≠ [] then some .inUse
     else none)
  else if 0x60 ≤ t ∧ t ≤ 0x63 then some .idle
  else if t = 0x70 ∨ t = 0x71 then
    (if s.flag Reg.CLK.STATUS.BRIDGE = false ∧ s.get Reg.CLK.STATUS.ACTIVE = t - 0x70 then none else some .idle)
  else if 0x78 ≤ t ∧ t ≤ 0x7A then
    (if s.get (Reg.NET.PORT.STATUS.LINK (t - 0x78)) = 2 then none else some .idle)
  else none

/-- The bring-in of a spare for a unit in use starts (R437, R441, R444); that of a filter goes before those that wait. The test stands entered. -/
def State.bistBringIn (s : State) (t : Nat) (k : BistKind) : State :=
  match k with
  | .lane => match s.spareReady with
    | some d => (s.haltLane t).startSweep d
    | none => s
  | .inUse =>
    if t ≤ 0x18 then
      match s.spareCore, s.coreUsed (t - 0x10) with
      | some d, some q => s.assignCore d q
      | _, _ => s
    else
      match s.unitUsed (t - 0x20) with
      | some n =>
        if (s.sdm[sdmIdx n]).spare.isSome then s
        else State.nextFilter { s with groom := { s.groom with filterWait := n :: s.groom.filterWait.filter (fun m => m != n) } } 52
      | none => s
  | _ => s

/-- A verdict is written (R444, R445). -/
def State.verdict (s : State) (t v : Nat) : State :=
  let s1 := ((s.put Reg.GROOM.BIST_RESULT.TARGET t).put Reg.GROOM.BIST_RESULT.VERDICT v).bumpWrap Reg.GROOM.BIST_RESULT.SEQ
  (s1.raise (groomCause 7)).setIf (decide (v = 2)) (groomCause 8)

/-- GROOM_BIST (R444): `inRange` says that CLK_SYS lies within ±2 % and VCORE at 0.80 V ± 3 %. DEDUCED (log entry 90): a test refused for
RANGE has no verdict of R445. -/
def execGroomBist (target : BitVec 8) (inRange : Bool) (s : State) : Host.Outcome State Fault Refusal :=
  let t := target.toNat
  if s.groom.bist.isSome then .next s.groomDeny
  else match s.bistKind t with
    | none => .next s.groomDeny
    | some k =>
      if inRange then
        let s1 := State.bistBringIn { s with groom := { s.groom with bist := some ⟨t, k⟩ } } t k
        .next ((s1.put Reg.GROOM.CMD_STATUS.BUSY 1).status Reg.GROOM.CMD_STATUS.addr codeOk)
      else .next ((s.groomDeny.put Reg.GROOM.BIST_RESULT.TARGET t).put Reg.GROOM.BIST_RESULT.VERDICT 3)

/-- The bring-in that a test of a unit in use waits for has ended. -/
def State.bistReady (s : State) (b : BistRun) : Bool :=
  match b.kind with
  | .idle => true
  | .returnLane => true
  | .lane => decide (s.laneMode = 0) && !s.voting.getLsbD b.target
  | .inUse =>
    if b.target ≤ 0x18 then (s.coreUsed (b.target - 0x10)).isNone else (s.unitUsed (b.target - 0x20)).isNone

/-- Store the live record. -/
def State.setRec (s : State) (g : GroomRec) : State := { s with groom := { s.groom with live := g } }

/-- A lane becomes the spare (R363, R446). -/
def State.laneSpare (s : State) (x : Nat) : State :=
  let s1 := State.put { s with triad := { s.triad with spare := some x } } Reg.TRIAD.STATUS.SPARE_READY 1
  let l := s1.groom.live.lanes &&& ~~~(1#4 <<< x)
  (s1.setRec { s1.groom.live with lanes := l }).put Reg.TRIAD.STATUS.RETIRED l.toNat

/-- In DUPLEX the lane that passed is brought in for the lane that failed (R445, R446). -/
def State.bringLane (s : State) (x : Nat) : State := if s.laneMode = 2 then s.startSweep x else s

/-- The root leaves the bridge oscillator for the PLL that passed, which the loss of the other waited for (R29, R445). -/
def State.bridgeServe (s : State) (p : Nat) : State :=
  if s.groom.pllWait && s.flag Reg.CLK.STATUS.BRIDGE then (s.bridgeEnd p).broughtIn 0 else s

/-- A unit passes (R444 to R446): it returns to the inventory; one that was in use stands as the spare from here on. -/
def State.bistPass (s : State) (b : BistRun) : State :=
  let g := s.groom.live
  let t := b.target
  match b.kind with
  | .lane => (s.laneSpare t).bringLane t
  | .returnLane =>
    let s1 := State.laneSpare { s with triad := { s.triad with times := listSet s.triad.times t [] } } t
    (s1.bringLane t).raise (groomCause 9)
  | _ =>
    if t < 4 then
      (if s.triad.spare = some t then s.bringLane t
      else if g.lanes.getLsbD t ∧ s.triad.spare = none then (s.laneSpare t).bringLane t
      else s)
    else if t ≤ 0x18 then
      (let s1 := s.setRec { g with cores := g.cores.filter (fun x => x != t - 0x10) }
       match s1.coreUsed (t - 0x10) with
       | some q => if s1.hka.bring.any (fun b => b.seq == q) then s1 else s1.setDead q false
       | none => s1)
    else if t ≤ 0x53 then (s.markFilter (t - 0x20) false).showFilters
    else if t ≤ 0x63 then s
    else if t ≤ 0x71 then
      (let p := t - 0x70
       ((s.setRec { g with plls := g.plls &&& ~~~(1#2 <<< p) }).put (pllLock p) 1).bridgeServe p)
    else s.setRec { g with ports := g.ports.filter (fun x => x != t - 0x78) }

/-- A unit fails (R444): it stays out, or is marked faulty. -/
def State.bistFail (s : State) (b : BistRun) : State :=
  let g := s.groom.live
  let t := b.target
  if t < 4 then
    (if s.triad.spare = some t then
      (State.put { s with triad := { s.triad with spare := none } } Reg.TRIAD.STATUS.SPARE_READY 0).retireLane t
    else if g.lanes.getLsbD t then s else s.retireLane t)
  else if t ≤ 0x18 then s.setRec { g with cores := (t - 0x10) :: g.cores.filter (fun x => x != t - 0x10) }
  else if t ≤ 0x53 then (s.markFilter (t - 0x20) true).showFilters
  else if t ≤ 0x63 then
    (let l := t - 0x60
     (s.setRec { g with badTiles := g.badTiles ++ (s.freeSpares l).map (fun k => (l, k)) }).showSpares l)
  else if t ≤ 0x71 then
    (let p := t - 0x70
     let s1 := (s.setRec { g with plls := g.plls ||| (1#2 <<< p) }).put (pllLock p) 0
     if s1.groom.pllWait then State.spareOut { s1 with groom := { s1.groom with pllWait := false } } else s1)
  else s.setRec { g with ports := (t - 0x78) :: g.ports.filter (fun x => x != t - 0x78) }

/-- A test cut short by its range (R445): a healthy unit becomes the spare of its kind, a faulty one stays out. -/
def State.bistRange (s : State) (b : BistRun) : State :=
  match b.kind with
  | .lane => s.bistPass b
  | .returnLane => s
  | _ =>
    if 0x20 ≤ b.target ∧ b.target ≤ 0x53 then s.showFilters
    else if (b.target = 0x70 ∨ b.target = 0x71) ∧ s.groom.live.plls.getLsbD (b.target - 0x70) = false then s.bistPass b
    else s

/-- RETURN_LANE (R444, R446): a retired lane; refused in RESYNC, and out of range with the verdict RANGE as for any on-demand test. -/
def execReturnLane (target : LaneReturn) (s : State) : Host.Outcome State Fault Refusal :=
  let t := target.target.toNat
  if s.groom.bist.isNone && decide (t < 4) && s.groom.live.lanes.getLsbD t && decide (s.laneMode ≠ 1) then
    if target.inRange then
      .next ((State.put { s with groom := { s.groom with bist := some ⟨t, .returnLane⟩ } } Reg.GROOM.CMD_STATUS.BUSY 1).status
        Reg.GROOM.CMD_STATUS.addr codeOk)
    else .next ((s.groomDeny.put Reg.GROOM.BIST_RESULT.TARGET t).put Reg.GROOM.BIST_RESULT.VERDICT 3)
  else .next s.groomDeny

/-- The baselines of a channel are cleared (R436). -/
def State.clearBaseline (s : State) (n : Fin 64) : State :=
  (State.wr (s.setEdge n { s.edge n with wear := { learnFrom := s.get Reg.GROOM.OP_TIME.S } })
    (Reg.GROOM.SW.addr n.val) 0#32).wr (Reg.GROOM.SWSTAT.addr n.val) 0#32

/-- RESET_BASELINE (R436). -/
def execResetBaseline (target : BitVec 8) (s : State) : Host.Outcome State Fault Refusal :=
  if h : target.toNat < 64 then
    let n : Fin 64 := ⟨target.toNat, h⟩
    if s.groom.bist.isNone && s.edgeResting n then
      let s1 := s.clearBaseline n
      let s2 := match s.mate n with
        | some p => s1.clearBaseline p
        | none => s1
      .next (s2.status Reg.GROOM.CMD_STATUS.addr codeOk)
    else .next s.groomDeny
  else .next s.groomDeny

/-- GROOM_INJECT (R447): target 0, the channel in INDEX; the next counted update gives the result. -/
def execGroomInject (cls : Nat) (s : State) : Host.Outcome State Fault Refusal :=
  let t := s.get Reg.GROOM.INJ_TARGET.TARGET
  let n : Fin 64 := Fin.ofNat 64 (s.get Reg.GROOM.INJ_TARGET.INDEX)
  .next (s.inject Reg.GROOM.INJ_STATUS.addr cls (groomCause 12)
    (decide (t = 0) && s.alive n && (s.senseGain n).isSome) true t n.val (fun x _ => x))

/-- Spare rows left (R450). -/
def State.rowsLeft (s : State) : Nat := 128 - s.groom.live.rows.length

/-- ROW_REPLACED (R437, R438): a row with `ce` corrected errors within 24 h, or with an uncorrectable one (`lost`). -/
def execRowReplaced (row ce : Nat) (lost : Bool) (s : State) : Host.Outcome State Fault Refusal :=
  if !lost && decide (ce < s.get Reg.GROOM.MEM_CFG.ROW_CE_LIMIT) then .next s
  else if s.rowsLeft = 0 then .next s.spareOut
  else
    let s1 := s.setRec { s.groom.live with rows := s.groom.live.rows ++ [row] }
    .next ((s1.raise (groomCause 5)).broughtIn s1.rowsLeft)

/-- Spare sectors left in a bank (R450). -/
def State.sectorsLeft (s : State) (b : Nat) : Nat := 256 - (s.groom.live.sectors.filter (fun x => x.1 == b)).length

/-- A sector is remapped while spares of its bank last (R437, R439, R441). -/
def State.remapSector (s : State) (p : Nat × Nat) : State :=
  if s.sectorsLeft p.1 = 0 then s.spareOut
  else
    let g := s.groom.live
    let u := s.setRec { g with marked := g.marked.erase p, sectors := g.sectors ++ [p] }
    u.broughtIn (u.sectorsLeft p.1)

/-- The marked sectors of a bank are remapped (R439). -/
def State.remapSectors (s : State) (b : Nat) : State :=
  (s.groom.live.marked.filter (fun x => x.1 == b)).foldl (fun t p => t.remapSector p) s

/-- SECTOR_MARKED (R437, R439): a sector with `ce` corrected reads within 24 h waits for the next staging into its bank; one whose
write-verify fails (`verify`) during a staging into it is remapped at once. -/
def execSectorMarked (bank : Fin 2) (sector ce : Nat) (verify : Bool) (s : State) : Host.Outcome State Fault Refusal :=
  let g := s.groom.live
  let p := (bank.val, sector)
  if verify then
    (if s.svc.staging.isSome ∧ bank ≠ s.svc.running then .next ((s.raise (groomCause 6)).remapSector p) else .next s)
  else if decide (ce < s.get Reg.GROOM.MEM_CFG.SECTOR_CE_LIMIT) || g.marked.contains p then .next s
  else .next ((s.setRec { g with marked := g.marked ++ [p] }).raise (groomCause 6))

/-- The record as it stands, wear and its figures included (R434, R442). -/
def State.liveRec (s : State) : GroomRec :=
  { s.groom.live with
    wear := s.edges.toList.map (fun e => e.wear)
    figures := (List.range 64).map (fun n => (s.rd (Reg.GROOM.SW.addr n), s.rd (Reg.GROOM.SWSTAT.addr n))) }

/-- GROOM_RECORD_WRITE (R442). -/
def execGroomRecordWrite (ok : Bool) (s : State) : Host.Outcome State Fault Refusal :=
  if ok then .next { s with groom := { s.groom with stored := s.liveRec } } else .next (s.raise (groomCause 10))

/-- GROOM.STATUS.BUSY (R450): a test or a bring-in runs. -/
def State.groomBusy (s : State) : Bool :=
  s.groom.bist.isSome || (decide (s.laneMode = 1) && decide (s.triad.spare = some (s.get Reg.TRIAD.STATUS.ODD))) ||
    s.hka.bring.isSome || s.filterBring ||
    !s.piste.repairs.isEmpty || s.groom.pllTest.isSome

/-- GROOM.SPARES0 (R450). -/
def State.spares0 (s : State) : Word :=
  let g := s.groom.live
  let other := 1 - s.get Reg.CLK.STATUS.ACTIVE
  let pll := s.flag (pllLock other) && !g.plls.getLsbD other
  let eth := s.flag Reg.NET.CFG.ETH2_SPARE && decide (s.get (Reg.NET.PORT.STATUS.LINK 2) = 3)
  BitVec.ofNat 32 (b2n (s.flag Reg.TRIAD.STATUS.SPARE_READY) + b2n (decide (s.spareCore = some 8)) * 2 +
    s.get Reg.SDM.SPARES.LEFT * 4 + b2n pll * 32 + b2n eth * 64)

end Sys2Proof.Machine
end

