-- ==== Sys2Proof/Machine/Envelope.lean ====
section
/-! DEFINITION. Envelopes of the fields: what a write to a field stores, clamps or refuses (R9 to R13, R72, R109, R188, R219,
R234, R285, R603). -/

namespace Sys2Proof.Machine

/-- What an envelope makes of a written code: stored (as given, or as its canonical code), clamped to a bound, or refused. -/
inductive Judged where
  | store (v : Nat) | clamp (v : Nat) | refuse
deriving DecidableEq, Repr

/-- The module envelope of a field, from its kind (R9 to R13, R109, R188, R603). -/
def FKind.judge (k : FKind) (v : Nat) : Judged :=
  let x := BitVec.ofNat 32 v
  match k with
  | .raw => .store v
  | .num lo hi => if v < lo then .clamp lo else if hi < v then .clamp hi else .store v
  | .upTo m => if v ≤ m then .store v else .refuse
  | .stream => if v < 80 ∨ v = 127 then .store v else .refuse
  | .f32 => if fNaN? x then .refuse else .store v
  | .f32ge0 => if fNaN? x then .refuse else if fZero? x then .store 0 else if fNeg? x then .refuse else .store v
  | .f32ge0n =>
    if fNaN? x || fSub? x then .refuse else if fZero? x then .store 0 else if fNeg? x then .refuse else .store v
  | .f32gt0 => if fNaN? x || fSub? x || fZero? x || fNeg? x then .refuse else .store v
  | .f32norm => if fNaN? x || fSub? x || fZero? x then .refuse else .store v
  | .f32rng lo hi =>
    if fNaN? x then .refuse
    else if fLt x (BitVec.ofNat 32 lo) then .clamp lo
    else if fLt (BitVec.ofNat 32 hi) x then .clamp hi
    else .store v

/-- A course envelope (R72) on a code of a field. -/
def EnvRec.judge (r : EnvRec) (v : Nat) : Judged :=
  match r.type with
  | 0 => if v < r.min.toNat then .clamp r.min.toNat else if r.max.toNat < v then .clamp r.max.toNat else .store v
  | 1 =>
    let x := signedOf r.width v
    if x < r.min.toInt then .clamp (codeOf r.width r.min.toInt)
    else if r.max.toInt < x then .clamp (codeOf r.width r.max.toInt)
    else .store v
  | 2 =>
    let x := BitVec.ofNat 32 v
    if fNaN? x then .refuse
    else if fLt x r.min then .clamp r.min.toNat
    else if fLt r.max x then .clamp r.max.toNat
    else .store v
  | _ =>
    if v < 32 then (if r.min.getLsbD v then .store v else .refuse)
    else if v < 64 then (if r.max.getLsbD (v - 32) then .store v else .refuse)
    else .refuse

/-- The least dead time of an output (R69, R234): the largest DT_MIN of the interlock pairs that name it. -/
def State.dtMin (s : State) (leg out : Nat) : Nat :=
  s.course.interlocks.foldl (fun m p =>
    if (p.legX = leg ∧ p.outX = out) ∨ (p.legY = leg ∧ p.outY = out) then max m p.dtMin else m) 0

/-- The module envelope of a field, with PERIOD by the MODE of its leg (R219) and the dead times by their pairs (R234). -/
def State.kindOf (s : State) (a : Nat) (r : FRow) : FKind :=
  let n := (a - Reg.PWM.LEG.CFG.addr 0) / 0x80
  if 32 ≤ n then r.kind
  else if a = Reg.PWM.LEG.PERIOD.addr n then
    (match s.get (Reg.PWM.LEG.CFG.MODE n) with
     | 1 => .num 7500 1500000
     | 2 => .num 3750 750000
     | _ => .num 3750 1500000)
  else if a = Reg.PWM.LEG.DT.addr n then
    .num (s.dtMin n (if r.lsb = (Reg.PWM.LEG.DT.DTA n).lsb then 0 else 1)) (2 ^ r.width - 1)
  else r.kind

/-- The envelope record of a field (R72). -/
def State.envOf (s : State) (a lsb : Nat) : Option EnvRec :=
  s.course.env.find? (fun e => e.addr == a && e.lsb == lsb)

/-- What a write of code v to a field does (R9 to R13): the refusals of the module envelope first, then the course's bounds,
else the module's. -/
def State.judge (s : State) (a : Nat) (r : FRow) (v : Nat) : Judged :=
  match (s.kindOf a r).judge v with
  | .refuse => .refuse
  | .store w => (match s.envOf a r.lsb with
    | some e => e.judge w
    | none => .store w)
  | .clamp w => (match s.envOf a r.lsb with
    | some e => (match e.judge w with
      | .store u => .clamp u
      | j => j)
    | none => .clamp w)

/-- Whether a code lies inside its envelope. -/
def Judged.inside : Judged → Bool
  | .store _ => true
  | _ => false

/-- A field that a course record may set or a host write may store (R5, R79). -/
def FRow.writable (r : FRow) : Bool := decide (r.acc = .rw ∨ r.acc = .rwl)

end Sys2Proof.Machine
end

