-- ==== Sys2Proof/Machine/Crypto.lean ====
section
/-! DEFINITION. The engines that the spec names by their standards: SHAKE256 (FIPS 202), the opening of AES-256-GCM (FIPS 197,
SP 800-38D) and the verification of ML-DSA-65 (FIPS 204) (R64, R81, R82, R560, R564). PRESUMED (log entry 3): the standards' text is
outside the spec. -/

namespace Sys2Proof.Machine

/-- Lane (x, y) of a Keccak state of 25 lanes, both modulo 5. -/
def kLane (a : List (BitVec 64)) (x y : Nat) : BitVec 64 := a.getD (x % 5 + 5 * (y % 5)) 0#64

/-- The rotations of step ρ, lane x + 5y. -/
def kRot : List Nat :=
  [0, 1, 62, 28, 27, 36, 44, 6, 55, 20, 3, 10, 43, 25, 39, 41, 45, 15, 21, 8, 18, 2, 61, 56, 14]

/-- The round constants of step ι. -/
def kRound : List (BitVec 64) :=
  [0x0000000000000001#64, 0x0000000000008082#64, 0x800000000000808A#64, 0x8000000080008000#64, 0x000000000000808B#64,
   0x0000000080000001#64, 0x8000000080008081#64, 0x8000000000008009#64] ++
  [0x000000000000008A#64, 0x0000000000000088#64, 0x0000000080008009#64, 0x000000008000000A#64, 0x000000008000808B#64,
   0x800000000000008B#64, 0x8000000000008089#64, 0x8000000000008003#64] ++
  [0x8000000000008002#64, 0x8000000000000080#64, 0x000000000000800A#64, 0x800000008000000A#64, 0x8000000080008081#64,
   0x8000000000008080#64, 0x0000000080000001#64, 0x8000000080008008#64]

/-- Every lane of a Keccak state from its place. -/
def kEach (f : Nat → Nat → BitVec 64) : List (BitVec 64) := (List.range 25).map (fun i => f (i % 5) (i / 5))

/-- One round of Keccak-f[1600]: θ, ρ and π, χ, ι. -/
def kStep (a : List (BitVec 64)) (rc : BitVec 64) : List (BitVec 64) :=
  let c := (List.range 5).map (fun x => (List.range 5).foldl (fun v y => v ^^^ kLane a x y) 0#64)
  let col (x : Nat) : BitVec 64 := c.getD (x % 5) 0#64
  let t := kEach (fun x y => kLane a x y ^^^ col (x + 4) ^^^ (col (x + 1)).rotateLeft 1)
  let b := kEach (fun x y =>
    let u := x + 3 * y
    (kLane t u x).rotateLeft (kRot.getD (u % 5 + 5 * x) 0))
  let r := kEach (fun x y => kLane b x y ^^^ (~~~(kLane b (x + 1) y) &&& kLane b (x + 2) y))
  match r with
  | [] => []
  | l :: rest => (l ^^^ rc) :: rest

/-- Keccak-f[1600]. -/
def keccakF (a : List (BitVec 64)) : List (BitVec 64) := kRound.foldl kStep a

/-- A block of bytes is added to a Keccak state. -/
def kAbsorb (a : List (BitVec 64)) (block : List Byte) : List (BitVec 64) :=
  (List.range 25).map (fun i => a.getD i 0#64 ^^^ BitVec.ofNat 64 (leAt block (8 * i) 8))

/-- n blocks of `rate` bytes are absorbed. -/
def kBlocks (rate : Nat) : Nat → List Byte → List (BitVec 64) → List (BitVec 64)
  | 0, _, a => a
  | n + 1, m, a => kBlocks rate n (m.drop rate) (keccakF (kAbsorb a (m.take rate)))

/-- n blocks of `rate` bytes are squeezed. -/
def kSqueeze (rate : Nat) : Nat → List (BitVec 64) → List Byte
  | 0, _ => []
  | n + 1, a => ((a.map (fun l => leBytes 8 l.toNat)).flatten.take rate) ++ kSqueeze rate n (keccakF a)

/-- SHAKE (FIPS 202) with a rate of 136 bytes for SHAKE256 or 168 for SHAKE128, n bytes of output. -/
def shake (rate n : Nat) (m : List Byte) : List Byte :=
  let gap := rate - m.length % rate
  let pad := if gap = 1 then [0x9F#8] else [0x1F#8] ++ List.replicate (gap - 2) 0#8 ++ [0x80#8]
  let p := m ++ pad
  (kSqueeze rate ((n + rate - 1) / rate) (kBlocks rate (p.length / rate) p (List.replicate 25 0#64))).take n

/-- The first 256 bits of SHAKE256 (R82). -/
def shake256 (m : List Byte) : BitVec 256 := digestOf (shake 136 32 m)

/-- Doubling in the field of AES. -/
def aesDouble (x : Byte) : Byte := if x.getLsbD 7 then (x <<< 1) ^^^ 0x1B#8 else x <<< 1

/-- The product in the field of AES. -/
def aesMul (x y : Byte) : Byte :=
  ((List.range 8).foldl (fun (p : Byte × Byte) i => (if y.getLsbD i then p.1 ^^^ p.2 else p.1, aesDouble p.2)) (0#8, x)).1

/-- The S-box of AES: the inverse x^254 and the affine map. -/
def aesSub (x : Byte) : Byte :=
  let sq (y : Byte) : Byte := aesMul y y
  let x2 := sq x
  let x3 := aesMul x2 x
  let x12 := sq (sq x3)
  let x15 := aesMul x12 x3
  let x240 := sq (sq (sq (sq x15)))
  let v := aesMul (aesMul x240 x12) x2
  v ^^^ v.rotateLeft 1 ^^^ v.rotateLeft 2 ^^^ v.rotateLeft 3 ^^^ v.rotateLeft 4 ^^^ 0x63#8

/-- The exclusive or of two lists of bytes. -/
def xorBytes (a b : List Byte) : List Byte := a.zipWith (· ^^^ ·) b

/-- The next words of the key schedule of AES-256, newest first: n of them, with the round constant. -/
def aesKeyWords : Nat → Nat → Byte → List (List Byte) → List (List Byte)
  | 0, _, _, ws => ws
  | n + 1, i, rc, ws =>
    let t := ws.headD []
    let old := ws.getD 7 []
    let u :=
      if i % 8 = 0 then xorBytes (((t.drop 1) ++ t.take 1).map aesSub) [rc, 0#8, 0#8, 0#8]
      else if i % 8 = 4 then t.map aesSub
      else t
    aesKeyWords n (i + 1) (if i % 8 = 0 then aesDouble rc else rc) (xorBytes old u :: ws)

/-- The 15 round keys of AES-256. -/
def aesKeys (key : List Byte) : List (List Byte) :=
  let first := ((List.range 8).map (fun i => slice key (4 * i) 4)).reverse
  let ws := (aesKeyWords 52 8 1#8 first).reverse
  (List.range 15).map (fun r => ((ws.drop (4 * r)).take 4).flatten)

/-- ShiftRows of a state held column by column. -/
def aesShift (s : List Byte) : List Byte := (List.range 16).map (fun i => s.getD ((i + 4 * (i % 4)) % 16) 0#8)

/-- MixColumns. -/
def aesMix (s : List Byte) : List Byte :=
  (List.range 16).map (fun i =>
    let at_ (k : Nat) : Byte := s.getD (i / 4 * 4 + (i + k) % 4) 0#8
    aesDouble (at_ 0) ^^^ aesMul 3#8 (at_ 1) ^^^ at_ 2 ^^^ at_ 3)

/-- The cipher of AES-256 on a block of 16 bytes. -/
def aesBlock (keys : List (List Byte)) (b : List Byte) : List Byte :=
  let s0 := xorBytes b (keys.headD [])
  let s1 := ((keys.drop 1).take 13).foldl (fun s k => xorBytes (aesMix (aesShift (s.map aesSub))) k) s0
  xorBytes (aesShift (s1.map aesSub)) (keys.getD 14 [])

/-- 16 bytes as a block of GCM, the first byte most significant. -/
def gcmNum (b : List Byte) : BitVec 128 := b.foldl (fun v x => (v <<< 8) ||| x.setWidth 128) 0#128

/-- A block of GCM as 16 bytes. -/
def gcmBytes (v : BitVec 128) : List Byte := (leBytes 16 v.toNat).reverse

/-- The product in the field of GHASH. -/
def gcmMul (x y : BitVec 128) : BitVec 128 :=
  ((List.range 128).foldl (fun (p : BitVec 128 × BitVec 128) i =>
    (if x.getLsbD (127 - i) then p.1 ^^^ p.2 else p.1,
      if p.2.getLsbD 0 then (p.2 >>> 1) ^^^ (0xE1#128 <<< 120) else p.2 >>> 1)) (0#128, y)).1

/-- The blocks of 16 bytes of a list, the last one filled with zeros. -/
def blocks16 (b : List Byte) : List (List Byte) := (List.range ((b.length + 15) / 16)).map (fun i => slice b (16 * i) 16)

/-- AES-256-GCM opening with a 12-byte IV (SP 800-38D): key, IV, ciphertext, tag, additional data; none when the tag fails. -/
def aesGcmOpen (key iv ct tag aad : List Byte) : Option (List Byte) :=
  let keys := aesKeys key
  let h := gcmNum (aesBlock keys (List.replicate 16 0#8))
  let lens := gcmBytes (BitVec.ofNat 128 (aad.length * 8 * 2 ^ 64 + ct.length * 8))
  let s := (blocks16 aad ++ blocks16 ct ++ [lens]).foldl (fun v b => gcmMul (v ^^^ gcmNum b) h) 0#128
  let count (i : Nat) : List Byte := iv.take 12 ++ (leBytes 4 i).reverse
  if xorBytes (gcmBytes s) (aesBlock keys (count 1)) = tag then
    some (xorBytes ct (((List.range ((ct.length + 15) / 16)).map (fun i => aesBlock keys (count (i + 2)))).flatten))
  else none

/-- The modulus of ML-DSA. -/
abbrev mlQ : Nat := 8380417
/-- The range of the low part that Decompose cuts off, 2γ₂. -/
abbrev mlStep : Nat := (mlQ - 1) / 16

/-- The bits of an 8-bit number in reverse order. -/
def brev8 (i : Nat) : Nat := (List.range 8).foldl (fun v k => 2 * v + i / 2 ^ k % 2) 0

/-- A power modulo q, of at most 9 bits of exponent. -/
def mlPow (x e : Nat) : Nat :=
  ((List.range 24).foldl (fun (p : Nat × Nat) k =>
    (if e / 2 ^ k % 2 = 1 then p.1 * p.2 % mlQ else p.1, p.2 * p.2 % mlQ)) (1, x % mlQ)).1

/-- The point at which component j of an NTT is the value of the polynomial (FIPS 204, section 7.5): ζ^brv or its opposite, ζ = 1753. -/
def mlRoot (j : Nat) : Nat := mlPow 1753 (brev8 (128 + j / 2) + 256 * (j % 2))

/-- The NTT of a polynomial of 256 coefficients. -/
def mlNtt (w : List Nat) : List Nat :=
  (List.range 256).map (fun j =>
    let x := mlRoot j
    w.foldr (fun c v => (c + x * v) % mlQ) 0)

/-- The inverse NTT. -/
def mlInv (w : List Nat) : List Nat :=
  let n := mlPow 256 (mlQ - 2)
  let roots := (List.range 256).map (fun j => mlPow (mlRoot j) (mlQ - 2))
  let step (p : List Nat × List Nat) : List Nat × List Nat := (p.1.zipWith (fun a r => a * r % mlQ) roots, (p.1.sum * n % mlQ) :: p.2)
  ((List.range 256).foldl (fun p _ => step p) (w, [])).2.reverse

/-- Sum, difference and product of polynomials in the NTT domain. -/
def mlAdd (a b : List Nat) : List Nat := a.zipWith (fun x y => (x + y) % mlQ) b
/-- See `mlAdd`. -/
def mlSub (a b : List Nat) : List Nat := a.zipWith (fun x y => (x + mlQ - y) % mlQ) b
/-- See `mlAdd`. -/
def mlMul (a b : List Nat) : List Nat := a.zipWith (fun x y => x * y % mlQ) b

/-- The numbers below q among the triples of bytes of a stream (RejNTTPoly, CoeffFromThreeBytes). -/
def mlTriples : List Byte → List Nat
  | a :: b :: c :: r =>
    let z := a.toNat + 256 * b.toNat + 65536 * (c.toNat % 128)
    if z < mlQ then z :: mlTriples r else mlTriples r
  | _ => []

/-- Entry (r, s) of the matrix Â that ρ expands to. -/
def mlMatrix (rho : List Byte) (r s : Nat) : List Nat :=
  (mlTriples (shake 168 894 (rho ++ [BitVec.ofNat 8 s, BitVec.ofNat 8 r]))).take 256

/-- The last steps of SampleInBall on a stream of bytes: coefficient i, and how many signs are used. -/
def mlBall (signs : Nat) : List Byte → Nat → Nat → List Nat → List Nat
  | [], _, _, c => c
  | b :: rest, i, k, c =>
    if 256 ≤ i then c
    else if i < b.toNat then mlBall signs rest i k c
    else mlBall signs rest (i + 1) (k + 1) ((c.set i (c.getD b.toNat 0)).set b.toNat (if signs / 2 ^ k % 2 = 1 then mlQ - 1 else 1))

/-- SampleInBall with τ = 49. -/
def mlChallenge (seed : List Byte) : List Nat :=
  let st := shake 136 272 seed
  mlBall (leAt st 0 8) (st.drop 8) 207 0 (List.replicate 256 0)

/-- Coefficients of n bits each, as SimpleBitUnpack reads them. -/
def mlUnpack (n : Nat) (b : List Byte) : List Nat :=
  let v := leAt b 0 b.length
  (List.range 256).map (fun i => v / 2 ^ (n * i) % 2 ^ n)

/-- The positions of one polynomial's hints among the bytes from `first` to `last` − 1, in rising order; none when they do not rise. -/
def mlHintOne (y : List Byte) (first last : Nat) : Option (List Nat) :=
  let l := ((y.take last).drop first).map (·.toNat)
  if (l.zip (l.drop 1)).all (fun p => decide (p.1 < p.2)) then some l else none

/-- HintBitUnpack with ω = 55 and k = 6. -/
def mlHints (y : List Byte) : Option (List (List Nat)) :=
  let ends := (List.range 6).map (fun i => (y.getD (55 + i) 0#8).toNat)
  let starts := 0 :: ends
  if (starts.zip ends).all (fun p => decide (p.1 ≤ p.2 ∧ p.2 ≤ 55)) ∧ ((y.take 55).drop (ends.getD 5 0)).all (fun b => b == 0#8) then
    (starts.zip ends).mapM (fun p => mlHintOne y p.1 p.2)
  else none

/-- UseHint: the high part of a coefficient, moved by its hint. -/
def mlUseHint (hint : Bool) (r : Nat) : Nat :=
  let low := r % mlStep
  let neg := decide (mlStep / 2 < low)
  let r0 : Int := if neg then (low : Int) - (mlStep : Int) else (low : Int)
  let top := decide ((r : Int) - r0 = (mlQ : Int) - 1)
  let r1 := if top then 0 else (r - low) / mlStep + (if neg then 1 else 0)
  let r0' := if top then r0 - 1 else r0
  if hint then (if 0 < r0' then (r1 + 1) % 16 else (r1 + 15) % 16) else r1

/-- w1Encode of one polynomial: 4 bits a coefficient. -/
def mlEncode (w : List Nat) : List Byte :=
  (List.range 128).map (fun i => BitVec.ofNat 8 (w.getD (2 * i) 0 + 16 * w.getD (2 * i + 1) 0))

/-- The verification of ML-DSA-65, pure, with an empty context (FIPS 204, R560): public key, message, signature. -/
def mldsaVerify (pk m sig : List Byte) : Bool :=
  match mlHints (slice sig 3248 61) with
  | none => false
  | some hints =>
    let rho := pk.take 32
    let seed := sig.take 48
    let zs := (List.range 5).map (fun i => (mlUnpack 20 (slice sig (48 + 640 * i) 640)).map (fun (v : Nat) => (524288 : Int) - (v : Int)))
    let bounded := zs.all (fun z => z.all (fun v => decide (v.natAbs < 524288 - 196)))
    let znt := zs.map (fun z => mlNtt (z.map (fun v => (v % (mlQ : Int)).toNat)))
    let mu := shake 136 64 (shake 136 64 pk ++ [0#8, 0#8] ++ m)
    let c := mlNtt (mlChallenge seed)
    let w1 := (List.range 6).map (fun r =>
      let az := (List.range 5).foldl (fun acc s => mlAdd acc (mlMul (mlMatrix rho r s) (znt.getD s []))) (List.replicate 256 0)
      let t1 := mlNtt ((mlUnpack 10 (slice pk (32 + 320 * r) 320)).map (fun v => v * 8192 % mlQ))
      let w := mlInv (mlSub az (mlMul c t1))
      let h := hints.getD r []
      (List.range 256).map (fun i => mlUseHint (h.contains i) (w.getD i 0)))
    decide (pk.length = 1952 ∧ sig.length = 3309) && bounded && decide (shake 136 48 (mu ++ (w1.map mlEncode).flatten) = seed)

end Sys2Proof.Machine
end

