-- ==== Sys2Proof/Machine/Image.lean ====
section
/-! DEFINITION. The course image, byte by byte: header, directory, sections and signature block (R59 to R82), with the checks of
steps 1 to 6 of R85 as R604 reports them. -/

namespace Sys2Proof.Machine

/-- CODE and SECTION of a failed check (R604). -/
abbrev LoadErr := Nat × Nat

/-- A directory entry (R62). -/
structure DirEntry where
  type : Nat
  flags : Nat
  offset : Nat
  length : Nat
  crc : Nat
deriving DecidableEq, Repr

/-- The directory of an image (R62). -/
def dirOf (img : List Byte) : List DirEntry :=
  (List.range (leAt img 0x18 2)).map (fun i =>
    let b := slice img (0x40 + 16 * i) 16
    ⟨leAt b 0 2, leAt b 2 2, leAt b 4 4, leAt b 8 4, leAt b 12 4⟩)

/-- CRITICAL and ENCRYPTED of an entry (R62). -/
def DirEntry.critical (e : DirEntry) : Bool := decide (e.flags % 2 = 1)
/-- See `DirEntry.critical`. -/
def DirEntry.encrypted (e : DirEntry) : Bool := decide (e.flags / 2 % 2 = 1)

/-- The header checks of step 1 (R60, R61, R604). -/
def headerErr (img : List Byte) : Option LoadErr :=
  if img = [] then some (0x01, 0xFF)
  else if img.take 4 ≠ [0x47#8, 0x51#8, 0x43#8, 0x52#8] then some (0x02, 0xFF)
  else if leAt img 4 2 ≠ 1 ∨ leAt img 0x1C 4 ≠ 0x40 ∨ leAt img 0x18 2 < 2 ∨ 32 < leAt img 0x18 2 ∨
      leAt img 0x1A 2 ≠ 0 ∨ leAt img 0x24 4 ≠ 0 ∨ 2 ≤ leAt img 0x0B 1 then some (0x03, 0xFF)
  else if leAt img 8 2 ≠ 0x6480 ∨ leAt img 0x0A 1 ≠ 0x41 then some (0x04, 0xFF)
  else if 2097152 < leAt img 0x0C 4 ∨ leAt img 0x0C 4 ≠ img.length then some (0x05, 0xFF)
  else none

/-- Where entry i must start: after the directory, or where its forerunner ends (R59, R62). -/
def dirStart (dir : List DirEntry) : Nat → Nat
  | 0 => 0x40 + 16 * dir.length
  | i + 1 => match dir[i]? with
    | some e => e.offset + e.length
    | none => 0

/-- Entry i keeps R62 to R64; the last one ends where the image ends. -/
def entryOk (img : List Byte) (dir : List DirEntry) (i : Nat) (e : DirEntry) : Bool :=
  let last := decide (i + 1 = dir.length)
  (match i with
   | 0 => true
   | k + 1 => decide ((dir[k]?.map (fun p => p.type)).getD 0 < e.type)) &&
  decide (last = decide (e.type = 0xFFFF)) &&
  decide (e.offset = dirStart dir i ∧ e.offset % 8 = 0 ∧ e.length % 8 = 0 ∧ e.flags < 4) &&
  (!e.encrypted || decide (e.type = 9 ∨ e.type = 10)) &&
  (decide (1 ≤ e.type ∧ e.type ≤ 10 ∨ e.type = 0xFFFF) || !e.critical) &&
  (!last || decide (e.offset + e.length = img.length))

/-- The index of the first entry for which a test fails. -/
def firstBad (dir : List DirEntry) (ok : Nat → DirEntry → Bool) : Option Nat :=
  (List.range dir.length).find? (fun i => match dir[i]? with
    | some e => !ok i e
    | none => false)

/-- The directory checks of step 1 (R62 to R64, R604). -/
def dirErr (img : List Byte) (dir : List DirEntry) : Option LoadErr :=
  match firstBad dir (entryOk img dir) with
  | some i => some (0x06, i)
  | none =>
    if (List.range 9).all (fun k => dir.any (fun e => e.type == k + 1)) ∧
        (decide (leAt img 0x0B 1 % 2 = 1)) = dir.any (fun e => e.encrypted) then none
    else some (0x06, 0xFF)

/-- The stored bytes of an entry. -/
def stored (img : List Byte) (e : DirEntry) : List Byte := slice img e.offset e.length

/-- Step 2: the section CRCs (R62). -/
def crcErr (img : List Byte) (dir : List DirEntry) : Option LoadErr :=
  (firstBad dir (fun _ e => (crc32 (stored img e)).toNat == e.crc)).map (fun i => (0x07, i))

/-- The directory index of a section; 0xFF without one. -/
def sectIndex (dir : List DirEntry) (t : Nat) : Nat :=
  ((List.range dir.length).find? (fun i => (dir[i]?.map (fun e => e.type)) == some t)).getD 0xFF

/-- The entry of a section. -/
def sectEntry (dir : List DirEntry) (t : Nat) : Option DirEntry := dir.find? (fun e => e.type == t)

/-- The stored bytes of a section; none without one. -/
def sectBytes (img : List Byte) (dir : List DirEntry) (t : Nat) : List Byte :=
  match sectEntry dir t with
  | some e => stored img e
  | none => []

/-- A signature block is well formed and its signature verifies (R81, R560): the block, the length of the signed bytes, the key
slot allowed and its key, the digest. -/
def sigGood (b : List Byte) (signed slot : Nat) (key : List Byte) (digest : BitVec 256) : Bool :=
  decide (b.length = 3328 ∧ leAt b 0 1 = 1 ∧ leAt b 1 1 = slot ∧ leAt b 2 2 = 0 ∧ leAt b 4 4 = 3309 ∧
    leAt b 8 4 = signed ∧ leAt b 12 4 = 0 ∧ zeros b 3325 3 = true ∧ key ≠ []) &&
  mldsaVerify key (digestBytes digest) (slice b 16 3309)

/-- The digest of the signed bytes of an image (R82, R590). -/
def imageDigest (img : List Byte) (signed : Nat) : BitVec 256 := shake256 (img.take signed)

/-- The offset of the signature block of a course: SIGNED_LEN (R81). -/
def courseSigned (dir : List DirEntry) : Nat := ((sectEntry dir 0xFFFF).map (fun e => e.offset)).getD 0

/-- The plain text of an encrypted section (R64, R564): IV, cipher text, tag, zeros to a multiple of 8; the keys in turn. -/
def openSect (img : List Byte) (e : DirEntry) (keys : List (List Byte)) : Option (List Byte) :=
  let b := stored img e
  let n := e.length - 32
  let aad := img.take 0x40 ++ leBytes 2 e.type
  if e.length < 32 ∨ zeros b (28 + n) 4 = false then none
  else keys.findSome? (fun k => aesGcmOpen k (slice b 0 12) (slice b 12 n) (slice b (12 + n) 16) aad)

/-- The plain bytes of CARVE_PROG or CARVE_MATRIX after step 6; none when decryption fails. -/
def plainSect (img : List Byte) (dir : List DirEntry) (keys : List (List Byte)) (t : Nat) : Option (List Byte) :=
  match sectEntry dir t with
  | none => some []
  | some e => if e.encrypted then openSect img e keys else some (stored img e)

/-- A binary32 or 32-bit field. -/
def wordAt (b : List Byte) (off : Nat) : Word := BitVec.ofNat 32 (leAt b off 4)

/-- The records of a counted list: the count and 4 reserved bytes at `off`, then records of `size` bytes. -/
def recsAt (b : List Byte) (off size : Nat) : List (List Byte) :=
  (List.range (min (leAt b off 4) b.length)).map (fun i => slice b (off + 8 + size * i) size)

/-- A counted list that fills its section: count within bounds, reserved bytes 0, exact length. -/
def countOk (b : List Byte) (off size lo hi : Nat) : Bool :=
  let n := leAt b off 4
  decide (lo ≤ n ∧ n ≤ hi ∧ b.length = off + 8 + size * n) && zeros b (off + 4) 4

/-- A slot record (R65). -/
def slotRecOf (b : List Byte) : SlotRec :=
  { enable := decide (leAt b 0 1 ≠ 0), kind := leAt b 1 1, phases := leAt b 2 1, sets := leAt b 3 1, levels := leAt b 4 1
    topo := leAt b 5 1, polePairs := leAt b 6 1, reverse := leAt b 7 1, omegaX := wordAt b 8, speedMax := wordAt b 12
    vdcMax := wordAt b 16, setShift := wordAt b 20, commut := leAt b 24 1 }

/-- A leg record (R66). -/
def legRecOf (b : List Byte) : LegRec :=
  { slot := leAt b 0 1, function := leAt b 1 1, set := leAt b 2 1, phase := leAt b 3 1, position := leAt b 4 1
    trip := leAt b 5 1 }

/-- A channel record (R67). -/
def chanRecOf (b : List Byte) : ChanRec :=
  { leg := leAt b 0 1 % 32, out := leAt b 0 1 / 32 % 2, unmapped := decide (128 ≤ leAt b 0 1), partner := leAt b 1 1
    cls := leAt b 2 1, sense := leAt b 3 1, vpos := leAt b 4 1, vneg := leAt b 5 1, qg := leAt b 6 2 }

/-- The raw records of TOPOLOGY: slots, legs, channels. -/
def topoSlots (b : List Byte) : List (List Byte) := (List.range 4).map (fun i => slice b (32 * i) 32)
/-- See `topoSlots`. -/
def topoLegs (b : List Byte) : List (List Byte) := (List.range 32).map (fun i => slice b (128 + 8 * i) 8)
/-- See `topoSlots`. -/
def topoChans (b : List Byte) : List (List Byte) := (List.range 64).map (fun i => slice b (384 + 8 * i) 8)

/-- The frames of FABRIC (R71): tile index, reserved field, CRC, payload. -/
def fabricFrames (b : List Byte) : List (Nat × Nat × Nat × List Byte) :=
  (List.range (b.length / 8200)).map (fun i =>
    let f := slice b (8200 * i) 8200
    (leAt f 0 2, leAt f 2 2, leAt f 4 4, slice f 8 8192))

/-- The sections of an image read into a course (R60 to R80); `prog` and `matrix` are the plain sections. -/
def courseOf (img : List Byte) (dir : List DirEntry) (prog matrix : List Byte) : Course :=
  let topo := sectBytes img dir 1
  let fault := sectBytes img dir 6
  let sched := sectBytes img dir 7
  { fmtMinor := leAt img 6 2, fmtMajor := leAt img 4 2, encrypted := dir.any (fun e => e.encrypted)
    secVersion := leAt img 0x10 4, build := leAt img 0x14 4
    courseId := (List.range 4).map (fun i => wordAt img (0x30 + 4 * i))
    digest := imageDigest img (courseSigned dir)
    slots := (topoSlots topo).map slotRecOf, legs := (topoLegs topo).map legRecOf
    chans := (topoChans topo).map chanRecOf
    interlocks := (recsAt topo 896 8).map (fun b =>
      { legX := leAt b 0 1, outX := leAt b 1 1, legY := leAt b 2 1, outY := leAt b 3 1, dtMin := leAt b 4 2 })
    routes := (recsAt (sectBytes img dir 2) 0 8).map (fun b =>
      { srcClass := leAt b 0 1, srcIndex := leAt b 1 1, dstClass := leAt b 2 1, dstIndex := leAt b 3 1
        slot := leAt b 4 1 })
    frames := (fabricFrames (sectBytes img dir 3)).map (fun f => (f.1, BitVec.ofNat 32 f.2.2.1))
    env := (recsAt (sectBytes img dir 4) 0 16).map (fun b =>
      { addr := leAt b 0 4, lsb := leAt b 4 1, width := leAt b 5 1, type := leAt b 6 1, min := wordAt b 8
        max := wordAt b 12 })
    safe := (List.range 4).map (fun i =>
      let b := slice (sectBytes img dir 5) (8 * i) 8
      { below := leAt b 0 1, above := leAt b 1 1, hyst := wordAt b 4 })
    tgMasks := (List.range 16).map (fun g => wordAt fault (4 * g))
    faults := (recsAt fault 64 8).map (fun b =>
      { grp := leAt b 0 1, bit := leAt b 1 1, cls := leAt b 2 1, slots := leAt b 3 1, trip := leAt b 4 1
        flags := leAt b 5 1 })
    tasks := (List.range 8).map (fun t =>
      let b := slice sched (8 * t) 8
      { leg := leAt b 0 1, events := leAt b 1 1, prescale := leAt b 2 1, delay := leAt b 4 2, entry := leAt b 6 2 })
    blockcfg := (recsAt (sectBytes img dir 8) 0 8).map (fun b => (leAt b 0 4, wordAt b 4))
    prog := (recsAt prog 0 8).map (fun b => BitVec.ofNat 64 (leAt b 0 8))
    matrix := (List.range (leAt matrix 0 4 / 4 % 16385)).map (fun i => wordAt matrix (8 + 4 * i)) }

end Sys2Proof.Machine
end

