-- ==== Sys2Proof/Machine/LoadCheck.lean ====
section
/-! DEFINITION. The checks of step 7 of a course load (R84, R607, R54, R73, R77, R79, R118, R156, R167, R255, R262): one check per
section, in directory order. -/

namespace Sys2Proof.Machine

/-- A slot record keeps R65 and R607. -/
def slotRecOk (i : Nat) (b : List Byte) : Bool :=
  let r := slotRecOf b
  decide (leAt b 0 1 ≤ 1) &&
  (if r.enable then
    decide ((r.kind = 1 ∨ r.kind = 0 ∧ i = 0) ∧ (r.phases = 3 ∨ i = 0 ∧ (r.phases = 6 ∨ r.phases = 9 ∨ r.phases = 12)) ∧
      r.sets * 3 = r.phases ∧ (r.levels = 2 ∨ r.levels = 3 ∧ i = 0) ∧ r.topo ≤ 2 ∧ 1 ≤ r.polePairs ∧ r.polePairs ≤ 64 ∧
      r.reverse ≤ 2 ∧ r.commut ≤ 1) && zeros b 25 7
   else zeros b 0 32)

/-- A leg record keeps R66 and R607. -/
def legRecOk (slots : List SlotRec) (b : List Byte) : Bool :=
  let r := legRecOf b
  let used := decide (r.slot < 4) && (slots.getD r.slot {}).enable
  decide ((r.slot < 4 ∨ r.slot = 255) ∧ r.function ≤ 4 ∧ r.set ≤ 3 ∧ r.phase ≤ 2 ∧ r.position ≤ 3 ∧ r.trip ≤ 2) &&
  (decide (r.function < 2) || decide (r.trip ≠ 0)) &&
  (decide (r.function ≠ 1 ∧ r.trip ≠ 0) || used) &&
  (decide (r.function ≠ 0) || decide (r.slot = 255 ∧ r.trip = 1)) && zeros b 6 2

/-- The rails of a channel lie within the limits of its CLASS (R255). -/
def railsOk (r : ChanRec) : Bool :=
  if r.cls < 2 then decide (50 ≤ r.vpos ∧ r.vpos ≤ 100 ∧ r.vneg ≤ 30)
  else decide (30 ≤ r.vpos ∧ r.vpos ≤ 70 ∧ 30 ≤ r.vneg ∧ r.vneg ≤ 80)

/-- Channel n keeps R67, R68 and R255. -/
def chanRecOk (chans : List ChanRec) (n : Nat) (b : List Byte) : Bool :=
  let r := chanRecOf b
  decide (leAt b 0 1 / 64 % 2 = 0 ∧ r.cls ≤ 3 ∧ r.sense < 16 ∧ (n < 32 ∨ r.sense / 2 % 2 = 0) ∧ r.vpos ≤ 100 ∧ r.vneg ≤ 80) &&
  (r.unmapped || railsOk r) &&
  (decide (r.partner = 255) || (decide (r.partner < 64 ∧ r.partner ≠ n) &&
    (let q := chans.getD r.partner {}
     decide (q.partner = n ∧ q.leg = r.leg ∧ q.out = r.out ∧ q.unmapped = r.unmapped ∧ q.cls = r.cls ∧ q.vpos = r.vpos ∧
       q.vneg = r.vneg ∧ q.qg = r.qg))))

/-- The highest switching frequency that the PERIOD envelope of a leg allows, in Hz (R54, R219). DESIGN CHOICE (log entry 100): of a leg that
its course leaves OFF, output A of a chopper or discharge leg still switches under a request (R218, R323), which the spec gives no frequency;
it counts as one pulse per PERIOD of an UP counter. Every other output of an OFF leg stays off. -/
def State.topFreq (s : State) (n out : Nat) : Rat :=
  let a := Reg.PWM.LEG.PERIOD.addr n
  let mode := s.get (Reg.PWM.LEG.CFG.MODE n)
  let least := max (match s.envOf a 0 with | some e => e.min.toNat | none => 0) (if mode = 2 then 3750 else 7500)
  if mode = 2 then 750000000 / (least : Rat)
  else if mode = 1 ∨ (out = 0 ∧ 2 ≤ (s.legRec n).function) then 1500000000 / (least : Rat)
  else 0

/-- The gate power of a channel in W (R54); a paired one carries half the switching power. -/
def State.gatePower (s : State) (r : ChanRec) : Rat :=
  let sw : Rat := (r.qg : Rat) * ((120 + r.vpos + r.vneg : Nat) : Rat) * s.topFreq r.leg r.out / 10000000000
  (if r.partner = 255 then sw else sw / 2) + 1 / 5

/-- Gate power keeps R54. -/
def State.gatePowerOk (s : State) : Bool :=
  let ps := (s.course.chans.filter (fun r => !r.unmapped)).map (fun r => s.gatePower r)
  ps.all (fun p => decide (p ≤ 3)) && decide (ps.foldl (· + ·) 0 ≤ 120)

/-- An interlock record keeps R69 and R262 and names two outputs of mapped legs (R84). -/
def interlockOk (legs : List LegRec) (b : List Byte) : Bool :=
  decide (leAt b 0 1 < 32 ∧ leAt b 1 1 ≤ 1 ∧ leAt b 2 1 < 32 ∧ leAt b 3 1 ≤ 1 ∧ 30 ≤ leAt b 4 2) &&
  decide (leAt b 0 1 ≠ leAt b 2 1 ∨ leAt b 1 1 ≠ leAt b 3 1) &&
  decide ((legs.getD (leAt b 0 1) {}).function ≠ 0 ∧ (legs.getD (leAt b 2 1) {}).function ≠ 0) && zeros b 6 2

/-- TOPOLOGY. -/
def State.topoOk (s : State) (b : List Byte) : Bool :=
  let c := s.course
  countOk b 896 8 0 128 &&
  (List.range 4).all (fun i => slotRecOk i ((topoSlots b).getD i [])) &&
  (topoLegs b).all (fun r => legRecOk c.slots r) &&
  (List.range 64).all (fun n => chanRecOk c.chans n ((topoChans b).getD n [])) &&
  s.gatePowerOk && (recsAt b 896 8).all (fun r => interlockOk c.legs r)

/-- ROUTING (R70). -/
def routingOk (b : List Byte) : Bool :=
  countOk b 0 8 1 1024 && (recsAt b 0 8).all (fun r =>
    decide (1 ≤ leAt r 0 1 ∧ leAt r 0 1 ≤ 0x0B ∧ 0x10 ≤ leAt r 2 1 ∧ leAt r 2 1 ≤ 0x13 ∧ leAt r 4 1 ≤ 3) &&
    (decide (leAt r 2 1 ≠ 0x10) || decide (leAt r 3 1 < 64)) && zeros r 5 3)

/-- FABRIC: whole frames whose reserved bytes are 0 (R71); tiles and CRCs are judged at step 8. -/
def fabricOk (b : List Byte) : Bool :=
  decide (b.length % 8200 = 0 ∧ b.length / 8200 ≤ 128) && (fabricFrames b).all (fun f => f.2.1 == 0)

/-- The bounds of a record are in order in its type (R73). -/
def EnvRec.ordered (e : EnvRec) : Bool :=
  match e.type with
  | 0 => decide (e.min.toNat ≤ e.max.toNat)
  | 1 => decide (e.min.toInt ≤ e.max.toInt)
  | 2 => fFinite? e.min && fFinite? e.max && fLe e.min e.max
  | _ => true

/-- The range of a record lies within the module envelope of its field (R73). -/
def EnvRec.within (e : EnvRec) (k : FKind) (width : Nat) : Bool :=
  let codes := fun m => (List.range 64).all (fun c =>
    !(if c < 32 then e.min.getLsbD c else e.max.getLsbD (c - 32)) || decide (c ≤ m ∧ c < 2 ^ width))
  match k, e.type with
  | .raw, 3 => codes (2 ^ width)
  | .raw, _ => true
  | .num lo hi, 0 => decide (lo ≤ e.min.toNat ∧ e.max.toNat ≤ hi)
  | .num lo hi, 1 => decide ((lo : Int) ≤ e.min.toInt ∧ e.max.toInt ≤ (hi : Int))
  | .num lo hi, 3 => codes hi && (List.range lo).all (fun c =>
      !(if c < 32 then e.min.getLsbD c else if c < 64 then e.max.getLsbD (c - 32) else false))
  | .upTo m, 0 => decide (e.max.toNat ≤ m)
  | .upTo m, 3 => codes m
  | .stream, 0 => decide (e.max.toNat < 80)
  | .stream, 3 => codes 63
  | .f32, 2 => true
  | .f32ge0, 2 => fLe f0 e.min
  | .f32ge0n, 2 => fLe f0 e.min
  | .f32gt0, 2 => fLt f0 e.min
  | .f32norm, 2 => fLt f0 e.min || fLt e.max f0
  | .f32rng lo hi, 2 => fLe (BitVec.ofNat 32 lo) e.min && fLe e.max (BitVec.ofNat 32 hi)
  | _, _ => false

/-- The blocks that take course records (R73, R79): all but RST, INT, HIMET, SVC and HOST. -/
def courseBlock (a : Nat) : Bool :=
  decide (0x40000000 ≤ a ∧ blockOf a ≤ 24) && !([3, 4, 8, 22, 24].contains (blockOf a))

/-- An envelope record keeps R72 and R73. -/
def State.envRecOk (s : State) (e : EnvRec) : Bool :=
  courseBlock e.addr && decide (1 ≤ e.width ∧ e.width ≤ 32 ∧ e.type ≤ 3) && e.ordered &&
  decide ((s.course.env.filter (fun x => x.addr == e.addr && x.lsb == e.lsb)).length ≤ 1) &&
  (rowsAt e.addr).any (fun r => decide (r.acc = .rw ∧ r.lsb = e.lsb ∧ r.width = e.width) &&
    e.within (s.kindOf e.addr r) r.width)

/-- ENVELOPE. -/
def State.envOk (s : State) (b : List Byte) : Bool :=
  countOk b 0 16 0 4096 && (recsAt b 0 16).all (fun r => zeros r 7 1) && s.course.env.all (fun e => s.envRecOk e)

/-- SAFESTATE (R74, R607). -/
def State.safeOk (s : State) (b : List Byte) : Bool :=
  decide (b.length = 32) && (List.range 4).all (fun i =>
    let r := slice b (8 * i) 8
    if (s.slotRec i).enable then
      decide (leAt r 0 1 ≤ 2 ∧ 1 ≤ leAt r 1 1 ∧ leAt r 1 1 ≤ 2) && zeros r 2 2 &&
        fLe f0 (wordAt r 4) && fLe (wordAt r 4) 0x43FA0000#32
    else zeros r 0 8)

/-- FAULTGROUP (R76, R77, R330). -/
def State.faultsOk (s : State) (b : List Byte) : Bool :=
  decide (64 ≤ b.length) && countOk b 64 8 0 2048 && (recsAt b 64 8).all (fun r =>
    decide (leAt r 0 1 ≤ 47 ∧ leAt r 1 1 ≤ 31 ∧ leAt r 2 1 ≤ 4 ∧ leAt r 3 1 < 16 ∧
      (leAt r 4 1 ≤ 15 ∨ leAt r 4 1 = 255) ∧ leAt r 5 1 ≤ 1) && zeros r 6 2 &&
    decide (s.defaultClass ⟨leAt r 0 1, leAt r 1 1⟩ ≤ leAt r 2 1))

/-- SCHEDULE (R78, R84): every record keeps its ranges, that of an unused task too. -/
def scheduleOk (b : List Byte) : Bool :=
  decide (b.length = 64) && (List.range 8).all (fun t =>
    let r := slice b (8 * t) 8
    zeros r 3 1 && decide ((leAt r 0 1 < 32 ∨ leAt r 0 1 = 255) ∧ leAt r 1 1 < 64 ∧ 1 ≤ leAt r 2 1 ∧ leAt r 2 1 ≤ 16 ∧
      leAt r 6 2 < 4096))

/-- A register that a BLOCKCFG record may target (R79): implemented, with an rw or rwl field, and no command register. -/
def cfgTarget (a : Nat) : Bool :=
  courseBlock a && (rowsAt a).any (fun r => r.writable) &&
    (rowsAt a).all (fun r => decide (r.acc ≠ .wo ∧ r.acc ≠ .w1s ∧ r.acc ≠ .w1c))

/-- Every field of a BLOCKCFG value lies inside its envelope (R84). -/
def State.cfgValueOk (s : State) (a : Nat) (x : Word) : Bool :=
  (rowsAt a).all (fun r => !r.writable || (s.judge a r (getBits x r.lsb r.width)).inside)

/-- FAILOVER acts only between two filters that name each other, lock to one TASK and run LOCKED or NOTCH (R118). -/
def State.failoverOk (s : State) : Bool :=
  (List.range 48).all (fun n =>
    let p := s.get (Reg.SDM.F.PAIR.PARTNER n)
    let locked := fun k => decide (s.get (Reg.SDM.F.CFG.MODE k) = 1 ∨ s.get (Reg.SDM.F.CFG.MODE k) = 2)
    !s.flag (Reg.SDM.F.PAIR.FAILOVER n) ||
      (decide (p < 48 ∧ p ≠ n ∧ s.get (Reg.SDM.F.PAIR.PARTNER p) = n ∧
        s.get (Reg.SDM.F.CFG.TASK p) = s.get (Reg.SDM.F.CFG.TASK n)) && locked n && locked p))

/-- At most one position channel serves a slot (R156). -/
def State.servingOk (s : State) : Bool :=
  (List.range 4).all (fun i => decide ((((List.range 4).filter (fun k =>
    !s.flag (Reg.POS.CH.CFG.NOSLOT k) && decide (s.get (Reg.POS.CH.CFG.SLOT k) = i))).length) ≤ 1))

/-- BLOCKCFG (R79, R84, R118, R156). -/
def State.blockcfgOk (s : State) (b : List Byte) : Bool :=
  countOk b 0 8 0 8192 && s.course.blockcfg.all (fun r => cfgTarget r.1 && s.cfgValueOk r.1 r.2) && s.failoverOk && s.servingOk

/-- CARVE_PROG (R80, R167). -/
def progOk (c : Course) (b : List Byte) : Bool :=
  countOk b 0 8 1 4096 && c.prog.all (fun w => progWordOk c.prog.length w)

/-- CARVE_MATRIX (R80); a course without the section passes. -/
def matrixOk (present : Bool) (b : List Byte) : Bool :=
  !present || (decide (leAt b 0 4 ≤ 65536 ∧ leAt b 0 4 % 8 = 0 ∧ b.length = 8 + leAt b 0 4) && zeros b 4 4)

/-- The registers as a list of BLOCKCFG records sets them: rw and rwl fields, and MOD_DIV of CLK.CTRL (R25, R79). -/
def State.cfgWrite (s : State) (r : Nat × Word) : State :=
  let w := (rowsAt r.1).foldl (fun w f =>
    if f.writable || decide (r.1 = Reg.CLK.CTRL.addr ∧ f.lsb = 8) then setBits w f.lsb f.width (getBits r.2 f.lsb f.width)
    else w) (s.rd r.1)
  s.wr r.1 w

/-- The state in which a course is judged: nothing but the course and its registers. -/
def judgeState (c : Course) : State :=
  c.blockcfg.foldl State.cfgWrite { State.reset with course := c }

/-- The sections and their checks in directory order (R84, R604). -/
def sectionChecks (img : List Byte) (dir : List DirEntry) (prog matrix : List Byte) (c : Course) : List (Nat × Bool) :=
  let s := judgeState c
  [(1, s.topoOk (sectBytes img dir 1)), (2, routingOk (sectBytes img dir 2)), (3, fabricOk (sectBytes img dir 3)),
   (4, s.envOk (sectBytes img dir 4)), (5, s.safeOk (sectBytes img dir 5)), (6, s.faultsOk (sectBytes img dir 6)),
   (7, scheduleOk (sectBytes img dir 7)), (8, s.blockcfgOk (sectBytes img dir 8)), (9, progOk c prog),
   (10, matrixOk (sectEntry dir 10).isSome matrix)]

/-- Step 7: the section that holds the first failing field (R604). -/
def semanticErr (img : List Byte) (dir : List DirEntry) (prog matrix : List Byte) (c : Course) : Option LoadErr :=
  ((sectionChecks img dir prog matrix c).find? (fun x => !x.2)).map (fun x => (0x0B, sectIndex dir x.1))

/-- Tile indexes of the frames rise and lie below 128 (R71). -/
def tilesRise : Option Nat → List Nat → Bool
  | _, [] => true
  | none, t :: r => decide (t < 128) && tilesRise (some t) r
  | some p, t :: r => decide (t < 128 ∧ p < t) && tilesRise (some t) r

/-- Step 8: tiles and payload CRCs of the frames (R71, R604). -/
def fabricErr (img : List Byte) (dir : List DirEntry) : Option LoadErr :=
  let fs := fabricFrames (sectBytes img dir 3)
  if tilesRise none (fs.map (fun f => f.1)) && fs.all (fun f => (crc32 f.2.2.2).toNat == f.2.2.1) then none
  else some (0x0C, sectIndex dir 3)

/-- What a course load needs of Himet (R561, R564, R565): the key slot allowed, its key, the course keys in the order of trial, the
course counter. -/
structure Trust where
  slot : Nat
  key : List Byte
  keys : List (List Byte)
  floor : Nat

/-- A course image verified and checked: steps 1 to 8 of R85 in their order, steps 1 to 7 alone at staging (R592). -/
def loadImage (t : Trust) (staging : Bool) (img : List Byte) : Except LoadErr Course :=
  let dir := dirOf img
  match headerErr img with
  | some e => .error e
  | none => match dirErr img dir with
    | some e => .error e
    | none => match crcErr img dir with
      | some e => .error e
      | none =>
        let signed := courseSigned dir
        if !sigGood (sectBytes img dir 0xFFFF) signed t.slot t.key (imageDigest img signed) then
          .error (0x08, sectIndex dir 0xFFFF)
        else if leAt img 0x10 4 < t.floor then .error (0x09, 0xFF)
        else match plainSect img dir t.keys 9, plainSect img dir t.keys 10 with
          | none, _ => .error (0x0A, sectIndex dir 9)
          | _, none => .error (0x0A, sectIndex dir 10)
          | some p, some m =>
            let c := courseOf img dir p m
            match semanticErr img dir p m c with
            | some e => .error e
            | none => match (if staging then none else fabricErr img dir) with
              | some e => .error e
              | none => .ok c

end Sys2Proof.Machine
end

