-- ==== Sys2Proof/Machine/Piste.lean ====
section
/-! DEFINITION. The fabric and the course: load at L5, BLOCKCFG and locks, parameter words, fingerprint, scrub, repair, readback and
envelope queries (R25, R85 to R97, R177, R520, R608). -/

namespace Sys2Proof.Machine

/-- A cause of the PISTE group (R98). -/
def pisteCause (b : Nat) : Cause := ⟨7, b⟩

/-- What Himet accepts of a course or a parameter set (R557, R561, R564, R565): slot 3 while OWNED, slot 1 while UNOWNED. -/
def State.trust (s : State) (counter : Fin 3) : Trust :=
  let st := s.himet.store
  { slot := if st.owned then 3 else 1, key := if st.owned then st.owner else slice (Config.rootKey 1) 0 1952
    keys := [st.ckCur, st.ckPrev].filterMap id, floor := (st.ctr[counter]).toNat }

/-- The LOCK register of a block that has one. -/
def lockAddr (b : Nat) : Option Nat :=
  if [2, 5, 7, 10, 12, 13, 14, 15, 16, 17, 18, 19, 20, 21, 23].contains b then some (0x40000000 + b * 0x10000) else none

/-- A load transfer of PWM leg n (R608): the shadows that the records wrote become active and are marked written no more. -/
def State.loadShadows (s : State) (n : Fin 32) : State :=
  let wrote (a : Nat) : Bool := s.course.blockcfg.any (fun r => r.1 == a)
  let s1 := (List.range 7).foldl (fun t i => if wrote (shadowAddr n.val i) then
    (t.wr (Reg.PWM.LEG.ACT.addr n.val i) (t.rd (shadowAddr n.val i))).setLeg n
      { t.leg n with written := (t.leg n).written &&& ~~~(1#7 <<< i) } else t) s
  if wrote (Reg.PWM.LEG.IDLE.addr n.val) then
    (s1.put (Reg.PWM.LEG.IDLE.ACTIVE n.val) (s1.get (Reg.PWM.LEG.IDLE.val n.val))).setLeg n { s1.leg n with writtenIdle := false }
  else s1

/-- What a write to ENV_LSB looks up (R97): the record of ENV_ADDR and that bit. -/
def State.envQuery (s : State) : State :=
  match s.envOf (s.rd Reg.PISTE.ENV_ADDR.addr).toNat (s.get Reg.PISTE.ENV_LSB.LSB) with
  | some e =>
    let s2 := ((s.put Reg.PISTE.ENV_INFO.FOUND 1).put Reg.PISTE.ENV_INFO.TYPE e.type).put Reg.PISTE.ENV_INFO.WIDTH e.width
    (s2.wr Reg.PISTE.ENV_MIN.addr e.min).wr Reg.PISTE.ENV_MAX.addr e.max
  | none => ((s.wr Reg.PISTE.ENV_INFO.addr 0#32).wr Reg.PISTE.ENV_MIN.addr 0#32).wr Reg.PISTE.ENV_MAX.addr 0#32

/-- The ENVELOPE cause of the block of an address (R10, R11); the blocks that have none set none. -/
def State.envelope (s : State) (a : Nat) : State :=
  match blockOf a with
  | 2 => s.raise ⟨42, 9⟩
  | 5 => s.raise ⟨0, 11⟩
  | 7 => s.raise ⟨5, 11⟩
  | 10 => s.raise ⟨3, 17⟩
  | 11 => s.edgeDetail (edgeIdx ((a - Reg.EDGE.CH.CFG.addr 0) / 0x400)) 17 .real
  | 12 => s.raise ⟨21, 21⟩
  | 13 => s.raise ⟨23, 21⟩
  | 14 => s.raise ⟨24 + (a - Reg.POS.CH.CFG.addr 0) / 0x100 % 4, 18⟩
  | 15 => (List.range 4).foldl (fun t i => t.raise ⟨28 + i, 5⟩) s
  | 16 => s.raise ⟨32, 20⟩
  | 17 => s.raise ⟨33, 16⟩
  | 18 => match elemOf (a / 0x80 * 0x80) (Reg.DRIVE.SLOT.CFG.addr 0) 0x80 4 with
    | some i => s.raise ⟨34 + i, 12⟩
    | none => s.raise ⟨34, 12⟩
  | 19 => s.raise ⟨38, 14⟩
  | 20 => s.raise ⟨39, 14⟩
  | 21 => s.raise ⟨40, 8⟩
  | 23 => s.raise ⟨44, 11⟩
  | _ => s

/-- What a rule on several fields together makes of a write that the envelopes let pass: it is stored, it changes nothing and sets
ENVELOPE, or it changes nothing and sets another cause. -/
inductive Joint where
  | ok | envelope | other (c : Cause)
deriving DecidableEq, Repr

/-- Keep, or refuse with ENVELOPE. -/
def jointIf (b : Bool) : Joint := if b then .ok else .envelope

/-- The order of the DC-link thresholds (R122). -/
def State.sdmOrder (t : State) : Bool :=
  let u1 := t.get Reg.SDM.DCL_UV.UV_TRIP
  let u2 := t.get Reg.SDM.DCL_UV.UV_WARN
  let o1 := t.get Reg.SDM.DCL_OV0.OV_LIM
  let o2 := t.get Reg.SDM.DCL_OV0.OV_CHOP
  let o3 := t.get Reg.SDM.DCL_OV1.OV_TRIP2
  let o4 := t.get Reg.SDM.DCL_OV1.OV_TRIP3
  decide (u1 ≤ u2 ∧ u2 ≤ o1 ∧ o1 ≤ o2 ∧ o2 ≤ o3 ∧ o3 ≤ o4)

/-- A soft limit of an interface as a signed 48-bit number (R151). -/
def softOf (lo hi : Nat) : Int := signedOf 48 (lo + hi * 2 ^ 32)

/-- The rules of a CAN controller on its bit times (R515, R516), on the registers as they would stand. -/
def State.canTimes (t : State) (c : Nat) : Bool :=
  let n (f : Nat → Fld) : Nat := t.get (f c)
  let nominal := (n Reg.CAN.NBT.NTSEG1 + n Reg.CAN.NBT.NTSEG2 + 3) * (n Reg.CAN.NBT.NBRP + 1)
  let data := (n Reg.CAN.DBT.DTSEG1 + n Reg.CAN.DBT.DTSEG2 + 3) * (n Reg.CAN.DBT.DBRP + 1)
  decide (n Reg.CAN.NBT.NSJW ≤ n Reg.CAN.NBT.NTSEG2 ∧ n Reg.CAN.DBT.DSJW ≤ n Reg.CAN.DBT.DTSEG2 ∧ data ≤ nominal ∧
    (n Reg.CAN.DBT.TDC_EN = 0 ∨ n Reg.CAN.DBT.DBRP ≤ 1))

/-- PERIOD and REPORT_HOP of Folis (R499). -/
def State.cycleOk (t : State) : Bool :=
  let p := t.get Reg.NET.FOLIS.CYCLE.PERIOD
  [250, 500, 1000, 2000, 2500, 5000, 10000].contains p &&
    decide (2 * (t.get Reg.NET.FOLIS.CYCLE.DEPTH_MAX * t.get Reg.NET.FOLIS.CYCLE.REPORT_HOP) ≤ p)

/-- The rules on several fields (R122, R159, R285, R324, R348, R415, R499, R515, R516, R606), judged on the state `t` that the write
would leave. -/
def State.joint (t : State) (a : Nat) : Joint :=
  match blockOf a with
  | 2 => jointIf (decide (a ≠ Reg.TIME.ARG.addr 2) || decide ((t.rd a).toNat < 1000000000))
  | 11 =>
    match elemOf a (Reg.EDGE.CH.PROT0.addr 0) 0x400 64 with
    | some n => jointIf (decide (t.get (Reg.EDGE.CH.PROT0.OC n) ≤ t.get (Reg.EDGE.CH.PROT0.SC_HARD n)))
    | none => match elemOf a (Reg.EDGE.CH.PROT2.addr 0) 0x400 64 with
      | some n => jointIf (decide (t.get (Reg.EDGE.CH.PROT2.OT_TRIP n) ≤ t.get (Reg.EDGE.CH.PROT2.OT_WARN n)))
      | none => .ok
  | 12 =>
    if [Reg.SDM.DCL_OV0.addr, Reg.SDM.DCL_OV1.addr, Reg.SDM.DCL_UV.addr].contains a && !t.sdmOrder then .other ⟨22, 9⟩ else .ok
  | 13 =>
    match elemOf a (Reg.HKA.TRK.LIM.addr 0) 0x40 64 with
    | some k => jointIf (decide (t.get (Reg.HKA.TRK.LIM.LO k) ≤ t.get (Reg.HKA.TRK.LIM.HI k)))
    | none => .ok
  | 14 =>
    let k := (a - Reg.POS.CH.CFG.addr 0) / 0x100
    if [Reg.POS.CH.SOFT_MIN_LO.addr k, Reg.POS.CH.SOFT_MIN_HI.addr k, Reg.POS.CH.SOFT_MAX_LO.addr k,
        Reg.POS.CH.SOFT_MAX_HI.addr k].contains a then
      jointIf (decide (softOf (t.get (Reg.POS.CH.SOFT_MIN_LO.LO k)) (t.get (Reg.POS.CH.SOFT_MIN_HI.HI k)) ≤
        softOf (t.get (Reg.POS.CH.SOFT_MAX_LO.LO k)) (t.get (Reg.POS.CH.SOFT_MAX_HI.HI k))))
    else .ok
  | 18 =>
    if a = Reg.DRIVE.CHOP_THR.addr then jointIf (decide (t.get Reg.DRIVE.CHOP_THR.DV ≤ t.get Reg.DRIVE.CHOP_THR.HYS))
    else if a = Reg.DRIVE.CHG.VWIN.addr then jointIf (decide (t.get Reg.DRIVE.CHG.VWIN.VMIN ≤ t.get Reg.DRIVE.CHG.VWIN.VMAX))
    else if a = Reg.DRIVE.CHG.FWIN.addr then jointIf (decide (t.get Reg.DRIVE.CHG.FWIN.FMIN ≤ t.get Reg.DRIVE.CHG.FWIN.FMAX))
    else .ok
  | 19 => jointIf (!([Reg.CAN.NBT.addr 0, Reg.CAN.DBT.addr 0].contains a) || t.canTimes 0)
  | 20 => jointIf (!([Reg.CAN.NBT.addr 1, Reg.CAN.DBT.addr 1].contains a) || t.canTimes 1)
  | 21 =>
    if a = Reg.NET.FOLIS.ACT.addr 2 then jointIf (decide ((t.rd a).toNat < 1000000000))
    else if a = Reg.NET.FOLIS.CYCLE.addr then jointIf t.cycleOk
    else match elemOf a (Reg.NET.PORT.QBV_BASE_NS.addr 0) 0x40 3 with
      | some p => jointIf (decide (t.get (Reg.NET.PORT.QBV_BASE_NS.NS p) < 1000000000))
      | none => .ok
  | _ => .ok

/-- A BLOCKCFG record is written (R79): a rule on several fields refuses it as it refuses a host write (R122, R285); a write to ENV_LSB starts
its query (R96, R97). -/
def State.cfgRecord (s : State) (r : Nat × Word) : State :=
  let s1 := s.cfgWrite r
  match s1.joint r.1 with
  | .envelope => s.envelope r.1
  | .other c => s.raise c
  | .ok => if r.1 = Reg.PISTE.ENV_LSB.addr then s1.envQuery else s1

/-- The BLOCKCFG records of a block are written in their order, and its LOCK is set (R79, R88); for PWM with the load transfer of
R608, for CAN with INIT forced to 1 (R520). -/
def State.applyBlock (s : State) (b : Nat) : State :=
  let s1 := (s.course.blockcfg.filter (fun r => blockOf r.1 == b)).foldl State.cfgRecord s
  let s2 := if b = 10 then (List.finRange 16).foldl (fun t i => t.tripInEval i) ((List.finRange 32).foldl (fun t n => t.loadShadows n) s1)
    else if b = 19 ∨ b = 20 then s1.put (Reg.CAN.CTRL.INIT (b - 19)) 1
    else if b = 12 then s.sdmEnabled s1
    else if b = 13 then s1.hkaPower
    else s1
  match lockAddr b with
  | some a => s2.put ⟨a, 0, 1⟩ 1
  | none => s2

/-- The BLOCKCFG records of every block (R25, R79): MOD_DIV first. -/
def State.applyAll (s : State) : State :=
  let m := (s.course.blockcfg.find? (fun r => r.1 == Reg.CLK.CTRL.addr)).map (fun r => getBits r.2 8 1)
  (List.range 25).foldl (fun t b => t.applyBlock b) (s.put Reg.CLK.CTRL.MOD_DIV (m.getD 0))

/-- The records of a parameter set (R589): word and value. -/
def paramRecs (img : List Byte) : List (Nat × Word) :=
  (List.range (min (leAt img 8 4) 256)).map (fun i => (leAt img (64 + 8 * i) 2, wordAt img (64 + 8 * i + 4)))

/-- SIGNED_LEN of a parameter set (R589). -/
def paramSigned (img : List Byte) : Nat := 64 + 8 * leAt img 8 4

/-- The parameter set in force (R177, R561, R596): the migrated one where there is one, else the running bank's; none when it has
failed its verification. -/
def State.paramSet (s : State) : List Byte :=
  let b := s.svc.banks[s.svc.running]
  if s.svc.paramBad then []
  else if s.svc.migrated ≠ [] then s.svc.migrated else b.migrated.getD b.params

/-- Every parameter word is loaded from the parameter set; a word absent from it is 0.0 (R177). -/
def State.loadParams (s : State) : State :=
  let s1 := (List.range 256).foldl (fun t k => t.wr (Reg.CARVE.PARAM.addr k) 0#32) s
  (paramRecs s.paramSet).foldl (fun t r => if r.1 < 256 then t.wr (Reg.CARVE.PARAM.addr r.1) r.2 else t) s1

/-- Carve's matrix memory from the section, 0.0 beyond it (R80, R162). -/
def State.loadMatrix (s : State) : State :=
  let m := ((List.range s.course.matrix.length).foldl (fun c i => cellSet (fun _ => 0#32) c i (s.course.matrix.getD i 0#32)) [])
  { s with carve := { s.carve with matrix := m } }

/-- Carve's program and matrix memories (R80, R85); Carve is released with them. -/
def State.loadCarve (s : State) : State :=
  State.loadMatrix { s with carve := { s.carve with prog := s.course.prog, released := true } }

/-- A digest shown in eight registers. -/
def State.putDigest (s : State) (addr : Nat) (d : BitVec 256) : State :=
  (List.range 8).foldl (fun t i => t.wr (addr + 4 * i) (digestWord d i)) s

/-- The digest that eight registers show. -/
def State.readDigest (s : State) (addr : Nat) : BitVec 256 :=
  digestOf ((List.range 8).flatMap (fun i => leBytes 4 (s.rd (addr + 4 * i)).toNat))

/-- A device fingerprint from the digests of firmware, course and parameter set (R95, R590). -/
def fingerprintOf (fw course param : BitVec 256) : BitVec 256 :=
  shake256 ([0x47#8, 0x51#8, 0x46#8, 0x50#8] ++ digestBytes fw ++ digestBytes course ++ digestBytes param)

/-- The fingerprint of the module is computed (R95). -/
def State.fingerprint (s : State) : State :=
  s.putDigest (Reg.PISTE.FPRINT.addr 0) (fingerprintOf (s.readDigest (Reg.SVC.FWDIGEST.addr 0))
    (s.readDigest (Reg.PISTE.CDIGEST.addr 0)) (s.readDigest (Reg.SVC.PDIGEST.addr 0)))

/-- A scrub pass has been counted (R89, R96). -/
def State.passed (s : State) : State := s.bumpWrap Reg.PISTE.SCRUB_CNT.PASSES

/-- The fabric as the Groomer record leaves it (R442): tiles served by spares stay so, failed spares stay out, and a replacement that
the reset interrupted starts again. -/
def State.freshFabric (s : State) : State :=
  (List.range 4).foldl State.showSpares { s with piste := { replaced := s.groom.live.tiles, repairs := s.piste.repairs } }

/-- A failed load (R86): no course and no edge domain powered, FAILED with its code, COURSE_FAIL; the spare lane is not loaded (R363). DESIGN CHOICE (log entry 66): after a
warm swap FMT, SEC_VERSION, BUILD, COURSE_ID, CDIGEST, FPRINT, TILES_USED and ENCRYPTED keep what the course before showed; the spec
says only what they show of a loaded course. -/
def State.loadFailed (s : State) (e : LoadErr) : State :=
  let s1 := State.freshFabric { s with
    course := {}, edges := s.edges.map (fun x => { wear := x.wear, latch := x.latch }) }
  let s2 := ((s1.put Reg.PISTE.STATUS.STATE 4).put Reg.PISTE.LOAD_STATUS.CODE e.1).put Reg.PISTE.LOAD_STATUS.SECTION e.2
  (s2.put Reg.TRIAD.STATUS.SPARE_READY 0).raise (pisteCause 6)

/-- The registers that describe a loaded course (R96). -/
def State.showCourse (s : State) (c : Course) : State :=
  let s1 := ((s.put Reg.PISTE.STATUS.STATE 3).put Reg.PISTE.STATUS.ENCRYPTED (b2n c.encrypted)).put
    Reg.PISTE.STATUS.TILES_USED c.frames.length
  let s2 := (s1.put Reg.PISTE.LOAD_STATUS.CODE 0).put Reg.PISTE.LOAD_STATUS.SECTION 0xFF
  let s3 := ((s2.put Reg.PISTE.FMT.MINOR c.fmtMinor).put Reg.PISTE.FMT.MAJOR c.fmtMajor).wr
    Reg.PISTE.SEC_VERSION.addr (BitVec.ofNat 32 c.secVersion)
  let s4 := s3.wr Reg.PISTE.BUILD.addr (BitVec.ofNat 32 c.build)
  let s5 := (List.range 4).foldl (fun t i => t.wr (Reg.PISTE.COURSE_ID.addr i) (c.courseId.getD i 0#32)) s4
  s5.putDigest (Reg.PISTE.CDIGEST.addr 0) c.digest

/-- A tile of a lane that the scrubber reads (R89): configured, or a spare in use. -/
def State.tileUsed (s : State) (lane tile : Nat) : Bool :=
  !s.piste.replaced.any (fun r => r.lane == lane && r.tile == tile) &&
    (if tile < 128 then s.course.frames.any (fun f => f.1 == tile)
     else s.piste.replaced.any (fun r => r.lane == lane && r.spare == tile))

/-- A tile is declared failed (R90 to R92, R441): a spare of its lane is loaded to run beside it; with none left, or while another
bring-in of a tile or a test of the lane's spares runs (R445), the lane is reported beyond repair. DESIGN CHOICE (log entry 67): of the free spares the one with the lowest number
serves; the spec names none. -/
def State.tileFailed (s : State) (lane tile : Nat) : State :=
  match s.freeSpares lane with
  | [] =>
    let s1 := (s.raise (pisteCause 2)).spareOut
    State.beyondRepair { s1 with piste := { s1.piste with beyond := s1.piste.beyond ++ [lane] } } lane
  | k :: _ =>
    let busy := !s.piste.repairs.isEmpty || s.underTest (0x60 + lane)
    let s1 := State.showSpares { s with
      piste := { s.piste with repairs := s.piste.repairs ++ [{ unit := ⟨lane, tile, k⟩ }] } } lane
    if busy then State.beyondRepair (s1.raise (pisteCause 2)) lane else s1

/-- The key of a tile's run of mismatching passes. -/
def tileKey (lane tile : Nat) : Nat := lane * 256 + tile

/-- The scrubber finds a tile that differs from its golden frame (R90): in the third pass in a row it is failed, else the golden frame
goes into its standby copy and waits for the swap. -/
def State.mismatch (s : State) (lane tile : Nat) : State :=
  let p := s.piste
  if p.repairs.any (fun r => r.unit.lane == lane && r.unit.tile == tile) || !s.tileUsed lane tile then s
  else
    let n := (cellGet (fun _ => 0#8) p.runs (tileKey lane tile)).toNat + 1
    let s1 := { s with piste := { p with runs := cellSet (fun _ => 0#8) p.runs (tileKey lane tile) (BitVec.ofNat 8 n) } }
    if 3 ≤ n then s1.tileFailed lane tile
    else { s1 with piste := { s1.piste with swaps := s1.piste.swaps ++ [(lane, tile)] } }

/-- A pass over the tiles with the given mismatches (R89, R90): the runs of all other tiles end. -/
def State.scrub (s : State) (bad : List (Fin 4 × Fin 136)) : State :=
  let keys := bad.map (fun p => tileKey p.1.val p.2.val)
  let s1 := { s with piste := { s.piste with runs := s.piste.runs.filter (fun r => keys.contains r.1) } }
  (bad.foldl (fun t p => t.mismatch p.1.val p.2.val) s1).passed

/-- The course of the running bank is loaded (R85): verified and checked, then fabric, Carve memories, BLOCKCFG, parameter words,
the first scrub pass with the tiles that differed in it (step 10), and the fingerprint. DESIGN CHOICE (log entry 66): a load that fails computes
no fingerprint; R95 does not say what a module without a course shows. -/
def State.loadCourse (s : State) (bad : List (Fin 4 × Fin 136)) : State :=
  match loadImage (s.trust 1) false (s.svc.banks[s.svc.running]).course with
  | .error e => s.loadFailed e
  | .ok c =>
    let s1 := State.loadCarve (State.freshFabric { s with course := c })
    State.fingerprint ((s1.applyAll.loadParams.showCourse c).scrub bad)

/-- SCRUB_PASS (R89, R90): a pass ends with the tiles that differed. -/
def execScrubPass (bad : List (Fin 4 × Fin 136)) (s : State) : Host.Outcome State Fault Refusal :=
  if s.courseActive then .next (s.scrub bad) else .next s

/-- The lane and tile of the last fix or repair (R96). -/
def State.scrubLast (s : State) (lane tile : Nat) : State :=
  (s.put Reg.PISTE.SCRUB_LAST.LANE lane).put Reg.PISTE.SCRUB_LAST.TILE tile

/-- TILE_SWAP (R90): the copies of a tile are swapped and the tile is read again; a match is a fix. -/
def execTileSwap (lane : Fin 4) (tile : Fin 136) (good : Bool) (s : State) : Host.Outcome State Fault Refusal :=
  if s.piste.swaps.contains (lane.val, tile.val) then
    let s1 := { s with piste := { s.piste with swaps := s.piste.swaps.erase (lane.val, tile.val) } }
    if good then .next (((s1.bump Reg.PISTE.SCRUB_CNT.FIXES).scrubLast lane.val tile.val).raise (pisteCause 0))
    else .next (s1.tileFailed lane.val tile.val)
  else .next s

/-- A replacement in the odd lane is suspended until rejoin (R359), and one that needs a spare under test until the test ends (R445). -/
def State.repairHeld (s : State) (r : TileRepair) : Bool :=
  (decide (s.laneMode = 1) && decide (s.get Reg.TRIAD.STATUS.ODD = r.unit.lane)) || s.underTest (0x60 + r.unit.lane)

/-- TILE_COMPARE_RUN_END (R91): of the replacement under way, the first in line (R441). -/
def execTileCompareRunEnd (s : State) : Host.Outcome State Fault Refusal :=
  match s.piste.repairs with
  | r :: rest =>
    if s.repairHeld r then .next s else .next { s with piste := { s.piste with repairs := { r with compared := true } :: rest } }
  | [] => .next s

/-- TILE_REPAIR (R91, R441, R442): the compared spare takes over. DESIGN CHOICE (log entry 68): SCRUB_LAST.TILE names the failed tile, not the
spare. -/
def execTileRepair (s : State) : Host.Outcome State Fault Refusal :=
  match s.piste.repairs with
  | r :: rest =>
    if r.compared && !s.repairHeld r then
      let g := s.groom.live
      let s1 := { s with
        piste := { s.piste with repairs := rest, replaced := s.piste.replaced ++ [r.unit] }
        groom := { s.groom with live := { g with tiles := g.tiles ++ [r.unit] } } }
      .next (((s1.scrubLast r.unit.lane r.unit.tile).raise (pisteCause 1)).broughtIn (s1.freeSpares r.unit.lane).length)
    else .next s
  | [] => .next s

/-- GOLDEN_RELOAD (R93): `good` says that the reloaded frame passes its CRC. -/
def execGoldenReload (good : Bool) (s : State) : Host.Outcome State Fault Refusal :=
  .next ((s.raise (pisteCause 3)).setIf (!good) (pisteCause 6))

/-- READBACK (R94): refused while the course is not ACTIVE or a readback runs. -/
def execReadback (s : State) : Host.Outcome State Fault Refusal :=
  if s.courseActive && !s.flag Reg.PISTE.CMD_STATUS.BUSY then
    .next ((s.put Reg.PISTE.CMD_STATUS.BUSY 1).status Reg.PISTE.CMD_STATUS.addr codeOk)
  else .next (s.deny Reg.PISTE.CMD_STATUS.addr (pisteCause 7))

/-- READBACK_DONE (R94): the tiles that differ from the golden copy, and the golden frames that differ from the image. -/
def execReadbackDone (bad : List (Fin 4 × Fin 136)) (golden : Nat) (s : State) : Host.Outcome State Fault Refusal :=
  if s.flag Reg.PISTE.CMD_STATUS.BUSY then
    let n := bad.length + golden
    let s1 := ((s.scrub bad).put Reg.PISTE.CMD_STATUS.BUSY 0).put Reg.PISTE.READBACK.MISMATCHES n
    .next (((s1.bumpWrap Reg.PISTE.READBACK.SEQ).setIf (decide (0 < n)) (pisteCause 5)).raise (pisteCause 4))
  else .next s

/-- ENV_QUERY (R97): a write to ENV_LSB looks up the record of ENV_ADDR and that bit. -/
def execEnvQuery (lsb : BitVec 5) (s : State) : Host.Outcome State Fault Refusal :=
  .next (s.put Reg.PISTE.ENV_LSB.LSB lsb.toNat).envQuery

end Sys2Proof.Machine
end

