-- ==== Sys2Proof/Machine/Slalom.lean ====
section
/-! DEFINITION. The profile generator, the modulator and the rotation detector (chapter 7). Their formulas are evaluated
over rationals and rounded once where a value is stored. -/

namespace Sys2Proof.Machine

/-- A PROF cause of slot i (R214). -/
def profCause (i : Fin 4) (b : Nat) : Cause := ⟨33, 4 * i.val + b⟩

/-- A SLALOM cause of slot i (R216). -/
def slalomCause (i : Fin 4) (b : Nat) : Cause := ⟨32, 5 * i.val + b⟩

/-- Replace a profile channel's record. -/
def State.setProf (s : State) (i : Fin 4) (x : Prof) : State := { s with prof := s.prof.set i x }

/-- Replace a modulator's record. -/
def State.setSl (s : State) (i : Fin 4) (x : SlalomSt) : State := { s with slalom := s.slalom.set i x }

/-- The states in which a profile channel steps (R185). -/
def SlotState.steps : SlotState → Bool
  | .run | .glide | .charge => true
  | .off | .armed | .probe | .catching | .stopped | .safe | .discharge => false

/-- The target, rate and jerk limits of a step (R186, R317, R343). Whether a channel is one of torque or of speed no register tells: it is
a free constant (DESIGN CHOICE, log entry 75). -/
def State.profLimits (s : State) (i : Fin 4) : Rat × Rat × Rat × Rat :=
  let k := i.val
  let x := s.slot i
  let w (a : Nat) : Rat := fRat (s.rd a)
  match x.state with
  | .charge =>
    (if s.chg.phase = .active then w Reg.DRIVE.CHG.TARGET.addr else 0, w Reg.DRIVE.CHG.YMAX.addr,
      w Reg.DRIVE.CHG.RMAX.addr, w Reg.DRIVE.CHG.JMAX.addr)
  | .glide =>
    let g := w (Reg.PROF.CH.GLIDE_TARGET.addr k)
    let n := fRat x.speed
    let an := if n < 0 then -n else n
    let mag := (if g < 0 then -g else g) * min 1 (an / w (Reg.DRIVE.SLOT.FADE_SPEED.addr k))
    let torque := if n < 0 then mag else if n = 0 then 0 else -mag
    let kind := s.flag (Reg.DRIVE.SLOT.CFG.GLIDE_KIND k)
    (if x.reason = .reverse then (if Config.torqueChannel i then torque else 0) else if kind then torque else g, w (Reg.PROF.CH.YMAX.addr k),
      w (Reg.PROF.CH.GLIDE_RMAX.addr k), w (Reg.PROF.CH.GLIDE_JMAX.addr k))
  | _ =>
    (w (Reg.PROF.CH.TARGET.addr k), w (Reg.PROF.CH.YMAX.addr k), w (Reg.PROF.CH.RMAX.addr k), w (Reg.PROF.CH.JMAX.addr k))

/-- A value clamped to ±m. -/
def clampQ (m v : Rat) : Rat := max (-m) (min m v)

/-- The result of a step (R184): y, r, AT_TARGET, and whether y passed the target. -/
def profStep (y r tgt ymax limR limJ T : Rat) (hold : Bool) : Rat × Rat × Bool × Bool :=
  let e := tgt - y
  if absQ e ≤ limJ * T * T ∧ absQ r ≤ limJ * T then (clampQ ymax tgt, 0, true, false)
  else
    let stop := r * absQ r / (2 * limJ)
    let rdes := if hold then 0 else signQ (e - stop) * limR
    let rn := r + clampQ (limJ * T) (rdes - r)
    let y1 := clampQ ymax (y + (r + rn) / 2 * T)
    (y1, rn, false, decide ((tgt - y) * (tgt - y1) < 0 ∨ (y = tgt ∧ y1 ≠ tgt)))

/-- PROF_STEP (R183 to R187, R318, R342): a trigger of the channel's task, `interval` CLK_CTL cycles after the one before.
The result is written at the dispatch edge of that task; a step before that edge goes on from it. -/
def execProfStep (i : Fin 4) (interval : Nat) (s0 : State) : Host.Outcome State Fault Refusal :=
  let s := s0.ovHold i
  if s.flag (Reg.PROF.CH.CFG.ENABLE i.val) && (s.slot i).state.steps then
    let p := s.prof[i]
    let (target, ymax, limR, limJ) := s.profLimits i
    let T : Rat := if p.first then 0 else (interval : Rat) / 300000000
    let tgt := clampQ ymax target
    let limited := decide (tgt ≠ target)
    let (y0, r0) := p.step.getD (s.rd (Reg.PROF.CH.VALUE.addr i.val), p.r)
    let (y, r, at_, past) := profStep (fRat y0) (fRat r0) tgt ymax limR limJ T
      (p.hold || (s.slot i).ovHold)
    let s1 := s.setProf i { p with
      first := false, step := some (fOfRat y, fOfRat r), atTarget := at_, limited := limited
      overshoot := past || (p.overshoot && !at_) }
    let s2 := ((s1.bumpWrap (Reg.PROF.CH.STEPS.val i.val)).setIf limited (profCause i 0)).setIf past (profCause i 1)
    let s3 := s2.setIf (at_ && !p.atTarget) (profCause i 3)
    if i = 0 ∧ s3.chg.phase = .rampDown ∧ at_ = true ∧ y = 0 then .next s3.chargeOpen else .next s3
  else .next s

/-- PROF_HOLD (R187). -/
def execProfHold (i : Fin 4) (s : State) : Host.Outcome State Fault Refusal :=
  .next ((s.setProf i { s.prof[i] with hold := true }).status (Reg.PROF.CH.CMD_STATUS.addr i.val) codeOk)

/-- PROF_RESUME (R187). -/
def execProfResume (i : Fin 4) (s : State) : Host.Outcome State Fault Refusal :=
  .next ((s.setProf i { s.prof[i] with hold := false }).status (Reg.PROF.CH.CMD_STATUS.addr i.val) codeOk)

/-- y takes a preset value and r becomes 0 (R185): the next step moves nothing. -/
def State.profSet (s : State) (i : Fin 4) (y : Word) : State :=
  let s1 := (s.wr (Reg.PROF.CH.VALUE.addr i.val) y).setProf i { s.prof[i] with r := f0, first := true, step := none }
  (s1.routeVal 9 (2 * i.val) y).routeVal 9 (2 * i.val + 1) f0

/-- The PROF input of a slot (R70, R185), whatever DST_INDEX its route carries. -/
def State.profPort (s : State) (i : Fin 4) : Port :=
  s.portNow 0x13 i.val
    (((s.course.routes.find? (fun r => r.dstClass == 0x13 && r.slot == i.val)).map (fun r => r.dstIndex)).getD 0)

/-- y takes the PROF input of the slot (R185): 0 with INPUT_INVALID where the input is not valid. -/
def State.profInput (s : State) (i : Fin 4) : State :=
  let p := s.profPort i
  if p.valid then s.profSet i p.val else (s.profSet i f0).raise (profCause i 2)

/-- The preset of a channel that runs, on entry to RUN or CHARGE (R185, R213). -/
def State.profEntry (s : State) (i : Fin 4) : State :=
  if !s.flag (Reg.PROF.CH.CFG.ENABLE i.val) then s
  else if s.flag (Reg.PROF.CH.CFG.START i.val) then s.profInput i else s.profSet i f0

/-- PRESET_INPUT (R187): refused in RUN, GLIDE and CHARGE. -/
def execPresetInput (i : Fin 4) (s : State) : Host.Outcome State Fault Refusal :=
  let a := Reg.PROF.CH.CMD_STATUS.addr i.val
  if (s.slot i).state.steps then .next (s.deny a ⟨33, 17⟩) else .next ((s.profInput i).status a codeOk)

/-- STATUS of a channel (R213). -/
def State.profStatus (s : State) (i : Fin 4) : Word :=
  let p := s.prof[i]
  let st := (s.slot i).state
  BitVec.ofNat 32 (b2n st.steps + b2n p.atTarget * 2 + b2n p.limited * 4 + b2n p.overshoot * 8 +
    b2n (decide (st = .glide)) * 16 + b2n p.hold * 32)

/-- PROF_VALUE_READ (R213): a read of VALUE latches RATE and STATUS. -/
def execProfValueRead (i : Fin 4) (s : State) : Host.Outcome State Fault Refusal :=
  .next ((s.wr (Reg.PROF.CH.RATE.addr i.val) s.prof[i].r).wr (Reg.PROF.CH.STATUS.addr i.val) (s.profStatus i))

/-- The edge of the linear range, π / (2√3) (R196). -/
def mLinear : Rat := piQ / (2 * sqrt3Q)

/-- Slalom input k of a slot. -/
def State.slIn (s : State) (i : Fin 4) (k : Nat) : Rat := fRat (s.portNow 0x11 i.val k).val

/-- A leg record is a phase leg of the slot. -/
def State.isPhase (s : State) (i : Fin 4) (n : Nat) : Bool :=
  decide ((s.legRec n).slot = i.val) && decide ((s.legRec n).function = 1)

/-- PERIOD of a leg after the transfer (R198): the shadow once written since the last transfer, a PERIOD whose transfer or whose
BOUNDARY is still to come (R227, R231), else the active value. -/
def State.slPeriod (s : State) (n : Fin 32) : Nat :=
  let l := s.leg n
  if l.written.getLsbD 0 then s.get (Reg.PWM.LEG.PERIOD.val n.val)
  else match l.fixed.filter (fun c => c.mask.getLsbD 0), l.nextPeriod with
    | some c, _ => getBits (c.words.getD 0 0#32) 0 21
    | none, some w => getBits w 0 21
    | none, none => s.actPeriod n.val

/-- A compare value: whole counts in [20:0], taps in [28:24]. -/
def cmpWord (count taps : Nat) : Word := BitVec.ofNat 32 (count % 2 ^ 21 + taps * 2 ^ 24)

/-- The compare of an on-time d of the period, to the nearest tap (R197). -/
def cmpOf (d : Rat) (period : Nat) : Word :=
  if d ≤ 0 then 0#32
  else if 1 ≤ d then cmpWord (period + 1) 0
  else
    let t := (ratRound (d * (period : Rat) * 32)).toNat
    cmpWord (t / 32) (t % 32)

/-- The compare extremes (R221): on or off for the whole period. -/
def cmpFull (on : Bool) (period : Nat) : Word := if on then cmpWord (period + 1) 0 else 0#32

/-- A compare that puts an edge at an instant q of the period, in counts (R204, R220): none where the waveform of the mode
and centring has no such edge there. -/
def cmpEdge (mode : Nat) (ctr : Bool) (period : Nat) (q : Rat) (rising : Bool) : Option Word :=
  let p : Rat := period
  let c : Option Rat :=
    if mode = 1 then (if rising = ctr then some (if ctr then p - q else q) else none)
    else if ctr then
      (if rising then (if q ≤ p then some (p - q) else none) else (if p ≤ q then some (q - p) else none))
    else
      (if rising then (if p ≤ q then some (2 * p - q) else none) else (if q ≤ p then some q else none))
  c.map (fun v => let t := (ratRound (v * 32)).toNat; cmpWord (t / 32) (t % 32))

/-- What a job writes into a leg: CMPA, CMPB where given, and IDLE. -/
structure SlWrite where
  a : Option Word := none
  b : Option Word := none
  idle : Bool := false
deriving DecidableEq, Repr

/-- A job writes the shadows of a phase leg and commits (R191, R225, R226, R233). IDLE is written by the first job of an entry and
wherever the shadow does not hold what the job needs (R193, R206, R310). -/
def State.slWrite (s : State) (i : Fin 4) (first : Bool) (n : Fin 32) (w : SlWrite) : State :=
  let put (t : State) (k : Nat) (v : Option Word) : State := match v with
    | some x => (t.wr (Reg.PWM.LEG.CMP.addr n.val k) x).setLeg n { t.leg n with written := (t.leg n).written ||| (1#7 <<< (k + 1)) }
    | none => t
  let s1 := put (put s 0 w.a) 1 w.b
  let s2 := if first || s1.flag (Reg.PWM.LEG.IDLE.val n.val) != w.idle then
      (s1.put (Reg.PWM.LEG.IDLE.val n.val) (b2n w.idle)).setLeg n { s1.leg n with writtenIdle := true }
    else s1
  if s2.flag Reg.PWM.GLOBAL.CTRL.LOADALL_MODE then s2.raise ⟨3, 16⟩
  else s2.commit n (s2.get (Reg.SLALOM.SL.CFG.XFER i.val)) false

/-- A job's writes to every phase leg of the slot, and the arming of the slot line's release (R309). -/
def State.slWriteAll (s : State) (i : Fin 4) (first : Bool) (f : State → Fin 32 → SlWrite) : State :=
  let t := (List.finRange 32).foldl (fun u n => if u.isPhase i n.val then u.slWrite i first n (f s n) else u) s
  if (t.slot i).lineRelease then t.setSlot i { t.slot i with lineArmed := true } else t

/-- A leg with both outputs given a level for the whole period, in its output mode (R222, R310). -/
def State.slLevels (s : State) (n : Fin 32) (a b : Bool) : SlWrite :=
  let p := s.slPeriod n
  if s.flag (Reg.PWM.LEG.CFG.OUTMODE n.val) then { a := some (cmpFull a p), b := some (cmpFull b p) }
  else { a := some (cmpFull a p) }

/-- The lock pattern of CATCH (R310): off below, the ASC state of SEL above; a FREE state there is both outputs off. -/
def State.slLock (s : State) (i : Fin 4) (n : Fin 32) : SlWrite :=
  if (s.slot i).above then
    match patternOf (s.legRec n.val).position s.trip.sel[i] with
    | .off => if s.flag (Reg.PWM.LEG.CFG.OUTMODE n.val) then s.slLevels n false false else { idle := true }
    | .aOn => s.slLevels n true false
    | .bOn => s.slLevels n false true
  else { idle := true }

/-- Entry j of the phase-advance table, signed (R208). -/
def State.advEntry (s : State) (i : Fin 4) (j : Nat) : Int :=
  let w := s.rd (Reg.SLALOM.SL.ADV.addr i.val (j / 2))
  signedOf 16 (if j % 2 = 0 then getBits w 0 16 else getBits w 16 16)

/-- The phase advance at speed n, in units of 2^−16 turn (R208). -/
def State.advance (s : State) (i : Fin 4) (n : Rat) : Int :=
  let x := absQ n / fRat (s.rd (Reg.SLALOM.SL.ADV_STEP.addr i.val))
  let j := x.floor.toNat
  let v : Int := if 63 ≤ x then s.advEntry i 63
    else
      let e0 := s.advEntry i j
      let e1 := s.advEntry i (j + 1)
      ratRound ((e0 : Rat) + (x - (j : Rat)) * ((e1 - e0 : Int) : Rat))
  if n < 0 then -v else v

/-- The link voltage of a job (R194): the floor, the last valid value, and whether it is stale. -/
def State.slVdc (s : State) (i : Fin 4) : Word × Bool :=
  let p := s.portNow 0x11 i.val 8
  (if p.valid then p.val else s.slalom[i].vdc, !p.valid)

/-- The voltage vector of set k, turned by the advance where it applies (R190, R209). -/
def State.slVec (s : State) (i : Fin 4) (k : Nat) (adv : Rat) : Rat × Rat :=
  let a := s.slIn i (2 * k)
  let b := s.slIn i (2 * k + 1)
  if adv = 0 then (a, b)
  else
    let c := cosQ (2 * piQ * adv)
    let d := sinQ (2 * piQ * adv)
    (a * c - b * d, a * d + b * c)

/-- m_req of a vector (R196). -/
def mReq (v : Rat × Rat) (vdc : Rat) : Rat := sqrtQ (v.1 * v.1 + v.2 * v.2) * piQ / (2 * vdc)

/-- The phase voltages of a vector (R197 step 1). -/
def phaseVolts (v : Rat × Rat) : Rat × Rat × Rat :=
  let h := sqrt3Q / 2 * v.2
  (v.1, -v.1 / 2 + h, -v.1 / 2 - h)

/-- The zero-sequence term of step 2, or of a star point in CHARGE, with the neutral-point offset (R197, R201, R344). -/
def State.slZero (s : State) (i : Fin 4) (k : Nat) (v : Rat × Rat × Rat) (vdc : Rat) : Rat :=
  let hi := max v.1 (max v.2.1 v.2.2)
  let lo := min v.1 (min v.2.1 v.2.2)
  if (s.slot i).state = .charge then s.slIn i (12 + k)
  else
    let z := -(hi + lo) / 2
    if (s.slotRec i.val).levels = 3 then
      let lim := fRat (s.rd (Reg.SLALOM.SL.NP_LIM.addr i.val)) * vdc / 2
      let off := clampQ lim (-(fRat (s.rd (Reg.SLALOM.SL.NP_GAIN.addr i.val))) * s.slIn i 10)
      let off := if 0 < off then min off (max 0 (vdc / 2 - (hi + z))) else max off (min 0 (-(vdc / 2) - (lo + z)))
      z + off
    else z

/-- The on-times of a leg's outputs from its phase voltage, by its place in the phase (R197, R200): B is none where the leg
forms it itself. -/
def onTimes (position : Nat) (v vdc : Rat) : Rat × Option Rat :=
  let q := clampQ 1 (v / (vdc / 2))
  match position with
  | 1 => if 0 ≤ q then (q, some 0) else (0, some (-q))
  | 2 => if 0 ≤ q then (1, some (1 - q)) else (1 + q, some 1)
  | 3 => if 0 ≤ q then (1 - q, some 1) else (1, some (1 + q))
  | _ => (1 / 2 + v / vdc, none)

/-- One phase of a triple. -/
def pick3 (v : Rat × Rat × Rat) (k : Nat) : Rat := match k with | 0 => v.1 | 1 => v.2.1 | _ => v.2.2

/-- The modulation of a leg by a voltage vector of its set (R197, R200, R344). -/
def State.slVector (s : State) (i : Fin 4) (n : Fin 32) (v : Rat × Rat) (vdc : Rat) : SlWrite :=
  let r := s.legRec n.val
  let ph := phaseVolts v
  let t := onTimes r.position (pick3 ph r.phase + s.slZero i r.set ph vdc) vdc
  let p := s.slPeriod n
  { a := some (cmpOf t.1 p), b := t.2.map (fun d => cmpOf d p) }

/-- The SVM values of a leg (R197, R200, R344): a vector beyond the linear range is scaled to its edge. -/
def State.slSvm (s : State) (i : Fin 4) (n : Fin 32) (vdc adv : Rat) : SlWrite :=
  let v0 := s.slVec i (s.legRec n.val).set adv
  let m := mReq v0 vdc
  s.slVector i n (if mLinear < m then (v0.1 * mLinear / m, v0.2 * mLinear / m) else v0) vdc

/-- The trajectory of over-modulation within the sector of a hexagon side (R203): for the step `t` from the edge of the linear range
(0) to six-step (1) and the angle `phi` of the requested vector from the middle of the side, the radius in units of the apothem
Vdc / √3 and the angle of the output vector. Up to 1/2 a circle of growing radius is cut along the side; above, the vector dwells at
the vertices for a hold angle that grows to 30°. -/
def omPath (t phi : Rat) : Rat × Rat :=
  let edge := piQ / 6
  if t ≤ 1 / 2 then (min (1 + 2 * t * (2 / sqrt3Q - 1)) (1 / cosQ phi), phi)
  else
    let hold := edge * (2 * t - 1)
    let p := if edge ≤ absQ phi + hold then (if phi < 0 then -edge else edge) else phi * edge / (edge - hold)
    (1 / cosQ p, p)

/-- The fundamental of the trajectory at step `t` as a modulation index (R196, R203): its mean along the requested direction. -/
def omIndex (t : Rat) : Rat :=
  let m : Nat := 32
  let w := (List.range m).map (fun k =>
    let phi := piQ / 6 * ((2 * k + 1 : Nat) : Rat) / ((2 * m : Nat) : Rat)
    let q := omPath t phi
    q.1 * cosQ (q.2 - phi))
  w.sum / (m : Rat) * mLinear

/-- The step whose fundamental is m (R203), by halving. -/
def omStep (m : Rat) : Rat :=
  ((List.range 16).foldl (fun (p : Rat × Rat) _ =>
    let mid := (p.1 + p.2) / 2
    if omIndex mid < m then (mid, p.2) else (p.1, mid)) (0, 1)).2

/-- The vector that OVERMOD applies beyond the linear range for a requested one (R203): that of the trajectory, but for a deviation of
at most 0.2 % of 2 Vdc / π in each component, which the spec leaves open within its bounds on the fundamental (DESIGN CHOICE, log entry
74). -/
def omVector (v : Rat × Rat) (vdc : Rat) (free : BitVec 64) : Rat × Rat :=
  let turn := atan2Q v.2 v.1 false / (2 * piQ)
  let k := (turn * 6).floor
  let centre := ((k : Rat) + 1 / 2) / 6 * 2 * piQ
  let q := omPath (omStep (min (mReq v vdc) 1)) (turn * 2 * piQ - centre)
  let a := centre + q.2
  let r := q.1 * vdc / sqrt3Q
  let dev (b : BitVec 64) : Rat := ((b.toNat % 65536 : Nat) : Rat) / 32768 - 1
  let d := vdc * 2 / piQ / 500
  (r * cosQ a + d * dev free, r * sinQ a + d * dev (free >>> 16))

/-- A duty of the set clips (R344). -/
def State.slClips (s : State) (i : Fin 4) (vdc adv : Rat) : Bool :=
  (List.range (s.slotRec i.val).sets).any (fun k =>
    let ph := phaseVolts (s.slVec i k adv)
    let z := s.slZero i k ph vdc
    [ph.1, ph.2.1, ph.2.2].any (fun v => decide (1 / 2 + (v + z) / vdc < 0 ∨ 1 < 1 / 2 + (v + z) / vdc)))

/-- A phase angle, in turns, gives a positive cosine. -/
def cosPos (t : Rat) : Bool :=
  let f := t - (t.floor : Rat)
  decide (f < 1 / 4 ∨ 3 / 4 < f)

/-- The SCHUSS values of a leg (R204, R205): `theta` the angle of the W0 vector with the advance at the middle of the
interval, `fe` the electrical frequency; an edge for which the waveform has no compare there is a free value. -/
def State.slSchuss (s : State) (i : Fin 4) (n : Fin 32) (theta fe : Rat) (half : Fin 4) (free : Word) : SlWrite :=
  let r := s.legRec n.val
  let p := s.slPeriod n
  let mode := s.legMode n.val
  let span : Rat := spanOf mode p
  let len : Rat := if 2 ≤ half.val then span else span / 2
  let start : Rat := if half.val % 2 = 1 then span / 2 else 0
  let T := len * 2 / 3000000000
  let base := theta - (r.set : Rat) * fRat (s.slotRec i.val).setShift / 360 - (r.phase : Rat) / 3
  let a0 := base - fe * T / 2
  let a1 := base + fe * T / 2
  let on0 := cosPos a0
  let on1 := cosPos a1
  let bound : Rat := if 0 < fe then (((a0 - 1 / 4) * 2).floor : Rat) / 2 + 1 / 4 + 1 / 2
    else -((((-a0 - 1 / 4) * 2).floor : Rat) / 2 + 1 / 4 + 1 / 2)
  let q0 := start + (if fe = 0 then 0 else (bound - a0) / fe) * 1500000000
  let q := if span ≤ q0 then q0 - span else q0
  let val (inv : Bool) (ctr : Bool) : Word :=
    if on0 = on1 then cmpFull (on0 != inv) p
    else (cmpEdge mode ctr p q (on1 != inv)).getD (free &&& 0x1F1FFFFF#32)
  let ctrA := s.flag (Reg.PWM.LEG.CFG.CTR_A n.val)
  let ctrB := s.flag (Reg.PWM.LEG.CFG.CTR_B n.val)
  match r.position with
  | 0 => { a := some (val false ctrA) }
  | 3 => { a := some (val true ctrA), b := some (val false ctrB) }
  | _ => { a := some (val false ctrA), b := some (val true ctrB) }

/-- The "+" and "−" phases of a BLOCK sector (R206). -/
def blockPhases (k : Nat) (neg : Bool) : Nat × Nat :=
  let p : Nat × Nat := match k with
    | 0 => (1, 2) | 1 => (1, 0) | 2 => (2, 0) | 3 => (2, 1) | 4 => (0, 1) | _ => (0, 2)
  if neg then (p.2, p.1) else p

/-- The BLOCK values of a leg (R206, R207). -/
def State.slBlock (s : State) (i : Fin 4) (n : Fin 32) (sector : Nat) (vdc : Rat) : SlWrite :=
  let v := s.slIn i 0
  let d := min (absQ v / vdc) 1
  let ph := blockPhases sector (decide (v < 0))
  let r := s.legRec n.val
  let p := s.slPeriod n
  let indep := s.flag (Reg.PWM.LEG.CFG.OUTMODE n.val)
  if r.phase = ph.1 then
    { a := some (cmpOf d p)
      b := if indep then some (if s.flag (Reg.SLALOM.SL.CFG.CHOP i.val) then cmpOf (1 - d) p else 0#32) else none }
  else if r.phase = ph.2 then s.slLevels n false true
  else { idle := true }

/-- The sector that BLOCK uses (R206, R207): that of the POS channel; with INTERP, the next one from the interpolated angle
at the sector end minus the advance on. -/
def State.blockSector (s : State) (i : Fin 4) (adv : Int) (cycle : Nat) : Nat :=
  match s.servingPos i with
  | none => s.slalom[i].sector
  | some k =>
    let sec := s.pos[k].sector
    if s.posMode k = 2 ∧ s.flag (Reg.POS.CH.CFG.INTERP k.val) = true then
      let a := s.posAngleAt k cycle false - s.rd (Reg.POS.CH.ANGLE_OFFSET.addr k.val)
      let into : Rat := (a.toNat : Rat) / (2 ^ 32 : Nat) - (sec : Rat) / 6
      if 1 / 6 - (adv : Rat) / 65536 ≤ into + 1 / ((2 ^ 31 : Nat) : Rat) then (sec + 1) % 6 else sec
    else sec

/-- The transition of a job between the modes (R202): the new mode, the new count, whether a transition was made. -/
def State.slNext (s : State) (i : Fin 4) (m n : Rat) : SlMode × Nat × Bool :=
  let x := s.slalom[i]
  let k := i.val
  let om := fRat (s.rd (Reg.SLALOM.SL.OM_SPEED.addr k))
  let sc := fRat (s.rd (Reg.SLALOM.SL.SCHUSS_SPEED.addr k))
  let sh := fRat (s.rd (Reg.SLALOM.SL.SPD_HYS.addr k))
  let mh := fRat (s.rd (Reg.SLALOM.SL.M_HYS.addr k))
  let an := absQ n
  match x.mode with
  | .svm =>
    if s.flag (Reg.SLALOM.SL.CFG.OM_EN k) ∧ mLinear < m ∧ om ≤ an ∧ (s.slot i).state ≠ .charge then (.overmod, 0, true)
    else (.svm, 0, false)
  | .overmod =>
    let c := if 1 ≤ m then min (x.cnt + 1) 16 else 0
    if m < mLinear - mh ∨ an < om - sh then (.svm, 0, true)
    else if s.flag (Reg.SLALOM.SL.CFG.SCHUSS_EN k) ∧ s.get (Reg.SLALOM.SL.CFG.SCHUSS_COUNT k) ≤ c ∧ sc ≤ an then
      (.schuss, 0, true)
    else (.overmod, c, false)
  | .schuss => if m < 1 - mh ∨ an < sc - sh then (.overmod, 0, true) else (.schuss, 0, false)
  | .block => (.block, 0, false)
  | .off => (.svm, 0, false)

/-- Status of a job (R215): mode, sector, LIMITED, VDC_STALE, m_req of W0, with the causes. -/
def State.slStatus (s : State) (i : Fin 4) (mode : SlMode) (sector : Nat) (limited stale changed : Bool) (m : Word) : State :=
  let k := i.val
  let s1 := ((((s.put (Reg.SLALOM.SL.STATUS.MODE k) mode.code).put (Reg.SLALOM.SL.STATUS.SECTOR k) sector).put
    (Reg.SLALOM.SL.STATUS.LIMITED k) (b2n limited)).put (Reg.SLALOM.SL.STATUS.VDC_STALE k) (b2n stale)).wr
    (Reg.SLALOM.SL.M.addr k) m
  let s2 := if changed then (s1.bumpWrap (Reg.SLALOM.SL.MODE_CHANGES.COUNT k)).raise (slalomCause i 0) else s1
  (s2.setIf limited (slalomCause i 1)).setIf stale (slalomCause i 2)

/-- A job in one of the five states (R193 to R209, R310, R344): its mode, its status and its writes. The lock pattern of CATCH and
the legs of a DISCHARGE that does not discharge yet stand in place of the vector. -/
def State.slModulate (s : State) (i : Fin 4) (half : Fin 4) (cycle : Nat) : State :=
  let x := s.slalom[i]
  let (vw, stale) := s.slVdc i
  let vdc := fRat (fMax vw (s.rd (Reg.SLALOM.SL.VDC_FLOOR.addr i.val)))
  let n := s.slIn i 9
  let advI := s.advance i n
  let sets := (s.slotRec i.val).sets
  let m0 := mReq (s.slVec i 0 0) vdc
  let mMax := (List.range sets).foldl (fun a k => max a (mReq (s.slVec i k 0) vdc)) 0
  let (mode, cnt, changed) := s.slNext i (if x.mode = .schuss then m0 else mMax) n
  let adv : Rat := if s.flag (Reg.SLALOM.SL.CFG.ADV_SVM i.val) then (advI : Rat) / 65536 else 0
  let fe := n / 60 * ((s.slotRec i.val).polePairs : Rat)
  let advB := max (-0x1555) (min 0x1555 advI)
  let sector := if mode = .block then s.blockSector i advB cycle else x.sector
  let v0 := s.slVec i 0 0
  let actLeg := ((List.finRange 32).find? (fun k => s.isPhase i k.val)).getD 0
  let span : Rat := spanOf (s.legMode actLeg.val) (s.slPeriod actLeg)
  let T := (if 2 ≤ half.val then span else span / 2) * 2 / 3000000000
  let theta := if v0.1 = 0 ∧ v0.2 = 0 then x.theta0 + fe * T else atan2Q v0.2 v0.1 false / (2 * piQ)
  let held := decide ((s.slot i).state = .catching) ||
    (decide ((s.slot i).state = .discharge) && decide ((s.slot i).dischPhase ≠ 2))
  let limited := !held && match mode with
    | .svm => decide (mLinear < mMax) || (decide ((s.slot i).state = .charge) && s.slClips i vdc adv)
    | .overmod => decide (1 < mMax)
    | _ => false
  let (fv, s0) := s.fresh
  let s1 := s0.setSl i { x with
    mode := mode, cnt := cnt, active := true, idled := false, vdc := vw, theta0 := theta, sector := sector }
  let s2 := s1.slWriteAll i (!x.active) (fun u k =>
    if held then (if (s.slot i).state = .catching then u.slLock i k else { idle := true })
    else match mode with
    | .block => u.slBlock i k sector vdc
    | .schuss => u.slSchuss i k (theta + (advI : Rat) / 65536) fe half (fv.setWidth 32)
    | .overmod =>
      let set := (u.legRec k.val).set
      let v := u.slVec i set adv
      if mReq v vdc ≤ mLinear then u.slSvm i k vdc adv
      else u.slVector i k (omVector v vdc (fv ^^^ Config.freeValue (s.freeCount + 1 + set))) vdc
    | _ => u.slSvm i k vdc adv)
  let s3 := if mode = .overmod then { s2 with freeCount := s2.freeCount + 4 } else s2
  s3.slStatus i mode sector limited stale changed (fOfRat m0)

/-- What a job in any other state shows (R194, R196, R215): OFF, nothing limited, the last valid link voltage and m_req of W0. -/
def State.slRest (s : State) (i : Fin 4) : State :=
  let (vw, stale) := s.slVdc i
  let vdc := fRat (fMax vw (s.rd (Reg.SLALOM.SL.VDC_FLOOR.addr i.val)))
  (s.setSl i { s.slalom[i] with mode := .off, idled := true, active := false, vdc := vw }).slStatus i .off
    (s.get (Reg.SLALOM.SL.STATUS.SECTOR i.val)) false stale false (fOfRat (mReq (s.slVec i 0 0) vdc))

/-- SLALOM_JOB (R192, R193, R310): the first waiting job in order of END, where it is this slot's; `half` tells which part of the period its transfer fills (0 BOUNDARY to
MID, 1 MID to BOUNDARY, 2 a whole period from BOUNDARY, 3 one from MID), `cycle` its first CLK_CTL cycle. -/
def execSlalomJob (i : Fin 4) (half : Fin 4) (cycle : Nat) (s0 : State) : Host.Outcome State Fault Refusal :=
  if s0.carve.jobs.head? ≠ some i then .next s0
  else
    let s := { s0 with carve := { s0.carve with jobs := s0.carve.jobs.tail } }
    if !s.flag (Reg.SLALOM.SL.CFG.ENABLE i.val) then .next s
    else if !(s.slot i).state.modulated then
      let s1 := s.slRest i
      if s.slalom[i].idled && !((s.slot i).lineRelease && !(s.slot i).lineArmed) then .next s1
      else .next (s1.slWriteAll i true (fun _ _ => { idle := true }))
    else .next (s.slModulate i half cycle)

/-- ROT_START (R210): allowed in OFF, ARMED and STOPPED while the detector does not run. -/
def execRotStart (i : Fin 4) (s : State) : Host.Outcome State Fault Refusal :=
  let a := Reg.SLALOM.SL.CMD_STATUS.addr i.val
  let st := (s.slot i).state
  if (st = .off ∨ st = .armed ∨ st = .stopped) ∧ s.slalom[i].rotBusy = false then .next ((s.rotStart i).status a codeOk)
  else .next (s.deny a ⟨32, 21⟩)

/-- Probe takes PSI from a detector window with a PHV result (R429). -/
def State.psiMeasure (s : State) (i : Fin 4) (e : EmfSpan) : State :=
  { s with probe := { s.probe with mid := s.probe.mid.set i { s.probe.mid[i] with psi := fOfRat (if e.rate = 0 then 0 else e.amp / (2 * piQ * absQ e.rate)), psiValid := true } } }

/-- A result of the detector in PROBE (R306). -/
def State.probeResult (s : State) (i : Fin 4) (res : Nat) : State :=
  let x := s.slot i
  let rev := (s.slotRec i.val).reverse
  let s1 := s.setSlot i { x with probeRes := res }
  match res with
  | 1 => s1.enter i .run .none
  | 2 => s1.enter i .catching .none
  | 3 => if rev = reverseRefuse then (s1.raise (driveCause i 6)).enter i .armed .none else s1.enter i .catching .none
  | _ =>
    if x.unsure = 0 then (s1.setSlot i { x with probeRes := res, unsure := 1 }).rotStart i
    else (s1.raise (driveCause i 7)).enter i .armed .none

/-- ROT_WINDOW_END (R211, R212, R306, R429): the detector's window ends. Without a PHV result in it, none reached EMF_MIN. -/
def execRotWindowEnd (i : Fin 4) (cycle : Nat) (s0 : State) : Host.Outcome State Fault Refusal :=
  let s := s0.rotSampleSlot i cycle
  if !s.slalom[i].rotBusy then .next s
  else
    let emf := s.emfWindow i cycle
    let pv := match s.servingPos i with
      | some k => if s.posValid k then some (s.posSpeedAt k cycle, s.posAngleAt k cycle false) else none
      | none => none
    let em := emf.map (s.emfMotion i)
    let low := match emf with
      | some e => e.allLow
      | none => true
    let high := match emf with
      | some e => e.allHigh
      | none => false
    let dirE := match em with
      | some p => if p.1 < 0 then 3 else 2
      | none => 2
    let through := s.slalom[i].rotHigh && !s.slalom[i].rotLow && pv.isSome
    let dirP := match pv with
      | some p => if fNeg? p.1 then 3 else 2
      | none => 2
    let conflict := high && through && decide (dirE ≠ dirP)
    let res := if conflict then 4 else if high then dirE else if through then dirP
      else if low && !s.slalom[i].rotHigh then 1 else 4
    let src := b2n (if res = 1 then emf.isSome else high) + 2 * b2n (if res = 1 then pv.isSome else through)
    let (fv, s0) := s.fresh
    let speed := match pv, em with
      | some p, _ => p.1
      | none, some p => fOfRat p.1
      | none, none => f0
    let angle := match pv, em with
      | some p, _ => p.2
      | none, some p => p.2
      | none, none => fv.setWidth 32
    let s1 := s0.rotWrite i res src speed angle
    let s2 := (s1.setIf (decide (res = 3)) (slalomCause i 3)).setIf conflict (slalomCause i 4)
    let s3 := match emf with
      | some e => if high && (decide (res = 2) || decide (res = 3)) then s2.psiMeasure i e else s2
      | none => s2
    if (s.slot i).judged = .probe then .next (s3.probeResult i res) else .next s3

/-- ROT_RESULT_READ (R215): a read of ROT_RESULT latches ROT_SPEED and ROT_ANGLE. -/
def execRotResultRead (i : Fin 4) (s : State) : Host.Outcome State Fault Refusal :=
  .next ((s.wr (Reg.SLALOM.SL.ROT_SPEED.addr i.val) s.slalom[i].rotSpeed).wr
    (Reg.SLALOM.SL.ROT_ANGLE.addr i.val) s.slalom[i].rotAngle)

end Sys2Proof.Machine
end

