-- ==== Sys2Proof/Machine/Task.lean ====
section
/-! DEFINITION. Triggers, dispatch and END of the Carve tasks (R171 to R175, R179, R183), with what a drive slot evaluates at
them: the slot speed, the locks and the losses (R303 to R316, R328, R331, R333, R345, R469). -/

namespace Sys2Proof.Machine

/-- TASK_TRIGGER (R105, R132, R172, R351): the event and the values that travel with it pass the agreement stage; the position values of the task travel, the filters locked to it form a result, and the trigger counts
to readiness, or is dropped; a Carve that is not released takes none (R162, R464). -/
def execTaskTrigger (t : Fin 8) (sample : Sampled Nat) (st : State) : Host.Outcome State Fault Refusal :=
  let s0 := st.agreeFix sample.differs
  let cycle := sample.value
  let s := (State.routePos { s0 with taskDelays := s0.taskDelays.erase t.val } t cycle).sdmTrigger t.val cycle
  let c := s.carve
  if !c.released then .next s
  else if c.notReady.contains t || c.waiting.contains t || c.running = some t then
    .next ((s.bump (Reg.CARVE.TASK.EVENTS.MISSED t.val)).raise (carveCause (s.ownerOf t.val) 1))
  else .next { s with carve := { c with notReady := c.notReady ++ [t], readyAt := c.readyAt.set t (cycle + 32) } }

/-- The slot of a program task (R78): task s for slot s, tasks 4 to 7 none. -/
def taskSlot (t : Fin 8) : Option (Fin 4) := if h : t.val < 4 then some ⟨t.val, h⟩ else none

/-- Every input port with a route, as the fabric holds it (R171, R174). -/
def State.latchPorts (s : State) : List (Nat × Port) :=
  (s.course.routes.filter (fun r => r.dstClass == 0x10)).map
    (fun r => (64 * r.slot + r.dstIndex, s.portNow 0x10 r.slot r.dstIndex))

/-- FBLOST at a dispatch (R169): an interface of the owner slot has VALID = 0. -/
def State.fbLost (s : State) (owner : Nat) : Bool :=
  (List.finRange 4).any (fun k => decide (s.posSlot k = some (Fin.ofNat 4 owner)) && !s.posValid k)

/-- The engine dispatches task t (R169 to R171, R174, R179): ports and flags are latched and the program counter set. -/
def State.carveDispatch (s : State) (t : Fin 8) (wait cycle : Nat) : State :=
  let c := s.carve
  let latched := s.latchPorts
  let key (p : Nat) : Nat := 256 * t.val + p
  let prev := latched.foldl (fun m p =>
    let v := cellGet (fun _ => 0#17) c.seqs (key p.1)
    cellSet (fun _ => 0#17) m p.1 v) []
  let seqs := latched.foldl (fun m p =>
    if p.2.hasSeq then cellSet (fun _ => 0#17) m (key p.1) (1#1 ++ p.2.seq : BitVec 17) else m) c.seqs
  let fl : CarveFlags := {
    vld := true, new := true, pre := c.preset[t], fblost := s.fbLost (s.ownerOf t.val) }
  let s1 := { s with carve := { c with
    fl := fl, mb := 0, pc := (s.taskRec t.val).entry, cycles := 0, running := some t, lastTask := t.val, staged := []
    nonfinite := false, heldRun := false, ipreWrote := false, progSet := 0#8
    waiting := c.waiting.erase t, latched := latched, prevSeq := prev, seqs := seqs
    preset := c.preset.set t false, lastAt := c.lastAt.set t (some cycle) } }
  let w := min wait 65535
  (s1.put (Reg.CARVE.TASK.WAIT.LAST t.val) w).put (Reg.CARVE.TASK.WAIT.MAX t.val)
    (max w (s1.get (Reg.CARVE.TASK.WAIT.MAX t.val)))

/-- Steps of the profile channels of task t take effect at its dispatch edge (R183). -/
def State.profApply (s : State) (t : Fin 8) : State :=
  (List.finRange 4).foldl (fun u i =>
    if u.get (Reg.PROF.CH.CFG.TASK i.val) = t.val then
      match u.prof[i].step with
      | some (y, r) =>
        let v := (u.wr (Reg.PROF.CH.VALUE.addr i.val) y).setProf i { u.prof[i] with r := r, step := none }
        (v.routeVal 9 (2 * i.val) y).routeVal 9 (2 * i.val + 1) r
      | none => u
    else u) s

/-- A preset becomes pending for every task of a slot (R179). -/
def State.presetOwned (s : State) (i : Fin 4) : State :=
  { s with carve := { s.carve with preset := Vector.ofFn (fun t : Fin 8 =>
      s.carve.preset[t] || decide (s.ownerOf t.val = i.val)) } }

/-- An entry that waited for the dispatch edge takes effect (R306, R308): to RUN or CHARGE with its preset, or from RUN to
the GLIDE left for a lock. -/
def State.entryDue (s : State) (i : Fin 4) : State :=
  let x := s.slot i
  match x.pendEntry with
  | some st =>
    let s1 := (s.enterNow i st x.pendReason).presetOwned i
    s1.setSlot i { s1.slot i with glideNext := x.glideNext }
  | none => if x.glideNext && decide (x.state = .run) then s.enterNow i .glide x.formerReason else s

/-- What follows an entry at the same edge, after the ports are latched (R16, R185, R342). -/
def State.entryAfter (s : State) (i : Fin 4) (st : Option SlotState) : State :=
  match st with
  | some .charge => (s.profEntry i).chargeEntered
  | some .run => s.profEntry i
  | _ => s

/-- The phase legs of a slot. -/
def State.phaseLegs (s : State) (i : Fin 4) : List (Fin 32) := (List.finRange 32).filter (fun n => s.isPhase i n.val)

/-- The live outputs of a leg are what a pattern commands (R242). -/
def Leg.shows (l : Leg) (p : Pattern) : Bool := (l.liveA == decide (p = .aOn)) && (l.liveB == decide (p = .bOn))

/-- The live outputs of the slot's phase legs are those of ASC_LOW or of ASC_HIGH: a pattern is in force once every output of it is
(R242, R310). -/
def State.ascLive (s : State) (i : Fin 4) : Bool :=
  [1, 2].any (fun st =>
    (s.phaseLegs i).any (fun n => decide (patternOf (s.legRec n.val).position st ≠ .off)) &&
    (s.phaseLegs i).all (fun n => (s.leg n).shows (patternOf (s.legRec n.val).position st)))

/-- The phase legs of a slot are in an ASC pattern (R303, R310, R313, R470): in CATCH, in SAFE and under a reset hold. -/
def State.ascOn (s : State) (i : Fin 4) : Bool :=
  (s.trip.resetHold.getLsbD i.val || decide ((s.slot i).state = .catching) || decide ((s.slot i).state = .safe)) && s.ascLive i

/-- The phase legs of a slot are off (R302, R303): no output of theirs is on, and where the slot modulates them the trip network holds
them so. -/
def State.legsOff (s : State) (i : Fin 4) : Bool :=
  let held := match (s.slot i).state with
    | .off | .armed | .probe | .stopped | .catching | .safe => true
    | .discharge => decide ((s.slot i).dischPhase ≠ 2)
    | .run | .glide | .charge => false
  (s.phaseLegs i).all (fun n => (s.leg n).shows .off && (held || (s.leg n).forced.isSome))

/-- The ASC estimator at a dispatch (R313): it runs while the phase legs are in an ASC pattern. -/
def State.ascStep (s : State) (i : Fin 4) (cycle : Nat) : State :=
  if s.ascOn i then s.ascTake i cycle else s.setSlot i { s.slot i with estSpeed := none, asc := {} }

/-- The slot speed and its source at a dispatch (R303); none keeps the last value. -/
def State.speedSource (s : State) (i : Fin 4) (cycle : Nat) : Option (Nat × Word) :=
  let x := s.slot i
  let own := s.get (Reg.DRIVE.SLOT.CFG.SPD_PORT i.val)
  let running := match x.state with
    | .run | .glide | .charge | .discharge => true
    | _ => false
  match (s.servingPos i).filter (fun k => s.posValid k) with
  | some k => some (1, s.posSpeedAt k cycle)
  | none =>
    if running && s.carve.endedOk[(⟨i.val, by omega⟩ : Fin 8)] then some (2, s.outPort i.val own)
    else match s.ascOn i, x.estSpeed with
      | true, some v => some (3, v)
      | _, _ =>
        match s.legsOff i, s.emfNow i cycle with
        | true, some e =>
          some (4, if e.allHigh then fOfRat (s.emfMotion i e).1 else f0)
        | _, _ => none

/-- SEL follows |n̂| with its hysteresis (R304); a change during a lock restarts it by the other method (R311). -/
def State.selUpdate (s : State) (i : Fin 4) (n : Word) : State :=
  let x := s.slot i
  let wx := (s.slotRec i.val).omegaX
  let rec' := s.safeRec i.val
  let a := fAbs n
  let above := fLe wx a || (x.above && !fLt a (fSub wx rec'.hyst))
  let s1 := s.setSlot i { x with
    above := above, method := if x.state = .catching then (if above then 2 else 1) else x.method }
  let s1 := if x.state = .catching ∧ above ≠ x.above then (s1.setSlot i { s1.slot i with stillDue := false }).lockBegin i else s1
  State.reforce { s1 with trip := { s1.trip with sel := s1.trip.sel.set i (if above then rec'.above else rec'.below) } }

/-- |n̂| ≥ ω_x. -/
def State.overCross (s : State) (i : Fin 4) : Bool := fLe (s.slotRec i.val).omegaX (fAbs (s.slot i).speed)

/-- |n̂| ≥ ω_x in PROBE (R316): the detector window ends with the direction of n̂; a refused reverse goes to SAFE, any other
case to CATCH. The angle is that of a valid interface that serves the slot, else that of the back-EMF (R212). -/
def State.probeFast (s : State) (i : Fin 4) (cycle : Nat) : State :=
  let x := s.slot i
  let res := if fNeg? x.speed then 3 else 2
  let (fv, s0) := s.fresh
  let angle := match (s.servingPos i).filter (fun k => s.posValid k) with
    | some k => s.posAngleAt k cycle false
    | none => match s.emfNow i cycle with
      | some e => (s.emfMotion i e).2
      | none => fv.setWidth 32
  let s1 := (s0.rotWrite i res (if x.nsrc = 1 then 2 else if x.nsrc = 4 then 1 else 0) x.speed angle).setIf
    (decide (res = 3)) (slalomCause i 3)
  let s2 := s1.setSlot i { s1.slot i with probeRes := res }
  if res = 3 ∧ (s.slotRec i.val).reverse = reverseRefuse then
    ((s2.raise (driveCause i 6)).raise (driveCause i 1)).enter i .safe .f3
  else s2.enter i .catching .none

/-- What follows an evaluation of n̂ (R304, R305, R316, R319, R333, R469). -/
def State.speedFollow (s : State) (i : Fin 4) (cycle : Nat) : State :=
  let x := s.slot i
  let s1 := if s.slow i then s else s.setSlot i { x with restRun := false }
  let fast := s1.overCross i
  if s1.trip.resetHold.getLsbD i.val then (if fast then s1.raise (driveCause i 1) else s1.endHold i)
  else match x.state with
    | .off | .armed | .stopped => s1.setIf fast (driveCause i 1)
    | .discharge =>
      let s2 := s1.setIf fast (driveCause i 1)
      if s2.slow i then s2 else s2.dischargeFail i .none
    | .probe => if fast then s1.probeFast i cycle else s1
    | .catching | .run | .glide | .safe | .charge => s1

/-- n̂ of a slot at a dispatch of its task (R303). -/
def State.speedUpdate (s : State) (i : Fin 4) (cycle : Nat) : State :=
  match s.speedSource i cycle with
  | some (src, n) =>
    let s1 := s.setSlot i { s.slot i with speed := n, nsrc := src, stale := false, everSourced := true }
    (s1.selUpdate i n).speedFollow i cycle
  | none => s.setSlot i { s.slot i with nsrc := 0, stale := true }

/-- The conditions of an EMF lock but for the deadline (R312): a valid interface, or a back-EMF whose angle rates over both
halves differ by at most LOCK_TOL % of the first. -/
def State.emfLock (s : State) (i : Fin 4) (cycle : Nat) : Option (Nat × Word × Word) :=
  match (s.servingPos i).filter (fun k => s.posValid k) with
  | some k => some (2, s.posSpeedAt k cycle, s.posAngleAt k cycle false)
  | none =>
    match s.emfNow i cycle with
    | some e =>
      match e.halves with
      | some (r1, r2) =>
        if e.allHigh && withinPct (s.get (Reg.DRIVE.SLOT.CATCH_CFG.LOCK_TOL i.val)) r1 r2 then
          let p := s.emfMotion i e
          some (1, fOfRat p.1, p.2)
        else none
      | none => none
    | none => none

/-- A lock at a dispatch (R312 to R314): of a machine found still, speed and angle come from the PHV vector as well (R212); where the last
2 ms give none, the speed is 0.0 and the angle is known by nothing. -/
def State.lockCheck (s : State) (i : Fin 4) (cycle : Nat) : State :=
  let x := s.slot i
  if x.judged ≠ .catching then s
  else if x.method = 2 then
    match x.estSpeed with
    | some n =>
      if s.get (Reg.DRIVE.SLOT.CATCH_CFG.LOCK_PERIODS i.val) ≤ x.asc.agree then s.catchLock i (motionOf n) 0 n x.estAngle
      else s
    | none => s
  else
    match s.emfLock i cycle with
    | some (src, n, angle) => s.catchLock i (motionOf n) src n angle
    | none =>
      if x.stillDue then
        match s.emfNow i cycle with
        | some e => s.catchLock i 1 1 (fOfRat (s.emfMotion i e).1) (s.emfMotion i e).2
        | none =>
          let (v, s1) := s.fresh
          s1.catchLock i 1 1 f0 (v.setWidth 32)
      else s

/-- CUR_LOST (R331): any current port invalid at CUR_COUNT successive dispatches. -/
def State.curCheck (s : State) (i : Fin 4) : State :=
  let x := s.slot i
  let b := s.get (Reg.DRIVE.SLOT.CFG.CUR_BASE i.val)
  let counts := match x.state with
    | .run | .glide | .charge | .catching => true
    | _ => false
  let bad := counts && (List.range (s.get (Reg.DRIVE.SLOT.CFG.CUR_N i.val))).any (fun j => !(s.latchedPort i.val (b + j)).valid)
  let run := if bad then min (x.curRun + 1) 16 else 0
  (s.setSlot i { x with curRun := run }).setIf
    (bad && decide (s.get (Reg.DRIVE.SLOT.TIMES.CUR_COUNT i.val) ≤ run)) (driveCause i 4)

/-- What slot i evaluates at a dispatch of its program task. -/
def State.slotDispatch (s : State) (i : Fin 4) (cycle : Nat) : State :=
  if (s.slotRec i.val).enable then
    let s1 := ((s.rotSampleSlot i cycle).ascStep i cycle).speedUpdate i cycle
    let s2 := (s1.lockCheck i cycle).curCheck i
    if i = 0 then s2.ztg else s2
  else s

/-- TASK_DISPATCH (R16, R17, R161, R171, R172, R302 to R316): the first ready task dispatches into an idle engine, `wait` cycles after its
readiness, at dispatch edge `cycle`. -/
def execTaskDispatch (wait cycle : Nat) (s : State) : Host.Outcome State Fault Refusal :=
  match s.carve.running, (if s.carve.released then s.carve.waiting else []) with
  | none, t :: _ =>
    match taskSlot t with
    | some i =>
      let due := (s.slot i).pendEntry
      let s1 := ((s.entryDue i).carveDispatch t wait cycle).profApply t
      .next ((s1.entryAfter i due).slotDispatch i cycle)
    | none => .next ((s.carveDispatch t wait cycle).profApply t)
  | _, _ => .next s

/-- A real setting counts in the ESC entries that watch its cause (R378): the class reached, and whether one fired. -/
def State.escalate (s : State) (c : Cause) (cls : Nat) : Nat × State :=
  (List.range 8).foldl (fun p e =>
    let (k, t) := p
    let n := t.get (Reg.PATROL.ESC.CFG.COUNT e)
    if n ≠ 0 ∧ t.get (Reg.PATROL.ESC.CFG.GROUP e) = c.grp ∧ t.get (Reg.PATROL.ESC.CFG.BIT e) = c.bit then
      let run := t.get (Reg.PATROL.ESC.STATUS.RUN e) + 1
      if n ≤ run then
        (max k (min (t.get (Reg.PATROL.ESC.CFG.CLASS e)) 4),
          ((t.put (Reg.PATROL.ESC.STATUS.RUN e) 0).put (Reg.PATROL.ESC.STATUS.FIRED e) 1).raise ⟨0, 6⟩)
      else (k, t.put (Reg.PATROL.ESC.STATUS.RUN e) run)
    else (k, t)) (cls, s)

/-- The rank of a setting: the class at which it will be classified (R307, R377, R378). -/
def State.rank (s : State) (x : Setting) : Nat :=
  let c : Cause := ⟨x.grp, x.bit⟩
  if x.mark = .real then (s.escalate c (s.classOf c)).1 else s.classOf c

/-- A setting of class F2 or above that reaches slot i waits for its reaction: it is taken before OBS_LOST (R307, R377). -/
def State.gravePending (s : State) (i : Fin 4) : Bool :=
  s.toClassify.any (fun x => decide (x.mark ≠ .shadow) && decide (2 ≤ s.rank x) && inMask (s.slotsOf ⟨x.grp, x.bit⟩) i)

/-- OBS_LOST of class F1 acts (R306, R307): CATCH from RUN or GLIDE, once every graver setting that reaches the slot has been taken. -/
def State.obsAct (s : State) (i : Fin 4) : State :=
  let x := s.slot i
  if x.obsDue && !s.gravePending i then
    let s1 := s.setSlot i { x with obsDue := false }
    if x.state = .run ∨ x.state = .glide then s1.enter i .catching .obsLost else s1
  else s

/-- Observer loss at the END of a slot's task (R328, R329): the reaction of class F1 is CATCH, after any graver setting
of the same END; a raised class acts through Patrol. -/
def State.obsCheck (s : State) (i : Fin 4) : State :=
  let x := s.slot i
  let t : Fin 8 := ⟨i.val, by omega⟩
  if !s.flag (Reg.DRIVE.SLOT.CFG.OBS_EN i.val) || !(decide (x.state = .run) || decide (x.state = .glide)) then
    s.setSlot i { x with obsRun := 0, lastSpd := none }
  else
    let run := if s.carve.progSet.getLsbD (s.get (Reg.DRIVE.SLOT.CFG.OBS_PROG i.val)) then min (x.obsRun + 1) 16 else 0
    let v := s.outPort i.val (s.get (Reg.DRIVE.SLOT.CFG.SPD_PORT i.val))
    let at_ := (s.carve.lastAt[t]).getD 0
    let jump := match x.lastSpd with
      | some (v0, t0) =>
        decide (fRat (s.rd (Reg.DRIVE.SLOT.ACC_MAX.addr i.val)) * ((at_ - t0 : Nat) : Rat) / 300000000 < absQ (fRat v - fRat v0))
      | none => false
    let lost := decide (s.get (Reg.DRIVE.SLOT.OBS_CFG.OBS_N i.val) ≤ run) && decide (run ≠ 0) || jump
    let s1 := s.setSlot i { x with obsRun := if lost then 0 else run, lastSpd := some (v, at_) }
    if lost then
      let s2 := (s1.bump (Reg.DRIVE.SLOT.EVENTS.OBS_LOSSES i.val)).raise (driveCause i 2)
      if s2.classOf (driveCause i 2) = 1 then (s2.setSlot i { s2.slot i with obsDue := true }).obsAct i else s2
    else s1

/-- Staged output ports transfer and travel their routes (R175). -/
def State.transferOuts (s : State) : State :=
  s.carve.staged.foldl (fun u p =>
    (u.wr (Reg.CARVE.OUT.addr (p.1 / 64) (p.1 % 64)) p.2).routeVal 0x0A p.1 p.2) s

/-- END (R163, R165, R175, R176, R178, R179, R192, R328): the outputs transfer, held parameter writes apply, the causes of the run
set, the position checks of the slot run, and Slalom gets its job. -/
def execEndTask (s : State) : Host.Outcome State Fault Refusal :=
  match s.carve.running with
  | none => .next s
  | some t =>
    if s.issues 1 then
      let s0 := s.issue 1 id
      let c := s0.carve
      let cyc := min c.cycles 65535
      let o := s0.ownerOf t.val
      let at_ := (c.lastAt[t]).getD 0 + 4 + c.cycles
      let s1 := s0.transferOuts
      let s2 := { s1 with carve := { s1.carve with running := none, staged := [], endedOk := c.endedOk.set t true } }
      let s3 := ((s2.put (Reg.CARVE.TASK.CYCLES.LAST t.val) cyc).put (Reg.CARVE.TASK.CYCLES.MAX t.val)
        (max cyc (s2.get (Reg.CARVE.TASK.CYCLES.MAX t.val)))).bumpWrap (Reg.CARVE.TASK.RUNS.val t.val)
      let s4 := if c.heldRun then s3.bumpWrap (Reg.CARVE.TASK.HELD.val t.val) else s3
      let s5 := ((s4.setIf c.nonfinite (carveCause o 2)).setIf c.fl.arith (carveCause o 3)).setIf c.ipreWrote (carveCause o 4)
      let s6 := s5.applyHeld
      match taskSlot t with
      | none => .next s6
      | some i =>
        let s7 := (List.finRange 4).foldl (fun u k =>
          if u.posSlot k = some i then (u.posFreeze k i at_).posPlaus k i at_ else u) s6
        let s8 := s7.obsCheck i
        .next { s8 with carve := { s8.carve with jobs := s8.carve.jobs ++ [i] } }
    else .next s

end Sys2Proof.Machine
end

