-- ==== Sys2Proof/Machine/Reset.lean ====
section
/-! DEFINITION. Resets: what each reach restores, episodes, BLOCK resets, the supply's part, the reset log (R7, R8, R51, R52, R358,
R385, R452 to R461, R468 to R472). -/

namespace Sys2Proof.Machine

/-- A cause of the RST group (R473). -/
def rstCause (b : Nat) : Cause := ⟨45, b⟩

/-- The field takes its reset value under a reset of reach w (R7, R8): 0 POWER, 1 SYSTEM, 2 WARM, 3 BLOCK. -/
def FRow.clears (r : FRow) (w : Nat) : Bool :=
  match r.reach with
  | .power => decide (w = 0)
  | .system => decide (w ≤ 1)
  | .warm => decide (w ≤ 2)
  | .block => true
  | .const => false
  | .episode => false

/-- A register's word after a reset of reach w. -/
def resetWord (a : Nat) (x : Word) (w : Nat) : Word :=
  (rowsAt a).foldl (fun y r => if r.clears w then setBits y r.lsb r.width r.reset else y) x

/-- The registers of the blocks chosen take their reset values under reach w. -/
def State.resetRegs (s : State) (w : Nat) (inBlock : Nat → Bool) : State :=
  s.regs.foldl (fun t p => if inBlock (blockOf p.1) then t.wr p.1 (resetWord p.1 p.2 w) else t) s

/-- A staging is abandoned (R592): the bank that received it is EMPTY. -/
def State.abandon (s : State) : State :=
  if s.svc.staging.isSome then
    let other : Fin 2 := 1 - s.svc.running
    { s with svc := { s.svc with
        staging := none, banks := s.svc.banks.set other {}, states := s.svc.states.set other 0, postponed := false
        armed := none } }
  else s

/-- The armed activation is disarmed (R593). -/
def State.disarm (s : State) : State := { s with svc := { s.svc with armed := none, postponed := false } }

/-- What stands beyond the registers after a WARM reset (R7, R162, R269, R372, R455, R461, R571, R592, R593): memory, root clock,
time of day, edge domains, the hold pattern, what LAST0 latches, and what the retained SRAM and Himet's store hold. A lane whose test the
reset ends, its place taken by the spare, is the spare now (R357, R444). DESIGN CHOICE (log entry 97): the amplitude of L7 goes with POS
(R145). -/
def State.wipeWarm (s0 : State) : State :=
  let s := s0.abandon.disarm
  { s with
    piste := { replaced := s.piste.replaced, beyond := s.piste.beyond, repairs := s.piste.repairs.map (fun r => ⟨r.unit, false⟩) }
    shadowMarks := [], liveMarks := [], toClassify := [], host := {}, injs := []
    legs := s.legs.map (fun l => { hold := l.hold })
    tripIns := s.tripIns.map (fun t : TripIn => { high := t.high })
    trip := { ovCopy := s.trip.ovCopy, heldLink := s.trip.heldLink }
    slots := Vector.replicate 4 {}
    chop := {}, hkaEvents := [], taskPresc := Vector.replicate 8 0, taskDelays := []
    carve := { prog := s.carve.prog }
    ports := [], prof := Vector.replicate 4 {}, slalom := Vector.replicate 4 {}
    sdm := s.sdm.map SdmFilter.again
    phv := Vector.replicate 12 {}, dcl := {}, pos := Vector.replicate 4 {}
    chg := { fbHigh := s.chg.fbHigh, parkHigh := s.chg.parkHigh }
    edges := s.edges.map (fun e => { e with meas := {}, measSeq := 0#16, selftest := none })
    triad := { times := s.triad.times, lastIndex := s.triad.lastIndex, lastTime := s.triad.lastTime
               spare := match s.triad.spare, s.groom.bist with
                 | none, some ⟨t, .lane⟩ => some t
                 | d, _ => d }
    patrol := {}, swapping := false
    can := Vector.replicate 2 {}
    probe := {}
    groom := { s.groom with bist := none, pllWait := false, ethWait := false }
    time := { syncLast := s.time.syncLast, advance := s.time.advance }
    svc := { s.svc with liftOk := false, clean := false, response := none, swapBack := false }
    hka := { bring := s.hka.bring.map CoreBring.again }
    net := {}
    himet := { store := s.himet.store, level := if s.himet.level = 2 then 2 else 0
               debug := if s.himet.level = 2 then s.himet.debug else none }
    rst := { s.rst with waitL2 := false, block := none, stage := 0 } }

/-- The Groomer record from which a SYSTEM reset goes on (R442): the wear as written; units found faulty stay out, as do their spares' assignments,
whether or not the write of the last 100 ms has come. DEDUCED (log entry 102). -/
def GroomRec.kept (g stored : GroomRec) : GroomRec :=
  { g with wear := stored.wear, figures := stored.figures, opTime := stored.opTime, lastFail := stored.lastFail }

/-- What stands beyond the registers after a SYSTEM reset (R7, R288, R363, R364, R458, R461): the domains stay supplied under their hold-off,
where a running soft turn-off goes on to its end; a retired lane stays out. -/
def State.wipeSystem (s0 : State) : State :=
  let s := s0.wipeWarm
  { s with
    legs := Vector.replicate 32 {}
    trip := {}
    clk := {}, tod := {}, time := {}, course := {}, piste := { repairs := s.piste.repairs }
    carve := {}
    triad := {}
    edges := s.edges.map (fun e =>
      { powered := e.powered, holdoff := true, wear := e.wear, supUv := e.supUv, ot := e.ot, hot := e.hot, otw := e.otw
        latch := e.latch, out := if e.soft then e.out else .off, prot0 := e.prot0, prot1 := e.prot1, prot2 := e.prot2
        onStr := e.onStr, offStr := e.offStr, thermal := if e.soft then e.thermal else [] })
    groom := { live := s.groom.live.kept s.groom.stored, stored := s.groom.stored, filterWait := s.groom.filterWait, coreWait := s.groom.coreWait }
    svc := { s.svc with migrateFail := false, migrated := [] }
    rst := { s.rst with swapLoad := false, swapBack := false, image := 0#32 } }

/-- What stands beyond the registers after a POWER reset (R7, R458, R461): MRAM and Himet's store alone. -/
def State.wipePower (s0 : State) : State :=
  let s := s0.wipeSystem
  { s with
    edges := s.edges.map (fun e => { wear := e.wear, latch := e.latch })
    sdm := Vector.replicate 48 {}, hka := {}
    groom := { live := { s.groom.stored with lanes := s.groom.live.lanes }, stored := s.groom.stored }
    himet := { store := s.himet.store }
    rst := { sources := s.rst.sources, active := s.rst.active, fromS := s.rst.fromS, fromNs := s.rst.fromNs } }

/-- Everything inside a reach takes its reset value (R7, R8, R455, R472): TRIM_VALID falls at every assertion (R462), and a
first-level debug session closes (R571, R572). -/
def State.wipe (s : State) (w : Nat) : State :=
  let s1 := s.resetRegs w (fun _ => true)
  let s2 := match w with
    | 0 => s1.wipePower
    | 1 => s1.wipeSystem
    | _ => s1.wipeWarm
  (s2.put Reg.RST.STATUS.TRIM_VALID 0).put Reg.HIMET.STATUS.DEBUG s2.himet.level

/-- The reach of a source (R452). -/
def srcReach (src : Fin 9) : Nat := if src.val ≤ 1 then 0 else if src.val ≤ 4 then 1 else 2

/-- The hold pattern that a WARM assertion fixes for a leg (R269, R471). -/
def State.holdFor (s : State) (n : Fin 32) : Pattern :=
  let r := s.legRec n.val
  if r.trip = 0 ∧ r.slot < 4 then
    let i := Fin.ofNat 4 r.slot
    match s.trip.resetHold.getLsbD r.slot, (s.leg n).hold with
    | true, some p => p
    | _, _ => patternOf r.position (s.effective i)
  else .off

/-- W0 (R269, R467, R468): the hold pattern is fixed and OV_TRIP2 is copied; a link that stands above it already counts as a
crossing. Before the handover of a warm lift both stay as they are. -/
def State.fixHold (s : State) : State :=
  if s.life = .run then
    let above := s.dcl.crossA.getLsbD 1 || s.dcl.crossB.getLsbD 1
    let s1 := { s with
      legs := Vector.ofFn (fun n : Fin 32 => { s.leg n with hold := some (s.holdFor n) })
      trip := { s.trip with ovCopy := some (s.get Reg.SDM.DCL_OV1.OV_TRIP2) } }
    if above then s1.warmOv else s1
  else s

/-- The time of day at an assertion (R461): 0 while it is not valid. -/
def State.assertTime (s : State) : (Nat × Nat) × State :=
  if s.flag Reg.TIME.STATUS.VALID then s.now else ((0, 0), s)

/-- A reset source asserts (R455 to R458, R464): it starts an episode, or widens the one that lasts. Without supply the sources
stand until it comes; only a POWER reset leaves reset-safe. -/
def State.assertReset (s : State) (src : Fin 9) : State :=
  let bit : BitVec 9 := 1#9 <<< src.val
  let r := srcReach src
  let note (t : State) : State := { t with rst := { t.rst with active := t.rst.active ||| bit, sources := t.rst.sources ||| bit } }
  match s.life with
  | .noSupply => note s
  | .reset =>
    let s1 := note s
    if r < s.rst.reach then { s1.wipe r with rst := { (s1.wipe r).rst with reach := r } } else s1
  | _ =>
    if s.life = .resetSafe ∧ r ≠ 0 then s
    else
      let r1 := if r = 2 ∧ s.life = .lifting ∧ s.rst.reach < 2 then 1 else r
      let (t, s1) := s.assertTime
      let s2 := if r1 = 2 then s1.fixHold else s1
      let s3 := s2.wipe r1
      { s3 with
        life := .reset
        rst := { s3.rst with active := bit, sources := bit, reach := r1, fromS := t.1, fromNs := t.2 } }

/-- Himet writes the bank record of the swap under way (R595, R599). -/
def State.recordSwap (s : State) : State :=
  let v := s.svc
  let other : Fin 2 := 1 - v.running
  let st := if v.swapBack then (v.states.set v.running 6).set other 4 else (v.states.set v.running 5).set other 3
  { s with
    svc := { v with
      states := st, running := other, rollbackDue := false
      starts := if v.swapBack then v.starts else 0, trialLifts := 0 }
    rst := { s.rst with swapLoad := true, swapBack := v.swapBack } }

/-- RESET_ASSERT (R452, R455 to R458, R595): a source of the table asserts: 0 POR, 1 HOLDUP, 2 PIN, 3 HOST_SYSTEM, 4 HIMET,
5 HOST_WARM, 6 TRIAD, 7 SUP_WDOG, 8 UPDATE. The last one follows the record of a swap and asserts with no swap under way never. -/
def execResetAssert (src : Fin 9) (s : State) : Host.Outcome State Fault Refusal :=
  if src.val = 8 then
    if s.swapping then .next (s.recordSwap.assertReset 8) else .next s
  else .next (s.assertReset src)

/-- RESET_N_LOW (R453): a low of `ns`; from 100 ns to below 1.0 µs it may assert the source, as `may` says. -/
def execResetNLow (ns : Nat) (may : Bool) (s : State) : Host.Outcome State Fault Refusal :=
  if 1000 ≤ ns ∨ 100 ≤ ns ∧ may = true then .next (s.assertReset 2) else .next s

/-- Release begins (R456, R461, R472): CAUSE, REACH, the counters and the log take the episode. The lift's duration stays open until
host enable. -/
def State.release (s : State) : State :=
  let r := s.rst
  let (v, s0) := s.fresh
  let prev := if r.reach = 0 then 0 else s0.get Reg.RST.CAUSE.SOURCES
  let s1 := ((s0.put Reg.RST.CAUSE_PREV.SOURCES prev).put Reg.RST.CAUSE.SOURCES r.sources.toNat).put Reg.RST.STATUS.REACH r.reach
  let s2 := match r.reach with
    | 0 => s1
    | 1 => s1.bump Reg.RST.COUNTS.SYSTEMS
    | _ => s1.bump Reg.RST.COUNTS.WARMS
  let e : ResetEntry := ⟨r.sources, r.reach, v.toNat % 65536, r.fromS, r.fromNs⟩
  { s2 with life := .lifting, rst := { s2.rst with active := 0#9, log := (e :: s2.rst.log).take 16 } }

/-- RESET_RELEASE (R456): the last asserted source has released, and 64 cycles have passed. -/
def execResetRelease (s : State) : Host.Outcome State Fault Refusal :=
  if s.life = .reset then .next s.release else .next s

/-- POWER_ON (R51, R465): AUX_IN rises through 15.0 V on an unsupplied module; the power-on reset releases, and with it the source of
a hold-up that ended. -/
def execPowerOn (s : State) : Host.Outcome State Fault Refusal :=
  if s.life = .noSupply then
    let a := s.rst.active &&& 0x1FC#9
    let s1 := { s with
      supply := { s.supply with holdup := false }
      rst := { s.rst with sources := s.rst.sources ||| 1#9, active := a, reach := 0 }
      life := .reset }
    .next (if a = 0#9 then s1.release else s1)
  else .next s

/-- HOLDUP_END (R51, R52, R458): the capacitor falls below its minimum; a POWER reset follows and the module is unsupplied, so the
power-on source stands too, beside every source that the running episode holds already (R456). -/
def execHoldupEnd (s : State) : Host.Outcome State Fault Refusal :=
  if s.supply.holdup = true ∧ s.life ≠ .noSupply then
    let s1 := s.assertReset 1
    .next { s1 with
      life := .noSupply
      supply := { below16 := true }
      rst := { s1.rst with active := s1.rst.active ||| 3#9, sources := s1.rst.sources ||| 3#9, reach := 0 } }
  else .next s

/-- TRIAD_WARM_RESET (R358): 1 µs after a DOUBLE. -/
def execTriadWarmReset (s : State) : Host.Outcome State Fault Refusal :=
  if s.triad.resetDue then .next (s.assertReset 6) else .next s

/-- SUP_WDOG_RESET (R385): 1 ms after SUP_WDOG. -/
def execSupWdogReset (s : State) : Host.Outcome State Fault Refusal :=
  if s.patrol.supDue then .next (s.assertReset 7) else .next s

/-- The key of RST.CMD (R454). -/
abbrev rstKey : BitVec 8 := 0xA5#8

/-- RST_WARM (R454): a wrong KEY has no effect and sets STATE_DENIED. -/
def execRstWarm (key : BitVec 8) (s : State) : Host.Outcome State Fault Refusal :=
  if key = rstKey then .next ((s.status Reg.RST.CMD_STATUS.addr codeOk).assertReset 5) else .next (s.raise (rstCause 5))

/-- RST_SYSTEM (R454): every slot OFF or STOPPED and every enabled one below STANDSTILL_SPEED. -/
def execRstSystem (key : BitVec 8) (s : State) : Host.Outcome State Fault Refusal :=
  if key ≠ rstKey then .next (s.raise (rstCause 5))
  else if s.allResting && (List.finRange 4).all (fun i => !(s.slotRec i.val).enable || s.slow i) then
    .next ((s.status Reg.RST.CMD_STATUS.addr codeOk).assertReset 3)
  else .next (s.deny Reg.RST.CMD_STATUS.addr (rstCause 5))

/-- The blocks that a BLOCK reset may take, without a guard and with every slot at rest (R459). -/
def State.blockAllowed (s : State) (n : Nat) : Bool :=
  [13, 19, 20, 22, 23].contains n || ([10, 12, 14, 15, 16, 17, 18].contains n && s.allResting)

/-- A filter, a PHV or a DCL channel is enabled (R126). -/
def State.sdmRuns (s : State) : Bool :=
  s.flag Reg.SDM.PHV_CFG.ENABLE || s.flag Reg.SDM.DCL_CFG.ENABLE || (List.range 48).any (fun n => s.flag (Reg.SDM.F.CFG.ENABLE n))

/-- A block is idle (R459): bit n of RST.IDLE. `writing` says that an enabled channel of the SDM writes a
result, or that a CAN controller receives a frame, which no other state shows. -/
def State.blockIdle (s : State) (writing : Bool) (n : Nat) : Bool :=
  match n with
  | 10 => !s.flag Reg.PWM.GLOBAL.LOADALL.val &&
      s.legs.toList.all (fun l => l.armed.isNone && l.fixed.isNone && l.following.isNone && !l.latePend)
  | 12 => !(writing && s.sdmRuns)
  | 13 => s.hka.seqs.toList.all (fun q => decide (q.phase = .idle))
  | 14 => s.pos.toList.all (fun p => !p.frameRun)
  | 15 => s.carve.running.isNone && s.carve.waiting.isEmpty && s.carve.notReady.isEmpty
  | 16 => s.carve.jobs.isEmpty && s.slalom.toList.all (fun x => !x.rotBusy)
  | 17 => s.prof.toList.all (fun p => p.step.isNone)
  | 18 => s.slots.toList.all (fun x => x.pendEntry.isNone && decide (x.state ≠ .discharge)) && !s.chop.req && !s.chop.dischReq
  | 19 => !s.flag (Reg.CAN.STATUS.TX_BUSY 0) && !(writing && s.mayReceive 0)
  | 20 => !s.flag (Reg.CAN.STATUS.TX_BUSY 1) && !(writing && s.mayReceive 1)
  | 23 => decide (s.probe.task = .none)
  | _ => true

/-- The causes of some groups are no sources of trip groups any more. -/
def State.dropPresent (s : State) (gs : List Nat) : State :=
  { s with trip := { s.trip with present := s.trip.present.filter (fun p => !(gs.contains p.1)) } }

/-- A block's working state under a BLOCK reset (R7, R8, R459): what its registers marked WARM show stays. -/
def State.wipeBlock (s : State) (n : Nat) : State :=
  match n with
  | 10 =>
    let leg (l : Leg) : Leg := { l with
      counting := false, nextPeriod := none, fixed := none, following := none, followLate := false, loadAll := false, outA := {}, outB := {}
      presc := Vector.replicate 6 0, episodes := 0 }
    let s1 := { s with legs := s.legs.map leg, tripIns := s.tripIns.map (fun t : TripIn => { high := t.high }) }
    State.reforce { s1 with trip := { s1.trip with held := [], present := s1.trip.present.filter (fun p => p.1 != 3) } }
  | 12 => State.dropPresent { s with
      sdm := s.sdm.map SdmFilter.again
      phv := Vector.replicate 12 {}, dcl := {} } [20, 21, 22]
  | 13 => State.dropPresent (State.trkZero { s with hka := { bring := s.hka.bring.map CoreBring.again }, hkaEvents := [] }) [23]
  | 14 => State.dropPresent { s with pos := Vector.replicate 4 {} } [24, 25, 26, 27]
  | 15 => { s with carve := { s.carve with heldParams := [], prevSeq := [], seqs := [], lastAt := Vector.replicate 8 none } }
  | 16 => { s with slalom := s.slalom.map (fun x : SlalomSt => { mode := x.mode, rotSpeed := x.rotSpeed, rotAngle := x.rotAngle }) }
  | 17 => { s with prof := Vector.replicate 4 {} }
  | 18 =>
    let slot (x : Slot) : Slot := { x with
      origin := .off, probeRes := 0, unsure := 0, formerReason := .none, glideNext := false, episode := false, restRun := false
      obsRun := 0, obsDue := false, lastSpd := none, curRun := 0, estSpeed := none, estAngle := 0#32, ovHold := false, asc := {} }
    let c := s.chg
    State.dropPresent { s with
      slots := s.slots.map slot, chop := { friction := s.chop.friction }
      chg := { fbHigh := c.fbHigh, parkHigh := c.parkHigh, phase := c.phase, ctrLow := c.ctrLow, rms := c.rms, freq := c.freq
               seqPos := c.seqPos, guard := c.guard } } [34, 35, 36, 37]
  | 22 => s.abandon.disarm
  | 23 => { s with probe := { mid := s.probe.mid } }
  | _ => s

/-- RST_BLOCK (R454, R459): the checks in their order. -/
def execRstBlock (block : Fin 32) (key : BitVec 8) (s : State) : Host.Outcome State Fault Refusal :=
  let n := block.val
  if key ≠ rstKey then .next (s.raise (rstCause 5))
  else if !s.blockAllowed n || s.rst.block.isSome then .next (s.deny Reg.RST.CMD_STATUS.addr (rstCause 5))
  else
    let (v, s0) := s.fresh
    if s0.blockIdle (v.getLsbD 0) n then
      let s1 := (s0.status Reg.RST.CMD_STATUS.addr codeOk).resetRegs 3 (fun b => b == n)
      let s2 := s1.wipeBlock n
      .next { s2 with rst := { s2.rst with block := some n } }
    else .next ((s0.status Reg.RST.CMD_STATUS.addr codeBlockBusy).raise (rstCause 4))

/-- A sequence whose core is faulty gets the spare, or stops where none is left (R417, R442). -/
def State.deadSeqs (s : State) : State :=
  (List.range 8).foldl (fun t q =>
    if t.groom.live.cores.contains (t.groom.live.coreFor q) && !t.hka.bring.any (fun b => b.seq == q) then
      match t.spareCore with
      | some d => t.assignCore d q
      | none => t.setDead q true
    else t) s

/-- The indices whose filter is faulty, in no bring-in and not waiting, wait for a spare while one is left (R442). -/
def State.faultyFilters (s : State) : State :=
  let l := ((List.finRange 48).filter (fun n => s.groom.live.badFilters.contains (s.groom.live.unitOf n.val) && s.sdm[n].spare.isNone &&
    !s.groom.filterWait.contains n.val)).map (fun n => n.val)
  { s with groom := { s.groom with filterWait := s.groom.filterWait ++ l.take (s.freeFilters.length - s.groom.filterWait.length) } }

/-- What a reset has left without its spare is served (R442, R445). -/
def State.resumeSpares (s : State) : State := s.coreServe.deadSeqs.faultyFilters.showFilters.nextFilter 52

/-- BLOCK_DONE (R88, R177, R459): the BLOCKCFG records of the block are written again and it is released. -/
def execBlockDone (s : State) : Host.Outcome State Fault Refusal :=
  match s.rst.block with
  | none => .next s
  | some n =>
    let s1 := State.applyBlock { s with rst := { s.rst with block := none } } n
    let s2 := if n = 15 then s1.loadParams else if n = 13 then s1.deadSeqs else s1
    .next (s2.raise (rstCause 3))

/-- RESET_HOLD_ESTIMATE_TIMEOUT (R469, R470): 20 ms after handover, the ASC estimator of a slot under a reset hold gives 0.0 rpm when
it has no estimate. -/
def execResetHoldEstimateTimeout (i : Fin 4) (s : State) : Host.Outcome State Fault Refusal :=
  if s.trip.resetHold.getLsbD i.val = true ∧ s.ascOn i = true ∧ (s.slot i).estSpeed.isNone = true then
    let s1 := s.setSlot i { s.slot i with speed := f0, nsrc := 3, estSpeed := some f0, stale := false, everSourced := true }
    .next ((s1.selUpdate i f0).speedFollow i 0)
  else .next s

/-- RST_LOG_SELECT (R472): a write to LOG_SEL latches the entry. -/
def execRstLogSelect (index : Fin 16) (s : State) : Host.Outcome State Fault Refusal :=
  let s1 := s.put Reg.RST.LOG_SEL.INDEX index.val
  match s.rst.log[index.val]? with
  | some e =>
    .next (((s1.wr Reg.RST.LOG_CAUSE.addr (BitVec.ofNat 32 (e.sources.toNat + e.reach * 512 + 2048 + e.lift * 65536))).wr
      Reg.RST.LOG_TIME_S.addr (BitVec.ofNat 32 e.timeS)).wr Reg.RST.LOG_TIME_NS.addr (BitVec.ofNat 32 e.timeNs))
  | none => .next (((s1.wr Reg.RST.LOG_CAUSE.addr 0#32).wr Reg.RST.LOG_TIME_S.addr 0#32).wr Reg.RST.LOG_TIME_NS.addr 0#32)

end Sys2Proof.Machine
end

