-- ==== Sys2Proof/Machine/Himet.lean ====
section
/-! DEFINITION. Himet: challenges, tokens, sessions, attestation, the store and random numbers (chapter 21). -/

namespace Sys2Proof.Machine

/-- A cause of the HIMET group (R582). -/
def himetCause (b : Nat) : Cause := ⟨6, b⟩

/-- A Himet command is refused (R387, R582). -/
def State.himetDeny (s : State) : State := s.deny Reg.HIMET.CMD_STATUS.addr (himetCause 14)

/-- A Himet command is accepted while no operation runs and the store is whole (R562, R578). -/
def State.himetCmd (s : State) (ok : Bool) (act : State → State) : Host.Outcome State Fault Refusal :=
  if ok && !s.flag Reg.HIMET.STATUS.BUSY && !s.flag Reg.HIMET.STATUS.STORE_FAIL then
    .next (act (s.status Reg.HIMET.CMD_STATUS.addr codeOk))
  else .next s.himetDeny

/-- Replace the store. -/
def State.setStore (s : State) (x : HimetStore) : State := { s with himet := { s.himet with store := x } }

/-- HIMET.OWNER_ID (R569). -/
def HimetStore.ownerId (x : HimetStore) : BitVec 256 := if x.owned then shake256 x.owner else 0#256

/-- The registers that show the store (R569, R581). -/
def State.showStore (s : State) : State :=
  let x := s.himet.store
  let s1 := ((s.put Reg.HIMET.STATUS.OWN (b2n x.owned)).put Reg.HIMET.STATUS.LOCKED (b2n x.locked)).put
    Reg.HIMET.STATUS.CK_CUR (b2n x.ckCur.isSome)
  let s2 := s1.put Reg.HIMET.STATUS.CK_PREV (b2n x.ckPrev.isSome)
  let s3 := (List.finRange 3).foldl (fun t c => t.wr (Reg.HIMET.CTR.addr c.val) x.ctr[c]) s2
  s3.putDigest (Reg.HIMET.OWNER_ID.addr 0) x.ownerId

/-- The mailbox is cleared (R568). -/
def State.clearMailbox (s : State) : State :=
  let a := Reg.HIMET.MBOX.addr 0
  State.put { s with regs := s.regs.filter (fun p => !(decide (a ≤ p.1) && decide (p.1 < a + 8192))) } Reg.HIMET.MBOX_LEN.LEN 0

/-- The first n bytes of the mailbox. -/
def State.mailbox (s : State) (n : Nat) : List Byte :=
  ((List.range ((n + 3) / 4)).flatMap (fun i => leBytes 4 (s.rd (Reg.HIMET.MBOX.addr i)).toNat)).take n

/-- Bytes are placed in the mailbox. -/
def State.fillMailbox (s : State) (b : List Byte) : State :=
  ((List.range ((b.length + 3) / 4)).foldl (fun t i => t.wr (Reg.HIMET.MBOX.addr i) (wordAt b (4 * i))) s).put
    Reg.HIMET.MBOX_LEN.LEN b.length

/-- NONCE reads zeros, and no nonce is valid (R566). -/
def State.dropNonce (s : State) : State :=
  State.putDigest { s with himet := { s.himet with nonce := false } } (Reg.HIMET.NONCE.addr 0) 0#256

/-- 256 fresh bits of the TRNG. -/
def State.draw (s : State) : BitVec 256 × State :=
  let (a, s1) := s.fresh
  let (b, s2) := s1.fresh
  let (c, s3) := s2.fresh
  let (d, s4) := s3.fresh
  (a ++ b ++ c ++ d, s4)

/-- CHALLENGE (R566). -/
def execChallenge (s : State) : Host.Outcome State Fault Refusal :=
  s.himetCmd (s.flag Reg.HIMET.STATUS.TRNG_OK) (fun t =>
    let (n, u) := t.draw
    State.putDigest { u with himet := { u.himet with nonce := true } } (Reg.HIMET.NONCE.addr 0) n)

/-- NONCE_EXPIRY (R566). -/
def execNonceExpiry (s : State) : Host.Outcome State Fault Refusal := .next s.dropNonce

/-- Fields of a token (R567). -/
def tokKind (b : List Byte) : Nat := leAt b 5 1
/-- KEY_SLOT of a token. -/
def tokSlot (b : List Byte) : Nat := leAt b 6 1
/-- ARG0 of a token. -/
def tokArg0 (b : List Byte) : Nat := leAt b 0x30 4
/-- ARG1 of a token. -/
def tokArg1 (b : List Byte) : Nat := leAt b 0x34 4
/-- PLEN of a token. -/
def tokPlen (b : List Byte) : Nat := leAt b 0x38 4
/-- The payload of a token. -/
def tokPayload (b : List Byte) : List Byte := slice b 0x40 (tokPlen b)

/-- Check 2 of R568: the format of a token of `len` bytes. -/
def tokFormat (b : List Byte) (len : Nat) : Bool :=
  decide (b.take 4 = [0x47#8, 0x51#8, 0x54#8, 0x4B#8] ∧ leAt b 4 1 = 1 ∧ leAt b 7 1 = 0 ∧ leAt b 0x3C 4 = 0 ∧
    tokPlen b ≤ 2048 ∧ len = 0x40 + tokPlen b + 3309)

/-- No course key is present (R569). -/
def HimetStore.noKey (x : HimetStore) : Bool := x.ckCur.isNone && x.ckPrev.isNone

/-- Every slot OFF. -/
def State.allOff (s : State) : Bool := s.slots.toList.all (fun x => decide (x.state = .off))

/-- Both DC-link results lie below 60 V (R573). -/
def State.dcBelow60 (s : State) : Bool := fLt s.dcl.a.res 0x42700000#32 && fLt s.dcl.b.res 0x42700000#32

/-- Check 6 of R568: ownership, lock and slot states allow the kind (R569, R570, R572, R573). -/
def State.tokAllowed (s : State) (b : List Byte) : Bool :=
  let x := s.himet.store
  match tokKind b with
  | 0x01 => !x.owned
  | 0x02 => x.owned
  | 0x03 => x.owned && decide (x.ownerNext ≠ [])
  | 0x04 => x.owned && !x.locked
  | 0x05 => x.owned && !x.locked && s.allResting
  | 0x06 => x.owned
  | 0x07 => x.owned
  | 0x08 => x.owned && (decide (tokPlen b ≠ 32) || (!x.locked && x.noKey))
  | 0x0B => !x.locked && (match tokArg0 b with
    | 1 => s.allResting
    | 2 => !x.owned && s.allOff && s.dcBelow60
    | _ => true)
  | _ => true

/-- Owner authority (R557). -/
def HimetStore.authority (x : HimetStore) : Nat := if x.owned then 3 else 1

/-- The KEY_SLOT that R569 names for a token; none for arguments without one. -/
def HimetStore.slotFor (x : HimetStore) (b : List Byte) : Option Nat :=
  match tokKind b with
  | 0x01 => some 0xFE
  | 0x03 => some 4
  | 0x09 => match tokArg0 b with
    | 0 => some 0
    | 1 => some x.authority
    | 2 => some x.authority
    | _ => none
  | 0x0A => some x.authority
  | 0x0B => match tokArg0 b with
    | 1 => some x.authority
    | 2 => some 2
    | _ => none
  | _ => some 3

/-- The public key in a slot (R557); none where it is empty. -/
def HimetStore.keyOf (x : HimetStore) (slot : Nat) : Option (List Byte) :=
  match slot with
  | 0 => some (slice (Config.rootKey 0) 0 1952)
  | 1 => some (slice (Config.rootKey 1) 0 1952)
  | 2 => some (slice (Config.rootKey 2) 0 1952)
  | 3 => if x.owned then some x.owner else none
  | 4 => if x.ownerNext = [] then none else some x.ownerNext
  | 5 => some (slice Config.identityKey 0 1952)
  | _ => none

/-- The key that verifies a token. -/
def HimetStore.tokKey (x : HimetStore) (b : List Byte) : Option (List Byte) :=
  if tokSlot b = 0xFE then some (tokPayload b) else x.keyOf (tokSlot b)

/-- Checks 1 to 7 of R568: the result of the first that fails. -/
def State.tokEarly (s : State) (b : List Byte) (len : Nat) : Option Nat :=
  if !s.himet.nonce then some 0x02
  else if !tokFormat b len then some 0x03
  else if leAt b 8 8 ≠ Config.serial.toNat then some 0x04
  else if digestOf (slice b 0x10 32) ≠ s.readDigest (Reg.HIMET.NONCE.addr 0) then some 0x05
  else if tokKind b = 0 ∨ 0x0B < tokKind b then some 0x06
  else if !s.tokAllowed b then some 0x07
  else if s.himet.store.slotFor b ≠ some (tokSlot b) ∨ (s.himet.store.tokKey b).isNone = true then some 0x08
  else none

/-- Check 8 of R568 (R560, R567). -/
def State.tokSigned (s : State) (b : List Byte) : Bool :=
  let n := 0x40 + tokPlen b
  match s.himet.store.tokKey b with
  | some k => mldsaVerify k (digestBytes (shake256 (b.take n))) (slice b n 3309)
  | none => false

/-- The course key that a CK_LOAD brings (R569); none when its payload does not hold one. -/
def HimetStore.newKey (x : HimetStore) (b : List Byte) : Option (List Byte) :=
  let p := tokPayload b
  if tokPlen b = 32 then some p
  else if tokPlen b = 60 then
    match x.ckCur with
    | some k => (aesGcmOpen k (slice p 0 12) (slice p 12 32) (slice p 44 16) (b.take 0x40)).map (fun y => slice y 0 32)
    | none => none
  else none

/-- SEC_VERSION of the image of a kind in the running bank (R565, R569): 0 firmware, 1 course, 2 parameter set. -/
def State.secVersion (s : State) (kind : Nat) : Nat :=
  let k := s.svc.banks[s.svc.running]
  match kind with
  | 0 => leAt k.firmware 0x10 4
  | 1 => leAt k.course 0x10 4
  | _ => leAt k.params 12 4

/-- Check 9 of R568 (R569). -/
def State.tokMeets (s : State) (b : List Byte) : Bool :=
  let time := decide (1 ≤ tokArg1 b ∧ tokArg1 b ≤ 28800)
  match tokKind b with
  | 0x01 => decide (tokPlen b = 1952)
  | 0x02 => decide (tokPlen b = 1952)
  | 0x04 => decide (tokPlen b = 1952)
  | 0x08 => (s.himet.store.newKey b).isSome
  | 0x09 => decide ((s.himet.store.ctr[Fin.ofNat 3 (tokArg0 b)]).toNat ≤ tokArg1 b ∧ tokArg1 b ≤ s.secVersion (tokArg0 b))
  | 0x0A => time
  | 0x0B => time
  | _ => decide (tokPlen b = 0)

/-- The test session closes (R393, R571). -/
def State.closeTest (s : State) : State :=
  if s.himet.test.isSome then
    let s1 := State.put { s with himet := { s.himet with test := none } } Reg.HIMET.STATUS.TEST 0
    s1.abortLive.raise (himetCause 3)
  else s

/-- A debug session of the first level closes (R572). -/
def State.closeDebugOne (s : State) : State :=
  if s.himet.level = 1 then State.put { s with himet := { s.himet with debug := none, level := 0 } } Reg.HIMET.STATUS.DEBUG 0 else s

/-- The store takes a change of ownership (R569). -/
def State.ownerSet (s : State) (x : HimetStore) : State := ((s.setStore x).showStore).raise (himetCause 5)

/-- The course keys are cleared (R569). -/
def State.dropKeys (s : State) : State :=
  let x := s.himet.store
  if x.noKey then s else ((s.setStore { x with ckCur := none, ckPrev := none }).showStore).raise (himetCause 7)

/-- A counter is raised (R565). -/
def State.raiseCounter (s : State) (c : Fin 3) (v : Nat) : State :=
  let x := s.himet.store
  if (x.ctr[c]).toNat < v then ((s.setStore { x with ctr := x.ctr.set c (BitVec.ofNat 32 v) }).showStore).raise (himetCause 8)
  else s

/-- The owner lock changes (R569). -/
def State.setLocked (s : State) (v : Bool) : State :=
  let x := s.himet.store
  if x.locked = v then s else ((s.setStore { x with locked := v }).showStore).raise (himetCause 6)

/-- A debug session opens (R572, R573): the second level follows a SYSTEM reset. -/
def State.openDebug (s : State) (level secs : Nat) : State :=
  if level = 2 then
    let s1 := s.closeTest
    State.assertReset { s1 with himet := { s1.himet with debug := some (0, secs), level := 2 } } 4
  else
    (State.put { s with himet := { s.himet with debug := some (s.clk.epochs, secs), level := 1 } } Reg.HIMET.STATUS.DEBUG 1).raise
      (himetCause 4)

/-- The effect of an accepted token (R569): TRANSFER and RELEASE close a test session, and a debug session of the first level as it (R571,
R572). -/
def State.tokEffect (s : State) (b : List Byte) : State :=
  let x := s.himet.store
  match tokKind b with
  | 0x01 => s.ownerSet { x with owned := true, owner := tokPayload b }
  | 0x02 => s.setStore { x with ownerNext := tokPayload b }
  | 0x03 => (s.setStore { x with owner := x.ownerNext, ownerNext := [] }).showStore
  | 0x04 => ((s.dropKeys.ownerSet { s.dropKeys.himet.store with owner := tokPayload b, ownerNext := [] })).closeTest.closeDebugOne
  | 0x05 => ((s.dropKeys.ownerSet { s.dropKeys.himet.store with owned := false, owner := [], ownerNext := [] })).closeTest.closeDebugOne
  | 0x06 => s.setLocked true
  | 0x07 => s.setLocked false
  | 0x08 => ((s.setStore { x with ckPrev := x.ckCur, ckCur := x.newKey b }).showStore).raise (himetCause 7)
  | 0x09 => s.raiseCounter (Fin.ofNat 3 (tokArg0 b)) (tokArg1 b)
  | 0x0A =>
    let s1 := State.put { s with himet := { s.himet with test := some (s.clk.epochs, tokArg1 b) } } Reg.HIMET.STATUS.TEST 1
    s1.setIf s.himet.test.isNone (himetCause 2)
  | _ => s.openDebug (tokArg0 b) (tokArg1 b)

/-- The result of a token (R568): AUTH_STATUS, AUTH_OK or AUTH_FAIL, and the mailbox cleared. -/
def State.tokResult (s : State) (b : List Byte) (r : Nat) : State :=
  let s1 := ((s.put Reg.HIMET.AUTH_STATUS.RESULT r).put Reg.HIMET.AUTH_STATUS.KIND (tokKind b)).bumpWrap
    Reg.HIMET.AUTH_STATUS.SEQ
  (s1.raise (himetCause (if r = 1 then 0 else 1))).clearMailbox

/-- AUTH (R562, R566, R568): checks 1 to 7 at once; then the verification runs. The nonce is consumed. -/
def execAuth (s : State) : Host.Outcome State Fault Refusal :=
  s.himetCmd true (fun t =>
    let len := t.get Reg.HIMET.MBOX_LEN.LEN
    let b := t.mailbox (max len 0x40)
    match t.tokEarly b len with
    | some r => (t.dropNonce).tokResult b r
    | none =>
      let u := t.dropNonce
      State.put { u with himet := { u.himet with op := some (.auth b) } } Reg.HIMET.STATUS.BUSY 1)

/-- The running operation is over. -/
def State.opDone (s : State) : State := State.put { s with himet := { s.himet with op := none } } Reg.HIMET.STATUS.BUSY 0

/-- A token meets checks 8 to 10 of R568 and takes effect. -/
def State.tokFinish (s : State) (b : List Byte) (storeOk : Bool) : State :=
  let s1 := s.opDone
  if !s.tokSigned b then s1.tokResult b 0x09
  else if !s.tokMeets b then s1.tokResult b 0x0A
  else if !storeOk then s1.tokResult b 0x0B
  else (s1.tokResult b 0x01).tokEffect b

/-- The signed report is placed in the mailbox (R576, R577). -/
def State.attestFinish (s : State) (body : List Byte) : State :=
  let (v, s1) := s.opDone.fresh
  let sig := slice (Config.mldsaSign (digestBytes (shake256 body)) v) 0 3309
  (s1.fillMailbox (body ++ sig)).raise (himetCause 12)

/-- HIMET_OPERATION_END (R562, R568, R576): `storeOk` says that the store write of a token completes. -/
def execHimetOperationEnd (storeOk : Bool) (s : State) : Host.Outcome State Fault Refusal :=
  match s.himet.op with
  | none => .next s
  | some (.auth b) => .next (s.tokFinish b storeOk)
  | some (.attest body) => .next (s.attestFinish body)

/-- The verification of a token of the given kind ends, and its store write completes (R568, R569). -/
def State.tokenEnds (s : State) (kind : Nat) : Host.Outcome State Fault Refusal :=
  match s.himet.op with
  | some (.auth b) => if tokKind b = kind then .next (s.tokFinish b true) else .next s
  | _ => .next s

/-- ENROL (R569). -/
def execEnrol (s : State) : Host.Outcome State Fault Refusal := s.tokenEnds 0x01
/-- OWNER_NEXT (R569). -/
def execOwnerNext (s : State) : Host.Outcome State Fault Refusal := s.tokenEnds 0x02
/-- ROTATE (R569). -/
def execRotate (s : State) : Host.Outcome State Fault Refusal := s.tokenEnds 0x03
/-- TRANSFER (R569). -/
def execTransfer (s : State) : Host.Outcome State Fault Refusal := s.tokenEnds 0x04
/-- RELEASE (R569). -/
def execReleaseToken (s : State) : Host.Outcome State Fault Refusal := s.tokenEnds 0x05
/-- LOCK (R569). -/
def execLockToken (s : State) : Host.Outcome State Fault Refusal := s.tokenEnds 0x06
/-- UNLOCK (R569). -/
def execUnlockToken (s : State) : Host.Outcome State Fault Refusal := s.tokenEnds 0x07
/-- CK_LOAD (R569). -/
def execCkLoad (s : State) : Host.Outcome State Fault Refusal := s.tokenEnds 0x08
/-- FLOOR (R569). -/
def execFloor (s : State) : Host.Outcome State Fault Refusal := s.tokenEnds 0x09
/-- TEST (R569, R571). -/
def execTestToken (s : State) : Host.Outcome State Fault Refusal := s.tokenEnds 0x0A
/-- DEBUG (R569, R572, R573). -/
def execDebug (s : State) : Host.Outcome State Fault Refusal := s.tokenEnds 0x0B

/-- REV_DIGIT of the unit, 1 to 9 (R1). -/
def revDigit : Nat := Config.revSeed.toNat % 9 + 1

/-- The body of a report (R576); `t` and `frac` give the time of day at the command. -/
def State.report (s : State) (t : Nat × Nat) (frac : Nat) : List Byte :=
  let x := s.himet.store
  let flags := b2n (s.flag Reg.TIME.STATUS.VALID) + b2n x.owned * 2 + b2n x.locked * 4 + b2n s.himet.test.isSome * 8 +
    s.himet.level % 4 * 16 + b2n (!x.noKey) * 64
  let cd := if s.courseActive then s.readDigest (Reg.PISTE.CDIGEST.addr 0) else 0#256
  [0x47#8, 0x51#8, 0x41#8, 0x52#8, 0x01#8] ++ leBytes 1 flags ++ leBytes 2 0x6480 ++ leBytes 1 0x41 ++ leBytes 1 revDigit ++
    leBytes 2 0 ++ leBytes 8 Config.serial.toNat ++ digestBytes (s.readDigest (Reg.HIMET.QNONCE.addr 0)) ++
    leBytes 6 t.1 ++ leBytes 4 t.2 ++ leBytes 2 frac ++ digestBytes (s.readDigest (Reg.SVC.FWDIGEST.addr 0)) ++
    digestBytes cd ++ digestBytes (s.readDigest (Reg.SVC.PDIGEST.addr 0)) ++
    digestBytes (s.readDigest (Reg.PISTE.FPRINT.addr 0)) ++ digestBytes x.ownerId ++
    x.ctr.toList.flatMap (fun c => leBytes 4 c.toNat) ++ leBytes 4 x.lifts ++ leBytes 16 0

/-- ATTEST (R562, R576, R577): the report holds the state at the command. -/
def execAttest (s : State) : Host.Outcome State Fault Refusal :=
  s.himetCmd (s.flag Reg.HIMET.STATUS.TRNG_OK) (fun u =>
    let (t, u1) := u.now
    let (f, u2) := u1.fresh
    let body := u2.report t (f.toNat % 65536)
    State.put { u2 with himet := { u2.himet with op := some (.attest body) } } Reg.HIMET.STATUS.BUSY 1)

/-- The identity certificate (R559). -/
def certificate : List Byte :=
  [0x47#8, 0x51#8, 0x49#8, 0x43#8, 0x01#8, 0x01#8] ++ leBytes 2 0x6480 ++ leBytes 8 Config.serial.toNat ++
    slice Config.identityCert 16 16 ++ slice Config.identityKey 0 1952 ++ slice Config.identityCert 1984 3309

/-- READ_CERT (R559). -/
def execReadCert (s : State) : Host.Outcome State Fault Refusal := s.himetCmd true (fun t => t.fillMailbox certificate)

/-- READ_KEY (R577): an empty slot, or a number beyond 5, gives no key. -/
def execReadKey (slot : Fin 8) (s : State) : Host.Outcome State Fault Refusal :=
  s.himetCmd true (fun t => match t.himet.store.keyOf slot.val with
    | some k => t.fillMailbox (slice k 0 1952)
    | none => t.put Reg.HIMET.MBOX_LEN.LEN 0)

/-- CLOSE_TEST (R571). -/
def execCloseTest (s : State) : Host.Outcome State Fault Refusal := s.himetCmd true (fun t => t.closeTest)

/-- The debug session ends (R572, R573): one of the second level with a SYSTEM reset. -/
def State.endDebug (s : State) : State :=
  match s.himet.level with
  | 0 => s
  | 1 => s.closeDebugOne
  | _ => State.assertReset { s with himet := { s.himet with debug := none, level := 0 } } 4

/-- CLOSE_DEBUG (R572, R573): a session of the second level takes it through the debug port, with the host port off. -/
def execCloseDebug (s : State) : Host.Outcome State Fault Refusal :=
  if s.himet.level = 2 then .next s.endDebug else s.himetCmd true (fun t => t.endDebug)

/-- TEST_SESSION_EXPIRY (R571). -/
def execTestSessionExpiry (s : State) : Host.Outcome State Fault Refusal := .next s.closeTest

/-- DEBUG_SESSION_EXPIRY (R573). -/
def execDebugSessionExpiry (s : State) : Host.Outcome State Fault Refusal := .next s.endDebug

/-- DEBUG_LINK_RISE (R573). -/
def execDebugLinkRise (s : State) : Host.Outcome State Fault Refusal :=
  if s.himet.level = 2 then .next s.endDebug else .next s

/-- The reset that a lost record asks for, once every slot rests below STANDSTILL_SPEED (R578); STORE_CHECK looks (DESIGN CHOICE, log entry
91). -/
def State.storeReset (s : State) : State :=
  if s.himet.resetDue && decide (s.life = .run) && s.allResting && (List.finRange 4).all (fun i => s.slow i) then s.assertReset 4
  else s

/-- STORE_CHECK (R578, R580): `fixed` says that a record had one bad copy, `lost` that a key, ownership, course-key or counter
record had two. -/
def execStoreCheck (fixed lost : Bool) (s : State) : Host.Outcome State Fault Refusal :=
  let s1 := match (s.injAt Reg.HIMET.INJ_STATUS.addr).filter (fun i => decide (i.target = 1)) with
    | some i => (s.setCauseM (himetCause 9) .shadow).injEnd i.ctrl codePass
    | none => s
  let s2 := s1.setIf fixed (himetCause 9)
  let s3 := if lost then State.raise (State.put { s2 with himet := { s2.himet with resetDue := true } }
    Reg.HIMET.STATUS.STORE_FAIL 1) (himetCause 10) else s2
  .next s3.storeReset

/-- TRNG_FAIL (R579). -/
def execTrngFail (s : State) : Host.Outcome State Fault Refusal :=
  .next ((s.put Reg.HIMET.STATUS.TRNG_OK 0).raise (himetCause 11))

/-- TRNG_RECOVER (R579). -/
def execTrngRecover (s : State) : Host.Outcome State Fault Refusal := .next (s.put Reg.HIMET.STATUS.TRNG_OK 1)

/-- RANDOM_READ (R579). -/
def execRandomRead (s : State) : Host.Outcome State Fault Refusal :=
  if s.flag Reg.HIMET.STATUS.TRNG_OK then
    let (v, s1) := s.fresh
    .next (s1.wr Reg.HIMET.RANDOM.addr (v.setWidth 32))
  else .next (s.wr Reg.HIMET.RANDOM.addr 0#32)

/-- HIMET_INJECT (R580): 0 TRNG health, 1 store check, 2 verifier. -/
def execHimetInject (cls : Nat) (s : State) : Host.Outcome State Fault Refusal :=
  let t := s.get Reg.HIMET.INJ_TARGET.TARGET
  .next (s.inject Reg.HIMET.INJ_STATUS.addr cls (himetCause 14) (decide (t < 3)) (decide (t = 0)) t 0 (fun x _ => x))

/-- A Himet injection comes to its result (R396, R580): a LIVE one has withheld the source for 1.0 ms. -/
def State.himetInjEnd (s : State) (i : Inj) (pass : Bool) : State :=
  if i.live then ((s.put Reg.HIMET.STATUS.TRNG_OK 0).raiseM (himetCause 11) .live).injEnd i.ctrl codeActed
  else if pass then
    (match i.target with
      | 0 => s.setCauseM (himetCause 11) .shadow
      | 1 => s.setCauseM (himetCause 9) .shadow
      | _ => s).injEnd i.ctrl codePass
  else s.injEnd i.ctrl codeFail

/-- HIMET.SESSION_LEFT for one session (R571, R572, R581): whole seconds left by the root clock, up to a part of a second. -/
def State.sessionLeft (s : State) (x : Option (Nat × Nat)) (part : Bool) : Nat :=
  match x with
  | none => 0
  | some (e, n) => min (n - (s.clk.epochs - e) * 3 / 1000000 - b2n part) 65535

end Sys2Proof.Machine
end

