-- ==== Sys2Proof/Machine/Svc.lean ====
section
/-! DEFINITION. Updating in service: the service port, bundles, staging, activation, confirmation and rollback (chapter 22). -/

namespace Sys2Proof.Machine

/-- A cause of the SVC group (R602). -/
def svcCause (b : Nat) : Cause := ⟨43, b⟩

/-- States of a bank (R583). -/
abbrev bankEmpty : Nat := 0
/-- See R583. -/
abbrev bankStaging : Nat := 1
/-- See R583. -/
abbrev bankStaged : Nat := 2
/-- See R583. -/
abbrev bankTrial : Nat := 3
/-- See R583. -/
abbrev bankActive : Nat := 4
/-- See R583. -/
abbrev bankPrevious : Nat := 5
/-- See R583. -/
abbrev bankRejected : Nat := 6

/-- The inactive bank (R583). -/
def State.idleBank (s : State) : Fin 2 := 1 - s.svc.running

/-- The running bank is TRIAL. -/
def State.trial (s : State) : Bool := decide (s.svc.states[s.svc.running] = bankTrial)

/-- Replace a bank and its state. -/
def State.setBank (s : State) (b : Fin 2) (x : Bank) (st : Nat) : State :=
  { s with svc := { s.svc with banks := s.svc.banks.set b x, states := s.svc.states.set b st } }

/-- SVC.RESULT (R601). -/
def State.svcResult (s : State) (op code : Nat) : State :=
  ((s.put Reg.SVC.RESULT.CODE code).put Reg.SVC.RESULT.OP op).bumpWrap Reg.SVC.RESULT.SEQ

/-- A response is queued (R585). -/
def State.respond (s : State) (op status : Nat) (tag : BitVec 16) (payload : List Byte) : State :=
  { s with svc := { s.svc with response := some ⟨op, status, tag, s.get Reg.SVC.PROGRESS.BYTES, payload⟩ } }

/-- Codes of R592 to R594. -/
abbrev svcFormat : Nat := 0x46
/-- WRONG_STATE (R592). -/
abbrev svcWrongState : Nat := 0x45
/-- NO_MATCH (R593). -/
abbrev svcNoMatch : Nat := 0x4F
/-- POSTPONED (R594). -/
abbrev svcPostponed : Nat := 0x4E

/-- The service port answers (R58, R464, R584): a device is attached. -/
def State.usbOn (s : State) : Bool := decide (s.life = .run) && decide (s.get Reg.SVC.STATUS.USB ≠ 0)

/-- USB_ATTACH (R58, R584): with SVC_VBUS present, from L8 on; `configured` once the USB host has configured the device, `hs` at high
speed. -/
def execUsbAttach (configured hs : Bool) (s : State) : Host.Outcome State Fault Refusal :=
  if s.life = .run then
    .next ((s.put Reg.SVC.STATUS.USB (if configured then 2 else 1)).put Reg.SVC.STATUS.HS (b2n hs))
  else .next s

/-- USB_DETACH (R584, R592): a staging is abandoned. -/
def execUsbDetach (s : State) : Host.Outcome State Fault Refusal :=
  .next ((s.abandon.put Reg.SVC.STATUS.USB 0).put Reg.SVC.STATUS.HS 0)

/-- SCHEMA of a firmware image (R588). -/
def fwSchema (b : List Byte) : Nat := leAt b 24 2
/-- SCHEMA of a parameter set (R589). -/
def paramSchema (b : List Byte) : Nat := leAt b 6 2
/-- SIGNED_LEN of a firmware image (R588). -/
def fwSigned (b : List Byte) : Nat := b.length - 3328
/-- The firmware digest (R590). -/
def fwDigest (b : List Byte) : BitVec 256 := imageDigest b (fwSigned b)
/-- The parameter-set digest (R590). -/
def paramDigest (b : List Byte) : BitVec 256 := imageDigest b (paramSigned b)
/-- The course digest (R82). -/
def courseDigest (b : List Byte) : BitVec 256 := imageDigest b (courseSigned (dirOf b))

/-- The staged fingerprint of a bank (R590): of the set before any migration. -/
def Bank.print (b : Bank) : BitVec 256 := fingerprintOf (fwDigest b.firmware) (courseDigest b.course) (paramDigest b.params)

/-- A bank holds a complete set. -/
def State.holdsSet (s : State) (b : Fin 2) : Bool := decide (2 ≤ s.svc.states[b])

/-- SVC.BANK[b].STATE (R601). -/
def State.bankWord (s : State) (b : Fin 2) : Word :=
  let x := s.svc.banks[b]
  let p := if s.svc.running = b then s.paramSet else x.params
  BitVec.ofNat 32 (s.svc.states[b] + (if s.holdsSet b then paramSchema p else 0) * 65536)

/-- SVC.STATUS (R601). -/
def State.svcStatus (s : State) : Word :=
  BitVec.ofNat 32 (s.get Reg.SVC.STATUS.USB + s.get Reg.SVC.STATUS.HS * 4 + b2n s.svc.staging.isSome * 8 +
    (if s.svc.postponed then 2 else if s.svc.armed.isSome then 1 else 0) * 32 + s.svc.running.val * 128 +
    min s.svc.starts 3 * 256)

/-- The word of the SVC block at offset 4i (R601). -/
def State.svcWord (s : State) (i : Nat) : Word :=
  let bank (b : Fin 2) (k : Nat) : Word :=
    if k = 0 then s.bankWord b
    else if k = 1 then (if s.holdsSet b then wordAt (s.svc.banks[b]).firmware 20 else 0#32)
    else if 8 ≤ k ∧ s.holdsSet b = true then digestWord (s.svc.banks[b]).print (k - 8)
    else 0#32
  if i = 0 then Config.usbId
  else if i = 1 then s.svcStatus
  else if i = 3 then 0#32
  else if 16 ≤ i ∧ i < 32 then bank 0 (i - 16)
  else if 32 ≤ i ∧ i < 48 then bank 1 (i - 32)
  else s.rd (Reg.SVC.USB_ID.addr + 4 * i)

/-- INFO (R585, R586): `good` says that MAGIC, OP and PLEN of the request are right; with a wrong one the answer is FORMAT. -/
def execInfoOp (tag : BitVec 16) (good : Bool) (s : State) : Host.Outcome State Fault Refusal :=
  if !s.usbOn then .next s
  else if good then .next (s.respond 0x01 codeOk tag ((List.range 80).flatMap (fun i => leBytes 4 (s.svcWord i).toNat)))
  else .next (s.respond 0x01 svcFormat tag [])

/-- Every enabled slot is OFF or STOPPED. -/
def State.enabledRest (s : State) : Bool :=
  (List.finRange 4).all (fun i => !(s.slotRec i.val).enable || (s.slot i).state.resting)

/-- 1.0 rpm. -/
abbrev oneRpm : Word := 0x3F800000#32

/-- AUX_UPDATE_MIN in 10 mV (R601). -/
def State.auxMin (s : State) : Nat := max 160 (min 360 (s.get Reg.SVC.CFG.AUX_UPDATE_MIN)) * 10

/-- The checks that BEGIN, DATA and END share (R592): slots, speed, position, supply. -/
def State.stageGuard (s : State) (moved : Bool) : Option Nat :=
  if !s.enabledRest then some 0x40
  else if (List.finRange 4).any (fun i => (s.slotRec i.val).enable &&
      (fLt oneRpm (fAbs (s.slot i).speed) || (s.slot i).stale)) then some 0x41
  else if moved then some 0x42
  else if s.get Reg.PROBE.SUPPLY.AUX < s.auxMin then some 0x43
  else none

/-- CONTENT of a bundle (R587). -/
def bundleHas (b : List Byte) (c : Nat) : Bool := decide (leAt b 9 1 / 2 ^ c % 2 = 1)
/-- LEN of a component. -/
def compLen (b : List Byte) (c : Nat) : Nat := leAt b (0x44 + 16 * c) 4
/-- OFFSET of a component. -/
def compOff (b : List Byte) (c : Nat) : Nat := leAt b (0x40 + 16 * c) 4

/-- Where component c of a bundle starts (R587). -/
def compStart (b : List Byte) (c : Nat) : Nat :=
  0x70 + ((List.range c).map (fun k => if bundleHas b k then compLen b k else 0)).sum

/-- The header and directory of a bundle keep R587, apart from PART and REV_LETTER. -/
def bundleFormat (b : List Byte) : Bool :=
  decide (b.length = 112 ∧ b.take 4 = [0x47#8, 0x51#8, 0x42#8, 0x44#8] ∧ leAt b 4 2 = 1 ∧ 1 ≤ leAt b 9 1 ∧ leAt b 9 1 ≤ 7 ∧
    leAt b 0x0A 2 = 0 ∧ leAt b 0x0C 4 = compStart b 3) && zeros b 0x10 48 &&
  (List.range 3).all (fun c => if bundleHas b c then
      decide (compOff b c = compStart b c ∧ leAt b (0x4C + 16 * c) 4 = 0)
    else zeros b (0x40 + 16 * c) 16)

/-- PART and REV_LETTER of a bundle (R592). -/
def bundlePart (b : List Byte) : Bool := decide (leAt b 6 2 = 0x6480 ∧ leAt b 8 1 = 0x41)

/-- The length of the complete set: components brought and copied (R592). -/
def State.setSize (s : State) (b : List Byte) : Nat :=
  let k := s.svc.banks[s.svc.running]
  (if bundleHas b 0 then compLen b 0 else k.firmware.length) + (if bundleHas b 1 then compLen b 1 else k.course.length) +
    (if bundleHas b 2 then compLen b 2 else k.params.length)

/-- The checks of BEGIN in the order of R592; an activation whose swap is under way (R595) counts as armed (DEDUCED, log entry 92). -/
def State.beginErr (s : State) (b : List Byte) (moved : Bool) : Option Nat :=
  if s.svc.staging.isSome || s.trial || s.svc.armed.isSome || s.svc.postponed || s.swapping then some svcWrongState
  else if s.flag Reg.HIMET.STATUS.LOCKED then some 0x44
  else match s.stageGuard moved with
    | some c => some c
    | none =>
      if !bundleFormat b then some svcFormat
      else if !bundlePart b then some 0x47
      else if 32505856 < s.setSize b then some 0x4A
      else none

/-- A staging operation is refused (R592). -/
def State.stageRefuse (s : State) (op code : Nat) (tag : BitVec 16) : State :=
  ((s.svcResult op code).raise (svcCause 1)).respond op code tag []

/-- BEGIN (R586, R591, R592, R439): a refusal changes no bank. `moved` says that POS of an enabled interface with NOSLOT = 0 changed
within the last 1.0 s. -/
def execBeginOp (tag : BitVec 16) (payload : List Byte) (moved : Bool) (s : State) : Host.Outcome State Fault Refusal :=
  if !s.usbOn then .next s
  else match s.beginErr payload moved with
    | some c => .next (s.stageRefuse 0x02 c tag)
    | none =>
      let s1 := (s.setBank s.idleBank {} bankStaging).remapSectors s.idleBank.val
      let s2 := { s1 with svc := { s1.svc with staging := some ⟨payload⟩ } }.put Reg.SVC.PROGRESS.BYTES 112
      .next ((s2.svcResult 0x02 codeOk).respond 0x02 codeOk tag [])

/-- A running staging is refused and abandoned (R592). -/
def State.stageFail (s : State) (op code : Nat) (tag : BitVec 16) : State := s.abandon.stageRefuse op code tag

/-- DATA (R585, R586, R591, R592): more than 65,536 bytes break the request's header; `written` says that the write-verify passes. -/
def execDataOp (tag : BitVec 16) (offset : Nat) (payload : List Byte) (moved written : Bool) (s : State) :
    Host.Outcome State Fault Refusal :=
  if !s.usbOn then .next s
  else if 65536 < payload.length then .next (s.respond 0x03 svcFormat tag [])
  else match s.svc.staging with
    | none => .next (s.stageRefuse 0x03 svcWrongState tag)
    | some g =>
      match s.stageGuard moved with
      | some c => .next (s.stageFail 0x03 c tag)
      | none =>
        if offset ≠ g.data.length ∨ leAt g.data 0x0C 4 < g.data.length + payload.length then .next (s.stageFail 0x03 svcFormat tag)
        else if !written then .next (s.stageFail 0x03 0x4B tag)
        else
          let d := g.data ++ payload
          let s1 := { s with svc := { s.svc with staging := some ⟨d⟩ } }.put Reg.SVC.PROGRESS.BYTES d.length
          .next ((s1.svcResult 0x03 codeOk).respond 0x03 codeOk tag [])

/-- The component of a bundle, or the running bank's (R587). -/
def compBytes (d : List Byte) (c : Nat) (own : List Byte) : List Byte :=
  if bundleHas d c then slice d (compOff d c) (compLen d c) else own

/-- The complete set of a staging (R591). -/
def State.fullSet (s : State) (d : List Byte) : Bank :=
  let k := s.svc.banks[s.svc.running]
  { firmware := compBytes d 0 k.firmware, course := compBytes d 1 k.course, params := compBytes d 2 k.params }

/-- The fields of a firmware image, apart from PART and REV_LETTER (R588). -/
def fwFields (b : List Byte) : Bool :=
  decide (64 + 3328 ≤ b.length ∧ b.length ≤ 8388608 ∧ b.take 4 = [0x47#8, 0x51#8, 0x46#8, 0x57#8] ∧ leAt b 4 2 = 1 ∧
    leAt b 9 1 = 0 ∧ leAt b 10 2 = 0 ∧ leAt b 12 4 = b.length) && zeros b 26 38
/-- The fields and the order of records of a parameter set (R589). -/
def paramFields (b : List Byte) : Bool :=
  let n := leAt b 8 4
  let word (i : Nat) := leAt b (64 + 8 * i) 2
  decide (b.take 4 = [0x47#8, 0x51#8, 0x50#8, 0x53#8] ∧ leAt b 4 2 = 1 ∧ n ≤ 256 ∧ b.length = 64 + 8 * n + 3328) &&
  zeros b 32 32 &&
  (List.range (min n 256)).all (fun i => decide (word i < 256) && zeros b (64 + 8 * i + 2) 2 &&
    fFinite? (wordAt b (64 + 8 * i + 4)) && (decide (i + 1 = n) || decide (word i < word (i + 1))))

/-- A firmware image verifies under slot 0 (R560, R561, R588). -/
def fwSigOk (b : List Byte) : Bool :=
  sigGood (b.drop (fwSigned b)) (fwSigned b) 0 (slice (Config.rootKey 0) 0 1952) (fwDigest b)

/-- A parameter set verifies (R561, R589). -/
def State.paramSigOk (s : State) (b : List Byte) : Bool :=
  let t := s.trust 2
  sigGood (b.drop (paramSigned b)) (paramSigned b) t.slot t.key (paramDigest b)

/-- The parameter set belongs to the course, and its values lie within the envelopes of CARVE.PARAM (R592). -/
def paramMatch (b : List Byte) (c : Course) : Bool :=
  decide ((List.range 4).map (fun i => wordAt b (16 + 4 * i)) = c.courseId) &&
  (paramRecs b).all (fun r => match c.env.find? (fun e => decide (e.addr = Reg.CARVE.PARAM.addr r.1 ∧ e.lsb = 0)) with
    | some e => fLe e.min r.2 && fLe r.2 e.max
    | none => true)

/-- The checks of END on the complete set, in the order of R592. -/
def State.endErr (s : State) (d : List Byte) (k : Bank) (written : Bool) : Option Nat :=
  let crcs := (List.range 3).all (fun c => !bundleHas d c ||
    decide ((crc32 (slice d (compOff d c) (compLen d c))).toNat = leAt d (0x48 + 16 * c) 4))
  let courseErr : Nat := match loadImage (s.trust 1) true k.course with
    | .error e => e.1
    | .ok _ => 0
  if !crcs || !fwFields k.firmware || !paramFields k.params || [1, 2, 3, 5].contains courseErr then some svcFormat
  else if leAt k.firmware 6 2 ≠ 0x6480 ∨ leAt k.firmware 8 1 ≠ 0x41 ∨ courseErr = 4 then some 0x47
  else if !fwSigOk k.firmware || !s.paramSigOk k.params || (courseErr ≠ 0 && courseErr ≠ 9) then some 0x48
  else if leAt k.firmware 16 4 < (s.himet.store.ctr[(0 : Fin 3)]).toNat ∨ courseErr = 9 ∨
      leAt k.params 12 4 < (s.himet.store.ctr[(2 : Fin 3)]).toNat then some 0x49
  else if fwSchema k.firmware < paramSchema k.params ∨ paramSchema k.params + 3 < fwSchema k.firmware then some 0x4C
  else match loadImage (s.trust 1) true k.course with
    | .error _ => some 0x48
    | .ok c => if !paramMatch k.params c then some 0x4D else if !written then some 0x4B else none

/-- SVC_END (R586, R590 to R592). -/
def execSvcEnd (tag : BitVec 16) (moved written : Bool) (s : State) : Host.Outcome State Fault Refusal :=
  if !s.usbOn then .next s
  else match s.svc.staging with
    | none => .next (s.stageRefuse 0x04 svcWrongState tag)
    | some g =>
      match s.stageGuard moved with
      | some c => .next (s.stageFail 0x04 c tag)
      | none =>
        if g.data.length ≠ leAt g.data 0x0C 4 then .next (s.stageFail 0x04 svcFormat tag)
        else
          let k := s.fullSet g.data
          match s.endErr g.data k written with
          | some c => .next (s.stageFail 0x04 c tag)
          | none =>
            let s1 := s.setBank s.idleBank k bankStaged
            let s2 := State.svcResult { s1 with svc := { s1.svc with staging := none } } 0x04 codeOk
            .next ((s2.raise (svcCause 0)).respond 0x04 codeOk tag (digestBytes k.print))

/-- The result of a command of SVC.CMD, or of the operation of the same name (R586, R601): `code` 1 or the reason of a refusal. -/
def State.svcCmd (s : State) (via : SvcVia) (op code : Nat) : State :=
  let st := if code = codeOk then codeOk else codeDenied
  let s1 := (s.svcResult op code).status Reg.SVC.CMD_STATUS.addr st
  let s2 := s1.setIf (decide (code ≠ codeOk)) (svcCause 9)
  match via with
  | .host => s2
  | .usb tag => s2.respond op st tag []

/-- A command on the service port reaches the module only while the port answers. -/
def State.viaOn (s : State) (via : SvcVia) : Bool := decide (via = .host) || s.usbOn

/-- SVC_ABORT (R586, R592, R593). -/
def execSvcAbort (via : SvcVia) (s : State) : Host.Outcome State Fault Refusal :=
  if s.viaOn via then .next (s.abandon.svcCmd via 0x05 codeOk) else .next s

/-- The TRIAL bank is confirmed (R565, R597, R598). -/
def State.confirmBank (s : State) : State :=
  let r := s.svc.running
  let k := s.svc.banks[r]
  let ver (c : Nat) := s.secVersion c
  let s1 := (s.setBank r { k with params := k.migrated.getD k.params, migrated := none } bankActive).setBank s.idleBank {} bankEmpty
  let s2 := { s1 with
    svc := { s1.svc with trialLifts := 0, rollbackDue := false }
    himet := { s1.himet with store := { s1.himet.store with migrated := none } } }
  let s3 := ((s2.raiseCounter 0 (ver 0)).raiseCounter 1 (ver 1)).raiseCounter 2 (ver 2)
  s3.raise (svcCause 6)

/-- CONFIRM (R598, R599): refused after a rollback has been taken. -/
def execConfirm (via : SvcVia) (s : State) : Host.Outcome State Fault Refusal :=
  if !s.viaOn via then .next s
  else if s.trial && s.svc.liftOk && !s.swapping then .next (s.confirmBank.svcCmd via 0x06 codeOk)
  else .next (s.svcCmd via 0x06 svcWrongState)

/-- A swap starts (R595): drive commands are refused; Himet writes the record, and the UPDATE source follows. -/
def State.swapStart (s : State) (back : Bool) : State :=
  { s with swapping := true, svc := { s.svc with armed := none, postponed := false, swapBack := back } }

/-- ROLLBACK (R599). -/
def execRollback (via : SvcVia) (s : State) : Host.Outcome State Fault Refusal :=
  if !s.viaOn via then .next s
  else if s.trial && s.enabledRest && !s.swapping then .next ((s.swapStart true).svcCmd via 0x07 codeOk)
  else .next (s.svcCmd via 0x07 svcWrongState)

/-- AUTO_ROLLBACK (R599): the rollback that is due, with every enabled slot at rest. -/
def execAutoRollback (s : State) : Host.Outcome State Fault Refusal :=
  if s.svc.rollbackDue && s.trial && decide (s.life = .run) && s.enabledRest && !s.swapping then .next (s.swapStart true)
  else .next s

/-- An activation is armed (R593). -/
def State.armAt (s : State) (t : Nat × Nat) : State :=
  State.raise { s with svc := { s.svc with armed := some t, postponed := false } } (svcCause 2)

/-- The instant in SVC.ACT (R601). -/
def State.svcAct (s : State) : Nat × Nat :=
  ((s.rd (Reg.SVC.ACT.addr 0)).toNat + (s.rd (Reg.SVC.ACT.addr 1)).toNat % 65536 * 2 ^ 32, (s.rd (Reg.SVC.ACT.addr 2)).toNat % 2 ^ 30)

/-- The bits of an instant's words: seconds in 32 and 16 bits, nanoseconds in 30 (R510, R601). -/
def actMask (i : Nat) : Word := [0xFFFFFFFF#32, 0xFFFF#32, 0x3FFFFFFF#32].getD i 0#32

/-- ARM_LOCAL (R586, R593): the operation's payload goes to SVC.ACT. -/
def execArmLocal (via : SvcVia) (payload : List Byte) (s : State) : Host.Outcome State Fault Refusal :=
  if !s.viaOn via then .next s
  else
    let s0 := match via with
      | .host => s
      | .usb _ => (List.range 3).foldl (fun t i => t.wr (Reg.SVC.ACT.addr i) (wordAt payload (4 * i) &&& actMask i)) s
    let (t, s1) := s0.now
    let a := s1.svcAct
    if decide (s1.svc.states[s1.idleBank] = bankStaged) && s1.flag Reg.TIME.STATUS.VALID && decide (a.2 < 1000000000) &&
        decide (1000000 ≤ nsBetween t a) then .next ((s1.armAt a).svcCmd via 0x08 codeOk)
    else .next (s1.svcCmd via 0x08 svcWrongState)

/-- SVC_CANCEL (R593). -/
def execSvcCancel (via : SvcVia) (s : State) : Host.Outcome State Fault Refusal :=
  if s.viaOn via then .next (s.disarm.svcCmd via 0x09 codeOk) else .next s

/-- SVC_STATUS (R586). -/
def execSvcStatus (tag : BitVec 16) (s : State) : Host.Outcome State Fault Refusal :=
  if s.usbOn then .next (s.respond 0x0A codeOk tag (leBytes 4 (s.rd Reg.SVC.RESULT.addr).toNat)) else .next s

/-- A SCHEDULE frame with a new SCHED_SEQ (R507, R593): ACTION 1 ACTIVATE, 2 CANCEL. -/
def State.scheduled (s : State) (cancel : Bool) (t : Nat × Nat) (fp : BitVec 256) : State :=
  if cancel then s.disarm
  else if s.svc.states[s.idleBank] = bankStaged ∧ (s.svc.banks[s.idleBank]).print = fp then s.armAt t
  else s.svcResult 0 svcNoMatch

/-- The four conditions of R594. -/
def State.swapReady (s : State) : Bool :=
  s.enabledRest && decide (s.trip.resetHold = 0#4) && decide (s.probe.task = .none) && !s.liveBusy

/-- The armed instant (R594, R595): the swap starts, or the activation is postponed. -/
def State.activate (s : State) : State :=
  if s.swapReady then s.swapStart false
  else
    let s1 := { s with svc := { s.svc with armed := none, postponed := true } }
    (s1.svcResult 0 svcPostponed).raise (svcCause 3)

/-- ACTIVATION_INSTANT (R594, R595). -/
def execActivationInstant (s : State) : Host.Outcome State Fault Refusal :=
  if s.svc.armed.isSome then .next s.activate else .next s

/-- POSTPONED_SWAP (R594, R595). -/
def execPostponedSwap (s : State) : Host.Outcome State Fault Refusal :=
  if s.svc.postponed && s.swapReady then .next (s.swapStart false) else .next s

/-- MIGRATED (R596): the migrated set is written into the TRIAL bank and recorded. -/
def execMigrated (s : State) : Host.Outcome State Fault Refusal :=
  if s.svc.migrated ≠ [] ∧ s.life = .run then
    let r := s.svc.running
    let s1 := s.setBank r { s.svc.banks[r] with migrated := some s.svc.migrated } s.svc.states[r]
    let rec_ := (paramDigest s.svc.migrated, paramDigest (s.svc.banks[r]).params)
    .next (State.raise { s1 with
      svc := { s1.svc with migrated := [] }
      himet := { s1.himet with store := { s1.himet.store with migrated := some rec_ } } } (svcCause 5))
  else .next s

/-- TRIAL_START_SUCCESS (R597): 60 s without a reset and without F4; the third success confirms the bank. -/
def execTrialStartSuccess (s : State) : Host.Outcome State Fault Refusal :=
  if s.trial && s.svc.liftOk && s.svc.clean && !s.swapping then
    let n := s.svc.starts + 1
    let s1 := { s with svc := { s.svc with starts := n, trialLifts := 0, clean := false } }
    .next (if 3 ≤ n then s1.confirmBank else s1)
  else .next s

end Sys2Proof.Machine
end

