-- ==== Sys2Proof/Machine/Net.lean ====
section
/-! DEFINITION. The Ethernet ports, with the end of an on-demand test, which may bring in ETH2 (R445), the switch, gate control lists and
IEEE 802.1AS (R487 to R494). A frame is its bytes from the
destination address up to, and without, the frame check sequence. -/

namespace Sys2Proof.Machine

/-- A cause of the first NET group (R512). -/
def netCause (b : Nat) : Cause := ⟨40, b⟩

/-- A network command begins: nothing sent yet. -/
def State.netGo (s : State) : State := { s with net := { s.net with out := [] } }

/-- A port is UP (R511). -/
def State.linkUp (s : State) (p : Nat) : Bool := decide (s.get (Reg.NET.PORT.STATUS.LINK p) = 2)

/-- The port that ETH2 stands in for (R489, R511). -/
def State.spareOf (s : State) : Nat := s.get Reg.NET.CFG.SPARE_OF

/-- ETH2 has taken over the roles of the failed port (R437, R442, R489). -/
def State.spareIn (s : State) : Bool := s.flag Reg.NET.CFG.ETH2_SPARE && s.groom.live.ports.contains s.spareOf

/-- Replace the gate bank in force at a port. -/
def State.setGates (s : State) (p : Fin 3) (b : GclBank) : State :=
  { s with net := { s.net with active := s.net.active.set p b } }

/-- A list of windows cut at, or held to, a length in ns. -/
def cutWindows : List (Nat × Nat) → Nat → List (Nat × Nat)
  | [], _ => []
  | [x], left => [(x.1, left)]
  | x :: y :: t, left => if left ≤ x.2 then [(x.1, left)] else x :: cutWindows (y :: t) (left - x.2)

/-- The gate windows of one cycle as (mask, ns) (R492): a shorter list holds its last entry to the cycle end, a longer one is cut. -/
def gateWindows (b : GclBank) : List (Nat × Nat) :=
  cutWindows ((List.range (b.len + 1)).map (fun i =>
    let w := (b.entries.getD i 0xFF#32).toNat
    (w % 256, w / 256 * 8))) b.cycle

/-- The longest time that the gate of a class stays open over a list of windows, from a run of `run` so far. -/
def longestOpen (cls : Nat) : List (Nat × Nat) → Nat → Nat
  | [], run => run
  | x :: t, run => if x.1 / 2 ^ cls % 2 = 1 then longestOpen cls t (run + x.2) else max run (longestOpen cls t 0)

/-- A frame of a class can start at a port (R492): some opening of its gate is long enough for it, at 8 ns a byte with its
preamble and check sequence. -/
def State.gateFits (s : State) (p : Fin 3) (cls len : Nat) : Bool :=
  let w := gateWindows s.net.active[p]
  !s.flag (Reg.NET.PORT.QBV_CTRL.ENABLE p.val) || w.all (fun x => decide (x.1 / 2 ^ cls % 2 = 1)) ||
    decide ((len + 12) * 8 ≤ longestOpen cls (w ++ w) 0)

/-- The port and the traffic class of what is sent (R492). -/
def NetOut.lane : NetOut → Nat × Nat
  | .own p _ => (p, 7)
  | .bridged p c _ => (p, c)
  | .gptp p _ => (p, 7)

/-- Something takes its place in what leaves (R492): at a port, behind its own class and the higher ones, before the lower ones. -/
def enqueue (o : NetOut) : List NetOut → List NetOut
  | [] => [o]
  | x :: t => if x.lane.1 = o.lane.1 ∧ x.lane.2 < o.lane.2 then o :: x :: t else x :: enqueue o t

/-- Something leaves at a port, through the gate of its class. DESIGN CHOICE (log entry 99): what a command sends leaves within it, in strict
priority; frames of one command do not wait for those of the next. -/
def State.emit (s : State) (p : Fin 3) (cls len : Nat) (o : NetOut) : State :=
  if s.gateFits p cls len then { s with net := { s.net with out := enqueue o s.net.out } } else s

/-- The bytes of a message of IEEE 802.1AS up to its check sequence, padded to 60 (R490). PRESUMED (log entry 99). -/
def gptpLen : GptpKind → Nat
  | .sync _ => 60
  | .followUp => 90
  | .announce v => 90 + 8 * v.steps
  | .pdelayReq => 68
  | .pdelayResp => 68
  | .pdelayRespFollowUp => 68

/-- A gPTP message leaves; gPTP is always of class 7 (R492). -/
def State.emitGptp (s : State) (p : Fin 3) (k : GptpKind) : State := s.emit p 7 (gptpLen k) (.gptp p.val k)

/-- A port speaks gPTP (R490, R511). -/
def State.gptpOn (s : State) (p : Nat) : Bool := s.flag (Reg.NET.PORT.CFG.GPTP p) && s.linkUp p

/-- clockClass (R490). -/
def State.clockClass (s : State) : Nat :=
  let pps := decide (s.time.lockedTo = 1)
  if s.flag Reg.TIME.STATUS.LOCKED && pps && decide (s.get Reg.TIME.CFG.SOURCE = 1) && !s.flag Reg.TIME.STATUS.HOLDOVER then 6
  else if s.flag Reg.TIME.STATUS.HOLDOVER && pps then 7
  else 248

/-- clockAccuracy (R490). -/
def State.clockAccuracy (s : State) : Nat := if s.flag Reg.TIME.STATUS.LOCKED then 0x21 else 0xFE

/-- The module's own vector (R490). -/
def State.ownVec (s : State) : GptpVec :=
  ⟨s.get Reg.NET.GPTP.CFG.PRIO1, s.clockClass, s.clockAccuracy, Config.gptpVariance.toNat, s.get Reg.NET.GPTP.CFG.PRIO2,
    Config.serial, 0⟩

/-- A list of numbers comes before another in dictionary order. -/
def lexLt : List Nat → List Nat → Bool
  | a :: t, b :: u => decide (a < b) || (decide (a = b) && lexLt t u)
  | _, _ => false

/-- A vector as the numbers in which it is compared, most significant first (clause 10 of IEEE 802.1AS). PRESUMED. -/
def gptpKey (v : GptpVec) : List Nat := [v.prio1, v.cls, v.acc, v.variance, v.prio2, v.gm.toNat, v.steps]

/-- The port whose Announce vector is the best of those held, with it; ties go to the lowest port. -/
def State.bestAnnounce (s : State) : Option (Fin 3 × GptpVec) :=
  (List.finRange 3).foldl (fun best p =>
    if s.gptpOn p.val then
      match s.net.announce[p], best with
      | some v, none => if v.gm = Config.serial ∨ 255 ≤ v.steps then none else some (p, v)
      | some v, some b => if v.gm ≠ Config.serial ∧ v.steps < 255 ∧ lexLt (gptpKey v) (gptpKey b.2) then some (p, v) else some b
      | none, b => b
    else best) none

/-- The grandmaster and the registers that show it (R490, R511). A change sets GM_CHANGE. -/
def State.setGm (s : State) (gm : Option (BitVec 64)) (own synced : Bool) (steps : Nat) : State :=
  let s1 := ((s.put Reg.NET.GPTP.STATUS.GM (b2n own)).put Reg.NET.GPTP.STATUS.SYNCED (b2n synced)).put
    Reg.NET.GPTP.STATUS.STEPS_REMOVED steps
  let id := gm.getD 0#64
  let s2 := (s1.wr (Reg.NET.GPTP.GM_ID.addr 0) (id.setWidth 32)).wr (Reg.NET.GPTP.GM_ID.addr 1) ((id >>> 32).setWidth 32)
  let s3 := s2.setIf (decide (s.net.gm ≠ gm)) (netCause 4)
  State.ownRef { s3 with net := { s3.net with gm := gm } }

/-- The port roles and the grandmaster by the best master clock algorithm (R490; clause 10 of IEEE 802.1AS). PRESUMED. -/
def State.bmca (s : State) : State :=
  let own := s.ownVec
  let slave := match s.bestAnnounce with
    | some b => if lexLt (gptpKey b.2) (gptpKey own) then some b else none
    | none => none
  let steps := match slave with
    | some b => b.2.steps + 1
    | none => 0
  let sent : GptpVec := match slave with
    | some b => { b.2 with steps := steps }
    | none => own
  let role (p : Fin 3) : Nat :=
    if !s.gptpOn p.val then 0
    else match slave, s.net.announce[p] with
      | some b, a => if b.1 = p then 2 else (match a with
        | some v => if lexLt (gptpKey v) (gptpKey sent) then 3 else 1
        | none => 1)
      | none, _ => 1
  let s1 := (List.finRange 3).foldl (fun t p => t.put (Reg.NET.PORT.STATUS.GPTP_ROLE p.val) (role p)) s
  match slave with
  | some b => s1.setGm (some b.2.gm) false true steps
  | none =>
    if own.prio1 < 255 then s1.setGm (some Config.serial) true false 0 else s1.setGm none false false 0

/-- The roles under externalPortConfiguration (R490): the spec gives a port one bit of configuration, so the role of a port with
gPTP on is a free value; the module follows the lowest port that is a slave. -/
def State.externalRoles (s : State) : State :=
  let (v, s0) := s.fresh
  let role (p : Fin 3) : Nat := if s0.gptpOn p.val then v.toNat / 4 ^ p.val % 4 % 3 + 1 else 0
  let s1 := (List.finRange 3).foldl (fun t p => t.put (Reg.NET.PORT.STATUS.GPTP_ROLE p.val) (role p)) s0
  match (List.finRange 3).find? (fun p => role p == 2) with
  | some p => match s1.net.announce[p] with
    | some a => s1.setGm (some a.gm) false true (a.steps + 1)
    | none => s1.setGm none false false 0
  | none =>
    if s1.get Reg.NET.GPTP.CFG.PRIO1 < 255 then s1.setGm (some Config.serial) true false 0 else s1.setGm none false false 0

/-- The gPTP roles are settled again (R490). -/
def State.gptpRoles (s : State) : State := if s.flag Reg.NET.GPTP.CFG.EXTERNAL then s.externalRoles else s.bmca

/-- The ports of a gPTP role. -/
def State.gptpPorts (s : State) (role : Nat) : List (Fin 3) :=
  (List.finRange 3).filter (fun p => s.gptpOn p.val && s.get (Reg.NET.PORT.STATUS.GPTP_ROLE p.val) == role)

/-- What the module announces on its master ports: the vector of the grandmaster it follows, or its own. -/
def State.announceVec (s : State) : GptpVec :=
  match (List.finRange 3).find? (fun p => s.get (Reg.NET.PORT.STATUS.GPTP_ROLE p.val) == 2) with
  | some p => match s.net.announce[p] with
    | some v => { v with steps := v.steps + 1 }
    | none => s.ownVec
  | none => s.ownVec

/-- A peer delay exchange of a port moves on (R490): 1 its request has left, 2 the response has come, 0 it has ended. -/
def State.pdelayTo (s : State) (p : Fin 3) (stage : Nat) : State :=
  { s with net := { s.net with pdelayStage := s.net.pdelayStage.set p stage } }

/-- The peer delay of an exchange (R490, R491). PRESUMED (log entry 99): ((t4 − t1) − (t3 − t2)) / 2, as IEEE 802.1AS has it with a rate ratio
of 1. -/
def State.pdelayEnd (s : State) (p : Fin 3) (span turn : Nat) : State :=
  let s1 := s.pdelayTo p 0
  { s1 with net := { s1.net with peerDelay := s1.net.peerDelay.set p (((span : Int) - (turn : Int)) / 2) } }

/-- GPTP_FRAME (R490, R491): a message of another domain than 0 is ignored; an Announce feeds the choice of the best master; a Sync or Follow_Up
at the slave port is regenerated at the master ports, two-step; a Pdelay_Req is answered, and the answers to the module's own give the peer delay.
The measurement that a Sync brings is SERVO_MEASUREMENT. -/
def execGptpFrame (p : Fin 3) (sample : Sampled GptpMsg) (s0 : State) : Host.Outcome State Fault Refusal :=
  let s1 := (s0.agreeFix sample.differs).netGo
  let msg := sample.value
  if !s1.gptpOn p.val || decide (msg.domain ≠ 0) then .next s1
  else
    let kind := msg.kind
    let slave := decide (s1.get (Reg.NET.PORT.STATUS.GPTP_ROLE p.val) = 2)
    let isSync := decide (kind = .sync true ∨ kind = .sync false)
    let s := if slave && isSync then { s1 with net := { s1.net with syncLog := some (msg.log % 8) } } else s1
    let all (l : List GptpKind) : State :=
      if slave then (s.gptpPorts 1).foldl (fun t q => l.foldl (fun u k => u.emitGptp q k) t) s else s
    match kind with
    | .announce v => .next (State.gptpRoles { s with net := { s.net with announce := s.net.announce.set p (some v) } })
    | .sync true => .next (all [.sync true])
    | .sync false => .next (all [.sync true, .followUp])
    | .followUp => .next (all [.followUp])
    | .pdelayReq => .next ((s.emitGptp p .pdelayResp).emitGptp p .pdelayRespFollowUp)
    | .pdelayResp => .next (if s.net.pdelayStage[p] = 1 then s.pdelayTo p 2 else s)
    | .pdelayRespFollowUp => .next (if s.net.pdelayStage[p] = 2 then s.pdelayEnd p msg.span msg.turn else s)

/-- GPTP_TIMEOUT (R490, R512): the sync receipt of the slave port, or the announce receipt of a port that holds a vector, is
overdue; the port's vector goes and the roles are settled again. -/
def execGptpTimeout (p : Fin 3) (announce : Bool) (s0 : State) : Host.Outcome State Fault Refusal :=
  let s := s0.netGo
  let slave := decide (s.get (Reg.NET.PORT.STATUS.GPTP_ROLE p.val) = 2)
  if s.gptpOn p.val && (if announce then s.net.announce[p].isSome else slave) then
    let s1 := if slave && !announce && decide (s.get Reg.TIME.CFG.SOURCE = 3) then s.refLostHold .real else s
    let s2 := s1.raise (netCause 5)
    .next (State.gptpRoles { s2 with net := { s2.net with announce := s2.net.announce.set p none } })
  else .next s

/-- GPTP_MESSAGE_SEND (R490): 0 Sync with its Follow_Up on the master ports of the grandmaster, 1 Announce on the master ports,
2 Pdelay_Req on every gPTP port. -/
def execGptpMessageSend (kind : Fin 3) (s0 : State) : Host.Outcome State Fault Refusal :=
  let s := s0.netGo
  match kind.val with
  | 0 =>
    if s.flag Reg.NET.GPTP.STATUS.GM then
      .next ((s.gptpPorts 1).foldl (fun t q => (t.emitGptp q (.sync true)).emitGptp q .followUp) s)
    else .next s
  | 1 => .next ((s.gptpPorts 1).foldl (fun t q => t.emitGptp q (.announce s.announceVec)) s)
  | _ => .next (((List.finRange 3).filter (fun q => s.gptpOn q.val)).foldl (fun t q => (t.pdelayTo q 1).emitGptp q .pdelayReq) s)

/-- The source address of a port (R496, R511), most significant byte first. -/
def macBytes (p : Nat) : List Byte := (leBytes 6 (Config.mac p).toNat).reverse

/-- The address that six bytes spell, most significant byte first. -/
def macOf (b : List Byte) : BitVec 48 := BitVec.ofNat 48 (leAt (b.take 6).reverse 0 6)

/-- The destination address of Folis (R496). -/
def folisDest : List Byte := [0x03#8, 0x47#8, 0x51#8, 0x46#8, 0x00#8, 0x00#8]
/-- The EtherType of Folis (R496). -/
def folisType : List Byte := [0x88#8, 0xB5#8]
/-- The destination address of gPTP (R488). -/
def gptpDest : List Byte := [0x01#8, 0x80#8, 0xC2#8, 0x00#8, 0x00#8, 0x0E#8]

/-- A frame that the switch never forwards (R488). -/
def consumed (f : List Byte) : Bool :=
  (f.take 6 == folisDest && slice f 12 2 == folisType) || f.take 6 == gptpDest

/-- The traffic class of a frame (R492): its PCP; 0 without a tag. -/
def frameClass (f : List Byte) : Nat := if slice f 12 2 == [0x81#8, 0x00#8] then leAt f 14 1 / 32 else 0

/-- Root epochs in the ageing time of 300 s (R488). -/
abbrev ageEpochs : Nat := 100000000

/-- The bridge learns a source address (R488): 512 addresses; a group address is no source; with the table full of addresses not
yet aged, a new one is not learned. -/
def State.learn (s : State) (a : BitVec 48) (p : Nat) : State :=
  let live := s.net.table.filter (fun e => decide (s.clk.epochs < e.2.2 + ageEpochs) && e.1 != a)
  let t := if a.getLsbD 40 ∨ 512 ≤ live.length then live else (a, p, s.clk.epochs) :: live
  { s with net := { s.net with table := t } }

/-- SWITCH_FRAME (R488, R492): a frame that arrives at port p is learned from and forwarded to the port of its destination, or, with
a group or unknown destination, to every other port that is UP. -/
def execSwitchFrame (p : Fin 3) (frame : List Byte) (s0 : State) : Host.Outcome State Fault Refusal :=
  let s := s0.netGo
  if s.linkUp p.val && decide (14 ≤ frame.length) && decide (frame.length + 4 ≤ 1522) && !consumed frame then
    let s1 := s.learn (macOf (frame.drop 6)) p.val
    let dest := macOf frame
    let known := if dest.getLsbD 40 then none else s1.net.table.find? (fun e => e.1 == dest)
    let cls := frameClass frame
    let send (t : State) (q : Fin 3) : State := t.emit q cls frame.length (.bridged q.val cls frame)
    let ports := (List.finRange 3).filter (fun q => q != p && s1.linkUp q.val && (match known with
      | some e => e.2.1 == q.val
      | none => true))
    .next (ports.foldl send s1)
  else .next s

/-- The link-down detector of a port (R509, R512): under a SHADOW window its action waits for the window's end. -/
def State.linkDown (s : State) (p : Nat) : State :=
  match s.injAt Reg.NET.INJ_STATUS.addr with
  | some i =>
    if i.target = 0 ∧ i.index = p then
      { s with injs := s.injs.map (fun j => if j.ctrl = Reg.NET.INJ_STATUS.addr then { j with seen := 1 } else j) }
    else s.raise (netCause p)
  | none => s.raise (netCause p)

/-- A port comes UP again: nothing waits for the end of a window of its detector (R395). -/
def State.linkBack (s : State) (p : Nat) : State :=
  { s with injs := s.injs.map (fun j =>
      if j.ctrl = Reg.NET.INJ_STATUS.addr ∧ j.target = 0 ∧ j.index = p then { j with seen := 0 } else j) }

/-- The link state that a trained port takes (R487, R489): a spare that stands by is STANDBY. -/
def State.linkTrained (s : State) (p : Nat) : Nat := if p = 2 ∧ s.flag Reg.NET.CFG.ETH2_SPARE ∧ s.spareIn = false then 3 else 2

/-- The set-up of the ports acts on their links (R489, R511): a port out of use is DOWN; ETH2 as a spare that is not brought in stands by, and
carries traffic again once it is none. -/
def State.portsSettle (s : State) : State :=
  let s1 := (List.range 3).foldl (fun t p =>
    if t.flag (Reg.NET.PORT.CFG.ENABLE p) then t else t.put (Reg.NET.PORT.STATUS.LINK p) 0) s
  let spare := s1.flag Reg.NET.CFG.ETH2_SPARE
  let link := s1.get (Reg.NET.PORT.STATUS.LINK 2)
  if spare ∧ link = 2 ∧ s1.spareIn = false then (s1.put (Reg.NET.PORT.STATUS.LINK 2) 3).linkDown 2
  else if spare = false ∧ link = 3 then (s1.put (Reg.NET.PORT.STATUS.LINK 2) 2).linkBack 2
  else s1

/-- A report of a port fulfils a condition of R437 or not: a failed self-test, or more than 10⁻⁶ of a second's symbols in error. -/
def State.portJudge (s : State) (p : Fin 3) (e : PortErrs) : State :=
  let bad := e.phyFail || decide (e.symbols < e.worst * 1000000)
  { s with net := { s.net with portBad := if bad then s.net.portBad ||| (1#3 <<< p.val) else s.net.portBad &&& ~~~(1#3 <<< p.val) } }

/-- PORT_LINK_CHANGE (R487, R489, R511): 0 the link is down, 1 it trains, 2 it has trained; `errs` is what its PHY reports with it. PHYs run from L8 or W5 on, on ports in use; a failed port stays DOWN. -/
def execPortLinkChange (p : Fin 3) (link : Fin 3) (errs : PortErrs) (s0 : State) : Host.Outcome State Fault Refusal :=
  let s := s0.netGo.portJudge p errs
  if s.life = .run ∧ s.flag (Reg.NET.PORT.CFG.ENABLE p.val) ∧ s.groom.live.ports.contains p.val = false then
    let up := s.linkUp p.val
    let n := if link.val = 2 then s.linkTrained p.val else link.val
    let s1 := (s.put (Reg.NET.PORT.STATUS.LINK p.val) n).put (Reg.NET.PORT.STATUS.SYM_ERRS p.val)
      (min (s.get (Reg.NET.PORT.STATUS.SYM_ERRS p.val) + errs.count) 0xFFFF)
    let s2 := if up ∧ n ≠ 2 then s1.linkDown p.val else if n = 2 then s1.linkBack p.val else s1
    .next s2.gptpRoles
  else .next s

/-- The port that SPARE_OF names has failed (R437, R441, R442, R445, R489). ETH2 takes over its switch, gPTP and Folis roles; without a trained
spare that stands free the port is out with no spare left, and while ETH2 is under test it waits for the end. -/
def State.ethBringIn (s : State) : State :=
  let f := s.spareOf
  let g := s.groom.live
  if s.underTest 0x7A then { s with groom := { s.groom with ethWait := true } }
  else if s.flag Reg.NET.CFG.ETH2_SPARE && decide (s.get (Reg.NET.PORT.STATUS.LINK 2) = 3) && !g.ports.contains 2 then
    let port (q : Nat) : Nat := if q = f then 2 else q
    let n : NetSt := s.net
    let k : Fin 3 := Fin.ofNat 3 f
    let beacon (b : Beacon) : Beacon := { b with port := port b.port }
    let row (e : BitVec 48 × Nat × Nat) : BitVec 48 × Nat × Nat := (e.1, port e.2.1, e.2.2)
    let rep (h : Nat × FolisRec) : Nat × FolisRec := (port h.1, h.2)
    let s1 := { s with
      groom := { s.groom with live := { g with ports := g.ports ++ [f] } }
      net := { n with
        table := n.table.map row
        announce := (n.announce.set 2 n.announce[k]).set k none
        beacons := n.beacons.map beacon
        held := n.held.map rep
        delays := n.delays.set k {} } }
    let st := s1.rd (Reg.NET.PORT.STATUS.addr f)
    let s2 := (s1.wr (Reg.NET.PORT.STATUS.addr 2) (setBits (st &&& 0x3C#32) 0 2 2 ||| (s1.rd (Reg.NET.PORT.STATUS.addr 2) &&& 0xFFFF0000#32))).wr
      (Reg.NET.PORT.STATUS.addr f) (st &&& 0xFFFF0000#32)
    let c := s2.get Reg.NET.FOLIS.STATUS.CHILDREN
    let bit := c / 2 ^ f % 2
    let s3 := s2.put Reg.NET.FOLIS.STATUS.CHILDREN (c - bit * 2 ^ f + bit * 4)
    let s4 := if s3.get Reg.NET.FOLIS.STATUS.PARENT = f then s3.put Reg.NET.FOLIS.STATUS.PARENT 2 else s3
    let s5 := if s.linkUp f && s.flag (Reg.NET.PORT.CFG.ENABLE f) then s4.linkDown f else s4
    (s5.raise (netCause 3)).broughtIn 0
  else s.spareOut

/-- ETH_SPARE_BRING_IN (R437, R489): the port that SPARE_OF names fulfils a condition of R437. -/
def execEthSpareBringIn (s0 : State) : Host.Outcome State Fault Refusal :=
  let s := s0.netGo
  let f := s.spareOf
  if s.groom.live.ports.contains f || !s.net.portBad.getLsbD f then .next s else .next s.ethBringIn

/-- What waited for the end of a test goes on, with the unit that passed where one did (R445). -/
def State.bistServe (s : State) (b : BistRun) : State :=
  if b.target = 0x7A then
    (if s.groom.ethWait then State.ethBringIn { s with groom := { s.groom with ethWait := false } } else s)
  else if b.target ≤ 0x18 then s.coreServe
  else s.nextFilter (b.target - 0x20)

/-- GROOM_BIST_DONE (R444 to R446): 0 PASS, 1 FAIL, 2 RANGE. -/
def execGroomBistDone (verdict : Fin 3) (s0 : State) : Host.Outcome State Fault Refusal :=
  let s := if s0.groom.ethWait then s0.netGo else s0
  match s.groom.bist with
  | none => .next s
  | some b =>
    if s.bistReady b then
      let s1 := State.put { s with groom := { s.groom with bist := none } } Reg.GROOM.CMD_STATUS.BUSY 0
      let s2 := match verdict.val with
        | 0 => s1.bistPass b
        | 1 => s1.bistFail b
        | _ => s1.bistRange b
      .next ((s2.bistServe b).verdict b.target (verdict.val + 1))
    else .next s

/-- The least instant base + n × cycle that lies at or after `t`, in ns. -/
def cycleStart (base cycle t : Nat) : Nat := if t ≤ base then base else base + (t - base + cycle - 1) / cycle * cycle

/-- QBV_COMMIT (R387, R493, R494, R606): a bank that breaks its range is refused with GCL_ERROR; a port that does not exist is refused like a bank that breaks its range. -/
def execQbvCommit (port : BitVec 2) (s0 : State) : Host.Outcome State Fault Refusal :=
  let s := s0.netGo
  if h : port.toNat < 3 then
    let p : Fin 3 := ⟨port.toNat, h⟩
    let (t, s1) := s.now
    let cycle := s.get (Reg.NET.PORT.QBV_CYCLE.NS p.val)
    let good := decide (1000 ≤ cycle ∧ cycle ≤ 1000000000) && (List.range (s.get (Reg.NET.PORT.QBV_CTRL.LEN p.val) + 1)).all
      (fun i => decide (0 < s.get (Reg.NET.GCL.INTERVAL p.val i)))
    if good then
      let sec := s.get (Reg.NET.PORT.QBV_BASE_S.S p.val) + t.1 / 2 ^ 32 * 2 ^ 32
      let base := sec * 1000000000 + s.get (Reg.NET.PORT.QBV_BASE_NS.NS p.val)
      let x := cycleStart base cycle (t.1 * 1000000000 + t.2 + 1000000)
      .next (State.status { s1 with net := { s1.net with
        commits := s1.net.commits.set p (some (x / 1000000000, x % 1000000000)) } } Reg.NET.CMD_STATUS.addr codeOk)
    else .next ((s1.deny Reg.NET.CMD_STATUS.addr (netCause 9)).raise (netCause 7))
  else .next (s.deny Reg.NET.CMD_STATUS.addr (netCause 9))

/-- The bank in the host's window of a port. -/
def State.windowBank (s : State) (p : Nat) : GclBank :=
  { entries := (List.range 64).map (fun i => s.rd (Reg.NET.GCL.addr p i)), len := s.get (Reg.NET.PORT.QBV_CTRL.LEN p)
    cycle := s.get (Reg.NET.PORT.QBV_CYCLE.NS p), baseS := s.get (Reg.NET.PORT.QBV_BASE_S.S p)
    baseNs := s.get (Reg.NET.PORT.QBV_BASE_NS.NS p) }

/-- Show a bank in the host's window of a port. -/
def State.showBank (s : State) (p : Nat) (b : GclBank) : State :=
  let s1 := (List.range 64).foldl (fun t i => t.wr (Reg.NET.GCL.addr p i) (b.entries.getD i 0xFF#32)) s
  (((s1.put (Reg.NET.PORT.QBV_CTRL.LEN p) b.len).put (Reg.NET.PORT.QBV_CYCLE.NS p) b.cycle).put
    (Reg.NET.PORT.QBV_BASE_S.S p) b.baseS).put (Reg.NET.PORT.QBV_BASE_NS.NS p) b.baseNs

/-- QBV_BANK_SWITCH (R492, R493): the committed bank and the active one change places. -/
def execQbvBankSwitch (p : Fin 3) (s0 : State) : Host.Outcome State Fault Refusal :=
  let s := s0.netGo
  if s.net.commits[p].isSome then
    let s1 := (s.setGates p (s.windowBank p.val)).showBank p.val s.net.active[p]
    let s2 := s1.put (Reg.NET.PORT.QBV_CTRL.BANK p.val) (1 - s.get (Reg.NET.PORT.QBV_CTRL.BANK p.val))
    .next (State.raise { s2 with net := { s2.net with commits := s2.net.commits.set p none } } (netCause 6))
  else .next s

/-- A jump of the counter from a to b acts on the armed instants outside the time block (R485, R494): an activation it steps over fires; a bank that
waits starts at the next cycle start. -/
def State.eventsOver (s : State) (a b : Int) : State :=
  let later (p : Fin 3) : Option (Nat × Nat) :=
    match s.net.commits[p] with
    | some x =>
      if steppedOver a b (some x) then
        let y := cycleStart (x.1 * 1000000000 + x.2) (max 1 (s.get (Reg.NET.PORT.QBV_CYCLE.NS p.val))) ((b / 2 ^ 32).toNat + 1)
        some (y / 1000000000, y % 1000000000)
      else some x
    | none => none
  let s1 := { s with net := { s.net with commits := Vector.ofFn later } }
  if steppedOver a b s1.svc.armed then s1.activate.raise ⟨42, 7⟩ else s1

/-- ROOT_EPOCH (R23, R30, R31, R366, R475, R485): `aligned` says that every divider stands at phase zero; `names` and `extra` are
the lanes that the judges name in the test of the rotation and in the tests out of rotation: the two of R368, and that of an injection. Until release begins, a reset holds
CLK.EPOCH at 0 (R456). -/
def execRootEpoch (aligned : Bool) (names : JudgeNames) (extra : Vector JudgeNames 3) (s : State) : Host.Outcome State Fault Refusal :=
  if s.clk.rootRuns then
    let u := s.tod.units + s.time.advance
    let s1 := { s with clk := { s.clk with epochs := s.clk.epochs + 1 } }
    let s2 := if s.life = .reset then s1 else s1.bumpWrap Reg.CLK.EPOCH.COUNT
    let s3 := s2.todEpoch
    let s4 := (s.jumpTo u).elim s3 (fun v => s3.eventsOver u v)
    .next ((s4.setIf (!aligned) ⟨46, 4⟩).judgeEpoch names extra)
  else .next s

/-- NET_INJECT (R509): no LIVE class; 0 = the link-down detector of a port in use, 1 = the master-loss detector of a node with a
parent. -/
def execNetInject (cls : Nat) (s : State) : Host.Outcome State Fault Refusal :=
  let t := s.get Reg.NET.INJ_TARGET.TARGET
  let x := s.get Reg.NET.INJ_TARGET.INDEX
  let enabled := match t with
    | 0 => decide (x < 3) && s.flag (Reg.NET.PORT.CFG.ENABLE x) && s.linkUp x
    | 1 => decide (2 ≤ s.get Reg.NET.FOLIS.STATUS.ROLE)
    | _ => false
  .next (s.inject Reg.NET.INJ_STATUS.addr cls (netCause 9) enabled false t x (fun u _ => u))

end Sys2Proof.Machine
end

