-- ==== Sys2Proof/Machine/Probe.lean ====
section
/-! DEFINITION. Probe: machine identification, cable and switch characterisation and injection (R426 to R433, R447). -/

namespace Sys2Proof.Machine

/-- A cause of the PROBE group (R449). -/
def probeCause (b : Nat) : Cause := ⟨44, b⟩

/-- Code of a Probe task (R448). -/
def ProbeTask.code : ProbeTask → Nat
  | .none => 0 | .mid => 1 | .cable => 2 | .peers => 3

/-- PROBE.STATUS (R448). -/
def State.probeStatus (s : State) : Word :=
  BitVec.ofNat 32 (b2n (decide (s.probe.task ≠ .none)) + s.probe.task.code * 2 +
    (if s.probe.task = .none then 0 else s.probe.slot % 4) * 8)

/-- The conditions of MID and CABLE on a slot (R426, R430). -/
def State.probeReady (s : State) (i : Fin 4) : Bool :=
  let v := s.rd Reg.PROBE.MID_VDC.addr
  (s.slot i).state.resting && s.slow i && fLe v s.dcl.a.res && fLe v s.dcl.b.res && decide (s.probe.task = .none)

/-- A Probe command on a slot is accepted or refused (R426). -/
def State.probeCmd (s : State) (ok : Bool) (act : State → State) : Host.Outcome State Fault Refusal :=
  if ok then .next ((act s).status Reg.PROBE.CMD_STATUS.addr codeOk)
  else .next (s.deny Reg.PROBE.CMD_STATUS.addr (probeCause 12))

/-- An identification begins (R426): the position at the start is kept for the motion test of R428, and Probe writes the slot's phase legs. -/
def State.midStart (s : State) (i : Fin 4) : State :=
  let t := { s with probe := { s.probe with
    task := .mid, slot := i.val, posRef := ((s.servingPos i).filter (fun k => s.posValid k)).map (fun k => (k, s.pos[k].pos)) } }
  (List.finRange 32).foldl (fun u n => if u.midOwns n then u.midWrite n else u) t

/-- MID (R426). -/
def execMidCmd (i : Fin 4) (s : State) : Host.Outcome State Fault Refusal := s.probeCmd (s.probeReady i) (fun t => t.midStart i)

/-- An identification leaves a result, with every phase leg of the slot off (R427, R428). -/
def State.midEnd (s : State) (r : MidRes → MidRes) (c : Nat) : State :=
  let i := Fin.ofNat 4 s.probe.slot
  let s1 := (List.finRange 32).foldl (fun u n => if u.midOwns n then u.midIdle n else u) s
  let s2 := { s1 with probe := { s1.probe with task := .none, mid := s1.probe.mid.set i (r s1.probe.mid[i]) } }
  (s2.bumpWrap (Reg.PROBE.MID.STATUS.SEQ i.val)).raise (probeCause c)

/-- The link voltage of an identification (R427): the higher of the two results; free where neither is valid. -/
def State.midVdc (s : State) : Word × State :=
  match s.higherDc with
  | some v => (v, s)
  | none => let (v, s1) := s.fresh; (v.setWidth 32, s1)

/-- RS = ΔV / ΔI between the two points, V the duty times the link voltage (R427). DESIGN CHOICE (log entry 103): rounded at every step. -/
def midRs (vdc : Word) (m : Vector MidPoint 2) : Word :=
  fDiv (fMul vdc (fSub m[1].duty m[0].duty)) (fSub m[1].current m[0].current)

/-- L = V × t_p / Δi (R427). DESIGN CHOICE (log entry 103): rounded at every step. -/
def midInd (vdc : Word) (m : MidPulse) : Word := fDiv (fMul (fMul m.duty vdc) m.width) m.rise

/-- The first of the 12 angles with the smallest inductance. -/
def leastInd (l : Vector Word 12) : Nat :=
  (List.finRange 12).foldl (fun (j : Nat) k => if fLt l[k] (l.toList.getD j 0#32) then k.val else j) 0

/-- D_ANGLE (R427): the angle of a valid POS of the slot at its latest update; else the angle of the smallest inductance, or the one opposite, by
the larger peak. DESIGN CHOICE (log entry 103): with equal peaks the former. -/
def State.midAngle (s : State) (i : Fin 4) (m : MidAxis) : Word :=
  match (s.servingPos i).filter (fun k => s.posValid k) with
  | some k => s.posAngleAt k s.pos[k].tstamp false
  | none => angleOf (((leastInd m.induct : Nat) : Rat) / 12 + if fLt m.plus m.minus then 1 / 2 else 0)

/-- The results of an identification (R427). -/
def State.midDone (s0 : State) (rs : Vector MidPoint 2) (ld lq : MidPulse) (axis : MidAxis) : State :=
  let (v, s) := s0.midVdc
  let d := s.midAngle (Fin.ofNat 4 s.probe.slot) axis
  s.midEnd (fun m => { m with result := 1, rs := midRs v rs, ld := midInd v ld, lq := midInd v lq, dAngle := d }) 6

/-- MID_DONE (R427). -/
def execMidDone (rs : Vector MidPoint 2) (ld lq : MidPulse) (dAngle : MidAxis) (s : State) : Host.Outcome State Fault Refusal :=
  if s.probe.task = .mid then .next (s.midDone rs ld lq dAngle) else .next s

/-- The position has moved by more than 4 electrical degrees since the identification began (R428). -/
def State.midMotion (s : State) : Bool :=
  match s.probe.posRef with
  | some (k, p) =>
    decide (4 * s.posCpt k < (s.pos[k].pos - p).natAbs * (360 * (s.slotRec s.probe.slot).polePairs))
  | none => false

/-- A current of the slot exceeds 1.5 × MID_I (R427, R428). -/
def State.midRange (s : State) : Bool :=
  let i := s.probe.slot % 4
  let b := s.get (Reg.DRIVE.SLOT.CFG.CUR_BASE i)
  (List.range 3).any (fun j =>
    ((Ext.num (3 / 2)).mul (Ext.of (s.rd Reg.PROBE.MID_I.addr))).lt (Ext.of (fAbs (s.portNow 0x10 i (b + j)).val)))

/-- MID_ABORT (R428): motion or an overcurrent ends the identification. -/
def execMidAbort (s : State) : Host.Outcome State Fault Refusal :=
  if s.probe.task = .mid ∧ (s.midMotion || s.midRange) = true then
    .next (s.midEnd (fun m => { m with result := if s.midMotion then 4 else 5 }) 7)
  else .next s

/-- A reaction of class F2, F3 or F4 that reaches the slot under identification ends it (R428). -/
def State.midReached (s : State) (cls : Nat) (reached : Fin 4 → Bool) : State :=
  if s.probe.task = .mid ∧ 2 ≤ cls ∧ cls ≤ 4 ∧ reached (Fin.ofNat 4 s.probe.slot) = true then
    s.midEnd (fun m => { m with result := 2 }) 7
  else s

/-- The test of a cable turns an output of its leg on, or both off (R430); the other legs stay off. -/
def State.cablePulse (s : State) (out : Option Bool) : State :=
  let n := Fin.ofNat 32 s.probe.leg
  ((State.legElapse { s with probe := { s.probe with pulse := out } } n).updateRefs n .other).settle

/-- The leg of a cable test is no longer driven by it. -/
def State.cableStop (s : State) : State :=
  let n := Fin.ofNat 32 s.probe.leg
  ((State.legElapse { s with probe := { s.probe with task := .none, pulse := none } } n).updateRefs n .other).settle

/-- The sequence of a leg starts (R430 step 1): output A turns on. -/
def State.cableStart (s : State) (i l : Nat) : State :=
  State.cablePulse { s with probe := { s.probe with task := .cable, slot := i, leg := l } } (some false)

/-- The sequence of a leg goes on to its end (R430 steps 2 and 3): A turns off, B on after its dead time, and off. -/
def State.cableEnd (s : State) : State := (((s.cablePulse none).cablePulse (some true)).cablePulse none).cableStop

/-- PROBE_ABORT (R428, R448): a running task ends. -/
def execProbeAbort (s : State) : Host.Outcome State Fault Refusal :=
  let t := match s.probe.task with
    | .mid => s.midEnd (fun m => { m with result := 2 }) 7
    | .cable => s.cableStop
    | _ => { s with probe := { s.probe with task := .none } }
  .next (t.status Reg.PROBE.CMD_STATUS.addr codeOk)

/-- The next phase leg of a slot from leg n on. -/
def State.phaseFrom (s : State) (i n : Nat) : Option Nat :=
  (List.range 32).find? (fun l => decide (n ≤ l) && decide ((s.legRec l).slot = i) && decide ((s.legRec l).function = 1))

/-- CABLE (R430): the phase legs of the slot, one after another; a slot without one has nothing to run. -/
def execCable (i : Fin 4) (s : State) : Host.Outcome State Fault Refusal :=
  s.probeCmd (s.probeReady i) (fun t =>
    match t.phaseFrom i.val 0 with
    | some l => t.cableStart i.val l
    | none => t.raise (probeCause 8))

/-- The primary channel of output B of a leg. -/
def State.primaryB (s : State) (l : Nat) : Option Nat :=
  (List.range 64).find? (fun n => let r := s.chanRec n; !r.unmapped && decide (r.leg = l) && decide (r.out = 1))

/-- The cable length in cm for a span in CLK_EDGE counts (R431); an infinite VP lies beyond every range. -/
def State.cableCm (s : State) (k : Nat) : Rat :=
  let vp := s.rd Reg.PROBE.VP.addr
  if fInf? vp then 65536 else fRat vp * ((k : Rat) * 2 / 3 / 4) / 40

/-- The cable length of a leg (R431): `span` is from the first to the fifth crossing in CLK_EDGE counts. -/
def State.cableRecord (s : State) (l : Nat) (span : Option Nat) : State :=
  let sense := match s.primaryB l with
    | some n => decide ((s.chanRec n).sense / 8 % 2 = 1)
    | none => false
  match span with
  | some k =>
    if sense && decide (k ≤ 4500) then
      let cm := s.cableCm k
      let code := (cm + 1 / 2).floor.toNat
      let (v, s1) := if code < 65536 then (0#64, s) else s.fresh
      s1.wr (Reg.PROBE.CABLE.addr l) (BitVec.ofNat 32 ((if code < 65536 then code else v.toNat % 65536) + 65536 +
        b2n (decide (40000 < cm)) * 131072))
    else s.wr (Reg.PROBE.CABLE.addr l) 0#32
  | none => s.wr (Reg.PROBE.CABLE.addr l) 0#32

/-- The switch figures of a channel (R432). -/
def State.switchRecord (s : State) (m : SwitchMeas) : State :=
  (s.wr (Reg.PROBE.SWC.DELAY.addr m.chan.val)
    (BitVec.ofNat 32 (m.tdOn.toNat + m.tdOff.toNat * 4096 + 16777216))).wr (Reg.PROBE.SWC.QG.addr m.chan.val)
    (BitVec.ofNat 32 m.charge.toNat)

/-- QG_MEAS of a switch, summed over a pair, lies more than 20 % off the record (R432). -/
def State.chargeOff (s : State) (ms : List SwitchMeas) (m : SwitchMeas) : Bool :=
  let r := s.chanRec m.chan.val
  let sum := ((ms.filter (fun x => x.chan == m.chan || x.chan.val == r.partner)).map (fun x => x.charge.toNat)).sum
  decide (r.qg * 6 < sum * 5 ∨ sum * 5 < r.qg * 4)

/-- CABLE_LEG_DONE (R430 to R432). -/
def execCableLegDone (span : Option Nat) (delays : List SwitchMeas) (s : State) : Host.Outcome State Fault Refusal :=
  if s.probe.task = .cable then
    let l := s.probe.leg
    let ms := delays.filter (fun m => !(s.chanRec m.chan.val).unmapped && (s.chanRec m.chan.val).leg == l)
    let s1 := ms.foldl (fun t m => t.switchRecord m) (s.cableRecord l span)
    let s2 := s1.setIf (ms.any (fun m => s.chargeOff ms m)) (probeCause 9)
    let s3 := s2.cableEnd
    match s.phaseFrom s.probe.slot (l + 1) with
    | some k => .next (s3.cableStart s.probe.slot k)
    | none => .next (s3.raise (probeCause 8))
  else .next s

/-- A read of MID[i].STATUS: the fields, and what it latches (R448). -/
def State.midRead (s : State) (i : Fin 4) : State :=
  let m := s.probe.mid[i]
  let s1 := (s.put (Reg.PROBE.MID.STATUS.RESULT i.val) m.result).put (Reg.PROBE.MID.STATUS.PSI_VALID i.val) (b2n m.psiValid)
  let s2 := (s1.wr (Reg.PROBE.MID.PARM.addr i.val 0) m.rs).wr (Reg.PROBE.MID.PARM.addr i.val 1) m.ld
  ((s2.wr (Reg.PROBE.MID.PARM.addr i.val 2) m.lq).wr (Reg.PROBE.MID.PARM.addr i.val 3) m.psi).wr
    (Reg.PROBE.MID.D_ANGLE.addr i.val) m.dAngle

/-- The cause of a Probe injection target (R447): 0 AUX_LOW, 1 AUX_HIGH, 2 AUX_FAIL, 3 RAIL_WARN. -/
def probeTarget (t : Nat) : Cause := probeCause (match t with | 0 => 1 | 1 => 0 | n => n)

/-- PROBE_INJECT (R447). -/
def execProbeInject (cls : Nat) (s : State) : Host.Outcome State Fault Refusal :=
  let t := s.get Reg.PROBE.INJ_TARGET.TARGET
  .next (s.inject Reg.PROBE.INJ_STATUS.addr cls (probeCause 12) (decide (t < 4)) true t 0 (fun x _ => x))

/-- A Probe injection comes to its result (R447, R396). -/
def State.probeInjEnd (s : State) (i : Inj) (pass : Bool) : State :=
  if i.live then (s.raiseM (probeTarget i.target) .live).injEnd i.ctrl codeActed
  else if pass then (s.setCauseM (probeTarget i.target) .shadow).injEnd i.ctrl codePass
  else s.injEnd i.ctrl codeFail

end Sys2Proof.Machine
end

