-- ==== Sys2Proof/Machine/Patrol.lean ====
section
/-! DEFINITION. Patrol: classification, reactions, F4, watchdogs and injection (chapter 14). -/

namespace Sys2Proof.Machine

/-- A slot takes Patrol's reactions (R306, R322, R374): every slot, but while a failed migration keeps them all OFF (R596). -/
def State.reacts (s : State) (_ : Fin 4) : Bool := !s.svc.migrateFail

/-- The fields of FIRST and LAST (R397, R398). -/
def causeRecord (c : Cause) (cls slots : Nat) : Nat := c.grp + c.bit * 64 + cls * 2048 + slots * 16384 + 262144

/-- The setting that Patrol takes next: the one of the highest class, the oldest among equals (R307, R377). -/
def State.nextSetting (s : State) : List Setting → Option Setting
  | [] => none
  | x :: t => match s.nextSetting t with
    | none => some x
    | some y => if s.rank x < s.rank y then some y else some x

/-- FIRST and LAST take a classified setting (R397). -/
def State.record (s : State) (c : Cause) (cls slots : Nat) (shadow : Bool) : State :=
  let s1 := if 2 ≤ cls then
      s.wr Reg.PATROL.LAST.addr (BitVec.ofNat 32 (causeRecord c cls slots + b2n shadow * 524288)) else s
  if 3 ≤ cls ∧ shadow = false ∧ s1.flag Reg.PATROL.FIRST.VALID = false then
    let (t, s2) := s1.now
    State.wr { s2 with patrol := { s2.patrol with firstTime := t } } Reg.PATROL.FIRST.addr
      (BitVec.ofNat 32 (causeRecord c cls slots))
  else s1

/-- The module enters F4 (R379); a start of a TRIAL bank is not successful then (R597). -/
def State.enterF4 (s : State) : State :=
  if s.patrol.f4 then s
  else State.raise { s with patrol := { s.patrol with f4 := true }, svc := { s.svc with clean := false } } ⟨0, 7⟩

/-- The reaction of a class (R374): F2 and F3 to each slot of the set, F4 to every slot and to the module; an identification that it
reaches ends (R428). -/
def State.react (s0 : State) (cls slots : Nat) : State :=
  let s := s0.midReached cls (fun i => decide (cls = 4) || inMask slots i)
  match cls with
  | 2 => (List.finRange 4).foldl (fun t i => if inMask slots i && t.reacts i then t.applyF2 i else t) s
  | 3 => (List.finRange 4).foldl (fun t i => if inMask slots i && t.reacts i then t.applyF34 i .f3 else t) s
  | 4 => ((List.finRange 4).foldl (fun t i => if t.reacts i then t.applyF34 i .f4 else t) s).enterF4
  | _ => s

/-- The escalated class of a setting stands while its cause does: a later setting of a lower class undoes nothing (R377, R378). -/
def State.setRaised (s : State) (c : Cause) (cls : Nat) : State :=
  if s.causeSet c ∧ s.classNow c < cls then
    { s with patrol := { s.patrol with
      raised := s.patrol.raised.filter (fun e => !(e.1 == c.grp && e.2.1 == c.bit)) ++ [(c.grp, c.bit, cls)] } }
  else s

/-- Losses of the observer that waited for graver settings act (R307, R377). -/
def State.obsSettle (s : State) : State := (List.finRange 4).foldl (fun t i => t.obsAct i) s

/-- CAUSE_CLASSIFY (R374 to R379, R391, R392, R397): Patrol takes the most urgent setting that waits. -/
def execCauseClassify (s : State) : Host.Outcome State Fault Refusal :=
  match s.nextSetting s.toClassify with
  | none => .next s.obsSettle
  | some x =>
    let c : Cause := ⟨x.grp, x.bit⟩
    let s0 := { s with toClassify := s.toClassify.erase x }
    let slots := s0.slotsOf c
    match x.mark with
    | .shadow => .next (s0.record c (s0.classOf c) slots true).obsSettle
    | .live => .next ((s0.record c (s0.classOf c) slots false).react (s0.classOf c) slots).obsSettle
    | .real =>
      let (cls, s1) := s0.escalate c (s0.classOf c)
      .next (((s1.setRaised c cls).record c cls slots false).react cls slots).obsSettle

/-- ESC_WINDOW_END (R378). -/
def execEscWindowEnd (e : Fin 8) (s : State) : Host.Outcome State Fault Refusal :=
  .next (s.put (Reg.PATROL.ESC.STATUS.RUN e.val) 0)

/-- A slot is in SAFE. -/
def State.anySafe (s : State) : Bool := s.slots.toList.any (fun x => decide (x.state = .safe))

/-- SAFE_N high (R49, R381); it stays low with a course that failed to load (R86). -/
def State.safeNHigh (s : State) : Bool :=
  decide (s.life = .run) && !s.anySafe && !s.patrol.f4 && decide (s.get Reg.PISTE.STATUS.STATE ≠ 4)

/-- Patrol asks for friction braking (R382). -/
def State.frictionAsked (s : State) : Bool :=
  s.patrol.f4 || s.chop.friction || s.patrol.hostFriction ||
    s.realCauses.any (fun c => match s.faultRec c with
      | some e => decide (e.flags % 2 = 1)
      | none => false) ||
    (List.finRange 4).any (fun i => decide ((s.slot i).state = .safe) &&
      (BitVec.ofNat 4 (s.get Reg.PATROL.FRICTION_CFG.ON_SAFE)).getLsbD i.val)

/-- The FRICTION_REQ contact is asserted (R50, R58, R464): without supply, in a reset and its lift up to host enable, in reset-safe,
and while Patrol asks. -/
def State.frictionContact (s : State) : Bool := decide (s.life ≠ .run) || s.frictionAsked

/-- PATROL.CLASS[i] (R398): the classes of the slot's causes that stand without a shadow mark. -/
def State.patrolClass (s : State) (i : Fin 4) : Word :=
  s.realCauses.foldl (fun w c => if s.causeOf c i then w ||| (1#32 <<< s.classNow c) else w) 0#32

/-- An F1 cause of slot i is set (R374). -/
def State.degraded (s : State) (i : Fin 4) : Bool := (s.patrolClass i).getLsbD 1

/-- PATROL.STATUS (R398). -/
def State.patrolStatus (s : State) : Word :=
  BitVec.ofNat 32 (b2n s.patrol.f4 + b2n s.safeNHigh * 2 + b2n s.frictionAsked * 4 + b2n s.testOpen * 8 +
    b2n s.liveBusy * 16 + ((List.finRange 4).map (fun i =>
      (b2n (decide ((s.slot i).state = .safe)) * 256 + b2n (s.degraded i) * 4096) * 2 ^ i.val)).sum)

/-- CLEAR_F4 (R380). -/
def execClearF4 (s : State) : Host.Outcome State Fault Refusal :=
  let judges := s.get Reg.TRIAD.STATUS.JUDGES
  let few := decide (judges % 2 + judges / 2 % 2 + judges / 4 % 2 < 2)
  if s.realCauses.any (fun c => decide (s.classNow c = 4)) || s.flag Reg.CLK.STATUS.BRIDGE || few || !s.courseActive ||
      s.supply.below16 then .next (s.deny Reg.PATROL.CMD_STATUS.addr ⟨0, 12⟩)
  else .next ((State.raise { s with patrol := { s.patrol with f4 := false } } ⟨0, 8⟩).status
    Reg.PATROL.CMD_STATUS.addr codeOk)

/-- CLEAR_FIRST (R397, R398). -/
def execClearFirst (s : State) : Host.Outcome State Fault Refusal :=
  .next ((State.wr { s with patrol := { s.patrol with firstTime := (0, 0) } } Reg.PATROL.FIRST.addr 0#32).status
    Reg.PATROL.CMD_STATUS.addr codeOk)

/-- FRICTION_ON (R382, R398). -/
def execFrictionOn (s : State) : Host.Outcome State Fault Refusal :=
  .next (State.status { s with patrol := { s.patrol with hostFriction := true } } Reg.PATROL.CMD_STATUS.addr codeOk)

/-- FRICTION_OFF (R382, R398). -/
def execFrictionOff (s : State) : Host.Outcome State Fault Refusal :=
  .next (State.status { s with patrol := { s.patrol with hostFriction := false } } Reg.PATROL.CMD_STATUS.addr codeOk)

/-- The host watchdog is on and armed (R383). -/
def State.wdogOn (s : State) : Bool := s.flag Reg.PATROL.WDOG_CFG.ENABLE && s.patrol.wdogArmed

/-- The root epoch at which the deadline passes (R383), TIMEOUT and `more` ms from now. -/
def State.wdogDue (s : State) (more : Nat) : Nat := s.clk.epochs + (s.get Reg.PATROL.WDOG_CFG.TIMEOUT + more) * 1000 / 3

/-- An expiry of the host watchdog (R383): the first key is due again, and the deadline starts anew. -/
def State.wdogExpire (s : State) (m : Mark) : State :=
  ((State.bump { s with patrol := { s.patrol with deadline := s.wdogDue 0 } } Reg.PATROL.WDOG_STATUS.EXPIRIES).put Reg.PATROL.WDOG_STATUS.NEXT 0).raiseM ⟨0, 0⟩ m

/-- WDOG_KICK (R383): `ms` since the previous accepted kick. -/
def execWdogKick (key : BitVec 8) (ms : Nat) (s : State) : Host.Outcome State Fault Refusal :=
  if !s.wdogOn then .next s
  else
    let due := if s.flag Reg.PATROL.WDOG_STATUS.NEXT then 0xA5#8 else 0x5A#8
    let soon := s.patrol.kicked && decide (ms < s.get Reg.PATROL.WDOG_CFG.MIN)
    if key ≠ due ∨ soon = true then .next (s.heldAct 8 0 (fun t => t.wdogExpire .real))
    else .next (State.put { s with patrol := { s.patrol with kicked := true, deadline := s.wdogDue 0 } } Reg.PATROL.WDOG_STATUS.NEXT
      (1 - s.get Reg.PATROL.WDOG_STATUS.NEXT))

/-- HOST_WDOG (R383): the deadline passes. -/
def execHostWdog (s : State) : Host.Outcome State Fault Refusal :=
  if s.wdogOn then .next (s.heldAct 8 0 (fun t => t.wdogExpire .real)) else .next s

/-- The states in which a slot's task is watched (R384). -/
def SlotState.watched : SlotState → Bool
  | .catching | .run | .glide | .charge | .discharge => true
  | .off | .armed | .probe | .stopped | .safe => false

/-- TASK_STALL (R384). -/
def execTaskStall (i : Fin 4) (s : State) : Host.Outcome State Fault Refusal :=
  if (s.slot i).state.watched then .next (s.heldAct 9 i.val (fun t => t.raise ⟨0, 1 + i.val⟩)) else .next s

/-- SUP_WDOG (R385): a WARM reset follows after 1 ms. -/
def execSupWdog (s : State) : Host.Outcome State Fault Refusal :=
  .next (State.raise { s with patrol := { s.patrol with supDue := true } } ⟨0, 5⟩)

/-- SUPERVISOR_REPORT (R385): the 10 ms span starts anew; no other state changes. -/
def execSupervisorReport (s : State) : Host.Outcome State Fault Refusal := .next s

/-- The detector of a Patrol injection is enabled and can act (R388, R394). -/
def State.patrolTarget (s : State) (target index : Nat) : Bool :=
  match target with
  | 0x01 => decide (index < 48) && s.flag (Reg.SDM.F.CFG.ENABLE index) && s.flag (Reg.SDM.F.CMP_CFG.EN_HI index)
  | 0x02 => decide (index < 48) && s.flag (Reg.SDM.F.CFG.ENABLE index) && s.flag (Reg.SDM.F.CMP_CFG.EN_LO index)
  | 0x03 => decide (index < 4) && s.flag Reg.SDM.DCL_CFG.ENABLE
  | 0x04 => if h : index / 4 < 4 then s.pairUsed ⟨index / 4, h⟩ (index % 4) else false
  | 0x05 => if h : index < 4 then decide (s.posMode ⟨index, h⟩ ≠ 0) && s.flag (Reg.POS.CH.FREEZE.PLAUS_EN index) else false
  | 0x06 => if h : index < 4 then decide (s.posMode ⟨index, h⟩ = 3) else false
  | 0x07 => decide (index < 8) && decide ((s.taskRec index).leg ≠ 255)
  | 0x08 => decide (index = 0) && s.wdogOn
  | 0x09 => if h : index < 4 then (s.slot ⟨index, h⟩).state.watched else false
  | 0x0A => decide (index = 0) && s.flag Reg.DRIVE.CHOP_CFG.ENABLE
  | 0x0B => decide (index = 0)
  | _ => false

/-- The causes that the detector of a target sets (R394 and the chapters of the detectors). -/
def State.patrolCauses (s : State) (target index : Nat) : List Cause :=
  match target with
  | 0x01 | 0x02 => if index < 32 then [⟨20, index⟩] else [⟨21, index - 32⟩]
  | 0x03 => [⟨22, match index with | 0 => 1 | 1 => 2 | 2 => 3 | _ => 5⟩]
  | 0x04 => [⟨24 + index / 4, 2⟩]
  | 0x05 => [⟨24 + index, 15⟩]
  | 0x06 => [⟨24 + index, 7⟩]
  | 0x07 => [carveCause (s.ownerOf index) 0]
  | 0x08 => [⟨0, 0⟩]
  | 0x09 => [⟨0, 1 + index⟩]
  | 0x0A =>
    let served := (List.finRange 4).filter (fun i => s.flag (Reg.SLALOM.SL.CFG.ENABLE i.val))
    (if served = [] then [0] else served).map (fun i => driveCause i 8)
  | 0x0B => [⟨46, 1⟩]
  | _ => []

/-- The detector of a target acts with the given mark: a real condition that waited for the end of a SHADOW window, or a
LIVE stimulus. -/
def State.patrolAct (s : State) (target index : Nat) (m : Mark) : State :=
  match target with
  | 0x01 | 0x02 => if h : index < 48 then
      let n : Fin 48 := ⟨index, h⟩
      let f := s.sdm[n]
      (s.setSdm n (if target = 1 then { f with hi := true } else { f with lo := true })).cmpAssert n m
    else s
  | 0x03 => if h : index < 4 then s.crossAct ⟨index, h⟩ m else s
  | 0x04 => if h : index / 4 < 4 then s.wireAct ⟨index / 4, h⟩ (index % 4) m else s
  | 0x05 => if h : index < 4 then s.monAct ⟨index, h⟩ 15 9 m else s
  | 0x06 => if h : index < 4 then s.monAct ⟨index, h⟩ 7 4 m else s
  | 0x07 => match s.carve.running with
    | some t => if t.val = index then s.abortRun t (if m = .real then s.budget else 1) m else s
    | none => s
  | 0x08 => s.wdogExpire m
  | 0x09 => s.raiseM ⟨0, 1 + index⟩ m
  | 0x0A => s.chopFault m
  | 0x0B => s.refLoss m
  | _ => s

/-- A Patrol injection ends (R395, R396): the result, then the action of a live condition that arose in the window. -/
def State.patrolEnd (s : State) (i : Inj) (code : Nat) : State :=
  let s1 := s.injEnd i.ctrl code
  if i.seen = 1 ∧ i.live = false ∧ i.ctrl = Reg.PATROL.INJ_STATUS.addr then s1.patrolAct i.target i.index .real else s1

/-- A shadow result of a Patrol injection (R391, R396). -/
def State.patrolShadow (s : State) (i : Inj) (pass : Bool) : State :=
  let s1 := if pass then (s.patrolCauses i.target i.index).foldl (fun t c => t.setCauseM c .shadow) s else s
  s1.patrolEnd i (if pass then codePass else codeFail)

/-- PATROL_INJECT (R388, R389, R394): the chopper's virtual pulse is judged at once, and always fails its tests. -/
def execPatrolInject (cls : Nat) (s : State) : Host.Outcome State Fault Refusal :=
  let target := s.get Reg.PATROL.INJ_TARGET.TARGET
  let index := s.get Reg.PATROL.INJ_TARGET.INDEX
  let ctrl := Reg.PATROL.INJ_STATUS.addr
  .next (s.inject ctrl cls ⟨0, 12⟩ (s.patrolTarget target index) (target != 8 && target != 9 && target != 0x0B)
    target index (fun t live =>
      if target = 0x0A then
        if live then (t.patrolAct 0x0A 0 .live).injEnd ctrl codeActed else t.patrolShadow ⟨ctrl, false, 0x0A, 0, 0⟩ true
      else t))

/-- CLS_QUERY (R398, R399). -/
def execClsQuery (group : Fin 48) (bit : Fin 32) (s : State) : Host.Outcome State Fault Refusal :=
  let c : Cause := ⟨group.val, bit.val⟩
  let s1 := (s.put Reg.PATROL.CLS_QUERY.GROUP c.grp).put Reg.PATROL.CLS_QUERY.BIT c.bit
  let watched := (List.range 8).any (fun e => decide (s.get (Reg.PATROL.ESC.CFG.COUNT e) ≠ 0) &&
    decide (s.get (Reg.PATROL.ESC.CFG.GROUP e) = c.grp) && decide (s.get (Reg.PATROL.ESC.CFG.BIT e) = c.bit))
  let (trip, fric, dflt) := match s.faultRec c with
    | some e => (if e.trip < 16 then e.trip else 31, e.flags % 2, 0)
    | none => (31, 0, 1)
  .next (s1.wr Reg.PATROL.CLS_INFO.addr (BitVec.ofNat 32
    (s.classOf c + dflt * 8 + s.slotsOf c * 16 + trip * 256 + fric * 8192 + b2n watched * 16384)))

/-- PATROL_FIRST_READ (R398). -/
def execPatrolFirstRead (s : State) : Host.Outcome State Fault Refusal :=
  .next ((s.wr Reg.PATROL.FIRST_TIME_S.addr (BitVec.ofNat 32 s.patrol.firstTime.1)).put Reg.PATROL.FIRST_TIME_NS.NS
    s.patrol.firstTime.2)

end Sys2Proof.Machine
end

