-- ==== Sys2Proof/Machine/Folis.lean ====
section
/-! DEFINITION. Folis: frames, election and tree, the cycle, schedules and capabilities (R495 to R508), and what Probe keeps of the
peers (R433). -/

namespace Sys2Proof.Machine

/-- A cause of the Folis group (R512). -/
def folisCause (b : Nat) : Cause := ⟨41, b⟩

/-- Types of Folis frames (R496). -/
abbrev tyBeacon : Nat := 1
/-- See R496. -/
abbrev tyCycle : Nat := 2
/-- See R496. -/
abbrev tyReport : Nat := 3
/-- See R496. -/
abbrev tyDelayReq : Nat := 4
/-- See R496. -/
abbrev tyDelayResp : Nat := 5
/-- See R496. -/
abbrev tyCaps : Nat := 6
/-- See R496. -/
abbrev tySchedule : Nat := 7

/-- PLEN of a type (R496). -/
def folisPlen (ty : Nat) : Nat :=
  match ty with
  | 1 => 8 | 2 => 68 | 3 => 16 | 4 => 2 | 5 => 10 | 6 => 16 | _ => 48

/-- A received frame (R496). -/
structure FolisMsg where
  src : BitVec 48
  ty : Nat
  dom : Nat
  node : Nat
  cycle : Nat
  depth : Nat
  flags : Nat
  body : List Byte
deriving DecidableEq, Repr

/-- Read a frame (R496): none of another address or EtherType, with VER ≠ 1, or with a PLEN that overruns the frame. -/
def folisMsg (f : List Byte) : Option FolisMsg :=
  let plen := leAt f 20 2
  if f.take 6 = folisDest ∧ slice f 12 2 = folisType ∧ 30 ≤ f.length ∧ leAt f 14 1 = 1 ∧ 30 + plen ≤ f.length then
    some ⟨macOf (f.drop 6), leAt f 15 1, leAt f 16 2, leAt f 18 2 % 1024, leAt f 22 4, leAt f 26 1, leAt f 27 1,
      slice f 30 plen⟩
  else none

/-- NODE_ID (R511). -/
def State.nodeId (s : State) : Nat := s.get Reg.NET.FOLIS.CFG.NODE_ID

/-- Folis runs on a port (R495). -/
def State.folisOn (s : State) (p : Nat) : Bool :=
  s.flag Reg.NET.FOLIS.CFG.ENABLE && s.flag (Reg.NET.PORT.CFG.FOLIS p) && s.linkUp p

/-- The ports on which Folis runs. -/
def State.folisPorts (s : State) : List (Fin 3) := (List.finRange 3).filter (fun p => s.folisOn p.val)

/-- The child ports. -/
def State.childPorts (s : State) : List (Fin 3) :=
  s.folisPorts.filter (fun p => s.get Reg.NET.FOLIS.STATUS.CHILDREN / 2 ^ p.val % 2 == 1)

/-- The tree ports: the parent port and the child ports. -/
def State.treePorts (s : State) : List (Fin 3) :=
  s.folisPorts.filter (fun p => s.get Reg.NET.FOLIS.STATUS.PARENT == p.val ||
    s.get Reg.NET.FOLIS.STATUS.CHILDREN / 2 ^ p.val % 2 == 1)

/-- The module is the Folis master (R497). -/
def State.isMaster (s : State) : Bool := decide (s.get Reg.NET.FOLIS.STATUS.ROLE = 1)

/-- DEPTH as frames carry it (R496). -/
def State.depthByte (s : State) : Nat :=
  if s.get Reg.NET.FOLIS.STATUS.ROLE = 0 then 0xFF else s.get Reg.NET.FOLIS.STATUS.DEPTH

/-- FLAGS of the module's own frames (R496). -/
def State.ownFlags (s : State) : Nat := b2n s.isMaster + b2n s.net.sched.isSome * 2

/-- Zero padding to the Ethernet minimum of 64 bytes, 4 of which are the check sequence (R496). -/
def padded (b : List Byte) : List Byte := b ++ List.replicate (60 - b.length) 0#8

/-- A frame with a header of its own, sent at a port (R496); Folis is always of class 7 (R492). -/
def State.sendAs (s : State) (p : Fin 3) (ty node cycle depth flags : Nat) (body : List Byte) : State :=
  let f := padded (folisDest ++ macBytes p.val ++ folisType ++ leBytes 1 1 ++ leBytes 1 ty ++
    leBytes 2 (s.get Reg.NET.FOLIS.DOMAIN.val) ++ leBytes 2 node ++ leBytes 2 body.length ++ leBytes 4 cycle ++
    leBytes 1 depth ++ leBytes 1 flags ++ leBytes 2 0 ++ body)
  s.emit p 7 f.length (.own p.val f)

/-- The module's own frame of the present cycle, with further flags. -/
def State.sendOwn (s : State) (p : Fin 3) (ty flags : Nat) (body : List Byte) : State :=
  s.sendAs p ty s.nodeId (s.get Reg.NET.FOLIS.CYCLE_NO.K) s.depthByte (s.ownFlags + flags) body

/-- A frame of a type arrives at a port on which Folis runs (R495, R496): one of another domain is discarded and sets FOREIGN; one
shorter than its type's payload is discarded. -/
def State.folisIn (s0 : State) (p : Fin 3) (frame : List Byte) (ty : Nat) (act : State → FolisMsg → State) : State :=
  let s := s0.netGo
  if s.folisOn p.val then
    match folisMsg frame with
    | none => s
    | some m =>
      if m.dom ≠ s.get Reg.NET.FOLIS.DOMAIN.val then s.raise (folisCause 6)
      else if m.ty = ty ∧ folisPlen ty ≤ m.body.length then act s m
      else s
  else s

/-- The firmware version of the module (R588, R601). -/
def State.fwVersion (s : State) : Nat := leAt (s.svc.banks[s.svc.running]).firmware 20 4

/-- The module's own CAPS payload (R496, R508). -/
def State.capsBody (s : State) : List Byte :=
  leBytes 2 0x6480 ++ leBytes 1 0x41 ++ leBytes 1 revDigit ++ leBytes 4 s.fwVersion ++ leBytes 8 Config.serial.toNat

/-- The module's own CAPS on all tree ports (R508); flag 4 asks for an answer. -/
def State.sendCaps (s : State) (flags : Nat) : State := s.treePorts.foldl (fun t p => t.sendOwn p tyCaps flags s.capsBody) s

/-- A candidate comes before another (R497): the lower (MASTER_PRIO, NODE_ID). -/
def candLt (a b : Nat × Nat) : Bool := decide (a.1 < b.1) || (decide (a.1 = b.1) && decide (a.2 < b.2))

/-- The least element of a list in an order. -/
def leastBy {α : Type} (lt : α → α → Bool) : List α → Option α
  | [] => none
  | x :: t => match leastBy lt t with
    | some y => if lt y x then some y else some x
    | none => some x

/-- The candidates of the election (R497, R498) as (MASTER_PRIO, NODE_ID): the module itself, and the masters of the BEACONs of the
last 3 intervals with HOPS below 63, without the excluded ones. A BEACON that names this node adds nothing to the module itself. -/
def State.candidates (s : State) : List (Nat × Nat) :=
  let me := (s.get Reg.NET.FOLIS.CFG.MASTER_PRIO, s.nodeId)
  (if me.1 < 255 ∧ s.causeSet (folisCause 5) = false then [me] else []) ++
    ((s.net.beacons.filter (fun b => decide (b.hops < 63 ∧ b.masterPrio < 255) && b.masterId != s.nodeId &&
      !s.net.excluded.any (fun e => e.1 == b.masterId))).map (fun b => (b.masterPrio, b.masterId)))

/-- A BEACON makes a better parent than another (R497): lower HOPS, then lower sender, then lower port. -/
def parentLt (a b : Beacon) : Bool := lexLt [a.hops, a.node, a.port] [b.hops, b.node, b.port]

/-- The ports whose latest BEACON names this node as parent (R497), as bits. -/
def State.childBits (s : State) : Nat :=
  ((List.range 3).map (fun p =>
    match s.net.beacons.find? (fun b => b.port == p) with
    | some b => if s.folisOn p ∧ b.parentId = s.nodeId then 2 ^ p else 0
    | none => 0)).sum

/-- The place of a node in the tree. -/
structure Place where
  role : Nat := 0
  depth : Nat := 0x3F
  parent : Nat := 3
  parentNode : Nat := 0xFFFF
  children : Nat := 0
  master : Nat := 0
  prio : Nat := 255
deriving DecidableEq, Repr

/-- The outcome of the election (R497). -/
def State.placeOf (s : State) : Place :=
  if !s.flag Reg.NET.FOLIS.CFG.ENABLE then {}
  else
    let kids := s.childBits
    match leastBy candLt s.candidates with
    | none => { children := kids }
    | some c =>
      if c.2 = s.nodeId then { role := 1, depth := 0, children := kids, master := c.2, prio := c.1 }
      else match leastBy parentLt (s.net.beacons.filter (fun b => decide (b.masterId = c.2 ∧ b.hops < 63))) with
        | some b => { role := if kids = 0 then 3 else 2, depth := b.hops + 1, parent := b.port, parentNode := b.node, children := kids, master := c.2, prio := c.1 }
        | none => { children := kids }

/-- Election (R497, R508, R477): the place of the node is settled; a change of role, parent or master sets ROLE_CHANGE; a node that
joins a tree sends its CAPS; a master is its own time. -/
def State.elect (s : State) : State :=
  let x := s.placeOf
  let role := s.get Reg.NET.FOLIS.STATUS.ROLE
  let moved := decide (s.get Reg.NET.FOLIS.STATUS.PARENT ≠ x.parent ∨ s.get Reg.NET.FOLIS.STATUS.MASTER_ID ≠ x.master)
  let joined := decide (x.role ≠ 0 ∧ (role = 0 ∨ s.get Reg.NET.FOLIS.STATUS.MASTER_ID ≠ x.master))
  let s1 := ((((s.put Reg.NET.FOLIS.STATUS.ROLE x.role).put Reg.NET.FOLIS.STATUS.DEPTH x.depth).put
    Reg.NET.FOLIS.STATUS.PARENT x.parent).put Reg.NET.FOLIS.STATUS.CHILDREN x.children).put Reg.NET.FOLIS.STATUS.MASTER_ID x.master
  let s2 := (List.range 3).foldl (fun t p => (t.put (Reg.NET.PORT.STATUS.PARENT p) (b2n (decide (x.parent = p)))).put
    (Reg.NET.PORT.STATUS.CHILD p) (x.children / 2 ^ p % 2)) s1
  let s3 := if moved ∨ x.role ≤ 1 then s2.put Reg.NET.FOLIS.STATUS.SYNCED 0 else s2
  let own := decide (x.role = 1)
  let s4 := { s3 with net := { s3.net with
    masterPrio := x.prio, parentNode := x.parentNode
    closed := s3.net.closed || (decide (role ≠ x.role) && !(decide (2 ≤ role) && decide (2 ≤ x.role)))
    sending := s3.net.sending && own
    cancels := if own then s3.net.cancels else 0 } }
  let s5 := s4.setIf (moved || decide (role ≠ x.role)) (folisCause 0)
  let s6 := if joined then s5.sendCaps 0 else s5
  s6.ownRef

/-- The BEACON of this node (R497). -/
def State.beaconBody (s : State) : List Byte :=
  leBytes 2 (s.get Reg.NET.FOLIS.STATUS.MASTER_ID) ++ leBytes 1 s.net.masterPrio ++
    leBytes 1 (s.get Reg.NET.FOLIS.STATUS.DEPTH) ++ leBytes 2 s.net.parentNode ++
    leBytes 1 (s.get Reg.NET.FOLIS.CFG.MASTER_PRIO) ++ leBytes 1 0

/-- BEACON_SEND (R497, R498): a beacon interval has passed; what is older than 3 of them no longer counts. -/
def execBeaconSend (s0 : State) : Host.Outcome State Fault Refusal :=
  let s := s0.netGo
  if s.flag Reg.NET.FOLIS.CFG.ENABLE then
    let older (b : Beacon) : Beacon := { b with age := b.age + 1 }
    let s1 := State.elect { s with net := { s.net with
      beacons := (s.net.beacons.map older).filter (fun b => decide (b.age < 3))
      excluded := (s.net.excluded.map (fun e => (e.1, e.2 - 1))).filter (fun e => decide (0 < e.2)) } }
    .next (s1.folisPorts.foldl (fun t p => t.sendOwn p tyBeacon 0 s1.beaconBody) s1)
  else .next s

/-- An address of the module's own. -/
def ownMac (a : BitVec 48) : Bool := (List.range 3).any (fun p => Config.mac p == a)

/-- BEACON_RECEIVE (R496 to R498). -/
def execBeaconReceive (p : Fin 3) (frame : Sampled (List Byte)) (s : State) : Host.Outcome State Fault Refusal :=
  .next ((s.agreeFix frame.differs).folisIn p frame.value tyBeacon (fun t m =>
    let b : Beacon := ⟨p.val, m.node, leAt m.body 0 2 % 1024, leAt m.body 2 1, leAt m.body 3 1, leAt m.body 4 2, 0⟩
    let t1 := t.setIf (decide (m.node = t.nodeId) && !ownMac m.src) (folisCause 5)
    State.elect { t1 with net := { t1.net with beacons := b :: t1.net.beacons } }))

/-- The master is lost (R498): it leaves the election for 3 beacon intervals, and the time of a node that follows it holds over. -/
def State.masterLost (s : State) : State :=
  let s1 := if s.get Reg.TIME.CFG.SOURCE = 2 then s.refLostHold .real else s
  let s2 := s1.put Reg.NET.FOLIS.STATUS.SYNCED 0
  let id := s.get Reg.NET.FOLIS.STATUS.MASTER_ID
  State.elect ({ s2 with net := { s2.net with
    excluded := (id, 3) :: s2.net.excluded.filter (fun e => e.1 != id) } }.raise (folisCause 1))

/-- MASTER_LOST (R498, R509): on a node with a parent; under a SHADOW window of the detector the action waits for its end. -/
def execMasterLost (s0 : State) : Host.Outcome State Fault Refusal :=
  let s := s0.netGo
  if 2 ≤ s.get Reg.NET.FOLIS.STATUS.ROLE then
    match s.injAt Reg.NET.INJ_STATUS.addr with
    | some i =>
      if i.target = 1 then
        .next { s with injs := s.injs.map (fun j => if j.ctrl = Reg.NET.INJ_STATUS.addr then { j with seen := 1 } else j) }
      else .next s.masterLost
    | none => .next s.masterLost
  else .next s

/-- The reference fingerprint that the master sends (R500). -/
def State.refFp (s : State) : BitVec 256 :=
  let x := s.readDigest (Reg.NET.FOLIS.REF_FP.addr 0)
  if x = 0#256 then s.readDigest (Reg.PISTE.FPRINT.addr 0) else x

/-- A staged bundle matches the TARGET_FP of the active schedule (R503). -/
def State.stagedMatch (s : State) : Bool :=
  s.net.sched.isSome && decide (s.svc.states[s.idleBank] = bankStaged) && decide ((s.svc.banks[s.idleBank]).print = s.net.target)

/-- The node's own record of a cycle (R503). -/
def State.ownRecord (s : State) (agree : Bool) : FolisRec :=
  { nodes := 1, agree := b2n agree, disagree := b2n (!agree), lowest := if agree then 0xFFFF else s.nodeId
    safe := b2n (s.slots.toList.any (fun x => decide (x.state = .safe))), f4 := b2n s.patrol.f4
    staged := b2n s.stagedMatch, maxDepth := s.get Reg.NET.FOLIS.STATUS.DEPTH }

/-- Two records become one (R504). -/
def FolisRec.join (a b : FolisRec) : FolisRec :=
  { nodes := a.nodes + b.nodes, agree := a.agree + b.agree, disagree := a.disagree + b.disagree
    lowest := min a.lowest b.lowest, safe := a.safe + b.safe, f4 := a.f4 + b.f4, staged := a.staged + b.staged
    maxDepth := max a.maxDepth b.maxDepth }

/-- Own record and the reports held (R504). -/
def State.joined (s : State) : FolisRec := s.net.held.foldl (fun r h => r.join h.2) s.net.own

/-- Every child port has reported (R504). -/
def State.allHeld (s : State) : Bool := s.childPorts.all (fun p => s.net.held.any (fun h => h.1 == p.val))

/-- The master completes a cycle (R504, R506). The first cycle after reset has no cycle before it: the model compares it with an empty
aggregate, so MISSING is not set at it (log entry 30). -/
def State.complete (s : State) : State :=
  let a := s.joined
  let old := s.net.agg
  let n := s.get Reg.NET.FOLIS.EXPECTED.N
  let s1 := { s with net := { s.net with agg := a, aggCycle := s.get Reg.NET.FOLIS.CYCLE_NO.K, closed := true } }
  (s1.setIf (decide ((0 < a.disagree ∧ old.disagree = 0) ∨ a.lowest ≠ old.lowest)) (folisCause 2)).setIf
    (decide (n ≠ 0 ∧ a.nodes < n ∧ n ≤ old.nodes)) (folisCause 3)

/-- A 12-byte time (R496) from 2^-16 ns. -/
def timeBytes (t : Nat) : List Byte := leBytes 6 (t / 65536 / 1000000000) ++ leBytes 4 (t / 65536 % 1000000000) ++ leBytes 2 t

/-- A 12-byte time in 2^-16 ns (R496). -/
def timeOf (b : List Byte) : Nat := (leAt b 0 6 * 1000000000 + leAt b 6 4) * 65536 + leAt b 10 2

/-- The SCHEDULE payload (R496, R507). -/
def State.schedBody (s : State) (t : Nat × Nat) (action : Nat) : List Byte :=
  timeBytes ((t.1 * 1000000000 + t.2) * 65536) ++ digestBytes s.net.target ++ leBytes 2 (s.get Reg.NET.FOLIS.SCHED_SEQ.SEQ) ++
    leBytes 1 action ++ leBytes 1 0

/-- A schedule whose instant has passed, at `t16` of the time of day in 2^-16 ns, is no longer active (R507). -/
def State.dropPassed (s : State) (t16 : Int) : State :=
  let left := s.net.sched.filter (fun x => decide (t16 * 65536 ≤ instantUnits x))
  { s with net := { s.net with sched := left, sending := s.net.sending && left.isSome } }

/-- After a CYCLE the master sends what stands of its schedule (R507): ACTIVATE until the instant has passed, CANCEL in 3 cycles. -/
def State.sendSchedule (s : State) : State :=
  match s.net.sched with
  | some t =>
    if s.net.sending then s.childPorts.foldl (fun u p => u.sendOwn p tySchedule 0 (s.schedBody t 1)) s else s
  | none =>
    if 0 < s.net.cancels then
      let s1 := { s with net := { s.net with cancels := s.net.cancels - 1 } }
      s1.childPorts.foldl (fun u p => u.sendOwn p tySchedule 0 (s1.schedBody (0, 0) 2)) s1
    else s

/-- The CYCLE payload of the master (R496, R500, R505): `origin` is the transmit stamp of its port. -/
def State.cycleBody (s : State) (origin : Nat) (fp : BitVec 256) (a : FolisRec) : List Byte :=
  timeBytes origin ++ leBytes 8 0 ++ digestBytes fp ++ leBytes 2 a.nodes ++ leBytes 2 a.agree ++ leBytes 2 a.disagree ++
    leBytes 2 a.lowest ++ leBytes 2 a.safe ++ leBytes 2 a.f4 ++ leBytes 2 (s.get Reg.NET.FOLIS.CYCLE.PERIOD) ++
    leBytes 1 (s.get Reg.NET.FOLIS.CYCLE.DEPTH_MAX) ++ leBytes 1 (s.get Reg.NET.FOLIS.CYCLE.REPORT_HOP)

/-- CYCLE_START (R499, R500, R503 to R507): the counter reaches T_k on the master; `stamps` are the transmit stamps of the ports
after T_k, in 2^-16 ns. -/
def execCycleStart (k : Nat) (stamps : Vector Nat 3) (s0 : State) : Host.Outcome State Fault Refusal :=
  let s := s0.netGo
  if s.isMaster then
    let tk := k * s.get Reg.NET.FOLIS.CYCLE.PERIOD * 1000 * 65536
    let s1 := (if s.net.closed then s else s.complete).dropPassed tk
    let fp := s1.refFp
    let own := s1.ownRecord (decide (fp = s1.readDigest (Reg.PISTE.FPRINT.addr 0)))
    let s2 := s1.wr Reg.NET.FOLIS.CYCLE_NO.addr (BitVec.ofNat 32 k)
    let s3 := { s2 with net := { s2.net with
      cycle := some (k % 2 ^ 32), own := own, held := [], closed := false } }
    let s4 := s3.childPorts.foldl (fun t p => t.sendOwn p tyCycle 0 (s3.cycleBody (tk + stamps[p]) fp s3.net.agg)) s3
    let s5 := s4.sendSchedule
    .next (if s5.childPorts.isEmpty then s5.complete else s5)
  else .next s

/-- CYCLE_RECEIVE (R496, R499, R500, R502, R503, R505): only on the parent port. `ingress` is the ingress stamp in 2^-16 ns past the
latest epoch start, `residence` the time in the module until the egress stamp of each port, in 2^-16 ns. A schedule whose instant
has passed is no longer active (R496, R507). -/
def execCycleReceive (p : Fin 3) (frame : Sampled (List Byte)) (ingress : Nat) (residence : Vector Nat 3) (s : State) :
    Host.Outcome State Fault Refusal :=
  .next ((s.agreeFix frame.differs).folisIn p frame.value tyCycle (fun t m =>
    if t.get Reg.NET.FOLIS.STATUS.PARENT = p.val then
      let b := m.body
      let delay : Int := (t.rd (Reg.NET.PORT.DELAY.addr p.val)).toInt * 256
      let corr : Int := (BitVec.ofNat 64 (leAt b 12 8)).toInt
      let local16 : Int := (t.tod.units + t.time.advance * (ingress : Int) / (3000 * 65536)) / 65536
      let offset := local16 - ((timeOf b : Int) + corr + delay)
      let agree := digestOf (slice b 20 32) == t.readDigest (Reg.PISTE.FPRINT.addr 0)
      let agg : FolisRec := { nodes := leAt b 52 2, agree := leAt b 54 2, disagree := leAt b 56 2, lowest := leAt b 58 2, safe := leAt b 60 2, f4 := leAt b 62 2 }
      let t1 := (((t.edgeTo (ingress * 4500 / (3000 * 65536))).dropPassed local16).wr Reg.NET.FOLIS.CYCLE_NO.addr (BitVec.ofNat 32 m.cycle)).put Reg.NET.FOLIS.STATUS.SYNCED 1
      let own := t1.ownRecord agree
      let t2 := { t1 with net := { t1.net with
        cycle := some m.cycle, own := own, held := [], closed := false, agg := agg, aggCycle := (m.cycle + 2 ^ 32 - 1) % 2 ^ 32
        period := leAt b 64 2 } }
      let t3 := if t2.get Reg.TIME.CFG.SOURCE = 2 then t2.measure offset else t2
      let t4 := t3.setIf (decide (12 < t3.get Reg.NET.FOLIS.STATUS.DEPTH)) (folisCause 8)
      t4.childPorts.foldl (fun u q => u.sendAs q tyCycle u.nodeId m.cycle u.depthByte (m.flags / 2 * 2)
        (b.take 12 ++ leBytes 8 (codeOf 64 (corr + delay + (residence[q] : Int))) ++ b.drop 20)) t4
    else t))

/-- A node sends its report of the cycle (R504). -/
def State.sendReport (s : State) : State :=
  let r := s.joined
  let body := leBytes 2 r.nodes ++ leBytes 2 r.agree ++ leBytes 2 r.disagree ++ leBytes 2 r.lowest ++ leBytes 2 r.safe ++
    leBytes 2 r.f4 ++ leBytes 2 r.staged ++ leBytes 1 r.maxDepth ++ leBytes 1 0
  let s1 := { s with net := { s.net with closed := true } }
  match s1.folisPorts.find? (fun p => s1.get Reg.NET.FOLIS.STATUS.PARENT == p.val) with
  | some p => s1.sendOwn p tyReport 0 body
  | none => s1

/-- REPORT_SEND (R504): the report of a leaf, or of a relay that holds the report of every child port. -/
def execReportSend (s0 : State) : Host.Outcome State Fault Refusal :=
  let s := s0.netGo
  if 2 ≤ s.get Reg.NET.FOLIS.STATUS.ROLE ∧ s.net.closed = false ∧ s.allHeld = true then .next s.sendReport else .next s

/-- REPORT_DEADLINE (R504): a relay sends what it holds, the master completes the cycle. -/
def execReportDeadline (s0 : State) : Host.Outcome State Fault Refusal :=
  let s := s0.netGo
  if s.net.closed then .next s
  else match s.get Reg.NET.FOLIS.STATUS.ROLE with
    | 1 => .next s.complete
    | 2 => .next s.sendReport
    | _ => .next s

/-- REPORT_RECEIVE (R504, R506): from a child port; a report of a cycle that this node has sent or completed is late. -/
def execReportReceive (p : Fin 3) (frame : Sampled (List Byte)) (s : State) : Host.Outcome State Fault Refusal :=
  .next ((s.agreeFix frame.differs).folisIn p frame.value tyReport (fun t m =>
    if t.childPorts.contains p then
      if t.net.closed ∨ t.net.cycle ≠ some m.cycle then t.raise (folisCause 4)
      else
        let b := m.body
        let r : FolisRec := { nodes := leAt b 0 2, agree := leAt b 2 2, disagree := leAt b 4 2, lowest := leAt b 6 2, safe := leAt b 8 2, f4 := leAt b 10 2, staged := leAt b 12 2, maxDepth := leAt b 14 1 }
        let t1 := { t with net := { t.net with held := (p.val, r) :: t.net.held.filter (fun h => h.1 != p.val) } }
        if t1.isMaster && t1.allHeld then t1.complete else t1
    else t))

/-- DELAY_REQ_SEND (R501). -/
def execDelayReqSend (p : Fin 3) (s0 : State) : Host.Outcome State Fault Refusal :=
  let s := s0.netGo
  if s.folisOn p.val then
    let d := s.net.delays[p]
    let n := (d.seq + 1) % 65536
    let s1 := { s with net := { s.net with delays := s.net.delays.set p { d with seq := n, waiting := true } } }
    .next (s1.sendOwn p tyDelayReq 0 (leBytes 2 n))
  else .next s

/-- DELAY_REQ_RECEIVE (R496, R501): `turn` is inserted at the transmission of the answer. -/
def execDelayReqReceive (p : Fin 3) (frame : Sampled (List Byte)) (turn : Nat) (s : State) : Host.Outcome State Fault Refusal :=
  .next ((s.agreeFix frame.differs).folisIn p frame.value tyDelayReq (fun t m => t.sendOwn p tyDelayResp 0 (leBytes 8 turn ++ m.body.take 2)))

/-- The mean of link delays, in 2^-16 ns. -/
def delayMean (l : List Int) : Int := l.sum / (l.length : Int)

/-- A result of the link delay measurement (R501): one more than 10 ns off the mean is discarded, unless 4 such come in a row. -/
def DelaySt.take (d : DelaySt) (r : Int) : DelaySt :=
  let far := !d.good.isEmpty && decide (655360 < r - delayMean d.good ∨ r - delayMean d.good < -655360)
  if !far then { d with waiting := false, good := (r :: d.good).take 8, odd := [] }
  else if d.odd.length < 3 then { d with waiting := false, odd := r :: d.odd }
  else { d with waiting := false, good := r :: d.odd, odd := [] }

/-- DELAY_RESP_RECEIVE (R501): `span` is t4 − t1 in 2^-16 ns. -/
def execDelayRespReceive (p : Fin 3) (frame : Sampled (List Byte)) (span : Nat) (s : State) : Host.Outcome State Fault Refusal :=
  .next ((s.agreeFix frame.differs).folisIn p frame.value tyDelayResp (fun t m =>
    let d := t.net.delays[p]
    if d.waiting ∧ leAt m.body 8 2 = d.seq then
      let d1 := d.take (((span : Int) - (leAt m.body 0 8 : Int)) / 2)
      State.wr { t with net := { t.net with delays := t.net.delays.set p d1 } } (Reg.NET.PORT.DELAY.addr p.val)
        (BitVec.ofInt 32 (delayMean d1.good / 256))
    else t))

/-- The ACT instant (R507, R511). -/
def State.folisAct (s : State) : Nat × Nat :=
  ((s.rd (Reg.NET.FOLIS.ACT.addr 0)).toNat + (s.rd (Reg.NET.FOLIS.ACT.addr 1)).toNat % 65536 * 2 ^ 32,
    (s.rd (Reg.NET.FOLIS.ACT.addr 2)).toNat % 2 ^ 30)

/-- A schedule becomes active at this node and goes to the update function (R507, R593). -/
def State.takeSchedule (s : State) (t : Nat × Nat) (fp : BitVec 256) : State :=
  let s1 := State.raise { s with net := { s.net with sched := some t, target := fp } } (folisCause 7)
  let s2 := s1.scheduled false t fp
  { s2 with net := { s2.net with armedHere := s2.svc.armed.isSome } }

/-- SCHEDULE (R507): on the master, at least 100 PERIODs ahead. The master is a node too and takes its own schedule. -/
def execSchedule (s0 : State) : Host.Outcome State Fault Refusal :=
  let (n, s) := s0.netGo.now
  let t := s.folisAct
  if s.isMaster && decide ((100 * s.get Reg.NET.FOLIS.CYCLE.PERIOD * 1000 : Nat) ≤ nsBetween n t) then
    let s1 := (s.bumpWrap Reg.NET.FOLIS.SCHED_SEQ.SEQ).takeSchedule t (s.readDigest (Reg.NET.FOLIS.TGT_FP.addr 0))
    .next (State.status { s1 with net := { s1.net with sending := true, cancels := 0 } } Reg.NET.CMD_STATUS.addr codeOk)
  else .next (s.deny Reg.NET.CMD_STATUS.addr (netCause 9))

/-- SCHED_CANCEL (R507): on the master; it drops its own schedule too (R593). -/
def execSchedCancel (s0 : State) : Host.Outcome State Fault Refusal :=
  let s := s0.netGo
  if s.isMaster then
    let s1 := s.scheduled true (0, 0) 0#256
    .next (State.status { s1 with net := { s1.net with sched := none, sending := false, armedHere := false, cancels := 3 } }
      Reg.NET.CMD_STATUS.addr codeOk)
  else .next (s.deny Reg.NET.CMD_STATUS.addr (netCause 9))

/-- SCHEDULE_RECEIVE (R496, R507, R593): only on the parent port; forwarded to the child ports. A new SCHED_SEQ goes to the update
function; a CANCEL disarms; a node that its schedule had armed, and that has been disarmed, is armed again before the instant. -/
def execScheduleReceive (p : Fin 3) (frame : Sampled (List Byte)) (s : State) : Host.Outcome State Fault Refusal :=
  .next ((s.agreeFix frame.differs).folisIn p frame.value tySchedule (fun t m =>
    if t.get Reg.NET.FOLIS.STATUS.PARENT = p.val then
      let b := m.body
      let act := (leAt b 0 6, leAt b 6 4)
      let fp := digestOf (slice b 12 32)
      let seq := leAt b 44 2
      let t1 := t.childPorts.foldl (fun u q => u.sendAs q tySchedule u.nodeId m.cycle u.depthByte (m.flags / 2 * 2) b) t
      let isNew := decide (t1.get Reg.NET.FOLIS.SCHED_SEQ.SEQ ≠ seq)
      let t2 := t1.put Reg.NET.FOLIS.SCHED_SEQ.SEQ seq
      match leAt b 46 1 with
      | 1 =>
        if isNew then t2.takeSchedule act fp
        else
          let (n, t3) := t2.now
          let t4 := { t3 with net := { t3.net with sched := some act, target := fp } }
          if t4.net.armedHere && t4.svc.armed.isNone && !t4.svc.postponed && t4.stagedMatch && decide (0 < nsBetween n act) then
            t4.armAt act
          else t4
      | 2 =>
        let t3 := (t2.setIf isNew (folisCause 7)).scheduled true act fp
        { t3 with net := { t3.net with sched := none, armedHere := false } }
      | _ => t2
    else t))

/-- The summary of the peers (R433, R448). A change of the number of mismatches from 0 sets PEER_MISMATCH. -/
def State.peerSummary (s : State) : State :=
  let l := s.net.peers
  let bad := (l.filter (fun x => decide (x.part ≠ 0x6480) || x.fw / 65536 != s.fwVersion / 65536)).length
  let letter := (leastBy (fun a b => decide (a < b)) (l.map (fun x => x.letter))).getD 0
  let fw := (leastBy (fun a b => decide (a < b)) (l.map (fun x => x.fw))).getD 0
  let old := s.get Reg.PROBE.PEERS.MISMATCH
  ((((s.put Reg.PROBE.PEERS.COUNT (min l.length 1023)).put Reg.PROBE.PEERS.MIN_REV letter).put Reg.PROBE.PEERS.MISMATCH
    (min bad 255)).wr Reg.PROBE.PEER_FW.addr (BitVec.ofNat 32 fw)).setIf (decide (old = 0 ∧ 0 < bad)) (probeCause 10)

/-- CAPS_REQUEST (R508). -/
def execCapsRequest (s : State) : Host.Outcome State Fault Refusal :=
  .next ((s.netGo.sendCaps 4).status Reg.NET.CMD_STATUS.addr codeOk)

/-- PEERS (R433, R448, R508): refused while a Probe task runs (R387). The task runs on where a port of the tree can bring records. DESIGN CHOICE
(log entry 104): it ends with the first record that comes, with the node's next sending of its own (R508), or with ABORT. -/
def execPeers (s : State) : Host.Outcome State Fault Refusal :=
  s.probeCmd (decide (s.probe.task = .none)) (fun t =>
    let u := t.netGo.sendCaps 4
    if u.treePorts.isEmpty then u else { u with probe := { u.probe with task := .peers, slot := 0 } })

/-- A PEERS task ends (R448). -/
def State.peersEnd (s : State) : State := if s.probe.task = .peers then { s with probe := { s.probe with task := .none } } else s

/-- CAPS_SEND (R508). -/
def execCapsSend (s : State) : Host.Outcome State Fault Refusal := .next (s.peersEnd.netGo.sendCaps 0)

/-- CAPS_RECEIVE (R433, R498, R508): forwarded on all other tree ports, kept for the summary, and answered when asked for. -/
def execCapsReceive (p : Fin 3) (frame : Sampled (List Byte)) (s : State) : Host.Outcome State Fault Refusal :=
  .next ((s.agreeFix frame.differs).folisIn p frame.value tyCaps (fun t m =>
    let b := m.body
    let unit := leAt b 8 8
    let t1 := (t.treePorts.filter (fun q => q != p)).foldl
      (fun u q => u.sendAs q tyCaps m.node m.cycle m.depth m.flags b) t
    if unit = Config.serial.toNat then t1
    else if m.node = t1.nodeId then
      let t2 := (t1.raise (folisCause 5)).elect
      if m.flags / 4 % 2 = 1 then t2.sendCaps 0 else t2
    else
      let x : Peer := ⟨m.node, unit, leAt b 0 2, leAt b 2 1, leAt b 3 1, leAt b 4 4⟩
      let t2 := State.peersEnd (State.peerSummary { t1 with net := { t1.net with peers := x :: t1.net.peers.filter (fun y => y.node != m.node) } })
      if m.flags / 4 % 2 = 1 then t2.sendCaps 0 else t2))

/-- FOLIS_AGG_READ (R504, R505, R511): a read of AGG0 latches the aggregate; STAGED and MAX_DEPTH are the master's alone. -/
def execFolisAggRead (s : State) : Host.Outcome State Fault Refusal :=
  let a := s.net.agg
  let s1 := (s.put Reg.NET.FOLIS.AGG0.NODES a.nodes).put Reg.NET.FOLIS.AGG0.AGREE a.agree
  let s2 := ((s1.put Reg.NET.FOLIS.AGG1.DISAGREE a.disagree).put Reg.NET.FOLIS.AGG1.LOWEST (if a.lowest = 0xFFFF then 0 else a.lowest)).put
    Reg.NET.FOLIS.AGG1.NONE (b2n (decide (a.lowest = 0xFFFF)))
  let s3 := (s2.put Reg.NET.FOLIS.AGG2.SAFE a.safe).put Reg.NET.FOLIS.AGG2.F4 a.f4
  .next (((s3.put Reg.NET.FOLIS.AGG3.STAGED (if s.isMaster then a.staged else 0)).put Reg.NET.FOLIS.AGG3.MAX_DEPTH
    (if s.isMaster then a.maxDepth else 0)).wr
    Reg.NET.FOLIS.AGG4.addr (BitVec.ofNat 32 s.net.aggCycle))

/-- A NET injection ends (R395, R396, R509): its result; then the detector acts on what its live input has shown meanwhile. -/
def State.netEnd (s : State) (i : Inj) (code : Nat) : State :=
  let s1 := s.injEnd i.ctrl code
  if i.seen = 0 then s1 else if i.target = 0 then s1.raise (netCause i.index) else s1.masterLost

/-- A NET injection comes to its result: on PASS the cause is set with a shadow mark. -/
def State.netInjEnd (s : State) (i : Inj) (pass : Bool) : State :=
  let c := if i.target = 0 then netCause i.index else folisCause 1
  if pass then (s.setCauseM c .shadow).netEnd i codePass else s.netEnd i codeFail

end Sys2Proof.Machine
end

