-- ==== Sys2Proof/Machine/Inject.lean ====
section
/-! DEFINITION. The end of an injection whose window or delay is not told by a command of its block (R394 to R396, R447, R509,
R578). -/

namespace Sys2Proof.Machine

/-- A Patrol injection comes to its result (R394 to R396): the window of a SHADOW injection ends with its verdict; under a LIVE one,
the detector acts. A Carve budget acts on a run of its task only. -/
def State.patrolInjEnd (s : State) (i : Inj) (pass : Bool) : State :=
  if i.live then
    if i.target = 7 ∧ s.carve.running.map (fun t => t.val) ≠ some i.index then s
    else (s.patrolAct i.target i.index .live).injEnd i.ctrl codeActed
  else s.patrolShadow i pass

/-- INJECT_WINDOW_END (R394 to R396): of the injection pending at the control whose INJ_STATUS lies at `ctrl`; `pass` is the verdict
on the stimulus. The controls of the other blocks end by commands of their own. -/
def execInjectWindowEnd (ctrl : Nat) (pass : Bool) (s : State) : Host.Outcome State Fault Refusal :=
  match s.injAt ctrl with
  | none => .next s
  | some i =>
    if ctrl = Reg.PATROL.INJ_STATUS.addr then .next (s.patrolInjEnd i pass)
    else if ctrl = Reg.PROBE.INJ_STATUS.addr then .next (s.probeInjEnd i pass)
    else if ctrl = Reg.HIMET.INJ_STATUS.addr then .next (s.himetInjEnd i pass)
    else if ctrl = Reg.NET.INJ_STATUS.addr then .next (s.netInjEnd i pass)
    else .next s

/-- INJECT_TIMEOUT (R396): the injection at the control whose INJ_STATUS lies at `ctrl` has been pending for 100 ms; a judge's verdict is not inverted any more (R371). -/
def execInjectTimeout (ctrl : Nat) (s : State) : Host.Outcome State Fault Refusal :=
  match (s.injAt ctrl).filter (fun i => decide (i.seen ≠ 2)) with
  | none => .next s
  | some i =>
    if ctrl = Reg.NET.INJ_STATUS.addr then .next (s.netEnd i codeTimeout)
    else
      let s0 := if ctrl = Reg.TRIAD.INJ_STATUS.addr then { s with triad := { s.triad with invert := 0#3 } } else s
      let s1 := s0.patrolEnd i codeTimeout
      .next ((List.finRange 16).foldl (fun t k => if tripInjCtrl k = ctrl then t.tripInEval k else t) s1)

end Sys2Proof.Machine
end

