-- ==== Sys2Proof/Machine/Lift.lean ====
section
/-! DEFINITION. The cold lift and the warm lift, stage by stage (R425, R442, R443, R461 to R471, R275, R596, R599, R600). -/

namespace Sys2Proof.Machine

/-- The lift halts in reset-safe (R464): every core is in reset, so Carve is not released, no leg follows the hold pattern of a WARM reset any
more, and each supplied domain is under its hold-off, its channel off. -/
def State.halted (s : State) : State :=
  { s with
    life := .resetSafe
    legs := s.legs.map (fun l => { l with hold := none })
    trip := { s.trip with ovCopy := none }
    carve := { s.carve with released := false, running := none, waiting := [], notReady := [], jobs := [] }
    edges := s.edges.map (fun e => if e.powered then { e with link := 0, out := .off, holdoff := true } else e) }

/-- L1 or W1 (R462, R463): the trims, from the first copy that passes; none passing halts the lift. COPY_OK shows the copies that the load has
read and that passed: the one it used (DEDUCED, log entry 94). -/
def State.loadTrims (s : State) (t : BitVec 3) : State :=
  let s1 := s.put Reg.RST.TRIM.COPY_OK (if t.getLsbD 0 then 1 else if t.getLsbD 1 then 2 else if t.getLsbD 2 then 4 else 0)
  if t = 0#3 then s1.halted
  else (s1.put Reg.RST.STATUS.TRIM_VALID 1).setIf (!t.getLsbD 0) (rstCause 1)

/-- The retained SRAM after a SYSTEM reset (R461): an uncorrectable word clears the region before this episode is entered in it. -/
def State.checkRetained (s : State) (bad : Bool) : State :=
  if bad && decide (s.rst.reach = 1) then
    let s1 := { s with rst := { s.rst with log := s.rst.log.take 1 } }
    ((s1.put Reg.RST.COUNTS.WARMS 0).put Reg.RST.COUNTS.SYSTEMS 1).raise (rstCause 2)
  else s

/-- The firmware of a bank passes L3 (R561, R565, R588). -/
def State.fwGood (s : State) (b : Fin 2) : Bool :=
  let f := (s.svc.banks[b]).firmware
  fwFields f && decide (leAt f 6 2 = 0x6480 ∧ leAt f 8 1 = 0x41 ∧ (s.himet.store.ctr[(0 : Fin 3)]).toNat ≤ leAt f 16 4) && fwSigOk f

/-- The running firmware's digest and the CRC-32 of its image are recorded (R465, R467, R601). -/
def State.recordFw (s : State) : State :=
  let f := (s.svc.banks[s.svc.running]).firmware
  State.putDigest { s with rst := { s.rst with image := crc32 f } } (Reg.SVC.FWDIGEST.addr 0) (fwDigest f)

/-- L3: the firmware (R599, R600): a TRIAL bank that fails gives way to the PREVIOUS one within the lift. -/
def State.startFw (s : State) : State :=
  let r := s.svc.running
  if s.fwGood r then s.recordFw
  else if s.trial && s.fwGood s.idleBank then
    let v := s.svc
    let s1 := { s with svc := { v with
      states := (v.states.set r bankRejected).set s.idleBank bankActive, running := s.idleBank, rollbackDue := false } }
    s1.recordFw.raise (svcCause 7)
  else s.halted

/-- The lanes start (R357, R363, R442): every lane that is not retired, less the spare; the spare votes where fewer than three
others can. It is ready once its memories are loaded, which a failed course load leaves undone. -/
def State.startLanes (s : State) (spare : Option Nat) : State :=
  let well : List Nat := (List.range 4).filter (fun l => !s.groom.live.lanes.getLsbD l)
  let sp := if well.length = 4 then spare.filter (fun d => well.contains d) else none
  let vote := well.filter (fun l => decide (some l ≠ sp))
  let mask := (vote.map (fun l => 2 ^ l)).sum
  let mode := if 3 ≤ vote.length then 0 else if vote.length = 2 then 2 else 3
  let s1 := ((s.put Reg.TRIAD.STATUS.VOTING mask).put Reg.TRIAD.STATUS.RETIRED s.groom.live.lanes.toNat).put
    Reg.TRIAD.STATUS.MODE mode
  State.put { s1 with triad := { s1.triad with spare := sp } } Reg.TRIAD.STATUS.SPARE_READY
    (b2n (sp.isSome && decide (s.get Reg.PISTE.STATUS.STATE ≠ 4)))

/-- GROOM.SW and SWSTAT show the figures of the record (R434, R450). -/
def State.showFigures (s : State) : State :=
  (List.range 64).foldl (fun t n => match s.groom.live.figures[n]? with
    | some f => (t.wr (Reg.GROOM.SW.addr n) f.1).wr (Reg.GROOM.SWSTAT.addr n) f.2
    | none => t) s

/-- Before L4 the Groomer record is applied (R442): faulty units stay out, their spares serve without a compare run. -/
def State.applyRecord (s : State) : State :=
  let g := s.groom.live
  let s1 := State.showFigures { s with
    sdm := s.sdm.map SdmFilter.again
    hka := { bring := s.hka.bring.map CoreBring.again }
    edges := Vector.ofFn (fun n : Fin 64 => { s.edges[n] with wear := g.wear.getD n.val {} }) }
  let s2 := s1.showFilters.put Reg.GROOM.OP_TIME.S (g.opTime % 2 ^ 32)
  let (v, s3) := s2.fresh
  ((s3.put Reg.GROOM.LIFT_BIST.TIME (v.toNat % 12001)).put Reg.GROOM.LIFT_BIST.LAST_FAIL g.lastFail).startLanes (some 3)

/-- The contacts' work of a lift stage is done (R58). -/
def State.atStage (s : State) (n : Nat) : State := { s with rst := { s.rst with stage := n } }

/-- L4 (R23, R26, R27, R465): the PLLs and the root. -/
def State.startRoot (s : State) (a b : Bool) : State :=
  let a1 := a && !s.groom.live.plls.getLsbD 0
  let b1 := b && !s.groom.live.plls.getLsbD 1
  if a1 || b1 then
    let s1 := ((s.put Reg.CLK.STATUS.PLLA_LOCK (b2n a1)).put Reg.CLK.STATUS.PLLB_LOCK (b2n b1)).put
      Reg.CLK.STATUS.ACTIVE (b2n (!a1))
    State.atStage { s1.put Reg.CLK.STATUS.REF_OK 1 with clk := { s1.clk with rootRuns := true } } 4
  else s.halted

/-- The migrated set that a bank holds is the one that Himet recorded (R596). -/
def State.migratedGood (s : State) (k : Bank) : Bool :=
  match k.migrated, s.himet.store.migrated with
  | some m, some r => decide (paramDigest m = r.1)
  | _, _ => false

/-- The parameter set for this lift (R561, R565, R596): verified; migrated on a TRIAL bank whose firmware has a higher schema, unless the
bank holds the migrated set that Himet recorded. -/
def State.prepareParams (s0 : State) : State :=
  let k0 := s0.svc.banks[s0.svc.running]
  let k := if s0.migratedGood k0 then k0 else { k0 with migrated := none }
  let s := s0.setBank s0.svc.running k s0.svc.states[s0.svc.running]
  let good := paramFields k.params && decide ((s.himet.store.ctr[(2 : Fin 3)]).toNat ≤ leAt k.params 12 4) && s.paramSigOk k.params
  let s1 := { s with svc := { s.svc with paramBad := !good, migrated := [], migrateFail := false } }
  let s2 :=
    if good && s.trial && decide (paramSchema k.params < fwSchema k.firmware) && k.migrated.isNone then
      match Config.migrate k.firmware k.params with
      | some m => { s1 with svc := { s1.svc with migrated := m } }
      | none => State.raise { s1 with svc := { s1.svc with migrateFail := true, rollbackDue := true } } (svcCause 8)
    else s1
  s2.putDigest (Reg.SVC.PDIGEST.addr 0) (if good then paramDigest s2.paramSet else 0#256)

/-- A TRIAL bank whose course fails is rolled back (R599). -/
def State.courseTrial (s : State) : State :=
  if s.trial && !s.courseActive then { s with svc := { s.svc with rollbackDue := true } } else s

/-- EDGE.CH[n].CFG and RAIL from the channel record (R278). -/
def State.showChannel (s : State) (n : Fin 64) : State :=
  let r := s.chanRec n.val
  if r.unmapped then s
  else
    let on := (s.edge n).powered
    let paired := decide (r.partner < 64)
    let low := min n.val r.partner
    let second := s.chanRec (if low = n.val then r.partner else n.val)
    let dual := paired && (decide (second.sense % 2 = 1) || decide (second.sense / 8 % 2 = 1))
    (s.wr (Reg.EDGE.CH.CFG.addr n.val) (BitVec.ofNat 32 (r.leg + r.out * 32 + (if paired then r.partner else 0) * 256 +
      b2n paired * 16384 + b2n dual * 32768 + r.cls % 4 * 65536 + r.sense % 16 * 1048576 + b2n on * 2 ^ 31))).wr (Reg.EDGE.CH.RAIL.addr n.val)
      (BitVec.ofNat 32 (r.vpos % 128 + r.vneg % 128 * 256 + r.qg * 65536))

/-- L5 (R85, R86, R177, R599): parameters, course with its first scrub pass, and fingerprint; the channels' registers show the course. -/
def State.bringCourse (s : State) (bad : List (Fin 4 × Fin 136)) : State :=
  let s1 := (s.prepareParams.loadCourse bad).resumeSpares.courseTrial
  (List.finRange 64).foldl (fun t n => t.showChannel n) (s1.atStage 5)

/-- The residual in ps at TRIM t of a channel whose edge lies `skew` ps late at mid-trim (R260, R265). -/
def skewResid (skew : Int) (t : Nat) : Rat := (skew : Rat) + ((t : Rat) - 32) * (104 / 5)

/-- TRIM after the calibration of L6 (R265): t where it meets ±125 ps, else the nearest code. DESIGN CHOICE (log entry 78): which of the codes that
meet the bound is taken is the sender's, and RESID shows the residual at that code, positive for a late edge. -/
def skewTrim (skew : Int) (t : Nat) : Nat :=
  if absQ (skewResid skew t) ≤ 125 then t else (max 0 (min (32 - ratRound ((skew : Rat) / (104 / 5))) 63)).toNat

/-- A channel comes up at L6 (R275, R264 to R267, R285, R289): the latch clears when the link is trained, unless a detector still reads
active. -/
def State.channelUp (s : State) (u : EdgeUp) : State :=
  let n := u.chan
  if !s.mapped n then s.setEdge n { wear := (s.edge n).wear }
  else
    let x := s.edge n
    let e : EdgeCh := s.newStrength n (s.newProt n { wear := x.wear, holdoff := true, latch := x.latch, ot := x.ot, hot := x.hot, otw := x.otw })
    match u.fail with
    | 1 => s.setEdge n { e with supUv := true, latch := true }
    | 3 => (s.setEdge n { e with powered := true, link := 4, lost := true }).put (Reg.EDGE.CH.CFG.MAPPED n.val) 1
    | _ =>
      let t := skewTrim u.skew u.trim.toNat
      ((((s.setEdge n { e.unlatch with powered := true, link := 2, holdoff := false }).streamUp n.val).put (Reg.EDGE.CH.CFG.MAPPED n.val) 1).put
        (Reg.EDGE.CH.SKEW.TRIM n.val) t).put (Reg.EDGE.CH.SKEW.RESID n.val) (BitVec.ofInt 16 (ratRound (skewResid u.skew t))).toNat

/-- What the bring-up of a channel finds (R265, R273, R275): a fault leaves the channel off, and with it its pair, and marks its side. -/
def State.channelFault (s : State) (u : EdgeUp) : State :=
  let n := u.chan
  if !s.mapped n then s
  else match u.fail with
    | 1 => (s.healthOff n 4).markSide n
    | 3 => ((s.edgeDetail n 8 .real).streamDown n.val).markSide n
    | f =>
      let s1 := s.edgeIf (decide (125 < absQ (skewResid u.skew (skewTrim u.skew u.trim.toNat)))) n 13
      if f = 5 then s1.healthOff n 9 else s1

/-- The channels that the Groomer record keeps parked stay parked (R442). -/
def State.parkRecorded (s : State) : State :=
  s.groom.live.parked.foldl (fun t k => if (t.edge (Fin.ofNat 64 k)).powered then t.park (Fin.ofNat 64 k) else t) s

/-- L6 (R86, R224, R275): with a course, its channels are powered and trained; PWM SYNC. -/
def State.edgesUp (s : State) (ups : List EdgeUp) : State :=
  if s.courseActive then
    let up (n : Fin 64) : EdgeUp := (ups.find? (fun u => u.chan == n)).getD ⟨n, 0, 0x20#6, 0⟩
    let s1 := (List.finRange 64).foldl (fun t n => t.channelUp (up n)) s
    ((List.finRange 64).foldl (fun t n => t.channelFault (up n)) s1).parkRecorded.ownSync
  else s

/-- A slot stands still in step 3 of L7 (R425): A stays below EMF_MIN, and no valid POS speed reaches STANDSTILL_SPEED. -/
def State.still (s : State) (env : LiftEnv) (i : Fin 4) : Bool :=
  (s.slotRec i.val).enable && fLt (env.emf.getD i.val 0x7F800000#32) (s.rd (Reg.SLALOM.SL.EMF_MIN.addr i.val)) && !(List.finRange 4).any (fun k => decide (s.posSlot k = some i) && s.posValid k &&
    fLe (s.rd (Reg.DRIVE.SLOT.STANDSTILL_SPEED.addr i.val)) (fAbs (s.posSpeedAt k 0)))

/-- Both DC-link results reach MID_VDC at L7 (R425). -/
def State.linkAtLift (s : State) (env : LiftEnv) : Bool :=
  fLe (s.rd Reg.PROBE.MID_VDC.addr) env.dclA && fLe (s.rd Reg.PROBE.MID_VDC.addr) env.dclB

/-- The characterisation of a phase leg at L7, or its mark SKIPPED (R425, R430 to R432); a leg that `env` does not list has shown no
five crossings. -/
def State.legAtLift (s : State) (env : LiftEnv) (n : Fin 32) : State :=
  let r := s.legRec n.val
  if r.function ≠ 1 ∨ 4 ≤ r.slot then s
  else
    let ok := s.flag Reg.PROBE.CFG.CABLE_AT_LIFT && s.linkAtLift env && s.still env (Fin.ofNat 4 r.slot)
    if ok then
      let x := (env.legs.find? (fun x => x.leg == n)).getD ⟨n, none, []⟩
      let ms := x.switches.filter (fun m => !(s.chanRec m.chan.val).unmapped && (s.chanRec m.chan.val).leg == n.val)
      ((ms.foldl (fun t m => t.switchRecord m) ((s.cableStart r.slot n.val).cableEnd.cableRecord n.val x.span))).setIf
        (ms.any (fun m => s.chargeOff ms m)) (probeCause 9)
    else s.wr (Reg.PROBE.CABLE.addr n.val) 0x40000#32

/-- The identification at L7 of a slot in MID_SLOTS: its results, why it ended, or SKIPPED (R425, R427, R428); of a slot
that `env` does not list the results are left free. -/
def State.midAtLift (s : State) (env : LiftEnv) (i : Fin 4) : State :=
  if (BitVec.ofNat 4 (s.get Reg.PROBE.CFG.MID_SLOTS)).getLsbD i.val then
    let ok := s.flag Reg.PROBE.CFG.MID_AT_LIFT && s.linkAtLift env && s.still env i
    if ok then
      let t := s.midStart i
      match env.mids.find? (fun x => x.slot == i) with
      | some x =>
        (match x.stop with
        | none =>
          let v := fMax env.dclA env.dclB
          let d := t.midAngle i x.dAngle
          t.midEnd (fun _ => { result := 1, rs := midRs v x.rs, ld := midInd v x.ld, lq := midInd v x.lq, dAngle := d }) 6
        | some k => t.midEnd (fun _ => { result := if k = 0 then 2 else k.val + 3 }) 7)
      | none =>
        let (v, s0) := t.fresh
        let (w, s1) := s0.fresh
        s1.midEnd (fun _ => { result := 1, rs := v.setWidth 32, ld := (v >>> 32).setWidth 32, lq := w.setWidth 32
                              dAngle := (w >>> 32).setWidth 32 }) 6
    else State.bumpWrap { s with probe := { s.probe with mid := s.probe.mid.set i { result := 3 } } } (Reg.PROBE.MID.STATUS.SEQ i.val)
  else s

/-- L7 (R145, R424, R425). -/
def State.probeLift (s : State) (env : LiftEnv) : State :=
  let s1 := (s.put Reg.PROBE.SUPPLY.HOLDUP (min env.holdup 65535)).setIf (decide (env.holdup < 100)) (probeCause 5)
  let s2 := env.resolvers.foldl (fun t x =>
    if t.posMode x.chan = 3 then
      let u := t.setPos x.chan { t.pos[x.chan] with amp7 := x.amp }
      if u.flag (Reg.POS.CH.RES_CFG.PHASE_AUTO x.chan.val) then u.put (Reg.POS.CH.RES_PHASE.PHASE x.chan.val) x.phase.toNat else u
    else t) s1
  let s3 := (List.finRange 32).foldl (fun t n => t.legAtLift env n) s2
  let s4 := s3.setIf (s3.flag Reg.PROBE.CFG.CABLE_AT_LIFT && s3.linkAtLift env && (List.finRange 32).any (fun n =>
    decide ((s3.legRec n.val).function = 1) && decide ((s3.legRec n.val).slot < 4) &&
      s3.still env (Fin.ofNat 4 (s3.legRec n.val).slot))) (probeCause 8)
  (List.finRange 4).foldl (fun t i => t.midAtLift env i) s4

/-- SEL is the ABOVE state until n̂ has a source (R304). -/
def State.selAbove (s : State) : State :=
  { s with trip := { s.trip with sel := Vector.ofFn (fun i : Fin 4 => (s.safeRec i.val).above) } }

/-- Host enable or RUN-ready (R304, R383, R456, R461, R472, R473, R597): the host port and IRQ_N work, the watchdog arms. -/
def State.runReady (s : State) (duration : Nat) : State :=
  let d := min duration 65535
  let log := match s.rst.log with
    | e :: t => { e with lift := d } :: t
    | [] => []
  let ok := s.courseActive && !s.patrol.f4
  let s1 := { s with
    life := .run
    rst := { s.rst with log := log }
    patrol := { s.patrol with wdogArmed := true, kicked := false, deadline := s.clk.epochs + (s.get Reg.PATROL.WDOG_CFG.TIMEOUT + 2000) * 1000 / 3 }
    svc := { s.svc with liftOk := ok, clean := ok } }
  ((s1.put Reg.RST.TIMING.LIFT d).atStage 8).raise (rstCause 0)

/-- The lifts of a TRIAL bank are counted; after the third without success it is rolled back (R599). -/
def State.countTrial (s : State) : State :=
  if s.trial then
    if 3 ≤ s.svc.trialLifts then { s with svc := { s.svc with rollbackDue := true } }
    else { s with svc := { s.svc with trialLifts := s.svc.trialLifts + 1 } }
  else s

/-- Continue a lift that has not halted. -/
def State.onward (s : State) (f : State → State) : State := if s.life = .lifting then f s else s

/-- L5 to L8 (R465, R576). -/
def State.liftUp (s : State) (env : LiftEnv) : State :=
  let s1 := (((s.countTrial.bringCourse env.mismatches).selAbove.edgesUp env.edges).probeLift env).runReady env.duration
  let x := s1.himet.store
  let g := s1.groom.live
  { s1 with
    himet := { s1.himet with store := { x with lifts := x.lifts + 1 } }
    groom := { s1.groom with live := { g with lastFail := 0xFF } } }

/-- L2 from its conditions on, to L8 (R443, R465, R563, R573, R575, R578). -/
def State.liftFrom2 (s : State) (env : LiftEnv) : State :=
  if !env.inRange then { s with rst := { s.rst with waitL2 := true } }
  else
    let s0 := { s with rst := { s.rst with waitL2 := false } }
    if !env.cleared then (s0.raise (himetCause 13)).halted
    else match env.bistFail with
      | some c =>
        let g := s0.groom
        State.halted { s0 with groom := { g with
          live := { g.live with lastFail := c.toNat }, stored := { g.stored with lastFail := c.toNat } } }
      | none =>
        if s0.himet.level = 2 then s0.atStage 2
        else if !env.knownAnswers || !env.storeGood then s0.halted
        else (((s0.checkRetained env.retainBad).showStore.startFw).onward (fun t =>
          (t.applyRecord.startRoot env.pllA env.pllB).onward (fun u => u.liftUp env)))

/-- COLD_LIFT (R463, R465): a POWER or SYSTEM episode lifts through L0 to L8, or waits in L2, or halts; at L1 on its oscillator's check, too. -/
def execColdLift (env : LiftEnv) (s : State) : Host.Outcome State Fault Refusal :=
  if s.life = .lifting ∧ s.rst.reach ≤ 1 ∧ s.rst.waitL2 = false then
    .next (if env.osc then (s.loadTrims env.trims).onward (fun t => t.liftFrom2 env) else s.halted)
  else .next s

/-- BIST_CONDITION_RECHECK (R443): the lift that waits in L2 checks its conditions again. -/
def execBistConditionRecheck (env : LiftEnv) (s : State) : Host.Outcome State Fault Refusal :=
  if s.life = .lifting ∧ s.rst.waitL2 = true then .next (s.liftFrom2 env) else .next s

/-- A mismatch in W2 (R467): the episode becomes a SYSTEM episode, with HIMET among its sources, and the lift starts again at L0. -/
def State.imageMismatch (s : State) : State :=
  let s1 := s.wipe 1
  let src := s1.get Reg.RST.CAUSE.SOURCES ||| 16
  let s2 := ((s1.put Reg.RST.CAUSE.SOURCES src).put Reg.RST.STATUS.REACH 1).bump Reg.RST.COUNTS.SYSTEMS
  let w := s2.get Reg.RST.COUNTS.WARMS
  let s3 := s2.put Reg.RST.COUNTS.WARMS (if w = 65535 then w else w - 1)
  let log := match s3.rst.log with
    | e :: t => { e with sources := e.sources ||| 16#9, reach := 1 } :: t
    | [] => []
  { s3 with rst := { s3.rst with reach := 1, sources := s3.rst.sources ||| 16#9, log := log } }

/-- The scrub pass of W3 (R87): the fabric configuration is kept. -/
def State.warmScrub (s : State) (bad : List (Fin 4 × Fin 136)) : State := if s.courseActive then s.scrub bad else s

/-- W3 (R87, R88, R162, R177): registers from BLOCKCFG, matrix, parameter words; Carve is released when its program passes. -/
def State.warmRestore (s : State) (env : WarmEnv) : State :=
  let s1 := ((s.warmScrub env.mismatches).loadMatrix.applyAll).loadParams
  State.atStage { s1.resumeSpares with carve := { s1.carve with released := env.progGood } } 5

/-- W3 after a swap (R85, R162, R467, R596): the firmware, the course and the parameter set of the bank that now runs; Carve is released when
its program passes. -/
def State.warmSwap (s : State) (env : WarmEnv) : State :=
  let s1 := s.recordFw.countTrial.bringCourse env.mismatches
  { s1 with carve := { s1.carve with released := env.progGood } }

/-- W4 for one leg (R469): under the reset hold of an enabled slot it keeps its outputs; every other leg leaves the hold. -/
def State.adopt (s : State) (n : Fin 32) : State :=
  let r := s.legRec n.val
  let l := s.leg n
  if r.trip = 0 ∧ r.slot < 4 ∧ (s.slotRec r.slot).enable = true then
    match l.hold with
    | some p =>
      let a := decide (p = .aOn)
      let b := decide (p = .bOn)
      s.setLeg n { l with forced := some p, forceOnA := a, forceOnB := b, liveA := a, liveB := b }
    | none => s
  else s.setLeg n { l with hold := none }

/-- W4 (R468, R469): the reset hold takes the place of the hold pattern; PWM SYNC. -/
def State.handover (s : State) : State :=
  let mask := ((List.finRange 4).map (fun i => b2n (s.slotRec i.val).enable * 2 ^ i.val)).sum
  let s1 := (List.finRange 32).foldl (fun t n => t.adopt n) s
  State.ownSync { s1 with trip := { s1.trip with ovCopy := none, resetHold := BitVec.ofNat 4 mask } }

/-- W3 to W5 (R467, R595, R599). -/
def State.warmUp (s : State) (env : WarmEnv) : State :=
  let swap := s.rst.swapLoad
  let back := s.rst.swapBack
  let s1 := if swap then s.warmSwap env else s.countTrial.warmRestore env
  let s2 := (((s1.startLanes s1.triad.spare).showStore).selAbove.handover).runReady env.duration
  let s3 := { s2 with rst := { s2.rst with swapLoad := false, swapBack := false } }
  if swap then s3.raise (svcCause (if back then 7 else 4)) else s3

/-- WARM_LIFT (R467): a WARM episode runs W1 to W5. -/
def execWarmLift (env : WarmEnv) (s : State) : Host.Outcome State Fault Refusal :=
  if s.life = .lifting ∧ s.rst.reach = 2 then
    .next ((s.loadTrims env.trims).onward (fun t => if env.imageGood then t.warmUp env else t.imageMismatch))
  else .next s

end Sys2Proof.Machine
end

