-- ==== Sys2Proof/Machine/Read.lean ====
section
/-! DEFINITION. What a read of a register returns: values that follow from other state, and the latches of rs fields (R5, R35,
R544). -/

namespace Sys2Proof.Machine

/-- The state that a meaning leaves. -/
def nextOf (s : State) (f : State → Host.Outcome State Fault Refusal) : State :=
  match f s with
  | .next t => t
  | _ => s

/-- A field's value in a word. -/
def Fld.into (f : Fld) (v : Nat) (w : Word) : Word := setBits w f.lsb f.width v

/-- What a read of a parameter word returns: a write held under R176 reads back at once (R10). -/
def State.paramRead (s : State) (k : Nat) : Word :=
  ((s.carve.heldParams.reverse.find? (fun p => p.1 == k)).map (·.2)).getD (s.rd (Reg.CARVE.PARAM.addr k))

/-- CARVE.STATUS (R180). -/
def State.carveStatus (s : State) : Word :=
  let c := s.carve
  let waiting := c.waiting
  BitVec.ofNat 32 (b2n c.running.isSome + (match c.running with
    | some t => t.val
    | none => c.lastTask % 8) * 2 + ((List.finRange 8).map (fun t => b2n (waiting.contains t) * 2 ^ (8 + t.val))).sum)

/-- PWM.LEG[n].STATUS (R250): the shadows of a fixed commit count as written until its transfer. -/
def State.legStatus (s : State) (n : Fin 32) : Word :=
  let l := s.leg n
  let w := match l.fixed with
    | some c => l.written ||| c.mask
    | none => l.written
  let wi := l.writtenIdle || (match l.fixed with
    | some c => c.idleW
    | none => false)
  let pat := match l.forced with
    | none => 0
    | some .off => 1
    | some .aOn => 2
    | some .bOn => 3
  let point := (l.following.orElse (fun _ => l.armed)).getD 0
  BitVec.ofNat 32 (w.toNat + b2n l.armed.isSome * 2 ^ 7 + point * 2 ^ 8 + b2n l.latePend * 2 ^ 10 + b2n l.forced.isSome * 2 ^ 11 +
    pat * 2 ^ 12 + b2n l.liveA * 2 ^ 14 + b2n l.liveB * 2 ^ 15 + b2n wi * 2 ^ 16)

/-- PWM.LEG[n].COUNTER (R250): while the leg counts, the count between two events is free. -/
def State.legCounter (s : State) (n : Fin 32) (v : BitVec 64) : Word :=
  let l := s.leg n
  if l.counting then
    let p := s.actPeriod n.val
    let at_ := v.toNat % max 1 (spanOf (s.legMode n.val) p)
    if s.legMode n.val = 2 ∧ p ≤ at_ then BitVec.ofNat 32 (2 * p - at_ + 2 ^ 31) else BitVec.ofNat 32 at_
  else BitVec.ofNat 32 (l.counter + b2n l.down * 2 ^ 31)

/-- EDGE.CH[n].STATE (R258, R267, R278): LINK reads HOLD while the hold pattern of a WARM reset is sent (R269). -/
def State.edgeState (s : State) (n : Fin 64) : Word :=
  let e := s.edge n
  let out := match e.out with
    | .off => 0
    | .on => 1
    | .soft1 => 2
    | .soft2 => 2
    | .soft3 => 2
    | .parked => 3
  let clamp := e.powered && decide (e.out = .off) && (e.holdoff || e.latch || s.flag (Reg.EDGE.CH.DRIVE.CLAMP_EN n.val))
  let link := if e.link = 2 ∧ s.trip.ovCopy.isSome = true then 3 else e.link
  BitVec.ofNat 32 (link + out * 8 + b2n clamp * 32 + b2n e.holdoff * 64 + b2n (e.powered && !e.supUv) * 128 + b2n e.single * 256)

/-- DRIVE.SLOT[s].STATE (R334). -/
def State.slotWord (s : State) (i : Fin 4) : Word :=
  let x := s.slot i
  BitVec.ofNat 32 (x.state.code + x.prev.code * 16 + x.reason.code * 256 + b2n x.stale * 2 ^ 11 + x.nsrc * 2 ^ 12 +
    x.method * 2 ^ 15 + min x.tries 3 * 2 ^ 17)

/-- PWM.TRIP.ACTIVE (R250). -/
def State.tripActive (s : State) : Word :=
  BitVec.ofNat 32 (s.trip.asserted.toNat + s.trip.slotLines.toNat * 2 ^ 16 + b2n s.trip.ov * 2 ^ 20)

/-- One bit per group of the interrupt tree, from group `g` on (R549, R554). -/
def groupBits (f : Nat → Word) (g n : Nat) : Word :=
  BitVec.ofNat 32 (((List.range n).map (fun k => b2n (f (g + k) != 0#32) * 2 ^ k)).sum)

/-- INT.TOP (R553, R554). -/
def State.intTop (s : State) : Word :=
  let g := ((List.range 48).find? (fun g => s.pendWord g != 0#32)).getD 0x7F
  BitVec.ofNat 32 (g + b2n s.irqAsserted * 256)

/-- The registers of the blocks 0 to 9 whose values follow from other state. -/
def State.derivedLow (s : State) (a : Nat) (v : BitVec 64) : Word :=
  match blockOf a with
  | 0 =>
    if a = Reg.SYS.ID.addr then BitVec.ofNat 32 (0x41000000 + revDigit * 65536 + 0x6480)
    else if a = Reg.SYS.UID0.addr then Config.serial.setWidth 32
    else if a = Reg.SYS.UID1.addr then (Config.serial >>> 32).setWidth 32
    else s.rd a
  | 2 =>
    match elemOf a (Reg.TIME.SYNC.addr 0) 4 3 with
    | some i => s.syncWord i
    | none => s.rd a
  | 3 =>
    if a = Reg.RST.STATUS.addr then Reg.RST.STATUS.HOLD.into s.trip.resetHold.toNat (s.rd a)
    else if a = Reg.RST.IDLE.addr then
      BitVec.ofNat 32 (((List.range 25).map (fun n => b2n (s.blockIdle (v.getLsbD 0) n) * 2 ^ n)).sum)
    else s.rd a
  | 4 =>
    if a = Reg.INT.SUM0.addr then groupBits s.pendWord 0 32
    else if a = Reg.INT.SUM1.addr then groupBits s.pendWord 32 16
    else if a = Reg.INT.TOP.addr then s.intTop
    else if a = Reg.INT.SET0.addr then groupBits s.causeWord 0 32
    else if a = Reg.INT.SET1.addr then groupBits s.causeWord 32 16
    else match elemOf a (Reg.INT.GRP.PEND.addr 0) 0x10 64 with
      | some g => s.pendWord g
      | none => s.rd a
  | 5 =>
    if a = Reg.PATROL.STATUS.addr then s.patrolStatus
    else if a = Reg.PATROL.WDOG_STATUS.addr then
      Reg.PATROL.WDOG_STATUS.LEFT.into
        (if s.wdogOn then min ((s.patrol.deadline - s.clk.epochs) * 3 / 1000) 0xFFFF else 0) (s.rd a)
    else match elemOf a (Reg.PATROL.CLASS.addr 0) 4 4 with
      | some i => s.patrolClass (Fin.ofNat 4 i)
      | none => s.rd a
  | 6 =>
    match elemOf a (Reg.TRIAD.LANE.addr 0) 4 4 with
    | some l => (Reg.TRIAD.LANE.HOUR l).into (min (s.laneHour l) 3) (s.rd a)
    | none => s.rd a
  | 7 =>
    if a = Reg.GROOM.STATUS.addr then Reg.GROOM.STATUS.BUSY.into (b2n s.groomBusy) (s.rd a)
    else if a = Reg.GROOM.SPARES0.addr then s.spares0
    else if a = Reg.GROOM.SPARES1.addr then BitVec.ofNat 32 s.rowsLeft
    else if a = Reg.GROOM.SPARES2.addr then BitVec.ofNat 32 (s.sectorsLeft 0 + s.sectorsLeft 1 * 65536)
    else s.rd a
  | 8 =>
    if a = Reg.HIMET.SESSION_LEFT.addr then
      BitVec.ofNat 32 (s.sessionLeft s.himet.test (v.getLsbD 0) + s.sessionLeft s.himet.debug (v.getLsbD 1) * 65536)
    else s.rd a
  | _ => s.rd a

/-- The registers of the blocks 10 to 15 whose values follow from other state. DESIGN CHOICE (log entry 97): with ST_BITS = 32 COUNTS_PER_TURN
(R158) would be 2^32, which its 32 bits do not hold; it reads 0. -/
def State.derivedMid (s : State) (a : Nat) (v : BitVec 64) : Word :=
  match blockOf a with
  | 10 =>
    if a = Reg.PWM.GLOBAL.RUN.addr then BitVec.ofNat 32 (((List.finRange 32).map (fun n => b2n (s.leg n).counting * 2 ^ n.val)).sum)
    else if a = Reg.PWM.TRIP.ACTIVE.addr then s.tripActive
    else match elemOf a (Reg.PWM.TRIP.SAFE.addr 0) 4 4 with
      | some i => BitVec.ofNat 32 (s.trip.sel[(Fin.ofNat 4 i)] + s.effective (Fin.ofNat 4 i) * 4)
      | none => match elemOf a (Reg.PWM.TRIPIN.STATUS.addr 0) 0x10 16 with
        | some i => BitVec.ofNat 32 (b2n (s.tripLevel (Fin.ofNat 16 i)) + b2n s.tripIns[(Fin.ofNat 16 i)].blanked * 2 +
            s.get (Reg.PWM.TRIPIN.STATUS.TRIPS i) * 65536)
        | none => match elemOf a (Reg.PWM.LEG.STATUS.addr 0) 0x80 32 with
          | some n => s.legStatus (Fin.ofNat 32 n)
          | none => match elemOf a (Reg.PWM.LEG.COUNTER.addr 0) 0x80 32 with
            | some n => s.legCounter (Fin.ofNat 32 n) v
            | none => s.rd a
  | 11 =>
    if !s.mapped (Fin.ofNat 64 ((a - Reg.EDGE.CH.CFG.addr 0) / 0x400)) then resetOf a
    else match elemOf a (Reg.EDGE.CH.STATE.addr 0) 0x400 64 with
    | some n => s.edgeState (Fin.ofNat 64 n)
    | none => s.rd a
  | 12 =>
    match elemOf a (Reg.SDM.F.INFO.addr 0) 0x40 48 with
    | some n => (Reg.SDM.F.INFO.CMP_LO n).into (b2n s.sdm[(sdmIdx n)].lo)
        ((Reg.SDM.F.INFO.CMP_HI n).into (b2n s.sdm[(sdmIdx n)].hi) (s.rd a))
    | none => s.rd a
  | 13 =>
    if a = Reg.HKA.STATUS.addr then s.hkaStatus else if a = Reg.HKA.CORES.addr then s.hkaCores else s.rd a
  | 14 =>
    match elemOf a (Reg.POS.CH.COUNTS_PER_TURN.addr 0) 0x100 4 with
    | some k => BitVec.ofNat 32 (s.posCpt (Fin.ofNat 4 k))
    | none => s.rd a
  | 15 =>
    if a = Reg.CARVE.STATUS.addr then s.carveStatus
    else if a = Reg.CARVE.LOADED.addr then BitVec.ofNat 32 (s.course.prog.length + s.course.matrix.length * 65536)
    else match elemOf a (Reg.CARVE.TASK.CMD_STATUS.addr 0) 0x20 8 with
      | some t => (Reg.CARVE.TASK.CMD_STATUS.PRE_PENDING t).into (b2n s.carve.preset[(Fin.ofNat 8 t)]) (s.rd a)
      | none => match elemOf a (Reg.CARVE.IN.addr 0 0) 4 256 with
        | some k => (s.portNow 0x10 (k / 64) (k % 64)).val
        | none => match elemOf a (Reg.CARVE.PARAM.addr 0) 4 256 with
          | some k => s.paramRead k
          | none => s.rd a
  | _ => s.rd a

/-- The registers of the blocks 16 to 24 whose values follow from other state. -/
def State.derivedHigh (s : State) (a : Nat) (v : BitVec 64) : Word :=
  match blockOf a with
  | 18 =>
    if a = Reg.DRIVE.CHOP_STATUS.addr then Reg.DRIVE.CHOP_STATUS.REQ.into (b2n s.chop.req) (s.rd a)
    else if a = Reg.DRIVE.CHG.STATUS.addr then
      Reg.DRIVE.CHG.STATUS.PARK.into (b2n s.parkApplied) (Reg.DRIVE.CHG.STATUS.CTR_CLOSED.into (b2n s.fbClosed)
        (Reg.DRIVE.CHG.STATUS.PHASE.into s.chg.phase.code (s.rd a)))
    else match elemOf a (Reg.DRIVE.SLOT.STATE.addr 0) 0x80 4 with
      | some i => s.slotWord (Fin.ofNat 4 i)
      | none => match elemOf a (Reg.DRIVE.SLOT.SPEED.addr 0) 0x80 4 with
        | some i => (s.slot (Fin.ofNat 4 i)).speed
        | none => match elemOf a (Reg.DRIVE.SLOT.DISCH_STATUS.addr 0) 0x80 4 with
          | some i =>
            let p := (s.slot (Fin.ofNat 4 i)).dischPhase
            BitVec.ofNat 32 (p % 4 + (if p = 0 then 0 else v.toNat % 65536) * 65536)
          | none => s.rd a
  | 19 => if a = Reg.CAN.STATUS.addr 0 then (Reg.CAN.STATUS.RX_BUSY 0).into (b2n (s.mayReceive 0 && v.getLsbD 0)) (s.rd a) else s.rd a
  | 20 => if a = Reg.CAN.STATUS.addr 1 then (Reg.CAN.STATUS.RX_BUSY 1).into (b2n (s.mayReceive 1 && v.getLsbD 0)) (s.rd a) else s.rd a
  | 21 =>
    if a = Reg.NET.GPTP.STATUS.addr then Reg.NET.GPTP.STATUS.CLOCK_CLASS.into s.clockClass (s.rd a)
    else match elemOf a (Reg.NET.PORT.MAC_LO.addr 0) 0x40 3 with
      | some p => (Config.mac p).setWidth 32
      | none => match elemOf a (Reg.NET.PORT.MAC_HI.addr 0) 0x40 3 with
        | some p => (Config.mac p >>> 32).setWidth 32
        | none => s.rd a
  | 22 => s.svcWord ((a - Reg.SVC.USB_ID.addr) / 4)
  | 23 => if a = Reg.PROBE.STATUS.addr then s.probeStatus else s.rd a
  | 24 => if a = Reg.HOST.CAUSE.addr then s.causeWord 47 &&& 0x1F#32 else s.rd a
  | _ => s.rd a

/-- The value of the register at an address (R34, R35): 0 where none is implemented. `v` stands for what the spec leaves open. -/
def State.valueAt (s : State) (a : Nat) (v : BitVec 64) : Word :=
  if (rowsAt a).isEmpty then 0#32
  else if blockOf a < 10 then s.derivedLow a v
  else if blockOf a < 16 then s.derivedMid a v
  else s.derivedHigh a v

/-- The latches of the rs fields of the blocks up to 15 (R5): what a read of the register leaves. -/
def State.latchLow (s : State) (env : HostEnv) (a : Nat) : State :=
  match blockOf a with
  | 2 =>
    if a = Reg.TIME.NOW_S_LO.addr then nextOf s (execTimeNowRead env.after)
    else if a = Reg.TIME.PPS_IN_S.addr then nextOf s execPpsInRead
    else s
  | 5 => if a = Reg.PATROL.FIRST.addr then nextOf s execPatrolFirstRead else s
  | 6 => if a = Reg.TRIAD.LAST0.addr then s.lastLaneRead else s
  | 8 => if a = Reg.HIMET.RANDOM.addr then nextOf s execRandomRead else s
  | 11 =>
    match elemOf a (Reg.EDGE.CH.MEAS0.addr 0) 0x400 64 with
    | some n => if s.mapped (Fin.ofNat 64 n) then nextOf s (execMeasRead (Fin.ofNat 64 n)) else s
    | none => s
  | 12 =>
    match elemOf a (Reg.SDM.F.RES.addr 0) 0x40 48 with
    | some n => nextOf s (execSdmResRead (Fin.ofNat 62 n))
    | none => match elemOf a (Reg.SDM.PHV_RES.addr 0) 8 12 with
      | some n => nextOf s (execSdmResRead (Fin.ofNat 62 (48 + n)))
      | none =>
        if a = Reg.SDM.DCL_A_RES.addr then nextOf s (execSdmResRead 60)
        else if a = Reg.SDM.DCL_B_RES.addr then nextOf s (execSdmResRead 61)
        else s
  | 13 =>
    match elemOf a (Reg.HKA.TRK.SUM.addr 0) 0x40 64 with
    | some k => nextOf s (execTrackerSumRead (Fin.ofNat 64 k))
    | none => s
  | 14 =>
    match elemOf a (Reg.POS.CH.ANGLE.addr 0) 0x100 4 with
    | some k => nextOf s (execPosAngleRead (Fin.ofNat 4 k) env.cycle)
    | none => s
  | 15 =>
    match elemOf a (Reg.CARVE.IN.addr 0 0) 4 256 with
    | some k => nextOf s (execCarveInRead (Fin.ofNat 4 (k / 64)) (Fin.ofNat 64 (k % 64)))
    | none => s
  | _ => s

/-- The latches of the rs fields of the blocks from 16 on. -/
def State.latchHigh (s : State) (a : Nat) : State :=
  match blockOf a with
  | 16 =>
    match elemOf a (Reg.SLALOM.SL.ROT_RESULT.addr 0) 0x100 4 with
    | some i => nextOf s (execRotResultRead (Fin.ofNat 4 i))
    | none => s
  | 17 =>
    match elemOf a (Reg.PROF.CH.VALUE.addr 0) 0x40 4 with
    | some i => nextOf s (execProfValueRead (Fin.ofNat 4 i))
    | none => s
  | 18 =>
    if a = Reg.DRIVE.CHG.SRC_V.addr then
      (s.wr Reg.DRIVE.CHG.SRC_F.addr s.chg.freq).wr Reg.DRIVE.CHG.GUARD.addr s.chg.guard
    else s
  | 19 =>
    if a = Reg.CAN.STATUS.addr 0 then s.recoveryShown 0
    else match elemOf a (Reg.CAN.RX.ID.addr 0 0) 0x60 3 with
    | some f => nextOf s (execCanRxRead 0 (Fin.ofNat 3 f))
    | none => s
  | 20 =>
    if a = Reg.CAN.STATUS.addr 1 then s.recoveryShown 1
    else match elemOf a (Reg.CAN.RX.ID.addr 1 0) 0x60 3 with
    | some f => nextOf s (execCanRxRead 1 (Fin.ofNat 3 f))
    | none => s
  | 21 => if a = Reg.NET.FOLIS.AGG0.addr then nextOf s execFolisAggRead else s
  | 23 =>
    match elemOf a (Reg.PROBE.MID.STATUS.addr 0) 0x20 4 with
    | some i => s.midRead (Fin.ofNat 4 i)
    | none => s
  | _ => s

/-- One register is read: its latches act, and its value is returned (R544). -/
def State.readReg (s : State) (env : HostEnv) (a : Nat) : Word × State :=
  let s1 := if blockOf a < 16 then s.latchLow env a else s.latchHigh a
  let (v, s2) := s1.fresh
  (s2.valueAt a v, s2)

end Sys2Proof.Machine
end

