-- ==== Sys2Proof/Machine/Command.lean ====
section
/-! DEFINITION. Writes to command registers: the codes that each takes (R5, R14), and the interrupt tree's own writes (R549 to R552). -/

namespace Sys2Proof.Machine

/-- Implemented cause bits of a group (R549). -/
def implBits (g : Nat) : Word :=
  if 8 ≤ g ∧ g ≤ 20 then 0xFFFFFFFF#32
  else if 24 ≤ g ∧ g ≤ 27 then 0x000FFFFF#32
  else if 28 ≤ g ∧ g ≤ 31 then 0x0000FF7F#32
  else if 34 ≤ g ∧ g ≤ 37 then 0x00003FFF#32
  else
    let n := match g with
      | 0 => 13 | 2 => 8 | 3 => 20 | 4 => 15 | 5 => 14 | 6 => 16 | 7 => 8 | 21 => 22 | 22 => 10 | 23 => 24 | 32 => 22 | 33 => 18
      | 38 => 17 | 39 => 17 | 40 => 10 | 41 => 10 | 42 => 11 | 43 => 10 | 44 => 14 | 45 => 6 | 46 => 5 | 47 => 5
      | _ => 0
    BitVec.ofNat 32 (2 ^ n - 1)

/-- Cause bits are cleared by w1c (R6, R377, R391, R392, R549): with them go their marks, what an escalation raised, and the chopper's
request for friction braking that hung on them (R327). -/
def State.clearCauses (s : State) (g : Nat) (m : Word) : State :=
  let s1 := s.wr (Reg.INT.GRP.CAUSE.addr g) (s.causeWord g &&& ~~~m)
  let s2 := (s1.setShadow g (s1.shadowWord g &&& ~~~m)).setLive g (s1.liveWord g &&& ~~~m)
  let keep (e : Nat × Nat × Nat) : Bool := !(e.1 == g && m.getLsbD e.2.1)
  State.frictionCheck { s2 with patrol := { s2.patrol with raised := s2.patrol.raised.filter keep } }

/-- CAUSE_CLEAR (R550): a write to INT.GRP[g].CAUSE. -/
def execCauseClear (grp : Fin 64) (mask : Word) (s : State) : Host.Outcome State Fault Refusal :=
  .next (s.clearCauses grp.val mask)

/-- INT_INJECT (R552): a write to INT.GRP[g].INJECT sets the implemented bits of the group with a shadow mark. -/
def execIntInject (grp : Fin 64) (mask : Word) (s : State) : Host.Outcome State Fault Refusal :=
  let m := mask &&& implBits grp.val
  .next ((List.range 32).foldl (fun t b => if m.getLsbD b then t.setCauseM ⟨grp.val, b⟩ .shadow else t) s)

/-- IRQ_EDGE_RELEASE_END (R551). -/
def execIrqEdgeReleaseEnd (s : State) : Host.Outcome State Fault Refusal :=
  .next { s with host := { s.host with irqReleased := false } }

/-- A command code of a register whose element is `x`. -/
def codeAt (v : Word) : Nat := getBits v 0 4

/-- Command registers of the blocks 2 to 9; `none` where the address is none. -/
def State.commandLow (s : State) (env : HostEnv) (a : Nat) (v : Word) : Option State :=
  let c := codeAt v
  let cls := getBits v 0 2
  match blockOf a with
  | 2 =>
    if a = Reg.TIME.CMD.addr then some (match c with
      | 1 => nextOf s execTimeSet
      | 2 => nextOf s execSyncArm
      | 3 => nextOf s execSyncCancel
      | _ => s)
    else if a = Reg.TIME.INJECT.addr then some (nextOf s (execTimeInject cls))
    else none
  | 3 =>
    if a = Reg.RST.CMD.addr then
      let key := BitVec.ofNat 8 (getBits v 24 8)
      some (match c with
        | 1 => nextOf s (execRstWarm key)
        | 2 => nextOf s (execRstSystem key)
        | 3 => nextOf s (execRstBlock (Fin.ofNat 32 (getBits v 8 5)) key)
        | _ => if key = rstKey then s else s.raise (rstCause 5))
    else none
  | 4 =>
    match elemOf a (Reg.INT.GRP.CAUSE.addr 0) 0x10 64 with
    | some g => some (nextOf s (execCauseClear (Fin.ofNat 64 g) v))
    | none => match elemOf a (Reg.INT.GRP.INJECT.addr 0) 0x10 64 with
      | some g => some (nextOf s (execIntInject (Fin.ofNat 64 g) v))
      | none => none
  | 5 =>
    if a = Reg.PATROL.CMD.addr then some (match c with
      | 1 => nextOf s execClearF4
      | 2 => nextOf s execClearFirst
      | 3 => nextOf s execFrictionOn
      | 4 => nextOf s execFrictionOff
      | _ => s)
    else if a = Reg.PATROL.WDOG_KICK.addr then some (nextOf s (execWdogKick (BitVec.ofNat 8 (getBits v 0 8)) env.ms))
    else if a = Reg.PATROL.INJECT.addr then some (nextOf s (execPatrolInject cls))
    else none
  | 6 =>
    if a = Reg.TRIAD.CMD.addr then some (if c = 1 then nextOf s execTriadClearStats else s)
    else if a = Reg.TRIAD.INJECT.addr then
      some (nextOf s (execTriadInject (Fin.ofNat 8 (getBits v 0 3)) (getBits v 4 2)))
    else none
  | 7 =>
    let target := BitVec.ofNat 8 (getBits v 4 8)
    if a = Reg.GROOM.CMD.addr then some (match c with
      | 1 => nextOf s (execGroomBist target env.inRange)
      | 2 => nextOf s (execReturnLane ⟨target, env.inRange⟩)
      | 3 => nextOf s (execResetBaseline target)
      | _ => s)
    else if a = Reg.GROOM.INJECT.addr then some (nextOf s (execGroomInject cls))
    else none
  | 8 =>
    if a = Reg.HIMET.CMD.addr then some (match c with
      | 1 => nextOf s execChallenge
      | 2 => nextOf s execAuth
      | 3 => nextOf s execAttest
      | 4 => nextOf s execReadCert
      | 5 => nextOf s (execReadKey (Fin.ofNat 8 (getBits v 8 3)))
      | 6 => nextOf s execCloseTest
      | 7 => nextOf s execCloseDebug
      | _ => s)
    else if a = Reg.HIMET.INJECT.addr then some (nextOf s (execHimetInject cls))
    else none
  | 9 => if a = Reg.PISTE.CMD.addr then some (if c = 1 then nextOf s execReadback else s) else none
  | _ => none

/-- A code of DRIVE.SLOT[s].CMD (R334). -/
def State.driveCode (s : State) (i : Fin 4) (c : Nat) : State :=
  match c with
  | 1 => nextOf s (execArm i)
  | 2 => nextOf s (execStart i)
  | 3 => nextOf s (execStop i)
  | 4 => nextOf s (execResume i)
  | 5 => nextOf s (execDisarm i)
  | 6 => nextOf s (execRecover i)
  | 7 => nextOf s (execRestart i)
  | 8 => nextOf s (execCharge i)
  | 9 => nextOf s (execDischarge i)
  | _ => s

/-- Command registers of PWM (R226, R233, R245, R248, R250). -/
def State.commandPwm (s : State) (env : HostEnv) (a : Nat) (v : Word) : Option State :=
  if a = Reg.PWM.GLOBAL.LOADALL.addr then some (if v.getLsbD 0 then nextOf s execPwmLoadall else s)
  else if a = Reg.PWM.GLOBAL.CMD.addr then some (match codeAt v with
    | 1 => nextOf s execPwmSync
    | 2 => nextOf s execPwmClearStats
    | _ => s)
  else if a = Reg.PWM.TRIP.RELEASE.addr then some (nextOf s (execTripRelease (v.setWidth 16)))
  else match elemOf a (Reg.PWM.TRIPIN.INJECT.addr 0) 0x10 16 with
    | some i => some (nextOf s (execTripinInject (Fin.ofNat 16 i) (getBits v 0 2)))
    | none => match elemOf a (Reg.PWM.LEG.COMMIT.addr 0) 0x80 32 with
      | some n => some (nextOf s (execPwmCommit (Fin.ofNat 32 n) (Fin.ofNat 4 (getBits v 0 2)) env.late))
      | none => none

/-- Command registers of an edge channel (R278 to R280). -/
def State.commandEdge (s : State) (a : Nat) (v : Word) : Option State :=
  match elemOf a (Reg.EDGE.CH.CAUSE.addr 0) 0x400 64 with
  | some _ => some (s.wr a (s.rd a &&& ~~~v))
  | none => match elemOf a (Reg.EDGE.CH.CMD.addr 0) 0x400 64 with
    | some n => some (match codeAt v with
      | 1 => nextOf s (execEdgeSelftest (Fin.ofNat 64 n))
      | 2 => nextOf s (execEdgeRetrain (Fin.ofNat 64 n))
      | 3 => nextOf s (execEdgePark (Fin.ofNat 64 n))
      | 4 => nextOf s (execEdgeUnpark (Fin.ofNat 64 n))
      | 5 => nextOf s (execEdgeClearStats (Fin.ofNat 64 n))
      | _ => s)
    | none => match elemOf a (Reg.EDGE.CH.INJECT.addr 0) 0x400 64 with
      | some n => some (nextOf s (execEdgeInject (Fin.ofNat 64 n) (Fin.ofNat 8 (getBits v 0 3)) (getBits v 4 2)))
      | none => none

/-- Command registers of the blocks 10 to 18. -/
def State.commandMid (s : State) (env : HostEnv) (a : Nat) (v : Word) : Option State :=
  let c := codeAt v
  match blockOf a with
  | 10 => s.commandPwm env a v
  | 11 => s.commandEdge a v
  | 13 =>
    if a = Reg.HKA.LIMHIT0.addr ∨ a = Reg.HKA.LIMHIT1.addr then some (s.wr a (s.rd a &&& ~~~v))
    else if a = Reg.HKA.CMD.addr then some (match c with
      | 1 => nextOf s (execHkaStart (BitVec.ofNat 8 (getBits v 8 8)))
      | 2 => nextOf s execHkaClearStats
      | _ => s)
    else if a = Reg.HKA.INJECT.addr then some (nextOf s (execHkaInject (getBits v 0 2)))
    else none
  | 14 =>
    match elemOf a (Reg.POS.CH.CMD.addr 0) 0x100 4 with
    | some k => some (match c with
      | 1 => nextOf s (execPosPreset (Fin.ofNat 4 k) env.edge)
      | 2 => nextOf s (execClearHomed (Fin.ofNat 4 k))
      | 3 => nextOf s (execPosClearCounters (Fin.ofNat 4 k))
      | _ => s)
    | none => none
  | 15 =>
    match elemOf a (Reg.CARVE.TASK.CMD.addr 0) 0x20 8 with
    | some t => some (match c with
      | 1 => nextOf s (execCarvePreset (Fin.ofNat 8 t))
      | 2 => nextOf s (execCarveClearStats (Fin.ofNat 8 t))
      | _ => s)
    | none => none
  | 16 =>
    match elemOf a (Reg.SLALOM.SL.CMD.addr 0) 0x100 4 with
    | some i => some (if c = 1 then nextOf s (execRotStart (Fin.ofNat 4 i)) else s)
    | none => none
  | 17 =>
    match elemOf a (Reg.PROF.CH.CMD.addr 0) 0x40 4 with
    | some i => some (match c with
      | 1 => nextOf s (execProfHold (Fin.ofNat 4 i))
      | 2 => nextOf s (execProfResume (Fin.ofNat 4 i))
      | 3 => nextOf s (execPresetInput (Fin.ofNat 4 i))
      | _ => s)
    | none => none
  | 18 =>
    match elemOf a (Reg.DRIVE.SLOT.CMD.addr 0) 0x80 4 with
    | some i => some (s.driveCode (Fin.ofNat 4 i) c)
    | none => none
  | _ => none

/-- Command registers of a CAN controller (R518, R521, R525, R531). -/
def State.commandCan (s : State) (c : Fin 2) (a : Nat) (v : Word) : Option State :=
  if a = Reg.CAN.CMD.addr c.val then some (match codeAt v with
    | 1 => nextOf s (execCanRestart c)
    | 2 => nextOf s (execCanClearStats c)
    | _ => s)
  else if a = Reg.CAN.INJECT.addr c.val then some (nextOf s (execCanInject c (getBits v 0 2)))
  else match elemOf a (Reg.CAN.TXB.REQ.addr c.val 0) 0x50 3 with
    | some b =>
      some (if v.getLsbD 1 then nextOf s (execCanTxAbort c (Fin.ofNat 3 b))
        else if v.getLsbD 0 then nextOf s (execCanTxReq c (Fin.ofNat 3 b)) else s)
    | none => match elemOf a (Reg.CAN.RX.POP.addr c.val 0) 0x60 3 with
      | some f => some (if v.getLsbD 0 then nextOf s (execCanRxPop c (Fin.ofNat 3 f)) else s)
      | none => none

/-- Command registers of the blocks from 19 on. -/
def State.commandHigh (s : State) (a : Nat) (v : Word) : Option State :=
  let c := codeAt v
  match blockOf a with
  | 19 => s.commandCan 0 a v
  | 20 => s.commandCan 1 a v
  | 21 =>
    if a = Reg.NET.CMD.addr then some (match c with
      | 1 => nextOf s (execQbvCommit (BitVec.ofNat 2 (getBits v 4 2)))
      | 2 => nextOf s execSchedule
      | 3 => nextOf s execSchedCancel
      | 4 => nextOf s execCapsRequest
      | _ => s)
    else if a = Reg.NET.INJECT.addr then some (nextOf s (execNetInject (getBits v 0 2)))
    else none
  | 22 =>
    if a = Reg.SVC.CMD.addr then some (match c with
      | 1 => nextOf s (execConfirm .host)
      | 2 => nextOf s (execRollback .host)
      | 3 => nextOf s (execArmLocal .host [])
      | 4 => nextOf s (execSvcCancel .host)
      | 5 => nextOf s (execSvcAbort .host)
      | _ => s)
    else none
  | 23 =>
    let i : Fin 4 := Fin.ofNat 4 (getBits v 4 2)
    if a = Reg.PROBE.CMD.addr then some (match c with
      | 1 => nextOf s (execMidCmd i)
      | 2 => nextOf s (execCable i)
      | 3 => nextOf s execPeers
      | 4 => nextOf s execProbeAbort
      | _ => s)
    else if a = Reg.PROBE.INJECT.addr then some (nextOf s (execProbeInject (getBits v 0 2)))
    else none
  | 24 =>
    if a = Reg.HOST.CAUSE.addr then some (nextOf s (execCauseClear 47 (v &&& 0x1F#32))) else none
  | _ => none

/-- What a write to a command register does; `none` where the address holds none. -/
def State.command (s : State) (env : HostEnv) (a : Nat) (v : Word) : Option State :=
  if blockOf a < 10 then s.commandLow env a v
  else if blockOf a < 19 then s.commandMid env a v
  else s.commandHigh a v

end Sys2Proof.Machine
end

