-- ==== Sys2Proof/Machine/Write.lean ====
section
/-! DEFINITION. A host write to one register: access, state guard, envelope, store and what the store starts (R14). -/

namespace Sys2Proof.Machine

/-- The rwl fields of a block are locked (R5). -/
def State.locked (s : State) (b : Nat) : Bool :=
  match lockAddr b with
  | some a => (s.rd a).getLsbD 0
  | none => false

/-- A field that a host write may set now (R5, R14 step 2); reserved bits belong to no field and stay 0 (R4). -/
def State.opens (s : State) (b : Nat) (r : FRow) : Bool :=
  decide (r.acc = .rw) || (decide (r.acc = .rwl) && !s.locked b)

/-- A write that a state forbids (R14 step 3; the window of an unmapped channel keeps its reset values, chapter 9): the state after the refusal; `none` where the write may go on. `w` is the word with the
open fields as written. -/
def State.guarded (s : State) (a : Nat) (w : Word) : Option State :=
  match blockOf a with
  | 8 =>
    if (elemOf a (Reg.HIMET.MBOX.addr 0) 4 2048).isSome && s.flag Reg.HIMET.STATUS.BUSY then some (s.raise ⟨6, 14⟩) else none
  | 11 => if s.mapped (Fin.ofNat 64 ((a - Reg.EDGE.CH.CFG.addr 0) / 0x400)) then none else some s
  | 14 =>
    match elemOf a (Reg.POS.CH.RES_PHASE.addr 0) 0x100 4 with
    | some k => if s.flag (Reg.POS.CH.RES_CFG.PHASE_AUTO k) then some s else none
    | none => none
  | 21 =>
    let changes (f : Fld) : Bool := decide (getBits w f.lsb f.width ≠ s.get f)
    if s.flag Reg.NET.FOLIS.CFG.ENABLE &&
        ((decide (a = Reg.NET.FOLIS.CFG.addr) && changes Reg.NET.FOLIS.CFG.NODE_ID) ||
          (decide (a = Reg.NET.FOLIS.DOMAIN.addr) && changes Reg.NET.FOLIS.DOMAIN.val)) then some (s.raise (folisCause 9))
    else none
  | _ => none

/-- The guards of a CAN controller (R517, R521, R534): its set-up outside CONFIG requests, its buffers outside IDLE, and TXB2 where
it is the status frame's. -/
def State.canGuarded (s : State) (c : Fin 2) (a : Nat) (w : Word) : Bool :=
  let setUp := [Reg.CAN.CTRL.addr c.val, Reg.CAN.NBT.addr c.val, Reg.CAN.DBT.addr c.val, Reg.CAN.STATUS_CFG.addr c.val,
    Reg.CAN.STATUS_ID.addr c.val]
  let k := (a - Reg.CAN.TXB.ID.addr c.val 0) / 0x50
  (setUp.contains a && !s.flag (Reg.CAN.CTRL.INIT c.val) &&
      (decide (a ≠ Reg.CAN.CTRL.addr c.val) || decide (w >>> 1 ≠ s.rd a >>> 1))) ||
    (decide (Reg.CAN.TXB.ID.addr c.val 0 ≤ a ∧ k < 3) && (decide (s.txb c k ≠ 0) || (decide (k = 2) && s.flag (Reg.CAN.STATUS_CFG.EN c.val))))

/-- What the store of a PWM register starts (R223, R227): a shadow counts as written; a changed set-up acts on the references. -/
def State.afterPwm (s : State) (a : Nat) : State :=
  let n := (a - Reg.PWM.LEG.CFG.addr 0) / 0x80
  if Reg.PWM.LEG.CFG.addr 0 ≤ a ∧ n < 32 then
    let i : Fin 32 := Fin.ofNat 32 n
    let l := s.leg i
    if a = Reg.PWM.LEG.IDLE.addr n then s.setLeg i { l with writtenIdle := true }
    else if a = Reg.PWM.LEG.CFG.addr n then
      (State.updateRefs (if s.legMode n = 0 then s.setLeg i { l with counting := false, counter := 0, down := false } else s) i
        .other).settle
    else match (List.range 7).find? (fun k => shadowAddr n k == a) with
      | some k => s.setLeg i { l with written := l.written ||| (1#7 <<< k) }
      | none => s
  else match elemOf a (Reg.PWM.TRIPIN.CFG.addr 0) 0x10 16 with
    | some i => s.tripInEval (Fin.ofNat 16 i)
    | none => s

/-- What the store of a register starts, from the state `s0` before the write. -/
def State.afterStore (s0 s : State) (a : Nat) : State :=
  match blockOf a with
  | 2 =>
    if a = Reg.TIME.CFG.addr ∧ s0.get Reg.TIME.CFG.SOURCE ≠ s.get Reg.TIME.CFG.SOURCE then
      (s.put Reg.TIME.STATUS.ACTIVE 0).ownRef
    else s
  | 3 => if a = Reg.RST.LOG_SEL.addr then nextOf s (execRstLogSelect (Fin.ofNat 16 (s.get Reg.RST.LOG_SEL.INDEX))) else s
  | 4 =>
    if a = Reg.INT.CTRL.addr then
      (if s.flag Reg.INT.CTRL.EDGE then s else { s with host := { s.host with irqReleased := false } })
    else match elemOf a (Reg.INT.GRP.ENABLE.addr 0) 0x10 64 with
      | some g => State.irqEdge s0 (s.wr a (s.rd a &&& implBits g)) g
      | none => s
  | 5 =>
    if a = Reg.PATROL.CLS_QUERY.addr then
      nextOf s (execClsQuery (Fin.ofNat 48 (s.get Reg.PATROL.CLS_QUERY.GROUP)) (Fin.ofNat 32 (s.get Reg.PATROL.CLS_QUERY.BIT)))
    else s
  | 9 => if a = Reg.PISTE.ENV_LSB.addr then nextOf s (execEnvQuery (BitVec.ofNat 5 (s.get Reg.PISTE.ENV_LSB.LSB))) else s
  | 10 => s.afterPwm a
  | 12 =>
    let s1 := s0.sdmEnabled s
    match (elemOf a (Reg.SDM.F.CMP_CFG.addr 0) 0x40 48).or (elemOf a (Reg.SDM.F.CFG.addr 0) 0x40 48) with
    | some n => s1.cmpGate (sdmIdx n)
    | none => s1
  | 13 =>
    if a = Reg.HKA.TDAC.addr then nextOf s (execTdacWrite (BitVec.ofNat 12 (s.get Reg.HKA.TDAC.CODE)))
    else match elemOf a (Reg.HKA.TRK.CFG.addr 0) 0x40 64 with
      | some k => if s.flag (Reg.HKA.TRK.CFG.ENABLE k) && !s0.flag (Reg.HKA.TRK.CFG.ENABLE k) then s.trkEnabled (Fin.ofNat 64 k) else s
      | none => match (elemOf a (Reg.HKA.TRK.GAIN.addr 0) 0x40 64).or (elemOf a (Reg.HKA.TRK.OFFSET.addr 0) 0x40 64) with
        | some k => s.trkRoute (Fin.ofNat 64 k)
        | none => s.hkaPower
  | 15 =>
    match elemOf a (Reg.CARVE.PARAM.addr 0) 4 256 with
    | some k => nextOf (s.wr a (s0.rd a)) (execParamWrite (Fin.ofNat 256 k) (s.rd a))
    | none => s
  | 18 => if a = Reg.DRIVE.CHOP_CFG.addr then s.chopRefs else s
  | 19 => if a = Reg.CAN.CTRL.addr 0 ∧ s.flag (Reg.CAN.CTRL.INIT 0) = false then nextOf s (execCanInitClear 0) else s
  | 20 => if a = Reg.CAN.CTRL.addr 1 ∧ s.flag (Reg.CAN.CTRL.INIT 1) = false then nextOf s (execCanInitClear 1) else s
  | 21 =>
    let port := (elemOf a (Reg.NET.PORT.CFG.addr 0) 0x40 3).isSome
    let s0 := if port || decide (a = Reg.NET.CFG.addr) then s.portsSettle else s
    let s1 := if port || [Reg.NET.CFG.addr, Reg.NET.FOLIS.CFG.addr, Reg.NET.FOLIS.DOMAIN.addr].contains a then s0.elect else s0
    if port || [Reg.NET.CFG.addr, Reg.NET.GPTP.CFG.addr].contains a then s1.gptpRoles else s1
  | _ => s

/-- The fields of a write that a host may set, with what their envelopes make of it (R9 to R14). -/
def State.judgeAll (s : State) (a : Nat) (v : Word) : List (FRow × Judged) :=
  ((rowsAt a).filter (fun r => s.opens (blockOf a) r)).map (fun r => (r, s.judge a r (getBits v r.lsb r.width)))

/-- The word of a register with judged fields stored. -/
def storedWord (old : Word) (l : List (FRow × Judged)) : Word :=
  l.foldl (fun w p => match p.2 with
    | .store x => setBits w p.1.lsb p.1.width x
    | .clamp x => setBits w p.1.lsb p.1.width x
    | .refuse => w) old

/-- The word of a register with its open fields as written. -/
def State.rawWord (s : State) (a : Nat) (v : Word) : Word :=
  ((rowsAt a).filter (fun r => s.opens (blockOf a) r)).foldl (fun w r => setBits w r.lsb r.width (getBits v r.lsb r.width)) (s.rd a)

/-- Envelopes and store (R14 steps 4 and 5). -/
def State.store (s : State) (a : Nat) (v : Word) : State :=
  let l := s.judgeAll a v
  if l.isEmpty then s
  else if l.any (fun p => decide (p.2 = .refuse)) then s.envelope a
  else
    let s1 := s.wr a (storedWord (s.rd a) l)
    match s1.joint a with
    | .envelope => s.envelope a
    | .other c => s.raise c
    | .ok =>
      let s2 := s.afterStore s1 a
      if l.all (fun p => p.2.inside) then s2 else s2.envelope a

/-- A write to a register of a CAN controller (R517): while INIT = 0, the INIT bit alone may be set. -/
def State.storeCan (s : State) (c : Fin 2) (a : Nat) (v : Word) : State :=
  let w := s.rawWord a v
  if a = Reg.CAN.CTRL.addr c.val ∧ s.flag (Reg.CAN.CTRL.INIT c.val) = false then
    let s1 := if w.getLsbD 0 then nextOf s (execCanInitSet c) else s
    if s.canGuarded c a w then s1.raise (canCause c 15) else s1
  else if s.canGuarded c a w then s.raise (canCause c 15)
  else s.store a v

/-- A write to a register that is no command register; with no field open it has no effect (R14 step 2). -/
def State.storeReg (s : State) (a : Nat) (v : Word) : State :=
  if !((rowsAt a).any (fun r => s.opens (blockOf a) r)) then s
  else match blockOf a with
  | 19 => s.storeCan 0 a v
  | 20 => s.storeCan 1 a v
  | _ => match s.guarded a (s.rawWord a v) with
    | some t => t
    | none => s.store a v

/-- One word of a host write, from step 2 of R14 on; a word at an address without a register is dropped (R34). -/
def State.writeReg (s : State) (env : HostEnv) (a : Nat) (v : Word) : State :=
  if (rowsAt a).isEmpty then s
  else match s.command env a v with
    | some t => t
    | none => s.storeReg a v

/-- REGISTER_WRITE (R14). -/
def execRegisterWrite (addr : Nat) (value : Word) (env : HostEnv) (s : State) : Host.Outcome State Fault Refusal :=
  .next (s.writeReg env addr value)

end Sys2Proof.Machine
end

