-- ==== Sys2Proof/Machine/HostPort.lean ====
section
/-! DEFINITION. Transactions on the host port (R538 to R548). -/

namespace Sys2Proof.Machine

/-- A HOST cause (R556): 0 CRC, 1 DECODE, 2 FRAMING, 3 OPCODE, 4 LATE. -/
def hostCause (b : Nat) : Cause := ⟨47, b⟩

/-- One bit of the CRC-8 of R539. -/
def crc8Bit (c : Byte) : Byte := if c.getLsbD 7 then (c <<< 1) ^^^ 0x07#8 else c <<< 1

/-- One byte of the CRC-8 of R539. -/
def crc8Byte (c b : Byte) : Byte :=
  let x := c ^^^ b
  crc8Bit (crc8Bit (crc8Bit (crc8Bit (crc8Bit (crc8Bit (crc8Bit (crc8Bit x)))))))

/-- The CRC-8 of R539 over bytes in the order of the wire. -/
def crc8 (l : List Byte) : Byte := l.foldl crc8Byte 0#8

/-- Four bytes, most significant first (R538). -/
def beWord (l : List Byte) (off : Nat) : Word :=
  (l.getD off 0#8 ++ l.getD (off + 1) 0#8 ++ l.getD (off + 2) 0#8 ++ l.getD (off + 3) 0#8).setWidth 32

/-- The bytes of a word, most significant first (R538). -/
def beBytes (w : Word) : List Byte := [w.extractLsb' 24 8, w.extractLsb' 16 8, w.extractLsb' 8 8, w.extractLsb' 0 8]

/-- Words of a transaction, from its LEN byte (R539). -/
def lenWords (b : Byte) : Nat := b.toNat % 16 + 1

/-- The status byte (R546). -/
def State.statusByte (s : State) (ok decode late irq safe : Bool) : Byte :=
  BitVec.ofNat 8 (b2n ok + b2n decode * 2 + b2n late * 4 + b2n irq * 8 + b2n safe * 16 + s.get Reg.HOST.SEQ.COUNT % 8 * 32)

/-- A FRAMING or OPCODE event (R547, R555). -/
def State.framing (s : State) (b : Nat) : State := (s.bump Reg.HOST.COUNTS0.FRAMING).raise (hostCause b)

/-- The module's bytes of a transaction, with the CRC over them (R539, R546). IRQ and SAFE are those at the start of the return phase,
which lies before or after what the transaction sets: `v` chooses. A reset that the transaction has started may cut the answer. -/
def State.answer (s0 s : State) (data : List Byte) (ok decode late : Bool) : State :=
  let (v, s1) := s.fresh
  let irq := if v.getLsbD 0 then s0.irqAsserted else s1.irqAsserted
  let safe := if v.getLsbD 1 then !s0.safeNHigh else !s1.safeNHigh
  let r := data ++ [s1.statusByte ok decode late irq safe]
  let cut := decide (s1.life ≠ .run) && v.getLsbD 2
  { s1 with host := { s1.host with reply := (if cut then [] else r ++ [crc8 r]), lastDecode := decode, lastLate := late } }

/-- What the checks of a READ or WRITE find (R542, R544). -/
inductive HostCheck where
  | short | crc | framing | decode | ok
deriving DecidableEq, Repr

/-- The burst lies in the peripheral space and in one block window, at a multiple of 4 (R33, R542). -/
def burstOk (addr n : Nat) : Bool :=
  let last := addr + 4 * (n - 1)
  decide (addr % 4 = 0 ∧ 0x40000000 ≤ addr ∧ last < 0x40190000 ∧ addr / 0x10000 = last / 0x10000)

/-- The checks of a READ or WRITE whose CRC byte stands at a position (R539, R542, R547). -/
def hostCheck (sent : List Byte) (crcAt : Nat) : HostCheck :=
  if sent.length ≤ crcAt then .short
  else if crc8 (sent.take crcAt) ≠ sent.getD crcAt 0#8 then .crc
  else if 16 ≤ (sent.getD 1 0#8).toNat then .framing
  else if burstOk (beWord sent 2).toNat (lenWords (sent.getD 1 0#8)) then .ok
  else .decode

/-- A READ or WRITE that fails its checks (R542, R544, R547): `data` are the zero bytes that a READ returns. -/
def State.dropped (s : State) (sent data : List Byte) (c : HostCheck) : State :=
  match c with
  | .short => (State.framing { s with host := { s.host with reply := [] } } 2)
  | .crc => State.answer s ((s.bump Reg.HOST.COUNTS0.CRC_ERRS).raise (hostCause 0)) data false false false
  | .framing => State.answer s (s.framing 2) data false false false
  | .decode =>
    State.answer s (((s.bump Reg.HOST.COUNTS1.DECODE).wr Reg.HOST.LAST_BAD.addr (beWord sent 2)).raise (hostCause 1)) data
      false true false
  | .ok => s

/-- The words of an accepted WRITE take effect in ascending order (R543); a reset that one of them starts leaves the rest unwritten
(R547). -/
def State.writeWords (s : State) (env : HostEnv) (addr : Nat) : List Word → State
  | [] => s
  | w :: l => if s.life = .run then (s.writeReg env addr w).writeWords env (addr + 4) l else s

/-- A WRITE transaction (R542, R543). -/
def State.hostWrite (s : State) (sent : List Byte) (copyDiffers : Bool) (env : HostEnv) : State :=
  let n := lenWords (sent.getD 1 0#8)
  match hostCheck sent (6 + 4 * n) with
  | .ok =>
    let s1 := (s.bumpWrap Reg.HOST.SEQ.COUNT).agreeFix copyDiffers
    let s2 := s1.writeWords env (beWord sent 2).toNat ((List.range n).map (fun i => beWord sent (6 + 4 * i)))
    State.answer s s2 [] true false false
  | c => s.dropped sent [] c

/-- The reads of an accepted READ, in ascending order (R544): a late word is sent as 0 though it has been read (R545). -/
def State.readWords (s : State) (env : HostEnv) (addr : Nat) : List Bool → List Byte × State
  | [] => ([], s)
  | late :: l =>
    let (w, s1) := s.readReg env addr
    let (rest, s2) := s1.readWords env (addr + 4) l
    ((if late then [0#8, 0#8, 0#8, 0#8] else beBytes w) ++ rest, s2)

/-- A READ transaction (R544, R545). -/
def State.hostRead (s : State) (sent : List Byte) (late : BitVec 16) (copyDiffers : Bool) (env : HostEnv) : State :=
  let n := lenWords (sent.getD 1 0#8)
  match hostCheck sent 6 with
  | .ok =>
    let ls := (List.range n).map (fun i => late.getLsbD i)
    let (data, s1) := ((s.bumpWrap Reg.HOST.SEQ.COUNT).agreeFix copyDiffers).readWords env (beWord sent 2).toNat ls
    let any := ls.any id
    let s2 := State.answer s s1 data true false any
    if any then (s2.bump Reg.HOST.COUNTS1.LATE).raise (hostCause 4) else s2
  | c => s.dropped sent (List.replicate (4 * n) 0#8) c

/-- A transaction by its CMD byte (R539, R547); `extra`: clock edges follow the module's last byte. The port answers past host enable
only (R548). -/
def State.transact (s : State) (sent : List Byte) (copyDiffers : Bool) (late : BitVec 16) (extra : Bool) (env : HostEnv) : State :=
  if s.life ≠ .run then s
  else match sent with
    | [] => State.framing { s with host := { s.host with reply := [] } } 2
    | cmd :: _ =>
      let more (t : State) : State := if extra && decide (t.life = .run) && !t.host.reply.isEmpty then t.framing 2 else t
      if cmd = 0x02#8 then more (s.hostWrite sent copyDiffers env)
      else if cmd = 0x0B#8 then more (s.hostRead sent late copyDiffers env)
      else if cmd = 0x05#8 then
        more (State.answer s s [] true s.host.lastDecode s.host.lastLate)
      else State.framing { s with host := { s.host with reply := [] } } 3

/-- HOST_WRITE (R543): the bytes that the host sends, CMD first. `copyDiffers`: at the agreement stage one copy of the words differs
from the other two (R352). -/
def execHostWrite (sent : List Byte) (extra copyDiffers : Bool) (env : HostEnv) (s : State) : Host.Outcome State Fault Refusal :=
  .next (s.transact sent copyDiffers 0#16 extra env)

/-- HOST_READ (R544): bit i of `late` says that word i is not ready when it is due (R545). `copyDiffers`: at the agreement stage, which
the read enters like a write (R35, R351), one copy differs from the other two (R352). -/
def execHostRead (sent : List Byte) (late : BitVec 16) (extra copyDiffers : Bool) (env : HostEnv) (s : State) :
    Host.Outcome State Fault Refusal :=
  .next (s.transact sent copyDiffers late extra env)

/-- HOST_STATUS (R546). -/
def execHostStatus (extra : Bool) (s : State) : Host.Outcome State Fault Refusal :=
  .next (s.transact [0x05#8] false 0#16 extra ⟨0, 0, 0, false, false, 0#2⟩)

/-- HOST_CS_EARLY_RISE (R547): the transaction is discarded. -/
def execHostCsEarlyRise (s : State) : Host.Outcome State Fault Refusal :=
  .next (if s.life = .run then State.framing { s with host := { s.host with reply := [] } } 2 else s)

end Sys2Proof.Machine
end

