-- ==== Sys2Proof/Machine/Dispatch.lean ====
section
/-! DEFINITION. One arm per command, each a direct call of its meaning. -/

namespace Sys2Proof.Machine

/-- The effect of a command on everything but the queue. -/
def exec (i : Instr) (s : State) : Host.Outcome State Fault Refusal :=
  match i with
  | .hostWrite sent extra copyDiffers env => Sys2Proof.Machine.execHostWrite sent extra copyDiffers env s
  | .hostRead sent late extra copyDiffers env => Sys2Proof.Machine.execHostRead sent late extra copyDiffers env s
  | .hostStatus extra => Sys2Proof.Machine.execHostStatus extra s
  | .hostCsEarlyRise => Sys2Proof.Machine.execHostCsEarlyRise s
  | .registerWrite addr value env => Sys2Proof.Machine.execRegisterWrite addr value env s
  | .rootEpoch aligned wrong extra => Sys2Proof.Machine.execRootEpoch aligned wrong extra s
  | .pllSwitch => Sys2Proof.Machine.execPllSwitch s
  | .refLoss => Sys2Proof.Machine.execRefLoss s
  | .holdoverLimit => Sys2Proof.Machine.execHoldoverLimit s
  | .refReturn => Sys2Proof.Machine.execRefReturn s
  | .pllBoth => Sys2Proof.Machine.execPllBoth s
  | .bridgeToPll a b => Sys2Proof.Machine.execBridgeToPll a b s
  | .powerOn => Sys2Proof.Machine.execPowerOn s
  | .auxHigh present => Sys2Proof.Machine.execAuxHigh present s
  | .auxLow present => Sys2Proof.Machine.execAuxLow present s
  | .auxFail => Sys2Proof.Machine.execAuxFail s
  | .holdupStart => Sys2Proof.Machine.execHoldupStart s
  | .holdupEnd => Sys2Proof.Machine.execHoldupEnd s
  | .holdupRecover => Sys2Proof.Machine.execHoldupRecover s
  | .scrubPass bad => Sys2Proof.Machine.execScrubPass bad s
  | .tileSwap lane tile good => Sys2Proof.Machine.execTileSwap lane tile good s
  | .tileCompareRunEnd => Sys2Proof.Machine.execTileCompareRunEnd s
  | .tileRepair => Sys2Proof.Machine.execTileRepair s
  | .goldenReload good => Sys2Proof.Machine.execGoldenReload good s
  | .readback => Sys2Proof.Machine.execReadback s
  | .readbackDone bad golden => Sys2Proof.Machine.execReadbackDone bad golden s
  | .envQuery lsb => Sys2Proof.Machine.execEnvQuery lsb s
  | .sdmResult n bitsA bitsB gateEdge copyDiffers cycle => Sys2Proof.Machine.execSdmResult n bitsA bitsB gateEdge copyDiffers cycle s
  | .streamStuck n => Sys2Proof.Machine.execStreamStuck n s
  | .sdmCmpOutput n bitsA bitsB => Sys2Proof.Machine.execSdmCmpOutput n bitsA bitsB s
  | .sdmResRead n => Sys2Proof.Machine.execSdmResRead n s
  | .dclResult bitsA codes => Sys2Proof.Machine.execDclResult bitsA codes s
  | .dclThresholdCross t chB mv => Sys2Proof.Machine.execDclThresholdCross t chB mv s
  | .sdmSpareAssign n => Sys2Proof.Machine.execSdmSpareAssign n s
  | .sdmSpareTakeover n => Sys2Proof.Machine.execSdmSpareTakeover n s
  | .quadEdge k a b cycle => Sys2Proof.Machine.execQuadEdge k a b cycle s
  | .illWindowEnd k => Sys2Proof.Machine.execIllWindowEnd k s
  | .indexEvent k illegal => Sys2Proof.Machine.execIndexEvent k illegal s
  | .speedZeroTimeout k => Sys2Proof.Machine.execSpeedZeroTimeout k s
  | .hallEdge k code cycle => Sys2Proof.Machine.execHallEdge k code cycle s
  | .resolverUpdate k shaft rate error steady cycle => Sys2Proof.Machine.execResolverUpdate k shaft rate error steady cycle s
  | .resMonitor k amplitude current limited => Sys2Proof.Machine.execResMonitor k amplitude current limited s
  | .resPhaseMeasure k phase => Sys2Proof.Machine.execResPhaseMeasure k phase s
  | .serFrameStart k sdaHigh cycle => Sys2Proof.Machine.execSerFrameStart k sdaHigh cycle s
  | .serFrameEnd k data crc parity sdaHigh => Sys2Proof.Machine.execSerFrameEnd k data crc parity sdaHigh s
  | .serTimeout k => Sys2Proof.Machine.execSerTimeout k s
  | .posAngleRead k cycle => Sys2Proof.Machine.execPosAngleRead k cycle s
  | .wireFault k pair => Sys2Proof.Machine.execWireFault k pair s
  | .wireRecover k => Sys2Proof.Machine.execWireRecover k s
  | .posPreset k edge => Sys2Proof.Machine.execPosPreset k edge s
  | .clearHomed k => Sys2Proof.Machine.execClearHomed k s
  | .posClearCounters k => Sys2Proof.Machine.execPosClearCounters k s
  | .taskTrigger t cycle => Sys2Proof.Machine.execTaskTrigger t cycle s
  | .triggerReady t => Sys2Proof.Machine.execTriggerReady t s
  | .taskDispatch wait cycle => Sys2Proof.Machine.execTaskDispatch wait cycle s
  | .nop => Sys2Proof.Machine.execNop s
  | .endTask => Sys2Proof.Machine.execEndTask s
  | .br cond target => Sys2Proof.Machine.execBr cond target s
  | .sig cond n => Sys2Proof.Machine.execSig cond n s
  | .setb a stride nmax => Sys2Proof.Machine.execSetb a stride nmax s
  | .sadd d a b => Sys2Proof.Machine.execSadd d a b s
  | .ssub d a b => Sys2Proof.Machine.execSsub d a b s
  | .smul d a b => Sys2Proof.Machine.execSmul d a b s
  | .smac d a b => Sys2Proof.Machine.execSmac d a b s
  | .smin d a b => Sys2Proof.Machine.execSmin d a b s
  | .smax d a b => Sys2Proof.Machine.execSmax d a b s
  | .sabs d a => Sys2Proof.Machine.execSabs d a s
  | .sneg d a => Sys2Proof.Machine.execSneg d a s
  | .smov d a => Sys2Proof.Machine.execSmov d a s
  | .sldi d x => Sys2Proof.Machine.execSldi d x s
  | .scmp a b => Sys2Proof.Machine.execScmp a b s
  | .ssel d cond a b => Sys2Proof.Machine.execSsel d cond a b s
  | .sclamp d a b e => Sys2Proof.Machine.execSclamp d a b e s
  | .swrap d a => Sys2Proof.Machine.execSwrap d a s
  | .sdiv d a b => Sys2Proof.Machine.execSdiv d a b s
  | .ssqrt d a => Sys2Proof.Machine.execSsqrt d a s
  | .ssincos d a => Sys2Proof.Machine.execSsincos d a s
  | .satan2 d a b => Sys2Proof.Machine.execSatan2 d a b s
  | .vadd d a b => Sys2Proof.Machine.execVadd d a b s
  | .vsub d a b => Sys2Proof.Machine.execVsub d a b s
  | .vmul d a b => Sys2Proof.Machine.execVmul d a b s
  | .vmac d a b => Sys2Proof.Machine.execVmac d a b s
  | .vscl d a b => Sys2Proof.Machine.execVscl d a b s
  | .vbcast d a => Sys2Proof.Machine.execVbcast d a s
  | .vins d e a => Sys2Proof.Machine.execVins d e a s
  | .vext d a e => Sys2Proof.Machine.execVext d a e s
  | .vclamp d a b e => Sys2Proof.Machine.execVclamp d a b e s
  | .vint d a b e shift dir => Sys2Proof.Machine.execVint d a b e shift dir s
  | .ipre d a mask => Sys2Proof.Machine.execIpre d a mask s
  | .vdot d a b => Sys2Proof.Machine.execVdot d a b s
  | .vld d maddr ind => Sys2Proof.Machine.execVld d maddr ind s
  | .vst d maddr ind => Sys2Proof.Machine.execVst d maddr ind s
  | .mvm d a maddr ind rows doff => Sys2Proof.Machine.execMvm d a maddr ind rows doff s
  | .mvma d a maddr ind rows doff => Sys2Proof.Machine.execMvma d a maddr ind rows doff s
  | .vmov d a => Sys2Proof.Machine.execVmov d a s
  | .inPort d slot port => Sys2Proof.Machine.execInPort d slot port s
  | .inv d slot port => Sys2Proof.Machine.execInv d slot port s
  | .outPort slot port a => Sys2Proof.Machine.execOutPort slot port a s
  | .outv slot port a => Sys2Proof.Machine.execOutv slot port a s
  | .ldp d k => Sys2Proof.Machine.execLdp d k s
  | .ldpv d k => Sys2Proof.Machine.execLdpv d k s
  | .taskAbort => Sys2Proof.Machine.execTaskAbort s
  | .carvePreset t => Sys2Proof.Machine.execCarvePreset t s
  | .carveClearStats t => Sys2Proof.Machine.execCarveClearStats t s
  | .paramWrite k value => Sys2Proof.Machine.execParamWrite k value s
  | .carveInRead slot port => Sys2Proof.Machine.execCarveInRead slot port s
  | .carveEccSweep fixed byRead => Sys2Proof.Machine.execCarveEccSweep fixed byRead s
  | .profStep n interval => Sys2Proof.Machine.execProfStep n interval s
  | .profHold n => Sys2Proof.Machine.execProfHold n s
  | .profResume n => Sys2Proof.Machine.execProfResume n s
  | .presetInput n => Sys2Proof.Machine.execPresetInput n s
  | .profValueRead n => Sys2Proof.Machine.execProfValueRead n s
  | .slalomJob n half cycle => Sys2Proof.Machine.execSlalomJob n half cycle s
  | .rotStart n => Sys2Proof.Machine.execRotStart n s
  | .rotWindowEnd n cycle => Sys2Proof.Machine.execRotWindowEnd n cycle s
  | .rotResultRead n => Sys2Proof.Machine.execRotResultRead n s
  | .pwmBoundary n => Sys2Proof.Machine.execPwmBoundary n s
  | .pwmMid n => Sys2Proof.Machine.execPwmMid n s
  | .pwmCompareEvent n src down mirror => Sys2Proof.Machine.execPwmCompareEvent n src down mirror s
  | .commitDeadline n => Sys2Proof.Machine.execCommitDeadline n s
  | .pwmCommit n point late => Sys2Proof.Machine.execPwmCommit n point late s
  | .pwmLoadall => Sys2Proof.Machine.execPwmLoadall s
  | .pwmSync => Sys2Proof.Machine.execPwmSync s
  | .pwmClearStats => Sys2Proof.Machine.execPwmClearStats s
  | .syncIssue => Sys2Proof.Machine.execSyncIssue s
  | .deadTimeEnd n outB => Sys2Proof.Machine.execDeadTimeEnd n outB s
  | .minpulseStretchEnd n outB => Sys2Proof.Machine.execMinpulseStretchEnd n outB s
  | .interlockRelease k => Sys2Proof.Machine.execInterlockRelease k s
  | .ilockWindowEnd => Sys2Proof.Machine.execIlockWindowEnd s
  | .tripRequest => Sys2Proof.Machine.execTripRequest s
  | .forcedTurnOn n outB => Sys2Proof.Machine.execForcedTurnOn n outB s
  | .tripRelease mask => Sys2Proof.Machine.execTripRelease mask s
  | .tripDeassert g => Sys2Proof.Machine.execTripDeassert g s
  | .tripinFilterDone n high => Sys2Proof.Machine.execTripinFilterDone n high s
  | .blankWindowEnd n => Sys2Proof.Machine.execBlankWindowEnd n s
  | .tripinInject n cls => Sys2Proof.Machine.execTripinInject n cls s
  | .tripinInjectEnd n => Sys2Proof.Machine.execTripinInjectEnd n s
  | .chopRequestRelease aMv bMv => Sys2Proof.Machine.execChopRequestRelease aMv bMv s
  | .chopVerify mv => Sys2Proof.Machine.execChopVerify mv s
  | .downlinkFrame n good changed => Sys2Proof.Machine.execDownlinkFrame n good changed s
  | .uplinkFrame n good sns => Sys2Proof.Machine.execUplinkFrame n good sns s
  | .linkCrcWindowEnd n => Sys2Proof.Machine.execLinkCrcWindowEnd n s
  | .linkLoss n => Sys2Proof.Machine.execLinkLoss n s
  | .holdoff n => Sys2Proof.Machine.execHoldoff n s
  | .linkAutoRetrain n => Sys2Proof.Machine.execLinkAutoRetrain n s
  | .skewCalPass n measured resid refine => Sys2Proof.Machine.execSkewCalPass n measured resid refine s
  | .edgeSelftest n => Sys2Proof.Machine.execEdgeSelftest n s
  | .edgeRetrain n => Sys2Proof.Machine.execEdgeRetrain n s
  | .edgePark n => Sys2Proof.Machine.execEdgePark n s
  | .edgeUnpark n => Sys2Proof.Machine.execEdgeUnpark n s
  | .edgeClearStats n => Sys2Proof.Machine.execEdgeClearStats n s
  | .groomerPark n elapsed => Sys2Proof.Machine.execGroomerPark n elapsed s
  | .edgeInject n det cls => Sys2Proof.Machine.execEdgeInject n det cls s
  | .edgeMeasUpdate n m => Sys2Proof.Machine.execEdgeMeasUpdate n m s
  | .measRead n => Sys2Proof.Machine.execMeasRead n s
  | .supUv n vpos vneg => Sys2Proof.Machine.execSupUv n vpos vneg s
  | .gateUv n gn ns => Sys2Proof.Machine.execGateUv n gn ns s
  | .outFault n gn => Sys2Proof.Machine.execOutFault n gn s
  | .scHard n sns => Sys2Proof.Machine.execScHard n sns s
  | .oc n sns => Sys2Proof.Machine.execOc n sns s
  | .desat n ds => Sys2Proof.Machine.execDesat n ds s
  | .protectionBlankEnd n ns => Sys2Proof.Machine.execProtectionBlankEnd n ns s
  | .softOffPhase1End n gn => Sys2Proof.Machine.execSoftOffPhase1End n gn s
  | .stoTimeExpiry n ns => Sys2Proof.Machine.execStoTimeExpiry n ns s
  | .softOffEnd n gn => Sys2Proof.Machine.execSoftOffEnd n gn s
  | .protectionFlag n => Sys2Proof.Machine.execProtectionFlag n s
  | .protectionHoldRelease n => Sys2Proof.Machine.execProtectionHoldRelease n s
  | .selftestStep n det inject assertNs releaseNs quietNs => Sys2Proof.Machine.execSelftestStep n det inject assertNs releaseNs quietNs s
  | .arm n => Sys2Proof.Machine.execArm n s
  | .start n => Sys2Proof.Machine.execStart n s
  | .stop n => Sys2Proof.Machine.execStop n s
  | .resume n => Sys2Proof.Machine.execResume n s
  | .disarm n => Sys2Proof.Machine.execDisarm n s
  | .recover n => Sys2Proof.Machine.execRecover n s
  | .restart n => Sys2Proof.Machine.execRestart n s
  | .charge n => Sys2Proof.Machine.execCharge n s
  | .discharge n => Sys2Proof.Machine.execDischarge n s
  | .catchDeadline n => Sys2Proof.Machine.execCatchDeadline n s
  | .catchEpisodeEnd n => Sys2Proof.Machine.execCatchEpisodeEnd n s
  | .standstill n => Sys2Proof.Machine.execStandstill n s
  | .glideTimeout n => Sys2Proof.Machine.execGlideTimeout n s
  | .ovTrip2Release => Sys2Proof.Machine.execOvTrip2Release s
  | .dischargePhase1Timeout n => Sys2Proof.Machine.execDischargePhase1Timeout n s
  | .dischargePhase2Timeout n => Sys2Proof.Machine.execDischargePhase2Timeout n s
  | .sourceOk => Sys2Proof.Machine.execSourceOk s
  | .sourceLost => Sys2Proof.Machine.execSourceLost s
  | .ctrFbChange high => Sys2Proof.Machine.execCtrFbChange high s
  | .parkInChange high => Sys2Proof.Machine.execParkInChange high s
  | .closeTimeExpiry => Sys2Proof.Machine.execCloseTimeExpiry s
  | .settleExpiry => Sys2Proof.Machine.execSettleExpiry s
  | .rampTimeout => Sys2Proof.Machine.execRampTimeout s
  | .openTimeExpiry => Sys2Proof.Machine.execOpenTimeExpiry s
  | .laneFault point index j1 j2 j3 differ parity path => Sys2Proof.Machine.execLaneFault point index j1 j2 j3 differ parity path s
  | .triadWarmReset => Sys2Proof.Machine.execTriadWarmReset s
  | .sweepEnd => Sys2Proof.Machine.execSweepEnd s
  | .laneRejoin cycles wasRead => Sys2Proof.Machine.execLaneRejoin cycles wasRead s
  | .resyncTimeout => Sys2Proof.Machine.execResyncTimeout s
  | .triadInject target cls => Sys2Proof.Machine.execTriadInject target cls s
  | .triadClearStats => Sys2Proof.Machine.execTriadClearStats s
  | .causeClassify => Sys2Proof.Machine.execCauseClassify s
  | .escWindowEnd e => Sys2Proof.Machine.execEscWindowEnd e s
  | .clearF4 => Sys2Proof.Machine.execClearF4 s
  | .clearFirst => Sys2Proof.Machine.execClearFirst s
  | .frictionOn => Sys2Proof.Machine.execFrictionOn s
  | .frictionOff => Sys2Proof.Machine.execFrictionOff s
  | .wdogKick key ms => Sys2Proof.Machine.execWdogKick key ms s
  | .hostWdog => Sys2Proof.Machine.execHostWdog s
  | .taskStall n => Sys2Proof.Machine.execTaskStall n s
  | .supWdog => Sys2Proof.Machine.execSupWdog s
  | .supWdogReset => Sys2Proof.Machine.execSupWdogReset s
  | .patrolInject cls => Sys2Proof.Machine.execPatrolInject cls s
  | .injectWindowEnd ctrl pass => Sys2Proof.Machine.execInjectWindowEnd ctrl pass s
  | .injectTimeout ctrl => Sys2Proof.Machine.execInjectTimeout ctrl s
  | .clsQuery group bit => Sys2Proof.Machine.execClsQuery group bit s
  | .patrolFirstRead => Sys2Proof.Machine.execPatrolFirstRead s
  | .hkaTimerTick q => Sys2Proof.Machine.execHkaTimerTick q s
  | .hkaPwmTrigger => Sys2Proof.Machine.execHkaPwmTrigger s
  | .hkaStart mask => Sys2Proof.Machine.execHkaStart mask s
  | .hkaClearStats => Sys2Proof.Machine.execHkaClearStats s
  | .hkaDelayEnd q checkDue => Sys2Proof.Machine.execHkaDelayEnd q checkDue s
  | .hkaConversionEnd q code => Sys2Proof.Machine.execHkaConversionEnd q code s
  | .hkaCheckEnd q ref zero => Sys2Proof.Machine.execHkaCheckEnd q ref zero s
  | .checkStarved q => Sys2Proof.Machine.execCheckStarved q s
  | .hkaIdlePowerDown q => Sys2Proof.Machine.execHkaIdlePowerDown q s
  | .trackerWindowEnd k => Sys2Proof.Machine.execTrackerWindowEnd k s
  | .trackerSumRead k => Sys2Proof.Machine.execTrackerSumRead k s
  | .tdacWrite code => Sys2Proof.Machine.execTdacWrite code s
  | .hkaInject cls => Sys2Proof.Machine.execHkaInject cls s
  | .hkaSpareTakeover => Sys2Proof.Machine.execHkaSpareTakeover s
  | .auxMeasure code => Sys2Proof.Machine.execAuxMeasure code s
  | .railExcursion rail band => Sys2Proof.Machine.execRailExcursion rail band s
  | .midCmd n => Sys2Proof.Machine.execMidCmd n s
  | .midDone rs ld lq dAngle => Sys2Proof.Machine.execMidDone rs ld lq dAngle s
  | .midAbort => Sys2Proof.Machine.execMidAbort s
  | .cable n => Sys2Proof.Machine.execCable n s
  | .cableLegDone span delays => Sys2Proof.Machine.execCableLegDone span delays s
  | .peers => Sys2Proof.Machine.execPeers s
  | .probeAbort => Sys2Proof.Machine.execProbeAbort s
  | .probeInject cls => Sys2Proof.Machine.execProbeInject cls s
  | .groomBist target inRange => Sys2Proof.Machine.execGroomBist target inRange s
  | .groomBistDone verdict => Sys2Proof.Machine.execGroomBistDone verdict s
  | .returnLane target => Sys2Proof.Machine.execReturnLane target s
  | .resetBaseline target => Sys2Proof.Machine.execResetBaseline target s
  | .groomInject cls => Sys2Proof.Machine.execGroomInject cls s
  | .rowReplaced row ce lost => Sys2Proof.Machine.execRowReplaced row ce lost s
  | .sectorMarked bank sector ce verify => Sys2Proof.Machine.execSectorMarked bank sector ce verify s
  | .pllSpareTestEnd ok => Sys2Proof.Machine.execPllSpareTestEnd ok s
  | .groomRecordWrite ok => Sys2Proof.Machine.execGroomRecordWrite ok s
  | .ethSpareBringIn => Sys2Proof.Machine.execEthSpareBringIn s
  | .resetNLow ns may => Sys2Proof.Machine.execResetNLow ns may s
  | .resetAssert src => Sys2Proof.Machine.execResetAssert src s
  | .resetRelease => Sys2Proof.Machine.execResetRelease s
  | .rstWarm key => Sys2Proof.Machine.execRstWarm key s
  | .rstSystem key => Sys2Proof.Machine.execRstSystem key s
  | .rstBlock block key => Sys2Proof.Machine.execRstBlock block key s
  | .blockDone => Sys2Proof.Machine.execBlockDone s
  | .coldLift env => Sys2Proof.Machine.execColdLift env s
  | .bistConditionRecheck env => Sys2Proof.Machine.execBistConditionRecheck env s
  | .warmLift env => Sys2Proof.Machine.execWarmLift env s
  | .resetHoldEstimateTimeout n => Sys2Proof.Machine.execResetHoldEstimateTimeout n s
  | .rstLogSelect index => Sys2Proof.Machine.execRstLogSelect index s
  | .ppsInEdge after => Sys2Proof.Machine.execPpsInEdge after s
  | .servoMeasurement offset => Sys2Proof.Machine.execServoMeasurement offset s
  | .referenceLoss => Sys2Proof.Machine.execReferenceLoss s
  | .ppsOutPulse => Sys2Proof.Machine.execPpsOutPulse s
  | .timeSet => Sys2Proof.Machine.execTimeSet s
  | .syncArm => Sys2Proof.Machine.execSyncArm s
  | .syncCancel => Sys2Proof.Machine.execSyncCancel s
  | .timeSyncFire => Sys2Proof.Machine.execTimeSyncFire s
  | .timeNowRead after => Sys2Proof.Machine.execTimeNowRead after s
  | .ppsInRead => Sys2Proof.Machine.execPpsInRead s
  | .timeInject cls => Sys2Proof.Machine.execTimeInject cls s
  | .portLinkChange p link errs => Sys2Proof.Machine.execPortLinkChange p link errs s
  | .switchFrame p frame => Sys2Proof.Machine.execSwitchFrame p frame s
  | .gptpFrame p kind => Sys2Proof.Machine.execGptpFrame p kind s
  | .qbvCommit port => Sys2Proof.Machine.execQbvCommit port s
  | .qbvBankSwitch p => Sys2Proof.Machine.execQbvBankSwitch p s
  | .beaconSend => Sys2Proof.Machine.execBeaconSend s
  | .beaconReceive p frame => Sys2Proof.Machine.execBeaconReceive p frame s
  | .masterLost => Sys2Proof.Machine.execMasterLost s
  | .cycleStart k stamps => Sys2Proof.Machine.execCycleStart k stamps s
  | .cycleReceive p frame ingress residence => Sys2Proof.Machine.execCycleReceive p frame ingress residence s
  | .reportSend => Sys2Proof.Machine.execReportSend s
  | .reportDeadline => Sys2Proof.Machine.execReportDeadline s
  | .reportReceive p frame => Sys2Proof.Machine.execReportReceive p frame s
  | .delayReqSend p => Sys2Proof.Machine.execDelayReqSend p s
  | .delayReqReceive p frame turn => Sys2Proof.Machine.execDelayReqReceive p frame turn s
  | .delayRespReceive p frame span => Sys2Proof.Machine.execDelayRespReceive p frame span s
  | .schedule => Sys2Proof.Machine.execSchedule s
  | .schedCancel => Sys2Proof.Machine.execSchedCancel s
  | .scheduleReceive p frame => Sys2Proof.Machine.execScheduleReceive p frame s
  | .capsRequest => Sys2Proof.Machine.execCapsRequest s
  | .capsSend => Sys2Proof.Machine.execCapsSend s
  | .capsReceive p frame => Sys2Proof.Machine.execCapsReceive p frame s
  | .folisAggRead => Sys2Proof.Machine.execFolisAggRead s
  | .netInject cls => Sys2Proof.Machine.execNetInject cls s
  | .canInitClear c => Sys2Proof.Machine.execCanInitClear c s
  | .canInitSet c => Sys2Proof.Machine.execCanInitSet c s
  | .canConfigEntry c => Sys2Proof.Machine.execCanConfigEntry c s
  | .canIntegrationDone c => Sys2Proof.Machine.execCanIntegrationDone c s
  | .canTxReq c b => Sys2Proof.Machine.execCanTxReq c b s
  | .canTxAbort c b => Sys2Proof.Machine.execCanTxAbort c b s
  | .canTxSelect c => Sys2Proof.Machine.execCanTxSelect c s
  | .txDone c tdcv ns => Sys2Proof.Machine.execTxDone c tdcv ns s
  | .canTxError c kind dataPhase noDominant => Sys2Proof.Machine.execCanTxError c kind dataPhase noDominant s
  | .canRestart c => Sys2Proof.Machine.execCanRestart c s
  | .recovered c => Sys2Proof.Machine.execRecovered c s
  | .canClearStats c => Sys2Proof.Machine.execCanClearStats c s
  | .canFrameReceived c frame resRecessive ns => Sys2Proof.Machine.execCanFrameReceived c frame resRecessive ns s
  | .canRxRead c f => Sys2Proof.Machine.execCanRxRead c f s
  | .canRxPop c f => Sys2Proof.Machine.execCanRxPop c f s
  | .canInject c cls => Sys2Proof.Machine.execCanInject c cls s
  | .causeClear grp mask => Sys2Proof.Machine.execCauseClear grp mask s
  | .intInject grp mask => Sys2Proof.Machine.execIntInject grp mask s
  | .irqEdgeReleaseEnd => Sys2Proof.Machine.execIrqEdgeReleaseEnd s
  | .challenge => Sys2Proof.Machine.execChallenge s
  | .auth => Sys2Proof.Machine.execAuth s
  | .enrol => Sys2Proof.Machine.execEnrol s
  | .ownerNext => Sys2Proof.Machine.execOwnerNext s
  | .rotate => Sys2Proof.Machine.execRotate s
  | .transfer => Sys2Proof.Machine.execTransfer s
  | .releaseToken => Sys2Proof.Machine.execReleaseToken s
  | .lockToken => Sys2Proof.Machine.execLockToken s
  | .unlockToken => Sys2Proof.Machine.execUnlockToken s
  | .ckLoad => Sys2Proof.Machine.execCkLoad s
  | .floor => Sys2Proof.Machine.execFloor s
  | .testToken => Sys2Proof.Machine.execTestToken s
  | .debug => Sys2Proof.Machine.execDebug s
  | .attest => Sys2Proof.Machine.execAttest s
  | .readCert => Sys2Proof.Machine.execReadCert s
  | .readKey slot => Sys2Proof.Machine.execReadKey slot s
  | .closeTest => Sys2Proof.Machine.execCloseTest s
  | .closeDebug => Sys2Proof.Machine.execCloseDebug s
  | .nonceExpiry => Sys2Proof.Machine.execNonceExpiry s
  | .testSessionExpiry => Sys2Proof.Machine.execTestSessionExpiry s
  | .debugSessionExpiry => Sys2Proof.Machine.execDebugSessionExpiry s
  | .storeCheck fixed lost => Sys2Proof.Machine.execStoreCheck fixed lost s
  | .trngFail => Sys2Proof.Machine.execTrngFail s
  | .trngRecover => Sys2Proof.Machine.execTrngRecover s
  | .randomRead => Sys2Proof.Machine.execRandomRead s
  | .himetInject cls => Sys2Proof.Machine.execHimetInject cls s
  | .usbAttach configured hs => Sys2Proof.Machine.execUsbAttach configured hs s
  | .usbDetach => Sys2Proof.Machine.execUsbDetach s
  | .infoOp tag good => Sys2Proof.Machine.execInfoOp tag good s
  | .beginOp tag payload moved => Sys2Proof.Machine.execBeginOp tag payload moved s
  | .dataOp tag offset payload moved written => Sys2Proof.Machine.execDataOp tag offset payload moved written s
  | .svcEnd tag moved written => Sys2Proof.Machine.execSvcEnd tag moved written s
  | .svcAbort via => Sys2Proof.Machine.execSvcAbort via s
  | .confirm via => Sys2Proof.Machine.execConfirm via s
  | .rollback via => Sys2Proof.Machine.execRollback via s
  | .armLocal via payload => Sys2Proof.Machine.execArmLocal via payload s
  | .svcCancel via => Sys2Proof.Machine.execSvcCancel via s
  | .svcStatus tag => Sys2Proof.Machine.execSvcStatus tag s
  | .activationInstant => Sys2Proof.Machine.execActivationInstant s
  | .postponedSwap => Sys2Proof.Machine.execPostponedSwap s
  | .migrated => Sys2Proof.Machine.execMigrated s
  | .trialStartSuccess => Sys2Proof.Machine.execTrialStartSuccess s
  | .autoRollback => Sys2Proof.Machine.execAutoRollback s
  | .streamChange n cycle => Sys2Proof.Machine.execStreamChange n cycle s
  | .receiveError c kind dataPhase by8 => Sys2Proof.Machine.execReceiveError c kind dataPhase by8 s
  | .retrainEnd n ok => Sys2Proof.Machine.execRetrainEnd n ok s
  | .selftestTimeout n => Sys2Proof.Machine.execSelftestTimeout n s
  | .himetOperationEnd storeOk => Sys2Proof.Machine.execHimetOperationEnd storeOk s
  | .gptpTimeout p announce => Sys2Proof.Machine.execGptpTimeout p announce s
  | .gptpMessageSend kind => Sys2Proof.Machine.execGptpMessageSend kind s
  | .ppsOutFall => Sys2Proof.Machine.execPpsOutFall s
  | .debugLinkRise => Sys2Proof.Machine.execDebugLinkRise s
  | .supervisorReport => Sys2Proof.Machine.execSupervisorReport s

end Sys2Proof.Machine
end

