-- ==== Sys2Proof/Machine/Step.lean ====
section
/-! DEFINITION. A step: the command that waits at the front of the queue takes effect. -/

namespace Sys2Proof.Machine

/-- One step of the block: the command at the front of the queue acts on the state with the rest of the queue. With no command waiting,
the Carve engine issues the instruction that stands at its program address (R164, R166), and idles where it has none. -/
def step (s : State) : Host.Outcome State Fault Refusal :=
  match s.pending with
  | [] =>
    match s.fetched with
    | some c => exec c s
    | none => .next s
  | c :: rest => exec c { s with pending := rest }

/-- `s` with the command that a word spells at the front of its queue; `s` itself where the word spells none. -/
def State.withFetchWord (s : State) (nbits w : Nat) : State :=
  match Sys2Proof.decodeTableWord nbits w with
  | some c => { s with pending := c :: s.pending }
  | none => s

end Sys2Proof.Machine
end

