-- ==== Sys2Proof/Machine/Contacts.lean ====
section
/-! DEFINITION. What the module drives on its contacts, as the state shows it (R41, R49, R50, R58, R254, R341, R482, R538, R574). The
levels that it receives come as operands of commands. -/

namespace Sys2Proof.Machine

/-- What the module does with a contact: a weak pull-up, low, high, a running clock, a signal of its block, high impedance, 120 Ω across
its pair, 50 µA into it or out of it (R409), released to a pull-up outside, and for a gate 10 kΩ to Kn, the negative rail, the positive rail or a level in mV between them
(R286). -/
inductive Contact where
  | pullUp | low | high | clock | signal | highZ | terminated | released | kelvin | negative | positive
  | level (mv : Int)
  | sourced | sunk
deriving DecidableEq, Repr

/-- SAFE_N (R49): pulled low, or released to the pull-up outside. -/
def State.safeNContact (s : State) : Contact := if s.safeNHigh then .released else .low

/-- FRICTION_REQ (R50): released asks for friction braking, low withdraws the request. -/
def State.frictionReqContact (s : State) : Contact := if s.frictionContact then .released else .low

/-- IRQ_N (R58, R549). -/
def State.irqNContact (s : State) : Contact := if s.irqAsserted then .low else .released

/-- HOST_IO0 to HOST_IO3 between transactions (R58, R538); the bytes of a return phase are those of `host.reply`. -/
def State.hostIoContact (_ : State) : Contact := .pullUp

/-- The 3.3 V inputs (R58): RESET_N, HOST_SCK, HOST_CS_N, CANx_RX, the Hall inputs, SDXj_DAT, TRIP0 to TRIP15, PPS_IN and the inputs of the
debug port keep their pull-ups, since no field of the course or of a register takes them off. -/
def State.logicInContact (_ : State) : Contact := .pullUp

/-- AINj (R58, R409): 50 µA into it or out of it while a pass stands at an entry of this input with an open-wire current. DESIGN CHOICE (log
entry 101): the hold instant at which the current ends is no command, so the contact shows the current until the entry's result. -/
def State.ainContact (s : State) (j : Fin 32) : Contact :=
  let on (ow : Nat) : Bool := (List.finRange 8).any (fun q =>
    let x := s.hka.seqs[q]
    decide (x.phase = .pass) && decide (s.get (Reg.HKA.SEQ.ENTRY.INPUT q.val x.entry) = j.val) &&
      decide (s.get (Reg.HKA.SEQ.ENTRY.OW q.val x.entry) = ow))
  if on 1 && !on 2 then .sourced else if on 2 && !on 1 then .sunk else .highZ

/-- POSk_SIN and COS, REF_IN and SVC_VBUS (R58). -/
def State.analogInContact (_ : State) : Contact := .highZ

/-- The RS-422 inputs of POSk (R47, R58, R158): pair 0 A, 1 B, 2 Z, 3 SDA; a pair that the mode uses takes its termination from L5 on. -/
def State.rs422Contact (s : State) (k : Fin 4) (pair : Fin 4) : Contact :=
  if 5 ≤ s.rst.stage ∧ s.pairUsed k pair.val = true ∧ s.flag (Reg.POS.CH.CFG.TERM k.val) = true then .terminated else .pullUp

/-- POSk_SCK (R47, R58, R146): driven in the serial modes. -/
def State.sckContact (s : State) (k : Fin 4) : Contact :=
  if 5 ≤ s.rst.stage ∧ (s.posMode k = 4 ∨ s.posMode k = 5) then .signal else .pullUp

/-- The CDM bit that the module sends on POSk_SCK in BiSS-C (R146). -/
def State.cdmBit (_ : State) (_ : Fin 4) : Bool := false

/-- CANc_TX (R58, R518 to R520, R533): at its pull-up in CONFIG, driven recessive where the controller sends nothing. -/
def State.canTxContact (s : State) (c : Fin 2) : Contact :=
  let st := s.canState c
  if s.life ≠ .run ∨ st = 0 then .pullUp
  else if st = 1 ∨ 4 ≤ st ∨ s.canMode c = 2 ∨ s.canMode c = 3 then .high
  else .signal

/-- GPIOk (R58, R341): CTR_OUT of a course that charges is driven from L5 on, low to close the contactor. -/
def State.gpioContact (s : State) (k : Fin 16) : Contact :=
  if 5 ≤ s.rst.stage ∧ s.courseActive = true ∧ s.get Reg.DRIVE.CHG.CFG.TOPO ≠ 0 ∧ s.get Reg.DRIVE.CHG.CFG.CTR_OUT = k.val then
    (if s.chg.ctrLow then .low else .high)
  else .pullUp

/-- SDXj_CLK (R58, R99): from the end of L5 it toggles at CLK_MOD where an enabled filter takes stream 64 + j. -/
def State.sdxClkContact (s : State) (j : Fin 16) : Contact :=
  if 5 ≤ s.rst.stage ∧ (List.range 48).any (fun n => s.flag (Reg.SDM.F.CFG.ENABLE n) &&
      (decide (s.get (Reg.SDM.F.CFG.INPUT_A n) = 64 + j.val) || decide (s.get (Reg.SDM.F.CFG.INPUT_B n) = 64 + j.val))) = true then .clock
  else .pullUp

/-- REF_OUT (R31, R58, R458): to its pull-up until L4, in a WARM reset until W3. -/
def State.refOutContact (s : State) : Contact :=
  if !s.clk.rootRuns || decide (s.rst.stage < 4) then .pullUp else if s.flag Reg.CLK.CTRL.REF_OUT_EN then .clock else .low

/-- PPS_OUT (R58, R482). -/
def State.ppsOutContact (s : State) : Contact :=
  if s.life ≠ .run then .pullUp else if s.time.ppsOut then .high else .low

/-- DBG_TDO (R58, R574): driven only while a debug session is open, in a lift from the stage on at which the session halts it. -/
def State.dbgTdoContact (s : State) : Contact := if s.himet.level = 0 ∨ s.rst.stage < 2 then .pullUp else .signal

/-- POSk_EXC (R58, R142): from L5 on, excitation runs where the interface is a resolver. -/
def State.excContact (s : State) (k : Fin 4) : Contact := if 5 ≤ s.rst.stage ∧ s.posMode k = 3 then .signal else .highZ

/-- ETHp (R58): the PHY of a port in use runs after host enable. -/
def State.ethContact (s : State) (p : Fin 3) : Contact :=
  if s.life = .run ∧ s.flag (Reg.NET.PORT.CFG.ENABLE p.val) = true then .signal else .highZ

/-- SVC_DP (R58, R584): attached through 1.5 kΩ while USB is not DETACHED. -/
def State.svcDpContact (s : State) : Contact := if s.life = .run ∧ s.get Reg.SVC.STATUS.USB ≠ 0 then .pullUp else .highZ

/-- SVC_DM (R58): the module adds nothing to it beyond its packets. -/
def State.svcDmContact (_ : State) : Contact := .highZ

/-- Gn (R41, R58, R254, R272, R286): to Kn through 10 kΩ without a supply and while parked, else to the rail that the output stage commands; a
supplied domain under its hold-off is off. -/
def State.gateContact (s : State) (n : Fin 64) : Contact :=
  if !(s.edge n).powered then .kelvin
  else match (s.edge n).out with
    | .on => .positive
    | .soft1 | .soft2 => .level (s.softLevel n)
    | .soft3 => .negative
    | .off => .negative
    | .parked => .kelvin

end Sys2Proof.Machine
end

