-- ==== Sys2Proof/Safety.lean ====
section
/-! DEFINITION. What counts as a safe module, in the terms that claims use: the canonical form of what is stored, the outputs of an
interlock pair, and what a command leaves as it was. -/

namespace Sys2Proof.Machine

/-- A command runs from `s`: it answers a next state, and that state is as `post` says. -/
def Runs (c : Instr) (s : State) (post : State → Prop) : Prop := ∃ t, exec c s = .next t ∧ post t

/-- The stored registers and the marks of the causes stand in canonical form: keys strictly rising, nothing listed that an unlisted
key reads as anyway. -/
def State.stored (s : State) : Prop :=
  cellWf resetOf s.regs = true ∧ cellWf (fun _ => 0#32) s.shadowMarks = true ∧ cellWf (fun _ => 0#32) s.liveMarks = true

/-- No two outputs of an interlock pair of the course drive their gates on together (R236). -/
def State.noShootThrough (s : State) : Prop :=
  ∀ p ∈ s.course.interlocks,
    ¬ ((if p.outX = 0 then (s.leg (Fin.ofNat 32 p.legX)).liveA else (s.leg (Fin.ofNat 32 p.legX)).liveB) = true ∧
       (if p.outY = 0 then (s.leg (Fin.ofNat 32 p.legY)).liveA else (s.leg (Fin.ofNat 32 p.legY)).liveB) = true)

/-- `s` with everything that the setting of causes may move taken from `t`: registers, marks, settings that wait for Patrol, the
release of IRQ_N (R551) and the requests to the trip network (R240). -/
def State.causesFrom (s t : State) : State :=
  { s with
    regs := t.regs
    shadowMarks := t.shadowMarks
    liveMarks := t.liveMarks
    toClassify := t.toClassify
    host := { s.host with irqReleased := t.host.irqReleased }
    trip := { s.trip with reqs := t.trip.reqs } }

/-- A command that brings a value through the agreement stage acts as its median does, and a copy that differs is counted before (R351,
R352). -/
def State.agreesOn (s : State) : Instr → Prop
  | .dclResult b v => exec (.dclResult b v) s = exec (.dclResult b ⟨v.value, false⟩) (s.agreeFix v.differs)
  | .taskTrigger n v => exec (.taskTrigger n v) s = exec (.taskTrigger n ⟨v.value, false⟩) (s.agreeFix v.differs)
  | .tripinFilterDone n v => exec (.tripinFilterDone n v) s = exec (.tripinFilterDone n ⟨v.value, false⟩) (s.agreeFix v.differs)
  | .edgeMeasUpdate n v => exec (.edgeMeasUpdate n v) s = exec (.edgeMeasUpdate n ⟨v.value, false⟩) (s.agreeFix v.differs)
  | .hkaConversionEnd q v => exec (.hkaConversionEnd q v) s = exec (.hkaConversionEnd q ⟨v.value, false⟩) (s.agreeFix v.differs)
  | .gptpFrame p v => exec (.gptpFrame p v) s = exec (.gptpFrame p ⟨v.value, false⟩) (s.agreeFix v.differs)
  | .beaconReceive p v => exec (.beaconReceive p v) s = exec (.beaconReceive p ⟨v.value, false⟩) (s.agreeFix v.differs)
  | .cycleReceive p v n r => exec (.cycleReceive p v n r) s = exec (.cycleReceive p ⟨v.value, false⟩ n r) (s.agreeFix v.differs)
  | .reportReceive p v => exec (.reportReceive p v) s = exec (.reportReceive p ⟨v.value, false⟩) (s.agreeFix v.differs)
  | .delayReqReceive p v n => exec (.delayReqReceive p v n) s = exec (.delayReqReceive p ⟨v.value, false⟩ n) (s.agreeFix v.differs)
  | .delayRespReceive p v n => exec (.delayRespReceive p v n) s = exec (.delayRespReceive p ⟨v.value, false⟩ n) (s.agreeFix v.differs)
  | .scheduleReceive p v => exec (.scheduleReceive p v) s = exec (.scheduleReceive p ⟨v.value, false⟩) (s.agreeFix v.differs)
  | .capsReceive p v => exec (.capsReceive p v) s = exec (.capsReceive p ⟨v.value, false⟩) (s.agreeFix v.differs)
  | .canFrameReceived c v b n => exec (.canFrameReceived c v b n) s = exec (.canFrameReceived c ⟨v.value, false⟩ b n) (s.agreeFix v.differs)
  | _ => True

/-- No injection of a control is pending: none stands, or the one that stands has shown its result (R389, R396). -/
def State.noneRuns (s : State) (ctrl : Nat) : Bool := !(s.injAt ctrl).any (fun i => decide (i.seen ≠ 2))

/-- The injections with one more accepted (R396). -/
def State.withInj (s : State) (i : Inj) : List Inj := s.injs.filter (fun j => j.ctrl != i.ctrl) ++ [i]

/-- Every register but those listed reads as before. -/
def State.regsBut (l : List Nat) (s t : State) : Prop := ∀ a, a ∉ l → t.rd a = s.rd a

/-- The CAUSE words of some groups of the interrupt tree. -/
def causeWords (l : List Nat) : List Nat := l.map Reg.INT.GRP.CAUSE.addr

/-- The cycles of an instruction of Carve (R168); none for a command of the module. -/
def carveCycles : Instr → Option Nat
  | .nop | .sadd _ _ _ | .ssub _ _ _ | .smul _ _ _ | .smac _ _ _ | .smin _ _ _ | .smax _ _ _ | .sabs _ _ | .sneg _ _
  | .smov _ _ | .sldi _ _ | .scmp _ _ | .ssel _ _ _ _ | .sclamp _ _ _ _ | .swrap _ _ | .vadd _ _ _ | .vsub _ _ _
  | .vmul _ _ _ | .vmac _ _ _ | .vscl _ _ _ | .vbcast _ _ | .vins _ _ _ | .vext _ _ _ | .vclamp _ _ _ _ | .vint _ _ _ _ _ _
  | .ipre _ _ _ | .vld _ _ _ | .vst _ _ _ | .vmov _ _ | .inPort _ _ _ | .outPort _ _ _ | .ldp _ _ | .sig _ _ | .endTask => some 1
  | .br _ _ | .setb _ _ _ | .vdot _ _ _ | .inv _ _ _ | .outv _ _ _ | .ldpv _ _ => some 2
  | .ssincos _ _ => some 6
  | .ssqrt _ _ | .satan2 _ _ _ => some 8
  | .sdiv _ _ _ => some 10
  | .mvm _ _ _ _ rows _ | .mvma _ _ _ _ rows _ => some (rows.val + 1)
  | _ => none

/-- `s` after a Carve instruction of `cyc` cycles that writes Sd (R163, R164, R168): nothing else moves but ARITH, which an exception
sets, the program address and the cycle count. -/
def State.scalarTo (s : State) (cyc : Nat) (d : Fin 64) (r : FRes) : State :=
  { s with carve := { s.carve with
      s := s.carve.s.set d r.val, fl := { s.carve.fl with arith := s.carve.fl.arith || r.exc }
      pc := s.carve.pc + 1, cycles := s.carve.cycles + cyc } }

/-- `s` after a Carve instruction of `cyc` cycles that writes Vd and is no VCLAMP (R168): the saturation masks of Vd clear. -/
def State.vectorTo (s : State) (cyc : Nat) (d : Fin 32) (r : Fin 16 → FRes) : State :=
  { s with carve := { s.carve with
      v := s.carve.v.set d (Vector.ofFn (fun i => (r i).val))
      sathi := s.carve.sathi.set d 0#16, satlo := s.carve.satlo.set d 0#16
      fl := { s.carve.fl with arith := s.carve.fl.arith || (List.finRange 16).any (fun i => (r i).exc) }
      pc := s.carve.pc + 1, cycles := s.carve.cycles + cyc } }

/-- Bit d of the detail causes of an edge channel (R281). -/
def State.edgeBit (s : State) (n : Fin 64) (d : Nat) : Bool := (s.rd (Reg.EDGE.CH.CAUSE.addr n.val)).getLsbD d

/-- A refused edge command: STATE_DENIED in CMD_STATUS and as detail cause, the channels as before (R279, R387). -/
def State.edgeRefused (s t : State) (n : Fin 64) : Prop :=
  t.get (Reg.EDGE.CH.CMD_STATUS.CODE n.val) = codeDenied ∧ t.edgeBit n 18 = true ∧ t.edges = s.edges

/-- The window value x of filter n (R104 to R107): the difference of its two windows, the second 0 without INPUT_B; none while one of
them is not full. -/
def State.filterX (s : State) (n : Fin 48) (bitsA bitsB : List Bool) : Option Rat :=
  let order := s.get (Reg.SDM.F.CFG.ORDER n.val) + 1
  let d := s.get (Reg.SDM.F.DEC.D n.val)
  let k := s.meanCount (s.get (Reg.SDM.F.CFG.MODE n.val)) d s.sdm[n].ch.trig
  match if (s.inputs n.val).1 = 127 then none else sdmWindow order d k bitsA,
    if (s.inputs n.val).2 = 127 then some 0 else sdmWindow order d k bitsB with
  | some a, some b => some (a - b)
  | _, _ => none

/-- The window value of PHV channel i (R105, R119). -/
def State.phvX (s : State) (i : Fin 12) (bits : List Bool) : Option Rat :=
  sdmWindow 3 (s.get Reg.SDM.PHV_CFG.DEC) (s.meanCount (s.get Reg.SDM.PHV_CFG.MODE) (s.get Reg.SDM.PHV_CFG.DEC) s.phv[i].trig) bits

/-- The window value of DCL_A (R105, R120). -/
def State.dclX (s : State) (bits : List Bool) : Option Rat :=
  sdmWindow 3 (s.get Reg.SDM.DCL_CFG.DEC) (s.meanCount (s.get Reg.SDM.DCL_CFG.MODE) (s.get Reg.SDM.DCL_CFG.DEC) s.dcl.a.trig) bits

/-- An output of the comparator filter of filter n in result units (R113, R114); none without full windows. -/
def State.cmpY (s : State) (n : Fin 48) (bitsA bitsB : List Bool) : Option Ext :=
  let order := s.get (Reg.SDM.F.CMP_CFG.CORDER n.val) + 1
  let d := s.get (Reg.SDM.F.CMP_CFG.CDEC n.val)
  match if (s.inputs n.val).1 = 127 then none else sdmWindow order d (some 1) bitsA,
    if (s.inputs n.val).2 = 127 then some 0 else sdmWindow order d (some 1) bitsB with
  | some a, some b => some ((Ext.of (s.rd (Reg.SDM.F.GAIN.addr n.val))).mul
      ((Ext.num (a - b)).sub (Ext.of (s.rd (Reg.SDM.F.OFFSET.addr n.val)))))
  | _, _ => none

/-- A slot takes its commands: no reset hold and no task of Probe owns it, and neither the course nor the migration has failed (R86, R307,
R426, R469, R596). -/
def State.commandable (s : State) (i : Fin 4) : Bool := !s.trip.resetHold.getLsbD i.val && !s.probed i && !s.driveHeld

/-- A drive command was accepted (R14, R307). -/
def State.driveOk (t : State) (i : Fin 4) : Prop := t.get (Reg.DRIVE.SLOT.CMD_STATUS.CODE i.val) = codeOk

/-- A refused drive command: STATE_DENIED in CMD_STATUS and as cause, slots, legs and trip lines as before (R307). -/
def State.driveRefused (s t : State) (i : Fin 4) : Prop :=
  t.get (Reg.DRIVE.SLOT.CMD_STATUS.CODE i.val) = codeDenied ∧ t.causeSet ⟨34 + i.val, 13⟩ = true ∧
    t.slots = s.slots ∧ t.legs = s.legs ∧ t.trip.slotLines = s.trip.slotLines ∧ t.edges = s.edges

/-- A slot has moved from the state that STATE showed to another, with its transition cause set (R302, R308, R334). -/
def State.slotMoved (s t : State) (i : Fin 4) (st : SlotState) (r : Reason) : Prop :=
  (t.slot i).state = st ∧ (t.slot i).prev = (s.slot i).state ∧ (t.slot i).reason = r ∧ (t.slot i).pendEntry = none ∧
    t.causeSet ⟨34 + i.val, 0⟩ = true

/-- A Folis frame of type `ty` that port p accepts: Folis runs there, its header keeps R496, it is of this domain and not shorter
than its type (R495, R496). -/
def State.folisAccepts (s : State) (p : Fin 3) (frame : List Byte) (ty : Nat) (m : FolisMsg) : Prop :=
  s.folisOn p.val = true ∧ folisMsg frame = some m ∧ m.dom = s.get Reg.NET.FOLIS.DOMAIN.val ∧ m.ty = ty ∧
    folisPlen ty ≤ m.body.length

/-- A frame of the module's own has left at port p. -/
def State.sentOwn (t : State) (p : Fin 3) : Prop := ∃ f, NetOut.own p.val f ∈ t.net.out

/-- A port sends without gate control (R492). -/
def State.ungated (s : State) (p : Fin 3) : Bool := !s.flag (Reg.NET.PORT.QBV_CTRL.ENABLE p.val)

/-- The power stage and the control that feeds it are as before: slots, legs, channels, trip lines, chopper, charging, the engine, the
modulator and the profiles, what senses and measures, course and fabric, and whether the module runs. Requests that wait for the trip
network may have come (R240). -/
def State.powerStage (s t : State) : Prop :=
  t.slots = s.slots ∧ t.legs = s.legs ∧ t.edges = s.edges ∧ t.tripIns = s.tripIns ∧ { t.trip with reqs := s.trip.reqs } = s.trip ∧
    t.chop = s.chop ∧ t.chg = s.chg ∧ t.carve = s.carve ∧ t.slalom = s.slalom ∧ t.prof = s.prof ∧ t.sdm = s.sdm ∧ t.phv = s.phv ∧
    t.dcl = s.dcl ∧ t.pos = s.pos ∧ t.course = s.course ∧ t.piste = s.piste ∧ t.life = s.life

/-- The commands of time, network, Folis and CAN, but for the epoch of the root clock and the instant of an armed SYNC, which act on
the judges and on the legs. -/
def communicates : Instr → Bool
  | .ppsInEdge _ | .servoMeasurement _ | .referenceLoss | .ppsOutPulse | .ppsOutFall | .timeSet | .syncArm | .syncCancel
  | .timeNowRead _ | .ppsInRead | .timeInject _ => true
  | .portLinkChange _ _ _ | .switchFrame _ _ | .gptpFrame _ _ | .gptpTimeout _ _ | .gptpMessageSend _ | .qbvCommit _
  | .qbvBankSwitch _ => true
  | .beaconSend | .beaconReceive _ _ | .masterLost | .cycleStart _ _ | .cycleReceive _ _ _ _ | .reportSend | .reportDeadline
  | .reportReceive _ _ | .delayReqSend _ | .delayReqReceive _ _ _ | .delayRespReceive _ _ _ | .schedule | .schedCancel
  | .scheduleReceive _ _ | .capsRequest | .capsSend | .capsReceive _ _ | .folisAggRead | .netInject _ => true
  | .canInitClear _ | .canInitSet _ | .canConfigEntry _ | .canIntegrationDone _ | .canTxReq _ _ | .canTxAbort _ _ | .canTxSelect _
  | .txDone _ _ _ | .canTxError _ _ _ _ | .canRestart _ | .recovered _ | .canClearStats _ | .canFrameReceived _ _ _ _
  | .canRxRead _ _ | .canRxPop _ _ | .canInject _ _ | .receiveError _ _ _ _ => true
  | _ => false

/-- The commands that inspect, authenticate, identify and update, apart from those that may assert a reset. -/
def inspects : Instr → Bool
  | .challenge | .auth | .enrol | .ownerNext | .rotate | .transfer | .releaseToken | .lockToken | .unlockToken | .ckLoad | .floor
  | .testToken | .attest | .readCert | .readKey _ | .closeTest | .nonceExpiry | .testSessionExpiry | .trngFail | .trngRecover
  | .randomRead | .himetInject _ => true
  | .usbAttach _ _ | .usbDetach | .infoOp _ _ | .beginOp _ _ _ | .dataOp _ _ _ _ _ | .svcEnd _ _ _ | .svcAbort _ | .confirm _
  | .rollback _ | .armLocal _ _ | .svcCancel _ | .svcStatus _ | .activationInstant | .postponedSwap | .migrated
  | .trialStartSuccess | .autoRollback => true
  | .peers | .probeInject _ => true
  | .intInject _ _ | .irqEdgeReleaseEnd | .hostStatus _ | .hostCsEarlyRise | .clsQuery _ _ | .patrolFirstRead | .clearFirst
  | .wdogKick _ _ | .supWdog | .supervisorReport | .rstLogSelect _ | .envQuery _ | .profValueRead _ | .rotResultRead _
  | .carveInRead _ _ | .measRead _ | .trackerSumRead _ | .posAngleRead _ _ => true
  | _ => false

end Sys2Proof.Machine
end

