-- ==== Sys2Proof/Certificates/Slice0/Obligations.lean ====
section
/-! DEFINITION. The statements about the model, from the numbered rules of the spec. -/

open Sys2Proof Sys2Proof.Machine

set_option linter.unusedVariables false

/-- PLL_SWITCH with the active PLL locked, the other locked and no bridging moves ACTIVE to the other, drops the lock of the lost one and sets PLL_SWITCH; with the root running and the other under an on-demand test the root bridges with both locks clear and PLL_BOTH set, and the failure waits for the end of the test; in any other case it changes nothing. REF_LOSS with REF_OK = 1 and no SHADOW window at that detector clears REF_OK, sets HOLDOVER and the cause. HOLDOVER_LIMIT in holdover sets its cause. REF_RETURN with the root running sets REF_OK and clears HOLDOVER. PLL_BOTH with the root running and no bridging yet clears both locks, sets BRIDGE and the cause. BRIDGE_TO_PLL moves the root to A if it qualifies, else to B, and sets no PLL_SWITCH. PLL_SPARE_TEST_END ends the test, and its lock bit reads the verdict. AUX_HIGH and AUX_LOW take note whether AUX_IN stands outside the band and set their cause when it does; AUX_FAIL sets its cause; HOLDUP_START and HOLDUP_RECOVER start and end the hold-up and change no register; AUX_MEASURE stores AUX_IN; RAIL_EXCURSION stores the bit of its rail, sets RAIL_WARN on a new excursion and RAIL_FAIL beyond 6 %. Each of them answers a next state, for all operands. -/
def Obligations.ClockAndSupplyCommandsRun : Prop :=
  ∀ s : State,
    (s.flag (pllLock (s.get Reg.CLK.STATUS.ACTIVE)) = true → s.flag (pllLock (1 - s.get Reg.CLK.STATUS.ACTIVE)) = true →
      s.flag Reg.CLK.STATUS.BRIDGE = false → s.underTest (0x71 - s.get Reg.CLK.STATUS.ACTIVE) = false →
      Runs .pllSwitch s (fun t => t.get Reg.CLK.STATUS.ACTIVE = 1 - s.get Reg.CLK.STATUS.ACTIVE ∧
        t.flag (pllLock (s.get Reg.CLK.STATUS.ACTIVE)) = false ∧
        t.flag (pllLock (1 - s.get Reg.CLK.STATUS.ACTIVE)) = true ∧ t.causeSet ⟨46, 0⟩ = true)) ∧
    (s.flag Reg.CLK.STATUS.REF_OK = true → s.windowAt 0x0B 0 = false →
      Runs .refLoss s (fun t => t.get Reg.CLK.STATUS.REF_OK = 0 ∧ t.get Reg.CLK.STATUS.HOLDOVER = 1 ∧ t.causeSet ⟨46, 1⟩ = true)) ∧
    (s.flag Reg.CLK.STATUS.HOLDOVER = true → Runs .holdoverLimit s (fun t => t.causeSet ⟨46, 2⟩ = true)) ∧
    (s.clk.rootRuns = true →
      Runs .refReturn s (fun t => t.get Reg.CLK.STATUS.REF_OK = 1 ∧ t.get Reg.CLK.STATUS.HOLDOVER = 0)) ∧
    (s.clk.rootRuns = true → s.flag Reg.CLK.STATUS.BRIDGE = false →
      Runs .pllBoth s (fun t => t.get Reg.CLK.STATUS.PLLA_LOCK = 0 ∧ t.get Reg.CLK.STATUS.PLLB_LOCK = 0 ∧
        t.get Reg.CLK.STATUS.BRIDGE = 1 ∧ t.causeSet ⟨46, 3⟩ = true)) ∧
    (∀ a b : Bool, (a || b) = true → s.flag Reg.CLK.STATUS.BRIDGE = true →
      Runs (.bridgeToPll a b) s (fun t => t.get Reg.CLK.STATUS.BRIDGE = 0 ∧
        t.get Reg.CLK.STATUS.ACTIVE = (if a then 0 else 1) ∧ t.flag (pllLock (if a then 0 else 1)) = true ∧
        t.causeSet ⟨46, 0⟩ = s.causeSet ⟨46, 0⟩)) ∧
    (∀ (p : Nat) (ok : Bool), s.groom.pllTest = some p →
      Runs (.pllSpareTestEnd ok) s (fun t => t.groom.pllTest = none ∧
        t.flag (pllLock p) = ok)) ∧
    (∀ ok : Bool, s.groom.pllTest = none → exec (.pllSpareTestEnd ok) s = .next s) ∧
    ((s.flag (pllLock (s.get Reg.CLK.STATUS.ACTIVE)) && !s.flag Reg.CLK.STATUS.BRIDGE) = false ∨
      (s.underTest (0x71 - s.get Reg.CLK.STATUS.ACTIVE) = false ∧ s.flag (pllLock (1 - s.get Reg.CLK.STATUS.ACTIVE)) = false) ∨
      (s.underTest (0x71 - s.get Reg.CLK.STATUS.ACTIVE) = true ∧ s.clk.rootRuns = false) → exec .pllSwitch s = .next s) ∧
    (s.clk.rootRuns = true → s.flag (pllLock (s.get Reg.CLK.STATUS.ACTIVE)) = true → s.flag Reg.CLK.STATUS.BRIDGE = false →
      s.underTest (0x71 - s.get Reg.CLK.STATUS.ACTIVE) = true → Runs .pllSwitch s (fun t => t.flag Reg.CLK.STATUS.BRIDGE = true ∧
        t.get Reg.CLK.STATUS.PLLA_LOCK = 0 ∧ t.get Reg.CLK.STATUS.PLLB_LOCK = 0 ∧ t.causeSet ⟨46, 3⟩ = true ∧ t.groom.pllWait = true)) ∧
    (∀ a b : Bool, (a || b) = false ∨ s.flag Reg.CLK.STATUS.BRIDGE = false → exec (.bridgeToPll a b) s = .next s) ∧
    (s.windowAt 0x0B 0 = false → s.flag Reg.CLK.STATUS.REF_OK = false → exec .refLoss s = .next s) ∧
    (s.windowAt 0x0B 0 = true → Runs .refLoss s (fun t => t.regs = s.regs ∧ t.clk = s.clk)) ∧
    (s.flag Reg.CLK.STATUS.HOLDOVER = false → exec .holdoverLimit s = .next s) ∧
    (s.clk.rootRuns = false → exec .refReturn s = .next s) ∧
    (s.clk.rootRuns = false ∨ s.flag Reg.CLK.STATUS.BRIDGE = true → exec .pllBoth s = .next s) ∧
    (∀ p, Runs (.auxHigh p) s (fun t => t.supply.above36 = p ∧ t.supply.below16 = s.supply.below16 ∧
      t.causeSet ⟨44, 0⟩ = (p || s.causeSet ⟨44, 0⟩))) ∧
    (∀ p, Runs (.auxLow p) s (fun t => t.supply.below16 = p ∧ t.supply.above36 = s.supply.above36 ∧
      t.causeSet ⟨44, 1⟩ = (p || s.causeSet ⟨44, 1⟩))) ∧
    Runs .auxFail s (fun t => t.causeSet ⟨44, 2⟩ = true ∧ t.supply = s.supply) ∧
    Runs .holdupStart s (fun t => t.supply.holdup = true ∧ t.regs = s.regs) ∧
    Runs .holdupRecover s (fun t => t.supply.holdup = false ∧ t.regs = s.regs) ∧
    (∀ code, Runs (.auxMeasure code) s (fun t => t.get Reg.PROBE.SUPPLY.AUX = code.toNat)) ∧
    (∀ (rail : Fin 6) (band : Fin 3),
      Runs (.railExcursion rail band) s (fun t =>
        t.get ⟨Reg.PROBE.RAILS.addr, rail.val, 1⟩ = (if band.val = 0 then 0 else 1) ∧
        t.causeSet ⟨44, 3⟩ = (s.causeSet ⟨44, 3⟩ || (decide (band.val ≠ 0) && !s.flag ⟨Reg.PROBE.RAILS.addr, rail.val, 1⟩)) ∧
        t.causeSet ⟨44, 4⟩ = (s.causeSet ⟨44, 4⟩ || decide (band.val = 2))))

/-- For PLL_SWITCH, REF_LOSS, HOLDOVER_LIMIT, REF_RETURN, PLL_BOTH, BRIDGE_TO_PLL, PLL_SPARE_TEST_END, AUX_HIGH, AUX_LOW, AUX_FAIL, HOLDUP_START, HOLDUP_RECOVER, AUX_MEASURE and RAIL_EXCURSION: where the command answers a next state, every register reads as before but CLK.STATUS, CLK.EVENTS, GROOM.OP_TIME, PROBE.SUPPLY, PROBE.RAILS and the CAUSE words of the groups CLK (46), PROBE (44) and GROOM (5); of the rest of the state only Groomer, the supply comparators, pending injections (a note of Patrol's SHADOW window) and what the setting of causes moves may differ. -/
def Obligations.ClockAndSupplyFrame : Prop :=
  ∀ (c : Instr) (s t : State),
    (c ∈ [Instr.pllSwitch, .refLoss, .holdoverLimit, .refReturn, .pllBoth, .auxFail, .holdupStart, .holdupRecover] ∨
      (∃ a b, c = .bridgeToPll a b) ∨ (∃ ok, c = .pllSpareTestEnd ok) ∨ (∃ p, c = .auxHigh p ∨ c = .auxLow p) ∨
      (∃ code, c = .auxMeasure code) ∨ (∃ r b, c = .railExcursion r b)) →
    exec c s = .next t →
    s.regsBut ([Reg.CLK.STATUS.addr, Reg.CLK.EVENTS.addr, Reg.GROOM.OP_TIME.addr, Reg.PROBE.SUPPLY.addr, Reg.PROBE.RAILS.addr] ++
      causeWords [46, 44, 5]) t ∧
    t = { s.causesFrom t with groom := t.groom, supply := t.supply, injs := t.injs }

/-- SCRUB_PASS with an ACTIVE course counts the pass and ends the run of every tile that did not differ; a tile in use found to differ for the first or second pass in a row waits for its swap. Without one it does nothing. TILE_SWAP with a match counts a fix and sets SCRUB_FIX; without one the first free spare of the lane runs beside the tile, or SPARE_OUT and the lane is beyond repair; TILE_COMPARE_RUN_END marks the first replacement as compared; TILE_REPAIR puts the compared spare in place and sets TILE_REPAIR; GOLDEN_RELOAD sets GOLDEN_RELOAD, and COURSE_FAIL exactly when the reloaded frame fails (or it stood); READBACK is accepted with the course ACTIVE and no readback running, refused with STATE_DENIED otherwise; READBACK_DONE stores the mismatches and sets READBACK_DONE; ENV_QUERY shows the record of ENV_ADDR and the bit, or FOUND = 0 and zeros. -/
def Obligations.FabricCommandsRun : Prop :=
  ∀ s : State,
    (∀ bad : List (Fin 4 × Fin 136),
      (s.courseActive = true → bad.Nodup → Runs (.scrubPass bad) s (fun t =>
        t.get Reg.PISTE.SCRUB_CNT.PASSES = (s.get Reg.PISTE.SCRUB_CNT.PASSES + 1) % 65536 ∧
        t.get Reg.PISTE.SCRUB_CNT.FIXES = s.get Reg.PISTE.SCRUB_CNT.FIXES ∧
        (∀ (l : Fin 4) (k : Fin 136), (l, k) ∉ bad → cellGet (fun _ => 0#8) t.piste.runs (tileKey l.val k.val) = 0#8) ∧
        (∀ (l : Fin 4) (k : Fin 136), (l, k) ∈ bad → s.tileUsed l.val k.val = true → s.piste.repairs = [] →
          cellGet (fun _ => 0#8) s.piste.runs (tileKey l.val k.val) ≤ 1#8 → (l.val, k.val) ∈ t.piste.swaps))) ∧
      (s.courseActive = false → exec (.scrubPass bad) s = .next s)) ∧
    (∀ (l : Fin 4) (k : Fin 136) (good : Bool), s.piste.swaps.contains (l.val, k.val) = false →
      exec (.tileSwap l k good) s = .next s) ∧
    (∀ (l : Fin 4) (k : Fin 136), s.piste.swaps.contains (l.val, k.val) = true → Runs (.tileSwap l k false) s (fun t =>
      t.piste.swaps = s.piste.swaps.erase (l.val, k.val) ∧
      t.get Reg.PISTE.SCRUB_CNT.FIXES = s.get Reg.PISTE.SCRUB_CNT.FIXES ∧
      (s.freeSpares l.val = [] → t.piste.repairs = s.piste.repairs ∧ t.causeSet ⟨7, 2⟩ = true ∧ t.causeSet ⟨5, 2⟩ = true) ∧
      (∀ sp rest, s.freeSpares l.val = sp :: rest →
        t.piste.repairs = s.piste.repairs ++ [{ unit := ⟨l.val, k.val, sp⟩ }]))) ∧
    (∀ (l : Fin 4) (k : Fin 136), s.piste.swaps.contains (l.val, k.val) = true → Runs (.tileSwap l k true) s (fun t =>
      t.get Reg.PISTE.SCRUB_CNT.FIXES = min (s.get Reg.PISTE.SCRUB_CNT.FIXES + 1) 65535 ∧
      t.get Reg.PISTE.SCRUB_LAST.LANE = l.val ∧ t.get Reg.PISTE.SCRUB_LAST.TILE = k.val ∧ t.causeSet ⟨7, 0⟩ = true ∧
      t.piste.swaps = s.piste.swaps.erase (l.val, k.val))) ∧
    (∀ r rest, s.piste.repairs = r :: rest → s.repairHeld r = false → Runs .tileCompareRunEnd s (fun t =>
      t = { s with piste := { s.piste with repairs := { r with compared := true } :: rest } })) ∧
    (∀ r rest, s.piste.repairs = r :: rest → r.compared = true → s.repairHeld r = false → Runs .tileRepair s (fun t =>
      t.piste.repairs = rest ∧ t.piste.replaced = s.piste.replaced ++ [r.unit] ∧
      t.groom.live.tiles = s.groom.live.tiles ++ [r.unit] ∧ t.get Reg.PISTE.SCRUB_LAST.LANE = r.unit.lane % 4 ∧
      t.get Reg.PISTE.SCRUB_LAST.TILE = r.unit.tile % 256 ∧ t.causeSet ⟨7, 1⟩ = true)) ∧
    (s.piste.repairs = [] → exec .tileCompareRunEnd s = .next s ∧ exec .tileRepair s = .next s) ∧
    (∀ r rest, s.piste.repairs = r :: rest → r.compared = false ∨ s.repairHeld r = true → exec .tileRepair s = .next s) ∧
    (∀ r rest, s.piste.repairs = r :: rest → s.repairHeld r = true → exec .tileCompareRunEnd s = .next s) ∧
    (∀ good, Runs (.goldenReload good) s (fun t => t.causeSet ⟨7, 3⟩ = true ∧
      t.causeSet ⟨7, 6⟩ = (!good || s.causeSet ⟨7, 6⟩))) ∧
    (s.courseActive = true → s.flag Reg.PISTE.CMD_STATUS.BUSY = false → Runs .readback s (fun t =>
      t.get Reg.PISTE.CMD_STATUS.CODE = 1 ∧ t.flag Reg.PISTE.CMD_STATUS.BUSY = true)) ∧
    ((s.courseActive = false ∨ s.flag Reg.PISTE.CMD_STATUS.BUSY = true) → Runs .readback s (fun t =>
      t.get Reg.PISTE.CMD_STATUS.CODE = 2 ∧ t.flag Reg.PISTE.CMD_STATUS.BUSY = s.flag Reg.PISTE.CMD_STATUS.BUSY ∧
      t.causeSet ⟨7, 7⟩ = true)) ∧
    (∀ bad golden, s.flag Reg.PISTE.CMD_STATUS.BUSY = true → Runs (.readbackDone bad golden) s (fun t =>
      t.get Reg.PISTE.READBACK.MISMATCHES = (bad.length + golden) % 65536 ∧ t.flag Reg.PISTE.CMD_STATUS.BUSY = false ∧
      t.causeSet ⟨7, 4⟩ = true)) ∧
    (∀ bad golden, s.flag Reg.PISTE.CMD_STATUS.BUSY = false → exec (.readbackDone bad golden) s = .next s) ∧
    (∀ (b : BitVec 5) e, s.envOf (s.rd Reg.PISTE.ENV_ADDR.addr).toNat b.toNat = some e → Runs (.envQuery b) s (fun t =>
      t.get Reg.PISTE.ENV_INFO.FOUND = 1 ∧ t.get Reg.PISTE.ENV_INFO.TYPE = e.type % 4 ∧
      t.get Reg.PISTE.ENV_INFO.WIDTH = e.width % 64 ∧ t.rd Reg.PISTE.ENV_MIN.addr = e.min ∧ t.rd Reg.PISTE.ENV_MAX.addr = e.max)) ∧
    (∀ b : BitVec 5, s.envOf (s.rd Reg.PISTE.ENV_ADDR.addr).toNat b.toNat = none → Runs (.envQuery b) s (fun t =>
      t.rd Reg.PISTE.ENV_INFO.addr = 0#32 ∧ t.rd Reg.PISTE.ENV_MIN.addr = 0#32 ∧ t.rd Reg.PISTE.ENV_MAX.addr = 0#32))

/-- SDM_RESULT of an enabled filter whose result is due (FREE, or after its trigger) counts SEQ and sets NEW, VALID is 1 with full windows on inputs that deliver bits and 0 without, and full windows give RES = GAIN × (x − OFFSET) and RAW; a PHV channel likewise; nothing else forms one. SDM_CMP_OUTPUT of an enabled filter counts the outputs beyond each enabled threshold and asserts and releases each side; HI asserted sets its cause (EN_LO = 0, no SHADOW window). SDM_RES_READ latches INFO (RAW of a filter) of the last result and clears NEW. DCL_RESULT writes both results under one SEQ. DCL_THRESHOLD_CROSS judges the sinc2 with D = 8 of DCL_A or the conversion of DCL_B, notes on which side of its threshold the channel stands and sets the cause when it comes to stand crossed (OV_CHOP, OV_TRIP2, OV_TRIP3: either channel; UV_TRIP: both). STREAM_STUCK sets the bit of the stream and its cause, STREAM_CHANGE clears it while its link is up. SDM_SPARE_ASSIGN marks the filter faulty and takes a free spare, waits behind another bring-in or reports that none is left; SDM_SPARE_TAKEOVER after 16 results puts it in place, sets SPARE_IN and serves the filter that waits. A DCL_RESULT whose conversions differ in a copy is the generic clause of the lanes. -/
def Obligations.SensingCommandsRun : Prop :=
  ∀ s : State,
    (∀ (n : Fin 48) (bitsA bitsB : List Bool) (g d : Bool) (cycle : Nat), s.flag (Reg.SDM.F.CFG.ENABLE n.val) = true →
      s.sdm[n].ch.forms (s.get (Reg.SDM.F.CFG.MODE n.val)) = true →
      Runs (.sdmResult (Fin.ofNat 60 n.val) bitsA bitsB g d cycle) s (fun t =>
        t.sdm[n].ch.seq = s.sdm[n].ch.seq + 1#16 ∧ t.sdm[n].ch.new = true ∧ t.sdm[n].ch.trig.due = false ∧
        t.rd (Reg.SDM.F.RES.addr n.val) = t.sdm[n].ch.res ∧
        (s.filterX n bitsA bitsB = none → t.sdm[n].ch.valid = false) ∧
        (∀ x, s.filterX n bitsA bitsB = some x →
          t.sdm[n].ch.res = fMul (s.rd (Reg.SDM.F.GAIN.addr n.val)) (fSub (fOfRat x) (s.rd (Reg.SDM.F.OFFSET.addr n.val))) ∧
          t.sdm[n].ch.raw = rawOf x ∧ (s.sdm[n].ch.freshFrom = none → t.sdm[n].ch.valid = s.inputsOk n.val)))) ∧
    (∀ (i : Fin 12) (bitsA bitsB : List Bool) (g d : Bool) (cycle : Nat), s.flag Reg.SDM.PHV_CFG.ENABLE = true →
      s.phv[i].forms (s.get Reg.SDM.PHV_CFG.MODE) = true →
      Runs (.sdmResult (Fin.ofNat 60 (48 + i.val)) bitsA bitsB g d cycle) s (fun t =>
        t.phv[i].seq = s.phv[i].seq + 1#16 ∧ t.phv[i].new = true ∧ (s.phvX i bitsA = none → t.phv[i].valid = false) ∧
        ∀ x, s.phvX i bitsA = some x → (s.phv[i].freshFrom = none → t.phv[i].valid = true) ∧ t.phv[i].res = fMul 0x45160000#32 (fOfRat x) ∧ t.phv[i].raw = rawOf x)) ∧
    (∀ (n : Fin 60) (bitsA bitsB : List Bool) (g d : Bool) (cycle : Nat),
      (if n.val < 48 then s.flag (Reg.SDM.F.CFG.ENABLE n.val) &&
          s.sdm[sdmIdx n.val].ch.forms (s.get (Reg.SDM.F.CFG.MODE n.val))
        else s.flag Reg.SDM.PHV_CFG.ENABLE && s.phv[Fin.ofNat 12 (n.val - 48)].forms (s.get Reg.SDM.PHV_CFG.MODE)) = false →
      exec (.sdmResult n bitsA bitsB g d cycle) s = .next s) ∧
    (∀ (n : Fin 48) (bitsA bitsB : List Bool),
      (s.flag (Reg.SDM.F.CFG.ENABLE n.val) = true → Runs (.sdmCmpOutput n bitsA bitsB) s (fun t =>
        (s.flag (Reg.SDM.F.CMP_CFG.EN_HI n.val) = false → t.sdm[n].hi = false ∧ t.sdm[n].hiRun = 0) ∧
        (s.flag (Reg.SDM.F.CMP_CFG.EN_LO n.val) = false → t.sdm[n].lo = false ∧ t.sdm[n].loRun = 0) ∧
        ∀ y, s.cmpY n bitsA bitsB = some y →
          (s.flag (Reg.SDM.F.CMP_CFG.EN_HI n.val) = true →
            t.sdm[n].hiRun = (if (Ext.of (s.rd (Reg.SDM.F.CMP_HI.addr n.val))).lt y then min (s.sdm[n].hiRun + 1) 8 else 0) ∧
            t.sdm[n].hi = if s.sdm[n].hi then
                !y.lt ((Ext.of (s.rd (Reg.SDM.F.CMP_HI.addr n.val))).sub (Ext.of (s.rd (Reg.SDM.F.CMP_HYS.addr n.val))))
              else decide (s.get (Reg.SDM.F.CMP_CFG.CCOUNT n.val) < t.sdm[n].hiRun)) ∧
          (s.flag (Reg.SDM.F.CMP_CFG.EN_LO n.val) = true →
            t.sdm[n].loRun = (if y.lt (Ext.of (s.rd (Reg.SDM.F.CMP_LO.addr n.val))) then min (s.sdm[n].loRun + 1) 8 else 0) ∧
            t.sdm[n].lo = if s.sdm[n].lo then
                !((Ext.of (s.rd (Reg.SDM.F.CMP_LO.addr n.val))).add (Ext.of (s.rd (Reg.SDM.F.CMP_HYS.addr n.val)))).lt y
              else decide (s.get (Reg.SDM.F.CMP_CFG.CCOUNT n.val) < t.sdm[n].loRun)) ∧
          (s.flag (Reg.SDM.F.CMP_CFG.EN_LO n.val) = false → s.windowAt 1 n.val = false → s.sdm[n].hi = false →
            t.sdm[n].hi = true → t.causeSet (cmpCause n.val) = true))) ∧
      (s.flag (Reg.SDM.F.CFG.ENABLE n.val) = false → exec (.sdmCmpOutput n bitsA bitsB) s = .next s)) ∧
    (∀ n : Fin 48, Runs (.sdmResRead (Fin.ofNat 62 n.val)) s (fun t =>
      t.rd (Reg.SDM.F.INFO.addr n.val) = s.sdm[n].ch.info ∧ t.rd (Reg.SDM.F.RAW.addr n.val) = s.sdm[n].ch.raw.setWidth 32 ∧
      t.sdm[n].ch = { s.sdm[n].ch with new := false })) ∧
    (∀ i : Fin 12, Runs (.sdmResRead (Fin.ofNat 62 (48 + i.val))) s (fun t =>
      t.rd (Reg.SDM.PHV_INFO.addr i.val) = s.phv[i].info ∧ t.phv[i] = { s.phv[i] with new := false })) ∧
    Runs (.sdmResRead 60) s (fun t => t.rd Reg.SDM.DCL_A_INFO.addr = s.dcl.a.info ∧ t.dcl.a = { s.dcl.a with new := false }) ∧
    Runs (.sdmResRead 61) s (fun t => t.rd Reg.SDM.DCL_B_INFO.addr = s.dcl.b.info ∧ t.dcl.b = { s.dcl.b with new := false }) ∧
    (∀ (bitsA : List Bool) (codes : List (BitVec 12)),
      (s.flag Reg.SDM.DCL_CFG.ENABLE = true → s.dcl.a.forms (s.get Reg.SDM.DCL_CFG.MODE) = true →
        Runs (.dclResult bitsA ⟨codes, false⟩) s (fun t =>
          t.dcl.a.seq = s.dcl.a.seq + 1#16 ∧ t.dcl.b.seq = s.dcl.a.seq + 1#16 ∧
          (s.dclX bitsA = none → t.dcl.a.valid = false) ∧
          (s.dcl.a.freshFrom = none → t.dcl.a.valid = (s.dclX bitsA).isSome) ∧
          t.dcl.b.valid = !codes.isEmpty ∧ t.dcl.a.new = true ∧ t.dcl.b.new = true ∧
          (∀ x, s.dclX bitsA = some x → t.dcl.a.res = fMul 0x45160000#32 (fOfRat x)) ∧
          (codes ≠ [] → t.dcl.b.res = fOfRat (((((codes.map (·.toNat)).sum : Nat) : Rat) / (codes.length : Rat)) * 2400 / 4096)))) ∧
      ((s.flag Reg.SDM.DCL_CFG.ENABLE && s.dcl.a.forms (s.get Reg.SDM.DCL_CFG.MODE)) = false →
        exec (.dclResult bitsA ⟨codes, false⟩) s = .next s)) ∧
    (∀ (th : Fin 4) (chB : Bool) (obs : DclObs) (mv : Nat), (if chB then some (dclCodeMv obs.code) else dclBitsMv obs.bits) = some mv →
      s.trip.ovCopy = none → Runs (.dclThresholdCross th chB obs) s (fun t =>
      (if chB then t.dcl.nowB else t.dcl.nowA) = mv ∧
      (if chB then t.dcl.crossB else t.dcl.crossA).getLsbD th.val = s.dclAcross th mv ∧
      (if chB then t.dcl.crossA else t.dcl.crossB) = (if chB then s.dcl.crossA else s.dcl.crossB) ∧
      (s.dclAcross th mv = true → s.windowAt 3 th.val = false →
        (if th.val = 3 then (if chB then s.dcl.crossA else s.dcl.crossB).getLsbD 3 = true ∧
            (if chB then s.dcl.crossB else s.dcl.crossA).getLsbD 3 = false
          else s.dcl.crossA.getLsbD th.val = false ∧ s.dcl.crossB.getLsbD th.val = false) →
        t.causeSet ⟨22, if th.val = 3 then 5 else th.val + 1⟩ = true))) ∧
    (∀ (th : Fin 4) (obs : DclObs), dclBitsMv obs.bits = none → s.trip.ovCopy = none → Runs (.dclThresholdCross th false obs) s (fun t =>
      t.dcl.crossB = s.dcl.crossB ∧ t.dcl.nowB = s.dcl.nowB ∧
      ∀ k : Fin 4, k ≠ th → t.dcl.crossA.getLsbD k.val = s.dcl.crossA.getLsbD k.val)) ∧
    (∀ (th : Fin 4) (chB : Bool) (obs : DclObs) (mv v : Nat), (if chB then some (dclCodeMv obs.code) else dclBitsMv obs.bits) = some mv →
      s.trip.ovCopy = some v → (th.val ≠ 1 ∨ mv < v * 1000) → exec (.dclThresholdCross th chB obs) s = .next s) ∧
    (∀ n : Fin 80, Runs (.streamStuck n) s (fun t => t.flag (stuckFld n.val) = true ∧
      (s.flag (stuckFld n.val) = false → t.causeSet ⟨21, 18⟩ = true))) ∧
    (∀ (n : Fin 80) (cycle : Nat),
      (s.flag (stuckFld n.val) = true → 64 ≤ n.val ∨ (s.edges[Fin.ofNat 64 n.val]).linked = true →
        Runs (.streamChange n cycle) s (fun t => t.flag (stuckFld n.val) = false ∧ ∀ k : Fin 48,
          (s.inputs k.val).1 = n.val ∨ (s.inputs k.val).2 = n.val → t.sdm[k].ch.freshFrom = some cycle)) ∧
      (s.flag (stuckFld n.val) = false ∨ (n.val < 64 ∧ (s.edges[Fin.ofNat 64 n.val]).linked = false) →
        exec (.streamChange n cycle) s = .next s)) ∧
    (∀ n : Fin 48, let m := s.markFilter (s.groom.live.unitOf n.val) true;
      (s.sdm[n].spare.isSome = true ∨ s.groom.filterWait.contains n.val = true → exec (.sdmSpareAssign n) s = .next m) ∧
      (s.sdm[n].spare = none → s.groom.filterWait.contains n.val = false →
        (s.filterBusy = true → Runs (.sdmSpareAssign n) s (fun t =>
          t.groom = { m.groom with filterWait := s.groom.filterWait ++ [n.val] } ∧ t.sdm = s.sdm ∧ t.regs = s.regs)) ∧
        (∀ u rest, s.filterBusy = false → m.freeFilters = u :: rest → Runs (.sdmSpareAssign n) s (fun t =>
          t.groom = m.groom ∧ t.sdm = s.sdm.set n { s.sdm[n] with spare := some 0, beside := u } ∧
          (t.freeFilters.length < 8 → t.get Reg.SDM.SPARES.LEFT = t.freeFilters.length))) ∧
        (s.filterBusy = false → m.freeFilters = [] → Runs (.sdmSpareAssign n) s (fun t =>
          t.groom = m.groom ∧ t.sdm = s.sdm ∧ t.causeSet ⟨5, 2⟩ = true)))) ∧
    (∀ (n : Fin 48) (k : Nat), s.sdm[n].spare = some k →
      (16 ≤ k → Runs (.sdmSpareTakeover n) s (fun t => t.causeSet ⟨21, 20⟩ = true ∧ t.causeSet ⟨5, 0⟩ = true ∧
        t.groom.live.unitOf n.val = s.sdm[n].beside ∧ t.groom.live.badFilters = s.groom.live.badFilters ∧
        (s.groom.filterWait = [] → t.sdm = s.sdm.set n { s.sdm[n] with spare := none }) ∧
        ∀ m rest, s.groom.filterWait = m :: rest → (∀ j : Fin 48, j ≠ n → s.sdm[j].spare = none) → s.groom.bist = none →
          t.groom.filterWait = rest ∧ (t.causeSet ⟨5, 2⟩ = true ∨ t.sdm[sdmIdx m].spare = some 0))) ∧
      (k < 16 → exec (.sdmSpareTakeover n) s = .next s)) ∧
    (∀ n : Fin 48, s.sdm[n].spare = none → exec (.sdmSpareTakeover n) s = .next s)

/-- After SDM_RES_READ of a filter, INFO and RAW show the result that stood; an SDM_RESULT of any filter or PHV channel that comes next leaves both as they are; the next SDM_RES_READ of the same filter, with no result between, shows the same fields with NEW = 0. -/
def Obligations.LatchedResultStays : Prop :=
  ∀ (s t : State) (n : Fin 48), exec (.sdmResRead (Fin.ofNat 62 n.val)) s = .next t →
    t.rd (Reg.SDM.F.INFO.addr n.val) = s.sdm[n].ch.info ∧ t.rd (Reg.SDM.F.RAW.addr n.val) = s.sdm[n].ch.raw.setWidth 32 ∧
    (∀ (k : Fin 60) (bitsA bitsB : List Bool) (g d : Bool) (cycle : Nat) (u : State),
      exec (.sdmResult k bitsA bitsB g d cycle) t = .next u →
      u.rd (Reg.SDM.F.INFO.addr n.val) = t.rd (Reg.SDM.F.INFO.addr n.val) ∧
      u.rd (Reg.SDM.F.RAW.addr n.val) = t.rd (Reg.SDM.F.RAW.addr n.val)) ∧
    (∀ u, exec (.sdmResRead (Fin.ofNat 62 n.val)) t = .next u →
      u.rd (Reg.SDM.F.INFO.addr n.val) = ({ s.sdm[n].ch with new := false } : SdmCh).info)

/-- Every SDM_RESULT of an enabled filter that forms a result (in FREE mode always, else for a trigger whose result is due), with a full window or not and with its inputs delivering bits or not, leaves SEQ one higher modulo 2^16, in particular 0x0000 after 0xFFFF. -/
def Obligations.SequenceNumbersCountResults : Prop :=
  ∀ (s : State) (n : Fin 48) (bitsA bitsB : List Bool) (g d : Bool) (cycle : Nat),
    s.flag (Reg.SDM.F.CFG.ENABLE n.val) = true → s.sdm[n].ch.forms (s.get (Reg.SDM.F.CFG.MODE n.val)) = true →
    Runs (.sdmResult (Fin.ofNat 60 n.val) bitsA bitsB g d cycle) s (fun t =>
      t.sdm[n].ch.seq = s.sdm[n].ch.seq + 1#16 ∧ (s.sdm[n].ch.seq = 0xFFFF#16 → t.sdm[n].ch.seq = 0#16))

/-- In QUAD mode a sample in which one of A and B changes moves the count by exactly one and leaves ILLEGAL. A sample in which both change leaves the count, raises COUNTERS.ILLEGAL by one up to 0xFFFF and sets the cause ILLEGAL; when the illegal events of the window exceed ILLEGAL_LIMIT, it also sets ILL_LIMIT and clears VALID and HOMED, else HOMED stays. A sample without a change moves nothing, and so does any sample outside QUAD mode. The end of the window starts its count again. -/
def Obligations.QuadratureCounting : Prop :=
  ∀ (s : State) (k : Fin 4) (a b : Bool) (cycle : Nat),
    (s.posMode k ≠ 1 → exec (.quadEdge k a b cycle) s = .next s) ∧
    Runs (.illWindowEnd k) s (fun t => t.pos[k].illWin = 0 ∧ t.pos[k].cnt = s.pos[k].cnt) ∧ (s.posMode k = 1 →
    ((decide (s.pos[k].a ≠ a) != decide (s.pos[k].b ≠ b)) = true → Runs (.quadEdge k a b cycle) s (fun t =>
      (t.pos[k].cnt - s.pos[k].cnt).natAbs = 1 ∧ t.pos[k].a = a ∧ t.pos[k].b = b ∧
      t.get (Reg.POS.CH.COUNTERS.ILLEGAL k.val) = s.get (Reg.POS.CH.COUNTERS.ILLEGAL k.val))) ∧
    (s.pos[k].a ≠ a → s.pos[k].b ≠ b → Runs (.quadEdge k a b cycle) s (fun t =>
      t.pos[k].cnt = s.pos[k].cnt ∧ t.pos[k].pos = s.pos[k].pos ∧
      t.get (Reg.POS.CH.COUNTERS.ILLEGAL k.val) = min (s.get (Reg.POS.CH.COUNTERS.ILLEGAL k.val) + 1) 65535 ∧
      t.causeSet ⟨24 + k.val, 0⟩ = true ∧
      (s.get (Reg.POS.CH.LIMITS.ILLEGAL_LIMIT k.val) < s.pos[k].illWin + 1 →
        t.causeSet ⟨24 + k.val, 1⟩ = true ∧ t.posValid k = false ∧ t.pos[k].homed = false) ∧
      (s.pos[k].illWin + 1 ≤ s.get (Reg.POS.CH.LIMITS.ILLEGAL_LIMIT k.val) →
        t.causeSet ⟨24 + k.val, 1⟩ = s.causeSet ⟨24 + k.val, 1⟩ ∧ t.pos[k].homed = s.pos[k].homed))) ∧
    (s.pos[k].a = a → s.pos[k].b = b → exec (.quadEdge k a b cycle) s = .next s))

/-- INDEX_EVENT homes an unhomed interface at count 0, stores INDEX_DEV of a homed one and by INDEX_MODE reports, corrects by −INDEX_DEV within INDEX_TOL or takes HOMED, and does nothing in a sample with an illegal transition or off its levels; SPEED_ZERO_TIMEOUT zeroes the speed; HALL_EDGE takes the sector of a legal code and counts an illegal one as ILLEGAL; RESOLVER_UPDATE, RES_MONITOR and RES_PHASE_MEASURE store what they measured; SER_FRAME_START starts a frame or discards the trigger; SER_FRAME_END accepts a frame (BiSS-C with its CRC, SSI without parity) or discards it, each failure setting its cause, as it does one after which SDA is low, and SER_TIMEOUT with FRAME_ERR; POS_ANGLE_READ latches position and status; WIRE_FAULT on a used pair takes VALID and sets WIRE, WIRE_RECOVER lifts it; PRESET at rest takes the value (POS within the soft limits) with an edge of the same cycle and sets HOMED, in a slot not at rest it is refused with STATE_DENIED; CLEAR_HOMED and CLEAR_COUNTERS act always. A command for another mode changes nothing. -/
def Obligations.PositionCommandsRun : Prop :=
  ∀ (s : State) (k : Fin 4),
    let qual := s.pos[k].a = decide (s.get (Reg.POS.CH.INDEX.QUAL k.val) / 2 % 2 = 1) ∧
      s.pos[k].b = decide (s.get (Reg.POS.CH.INDEX.QUAL k.val) % 2 = 1)
    let dev := indexDev s.pos[k].cnt (s.posCpt k)
    let mode := s.get (Reg.POS.CH.INDEX.INDEX_MODE k.val)
    let tol := s.get (Reg.POS.CH.INDEX.INDEX_TOL k.val)
    (s.posMode k = 1 → s.pos[k].homed = false → qual → Runs (.indexEvent k false) s (fun t =>
        t.pos[k].cnt = 0 ∧ t.pos[k].homed = true ∧ (s.softMin k ≤ 0 → 0 ≤ s.softMax k → t.pos[k].pos = 0))) ∧
    (s.posMode k = 1 → s.pos[k].homed = true → qual → mode ≠ 0 → Runs (.indexEvent k false) s (fun t =>
      t.rd (Reg.POS.CH.INDEX_DEV.addr k.val) = BitVec.ofInt 32 dev ∧
      (dev = 0 → t.pos = s.pos) ∧
      (dev ≠ 0 → dev.natAbs ≤ tol → mode = 2 → t.pos[k].cnt = s.pos[k].cnt - dev ∧ t.causeSet ⟨24 + k.val, 5⟩ = true ∧
        (s.softMin k ≤ s.pos[k].pos - dev → s.pos[k].pos - dev ≤ s.softMax k → t.pos[k].pos = s.pos[k].pos - dev)) ∧
      (dev ≠ 0 → dev.natAbs ≤ tol → mode ≠ 2 → t.pos = s.pos ∧ t.causeSet ⟨24 + k.val, 4⟩ = true) ∧
      (tol < dev.natAbs → mode = 1 → t.pos = s.pos ∧ t.causeSet ⟨24 + k.val, 4⟩ = true) ∧
      (tol < dev.natAbs → mode = 2 → t.pos = s.pos ∧ t.causeSet ⟨24 + k.val, 6⟩ = true) ∧
      (tol < dev.natAbs → mode = 3 → t.pos[k].homed = false ∧ t.posValid k = false ∧ t.causeSet ⟨24 + k.val, 6⟩ = true))) ∧
    (∀ illegal : Bool, s.posMode k ≠ 1 ∨ illegal = true ∨ ¬ qual ∨ (s.pos[k].homed = true ∧ mode = 0) →
      exec (.indexEvent k illegal) s = .next s) ∧
    ((s.posMode k = 1 ∨ s.posMode k = 2) → Runs (.speedZeroTimeout k) s (fun t => t.pos[k].speed = f0)) ∧
    (s.posMode k ≠ 1 → s.posMode k ≠ 2 → exec (.speedZeroTimeout k) s = .next s) ∧
    (∀ (code : Fin 8) (sec cycle : Nat), s.posMode k = 2 → hallSector code.val = some sec →
      Runs (.hallEdge k code cycle) s (fun t => t.pos[k].hall = code.val ∧ t.pos[k].sector = sec ∧
        (s.pos[k].base = false → t.pos[k].base = true ∧ t.pos[k].cnt = s.pos[k].cnt) ∧
        (s.pos[k].base = true → (sec + 6 - s.pos[k].sector) % 6 = 1 ∨ (sec + 6 - s.pos[k].sector) % 6 = 5 →
          (t.pos[k].cnt - s.pos[k].cnt).natAbs = 1))) ∧
    (∀ (code : Fin 8) (cycle : Nat), s.posMode k = 2 → hallSector code.val = none →
      Runs (.hallEdge k code cycle) s (fun t => t.pos[k].cnt = s.pos[k].cnt ∧ t.causeSet ⟨24 + k.val, 3⟩ = true ∧
        t.get (Reg.POS.CH.COUNTERS.ILLEGAL k.val) = min (s.get (Reg.POS.CH.COUNTERS.ILLEGAL k.val) + 1) 65535)) ∧
    (∀ (code : Fin 8) (cycle : Nat), s.posMode k ≠ 2 → exec (.hallEdge k code cycle) s = .next s) ∧
    (∀ (shaft : BitVec 16) (rate error : Rat) (steady : Option Rat) (cycle : Nat),
      (s.posMode k = 3 → Runs (.resolverUpdate k shaft rate error steady cycle) s (fun t =>
        t.pos[k].loop = shaft - BitVec.ofInt 16 ((((steady.map (fun a => loopLag a (s.get (Reg.POS.CH.RES_CFG.BW k.val)))).getD
          error) * 65536 + 1 / 2).floor) ∧ t.pos[k].rate = rate ∧ t.pos[k].base = true ∧ t.pos[k].tstamp = cycle)) ∧
      (s.posMode k ≠ 3 → exec (.resolverUpdate k shaft rate error steady cycle) s = .next s)) ∧
    (∀ (amp cur : Rat) (lim : Bool), (s.posMode k = 3 → Runs (.resMonitor k amp cur lim) s (fun t => t.pos[k].amp = amp)) ∧
      (s.posMode k ≠ 3 → exec (.resMonitor k amp cur lim) s = .next s)) ∧
    (∀ ph : BitVec 16,
      (s.posMode k = 3 ∧ s.flag (Reg.POS.CH.RES_CFG.PHASE_AUTO k.val) = true ∧ s.posValid k = true ∧
        s.pos[k].amp * 2 < s.pos[k].amp7 →
        Runs (.resPhaseMeasure k ph) s (fun t => t.get (Reg.POS.CH.RES_PHASE.PHASE k.val) = ph.toNat)) ∧
      (s.posMode k ≠ 3 ∨ s.flag (Reg.POS.CH.RES_CFG.PHASE_AUTO k.val) = false ∨ s.posValid k = false ∨
        s.pos[k].amp7 ≤ s.pos[k].amp * 2 → exec (.resPhaseMeasure k ph) s = .next s)) ∧
    (∀ (sda : Bool) (cycle : Nat),
      ((s.posMode k = 4 ∨ s.posMode k = 5) → s.pos[k].frameRun = false → sda = true →
        Runs (.serFrameStart k sda cycle) s (fun t => t.pos[k].frameRun = true ∧
          t.pos[k].frameAt = cycle + s.get (Reg.POS.CH.SER_LAT.SENSOR_LAT k.val) * 3 / 10)) ∧
      ((s.posMode k = 4 ∨ s.posMode k = 5) → s.pos[k].frameRun = true ∨ sda = false →
        Runs (.serFrameStart k sda cycle) s (fun t => t.pos[k].frameRun = s.pos[k].frameRun ∧
          t.pos[k].errRun = s.pos[k].errRun + 1 ∧ t.causeSet ⟨24 + k.val, 10⟩ = true)) ∧
      (s.posMode k ≠ 4 → s.posMode k ≠ 5 → exec (.serFrameStart k sda cycle) s = .next s)) ∧
    (∀ (data crc : Nat) (par : Bool), s.pos[k].frameRun = true → s.get (Reg.POS.CH.SER_CFG0.STATUS_BITS k.val) = 0 →
      (s.posMode k = 4 ∧ s.flag (Reg.POS.CH.SER_CFG1.CRC_INV k.val) = false ∧
          crc % 2 ^ s.get (Reg.POS.CH.SER_CFG1.CRC_LEN k.val) =
            crcBits (s.get (Reg.POS.CH.SER_CFG1.CRC_LEN k.val)) (s.get (Reg.POS.CH.SER_CFG1.CRC_POLY k.val))
              (data % 2 ^ (s.get (Reg.POS.CH.SER_CFG0.MT_BITS k.val) + s.get (Reg.POS.CH.SER_CFG0.ST_BITS k.val)))
              (s.get (Reg.POS.CH.SER_CFG0.MT_BITS k.val) + s.get (Reg.POS.CH.SER_CFG0.ST_BITS k.val)) 0 ∨
        s.posMode k = 5 ∧ s.get (Reg.POS.CH.SER_CFG0.PARITY k.val) = 0 ∧ s.flag (Reg.POS.CH.SER_CFG0.GRAY k.val) = false) →
      Runs (.serFrameEnd k data crc par true) s (fun t => t.pos[k].frameRun = false ∧ t.pos[k].errRun = 0 ∧
        t.pos[k].lastFrame = some (data %
          2 ^ (s.get (Reg.POS.CH.SER_CFG0.MT_BITS k.val) + s.get (Reg.POS.CH.SER_CFG0.ST_BITS k.val))))) ∧
    (∀ (data crc : Nat) (par sda : Bool), (s.posMode k = 4 ∨ s.posMode k = 5) → s.pos[k].frameRun = true →
      Runs (.serFrameEnd k data crc par sda) s (fun t => t.pos[k].frameRun = false ∧
        ((sda = true ∧ t.pos[k].errRun = 0 ∧ t.pos[k].lastFrame.isSome = true) ∨
          (t.pos[k].errRun = s.pos[k].errRun + 1 ∧ t.pos[k].cnt = s.pos[k].cnt ∧ (sda = false → t.causeSet ⟨24 + k.val, 10⟩ = true) ∧
            (t.causeSet ⟨24 + k.val, 10⟩ = true ∨ t.causeSet ⟨24 + k.val, 11⟩ = true ∨
              t.causeSet ⟨24 + k.val, 12⟩ = true))))) ∧
    (∀ (data crc : Nat) (par sda : Bool), s.posMode k = 4 → s.pos[k].frameRun = true → s.get (Reg.POS.CH.SER_CFG0.STATUS_BITS k.val) = 0 →
      s.flag (Reg.POS.CH.SER_CFG1.CRC_INV k.val) = false → 0 < s.get (Reg.POS.CH.SER_CFG1.CRC_LEN k.val) →
      crc % 2 ^ s.get (Reg.POS.CH.SER_CFG1.CRC_LEN k.val) ≠
        crcBits (s.get (Reg.POS.CH.SER_CFG1.CRC_LEN k.val)) (s.get (Reg.POS.CH.SER_CFG1.CRC_POLY k.val))
          (data % 2 ^ (s.get (Reg.POS.CH.SER_CFG0.MT_BITS k.val) + s.get (Reg.POS.CH.SER_CFG0.ST_BITS k.val)))
          (s.get (Reg.POS.CH.SER_CFG0.MT_BITS k.val) + s.get (Reg.POS.CH.SER_CFG0.ST_BITS k.val)) 0 →
      Runs (.serFrameEnd k data crc par sda) s (fun t => t.causeSet ⟨24 + k.val, 11⟩ = true ∧
        (sda = false → t.causeSet ⟨24 + k.val, 10⟩ = true) ∧ t.pos[k].errRun = s.pos[k].errRun + 1 ∧
        t.get (Reg.POS.CH.COUNTERS.CRC_ERRS k.val) = min (s.get (Reg.POS.CH.COUNTERS.CRC_ERRS k.val) + 1) 65535)) ∧
    (∀ (data crc : Nat) (par sda : Bool), (s.posMode k ≠ 4 ∧ s.posMode k ≠ 5) ∨ s.pos[k].frameRun = false →
      exec (.serFrameEnd k data crc par sda) s = .next s) ∧
    (s.pos[k].frameRun = true → Runs (.serTimeout k) s (fun t => t.pos[k].frameRun = false ∧
      t.pos[k].errRun = s.pos[k].errRun + 1 ∧ t.causeSet ⟨24 + k.val, 10⟩ = true)) ∧
    (s.pos[k].frameRun = false → exec (.serTimeout k) s = .next s) ∧
    (∀ cycle : Nat, Runs (.posAngleRead k cycle) s (fun t =>
      t.rd (Reg.POS.CH.POS_LO.addr k.val) = BitVec.ofNat 32 (codeOf 48 s.pos[k].pos) ∧
      t.rd (Reg.POS.CH.POS_HI.addr k.val) = BitVec.ofNat 32 (codeOf 48 s.pos[k].pos / 2 ^ 32) ∧
      t.rd (Reg.POS.CH.STATUS.addr k.val) = s.posStatus k ∧
      t.rd (Reg.POS.CH.ANGLE.addr k.val) = s.posAngleAt k cycle false)) ∧
    (∀ pair : Fin 4,
      (s.pairUsed k pair.val = true → s.windowAt 4 (4 * k.val + pair.val) = false →
        Runs (.wireFault k pair) s (fun t => t.posValid k = false ∧ t.pos[k].wires.getLsbD pair.val = true ∧
          t.causeSet ⟨24 + k.val, 2⟩ = true)) ∧
      (s.pairUsed k pair.val = true → s.windowAt 4 (4 * k.val + pair.val) = true →
        Runs (.wireFault k pair) s (fun t => t.pos = s.pos ∧ t.regs = s.regs)) ∧
      (s.pairUsed k pair.val = false → exec (.wireFault k pair) s = .next s)) ∧
    Runs (.wireRecover k) s (fun t => t.pos[k].wires = 0#4 ∧ t.pos[k].bad.getLsbD 2 = false) ∧
    (∀ edge : BitVec 2, s.posResting k = true → Runs (.posPreset k edge) s (fun t =>
      let p := signedOf 48 (s.get (Reg.POS.CH.PRESET_LO.LO k.val) + s.get (Reg.POS.CH.PRESET_HI.HI k.val) * 2 ^ 32)
      t.pos[k].cnt = p + (if s.flag (Reg.POS.CH.CFG.DIR_INV k.val) then -edge.toInt else edge.toInt) ∧
      t.pos[k].homed = true ∧ t.get (Reg.POS.CH.CMD_STATUS.CODE k.val) = 1 ∧
      (edge = 0#2 → s.softMin k ≤ p → p ≤ s.softMax k → t.pos[k].pos = p))) ∧
    (∀ edge, s.posResting k = false → Runs (.posPreset k edge) s (fun t => t.pos = s.pos ∧
      t.get (Reg.POS.CH.CMD_STATUS.CODE k.val) = 2 ∧ t.causeSet ⟨24 + k.val, 19⟩ = true)) ∧
    Runs (.clearHomed k) s (fun t => t.pos[k].homed = false ∧ t.get (Reg.POS.CH.CMD_STATUS.CODE k.val) = 1) ∧
    Runs (.posClearCounters k) s (fun t => t.get (Reg.POS.CH.COUNTERS.ILLEGAL k.val) = 0 ∧
      t.get (Reg.POS.CH.COUNTERS.CRC_ERRS k.val) = 0 ∧ t.get (Reg.POS.CH.CMD_STATUS.CODE k.val) = 1)

/-- SADD, SSUB, SMUL, SMAC, SMIN, SMAX, SABS, SNEG, SMOV, SLDI, SSEL, SWRAP (1 cycle), SDIV (10), SSQRT and SATAN2 (8), VEXT, LDP (1) and VDOT (2): with a running task and its BUDGET not used up, the next state is the old one with Sd as its operation says (each read before Sd is written), ARITH set if an exception was raised, the next program word and the cycles of the instruction counted. Every other scalar, every vector, mask, flag, matrix word and register stands. -/
def Obligations.ScalarInstructionsWriteTheirResult : Prop :=
  ∀ s : State,
    (∀ d a b : Fin 64, s.issues 1 = true → exec (.sadd d a b) s = .next (s.scalarTo 1 d (cAdd s.carve.s[a] s.carve.s[b]))) ∧
    (∀ d a b : Fin 64, s.issues 1 = true → exec (.ssub d a b) s = .next (s.scalarTo 1 d (cSub s.carve.s[a] s.carve.s[b]))) ∧
    (∀ d a b : Fin 64, s.issues 1 = true → exec (.smul d a b) s = .next (s.scalarTo 1 d (cMul s.carve.s[a] s.carve.s[b]))) ∧
    (∀ d a b : Fin 64, s.issues 1 = true → exec (.smac d a b) s = .next (s.scalarTo 1 d (cFma s.carve.s[a] s.carve.s[b] s.carve.s[d]))) ∧
    (∀ d a b : Fin 64, s.issues 1 = true → exec (.smin d a b) s = .next (s.scalarTo 1 d (⟨cMin s.carve.s[a] s.carve.s[b], false⟩))) ∧
    (∀ d a b : Fin 64, s.issues 1 = true → exec (.smax d a b) s = .next (s.scalarTo 1 d (⟨cMax s.carve.s[a] s.carve.s[b], false⟩))) ∧
    (∀ d a : Fin 64, s.issues 1 = true → exec (.sabs d a) s = .next (s.scalarTo 1 d (⟨fOut (fAbs s.carve.s[a]), false⟩))) ∧
    (∀ d a : Fin 64, s.issues 1 = true → exec (.sneg d a) s = .next (s.scalarTo 1 d (⟨fOut (fNeg s.carve.s[a]), false⟩))) ∧
    (∀ d a : Fin 64, s.issues 1 = true → exec (.smov d a) s = .next (s.scalarTo 1 d (⟨fOut s.carve.s[a], false⟩))) ∧
    (∀ (d : Fin 64) (x : Word), s.issues 1 = true → exec (.sldi d x) s = .next (s.scalarTo 1 d ⟨fOut x, false⟩)) ∧
    (∀ (d : Fin 64) (c : Fin 16) (a b : Fin 64), s.issues 1 = true →
      exec (.ssel d c a b) s = .next (s.scalarTo 1 d ⟨fOut (if s.carve.fl.holds c then s.carve.s[a] else s.carve.s[b]), false⟩)) ∧
    (∀ d a : Fin 64, s.issues 1 = true → exec (.swrap d a) s = .next (s.scalarTo 1 d (cWrap s.carve.s[a]))) ∧
    (∀ d a b : Fin 64, s.issues 10 = true → exec (.sdiv d a b) s = .next (s.scalarTo 10 d (cDiv s.carve.s[a] s.carve.s[b]))) ∧
    (∀ d a : Fin 64, s.issues 8 = true → exec (.ssqrt d a) s = .next (s.scalarTo 8 d (cSqrt s.carve.s[a]))) ∧
    (∀ d a b : Fin 64, s.issues 8 = true → exec (.satan2 d a b) s = .next (s.scalarTo 8 d (cAtan2 s.carve.s[a] s.carve.s[b]))) ∧
    (∀ (d : Fin 64) (e : Fin 32) (i : Fin 16), s.issues 1 = true →
      exec (.vext d e i) s = .next (s.scalarTo 1 d ⟨fOut s.carve.v[e][i], false⟩)) ∧
    (∀ (d : Fin 64) (a b : Fin 32), s.issues 2 = true →
      exec (.vdot d a b) s = .next (s.scalarTo 2 d (cDot s.carve.v[a] s.carve.v[b]))) ∧
    (∀ (d : Fin 64) (k : Fin 256), s.issues 1 = true →
      exec (.ldp d k) s = .next (s.scalarTo 1 d ⟨fOut (s.rd (Reg.CARVE.PARAM.addr k.val)), false⟩))

/-- VADD, VSUB, VMUL, VMAC, VSCL, VBCAST, VMOV, VLD (1 cycle), LDPV (2) and MVM (one cycle per row): with a running task and its BUDGET not used up, the next state is the old one with every element of Vd as its operation says, the saturation masks of Vd clear, ARITH set if an element raised an exception, the next program word and the cycles counted. Every other vector, every scalar, the matrix memory and every register stand. MVM gives 0.0 outside its rows. -/
def Obligations.VectorInstructionsWriteTheirResult : Prop :=
  ∀ s : State,
    (∀ d a b : Fin 32, s.issues 1 = true → exec (.vadd d a b) s = .next (s.vectorTo 1 d (fun i => cAdd s.carve.v[a][i] s.carve.v[b][i]))) ∧
    (∀ d a b : Fin 32, s.issues 1 = true → exec (.vsub d a b) s = .next (s.vectorTo 1 d (fun i => cSub s.carve.v[a][i] s.carve.v[b][i]))) ∧
    (∀ d a b : Fin 32, s.issues 1 = true → exec (.vmul d a b) s = .next (s.vectorTo 1 d (fun i => cMul s.carve.v[a][i] s.carve.v[b][i]))) ∧
    (∀ d a b : Fin 32, s.issues 1 = true → exec (.vmac d a b) s = .next (s.vectorTo 1 d (fun i => cFma s.carve.v[a][i] s.carve.v[b][i] s.carve.v[d][i]))) ∧
    (∀ (d a : Fin 32) (b : Fin 64), s.issues 1 = true → exec (.vscl d a b) s = .next (s.vectorTo 1 d (fun i => cMul s.carve.v[a][i] s.carve.s[b]))) ∧
    (∀ (d : Fin 32) (a : Fin 64), s.issues 1 = true → exec (.vbcast d a) s = .next (s.vectorTo 1 d (fun i => ⟨fOut s.carve.s[a], false⟩))) ∧
    (∀ d a : Fin 32, s.issues 1 = true → exec (.vmov d a) s = .next (s.vectorTo 1 d (fun i => ⟨fOut s.carve.v[a][i], false⟩))) ∧
    (∀ (d : Fin 32) (m : BitVec 14) (ind : Bool), s.issues 1 = true → exec (.vld d m ind) s = .next (s.vectorTo 1 d (fun i => ⟨fOut (s.carve.mat (s.carve.ea m ind + i.val)), false⟩))) ∧
    (∀ (d : Fin 32) (k : Fin 256), s.issues 2 = true → exec (.ldpv d k) s = .next (s.vectorTo 2 d (fun i => ⟨if k.val + i.val < 256 then fOut (s.rd (Reg.CARVE.PARAM.addr (k.val + i.val))) else f0, false⟩))) ∧
    (∀ (d a : Fin 32) (m : BitVec 14) (ind : Bool) (rows doff : Fin 16), s.issues (rows.val + 1) = true →
      exec (.mvm d a m ind rows doff) s = .next (s.vectorTo (rows.val + 1) d (fun i =>
        if doff.val ≤ i.val ∧ i.val < doff.val + (rows.val + 1) then
          cDot (s.carve.row (s.carve.ea m ind + 16 * (i.val - doff.val))) s.carve.v[a] else ⟨f0, false⟩)))

/-- With a running task and budget: NOP only goes on; BR takes TARGET exactly when its condition holds; SIG sets PROGn of the owner slot exactly when its condition holds; SETB sets the matrix base; SCMP sets LT, EQ, GT and UN alone; SCLAMP writes the clamped Sd; SSINCOS writes Sd and the next scalar; VINS writes one element; VCLAMP clamps and sets its masks; VINT holds or integrates each element; IPRE writes the masked elements exactly with PRE set; VST stores 16 words; MVMA adds its rows; IN and INV read latched ports; OUT and OUTV stage finite values. -/
def Obligations.OtherEngineInstructionsRun : Prop :=
  ∀ s : State,
    (s.issues 1 = true → Runs .nop s (fun t =>
      t = { s with carve := { s.carve with pc := s.carve.pc + 1, cycles := s.carve.cycles + 1 } })) ∧
    (∀ (c : Fin 16) (target : Fin 4096), s.issues 2 = true → Runs (.br c target) s (fun t =>
      t = { s with carve := { s.carve with
        pc := if s.carve.fl.holds c then target.val else s.carve.pc + 1, cycles := s.carve.cycles + 2 } })) ∧
    (∀ (c : Fin 16) (n : Fin 8) (k : Fin 8), s.carve.running = some k → s.issues 1 = true → Runs (.sig c n) s (fun t =>
      t.carve.progSet.getLsbD n.val = (s.carve.fl.holds c || s.carve.progSet.getLsbD n.val) ∧
      t.causeSet ⟨28 + s.ownerOf k.val, 8 + n.val⟩ = (s.carve.fl.holds c || s.causeSet ⟨28 + s.ownerOf k.val, 8 + n.val⟩) ∧
      t.carve.pc = s.carve.pc + 1)) ∧
    (∀ (a : Fin 64) (stride : BitVec 14) (nmax : BitVec 8), s.issues 2 = true → Runs (.setb a stride nmax) s (fun t =>
      t.carve.mb = stride.toNat * setbIndex s.carve.s[a] nmax.toNat ∧ t.carve.mb ≤ stride.toNat * nmax.toNat ∧
      t.carve.s = s.carve.s)) ∧
    (∀ a b : Fin 64, s.issues 1 = true → Runs (.scmp a b) s (fun t =>
      t.carve.fl = { s.carve.fl with
        lt := fLt (fFlush s.carve.s[a]) (fFlush s.carve.s[b]), eq := fEq (fFlush s.carve.s[a]) (fFlush s.carve.s[b])
        gt := fLt (fFlush s.carve.s[b]) (fFlush s.carve.s[a])
        un := fNaN? (fFlush s.carve.s[a]) || fNaN? (fFlush s.carve.s[b]) } ∧ t.carve.s = s.carve.s ∧ t.carve.v = s.carve.v)) ∧
    (∀ d a b e : Fin 64, s.issues 1 = true → Runs (.sclamp d a b e) s (fun t =>
      t.carve.s = s.carve.s.set d (cMin (cMax (fFlush s.carve.s[a]) (fFlush s.carve.s[b])) (fFlush s.carve.s[e])) ∧
      t.carve.fl.sat = (fLt (fFlush s.carve.s[a]) (fFlush s.carve.s[b]) || fLt (fFlush s.carve.s[e]) (fFlush s.carve.s[a])))) ∧
    (∀ d a : Fin 64, s.issues 6 = true → Runs (.ssincos d a) s (fun t =>
      t.carve.s[d] = (cSinCos s.carve.s[a]).1.val ∧
      (∀ h : d.val + 1 < 64, t.carve.s[d.val + 1] = (cSinCos s.carve.s[a]).2.val) ∧
      t.carve.cycles = s.carve.cycles + 6)) ∧
    (∀ (d : Fin 32) (e : Fin 16) (a : Fin 64), s.issues 1 = true → Runs (.vins d e a) s (fun t =>
      t.carve.v = s.carve.v.set d (s.carve.v[d].set e (fOut s.carve.s[a])))) ∧
    (∀ (d a b e : Fin 32), s.issues 1 = true → Runs (.vclamp d a b e) s (fun t =>
      ∀ i : Fin 16, t.carve.v[d][i] = cMin (cMax (fFlush s.carve.v[a][i]) (fFlush s.carve.v[b][i])) (fFlush s.carve.v[e][i]) ∧
        t.carve.satlo[d].getLsbD i.val = fLt (fFlush s.carve.v[a][i]) (fFlush s.carve.v[b][i]) ∧
        t.carve.sathi[d].getLsbD i.val = fLt (fFlush s.carve.v[e][i]) (fFlush s.carve.v[a][i]))) ∧
    (∀ (d a : Fin 32) (b : Fin 64) (e : Fin 32) (sh : Fin 16) (dir : Bool), s.issues 1 = true →
      Runs (.vint d a b e sh dir) s (fun t => ∀ i : Fin 16, t.carve.v[d][i] =
        if s.carve.vintHolds a b e sh dir i then s.carve.v[d][i]
        else (cAdd s.carve.v[d][i] (cMul s.carve.v[a][i] s.carve.s[b]).val).val)) ∧
    (∀ (d a : Fin 32) (mask : BitVec 16), s.issues 1 = true → Runs (.ipre d a mask) s (fun t => ∀ i : Fin 16,
      t.carve.v[d][i] = if s.carve.fl.pre && mask.getLsbD i.val then fOut s.carve.v[a][i] else s.carve.v[d][i])) ∧
    (∀ (d : Fin 32) (m : BitVec 14) (ind : Bool), s.issues 1 = true → Runs (.vst d m ind) s (fun t =>
      (∀ i : Fin 16, t.carve.mat (s.carve.ea m ind + i.val) = s.carve.v[d][i]) ∧
      (∀ a : Nat, (∀ i : Fin 16, a % 16384 ≠ (s.carve.ea m ind + i.val) % 16384) → t.carve.mat a = s.carve.mat a) ∧
      t.carve.v = s.carve.v)) ∧
    (∀ (d a : Fin 32) (m : BitVec 14) (ind : Bool) (rows doff : Fin 16), s.issues (rows.val + 1) = true →
      Runs (.mvma d a m ind rows doff) s (fun t => ∀ i : Fin 16, t.carve.v[d][i] =
        if doff.val ≤ i.val ∧ i.val < doff.val + (rows.val + 1) then
          (cAdd s.carve.v[d][i] (cDot (s.carve.row (s.carve.ea m ind + 16 * (i.val - doff.val))) s.carve.v[a]).val).val
        else s.carve.v[d][i])) ∧
    (∀ (d : Fin 64) (sl : Fin 4) (p : Fin 64), s.issues 1 = true → Runs (.inPort d sl p) s (fun t =>
      t.carve.s = s.carve.s.set d (fOut (s.carve.port (64 * sl.val + p.val)).val) ∧
      ((s.carve.port (64 * sl.val + p.val)).routed = true →
        t.carve.fl.vld = (s.carve.port (64 * sl.val + p.val)).valid))) ∧
    (∀ (d : Fin 32) (sl : Fin 4) (p : Fin 64), s.issues 2 = true → Runs (.inv d sl p) s (fun t => ∀ i : Fin 16,
      p.val + i.val < 64 → t.carve.v[d][i] = fOut (s.carve.port (64 * sl.val + p.val + i.val)).val)) ∧
    (∀ (sl : Fin 4) (p a : Fin 64), s.issues 1 = true → Runs (.outPort sl p a) s (fun t =>
      if fFinite? s.carve.s[a] then
        t.carve.staged = s.carve.staged.filter (fun q => q.1 != 64 * sl.val + p.val) ++
          [(64 * sl.val + p.val, fOut s.carve.s[a])]
      else t.carve.staged = s.carve.staged ∧ t.carve.nonfinite = true)) ∧
    (∀ (sl : Fin 4) (p : Fin 64) (a : Fin 32), s.issues 2 = true → Runs (.outv sl p a) s (fun t =>
      ∀ i : Fin 16, p.val + i.val < 64 → fFinite? s.carve.v[a][i] = true →
        (64 * sl.val + p.val + i.val, fOut s.carve.v[a][i]) ∈ t.carve.staged))

/-- For every pair or triple of operand words the sum, difference, product, fused product-sum, quotient and square root are no subnormal, and where they are a NaN they are the quiet NaN 0x7FC0_0000; a subnormal operand acts as the zero of its sign. -/
def Obligations.CarveResultsFlushed : Prop :=
  (∀ x y : Word, cAdd x y = cAdd (fFlush x) (fFlush y) ∧ cMul x y = cMul (fFlush x) (fFlush y) ∧ fSub? (fFlush x) = false ∧
    (fSub? x = true → fZero? (fFlush x) = true ∧ fNeg? (fFlush x) = fNeg? x)) ∧
  ∀ x y z : Word, ∀ r ∈ [cAdd x y, cSub x y, cMul x y, cFma x y z, cDiv x y, cSqrt x],
    fSub? r.val = false ∧ (fNaN? r.val = true → r.val = 0x7FC00000#32)

/-- With no task running or too few cycles of BUDGET left for its cycles of R168, every instruction of Carve, END among them, leaves the whole state as it is, so the abort finds what the completed instructions left. -/
def Obligations.ExhaustedBudgetIssuesNothing : Prop :=
  ∀ (s : State) (c : Instr) (n : Nat), carveCycles c = some n → s.issues n = false → exec c s = .next s

/-- For each of the 43 instructions of the table, at every value of its operands that a course load admits (R167: rows and strides of 16 words, no SSINCOS to S63, no row beyond element 15, ports and parameters of INV, OUTV and LDPV in steps of 16), the encoder gives a 64-bit word, the decoder reads that word as the instruction with the same operands, and the load check finds its fields good, a branch inside the program. The worked word 0x3F20_3000_0090_0110 is MVMA of one row. -/
def Obligations.CarveWordsDecode : Prop :=
  (∀ i : Instr, (carveCycles i).isSome = true → (carveEncode i).isSome = true) ∧
  (∀ (i : Instr) (w : BitVec 64), carveAdmits i = true → carveEncode i = some w → carveDecode w = some i ∧
    (∀ count : Nat, (∀ c t, i = .br c t → t.val < count) → progWordOk count w = true)) ∧
  ∃ d a m ind r o, carveDecode 0x3F20300000900110#64 = some (.mvma d a m ind r o)

/-- TASK_TRIGGER in a released Carve makes an idle task wait for readiness and counts a pending one as MISSED, and in one that is not released does neither; TRIGGER_READY queues it in order of readiness, of one edge in ascending number; TASK_DISPATCH starts the first ready task in an idle released engine and otherwise does nothing; END ends the run and transfers what was staged; TASK_ABORT, where the next program word would pass BUDGET, ends it too, drops what was staged, counts OVERRUNS and sets its cause, but in a SHADOW window of that detector only takes note, and in any other case does nothing; CARVE_PRESET makes a preset pending; CARVE_CLEAR_STATS zeroes the maxima; PARAM_WRITE stores at once while Carve is idle and holds the value otherwise; CARVE_IN_READ latches the status of the port; CARVE_ECC_SWEEP with a fix, by the sweep or by a read of a running task, sets ECC_FIX in the four slot groups. -/
def Obligations.TaskCommandsRun : Prop :=
  ∀ s : State,
    (∀ (k : Fin 8) (cycle : Nat), s.carve.released = false → Runs (.taskTrigger k ⟨cycle, false⟩) s (fun t =>
        t.carve = s.carve ∧ t.regs = s.regs)) ∧
    (∀ (k : Fin 8) (cycle : Nat), s.carve.released = true → s.carve.notReady.contains k = false → s.carve.waiting.contains k = false →
      s.carve.running ≠ some k → Runs (.taskTrigger k ⟨cycle, false⟩) s (fun t =>
        t.carve = { s.carve with
          notReady := s.carve.notReady ++ [k], readyAt := s.carve.readyAt.set k (cycle + 32) } ∧ t.regs = s.regs)) ∧
    (∀ (k : Fin 8) (cycle : Nat), s.carve.released = true → s.carve.notReady.contains k = true ∨ s.carve.waiting.contains k = true ∨
      s.carve.running = some k → Runs (.taskTrigger k ⟨cycle, false⟩) s (fun t =>
      t.carve = s.carve ∧ t.causeSet ⟨28 + s.ownerOf k.val, 1⟩ = true ∧
      t.get (Reg.CARVE.TASK.EVENTS.MISSED k.val) = min (s.get (Reg.CARVE.TASK.EVENTS.MISSED k.val) + 1)
        (2 ^ (Reg.CARVE.TASK.EVENTS.MISSED k.val).width - 1))) ∧
    (∀ k : Fin 8, s.carve.notReady.contains k = true → Runs (.triggerReady k) s (fun t =>
      let before (u : Fin 8) : Prop := s.carve.readyAt[u] < s.carve.readyAt[k] ∨
        s.carve.readyAt[u] = s.carve.readyAt[k] ∧ u < k
      ∃ l r, s.carve.waiting = l ++ r ∧ (∀ u ∈ l, before u) ∧ (∀ u, r.head? = some u → ¬ before u) ∧
        t = { s with carve := { s.carve with notReady := s.carve.notReady.erase k, waiting := l ++ k :: r } })) ∧
    (∀ k : Fin 8, s.carve.notReady.contains k = false → exec (.triggerReady k) s = .next s) ∧
    (∀ wait cycle : Nat, s.carve.running.isSome = true ∨ s.carve.released = false ∨ s.carve.waiting = [] →
      exec (.taskDispatch wait cycle) s = .next s) ∧
    (∀ (k : Fin 8) (rest : List (Fin 8)) (wait cycle : Nat),
      s.carve.running = none → s.carve.released = true → s.carve.waiting = k :: rest →
      Runs (.taskDispatch wait cycle) s (fun t => t.carve.running = some k ∧ t.carve.waiting = rest ∧
        t.carve.pc = (s.taskRec k.val).entry ∧ t.carve.cycles = 0 ∧
        (t.get (Reg.CARVE.TASK.WAIT.LAST k.val) = min wait 65535))) ∧
    (∀ k : Fin 8, s.carve.running = some k → s.issues 1 = true → Runs .endTask s (fun t =>
      t.carve.running = none ∧ t.carve.staged = [] ∧ t.carve.v = s.carve.v ∧ t.carve.s = s.carve.s ∧
      t.get (Reg.CARVE.TASK.CYCLES.LAST k.val) = min (s.carve.cycles + 1) 65535)) ∧
    (∀ k : Fin 8, s.carve.running = some k → s.overBudget = true → s.windowAt 7 k.val = true → Runs .taskAbort s (fun t =>
      t.carve = s.carve ∧ t.regs = s.regs)) ∧
    (∀ k : Fin 8, s.carve.running = some k → s.overBudget = true → s.windowAt 7 k.val = false → Runs .taskAbort s (fun t =>
      t.get (Reg.CARVE.TASK.EVENTS.OVERRUNS k.val) = min (s.get (Reg.CARVE.TASK.EVENTS.OVERRUNS k.val) + 1)
        (2 ^ (Reg.CARVE.TASK.EVENTS.OVERRUNS k.val).width - 1) ∧
      t.carve.running = none ∧ t.carve.staged = [] ∧ t.causeSet ⟨28 + s.ownerOf k.val, 0⟩ = true ∧
      t.carve.v = s.carve.v ∧ t.carve.s = s.carve.s ∧ t.carve.matrix = s.carve.matrix)) ∧
    (s.carve.running = none ∨ s.overBudget = false → exec .taskAbort s = .next s) ∧
    (∀ k : Fin 8, Runs (.carvePreset k) s (fun t => t.carve.preset = s.carve.preset.set k true ∧
      t.get (Reg.CARVE.TASK.CMD_STATUS.CODE k.val) = 1)) ∧
    (∀ k : Fin 8, Runs (.carveClearStats k) s (fun t => t.get (Reg.CARVE.TASK.CYCLES.MAX k.val) = 0 ∧
      t.get (Reg.CARVE.TASK.WAIT.MAX k.val) = 0 ∧ t.get (Reg.CARVE.TASK.CMD_STATUS.CODE k.val) = 1)) ∧
    (∀ (k : Fin 256) (x : Word), s.carve.running = none → Runs (.paramWrite k x) s (fun t =>
      t.rd (Reg.CARVE.PARAM.addr k.val) = x ∧ s.regsBut [Reg.CARVE.PARAM.addr k.val] t)) ∧
    (∀ (k : Fin 256) (x : Word) (j : Fin 8), s.carve.running = some j → Runs (.paramWrite k x) s (fun t =>
      t = { s with carve := { s.carve with heldParams := s.carve.heldParams ++ [(k.val, x)] } })) ∧
    (∀ (sl : Fin 4) (p : Fin 64), Runs (.carveInRead sl p) s (fun t =>
      t.rd (Reg.CARVE.INSTAT.addr sl.val p.val) = (s.portNow 0x10 sl.val p.val).stat)) ∧
    (∀ byRead : Bool, exec (.carveEccSweep false byRead) s = .next s ∧
      (byRead = true → s.carve.running = none → exec (.carveEccSweep true byRead) s = .next s) ∧
      (byRead = false ∨ s.carve.running.isSome = true →
        Runs (.carveEccSweep true byRead) s (fun t => ∀ i : Fin 4, t.causeSet ⟨28 + i.val, 6⟩ = true)))

/-- For every y and r, every target and any limits that are not negative, a step gives |y| at most YMAX, changes r by at most lim_j times T, and leaves |r| at most the larger of |r| before and lim_r. HOLD brings the rate no further from 0. AT_TARGET is set only with y on the clamped target and r = 0. A rate that does not exceed what lim_j takes away in T and a target within lim_j times T squared settle at once. -/
def Obligations.ProfileStepStaysInLimits : Prop :=
  ∀ (y r tgt ymax limR limJ T : Rat) (hold : Bool), 0 ≤ ymax → 0 ≤ limR → 0 ≤ limJ → 0 ≤ T →
    let q := profStep y r tgt ymax limR limJ T hold
    absQ q.1 ≤ ymax ∧ absQ (q.2.1 - r) ≤ limJ * T ∧ absQ q.2.1 ≤ max (absQ r) limR ∧
    (hold = true → absQ q.2.1 ≤ absQ r) ∧
    (q.2.2.1 = true → q.1 = clampQ ymax tgt ∧ q.2.1 = 0) ∧
    (absQ (tgt - y) ≤ limJ * T * T → absQ r ≤ limJ * T → q = (clampQ ymax tgt, 0, true, false))

/-- PROF_STEP of an enabled channel whose slot is in RUN computes the step from y and r (those of a step that still waits for its dispatch edge where there is one), TARGET and the limits at the trigger, with T from the CLK_CTL cycles since the trigger before (0 for the first), keeps it for the dispatch edge while VALUE stands, and counts STEPS; in GLIDE and CHARGE the step is likewise from their own limits; outside these states, or disabled, no step is made. HOLD and RESUME set and end the hold and read OK. PRESET_INPUT is refused with STATE_DENIED in RUN, GLIDE and CHARGE; otherwise y takes the PROF input, or 0 with INPUT_INVALID, and r is 0. A read of VALUE latches RATE and STATUS. -/
def Obligations.ProfileCommandsRun : Prop :=
  ∀ (s : State) (i : Fin 4),
    (∀ interval : Nat, s.flag (Reg.PROF.CH.CFG.ENABLE i.val) = true → (s.slot i).state = .run → s.chg.phase ≠ .rampDown → Runs (.profStep i interval) s (fun t =>
        let w (a : Nat) : Rat := fRat (s.rd a)
        let b := s.prof[i].step.getD (s.rd (Reg.PROF.CH.VALUE.addr i.val), s.prof[i].r)
        let ymax := w (Reg.PROF.CH.YMAX.addr i.val)
        let tgt := clampQ ymax (w (Reg.PROF.CH.TARGET.addr i.val))
        let q := profStep (fRat b.1) (fRat b.2) tgt ymax (w (Reg.PROF.CH.RMAX.addr i.val))
          (w (Reg.PROF.CH.JMAX.addr i.val)) (if s.prof[i].first then 0 else (interval : Rat) / 300000000) s.prof[i].hold
        t.prof[i].step = some (fOfRat q.1, fOfRat q.2.1) ∧ t.prof[i].atTarget = q.2.2.1 ∧
        t.prof[i].limited = decide (tgt ≠ w (Reg.PROF.CH.TARGET.addr i.val)) ∧
        t.rd (Reg.PROF.CH.VALUE.addr i.val) = s.rd (Reg.PROF.CH.VALUE.addr i.val) ∧ t.prof[i].r = s.prof[i].r ∧
        t.get (Reg.PROF.CH.STEPS.val i.val) = (s.get (Reg.PROF.CH.STEPS.val i.val) + 1) % 2 ^ 32)) ∧
    (∀ interval : Nat, s.flag (Reg.PROF.CH.CFG.ENABLE i.val) = true → (s.slot i).state.steps = true →
      Runs (.profStep i interval) s (fun t =>
        t.get (Reg.PROF.CH.STEPS.val i.val) = (s.get (Reg.PROF.CH.STEPS.val i.val) + 1) % 2 ^ 32 ∧
        (i ≠ 0 ∨ s.chg.phase ≠ .rampDown →
          let l := s.profLimits i
          let b := s.prof[i].step.getD (s.rd (Reg.PROF.CH.VALUE.addr i.val), s.prof[i].r)
          let q := profStep (fRat b.1) (fRat b.2) (clampQ l.2.1 l.1) l.2.1 l.2.2.1 l.2.2.2
            (if s.prof[i].first then 0 else (interval : Rat) / 300000000) (s.prof[i].hold || ((s.ovHold i).slot i).ovHold)
          t.prof[i].step = some (fOfRat q.1, fOfRat q.2.1) ∧ t.prof[i].first = false ∧ t.prof[i].atTarget = q.2.2.1 ∧
          t.rd (Reg.PROF.CH.VALUE.addr i.val) = s.rd (Reg.PROF.CH.VALUE.addr i.val) ∧ t.prof[i].r = s.prof[i].r))) ∧
    (∀ interval : Nat, s.flag (Reg.PROF.CH.CFG.ENABLE i.val) = false ∨ (s.slot i).state.steps = false →
      Runs (.profStep i interval) s (fun t => t.prof = s.prof ∧ t.legs = s.legs ∧
        t.rd (Reg.PROF.CH.VALUE.addr i.val) = s.rd (Reg.PROF.CH.VALUE.addr i.val) ∧
        t.get (Reg.PROF.CH.STEPS.val i.val) = s.get (Reg.PROF.CH.STEPS.val i.val))) ∧
    Runs (.profHold i) s (fun t => t.prof[i] = { s.prof[i] with hold := true } ∧
      t.get (Reg.PROF.CH.CMD_STATUS.CODE i.val) = codeOk ∧ t.slots = s.slots) ∧
    Runs (.profResume i) s (fun t => t.prof[i] = { s.prof[i] with hold := false } ∧
      t.get (Reg.PROF.CH.CMD_STATUS.CODE i.val) = codeOk ∧ t.slots = s.slots) ∧
    ((s.slot i).state.steps = false → (s.profPort i).valid = true → Runs (.presetInput i) s (fun t =>
      t.rd (Reg.PROF.CH.VALUE.addr i.val) = (s.profPort i).val ∧ t.prof[i].r = 0#32 ∧
      t.prof[i].first = true ∧ t.get (Reg.PROF.CH.CMD_STATUS.CODE i.val) = codeOk)) ∧
    ((s.slot i).state.steps = false → (s.profPort i).valid = false → Runs (.presetInput i) s (fun t =>
      t.rd (Reg.PROF.CH.VALUE.addr i.val) = 0#32 ∧ t.prof[i].r = 0#32 ∧ t.causeSet ⟨33, 4 * i.val + 2⟩ = true)) ∧
    ((s.slot i).state.steps = true → Runs (.presetInput i) s (fun t =>
      t.get (Reg.PROF.CH.CMD_STATUS.CODE i.val) = codeDenied ∧ t.causeSet ⟨33, 17⟩ = true ∧ t.prof = s.prof ∧
      t.rd (Reg.PROF.CH.VALUE.addr i.val) = s.rd (Reg.PROF.CH.VALUE.addr i.val))) ∧
    Runs (.profValueRead i) s (fun t => t.rd (Reg.PROF.CH.RATE.addr i.val) = s.prof[i].r ∧
      t.rd (Reg.PROF.CH.STATUS.addr i.val) = s.profStatus i ∧
      t.rd (Reg.PROF.CH.VALUE.addr i.val) = s.rd (Reg.PROF.CH.VALUE.addr i.val))

/-- The first waiting job is taken by its own slot alone. A job of a slot in one of the five states shows its mode; in RUN with COMMUT SVM, no overmodulation and LOADALL_MODE 0 it gives each phase leg its SVM compare A, IDLE = 0 and a commit for CFG.XFER, and shows MODE SVM; the first job outside the five states gives each phase leg IDLE = 1 with such a commit and MODE OFF; a later one shows LIMITED 0 and whether input 8 is stale, with the cause VDC_STALE if it is, and writes no leg, and one with ENABLE 0 only ends. ROT_START in OFF, ARMED or STOPPED starts the detector, otherwise it is refused. The window of a slot without interface reads STILL when no result of it reached EMF_MIN, FORWARD or REVERSE by the sign of its speed when every one did, UNSURE between; each counts SEQ and, but for the repeat of an unsure PROBE, ends BUSY. A read of ROT_RESULT latches speed and angle. -/
def Obligations.SlalomCommandsRun : Prop :=
  ∀ (s : State) (i : Fin 4),
    (∀ (half : Fin 4) (cycle : Nat) (rest : List (Fin 4)), s.carve.jobs = i :: rest → s.flag (Reg.SLALOM.SL.CFG.ENABLE i.val) = true →
      (s.slot i).state = .run → s.slalom[i].mode = .svm → s.flag (Reg.SLALOM.SL.CFG.OM_EN i.val) = false →
      s.flag (Reg.SLALOM.SL.CFG.ADV_SVM i.val) = false → s.flag Reg.PWM.GLOBAL.CTRL.LOADALL_MODE = false →
      Runs (.slalomJob i half cycle) s (fun t =>
        t.carve.jobs = rest ∧ t.slalom[i].active = true ∧ t.slalom[i].mode = .svm ∧
        t.get (Reg.SLALOM.SL.STATUS.MODE i.val) = 1 ∧
        ∀ n : Fin 32, s.isPhase i n.val = true → (s.leg n).fixed = none →
          some (t.rd (Reg.PWM.LEG.CMP.addr n.val 0)) = (s.slSvm i n
            (fRat (fMax (s.slVdc i).1 (s.rd (Reg.SLALOM.SL.VDC_FLOOR.addr i.val)))) 0).a ∧
          t.flag (Reg.PWM.LEG.IDLE.val n.val) = false ∧
          (t.leg n).armed = some (s.get (Reg.SLALOM.SL.CFG.XFER i.val)))) ∧
    (∀ (half : Fin 4) (cycle : Nat) (rest : List (Fin 4)), s.carve.jobs = i :: rest → s.flag (Reg.SLALOM.SL.CFG.ENABLE i.val) = true →
      (s.slot i).state.modulated = false → s.slalom[i].idled = false → s.flag Reg.PWM.GLOBAL.CTRL.LOADALL_MODE = false →
      Runs (.slalomJob i half cycle) s (fun t =>
        t.carve.jobs = rest ∧ t.slalom[i].idled = true ∧ t.get (Reg.SLALOM.SL.STATUS.MODE i.val) = 0 ∧
        ∀ n : Fin 32, s.isPhase i n.val = true → (s.leg n).fixed = none →
          t.flag (Reg.PWM.LEG.IDLE.val n.val) = true ∧ (t.leg n).armed = some (s.get (Reg.SLALOM.SL.CFG.XFER i.val)))) ∧
    (∀ (half : Fin 4) (cycle : Nat) (rest : List (Fin 4)), s.carve.jobs = i :: rest → s.flag (Reg.SLALOM.SL.CFG.ENABLE i.val) = false →
      exec (.slalomJob i half cycle) s = .next { s with carve := { s.carve with jobs := rest } }) ∧
    (∀ (half : Fin 4) (cycle : Nat), s.carve.jobs.head? ≠ some i → exec (.slalomJob i half cycle) s = .next s) ∧
    (∀ (half : Fin 4) (cycle : Nat) (rest : List (Fin 4)), s.carve.jobs = i :: rest → s.flag (Reg.SLALOM.SL.CFG.ENABLE i.val) = true →
      (s.slot i).state.modulated = true → Runs (.slalomJob i half cycle) s (fun t => t.carve.jobs = rest ∧
        t.slalom[i].active = true ∧ t.slalom[i].idled = false ∧ t.get (Reg.SLALOM.SL.STATUS.MODE i.val) = t.slalom[i].mode.code ∧
        t.get (Reg.SLALOM.SL.STATUS.VDC_STALE i.val) = b2n (!(s.portNow 0x11 i.val 8).valid) ∧
        ((s.portNow 0x11 i.val 8).valid = false → t.causeSet ⟨32, 5 * i.val + 2⟩ = true))) ∧
    (∀ (half : Fin 4) (cycle : Nat) (rest : List (Fin 4)), s.carve.jobs = i :: rest → s.flag (Reg.SLALOM.SL.CFG.ENABLE i.val) = true →
      (s.slot i).state.modulated = false → s.slalom[i].idled = true → (s.slot i).lineRelease = false →
      Runs (.slalomJob i half cycle) s (fun t => t.carve.jobs = rest ∧ t.legs = s.legs ∧
        t.get (Reg.SLALOM.SL.STATUS.LIMITED i.val) = 0 ∧
        t.get (Reg.SLALOM.SL.STATUS.VDC_STALE i.val) = b2n (!(s.portNow 0x11 i.val 8).valid) ∧
        ((s.portNow 0x11 i.val 8).valid = false → t.causeSet ⟨32, 5 * i.val + 2⟩ = true))) ∧
    (((s.slot i).state = .off ∨ (s.slot i).state = .armed ∨ (s.slot i).state = .stopped) → s.slalom[i].rotBusy = false →
      Runs (.rotStart i) s (fun t => t.slalom[i].rotBusy = true ∧ t.slalom[i].rotHigh = false ∧ t.slalom[i].rotLow = false ∧
        t.get (Reg.SLALOM.SL.ROT_RESULT.BUSY i.val) = 1 ∧ t.get (Reg.SLALOM.SL.CMD_STATUS.CODE i.val) = codeOk)) ∧
    (s.slalom[i].rotBusy = true ∨ ((s.slot i).state ≠ .off ∧ (s.slot i).state ≠ .armed ∧ (s.slot i).state ≠ .stopped) → Runs (.rotStart i) s (fun t =>
      t.slalom = s.slalom ∧ t.causeSet ⟨32, 21⟩ = true ∧ t.get (Reg.SLALOM.SL.CMD_STATUS.CODE i.val) = codeDenied)) ∧
    (∀ cycle : Nat, s.slalom[i].rotBusy = true →
      Runs (.rotWindowEnd i cycle) s (fun t =>
        t.get (Reg.SLALOM.SL.ROT_RESULT.SEQ i.val) = (s.get (Reg.SLALOM.SL.ROT_RESULT.SEQ i.val) + 1) % 65536 ∧
        ((s.slot i).judged ≠ .probe → t.slalom[i].rotBusy = false ∧ t.get (Reg.SLALOM.SL.ROT_RESULT.BUSY i.val) = 0) ∧
        (s.servingPos i = none → s.slalom[i].rotHigh = false →
          (s.emfWindow i cycle = none → t.get (Reg.SLALOM.SL.ROT_RESULT.RESULT i.val) = 1) ∧
          (∀ e : EmfSpan, s.emfWindow i cycle = some e →
            t.get (Reg.SLALOM.SL.ROT_RESULT.RESULT i.val) = (if e.allHigh then (if (s.emfMotion i e).1 < 0 then 3 else 2)
              else if e.allLow then 1 else 4) ∧
            t.slalom[i].rotSpeed = fOfRat (s.emfMotion i e).1 ∧ t.slalom[i].rotAngle = (s.emfMotion i e).2)))) ∧
    (∀ cycle : Nat, s.slalom[i].rotBusy = false → exec (.rotWindowEnd i cycle) s = .next s) ∧
    Runs (.rotResultRead i) s (fun t => t.rd (Reg.SLALOM.SL.ROT_SPEED.addr i.val) = s.slalom[i].rotSpeed ∧
      t.rd (Reg.SLALOM.SL.ROT_ANGLE.addr i.val) = s.slalom[i].rotAngle ∧ t.slalom = s.slalom)

/-- A counting leg reaches BOUNDARY at count 0 upwards and MID at floor(PERIOD / 2) in UP or at PERIOD with the down-count following in UPDOWN; a due content becomes active whole and counts TRANSFERS, and Probe commits a leg that it owns again; a PERIOD for UP transferred at MID waits for the next BOUNDARY. A compare event at a position of the period puts the counter at COUNT and passes its event, at the mirrored position of a centred waveform it passes none. The deadline fixes what was written. COMMIT arms its point, or the next one behind a fixed content; late ones count; POINT 3 and writes under LOADALL_MODE arm nothing. LOADALL marks every leg in use, a SYNC once accepted and issued sets every such leg to its active PHASE, CLEAR_STATS zeroes the statistics. A leg that does not count, a position never taken, a deadline without commit and a SYNC not asked for change nothing. -/
def Obligations.PwmTimeCommandsRun : Prop :=
  (∀ (s : State) (n : Fin 32),
    (s.leg n).counting = false → (exec (.pwmBoundary n) s = .next s ∧ exec (.pwmMid n) s = .next s)) ∧
  (∀ (s : State) (n : Fin 32), (s.leg n).counting = true →
    Runs (.pwmBoundary n) s (fun t =>
      (t.leg n).counter = 0 ∧ (t.leg n).down = false ∧ (t.leg n).nextPeriod = none ∧
      ((s.leg n).fixed = none → ∀ w, (s.leg n).nextPeriod = some w → t.act n.val 0 = w) ∧
      (∀ c : Content, (s.leg n).fixed = some c → (s.leg n).armed = some 0 →
        (∀ k : Fin 7, c.mask.getLsbD k.val = true → t.act n.val k.val = c.words.getD k.val 0#32) ∧
        (t.leg n).fixed = none ∧ (t.leg n).latePend = (s.leg n).followLate ∧
        (s.midOwns n = false → (t.leg n).armed = (s.leg n).following) ∧
        (s.midOwns n = true → s.flag Reg.PWM.GLOBAL.CTRL.LOADALL_MODE = false → (t.leg n).armed = some 2) ∧
        t.get (Reg.PWM.LEG.TRANSFERS.COUNT n.val) = (s.get (Reg.PWM.LEG.TRANSFERS.COUNT n.val) + 1) % 2 ^ 32)) ∧
    Runs (.pwmMid n) s (fun t =>
      (s.legMode n.val = 1 → (t.leg n).counter = s.actPeriod n.val / 2 ∧ (t.leg n).down = false) ∧
      (s.legMode n.val = 2 → (s.leg n).fixed = none → (t.leg n).counter = s.actPeriod n.val ∧ (t.leg n).down = true) ∧
      (∀ c : Content, s.legMode n.val = 2 → (s.leg n).fixed = some c → (s.leg n).armed = some 1 → c.mask.getLsbD 0 = true →
        (t.leg n).counter = getBits (c.words.getD 0 0#32) 0 21 ∧ (t.leg n).down = true ∧ t.act n.val 0 = c.words.getD 0 0#32) ∧
      (∀ c : Content, s.legMode n.val = 1 → (s.leg n).fixed = some c → (s.leg n).armed = some 1 →
        c.mask.getLsbD 0 = true → t.act n.val 0 = s.act n.val 0 ∧ (t.leg n).nextPeriod = some (c.words.getD 0 0#32) ∧
          ∀ k : Fin 7, k ≠ 0 → c.mask.getLsbD k.val = true → t.act n.val k.val = c.words.getD k.val 0#32))) ∧
  (∀ (s : State) (n : Fin 32) (src : Fin 4) (down mirror : Bool),
    let c := getBits (s.act n.val (src.val + 1)) 0 21
    let k := if mirror then s.actPeriod n.val - c else c
    let taken := (s.leg n).counting = true ∧ c ≤ s.actPeriod n.val ∧
      phaseOf (s.legMode n.val) (s.actPeriod n.val) k down < spanOf (s.legMode n.val) (s.actPeriod n.val)
    (taken → Runs (.pwmCompareEvent n src down mirror) s (fun t =>
      (t.leg n).counter = k ∧ (t.leg n).down = (down && decide (s.legMode n.val = 2)) ∧
      (mirror = true → (t.leg n).presc = (s.leg n).presc) ∧
      (mirror = false → s.get ⟨Reg.PWM.LEG.EVT_PRE.addr n.val, 4 * (src.val + 2), 4⟩ = 0 →
        s.flag ⟨Reg.PWM.LEG.EVT_ROUTE.addr n.val, src.val + 2, 1⟩ = true →
        t.causeSet ⟨8 + n.val / 8, 4 * (n.val % 8)⟩ = true))) ∧
    (¬ taken → exec (.pwmCompareEvent n src down mirror) s = .next s)) ∧
  (∀ (s : State) (n : Fin 32),
    ((s.leg n).armed.isSome = true ∨ (s.leg n).loadAll = true → (s.leg n).fixed = none → Runs (.commitDeadline n) s (fun t =>
      (t.leg n).fixed = some (s.contentOf n) ∧ (t.leg n).written = 0#7 ∧ (t.leg n).writtenIdle = false ∧
      (t.leg n).armed = (s.leg n).armed)) ∧
    ((s.leg n).fixed.isSome = true ∨ ((s.leg n).armed = none ∧ (s.leg n).loadAll = false) →
      exec (.commitDeadline n) s = .next s) ∧
    (∀ p : Fin 4, p ≠ 3 → s.flag Reg.PWM.GLOBAL.CTRL.LOADALL_MODE = false →
      ((s.leg n).fixed = none → exec (.pwmCommit n p false) s = .next (s.setLeg n { s.leg n with armed := some p.val }) ∧
        Runs (.pwmCommit n p true) s (fun t => t.leg n = { s.leg n with armed := some p.val, latePend := true } ∧
          t.get (Reg.PWM.LEG.COMMITS.LATE n.val) = min (s.get (Reg.PWM.LEG.COMMITS.LATE n.val) + 1) 65535 ∧
          t.causeSet ⟨8 + n.val / 8, 4 * (n.val % 8) + 1⟩ = true)) ∧
      ((s.leg n).fixed.isSome = true →
        exec (.pwmCommit n p false) s = .next (s.setLeg n { s.leg n with following := some p.val }) ∧
        Runs (.pwmCommit n p true) s (fun t =>
          t.leg n = { s.leg n with following := some p.val, followLate := true, latePend := true } ∧
          t.get (Reg.PWM.LEG.COMMITS.LATE n.val) = min (s.get (Reg.PWM.LEG.COMMITS.LATE n.val) + 1) 65535 ∧
          t.causeSet ⟨8 + n.val / 8, 4 * (n.val % 8) + 1⟩ = true))) ∧
    (∀ late : Bool, s.flag Reg.PWM.GLOBAL.CTRL.LOADALL_MODE = false → exec (.pwmCommit n 3 late) s = .next s) ∧
    (∀ (p : Fin 4) (late : Bool), s.flag Reg.PWM.GLOBAL.CTRL.LOADALL_MODE = true → Runs (.pwmCommit n p late) s (fun t =>
      t.legs = s.legs ∧ t.causeSet ⟨3, 16⟩ = true))) ∧
  (∀ s : State,
    let loads := s.flag Reg.PWM.GLOBAL.CTRL.LOADALL_MODE = true ∧ s.flag Reg.PWM.GLOBAL.LOADALL.val = false ∧
      ∃ n : Fin 32, s.legMode n.val ≠ 0
    (loads → Runs .pwmLoadall s (fun t => t.get Reg.PWM.GLOBAL.LOADALL.val = 1 ∧
      ∀ n : Fin 32, t.leg n = { s.leg n with loadAll := decide (s.legMode n.val ≠ 0) })) ∧
    (¬ loads → exec .pwmLoadall s = .next s) ∧
    (s.allResting = true → Runs .pwmSync s (fun t => t.get Reg.PWM.GLOBAL.CMD_STATUS.CODE = codeOk ∧ t.legs = s.legs ∧
      t.trip = { s.trip with syncPending := true })) ∧
    (s.allResting = false → Runs .pwmSync s (fun t => t.get Reg.PWM.GLOBAL.CMD_STATUS.CODE = codeDenied ∧
      t.causeSet ⟨3, 18⟩ = true ∧ t.legs = s.legs ∧ t.trip.syncPending = s.trip.syncPending)) ∧
    Runs .pwmClearStats s (fun t => ∀ n : Fin 32, t.rd (Reg.PWM.LEG.STATS.addr n.val) = 0#32 ∧
      t.rd (Reg.PWM.LEG.COMMITS.addr n.val) = 0#32) ∧
    (s.trip.syncPending = true → Runs .syncIssue s (fun t => t.trip.syncPending = false ∧
      ∀ n : Fin 32, s.legMode n.val ≠ 0 → (t.leg n).counting = true ∧
        (0 < s.actPeriod n.val → (s.leg n).fixed = none → (s.leg n).nextPeriod = none →
          phaseOf (s.legMode n.val) (s.actPeriod n.val) (t.leg n).counter (t.leg n).down =
            getBits (s.act n.val 6) 0 21 % spanOf (s.legMode n.val) (s.actPeriod n.val)))) ∧
    (s.trip.syncPending = false → exec .syncIssue s = .next s))

/-- An output whose dead time ends with its reference on turns on, unless DROP mode foresees its pulse shorter than COUNT, which is removed and counted; with no forcing and no interlock its live output follows; with the reference off again it does not turn on. A dead time put off by a stretched pulse of the other output waits. A stretched pulse ends off. An interlock pair that no longer overlaps, at either stage, is held no more there, one that still does stays. The window's end clears every episode count and sets ILOCK_LIMIT of each leg beyond the limit. A trip request asserts its group, and every leg of the group with TRIP field 2 has both live outputs off. A forced output turns on once its partners are off. TRIP_RELEASE releases each latched group of its mask without a present source and sets RELEASE_BLOCKED for the others; TRIP_DEASSERT ends an unlatched group without a source. Each changes nothing where its condition does not hold. -/
def Obligations.OutputStageCommandsRun : Prop :=
  ∀ s : State,
    (∀ (n : Fin 32) (b : Bool),
      let o := (s.leg n).out b
      let short := s.get (Reg.PWM.LEG.MINPULSE.COUNT n.val) ≠ 0 ∧
        ∃ p, s.pulseTaps n b o.due = some p ∧ p < s.get (Reg.PWM.LEG.MINPULSE.COUNT n.val) * 32
      (o.dtRun = false ∨ s.putOff n b = true → exec (.deadTimeEnd n b) s = .next s) ∧
      (o.dtRun = true → s.putOff n b = false →
        (o.ref = false → Runs (.deadTimeEnd n b) s (fun t => (t.leg n).out b = { o with dtRun := false })) ∧
        (o.ref = true → o.stretch = true ∨ s.flag (Reg.PWM.LEG.MINPULSE.MODE n.val) = true ∨ ¬ short →
          Runs (.deadTimeEnd n b) s (fun t => ((t.leg n).out b).on = true ∧ ((t.leg n).out b).dtRun = false ∧
            ((s.leg n).forced = none → s.course.interlocks = [] →
              (if b then (t.leg n).liveB else (t.leg n).liveA) = true))) ∧
        (o.ref = true → o.stretch = false → s.flag (Reg.PWM.LEG.MINPULSE.MODE n.val) = false → short →
          Runs (.deadTimeEnd n b) s (fun t => (t.leg n).out b = { o with dtRun := false, on := false } ∧
            t.get (Reg.PWM.LEG.STATS.MP_ACT n.val) = min (s.get (Reg.PWM.LEG.STATS.MP_ACT n.val) + 1) 65535)))) ∧
    (∀ (n : Fin 32) (b : Bool),
      (((s.leg n).out b).stretch = true → Runs (.minpulseStretchEnd n b) s (fun t =>
        (t.leg n).out b = { (s.leg n).out b with stretch := false, on := false } ∧
        ((s.leg n).forced = none → (if b then (t.leg n).liveB else (t.leg n).liveA) = false))) ∧
      (((s.leg n).out b).stretch = false → exec (.minpulseStretchEnd n b) s = .next s)) ∧
    (∀ k : Nat, (s.course.interlocks[k]? = none → exec (.interlockRelease k) s = .next s) ∧
      ∀ p : Interlock, s.course.interlocks[k]? = some p → Runs (.interlockRelease k) s (fun t =>
        (s.overlap p = false → t.trip.held.contains k = false) ∧ (s.overlap p = true → t.trip.held = s.trip.held) ∧
        (s.linkOverlap k = false → t.trip.heldLink.contains k = false) ∧
        (s.linkOverlap k = true → t.trip.heldLink = s.trip.heldLink))) ∧
    Runs .ilockWindowEnd s (fun t => ∀ n : Fin 32, (t.leg n).episodes = 0 ∧
      (s.get Reg.PWM.GLOBAL.CTRL.ILOCK_LIMIT < (s.leg n).episodes → t.causeSet ⟨8 + n.val / 8, 4 * (n.val % 8) + 3⟩ = true)) ∧
    (s.trip.reqs = [] → exec .tripRequest s = .next s) ∧
    (∀ (r : TripReq) (rest : List TripReq), s.trip.reqs = r :: rest →
      Runs .tripRequest s (fun t => t.trip.asserted = s.trip.asserted ||| (1#16 <<< r.group) ∧ t.trip.reqs = rest ∧
        (r.group < 16 → s.trip.resetHold = 0#4 → ∀ n : Fin 32, (s.legRec n.val).trip = 2 →
          (s.course.tgMasks.getD r.group 0#32).getLsbD n.val = true →
          (t.leg n).liveA = false ∧ (t.leg n).liveB = false))) ∧
    (∀ n : Fin 32,
      (if (s.leg n).forceWaitA = true ∧ s.partnersOff n 0 = true then
        Runs (.forcedTurnOn n false) s (fun t => (t.leg n).forceOnA = true ∧ (t.leg n).forceWaitA = false)
       else exec (.forcedTurnOn n false) s = .next s) ∧
      (if (s.leg n).forceWaitB = true ∧ s.partnersOff n 1 = true then
        Runs (.forcedTurnOn n true) s (fun t => (t.leg n).forceOnB = true ∧ (t.leg n).forceWaitB = false)
       else exec (.forcedTurnOn n true) s = .next s)) ∧
    (∀ mask : BitVec 16, Runs (.tripRelease mask) s (fun t => ∀ g : Fin 16,
      t.trip.asserted.getLsbD g.val = (s.trip.asserted.getLsbD g.val &&
        !(mask.getLsbD g.val && (s.get Reg.PWM.TRIP.CFG.LATCH).testBit g.val && !s.groupSource g.val)) ∧
      (mask.getLsbD g.val = true → (s.get Reg.PWM.TRIP.CFG.LATCH).testBit g.val = true → s.groupSource g.val = true →
        t.causeSet ⟨3, 19⟩ = true))) ∧
    (∀ g : Fin 16,
      if (s.get Reg.PWM.TRIP.CFG.LATCH).testBit g.val = false ∧ s.groupSource g.val = false then
        Runs (.tripDeassert g) s (fun t => t.trip.asserted = s.trip.asserted &&& ~~~(1#16 <<< g.val))
      else exec (.tripDeassert g) s = .next s)

/-- The input keeps its filtered contact; an enabled, unblanked one that becomes active counts TRIPS, sets its cause and asserts; one that becomes inactive or is disabled ends its presence; a blanked input does nothing. At the end of its window the input takes its filtered level at once. While an injection presents its level, a SHADOW one notes it and a LIVE one acts. An injection into a disabled input, or one while one is pending, is refused; a SHADOW one reads PENDING and, once seen and released, ends in PASS with the cause shadow-marked, otherwise in FAIL, and the input takes what its own level asked for; a LIVE one at rest in a test session acts and reads ACTED, and its end gives the input back its own level; one that has not acted stays. -/
def Obligations.TripInputCommandsRun : Prop :=
  ∀ (s : State) (i : Fin 16),
    let heard (high : Bool) : State := { s with tripIns := s.tripIns.set i { s.tripIns[i] with high := high } }
    let level (high : Bool) : Bool := s.flag (Reg.PWM.TRIPIN.CFG.ENABLE i.val) && (high == s.flag (Reg.PWM.TRIPIN.CFG.POL i.val))
    let rises (t : State) : Prop := t.tripIns[i].active = true ∧ t.causeSet ⟨3, i.val⟩ = true ∧
      t.get (Reg.PWM.TRIPIN.STATUS.TRIPS i.val) = min (s.get (Reg.PWM.TRIPIN.STATUS.TRIPS i.val) + 1) 65535 ∧
      ∀ e : FaultRec, s.faultRec ⟨3, i.val⟩ = some e → e.trip < 16 → ⟨e.trip, 3, i.val⟩ ∈ t.trip.reqs ∧
        (3, i.val) ∈ t.trip.present
    let falls (t : State) : Prop := t.tripIns[i].active = false ∧ t.regs = s.regs ∧
      (s.tripIns[i].active = true → (3, i.val) ∉ t.trip.present)
    (∀ high : Bool,
      (s.tripIns[i].blanked = true → exec (.tripinFilterDone i ⟨high, false⟩) s = .next (heard high)) ∧
      (s.tripIns[i].blanked = false → s.tripInj i = none →
        (level high = true → s.tripIns[i].active = false → Runs (.tripinFilterDone i ⟨high, false⟩) s rises) ∧
        (level high = false → Runs (.tripinFilterDone i ⟨high, false⟩) s falls) ∧
        (level high = s.tripIns[i].active → exec (.tripinFilterDone i ⟨high, false⟩) s = .next (heard high))) ∧
      (s.tripIns[i].blanked = false → ∀ j : Inj, s.tripInj i = some j →
        (j.live = false → Runs (.tripinFilterDone i ⟨high, false⟩) s (fun t => t.tripIns[i].injSeen = true ∧
          t.tripIns[i].shadowed = level high ∧
          t.tripIns[i].active = s.tripIns[i].active ∧ t.regs = s.regs ∧ t.trip = s.trip)) ∧
        (j.live = true → s.tripIns[i].active = true → exec (.tripinFilterDone i ⟨high, false⟩) s = .next (heard high)) ∧
        (j.live = true → s.tripIns[i].active = false → Runs (.tripinFilterDone i ⟨high, false⟩) s (fun t => rises t ∧
          t.get (Reg.PWM.TRIPIN.INJ_STATUS.CODE i.val) = codeActed)))) ∧
    (s.tripInj i = none → Runs (.blankWindowEnd i) s (fun t => t.tripIns[i].blanked = false ∧
      t.tripIns[i].active = s.tripLevel i ∧
      (s.tripLevel i = true → s.tripIns[i].active = false → rises t) ∧ (s.tripLevel i = false → falls t))) ∧
    (∀ j : Inj, s.tripInj i = some j → Runs (.blankWindowEnd i) s (fun t => t.tripIns[i].blanked = false ∧
      (j.live = false → t.tripIns[i].injSeen = true ∧ t.tripIns[i].active = s.tripIns[i].active) ∧
      (j.live = true → s.tripIns[i].active = false → rises t))) ∧
    (∀ cls : Nat, (cls = 1 ∨ cls = 2) →
      s.flag (Reg.PWM.TRIPIN.CFG.ENABLE i.val) = false ∨ (s.tripInj i).isSome = true ∨ (cls = 2 ∧ s.liveAllowed = false) →
      Runs (.tripinInject i cls) s (fun t => t.get (Reg.PWM.TRIPIN.INJ_STATUS.CODE i.val) = codeDenied ∧
        t.causeSet ⟨3, 18⟩ = true ∧ t.injs = s.injs ∧ t.tripIns = s.tripIns)) ∧
    (∀ cls : Nat, cls ≠ 1 → cls ≠ 2 → exec (.tripinInject i cls) s = .next s) ∧
    (s.flag (Reg.PWM.TRIPIN.CFG.ENABLE i.val) = true → s.tripInj i = none →
      Runs (.tripinInject i 1) s (fun t => t.get (Reg.PWM.TRIPIN.INJ_STATUS.CODE i.val) = codePending ∧
        t.tripIns[i].injSeen = !s.tripIns[i].blanked ∧ t.tripIns[i].active = s.tripIns[i].active ∧ t.trip = s.trip ∧
        t.tripInj i = some ⟨Reg.PWM.TRIPIN.INJ_STATUS.addr i.val, false, i.val, 0, 0⟩)) ∧
    (s.flag (Reg.PWM.TRIPIN.CFG.ENABLE i.val) = true → s.tripInj i = none → s.liveAllowed = true →
      Runs (.tripinInject i 2) s (fun t =>
        (s.tripIns[i].blanked = false → s.tripIns[i].active = false → rises t ∧
          t.get (Reg.PWM.TRIPIN.INJ_STATUS.CODE i.val) = codeActed ∧ (t.liveWord 3).getLsbD i.val = true) ∧
        (s.tripIns[i].blanked = true ∨ s.tripIns[i].active = true →
          t.get (Reg.PWM.TRIPIN.INJ_STATUS.CODE i.val) = codePending ∧ t.tripIns[i].active = s.tripIns[i].active))) ∧
    (∀ j : Inj, s.tripInj i = some j → j.live = true → j.seen ≠ 2 → exec (.tripinInjectEnd i) s = .next s) ∧
    (∀ j : Inj, s.tripInj i = some j → j.live = false ∨ j.seen = 2 → Runs (.tripinInjectEnd i) s (fun t => t.tripInj i = none ∧
      (j.live = false → (s.tripIns[i].injSeen = true ∧ s.tripIns[i].blanked = false ∧ s.tripLevel i = false) →
        t.get (Reg.PWM.TRIPIN.INJ_STATUS.CODE i.val) = codePass ∧ t.causeSet ⟨3, i.val⟩ = true ∧
        (s.causeSet ⟨3, i.val⟩ = false → t.shadowed ⟨3, i.val⟩ = true)) ∧
      (j.live = false → ¬ (s.tripIns[i].injSeen = true ∧ s.tripIns[i].blanked = false ∧ s.tripLevel i = false) →
        t.get (Reg.PWM.TRIPIN.INJ_STATUS.CODE i.val) = codeFail) ∧
      (s.tripIns[i].blanked = false → t.tripIns[i].active = s.tripLevel i) ∧
      (j.live = false → s.tripIns[i].blanked = true → t.tripIns[i].active = s.tripIns[i].shadowed))) ∧
    (s.tripInj i = none → exec (.tripinInjectEnd i) s = .next s)

/-- Where the interlock pairs of the course name outputs A and B of legs 0 to 31 and no pair has both live outputs on, no counting point, compare event, commit deadline, SYNC, end of dead time, end of a stretched pulse, release of a pair, trip request, forced turn-on, trip release or end of a trip group leaves a pair with both on. -/
def Obligations.InterlockPairsNeverBothOn : Prop :=
  ∀ (s t : State) (c : Instr), s.noShootThrough → (∀ p ∈ s.course.interlocks, p.legX < 32 ∧ p.legY < 32 ∧ p.outX < 2 ∧ p.outY < 2) →
    ((∃ n, c = .pwmBoundary n ∨ c = .pwmMid n ∨ c = .commitDeadline n) ∨ (∃ n src d m, c = .pwmCompareEvent n src d m) ∨
      c = .syncIssue ∨ (∃ n b, c = .deadTimeEnd n b ∨ c = .minpulseStretchEnd n b ∨ c = .forcedTurnOn n b) ∨
      (∃ k, c = .interlockRelease k) ∨ c = .tripRequest ∨ (∃ m, c = .tripRelease m) ∨ (∃ g, c = .tripDeassert g)) →
    exec c s = .next t → t.noShootThrough

/-- On a channel that is mapped and powered with its link in use: a good downlink frame, after the interlock episodes it finds, brings the commanded state, RELEASE ends a hold-off, an on command turns on an output that is off and unlatched and brings its strengths and protection values into force, an off command turns an on output off; a bad one counts CRC_ERRS (LATE_EDGES with a change) and sets LINK_CRC at the 1,001st of a window, changing no output; so does a bad uplink frame, and a good one shows a chopper current above CHOP_ISENSE. The window restarts. A loss sets LINK_LOSS and the stuck bit and keeps the channel off; hold-off turns the output off. Retraining counts; RETRAIN_END sends RELEASE only when the link trains. A skew pass stores its residual and moves TRIM against it by one step within 0 to 63, SKEW_RANGE at its ends. Without domain, link, loss, training or edge, nothing changes. -/
def Obligations.EdgeLinkCommandsRun : Prop :=
  (∀ (s : State) (n : Fin 64), s.alive n = true → (s.edge n).link ≠ 0 →
    (∀ changed : Bool, Runs (.downlinkFrame n true changed) s (fun t =>
      (t.edge n).cmdOn = (s.linkEpisodes n).edgeCmd n ∧ (t.edge n).releaseDue = false ∧
      (t.edge n).holdoff = ((s.edge n).holdoff && !(s.edge n).releaseDue) ∧ t.regs = (s.linkEpisodes n).regs ∧
      ((s.linkEpisodes n).edgeCmd n = true → (s.edge n).out = .off → (s.edge n).latch = false →
        ((s.edge n).holdoff = false ∨ (s.edge n).releaseDue = true) → (t.edge n).out = .on ∧ (t.edge n).blank = true ∧
          (t.edge n).prot0 = s.rd (Reg.EDGE.CH.PROT0.addr n.val) ∧ (t.edge n).prot1 = s.rd (Reg.EDGE.CH.PROT1.addr n.val) ∧
          (t.edge n).prot2 = s.rd (Reg.EDGE.CH.PROT2.addr n.val) ∧ (t.edge n).onStr = s.get (Reg.EDGE.CH.DRIVE.ON_STR n.val)) ∧
      ((s.linkEpisodes n).edgeCmd n = true → (s.edge n).out ≠ .off ∨ (s.edge n).latch = true ∨
        ((s.edge n).holdoff = true ∧ (s.edge n).releaseDue = false) → (t.edge n).out = (s.edge n).out) ∧
      ((s.linkEpisodes n).edgeCmd n = false → (t.edge n).out = if (s.edge n).out = .on then .off else (s.edge n).out))) ∧
    (∀ changed : Bool, Runs (.downlinkFrame n false changed) s (fun t =>
      t.get (Reg.EDGE.CH.LINKSTAT0.CRC_ERRS n.val) = min (s.get (Reg.EDGE.CH.LINKSTAT0.CRC_ERRS n.val) + 1) 65535 ∧
      t.get (Reg.EDGE.CH.LINKSTAT0.LATE_EDGES n.val) =
        (if changed then min (s.get (Reg.EDGE.CH.LINKSTAT0.LATE_EDGES n.val) + 1) 65535
         else s.get (Reg.EDGE.CH.LINKSTAT0.LATE_EDGES n.val)) ∧
      t.edge n = { s.edge n with crcWin := (s.edge n).crcWin + 1 } ∧
      ((s.edge n).crcWin = 1000 → t.edgeBit n 11 = true ∧ t.causeSet (edgeCause n (edgeSummary 11)) = true))) ∧
    (∀ sns : BitVec 16, Runs (.uplinkFrame n false sns) s (fun t =>
      t.get (Reg.EDGE.CH.LINKSTAT0.CRC_ERRS n.val) = min (s.get (Reg.EDGE.CH.LINKSTAT0.CRC_ERRS n.val) + 1) 65535 ∧
      t.edge n = { s.edge n with crcWin := (s.edge n).crcWin + 1 } ∧
      ((s.edge n).crcWin = 1000 → t.edgeBit n 11 = true))) ∧
    (∀ sns : BitVec 16,
      let shows := (s.get Reg.DRIVE.CHOP_ISENSE.ISENSE : Int) < sns.toInt ∧ (s.chanRec n.val).out = 0 ∧
        (s.chanRec n.val).sense % 2 = 1 ∧ (s.chLeg n).function ∈ [2, 3, 4] ∧ s.chop.waiting = true
      (shows → exec (.uplinkFrame n true sns) s = .next { s with chop := { s.chop with sensed := true } }) ∧
      (¬ shows → exec (.uplinkFrame n true sns) s = .next s))) ∧
  (∀ (s : State) (n : Fin 64) (good changed : Bool) (sns : BitVec 16), s.alive n = false ∨ (s.edge n).link = 0 →
    exec (.downlinkFrame n good changed) s = .next s ∧ exec (.uplinkFrame n good sns) s = .next s) ∧
  (∀ (s : State) (n : Fin 64),
    exec (.linkCrcWindowEnd n) s = .next (s.setEdge n { s.edge n with crcWin := 0 }) ∧
    (s.alive n = true → ((s.edge n).linked = true ∨ (s.edge n).link = 1) → Runs (.linkLoss n) s (fun t =>
      (t.edge n).link = 4 ∧ (t.edge n).lost = true ∧ t.edgeBit n 8 = true ∧ t.flag (stuckFld n.val) = true ∧
      (s.flag (stuckFld n.val) = false → t.causeSet ⟨21, 18⟩ = true) ∧ t.edgeCmd n = false)) ∧
    (s.alive n = false ∨ ((s.edge n).linked = false ∧ (s.edge n).link ≠ 1) → exec (.linkLoss n) s = .next s) ∧
    (s.alive n = true → Runs (.holdoff n) s (fun t => (t.edge n).holdoff = true ∧ (t.edge n).cmdOn = false ∧
      (t.edge n).out = (if (s.edge n).out = .on then .off else (s.edge n).out) ∧ t.regs = s.regs)) ∧
    (s.alive n = false → exec (.holdoff n) s = .next s) ∧
    (s.alive n = true → (s.edge n).link = 4 → Runs (.linkAutoRetrain n) s (fun t => (t.edge n).link = 2 ∧ (t.edge n).crcWin = 0 ∧
      (t.edge n).releaseDue = (s.edge n).releaseDue ∧
      t.get (Reg.EDGE.CH.LINKSTAT1.RETRAINS n.val) = min (s.get (Reg.EDGE.CH.LINKSTAT1.RETRAINS n.val) + 1) 255)) ∧
    (s.alive n = false ∨ (s.edge n).link ≠ 4 → exec (.linkAutoRetrain n) s = .next s) ∧
    ((s.edge n).retrain = true → Runs (.retrainEnd n true) s (fun t => (t.edge n).retrain = false ∧ (t.edge n).link = 2 ∧
        (t.edge n).releaseDue = true ∧ (t.edge n).lost = false ∧ t.get (Reg.EDGE.CH.CMD_STATUS.BUSY n.val) = b2n (s.edge n).selftest.isSome) ∧
      Runs (.retrainEnd n false) s (fun t => (t.edge n).retrain = false ∧ (t.edge n).link = 4 ∧ (t.edge n).lost = true ∧
        (t.edge n).releaseDue = (s.edge n).releaseDue ∧ t.edgeBit n 8 = true ∧ t.flag (stuckFld n.val) = true ∧
        t.get (Reg.EDGE.CH.CMD_STATUS.BUSY n.val) = b2n (s.edge n).selftest.isSome)) ∧
    (∀ ok : Bool, (s.edge n).retrain = false → exec (.retrainEnd n ok) s = .next s) ∧
    (∀ (resid : BitVec 16) (refine : Bool), s.alive n = true → Runs (.skewCalPass n true resid refine) s (fun t =>
      let trim := s.get (Reg.EDGE.CH.SKEW.TRIM n.val)
      t.get (Reg.EDGE.CH.SKEW.RESID n.val) = resid.toNat ∧
      t.get (Reg.EDGE.CH.SKEW.TRIM n.val) =
        (if resid.toInt = 0 ∨ (resid.toInt.natAbs ≤ 125 ∧ refine = false) then trim
         else if 0 < resid.toInt then trim - 1 else min 63 (trim + 1)) ∧
      (125 < resid.toInt.natAbs → (0 < resid.toInt ∧ trim = 0) ∨ (resid.toInt < 0 ∧ trim = 63) → t.edgeBit n 13 = true))) ∧
    (∀ (measured : Bool) (resid : BitVec 16) (refine : Bool), s.alive n = false ∨ measured = false →
      exec (.skewCalPass n measured resid refine) s = .next s))

/-- SELFTEST and CLEAR_STATS are always allowed, RETRAIN with nothing running and the slot at rest, PARK of a parkable channel and UNPARK of a pair without HEALTH cause likewise; otherwise STATE_DENIED. On a mapped channel each then does its work: a park degrades the partner to single with PAIR_SINGLE on both, UNPARK ends both, CLEAR_STATS zeroes the link statistics. Groomer parks a faulty channel of a pair whose commands are off, a worn one only clear of the next turn-on, and with its record and SPARE_LOW; where the pair cannot be parked it marks the side and sets SPARE_OUT, which a failed channel that drives alone sets too. An injection into an allowed detector becomes pending, others are refused, codes 6 and 7 and classes 0 and 3 are ignored. An update takes the next sequence number, shows VON and SNS, and at or below the OT_TRIP in force sets its cause and latches a channel without soft turn-off; a read of MEAS0 latches the other words. On a channel without domain the rest changes nothing. -/
def Obligations.EdgeChannelCommandsRun : Prop :=
  ∀ (s : State) (n : Fin 64),
    let ok (t : State) : Prop := t.get (Reg.EDGE.CH.CMD_STATUS.CODE n.val) = codeOk
    let bit (d : Nat) : Bool := s.edgeBit n d
    let failed := (bit 4 || bit 6 || bit 7 || bit 9) = true
    let worn := (bit 10 || bit 11 || bit 13 || bit 15) = true
    let idle := (s.edge n).busy = false ∧ s.edgeResting n = true
    let healthy := s.get (Reg.EDGE.CH.CAUSE.CAUSES n.val) / 8 % 128 = 0
    (s.mapped n = true → Runs (.edgeSelftest n) s (fun t => (t.edge n).selftest = s.nextDet n 0 ∧
      t.get (Reg.EDGE.CH.CMD_STATUS.BUSY n.val) = 1 ∧ ok t)) ∧
    (s.mapped n = false → exec (.edgeSelftest n) s = .next s ∧ exec (.edgeClearStats n) s = .next s ∧
      (idle → exec (.edgeRetrain n) s = .next s)) ∧
    (idle → s.mapped n = true → Runs (.edgeRetrain n) s (fun t => (t.edge n).retrain = true ∧ (t.edge n).link = 1 ∧
      (4 ≤ (s.chLeg n).slot → (t.edge n).latch = ((s.edge n).supUv || (s.edge n).ot || (s.edge n).hot)) ∧
      t.flag (stuckFld n.val) = true ∧ t.get (Reg.EDGE.CH.CMD_STATUS.BUSY n.val) = 1 ∧ ok t)) ∧
    (¬ idle → Runs (.edgeRetrain n) s (fun t => s.edgeRefused t n)) ∧
    (¬ (idle ∧ s.parkable n = true) → Runs (.edgePark n) s (fun t => s.edgeRefused t n)) ∧
    (idle → s.parkable n = true → Runs (.edgePark n) s (fun t => ok t ∧
      ((s.edge n).out = .parked → t.edges = s.edges) ∧
      ∀ p : Fin 64, s.mate n = some p → (s.edge n).out ≠ .parked → (t.edge n).out = .parked ∧ (t.edge p).single = true ∧
        t.edgeBit n 14 = true ∧ t.edgeBit p 14 = true)) ∧
    (¬ (idle ∧ (s.mate n).isSome = true ∧ healthy) → Runs (.edgeUnpark n) s (fun t => s.edgeRefused t n)) ∧
    (∀ p : Fin 64, idle → s.mate n = some p → healthy → Runs (.edgeUnpark n) s (fun t => ok t ∧
      ((s.edge n).out ≠ .parked → t.edges = s.edges) ∧
      ((s.edge n).out = .parked → (t.edge n).out = .off ∧ (t.edge n).single = false ∧ (t.edge p).single = false ∧
        t.edgeBit n 14 = false ∧ t.edgeBit p 14 = false))) ∧
    (s.mapped n = true → Runs (.edgeClearStats n) s (fun t => t.rd (Reg.EDGE.CH.LINKSTAT0.addr n.val) = 0#32 ∧
      t.rd (Reg.EDGE.CH.LINKSTAT1.addr n.val) = 0#32 ∧ t.edges = s.edges ∧ ok t)) ∧
    (∀ elapsed : Nat,
      (¬ (failed ∨ worn) ∨ (s.edge n).out = .parked ∨ (s.edge n).soft = true → exec (.groomerPark n elapsed) s = .next s) ∧
      ((s.mate n).any (fun p => decide ((s.edge p).out ≠ .parked)) = false → (failed ∨ worn) → (s.edge n).out ≠ .parked → (s.edge n).soft = false →
        (failed → Runs (.groomerPark n elapsed) s (fun t => t.causeSet ⟨5, 2⟩ = true ∧ t.edges = s.edges)) ∧
        (¬ failed → exec (.groomerPark n elapsed) s = .next s)) ∧
      (∀ p : Fin 64, s.mate n = some p → (s.edge p).out ≠ .parked → (failed ∨ worn) → (s.edge n).out ≠ .parked → (s.edge n).soft = false →
        (s.parkable n = false → Runs (.groomerPark n elapsed) s (fun t => t.causeSet ⟨5, 2⟩ = true ∧ t.edges = s.edges ∧
          t.rd Reg.PWM.TRIP.FAILSIDE.addr = (s.markSide n).rd Reg.PWM.TRIP.FAILSIDE.addr)) ∧
        (s.parkable n = true → (s.edge n).cmdOn = true ∨ (s.edge p).cmdOn = true ∨ ¬ (failed ∨ s.parkWindow n elapsed = true) →
          exec (.groomerPark n elapsed) s = .next s) ∧
        (s.parkable n = true → (s.edge n).cmdOn = false → (s.edge p).cmdOn = false → failed ∨ s.parkWindow n elapsed = true →
          Runs (.groomerPark n elapsed) s (fun t => (t.edge n).out = .parked ∧ (t.edge p).single = true ∧
            t.edgeBit n 14 = true ∧ t.edgeBit p 14 = true ∧ t.causeSet ⟨5, 0⟩ = true ∧ t.causeSet ⟨5, 1⟩ = true ∧
            n.val ∈ t.groom.live.parked)))) ∧
    ((s.chLeg n).position ≤ 2 → (s.chLeg n).slot < 4 → ((s.markSide n).rd Reg.PWM.TRIP.FAILSIDE.addr).getLsbD
      (2 * (s.chLeg n).slot + if (s.chanRec n.val).out = 0 then 1 else 0) = true) ∧
    (∀ (det : Fin 8) (cls : Nat), (6 ≤ det.val ∨ (cls ≠ 1 ∧ cls ≠ 2)) → exec (.edgeInject n det cls) s = .next s) ∧
    (∀ (det : Fin 8) (cls : Nat), det.val < 6 → (cls = 1 ∨ cls = 2) →
      let free := s.injAt (edgeInj n) = none ∧ s.alive n = true ∧ s.detAllowed n det.val = true ∧ (cls = 2 → s.liveAllowed = true)
      (free → Runs (.edgeInject n det cls) s (fun t => t.injs = s.injs ++ [⟨edgeInj n, decide (cls = 2), det.val, n.val, 0⟩] ∧
        t.get (Reg.EDGE.CH.INJ_STATUS.CODE n.val) = codePending ∧ t.edges = s.edges)) ∧
      (¬ free → Runs (.edgeInject n det cls) s (fun t =>
        t.injs = s.injs ∧ t.edges = s.edges ∧ t.get (Reg.EDGE.CH.INJ_STATUS.CODE n.val) = codeDenied ∧ t.edgeBit n 18 = true))) ∧
    (∀ m : EdgeMeas, s.alive n = true → Runs (.edgeMeasUpdate n ⟨m, false⟩) s (fun t => (t.edge n).measSeq = (s.edge n).measSeq + 1#16 ∧
      (m.nopulse = false → t.get (Reg.EDGE.CH.MEAS0.SNS n.val) = m.sns.toNat ∧
        t.get (Reg.EDGE.CH.MEAS0.VON n.val) = if (s.chanRec n.val).sense / 8 % 2 = 1 then m.von.toNat else 0) ∧
      (m.nopulse = true → t.get (Reg.EDGE.CH.MEAS0.SNS n.val) = (s.edge n).meas.sns.toNat ∧
        t.get (Reg.EDGE.CH.MEAS0.VON n.val) = (s.edge n).meas.von.toNat) ∧
      (s.detAllowed n 5 = true → s.testing n 5 = false → s.edgeLive n 5 = false →
        m.vntc.toNat ≤ getBits (s.edge n).prot2 16 12 → (s.edge n).ot = false → (s.edge n).out ≠ .parked →
        t.edgeBit n 5 = true ∧ ((s.edge n).soft = false → (t.edge n).latch = true)))) ∧
    (∀ m : EdgeMeas, s.alive n = false → exec (.edgeMeasUpdate n ⟨m, false⟩) s = .next s) ∧
    (s.mapped n = true → Runs (.measRead n) s (fun t =>
      t.rd (Reg.EDGE.CH.MEAS1.addr n.val) = (s.edge n).meas.vgOff ++ (s.edge n).meas.vgOn ∧
      t.rd (Reg.EDGE.CH.MEAS2.addr n.val) = (s.edge n).meas.vneg ++ (s.edge n).meas.vpos ∧
      t.rd (Reg.EDGE.CH.MEAS3.addr n.val) = (s.edge n).meas.tdie ++ (s.edge n).meas.vntc ∧
      t.rd (Reg.EDGE.CH.MEAS4.addr n.val) = (s.edge n).measSeq ++
        ((s.edge n).meas.pgate.setWidth 16 ||| if (s.edge n).meas.nopulse then 0x1000#16 else 0#16))) ∧
    (s.mapped n = false → exec (.measRead n) s = .next s)

/-- On a mapped, powered channel: SC_HARD, OC and DESAT after blanking, and GATE_UV after GUV_TIME, where the measured value breaks the threshold in force and SENSE allows them, latch an ON switch, start the soft turn-off and set their detail cause; in a running soft turn-off they only set the cause, inside blanking OC and DESAT wait for its end, and a value within the threshold does nothing. SUP_UV latches any channel that is not parked, of which it sets the detail cause alone, OUT_FAULT latches an off one. A pending LIVE injection acts in the detector's place. The turn-off goes on from phase 1 to 2 to 3 to off. The flag reaches the controller end, asserts the slot line of a FOLLOW_SLOT leg, holds the interlock partners and, on a pair, turns off the other channel. A released hold drops the ended actors. A self-test steps from detector to detector, ends with SELFTEST_DONE or, failing, with SELFTEST_FAIL; it times out. A SHADOW step gives PASS or FAIL. -/
def Obligations.ProtectionCommandsRun : Prop :=
  (∀ (s : State) (n : Fin 64), s.alive n = true → s.injAt (edgeInj n) = none →
    let tripped (d : Nat) (t : State) : Prop := (t.edge n).latch = true ∧ (t.edge n).out = .soft1 ∧ t.edgeBit n d = true
    let on := (s.edge n).isOn = true
    let noted (d : Nat) (t : State) : Prop := t.edges = s.edges ∧ t.edgeBit n d = true
    (∀ v : BitVec 16,
      let beyond := (getBits (s.edge n).prot0 0 12 : Int) < v.toInt ∧ s.detAllowed n 0 = true
      (beyond → on → Runs (.scHard n v) s (fun t => tripped 0 t ∧ (0, true) ∈ (t.edge n).flags)) ∧
      (beyond → (s.edge n).soft = true → Runs (.scHard n v) s (noted 0)) ∧
      (¬ (beyond ∧ s.conducting n = true) → exec (.scHard n v) s = .next s)) ∧
    (∀ v : BitVec 16,
      let beyond := decide ((getBits (s.edge n).prot0 16 12 : Int) < v.toInt)
      (beyond = true → s.detAllowed n 1 = true → (s.edge n).blank = false → on → Runs (.oc n v) s (tripped 1)) ∧
      (beyond = true → s.detAllowed n 1 = true → (s.edge n).blank = false → (s.edge n).soft = true →
        Runs (.oc n v) s (fun t => t.edgeBit n 1 = true ∧ (t.edge n).out = (s.edge n).out)) ∧
      (¬ (beyond = true ∧ s.detAllowed n 1 = true ∧ (s.edge n).blank = false ∧ s.conducting n = true) →
        exec (.oc n v) s = .next (s.setEdge n { s.edge n with ocOver := beyond && (s.edge n).isOn }))) ∧
    (∀ v : BitVec 16,
      let beyond := decide (100 * (getBits (s.edge n).prot1 0 8 : Int) < v.toInt)
      (beyond = true → s.detAllowed n 2 = true → (s.edge n).blank = false → on → Runs (.desat n v) s (tripped 2)) ∧
      (beyond = true → s.detAllowed n 2 = true → (s.edge n).blank = false → (s.edge n).soft = true →
        Runs (.desat n v) s (fun t => t.edgeBit n 2 = true ∧ (t.edge n).out = (s.edge n).out)) ∧
      (¬ (beyond = true ∧ s.detAllowed n 2 = true ∧ (s.edge n).blank = false ∧ s.conducting n = true) →
        exec (.desat n v) s = .next (s.setEdge n { s.edge n with dsOver := beyond && (s.edge n).isOn }))) ∧
    (∀ ns : Nat,
      let ends := (s.edge n).blank = true ∧ on ∧ 25 * getBits (s.edge n).prot1 8 8 ≤ ns
      (ends → Runs (.protectionBlankEnd n ns) s (fun t => (t.edge n).blank = false ∧
        ((s.edge n).ocOver = true → s.detAllowed n 1 = true → tripped 1 t) ∧
        ((s.edge n).dsOver = true → s.detAllowed n 2 = true → tripped 2 t) ∧
        ((s.edge n).ocOver = false → (s.edge n).dsOver = false → t = s.setEdge n { s.edge n with blank := false }))) ∧
      (¬ ends → exec (.protectionBlankEnd n ns) s = .next s)) ∧
    (∀ (gn : Int) (ns : Nat),
      let low := gn < (s.railsMv n).1 - 1500 ∧ 25 * getBits (s.edge n).prot1 24 8 ≤ ns
      (low → on → Runs (.gateUv n gn ns) s (tripped 3)) ∧
      (low → (s.edge n).soft = true → Runs (.gateUv n gn ns) s (noted 3)) ∧
      (¬ (low ∧ s.conducting n = true) → exec (.gateUv n gn ns) s = .next s)) ∧
    (∀ vpos vneg : Int,
      let weak := vpos < (s.railsMv n).1 - 1000 ∨ (s.railsMv n).2 + 1000 < vneg
      (weak → s.testing n 4 = false → (s.edge n).out ≠ .parked → Runs (.supUv n vpos vneg) s (fun t => t.edgeBit n 4 = true ∧
        (t.edge n).supUv = true ∧ (on → (t.edge n).out = .soft1) ∧
        ((s.edge n).soft = false → (t.edge n).latch = true ∧ (t.edge n).out ≠ .on))) ∧
      (weak → s.testing n 4 = false → (s.edge n).out = .parked → Runs (.supUv n vpos vneg) s (fun t => t.edgeBit n 4 = true ∧
        t.edges = (s.setEdge n { s.edge n with supUv := true }).edges)) ∧
      (¬ weak ∨ s.testing n 4 = true →
        exec (.supUv n vpos vneg) s = .next (s.setEdge n { s.edge n with supUv := decide weak }))) ∧
    (∀ gn : Int,
      let high := (s.edge n).out = .off ∧ (s.railsMv n).2 + 3000 < gn
      (high → Runs (.outFault n gn) s (fun t => (t.edge n).latch = true ∧ (t.edge n).out = .off ∧ t.edgeBit n 7 = true ∧
        ∀ p : Fin 64, s.mate n = some p → (t.edge p).latch = true ∧ (t.edge p).out ≠ .on)) ∧
      (¬ high → exec (.outFault n gn) s = .next s))) ∧
  (∀ (s : State) (n : Fin 64), s.alive n = false → s.injAt (edgeInj n) = none →
    (∀ (v : BitVec 16) (gn vpos vneg : Int) (ns : Nat), exec (.scHard n v) s = .next s ∧ exec (.gateUv n gn ns) s = .next s ∧
      exec (.supUv n vpos vneg) s = .next s ∧ exec (.outFault n gn) s = .next s ∧
      Runs (.oc n v) s (fun t => t.regs = s.regs ∧ (t.edge n).out = (s.edge n).out) ∧
      Runs (.desat n v) s (fun t => t.regs = s.regs ∧ (t.edge n).out = (s.edge n).out))) ∧
  (∀ (s : State) (n : Fin 64) (det : Nat) (c : Instr), s.alive n = true → s.edgeLive n det = true →
    ((det = 0 ∧ ∃ v, c = .scHard n v) ∨ (det = 1 ∧ ∃ v, c = .oc n v) ∨ (det = 2 ∧ ∃ v, c = .desat n v) ∨
      (det = 3 ∧ ∃ g ns, c = .gateUv n g ns) ∨ (det = 4 ∧ ∃ a b, c = .supUv n a b)) →
    Runs c s (fun t => t.injAt (edgeInj n) = none ∧ t.get (Reg.EDGE.CH.INJ_STATUS.CODE n.val) = codeActed ∧
      t.edgeBit n det = true ∧
        ((s.edge n).out ≠ .parked → (s.edge n).soft = false → (t.edge n).latch = true ∧ (t.edge n).out = .soft1))) ∧
  (∀ (s : State) (n : Fin 64),
    (∀ gn : Int, exec (.softOffPhase1End n gn) s = .next (if (s.edge n).out = .soft1 ∧ gn ≤ s.softLevel n then
      s.setEdge n { s.edge n with out := .soft2 } else s)) ∧
    (∀ ns : Nat, exec (.stoTimeExpiry n ns) s = .next (if ((s.edge n).out = .soft1 ∨ (s.edge n).out = .soft2) ∧
      1000 * (getBits (s.edge n).prot1 16 3 + 1) ≤ ns then s.setEdge n { s.edge n with out := .soft3 } else s)) ∧
    (∀ gn : Int, exec (.softOffEnd n gn) s = .next (if (s.edge n).out = .soft3 ∧ gn < (s.railsMv n).2 + 2000 then
      s.setEdge n { s.edge n with out := .off, ended := true } else s)) ∧
    ((s.edge n).flags ≠ [] → Runs (.protectionFlag n) s (fun t =>
      (s.mate n ≠ some n → (t.edge n).flags = []) ∧
      ((s.chLeg n).trip = 0 → (s.chLeg n).slot < 4 → t.trip.slotLines.getLsbD (s.chLeg n).slot = true) ∧
      (∀ q ∈ s.course.interlocks, q.has (s.chanRec n.val).leg (s.chanRec n.val).out = true →
        ∀ m ∈ s.channelsOf (q.other (s.chanRec n.val).leg (s.chanRec n.val).out).1
          (q.other (s.chanRec n.val).leg (s.chanRec n.val).out).2, n.val ∈ (t.edge m).heldBy) ∧
      ∀ p : Fin 64, s.mate n = some p → s.alive p = true → (s.edge p).out = .on → p ≠ n →
        (t.edge p).latch = true ∧ (t.edge p).out = if (s.edge n).flags.any (·.2) then .soft1 else .off)) ∧
    ((s.edge n).flags = [] → exec (.protectionFlag n) s = .next s) ∧
    exec (.protectionHoldRelease n) s = .next (s.setEdge n
      { s.edge n with heldBy := (s.edge n).heldBy.filter (fun a => !s.holdOver a) }) ∧
    (∀ (det : Fin 6) (a r : Option Nat) (q : Nat),
      let runs := det.val ≤ 3 → (s.edge n).out ≠ .on ∧ (s.edge n).soft = false
      let passes := stepPasses det.val a r q = true
      let waits := det.val = 4 ∧ (s.edge n).supUv = true ∧ (s.edge n).latch = false
      (∀ inject : Bool, ¬ runs → exec (.selftestStep n det inject a r q) s = .next s) ∧
      (runs → (s.edge n).selftest = some det.val →
        (passes → ∀ d : Nat, s.nextDet n (det.val + 1) = some d → Runs (.selftestStep n det false a r q) s (fun t =>
          (t.edge n).selftest = some d ∧ (¬ waits → t = s.setEdge n { s.edge n with selftest := some d }))) ∧
        (passes → s.nextDet n (det.val + 1) = none → Runs (.selftestStep n det false a r q) s (fun t =>
          (t.edge n).selftest = none ∧ t.edgeBit n 16 = true ∧ t.get (Reg.EDGE.CH.CMD_STATUS.BUSY n.val) = b2n (s.edge n).retrain)) ∧
        (¬ passes → Runs (.selftestStep n det false a r q) s (fun t => (t.edge n).selftest = none ∧ t.edgeBit n 9 = true ∧
          (t.edge n).latch = true ∧ t.get (Reg.EDGE.CH.CMD_STATUS.BUSY n.val) = b2n (s.edge n).retrain))) ∧
      (∀ j : Inj, runs → s.injAt (edgeInj n) = some j → j.live = false → j.target = det.val →
        Runs (.selftestStep n det true a r q) s (fun t => t.injAt (edgeInj n) = none ∧
          (passes → t.get (Reg.EDGE.CH.INJ_STATUS.CODE n.val) = codePass ∧ t.edgeBit n det.val = true) ∧
          (¬ passes → t.get (Reg.EDGE.CH.INJ_STATUS.CODE n.val) = codeFail ∧ t.edgeBit n 9 = true ∧ (t.edge n).latch = true))) ∧
      (¬ waits → ((s.edge n).selftest ≠ some det.val → exec (.selftestStep n det false a r q) s = .next s) ∧
        ((∀ j : Inj, s.injAt (edgeInj n) = some j → j.live = true ∨ j.target ≠ det.val) →
          exec (.selftestStep n det true a r q) s = .next s))) ∧
    ((s.edge n).selftest.isSome = true → Runs (.selftestTimeout n) s (fun t => (t.edge n).selftest = none ∧
      t.get (Reg.EDGE.CH.CMD_STATUS.BUSY n.val) = b2n (s.edge n).retrain)) ∧
    ((s.edge n).selftest = none → exec (.selftestTimeout n) s = .next s))

/-- For a channel with its latch set or parked, and an output that is not on, no downlink or uplink frame, no loss, hold-off or retraining, no step of a soft turn-off, no detector of any channel and no flag of any channel turns its output on, and none of them clears the latch. -/
def Obligations.LatchedSwitchStaysOff : Prop :=
  ∀ (s t : State) (n m : Fin 64) (c : Instr), ((s.edge n).latch = true ∨ (s.edge n).out = .parked) → (s.edge n).out ≠ .on →
    ((∃ a b, c = .downlinkFrame m a b) ∨ (∃ a b, c = .uplinkFrame m a b) ∨ c = .linkLoss m ∨ c = .holdoff m ∨ c = .linkAutoRetrain m ∨
      (∃ g : Int, c = .softOffPhase1End m g ∨ c = .softOffEnd m g ∨ c = .outFault m g) ∨
      (∃ k : Nat, c = .stoTimeExpiry m k ∨ c = .protectionBlankEnd m k) ∨ c = .protectionFlag m ∨
      (∃ v : BitVec 16, c = .scHard m v ∨ c = .oc m v ∨ c = .desat m v) ∨ (∃ a b, c = .supUv m a b) ∨
      (∃ g k, c = .gateUv m g k) ∨
      c = .protectionHoldRelease m) →
    exec c s = .next t → (t.edge n).out ≠ .on ∧ ((s.edge n).latch = true → (t.edge n).latch = true)

/-- On a slot without reset hold and without a task of Probe, with neither course nor migration failed: ARM enters ARMED and clears the latches of the slot's channels; START enters PROBE and starts the detector; STOP from RUN enters GLIDE with reason HOST, from CHARGE it opens a contactor that closes, ramps an ACTIVE session down and stops one that has not begun; RESUME of a host glide and CHARGE with every entry condition wait for the dispatch edge; DISARM enters OFF, RECOVER enters STOPPED, RESTART enters CATCH, DISCHARGE enters DISCHARGE in phase 1 with a chopper leg, else in phase 2 where it is enabled, else it ends with DISCHARGE_FAIL, or STOPPED with DISCHARGE_DONE on a discharged link. -/
def Obligations.DriveCommandsRun : Prop :=
  ∀ (s : State) (i : Fin 4), s.commandable i = true →
    ((s.slot i).judged.resting = true → s.courseActive = true → (s.slot i).above = false → s.hardCause i = false →
      s.driveBlocked = false → Runs (.arm i) s (fun t => s.slotMoved t i .armed .host ∧ t.driveOk i ∧
        t.get Reg.PWM.TRIP.FAILSIDE.SIDES / 4 ^ i.val % 4 = 0 ∧
        ∀ n : Fin 64, s.mapped n = true → (s.chLeg n).slot = i.val →
          (t.edge n).latch = ((s.edge n).supUv || (s.edge n).ot || (s.edge n).hot))) ∧
    ((s.slot i).judged = .armed → s.liveBusy = false → s.swapping = false → Runs (.start i) s (fun t =>
      s.slotMoved t i .probe .host ∧ t.driveOk i ∧ t.slalom[i].rotBusy = true ∧
      t.get (Reg.SLALOM.SL.ROT_RESULT.BUSY i.val) = 1)) ∧
    ((s.slot i).judged = .run → Runs (.stop i) s (fun t => s.slotMoved t i .glide .host ∧ t.driveOk i)) ∧
    ((s.slot i).judged = .charge → Runs (.stop i) s (fun t => t.driveOk i ∧
      (s.chg.phase = .active → t.chg = { s.chg with phase := .rampDown, stopReason := .host } ∧ t.slots = s.slots) ∧
      (s.chg.phase = .closing → s.fbClosed = true → t.slots = s.slots ∧
        t.chg = { s.chg with phase := .opening, ctrLow := false, settle := false, stopReason := .host }) ∧
      (s.chg.phase = .idle ∨ (s.chg.phase = .closing ∧ s.fbClosed = false) → s.slotMoved t i .stopped .host) ∧
      (s.chg.phase = .rampDown ∨ s.chg.phase = .opening → t.chg = s.chg ∧ t.slots = s.slots))) ∧
    ((s.slot i).judged = .glide → (s.slot i).reason = .host → Runs (.resume i) s (fun t =>
      (t.slot i).pendEntry = some .run ∧ (t.slot i).state = (s.slot i).state ∧ t.driveOk i)) ∧
    ((s.slot i).judged = .armed ∨ (s.slot i).judged = .stopped → Runs (.disarm i) s (fun t =>
      s.slotMoved t i .off .host ∧ t.driveOk i)) ∧
    ((s.slot i).judged = .safe → (s.slot i).above = false → s.hardCause i = false → s.patrol.f4 = false →
      Runs (.recover i) s (fun t => s.slotMoved t i .stopped .host ∧ t.driveOk i)) ∧
    ((s.slot i).judged = .safe → s.get Reg.PWM.TRIP.FAILSIDE.SIDES / 4 ^ i.val % 4 = 0 → s.trip.ov = false →
      s.phaseHeld i = false → s.hardCause i = false → s.patrol.f4 = false → Runs (.restart i) s (fun t =>
        s.slotMoved t i .catching .restart ∧ t.driveOk i ∧ (t.slot i).method = (if (s.slot i).above then 2 else 1))) ∧
    ((s.slot i).judged.resting = true ∨ (s.slot i).judged = .armed → (∀ k : Fin 4, k ≠ i → (s.slot k).state.resting = true) →
      s.slow i = true → s.driveBlocked = false → Runs (.discharge i) s (fun t => t.driveOk i ∧
        (s.linkDischarged = true → (t.slot i).state = .stopped ∧ t.causeSet ⟨34 + i.val, 9⟩ = true) ∧
        (s.linkDischarged = false → s.hasDischLeg = true → s.slotMoved t i .discharge .host ∧ (t.slot i).dischPhase = 1 ∧
          t.chop.dischReq = true) ∧
        (s.linkDischarged = false → s.hasDischLeg = false → s.flag (Reg.DRIVE.SLOT.PARAMS.DISCH_EN i.val) = true →
          s.slotMoved t i .discharge .host ∧ (t.slot i).dischPhase = 2 ∧ t.chop.dischReq = false) ∧
        (s.linkDischarged = false → s.hasDischLeg = false → s.flag (Reg.DRIVE.SLOT.PARAMS.DISCH_EN i.val) = false →
          (t.slot i).state = .stopped ∧ t.causeSet ⟨34 + i.val, 10⟩ = true))) ∧
    (i = 0 → s.chargeDeny = 0 → (s.slot i).judged = .armed → s.driveBlocked = false → Runs (.charge i) s (fun t =>
      (t.slot i).pendEntry = some .charge ∧ t.get Reg.DRIVE.CHG.STATUS.DENY = 0 ∧ t.driveOk i ∧
      t.get Reg.DRIVE.CHG.EVENTS.SESSIONS = min (s.get Reg.DRIVE.CHG.EVENTS.SESSIONS + 1) 255))

/-- ARM outside OFF and STOPPED or without its conditions, START outside ARMED or while a test or a swap runs, STOP outside RUN and CHARGE, RESUME of anything but a host glide, DISARM outside ARMED and STOPPED, RECOVER and RESTART outside SAFE or without their conditions, CHARGE on another slot than D0, outside ARMED or with an entry condition that fails, which DENY then names, DISCHARGE outside OFF, ARMED and STOPPED, in motion or beside a slot in use, and every command on a slot under a reset hold or a task of Probe or after a failed course or migration read STATE_DENIED, set it (under a reset hold that of RST too), and leave slots, legs, slot lines and channels as they were. -/
def Obligations.DriveCommandsRefused : Prop :=
  (∀ (s : State) (i : Fin 4) (c : Instr),
    let x := s.slot i
    let clear := s.hardCause i = false ∧ s.patrol.f4 = false
    ((c = .arm i ∧ ¬ (x.judged.resting = true ∧ s.courseActive = true ∧ x.above = false ∧ s.hardCause i = false ∧
        s.driveBlocked = false)) ∨
      (c = .start i ∧ ¬ (x.judged = .armed ∧ s.liveBusy = false ∧ s.swapping = false)) ∨
      (c = .stop i ∧ x.judged ≠ .run ∧ x.judged ≠ .charge) ∨ (c = .resume i ∧ ¬ (x.judged = .glide ∧ x.reason = .host)) ∨
      (c = .disarm i ∧ x.judged ≠ .armed ∧ x.judged ≠ .stopped) ∨
      (c = .recover i ∧ ¬ (x.judged = .safe ∧ x.above = false ∧ clear)) ∨
      (c = .restart i ∧ ¬ (x.judged = .safe ∧ s.get Reg.PWM.TRIP.FAILSIDE.SIDES / 4 ^ i.val % 4 = 0 ∧ s.trip.ov = false ∧
        s.phaseHeld i = false ∧ clear)) ∨
      (c = .charge i ∧ ¬ (i = 0 ∧ s.chargeDeny = 0 ∧ x.judged = .armed ∧ s.driveBlocked = false)) ∨
      (c = .discharge i ∧ ¬ ((x.judged.resting = true ∨ x.judged = .armed) ∧
        (∀ k : Fin 4, k ≠ i → (s.slot k).state.resting = true) ∧ s.slow i = true ∧ s.driveBlocked = false)) ∨
      (s.commandable i = false ∧ (c = .arm i ∨ c = .start i ∨ c = .stop i ∨ c = .resume i ∨ c = .disarm i ∨ c = .recover i ∨
        c = .restart i ∨ c = .charge i ∨ c = .discharge i))) →
    Runs c s (fun t => s.driveRefused t i ∧ (s.trip.resetHold.getLsbD i.val = true → t.causeSet ⟨45, 5⟩ = true))) ∧
  (∀ s : State, s.chargeDeny ≠ 0 → Runs (.charge 0) s (fun t => t.get Reg.DRIVE.CHG.STATUS.DENY = s.chargeDeny))

/-- A deadline of CATCH with a low EMF throughout makes the lock STILL due; otherwise it is a failed attempt, the third of an episode sets CATCH_FAIL and enters SAFE; the episode ends in RUN or GLIDE. Standstill ends a glide in STOPPED, or in RUN after a reverse; a late one sets GLIDE_TIMEOUT. The OV_TRIP2 line deasserts. Phase 1 of a discharge that times out goes to phase 2 when enabled, else it fails; phase 2 ends with DISCHARGE_DONE or DISCHARGE_FAIL. The chopper request releases below its threshold, which passes a pulse not yet verified; an unverified pulse that showed current or fell by DV passes, another sets CHOP_FAULT of the slots that Slalom serves and FRICTION_REQ. Outside its state each changes no more than the value it brings. -/
def Obligations.DriveTimersRun : Prop :=
  ∀ (s : State) (i : Fin 4),
    let x := s.slot i
    (x.judged ≠ .catching ∨ x.stillDue = true → exec (.catchDeadline i) s = .next s) ∧
    (x.judged = .catching → x.stillDue = false → s.slalom[i].lockHigh = false → x.method = 1 →
      exec (.catchDeadline i) s = .next (s.setSlot i { x with stillDue := true })) ∧
    (x.judged = .catching → x.stillDue = false → s.slalom[i].lockHigh = true ∨ x.method ≠ 1 →
      Runs (.catchDeadline i) s (fun t =>
        t.get (Reg.DRIVE.SLOT.EVENTS.CATCH_FAILS i.val) = min (s.get (Reg.DRIVE.SLOT.EVENTS.CATCH_FAILS i.val) + 1) 255 ∧
        (x.tries < 2 → t.slot i = { x with tries := x.tries + 1 } ∧ t.slalom[i].lockHigh = false) ∧
        (2 ≤ x.tries → s.slotMoved t i .safe .f3 ∧ t.causeSet ⟨34 + i.val, 3⟩ = true ∧
          t.trip.slotLines.getLsbD i.val = true))) ∧
    exec (.catchEpisodeEnd i) s = .next (if x.state = .run ∨ x.state = .glide then
      s.setSlot i { x with episode := false, tries := 0 } else s) ∧
    (s.slow i = true → x.judged = .glide → x.reason ≠ .reverse → Runs (.standstill i) s (fun t => s.slotMoved t i .stopped .none)) ∧
    (s.slow i = true → x.judged = .glide → x.reason = .reverse → Runs (.standstill i) s (fun t =>
      (t.slot i).pendEntry = some .run)) ∧
    (s.slow i = true → x.judged ≠ .glide → exec (.standstill i) s = .next (s.setSlot i { x with restRun := true })) ∧
    (s.slow i = false → exec (.standstill i) s = .next s) ∧
    (if x.judged = .glide ∧ s.get (Reg.DRIVE.SLOT.TIMES.GLIDE_TIMEOUT i.val) ≠ 0 then
      Runs (.glideTimeout i) s (fun t => t.causeSet ⟨34 + i.val, 5⟩ = true ∧ t.slots = s.slots)
     else exec (.glideTimeout i) s = .next s) ∧
    (if s.trip.ov = true ∧ s.dcl.crossA.getLsbD 1 = false ∧ s.dcl.crossB.getLsbD 1 = false then
      Runs .ovTrip2Release s (fun t => t.trip.ov = false ∧ t.slots = s.slots)
     else exec .ovTrip2Release s = .next s) ∧
    (x.state = .discharge → x.dischPhase = 1 → Runs (.dischargePhase1Timeout i) s (fun t => t.chop.dischReq = false ∧
      (s.linkDischarged = true → (t.slot i).state = .stopped ∧ t.causeSet ⟨34 + i.val, 9⟩ = true) ∧
      (s.linkDischarged = false → s.flag (Reg.DRIVE.SLOT.PARAMS.DISCH_EN i.val) = true → t.slot i = { x with dischPhase := 2 }) ∧
      (s.linkDischarged = false → s.flag (Reg.DRIVE.SLOT.PARAMS.DISCH_EN i.val) = false → (t.slot i).state = .stopped ∧
        t.causeSet ⟨34 + i.val, 10⟩ = true))) ∧
    (x.state ≠ .discharge ∨ x.dischPhase ≠ 1 → exec (.dischargePhase1Timeout i) s = .next s) ∧
    (x.state = .discharge → x.dischPhase = 2 → Runs (.dischargePhase2Timeout i) s (fun t =>
      (t.slot i).state = .stopped ∧ t.causeSet ⟨34 + i.val, if s.linkDischarged then 9 else 10⟩ = true)) ∧
    (x.state ≠ .discharge ∨ x.dischPhase ≠ 2 → exec (.dischargePhase2Timeout i) s = .next s) ∧
    (∀ a b : Nat,
      let thr := (s.get Reg.SDM.DCL_OV0.OV_CHOP - s.get Reg.DRIVE.CHOP_THR.HYS) * 1000
      if s.chop.req = true ∧ a < thr ∧ b < thr then
        Runs (.chopRequestRelease a b) s (fun t => t.chop.req = false ∧ t.chop.friction = s.chop.friction ∧
          (s.chop.dischReq = true → t.chop.waiting = s.chop.waiting) ∧
          (s.chop.dischReq = false → t.chop.waiting = false ∧
            t.get Reg.DRIVE.CHOP_STATUS.VERIFIED = if s.chop.waiting then 1 else s.get Reg.DRIVE.CHOP_STATUS.VERIFIED))
      else exec (.chopRequestRelease a b) s = .next { s with dcl := { s.dcl with nowA := a, nowB := b } }) ∧
    (∀ mv : Nat,
      let shown := s.chop.sensed = true ∨ mv + s.get Reg.DRIVE.CHOP_THR.DV * 1000 ≤ s.chop.startMv
      (s.chop.waiting = false → exec (.chopVerify mv) s = .next { s with chop := { s.chop with nowMv := mv } }) ∧
      (s.chop.waiting = true → shown → Runs (.chopVerify mv) s (fun t => t.chop.waiting = false ∧
        t.get Reg.DRIVE.CHOP_STATUS.VERIFIED = 1 ∧ t.chop.friction = s.chop.friction)) ∧
      (s.chop.waiting = true → ¬ shown → Runs (.chopVerify mv) s (fun t => t.chop.friction = true ∧
        t.get Reg.DRIVE.CHOP_STATUS.VERIFIED = 0 ∧ t.get Reg.DRIVE.CHOP_STATUS.FAULT = 1 ∧
        (s.flag (Reg.SLALOM.SL.CFG.ENABLE i.val) = true → t.causeSet ⟨34 + i.val, 8⟩ = true) ∧
        ((∀ k : Fin 4, s.flag (Reg.SLALOM.SL.CFG.ENABLE k.val) = false) → t.causeSet ⟨34, 8⟩ = true))))

/-- SOURCE_OK sets its bit only while its conditions hold; SOURCE_LOST clears it, and in CLOSING, ACTIVE or RAMP_DOWN counts it and sets its cause. The feedback of FB_POL settles CLOSING, sets its fault when it opens in ACTIVE, and ends OPENING. A park brake released in CHARGE sets PARK_LOST. The close timer faults without feedback, the settle timer makes the session ACTIVE, the ramp timer sets RAMP_TIMEOUT and opens, the open timer faults while the feedback still reads closed, in SAFE after CHARGE too. Outside their phase the timers change nothing. -/
def Obligations.ChargingCommandsRun : Prop :=
  ∀ s : State,
    (s.sourceGood = true → Runs .sourceOk s (fun t => t.flag Reg.DRIVE.CHG.STATUS.SOURCE_OK = true)) ∧
    (s.sourceGood = false → exec .sourceOk s = .next s) ∧
    (s.flag Reg.DRIVE.CHG.STATUS.SOURCE_OK = false ∨ s.sourceGood = true → exec .sourceLost s = .next s) ∧
    (s.flag Reg.DRIVE.CHG.STATUS.SOURCE_OK = true → s.sourceGood = false → (s.chg.phase = .idle ∨ s.chg.phase = .opening) →
      exec .sourceLost s = .next (s.put Reg.DRIVE.CHG.STATUS.SOURCE_OK 0)) ∧
    (s.flag Reg.DRIVE.CHG.STATUS.SOURCE_OK = true → s.sourceGood = false →
      (s.chg.phase = .closing ∨ s.chg.phase = .active ∨ s.chg.phase = .rampDown) → Runs .sourceLost s (fun t =>
        t.flag Reg.DRIVE.CHG.STATUS.SOURCE_OK = false ∧ t.causeSet ⟨2, 0⟩ = true ∧
        t.get Reg.DRIVE.CHG.EVENTS.SOURCE_LOSSES = min (s.get Reg.DRIVE.CHG.EVENTS.SOURCE_LOSSES + 1) 255)) ∧
    (∀ high : Bool,
      let closed := high == s.flag Reg.DRIVE.CHG.CFG.FB_POL
      (s.chg.phase = .closing → exec (.ctrFbChange high) s = .next { s with
        chg := { s.chg with fbHigh := high, settle := closed } }) ∧
      (s.chg.phase = .active → closed = false → Runs (.ctrFbChange high) s (fun t =>
        t.chg = { s.chg with fbHigh := high } ∧ t.causeSet ⟨2, 1⟩ = true ∧
        t.get Reg.DRIVE.CHG.EVENTS.CTR_FAULTS = min (s.get Reg.DRIVE.CHG.EVENTS.CTR_FAULTS + 1) 255)) ∧
      (s.chg.phase = .opening → closed = false → (s.slot 0).judged = .charge → Runs (.ctrFbChange high) s (fun t =>
        s.slotMoved t 0 .stopped s.chg.stopReason ∧ t.chg.phase = .idle)) ∧
      (s.chg.phase = .opening → closed = false → (s.slot 0).judged ≠ .charge → exec (.ctrFbChange high) s = .next { s with
        chg := { s.chg with fbHigh := high, phase := .idle } }) ∧
      (s.chg.phase = .idle ∨ s.chg.phase = .rampDown ∨ (closed = true ∧ (s.chg.phase = .active ∨ s.chg.phase = .opening)) →
        exec (.ctrFbChange high) s = .next { s with chg := { s.chg with fbHigh := high } })) ∧
    (∀ high : Bool, Runs (.parkInChange high) s (fun t =>
      t.chg = { s.chg with parkHigh := high } ∧ t.slots = s.slots ∧
      (high ≠ s.flag Reg.DRIVE.CHG.CFG.PARK_POL → (s.slot 0).state = .charge → t.causeSet ⟨2, 3⟩ = true))) ∧
    (if s.chg.phase = .closing ∧ s.fbClosed = false then
      Runs .closeTimeExpiry s (fun t => t.causeSet ⟨2, 1⟩ = true ∧ t.chg = s.chg)
     else exec .closeTimeExpiry s = .next s) ∧
    exec .settleExpiry s = .next (if s.chg.phase = .closing ∧ s.chg.settle = true ∧ s.fbClosed = true then
      { s with chg := { s.chg with phase := .active, settle := false } } else s) ∧
    (s.chg.phase = .rampDown → s.fbClosed = true → Runs .rampTimeout s (fun t => t.causeSet ⟨2, 7⟩ = true ∧
      t.chg = { s.chg with phase := .opening, ctrLow := false })) ∧
    (s.chg.phase = .rampDown → s.fbClosed = false → Runs .rampTimeout s (fun t => t.causeSet ⟨2, 7⟩ = true ∧
      (t.slot 0).state = .stopped)) ∧
    (s.chg.phase ≠ .rampDown → exec .rampTimeout s = .next s) ∧
    (if (s.chg.phase = .opening ∨ s.safeAfterCharge = true) ∧ s.fbClosed = true then
      Runs .openTimeExpiry s (fun t => t.causeSet ⟨2, 2⟩ = true ∧ t.chg = s.chg)
     else exec .openTimeExpiry s = .next s)

/-- A value that enters with a copy that differs counts in AGREE_FIX with its cause, and acts as its median does. Every comparison outside HALT counts the lanes with a parity error and those whose word an error excludes, with their causes; at a voted point the voter delivers the median of the words left. In TRIPLE with three judges and no excluded word, a voting lane that all judges name odd stops voting, MODE reads RESYNC and ODD the lane, LANE_FAULTS counts and its cause sets, or, at the third fault in an hour, it is retired, SPARE_OUT where no spare is ready; a judge that two others contradict is removed. Fewer than two words left is a DOUBLE, and so are, before three judges, words of which no two are alike or a sweep whose stream differs: MODE HALT, its cause, and the slot line of every slot; no odd lane changes no lane. The end of the sweep lets the lane rejoin in TRIPLE when Carve and Slalom are idle; without rejoin it is retired, and with no spare ready MODE reads DUPLEX. Injections into a voting lane or a healthy judge become pending, others are refused; CLEAR_STATS zeroes the counts. -/
def Obligations.LaneCommandsRun : Prop :=
  ∀ s : State,
    (∀ c : Instr, s.agreesOn c) ∧
    (s.agreeFix true).causeSet ⟨4, 13⟩ = true ∧
    (s.agreeFix true).get Reg.TRIAD.COUNTS1.AGREE_FIX = min (s.get Reg.TRIAD.COUNTS1.AGREE_FIX + 1) 65535 ∧
    (∀ (point : ComparePoint) (words : Vector CompareWord 4) (j1 j2 j3 par path : BitVec 4) (d : Bool),
      (s.laneMode = 3 ∨ s.clk.rootRuns = false → exec (.laneFault point words j1 j2 j3 d par path) s = .next s) ∧
      (s.laneMode ≠ 3 → s.clk.rootRuns = true →
        let fix := par &&& s.voting &&& ~~~path
        let out := path &&& s.voting
        Runs (.laneFault point words j1 j2 j3 d par path) s (fun t =>
          t.get Reg.TRIAD.COUNTS2.ALIGN_PARITY = min (s.get Reg.TRIAD.COUNTS2.ALIGN_PARITY + ones fix) 65535 ∧
          t.get Reg.TRIAD.COUNTS2.ALIGN_PATH = min (s.get Reg.TRIAD.COUNTS2.ALIGN_PATH + ones out) 65535 ∧
          (fix ≠ 0#4 → t.causeSet ⟨4, 11⟩ = true) ∧ (out ≠ 0#4 → t.causeSet ⟨4, 12⟩ = true) ∧ t.slots = s.slots ∧
          (votedPoint point = true → t.triad.voted = votedWord (wordsOf words (s.voting &&& ~~~path))) ∧
          (ones (s.voting &&& ~~~out) < 2 ∨
              (s.judges = 7#3 ∧ (noneAlike (wordsOf words (s.voting &&& ~~~out)) = true ∨ (d = true ∧ s.laneMode = 1))) →
            t.laneMode = 3 ∧ t.causeSet ⟨4, 3⟩ = true ∧ t.trip.slotLines = 0xF#4 ∧ t.triad.resetDue = true)))) ∧
    (∀ (point : ComparePoint) (words : Vector CompareWord 4) (j1 j2 j3 par path : BitVec 4), s.laneMode = 0 → s.clk.rootRuns = true →
      2 ≤ ones s.voting → noneAlike (wordsOf words s.voting) = false → path &&& s.voting = 0#4 → s.judges = 7#3 → j1 &&& s.voting = j2 &&& s.voting →
      (j1 &&& s.voting = 0#4 → j3 &&& s.voting = 0#4 → Runs (.laneFault point words j1 j2 j3 false par path) s (fun t =>
        t.laneMode = 0 ∧ t.voting = s.voting ∧ t.judges = 7#3)) ∧
      ∀ x : Fin 4, j1 &&& s.voting = 1#4 <<< x.val → Runs (.laneFault point words j1 j2 j3 false par path) s (fun t =>
        t.triad.lastIndex = words[x].index ∧ t.judges = (if j3 &&& s.voting = 1#4 <<< x.val then 7#3 else 3#3) ∧
        (j3 &&& s.voting ≠ 1#4 <<< x.val → t.causeSet ⟨4, 8⟩ = true) ∧ t.voting = s.voting &&& ~~~(1#4 <<< x.val) ∧
        t.get Reg.TRIAD.COUNTS0.LANE_FAULTS = min (s.get Reg.TRIAD.COUNTS0.LANE_FAULTS + 1) 65535 ∧
        ((s.triad.times.getD x.val []).length < 2 → t.laneMode = 1 ∧ t.get Reg.TRIAD.STATUS.ODD = x.val ∧
          t.causeSet ⟨4, 0⟩ = true ∧ t.triad.sweepDone = false) ∧
        (∀ (a b : Nat) (l : List Nat), s.triad.times.getD x.val [] = a :: b :: l → s.now.1.1 < b + 3600 →
          s.liveFlip x.val point.code = false → t.causeSet ⟨4, 4⟩ = true ∧
          t.groom.live.lanes = s.groom.live.lanes ||| (1#4 <<< x.val) ∧ t.laneMode = (if s.spareReady = none then 2 else 1) ∧
          (s.spareReady = none → t.causeSet ⟨4, 6⟩ = true ∧ t.causeSet ⟨5, 2⟩ = true)))) ∧
    exec .sweepEnd s = .next (if s.laneMode = 1 then { s with triad := { s.triad with sweepDone := true } } else s) ∧
    (∀ (cycles : Nat) (read : Bool),
      let joins := s.laneMode = 1 ∧ s.triad.sweepDone = true ∧ s.lanesIdle = true
      (joins → Runs (.laneRejoin cycles read) s (fun t => t.causeSet ⟨4, 1⟩ = true ∧
        t.get Reg.TRIAD.COUNTS0.RESYNCS = min (s.get Reg.TRIAD.COUNTS0.RESYNCS + 1) 65535 ∧
        t.get Reg.TRIAD.RESYNC.LAST = min cycles 65535 ∧ (s.triad.heldReports.length ≤ 1 → t.triad.heldReports = []) ∧
        (s.triad.heldReports = [] → t.laneMode = 0 ∧ t.voting.getLsbD (s.get Reg.TRIAD.STATUS.ODD) = true) ∧
        (s.triad.spare = some (s.get Reg.TRIAD.STATUS.ODD) → t.causeSet ⟨4, 5⟩ = true ∧ t.causeSet ⟨5, 0⟩ = true ∧
          t.causeSet ⟨5, 1⟩ = true) ∧
        (s.triad.spare ≠ some (s.get Reg.TRIAD.STATUS.ODD) → s.triad.latentPoint = true → read = false →
          t.causeSet ⟨4, 2⟩ = true))) ∧
      (¬ joins → exec (.laneRejoin cycles read) s = .next s)) ∧
    (s.laneMode = 1 → Runs .resyncTimeout s (fun t => t.causeSet ⟨4, 7⟩ = true ∧
      t.groom.live.lanes = s.groom.live.lanes ||| (1#4 <<< s.get Reg.TRIAD.STATUS.ODD) ∧
      (s.spareReady = none ∨ s.triad.spare = some (s.get Reg.TRIAD.STATUS.ODD) → t.laneMode = 2 ∧ t.causeSet ⟨4, 6⟩ = true ∧
        t.causeSet ⟨5, 2⟩ = true) ∧
      (∀ d : Nat, d < 4 → s.spareReady = some d → d ≠ s.get Reg.TRIAD.STATUS.ODD → t.laneMode = 1 ∧
        t.get Reg.TRIAD.STATUS.ODD = d))) ∧
    (s.laneMode ≠ 1 → exec .resyncTimeout s = .next s) ∧
    (∀ (target : Fin 8) (cls : Nat), target = 7 ∨ (cls ≠ 1 ∧ cls ≠ 2) → exec (.triadInject target cls) s = .next s) ∧
    (∀ (target : Fin 8) (cls : Nat), target ≠ 7 → (cls = 1 ∨ cls = 2) →
      let free := s.noneRuns Reg.TRIAD.INJ_STATUS.addr = true ∧
        (target.val < 4 → s.voting.getLsbD target.val = true) ∧
        (cls = 2 → s.liveAllowed = true ∧ if target.val < 4 then s.laneMode = 0 else s.judges = 7#3)
      (free → Runs (.triadInject target cls) s (fun t => t.get Reg.TRIAD.INJ_STATUS.CODE = codePending ∧
        t.injs = s.withInj ⟨Reg.TRIAD.INJ_STATUS.addr, decide (cls = 2), target.val, 0, 0⟩ ∧
        t.triad.invert = if cls = 2 ∧ 4 ≤ target.val then s.triad.invert ||| (1#3 <<< (target.val - 4)) else s.triad.invert)) ∧
      (¬ free → Runs (.triadInject target cls) s (fun t => t.get Reg.TRIAD.INJ_STATUS.CODE = codeDenied ∧
        t.causeSet ⟨4, 14⟩ = true ∧ t.injs = s.injs ∧ t.triad = s.triad))) ∧
    Runs .triadClearStats s (fun t => t.rd Reg.TRIAD.COUNTS0.addr = 0#32 ∧ t.rd Reg.TRIAD.COUNTS1.addr = 0#32 ∧
      t.rd Reg.TRIAD.COUNTS2.addr = 0#32 ∧ t.rd Reg.TRIAD.RESYNC.addr = 0#32 ∧ t.rd Reg.TRIAD.JSTAT.addr = 0#32 ∧
      t.get Reg.TRIAD.CMD_STATUS.CODE = codeOk ∧ t.laneMode = s.laneMode)

/-- Patrol takes the most urgent setting that waits. With the class that the escalation entries give a real setting, or the class in force for a live one: class F2 moves every slot of its set that is in RUN to GLIDE with reason F2, F3 moves every slot of the set to SAFE, and F4 moves every slot to SAFE and enters F4, but for slots held by a failed migration; classes F0 and F1 move no slot. A shadow-marked setting moves no slot and enters no F4. With nothing waiting, an observer loss that waited for graver settings takes its slot from RUN or GLIDE to CATCH. -/
def Obligations.ClassifiedCausesReact : Prop :=
  ∀ s : State,
    (s.toClassify = [] → exec .causeClassify s = .next s.obsSettle ∧
      ∀ i : Fin 4, (s.slot i).obsDue = true → (s.slot i).state = .run ∨ (s.slot i).state = .glide →
        (∀ j : Fin 4, j ≠ i → (s.slot j).obsDue = false) → Runs .causeClassify s (fun t =>
          (t.slot i).state = .catching ∧ (t.slot i).reason = .obsLost ∧ (t.slot i).obsDue = false)) ∧
    ∀ x : Setting, s.nextSetting s.toClassify = some x → (∀ i : Fin 4, (s.slot i).obsDue = false) →
      let c : Cause := ⟨x.grp, x.bit⟩
      let s0 := { s with toClassify := s.toClassify.erase x }
      let cls := if x.mark = .real then (s0.escalate c (s0.classOf c)).1 else s0.classOf c
      (x.mark = .shadow → Runs .causeClassify s (fun t => t.slots = s.slots ∧ t.patrol = s.patrol ∧ t.trip = s.trip ∧
        t.toClassify = s.toClassify.erase x)) ∧
      (x.mark ≠ .shadow → Runs .causeClassify s (fun t =>
        (cls ≤ 1 ∨ 4 < cls → t.slots = s.slots ∧ t.patrol.f4 = s.patrol.f4) ∧
        (cls = 2 → t.patrol.f4 = s.patrol.f4 ∧
          ∀ i : Fin 4, inMask (s.slotsOf c) i = true → s.reacts i = true → (s.slot i).judged = .run →
            (t.slot i).state = .glide ∧ (t.slot i).reason = .f2) ∧
        (cls = 3 → t.patrol.f4 = s.patrol.f4 ∧ ∀ i : Fin 4,
          if inMask (s.slotsOf c) i && s.reacts i then (t.slot i).state = .safe else t.slot i = s.slot i) ∧
        (cls = 4 → t.patrol.f4 = true ∧ ∀ i : Fin 4, s.reacts i = true → (t.slot i).state = .safe)))

/-- An escalation window that ends zeroes its count. CLEAR_F4 ends F4 unless a reason stands, then it is refused; CLEAR_FIRST zeroes FIRST; FRICTION_ON and OFF set and end the host's request. A kick with the due key in time advances NEXT, another one expires the watchdog, as its deadline does; inside a SHADOW window both wait. A stall sets its cause in a watched state; SUP_WDOG arms its reset; a supervisor report changes nothing. An injection into an enabled target becomes pending, one into the chopper is judged at once, others are refused; its window ends in PASS with shadow marks or FAIL, or, LIVE, in ACTED; its timeout in TIMEOUT, of a judge with no verdict inverted, unless its result is shown. A query gives the class in force; a read of FIRST latches its time. -/
def Obligations.PatrolCommandsRun : Prop :=
  ∀ s : State,
    (∀ e : Fin 8, Runs (.escWindowEnd e) s (fun t => t.get (Reg.PATROL.ESC.STATUS.RUN e.val) = 0 ∧ t.slots = s.slots)) ∧
    (let j := s.get Reg.TRIAD.STATUS.JUDGES
      let clear := s.realCauses.any (fun c => decide (s.classNow c = 4)) = false ∧ s.flag Reg.CLK.STATUS.BRIDGE = false ∧
        2 ≤ j % 2 + j / 2 % 2 + j / 4 % 2 ∧ s.courseActive = true ∧ s.supply.below16 = false
      (clear → Runs .clearF4 s (fun t => t.patrol.f4 = false ∧ t.causeSet ⟨0, 8⟩ = true ∧
        t.get Reg.PATROL.CMD_STATUS.CODE = codeOk)) ∧
      (¬ clear → Runs .clearF4 s (fun t => t.patrol.f4 = s.patrol.f4 ∧ t.causeSet ⟨0, 12⟩ = true ∧
        t.get Reg.PATROL.CMD_STATUS.CODE = codeDenied))) ∧
    Runs .clearFirst s (fun t => t.rd Reg.PATROL.FIRST.addr = 0#32 ∧ t.get Reg.PATROL.CMD_STATUS.CODE = codeOk) ∧
    Runs .frictionOn s (fun t => t.patrol = { s.patrol with hostFriction := true } ∧ t.frictionAsked = true ∧
      t.get Reg.PATROL.CMD_STATUS.CODE = codeOk) ∧
    Runs .frictionOff s (fun t => t.patrol = { s.patrol with hostFriction := false } ∧
      t.get Reg.PATROL.CMD_STATUS.CODE = codeOk) ∧
    (s.wdogOn = true →
      (∀ (key : BitVec 8) (ms : Nat),
        let good := key = (if s.flag Reg.PATROL.WDOG_STATUS.NEXT then 0xA5#8 else 0x5A#8) ∧
          ¬ (s.patrol.kicked = true ∧ ms < s.get Reg.PATROL.WDOG_CFG.MIN)
        (good → Runs (.wdogKick key ms) s (fun t =>
          t.get Reg.PATROL.WDOG_STATUS.NEXT = 1 - s.get Reg.PATROL.WDOG_STATUS.NEXT ∧ t.patrol.kicked = true)) ∧
        (¬ good → s.windowAt 8 0 = true → exec (.wdogKick key ms) s = .next (s.noteSeen 1)) ∧
        (¬ good → s.windowAt 8 0 = false → Runs (.wdogKick key ms) s (fun t => t.get Reg.PATROL.WDOG_STATUS.NEXT = 0 ∧ t.causeSet ⟨0, 0⟩ = true ∧
          t.get Reg.PATROL.WDOG_STATUS.EXPIRIES = min (s.get Reg.PATROL.WDOG_STATUS.EXPIRIES + 1) 255))) ∧
      (s.windowAt 8 0 = false → Runs .hostWdog s (fun t => t.get Reg.PATROL.WDOG_STATUS.NEXT = 0 ∧ t.causeSet ⟨0, 0⟩ = true ∧
        t.get Reg.PATROL.WDOG_STATUS.EXPIRIES = min (s.get Reg.PATROL.WDOG_STATUS.EXPIRIES + 1) 255)) ∧
      (s.windowAt 8 0 = true → exec .hostWdog s = .next (s.noteSeen 1))) ∧
    (s.wdogOn = false → exec .hostWdog s = .next s ∧ ∀ (key : BitVec 8) (ms : Nat), exec (.wdogKick key ms) s = .next s) ∧
    (∀ i : Fin 4,
      ((s.slot i).state.watched = true → s.windowAt 9 i.val = false → Runs (.taskStall i) s (fun t =>
        t.causeSet ⟨0, 1 + i.val⟩ = true ∧ t.slots = s.slots)) ∧
      ((s.slot i).state.watched = true → s.windowAt 9 i.val = true → exec (.taskStall i) s = .next (s.noteSeen 1)) ∧
      ((s.slot i).state.watched = false → exec (.taskStall i) s = .next s)) ∧
    Runs .supWdog s (fun t => t.patrol.supDue = true ∧ t.causeSet ⟨0, 5⟩ = true) ∧
    exec .supervisorReport s = .next s ∧
    (∀ cls : Nat, cls ≠ 1 → cls ≠ 2 → exec (.patrolInject cls) s = .next s) ∧
    (∀ cls : Nat, (cls = 1 ∨ cls = 2) →
      let target := s.get Reg.PATROL.INJ_TARGET.TARGET
      let index := s.get Reg.PATROL.INJ_TARGET.INDEX
      let free := s.noneRuns Reg.PATROL.INJ_STATUS.addr = true ∧ s.patrolTarget target index = true ∧
        (cls = 2 → s.liveAllowed = true ∧ target ≠ 8 ∧ target ≠ 9 ∧ target ≠ 11)
      (free → target ≠ 10 → Runs (.patrolInject cls) s (fun t => t.get Reg.PATROL.INJ_STATUS.CODE = codePending ∧
        t.injs = s.withInj ⟨Reg.PATROL.INJ_STATUS.addr, decide (cls = 2), target, index, 0⟩)) ∧
      (free → target = 10 → Runs (.patrolInject cls) s (fun t => t.injAt Reg.PATROL.INJ_STATUS.addr = none ∧
        t.get Reg.PATROL.INJ_STATUS.CODE = (if cls = 2 then codeActed else codePass) ∧
        t.chop.friction = (decide (cls = 2) || s.chop.friction))) ∧
      (¬ free → Runs (.patrolInject cls) s (fun t => t.get Reg.PATROL.INJ_STATUS.CODE = codeDenied ∧
        t.causeSet ⟨0, 12⟩ = true ∧ t.injs = s.injs))) ∧
    (∀ (ctrl : Nat) (pass : Bool), s.injAt ctrl = none →
      exec (.injectWindowEnd ctrl pass) s = .next s ∧ exec (.injectTimeout ctrl) s = .next s) ∧
    (∀ (i : Inj) (pass : Bool), s.injAt Reg.PATROL.INJ_STATUS.addr = some i → i.live = false →
      Runs (.injectWindowEnd Reg.PATROL.INJ_STATUS.addr pass) s (fun t => t.injAt Reg.PATROL.INJ_STATUS.addr = none ∧
        t.causeSet ⟨0, 9⟩ = true ∧ t.get Reg.PATROL.INJ_STATUS.CODE = (if pass then codePass else codeFail) ∧
        (pass = true → ∀ c ∈ s.patrolCauses i.target i.index, t.causeSet c = true ∧
          (i.seen = 0 → s.causeSet c = false → t.shadowed c = true)) ∧
        (i.seen = 0 → t.slots = s.slots)) ∧
      (i.seen ≠ 2 → Runs (.injectTimeout Reg.PATROL.INJ_STATUS.addr) s (fun t =>
        t.get Reg.PATROL.INJ_STATUS.CODE = codeTimeout ∧ t.injAt Reg.PATROL.INJ_STATUS.addr = none))) ∧
    (∀ (i : Inj) (ctrl : Nat), s.injAt ctrl = some i → i.seen = 2 → exec (.injectTimeout ctrl) s = .next s) ∧
    (∀ i : Inj, s.injAt Reg.TRIAD.INJ_STATUS.addr = some i → i.seen ≠ 2 → Runs (.injectTimeout Reg.TRIAD.INJ_STATUS.addr) s
      (fun t => t.get Reg.TRIAD.INJ_STATUS.CODE = codeTimeout ∧ t.injAt Reg.TRIAD.INJ_STATUS.addr = none ∧ t.triad.invert = 0#3)) ∧
    (∀ (i : Inj) (pass : Bool), s.injAt Reg.PATROL.INJ_STATUS.addr = some i → i.live = true →
      (i.target = 7 → s.carve.running.map (fun t => t.val) ≠ some i.index →
        exec (.injectWindowEnd Reg.PATROL.INJ_STATUS.addr pass) s = .next s) ∧
      (i.target ≠ 7 → Runs (.injectWindowEnd Reg.PATROL.INJ_STATUS.addr pass) s (fun t =>
        t.get Reg.PATROL.INJ_STATUS.CODE = codeActed ∧ t.injAt Reg.PATROL.INJ_STATUS.addr = none))) ∧
    (∀ (g : Fin 48) (b : Fin 32), Runs (.clsQuery g b) s (fun t =>
      t.get Reg.PATROL.CLS_QUERY.GROUP = g.val ∧ t.get Reg.PATROL.CLS_QUERY.BIT = b.val ∧
      (s.classOf ⟨g.val, b.val⟩ < 8 → t.get Reg.PATROL.CLS_INFO.CLASS = s.classOf ⟨g.val, b.val⟩))) ∧
    Runs .patrolFirstRead s (fun t => t.rd Reg.PATROL.FIRST_TIME_S.addr = BitVec.ofNat 32 s.patrol.firstTime.1 ∧
      t.rd Reg.PATROL.FIRST.addr = s.rd Reg.PATROL.FIRST.addr)

/-- A trigger of its kind starts an idle running sequence and counts MISSED on a busy one, others start nothing; a delay ends in a pass; a conversion, of the test DAC near its code, enters its enabled tracker, whose window ends when it is full, meets the limits, and the last one ends the pass, counting PASSES, in a check where one is due; a good check clears its failures, the third bad one takes the core out with its cause. A starved check sets CHECK_STARVED; an idle core powers down where PD says so. A TIME window that ends is kept with the next number; a read of SUM shows the kept window, zeros without one; CLEAR_STATS zeroes the counts; TDAC takes its code; an injection into a limited tracker or a served core becomes pending and meets the next result there, others are refused; the spare takes over after 16 passes. Outside its phase or kind each changes nothing. -/
def Obligations.HkaCommandsRun : Prop :=
  ∀ (s : State) (q : Fin 8),
    let x := s.hka.seqs[q]
    let trig := s.get (Reg.HKA.SEQ.CFG.TRIG q.val)
    let started (t : State) : Prop :=
      (x.phase = .idle → t.hka.seqs[q] = { x with phase := .delay, entry := 0, check := false }) ∧
      (x.phase ≠ .idle → t.hka.seqs[q] = x ∧ t.causeSet ⟨23, 17⟩ = true ∧
        t.get (Reg.HKA.SEQ.STAT.MISSED q.val) = min (s.get (Reg.HKA.SEQ.STAT.MISSED q.val) + 1) 32767)
    (if trig = 1 ∧ s.seqOn q = true then Runs (.hkaTimerTick q) s started else exec (.hkaTimerTick q) s = .next s) ∧
    (s.hkaEvents = [] → exec .hkaPwmTrigger s = .next s) ∧
    (∀ (n : Nat) (rest : List Nat), s.hkaEvents = n :: rest → Runs .hkaPwmTrigger s (fun t => t.hkaEvents = rest ∧
      if trig = 2 ∧ s.get (Reg.HKA.SEQ.CFG.LEG q.val) = n ∧ s.seqOn q = true then started t else t.hka.seqs[q] = x)) ∧
    (∀ mask : BitVec 8, Runs (.hkaStart mask) s (fun t => t.get Reg.HKA.CMD_STATUS.CODE = codeOk ∧
      if mask.getLsbD q.val = true ∧ trig = 3 ∧ s.seqOn q = true then started t else t.hka.seqs[q] = x)) ∧
    Runs .hkaClearStats s (fun t => t.get (Reg.HKA.SEQ.STAT.PASSES q.val) = 0 ∧ t.get (Reg.HKA.SEQ.STAT.MISSED q.val) = 0 ∧
      t.get (Reg.HKA.SEQ.STAT.DEAD q.val) = 0 ∧
      (∀ c : Fin 9, t.get (Reg.HKA.CHECK.FAILS c.val) = 0) ∧ t.hka = s.hka) ∧
    (∀ due : Bool, exec (.hkaDelayEnd q due) s = .next (if x.phase = .delay then
      s.setSeq q { x with phase := .pass, check := due, powered := true } else s)) ∧
    (∀ code : BitVec 12,
      let v := s.converted (s.get (Reg.HKA.SEQ.ENTRY.INPUT q.val x.entry)) code.toNat
      (x.phase ≠ .pass → exec (.hkaConversionEnd q ⟨code, false⟩) s = .next s) ∧
      (x.phase = .pass → s.get (Reg.HKA.SEQ.CFG.LEN q.val) ≤ x.entry → Runs (.hkaConversionEnd q ⟨code, false⟩) s (fun t =>
        t.hka.seqs[q].phase = (if x.check then .check else .idle) ∧
        t.get (Reg.HKA.SEQ.STAT.PASSES q.val) = (s.get (Reg.HKA.SEQ.STAT.PASSES q.val) + 1) % 65536)) ∧
      (x.phase = .pass → x.entry < s.get (Reg.HKA.SEQ.CFG.LEN q.val) → Runs (.hkaConversionEnd q ⟨code, false⟩) s (fun t =>
        t.hka.seqs[q] = { x with entry := x.entry + 1 } ∧
        ∀ k : Fin 64, k.val = s.get (Reg.HKA.SEQ.ENTRY.TRK q.val x.entry) →
          let y := s.hka.trks[k]
          let ends := 65535 ≤ y.count + 1 ∨
            (s.get (Reg.HKA.TRK.CFG.WMODE k.val) = 0 ∧ s.get (Reg.HKA.TRK.WIN.N k.val) ≤ y.count + 1)
          (s.flag (Reg.HKA.TRK.CFG.ENABLE k.val) = false → t.hka.trks = s.hka.trks) ∧
          (s.flag (Reg.HKA.TRK.CFG.ENABLE k.val) = true → s.injAt Reg.HKA.INJ_STATUS.addr = none →
            (¬ ends → t.hka.trks[k].sum = y.sum + v ∧ t.hka.trks[k].count = y.count + 1) ∧
            (ends → t.hka.trks[k].sum = 0 ∧ t.hka.trks[k].count = 0 ∧ t.hka.trks[k].wseq = y.wseq + 1#16 ∧
              t.hka.trks[k].full.map (fun w => (w.sum, w.count)) = some (y.sum + v, y.count + 1)) ∧
            (s.flag (Reg.HKA.TRK.LIM.EN k.val) = true → v < s.get (Reg.HKA.TRK.LIM.LO k.val) ∨
              s.get (Reg.HKA.TRK.LIM.HI k.val) < v → t.causeSet ⟨23, min k.val 16⟩ = true)) ∧
          (∀ i : Inj, s.flag (Reg.HKA.TRK.CFG.ENABLE k.val) = true → s.injAt Reg.HKA.INJ_STATUS.addr = some i → i.target = 0 →
            i.index = k.val → i.seen = 0 → t.hka.trks = s.hka.trks ∧
              if s.flag (Reg.HKA.TRK.LIM.EN k.val) = true then
                t.injAt Reg.HKA.INJ_STATUS.addr = none ∧ t.causeSet ⟨23, min k.val 16⟩ = true ∧
                  t.get Reg.HKA.INJ_STATUS.CODE = (if i.live then codeActed else codePass)
              else if i.live = true then t.injAt Reg.HKA.INJ_STATUS.addr = some { i with seen := 3 }
              else t.injAt Reg.HKA.INJ_STATUS.addr = none ∧ t.get Reg.HKA.INJ_STATUS.CODE = codeFail)))) ∧
    (∀ ref zero : BitVec 12,
      (x.phase ≠ .check → exec (.hkaCheckEnd q ref zero) s = .next s) ∧
      (x.phase = .check →
        let c := s.seqCore q
        let seen := if (s.checkInj c.val).isSome then min (ref.toNat + 64) 4095 else ref.toNat
        let good := 2040 ≤ seen ∧ seen ≤ 2056 ∧ zero.toNat ≤ 8
        Runs (.hkaCheckEnd q ref zero) s (fun t => t.hka.seqs[q].phase = .idle ∧
          t.get (Reg.HKA.CHECK.REF c.val) = seen ∧ t.get (Reg.HKA.CHECK.ZERO c.val) = zero.toNat ∧
          (s.checkInj c.val = none → (good → t.hka.fails[c] = 0) ∧
            (¬ good → s.hka.fails[c] < 2 → t.hka.fails[c] = s.hka.fails[c] + 1) ∧
            (¬ good → s.hka.fails[c] = 2 → t.causeSet ⟨23, 18⟩ = true ∧ c.val ∈ t.groom.live.cores)) ∧
          (∀ i : Inj, s.checkInj c.val = some i → i.live = false → t.hka.fails = s.hka.fails ∧
            t.injAt Reg.HKA.INJ_STATUS.addr = none ∧ t.get Reg.HKA.INJ_STATUS.CODE = if good then codeFail else codePass) ∧
          (∀ i : Inj, s.checkInj c.val = some i → i.live = true → ¬ good → s.hka.fails[c] = 2 →
            t.injAt Reg.HKA.INJ_STATUS.addr = none ∧ t.get Reg.HKA.INJ_STATUS.CODE = codeActed ∧ c.val ∈ t.groom.live.cores)))) ∧
    (if s.flag (Reg.HKA.SEQ.CFG.ENABLE q.val) = true ∧ (trig = 1 ∨ trig = 2 ∨ trig = 4) then
      Runs (.checkStarved q) s (fun t => t.causeSet ⟨23, 20⟩ = true ∧ t.hka = s.hka)
     else exec (.checkStarved q) s = .next s) ∧
    exec (.hkaIdlePowerDown q) s = .next (if x.phase = .idle ∧ s.flag (Reg.HKA.SEQ.CFG.PD q.val) = true then
      s.setSeq q { x with powered := false } else s) ∧
    (∀ k : Fin 64,
      let y := s.hka.trks[k]
      (if s.flag (Reg.HKA.TRK.CFG.ENABLE k.val) = true ∧ s.get (Reg.HKA.TRK.CFG.WMODE k.val) = 1 then
        let w : HkaWindow := ⟨y.sum, y.count, if y.count = 0 then 0 else y.least, if y.count = 0 then 0 else y.most, y.wseq + 1#16⟩
        Runs (.trackerWindowEnd k) s (fun t => t.hka.trks[k] = { y with
          count := 0, sum := 0, least := 0, most := 0, wseq := y.wseq + 1#16, full := some w
          last := if y.count = 0 then y.last else some w })
       else exec (.trackerWindowEnd k) s = .next s) ∧
      (y.full = none → Runs (.trackerSumRead k) s (fun t => t.rd (Reg.HKA.TRK.SUM.addr k.val) = 0#32 ∧
        t.rd (Reg.HKA.TRK.COUNT.addr k.val) = 0#32 ∧ t.rd (Reg.HKA.TRK.MINMAX.addr k.val) = 0#32 ∧
        t.rd (Reg.HKA.TRK.STAT.addr k.val) = 0#32)) ∧
      (∀ w : HkaWindow, y.full = some w → Runs (.trackerSumRead k) s (fun t =>
        t.rd (Reg.HKA.TRK.SUM.addr k.val) = BitVec.ofNat 32 w.sum ∧ t.rd (Reg.HKA.TRK.COUNT.addr k.val) = BitVec.ofNat 32 w.count ∧
        t.rd (Reg.HKA.TRK.MINMAX.addr k.val) = BitVec.ofNat 32 (w.least + w.most * 65536) ∧
        t.get (Reg.HKA.TRK.STAT.WSEQ k.val) = w.wseq.toNat ∧
        t.flag (Reg.HKA.TRK.STAT.STALE k.val) = decide (y.seen = some w.wseq)))) ∧
    (∀ code : BitVec 12, Runs (.tdacWrite code) s (fun t => t.get Reg.HKA.TDAC.CODE = code.toNat ∧ t.hka = s.hka)) ∧
    (∀ cls : Nat, cls ≠ 1 → cls ≠ 2 → exec (.hkaInject cls) s = .next s) ∧
    (∀ cls : Nat, (cls = 1 ∨ cls = 2) →
      let target := s.get Reg.HKA.INJ_TARGET.TARGET
      let k := s.get Reg.HKA.INJ_TARGET.INDEX
      let free := s.noneRuns Reg.HKA.INJ_STATUS.addr = true ∧ (cls = 2 → s.liveAllowed = true) ∧
        ((target = 0 ∧ k < 64 ∧ s.flag (Reg.HKA.TRK.CFG.ENABLE k) = true ∧ s.flag (Reg.HKA.TRK.LIM.EN k) = true) ∨
          (target = 1 ∧ ∃ r : Fin 8, s.servedBy k = some r ∧ s.seqOn r = true))
      (free → Runs (.hkaInject cls) s (fun t => t.get Reg.HKA.INJ_STATUS.CODE = codePending ∧
        t.injs = s.withInj ⟨Reg.HKA.INJ_STATUS.addr, decide (cls = 2), target, k, 0⟩ ∧ t.hka.injChecks = 0)) ∧
      (¬ free → Runs (.hkaInject cls) s (fun t => t.get Reg.HKA.INJ_STATUS.CODE = codeDenied ∧
        t.causeSet ⟨23, 22⟩ = true ∧ t.injs = s.injs))) ∧
    (∀ b : CoreBring, s.hka.bring = some b →
      (b.on = true → 16 ≤ b.passes → Runs .hkaSpareTakeover s (fun t => t.hka = { s.hka with bring := none } ∧
        t.groom.live.coreFor b.seq = b.core ∧ t.causeSet ⟨23, 19⟩ = true ∧ t.causeSet ⟨5, 0⟩ = true ∧ t.causeSet ⟨5, 1⟩ = true)) ∧
      (b.on = false ∨ b.passes < 16 → exec .hkaSpareTakeover s = .next s)) ∧
    (s.hka.bring = none → exec .hkaSpareTakeover s = .next s)

/-- MID on a ready slot starts, its phase legs no longer idle; CABLE turns output A of the first phase leg on, and without one ends at once; on a slot that is not ready they are refused. MID_DONE stores RS, LD, LQ from the measured points and pulses times the higher link voltage, and D_ANGLE, counts SEQ, sets MID_DONE and ends the task, its legs idle; MID_ABORT ends it where the position moved by more than 4 electrical degrees or a current exceeds 1.5 times MID_I, and stores which; otherwise it changes nothing. ABORT ends any task and its pulses. CABLE_LEG_DONE records the leg's length and its switches, warns of a gate charge off the record, and goes to the next phase leg, or ends with its cause. An injection into a target below 4 becomes pending, another is refused. Without its task an end changes nothing. -/
def Obligations.ProbeCommandsRun : Prop :=
  ∀ (s : State) (i : Fin 4),
    let j : Fin 4 := Fin.ofNat 4 s.probe.slot
    (s.probeReady i = true → Runs (.midCmd i) s (fun t => t.probe.task = .mid ∧ t.probe.slot = i.val ∧
      t.get Reg.PROBE.CMD_STATUS.CODE = codeOk ∧
      ∀ n : Fin 32, (s.legRec n.val).slot = i.val → (s.legRec n.val).function = 1 → t.get (Reg.PWM.LEG.IDLE.val n.val) = 0)) ∧
    (s.probeReady i = true → Runs (.cable i) s (fun t => t.get Reg.PROBE.CMD_STATUS.CODE = codeOk ∧
      (∀ l : Nat, s.phaseFrom i.val 0 = some l → t.probe.task = .cable ∧ t.probe.slot = i.val ∧ t.probe.leg = l ∧ t.probe.pulse = some false) ∧
      (s.phaseFrom i.val 0 = none → t.probe = s.probe ∧ t.causeSet ⟨44, 8⟩ = true))) ∧
    (s.probeReady i = false →
      Runs (.midCmd i) s (fun t => t.probe = s.probe ∧ t.get Reg.PROBE.CMD_STATUS.CODE = codeDenied ∧ t.causeSet ⟨44, 12⟩ = true) ∧
      Runs (.cable i) s (fun t => t.probe = s.probe ∧ t.get Reg.PROBE.CMD_STATUS.CODE = codeDenied ∧ t.causeSet ⟨44, 12⟩ = true)) ∧
    let off (t : State) : Prop := ∀ n : Fin 32, s.midOwns n = true → t.get (Reg.PWM.LEG.IDLE.val n.val) = 1
    (∀ (rs : Vector MidPoint 2) (ld lq : MidPulse) (d : MidAxis),
      (s.probe.task = .mid → Runs (.midDone rs ld lq d) s (fun t =>
        t.probe.task = .none ∧ off t ∧ t.probe.mid[j].result = 1 ∧
        (∀ v : Word, s.higherDc = some v → t.probe.mid[j] = { s.probe.mid[j] with
          result := 1, rs := midRs v rs, ld := midInd v ld, lq := midInd v lq, dAngle := s.midAngle j d }) ∧
        t.causeSet ⟨44, 6⟩ = true ∧
        t.get (Reg.PROBE.MID.STATUS.SEQ j.val) = (s.get (Reg.PROBE.MID.STATUS.SEQ j.val) + 1) % 65536)) ∧
      (s.probe.task ≠ .mid → exec (.midDone rs ld lq d) s = .next s)) ∧
    (if s.probe.task = .mid ∧ (s.midMotion = true ∨ s.midRange = true) then Runs .midAbort s (fun t =>
        t.probe.task = .none ∧ off t ∧ t.causeSet ⟨44, 7⟩ = true ∧
        t.probe.mid[j] = { s.probe.mid[j] with result := if s.midMotion then 4 else 5 } ∧
        t.get (Reg.PROBE.MID.STATUS.SEQ j.val) = (s.get (Reg.PROBE.MID.STATUS.SEQ j.val) + 1) % 65536)
     else exec .midAbort s = .next s) ∧
    (s.probe.task = .mid → ∀ (k : Fin 4) (p : Int), s.probe.posRef = some (k, p) →
      (s.midMotion = true ↔ 4 * s.posCpt k < (s.pos[k].pos - p).natAbs * (360 * (s.slotRec s.probe.slot).polePairs))) ∧
    Runs .probeAbort s (fun t => t.probe.task = .none ∧ t.get Reg.PROBE.CMD_STATUS.CODE = codeOk ∧
      (s.probe.task = .mid → t.causeSet ⟨44, 7⟩ = true ∧ t.probe.mid[j].result = 2 ∧ off t) ∧
      (s.probe.task = .cable → t.probe.pulse = none) ∧
      (s.probe.task ≠ .mid → t.probe.mid = s.probe.mid)) ∧
    (∀ (span : Option Nat) (delays : List SwitchMeas),
      let ms := delays.filter (fun m => !(s.chanRec m.chan.val).unmapped && (s.chanRec m.chan.val).leg == s.probe.leg)
      (s.probe.task ≠ .cable → exec (.cableLegDone span delays) s = .next s) ∧
      (s.probe.task = .cable → Runs (.cableLegDone span delays) s (fun t =>
        (∀ k, s.phaseFrom s.probe.slot (s.probe.leg + 1) = some k → t.probe.task = .cable ∧ t.probe.leg = k ∧
          t.probe.pulse = some false) ∧
        (s.phaseFrom s.probe.slot (s.probe.leg + 1) = none → t.probe.task = .none ∧ t.probe.pulse = none ∧
          t.causeSet ⟨44, 8⟩ = true) ∧
        (ms.any (fun m => s.chargeOff ms m) = true → t.causeSet ⟨44, 9⟩ = true) ∧
        (∀ m ∈ ms, (∀ m' ∈ ms, m'.chan = m.chan → m' = m) →
          t.rd (Reg.PROBE.SWC.DELAY.addr m.chan.val) = BitVec.ofNat 32 (m.tdOn.toNat + m.tdOff.toNat * 4096 + 16777216) ∧
          t.rd (Reg.PROBE.SWC.QG.addr m.chan.val) = BitVec.ofNat 32 m.charge.toNat) ∧
        (s.probe.leg < 32 → ∀ (k n : Nat), span = some k → k ≤ 4500 → s.primaryB s.probe.leg = some n →
          (s.chanRec n).sense / 8 % 2 = 1 →
          fInf? (s.rd Reg.PROBE.VP.addr) = false → let cm : Rat := fRat (s.rd Reg.PROBE.VP.addr) * ((k : Rat) * 2 / 3 / 4) / 40
          (cm + 1 / 2).floor.toNat < 65536 → t.rd (Reg.PROBE.CABLE.addr s.probe.leg) =
            BitVec.ofNat 32 ((cm + 1 / 2).floor.toNat + 65536 + b2n (decide (40000 < cm)) * 131072)) ∧
        (s.probe.leg < 32 → span = none → t.rd (Reg.PROBE.CABLE.addr s.probe.leg) = 0#32)))) ∧
    (∀ cls : Nat, cls ≠ 1 → cls ≠ 2 → exec (.probeInject cls) s = .next s) ∧
    (∀ cls : Nat, (cls = 1 ∨ cls = 2) →
      let free := s.get Reg.PROBE.INJ_TARGET.TARGET < 4 ∧ s.noneRuns Reg.PROBE.INJ_STATUS.addr = true ∧
        (cls = 2 → s.liveAllowed = true)
      (free → Runs (.probeInject cls) s (fun t => t.get Reg.PROBE.INJ_STATUS.CODE = codePending ∧
        t.injs = s.withInj ⟨Reg.PROBE.INJ_STATUS.addr, decide (cls = 2), s.get Reg.PROBE.INJ_TARGET.TARGET, 0, 0⟩)) ∧
      (¬ free → Runs (.probeInject cls) s (fun t =>
        t.get Reg.PROBE.INJ_STATUS.CODE = codeDenied ∧ t.injs = s.injs ∧ t.causeSet ⟨44, 12⟩ = true))) ∧
    (∀ (x : Inj) (pass : Bool), s.injAt Reg.PROBE.INJ_STATUS.addr = some x →
      Runs (.injectWindowEnd Reg.PROBE.INJ_STATUS.addr pass) s (fun t => t.injAt Reg.PROBE.INJ_STATUS.addr = none ∧
        t.get Reg.PROBE.INJ_STATUS.CODE = (if x.live then codeActed else if pass then codePass else codeFail) ∧
        (x.live = true ∨ pass = true → t.causeSet (probeTarget x.target) = true)))

/-- A BIST of a unit that may be tested starts when nothing is tested, a lane, core or filter in use with its replacement by the spare, and out of range it is refused with the verdict RANGE; others are refused; its verdict, once the bring-in it waits for has ended, is stored, counted, and sets BIST_DONE, FAIL its cause, a failed lane is retired, a core faulty. RETURN_LANE of a retired lane starts a test that returns it as the spare, out of range it is refused with RANGE. RESET_BASELINE of a channel at rest clears the figures of its pair. A row with as many corrected errors as its limit, or an uncorrectable one, is replaced and recorded while rows last, below the limit nothing changes; a sector at its limit is marked once, and one whose write-verify fails during a staging is remapped; the record is written or its failure sets the cause. An injection into a powered channel with a sense filter becomes pending, another is refused. -/
def Obligations.GroomerCommandsRun : Prop :=
  ∀ s : State,
    let denied (t : State) : Prop := t.groom = s.groom ∧ t.causeSet ⟨5, 12⟩ = true ∧ t.get Reg.GROOM.CMD_STATUS.CODE = codeDenied
    (∀ (target : BitVec 8) (ok : Bool),
      (s.groom.bist.isSome = true ∨ s.bistKind target.toNat = none → Runs (.groomBist target ok) s denied) ∧
      (∀ k : BistKind, s.groom.bist = none → s.bistKind target.toNat = some k →
        Runs (.groomBist target true) s (fun t => t.groom.bist = some ⟨target.toNat, k⟩ ∧
          t.get Reg.GROOM.CMD_STATUS.BUSY = 1 ∧ t.get Reg.GROOM.CMD_STATUS.CODE = codeOk ∧
          (k = .lane → t.laneMode = 1 ∧ t.voting = s.voting &&& ~~~(1#4 <<< target.toNat)) ∧
          (∀ d n : Nat, k = .inUse → 0x10 ≤ target.toNat → target.toNat ≤ 0x18 → s.spareCore = some d →
            s.coreUsed (target.toNat - 0x10) = some n → t.hka.bring = some { seq := n, core := d }) ∧
          (∀ n : Nat, k = .inUse → 0x20 ≤ target.toNat → s.unitUsed (target.toNat - 0x20) = some n → s.filterBring = false →
            (t.sdm[sdmIdx n]).spare.isSome = true)) ∧
        Runs (.groomBist target false) s (fun t => denied t ∧
          t.get Reg.GROOM.BIST_RESULT.VERDICT = 3 ∧ t.get Reg.GROOM.BIST_RESULT.TARGET = target.toNat))) ∧
    (∀ v : Fin 3,
      let went := if s.groom.ethWait then s.netGo else s
      (s.groom.bist = none → exec (.groomBistDone v) s = .next went) ∧
      ∀ b : BistRun, s.groom.bist = some b →
        (s.bistReady b = false → exec (.groomBistDone v) s = .next went) ∧
        (s.bistReady b = true → Runs (.groomBistDone v) s (fun t => t.groom.bist = none ∧
          (b.target < 256 → t.get Reg.GROOM.BIST_RESULT.TARGET = b.target) ∧
          t.get Reg.GROOM.BIST_RESULT.VERDICT = v.val + 1 ∧ t.causeSet ⟨5, 7⟩ = true ∧ (v = 1 → t.causeSet ⟨5, 8⟩ = true) ∧
          t.get Reg.GROOM.BIST_RESULT.SEQ = (s.get Reg.GROOM.BIST_RESULT.SEQ + 1) % 65536 ∧
          t.get Reg.GROOM.CMD_STATUS.BUSY = 0 ∧
          (v = 1 → b.target < 4 → t.groom.live.lanes.getLsbD b.target = true) ∧
          (v = 1 → 0x10 ≤ b.target → b.target ≤ 0x18 → b.target - 0x10 ∈ t.groom.live.cores) ∧
          (v = 0 → b.kind = .idle ∨ b.kind = .inUse → 0x10 ≤ b.target → b.target ≤ 0x18 → b.target - 0x10 ∉ t.groom.live.cores) ∧
          (b.kind = .returnLane → v = 0 → s.laneMode = 0 → t.triad.spare = some b.target ∧ t.causeSet ⟨5, 9⟩ = true)))) ∧
    (∀ target : BitVec 8,
      let free := s.groom.bist = none ∧ target.toNat < 4 ∧ s.groom.live.lanes.getLsbD target.toNat = true ∧ s.laneMode ≠ 1
      (free → Runs (.returnLane ⟨target, true⟩) s (fun t => t.groom = { s.groom with bist := some ⟨target.toNat, .returnLane⟩ } ∧
        t.get Reg.GROOM.CMD_STATUS.BUSY = 1 ∧ t.get Reg.GROOM.CMD_STATUS.CODE = codeOk) ∧
        Runs (.returnLane ⟨target, false⟩) s (fun t => denied t ∧
          t.get Reg.GROOM.BIST_RESULT.VERDICT = 3 ∧ t.get Reg.GROOM.BIST_RESULT.TARGET = target.toNat)) ∧
      (∀ ok : Bool, ¬ free → Runs (.returnLane ⟨target, ok⟩) s denied)) ∧
    (∀ target : BitVec 8,
      let n : Fin 64 := edgeIdx target.toNat
      let free := target.toNat < 64 ∧ s.groom.bist = none ∧ s.edgeResting n = true
      let cleared (t : State) (m : Fin 64) : Prop := (t.edge m).wear = { learnFrom := s.get Reg.GROOM.OP_TIME.S } ∧
        t.rd (Reg.GROOM.SW.addr m.val) = 0#32 ∧ t.rd (Reg.GROOM.SWSTAT.addr m.val) = 0#32
      (free → Runs (.resetBaseline target) s (fun t => cleared t n ∧ (∀ p : Fin 64, s.mate n = some p → cleared t p) ∧
        t.get Reg.GROOM.CMD_STATUS.CODE = codeOk)) ∧
      (¬ free → Runs (.resetBaseline target) s denied)) ∧
    (∀ cls : Nat, cls ≠ 1 → cls ≠ 2 → exec (.groomInject cls) s = .next s) ∧
    (∀ cls : Nat, (cls = 1 ∨ cls = 2) →
      let n : Fin 64 := edgeIdx (s.get Reg.GROOM.INJ_TARGET.INDEX)
      let free := s.get Reg.GROOM.INJ_TARGET.TARGET = 0 ∧ s.alive n = true ∧ (s.senseGain n).isSome = true ∧
        s.noneRuns Reg.GROOM.INJ_STATUS.addr = true ∧ (cls = 2 → s.liveAllowed = true)
      (free → Runs (.groomInject cls) s (fun t => t.get Reg.GROOM.INJ_STATUS.CODE = codePending ∧
        t.injs = s.withInj ⟨Reg.GROOM.INJ_STATUS.addr, decide (cls = 2), 0, n.val, 0⟩)) ∧
      (¬ free → Runs (.groomInject cls) s (fun t => t.get Reg.GROOM.INJ_STATUS.CODE = codeDenied ∧
        t.causeSet ⟨5, 12⟩ = true ∧ t.injs = s.injs))) ∧
    (∀ (row ce : Nat) (lost : Bool),
      let due := lost = true ∨ s.get Reg.GROOM.MEM_CFG.ROW_CE_LIMIT ≤ ce
      (due → 0 < s.rowsLeft → Runs (.rowReplaced row ce lost) s (fun t =>
        t.groom.live.rows = s.groom.live.rows ++ [row] ∧ t.causeSet ⟨5, 5⟩ = true ∧ t.causeSet ⟨5, 0⟩ = true)) ∧
      (due → s.rowsLeft = 0 → Runs (.rowReplaced row ce lost) s (fun t => t.groom = s.groom ∧ t.causeSet ⟨5, 2⟩ = true)) ∧
      (¬ due → exec (.rowReplaced row ce lost) s = .next s)) ∧
    (∀ (bank : Fin 2) (sector ce : Nat),
      let p := (bank.val, sector)
      let due := s.get Reg.GROOM.MEM_CFG.SECTOR_CE_LIMIT ≤ ce ∧ p ∉ s.groom.live.marked
      let staged := s.svc.staging.isSome = true ∧ bank ≠ s.svc.running
      (due → Runs (.sectorMarked bank sector ce false) s (fun t =>
        t.groom.live.marked = s.groom.live.marked ++ [p] ∧ t.causeSet ⟨5, 6⟩ = true)) ∧
      (¬ due → exec (.sectorMarked bank sector ce false) s = .next s) ∧
      (staged → 0 < s.sectorsLeft bank.val → Runs (.sectorMarked bank sector ce true) s (fun t =>
        t.groom.live.sectors = s.groom.live.sectors ++ [p] ∧ t.causeSet ⟨5, 6⟩ = true ∧ t.causeSet ⟨5, 0⟩ = true)) ∧
      (staged → s.sectorsLeft bank.val = 0 → Runs (.sectorMarked bank sector ce true) s (fun t =>
        t.groom = s.groom ∧ t.causeSet ⟨5, 2⟩ = true)) ∧
      (¬ staged → exec (.sectorMarked bank sector ce true) s = .next s)) ∧
    Runs (.groomRecordWrite true) s (fun t => t.groom.stored = s.liveRec ∧ t.groom.live = s.groom.live ∧ t.regs = s.regs) ∧
    Runs (.groomRecordWrite false) s (fun t => t.groom = s.groom ∧ t.causeSet ⟨5, 10⟩ = true)

/-- While the module runs or lifts, the sources POR and HOLDUP start an episode of reach POWER, PIN, HOST_SYSTEM and HIMET one of SYSTEM, and HOST_WARM, TRIAD and SUP_WDOG one of WARM while it runs, with the source recorded. RESET_N from 1.0 µs asserts PIN, below 100 ns it has no effect. The release records CAUSE and the log and begins the lift. A WARM source during a lift of wider reach makes a SYSTEM episode; reset-safe is left by a POWER reset alone; a source without supply, or in an episode, is added to those that stand, and a wider one widens the reach. A swap asserts UPDATE with the other bank running. POWER_ON releases an unsupplied module unless another source stands; the end of a hold-up leaves it unsupplied, with the sources of a running episode kept. The Triad and supervisor resets assert when due. A wrong key sets STATE_DENIED alone; SYSTEM is refused with a slot not at rest or one moving; an allowed idle block resets until BLOCK_DONE, a busy one is refused BUSY. LOG_SEL shows an entry, or zeros where there is none. Whether the SDM writes a result or a CAN controller receives is not in State (their idle bits are free where they may). -/
def Obligations.ResetCommandsRun : Prop :=
  ∀ s : State,
    (∀ src : Fin 9, src.val < 8 →
      (s.life = .run ∨ s.life = .lifting ∨ (s.life = .resetSafe ∧ src.val ≤ 1) → Runs (.resetAssert src) s (fun t =>
        t.life = .reset ∧ t.rst.active = 1#9 <<< src.val ∧ t.rst.sources = 1#9 <<< src.val ∧
        t.rst.reach = (if src.val ≤ 1 then 0 else if src.val ≤ 4 then 1 else if s.life = .lifting ∧ s.rst.reach < 2 then 1 else 2))) ∧
      (s.life = .resetSafe → 2 ≤ src.val → exec (.resetAssert src) s = .next s) ∧
      (s.life = .noSupply → exec (.resetAssert src) s = .next { s with rst := { s.rst with
        active := s.rst.active ||| 1#9 <<< src.val, sources := s.rst.sources ||| 1#9 <<< src.val } }) ∧
      (s.life = .reset → Runs (.resetAssert src) s (fun t => t.life = .reset ∧ t.rst.active = s.rst.active ||| 1#9 <<< src.val ∧
        t.rst.sources = s.rst.sources ||| 1#9 <<< src.val ∧
        t.rst.reach = min s.rst.reach (if src.val ≤ 1 then 0 else if src.val ≤ 4 then 1 else 2)))) ∧
    (s.swapping = true → s.life = .run → Runs (.resetAssert 8) s (fun t => t.life = .reset ∧ t.rst.reach = 2 ∧
      t.rst.sources = 0x100#9 ∧ t.svc.running = 1 - s.svc.running)) ∧
    (s.swapping = false → exec (.resetAssert 8) s = .next s) ∧
    (∀ (ns : Nat) (may : Bool), (1000 ≤ ns ∨ (100 ≤ ns ∧ may = true)) →
      exec (.resetNLow ns may) s = exec (.resetAssert 2) s ∧
      (s.life = .run → Runs (.resetNLow ns may) s (fun t => t.life = .reset ∧ t.rst.active = 4#9 ∧ t.rst.reach = 1))) ∧
    (∀ (ns : Nat) (may : Bool), (ns < 100 ∨ (ns < 1000 ∧ may = false)) → exec (.resetNLow ns may) s = .next s) ∧
    (s.life = .reset → s.rst.reach ≤ 2 → Runs .resetRelease s (fun t => t.life = .lifting ∧ t.rst.active = 0#9 ∧
      t.get Reg.RST.CAUSE.SOURCES = s.rst.sources.toNat ∧ t.get Reg.RST.STATUS.REACH = s.rst.reach ∧
      ∃ e ∈ t.rst.log, e.sources = s.rst.sources ∧ e.reach = s.rst.reach ∧ e.timeS = s.rst.fromS ∧ e.timeNs = s.rst.fromNs)) ∧
    (s.life ≠ .reset → exec .resetRelease s = .next s) ∧
    (s.life = .noSupply → s.rst.active &&& 0x1FC#9 = 0#9 → Runs .powerOn s (fun t => t.life = .lifting ∧ t.rst.reach = 0 ∧
      t.get Reg.RST.CAUSE.SOURCES = (s.rst.sources ||| 1#9).toNat)) ∧
    (s.life = .noSupply → s.rst.active &&& 0x1FC#9 ≠ 0#9 → Runs .powerOn s (fun t => t.life = .reset ∧ t.rst.reach = 0 ∧
      t.rst.active = s.rst.active &&& 0x1FC#9 ∧ t.rst.sources = s.rst.sources ||| 1#9)) ∧
    (s.life ≠ .noSupply → exec .powerOn s = .next s) ∧
    (s.supply.holdup = false ∨ s.life = .noSupply → exec .holdupEnd s = .next s) ∧
    (s.triad.resetDue = false → exec .triadWarmReset s = .next s) ∧
    (s.patrol.supDue = false → exec .supWdogReset s = .next s) ∧
    (s.supply.holdup = true → s.life ≠ .noSupply → Runs .holdupEnd s (fun t => t.life = .noSupply ∧ t.supply = { below16 := true } ∧
      t.rst.sources = (if s.life = .reset then s.rst.sources ||| 3#9 else 3#9))) ∧
    (s.life = .run → s.triad.resetDue = true → Runs .triadWarmReset s (fun t => t.life = .reset ∧ t.rst.active = 0x40#9 ∧
      t.rst.reach = 2)) ∧
    (s.life = .run → s.patrol.supDue = true → Runs .supWdogReset s (fun t => t.life = .reset ∧ t.rst.active = 0x80#9 ∧
      t.rst.reach = 2)) ∧
    (s.life = .run → Runs (.rstWarm 0xA5#8) s (fun t => t.life = .reset ∧ t.rst.active = 0x20#9 ∧ t.rst.reach = 2)) ∧
    (s.life = .run → s.allResting = true → (∀ i : Fin 4, (s.slotRec i.val).enable = false ∨ s.slow i = true) →
      Runs (.rstSystem 0xA5#8) s (fun t => t.life = .reset ∧ t.rst.active = 8#9 ∧ t.rst.reach = 1)) ∧
    (s.allResting = false ∨ (∃ i : Fin 4, (s.slotRec i.val).enable = true ∧ s.slow i = false) → Runs (.rstSystem 0xA5#8) s (fun t => t.life = s.life ∧ t.rst = s.rst ∧ t.causeSet ⟨45, 5⟩ = true ∧
      t.get Reg.RST.CMD_STATUS.CODE = codeDenied)) ∧
    (∀ key : BitVec 8, key ≠ 0xA5#8 → exec (.rstWarm key) s = .next (s.raise ⟨45, 5⟩) ∧
      exec (.rstSystem key) s = .next (s.raise ⟨45, 5⟩) ∧ ∀ b : Fin 32, exec (.rstBlock b key) s = .next (s.raise ⟨45, 5⟩)) ∧
    (∀ b : Fin 32, s.blockAllowed b.val = true → s.rst.block = none → Runs (.rstBlock b 0xA5#8) s (fun t =>
      (s.blockIdle true b.val = s.blockIdle false b.val → t.rst.block = (if s.blockIdle false b.val then some b.val else none)) ∧
      (t.rst.block = some b.val ∧ t.get Reg.RST.CMD_STATUS.CODE = codeOk ∧ (b.val ≠ 18 → t.slots = s.slots) ∨
        t.rst = s.rst ∧ t.get Reg.RST.CMD_STATUS.CODE = codeBlockBusy ∧ t.causeSet ⟨45, 4⟩ = true ∧ t.slots = s.slots))) ∧
    (∀ b : Fin 32, s.blockAllowed b.val = false ∨ s.rst.block.isSome = true → Runs (.rstBlock b 0xA5#8) s (fun t => t.rst = s.rst ∧
      t.get Reg.RST.CMD_STATUS.CODE = codeDenied ∧ t.causeSet ⟨45, 5⟩ = true)) ∧
    (∀ n : Nat, s.rst.block = some n → Runs .blockDone s (fun t => t.rst.block = none ∧ t.causeSet ⟨45, 3⟩ = true)) ∧
    (s.rst.block = none → exec .blockDone s = .next s) ∧
    (∀ k : Fin 16,
      (∀ e : ResetEntry, s.rst.log[k.val]? = some e → Runs (.rstLogSelect k) s (fun t =>
        t.rd Reg.RST.LOG_CAUSE.addr = BitVec.ofNat 32 (e.sources.toNat + e.reach * 512 + 2048 + e.lift * 65536) ∧
        t.rd Reg.RST.LOG_TIME_S.addr = BitVec.ofNat 32 e.timeS ∧ t.rd Reg.RST.LOG_TIME_NS.addr = BitVec.ofNat 32 e.timeNs)) ∧
      (s.rst.log[k.val]? = none → Runs (.rstLogSelect k) s (fun t => t.rd Reg.RST.LOG_CAUSE.addr = 0#32 ∧
        t.rd Reg.RST.LOG_TIME_S.addr = 0#32 ∧ t.rd Reg.RST.LOG_TIME_NS.addr = 0#32)))

/-- When a source asserts on a running module, every slot is OFF, no cause waits for Patrol, no injection is pending, no fault class 4 stands. A WARM assertion keeps the course, the time of day and the Groomer record, and every leg holds the pattern of its safe state (under no reset hold and no crossed OV_TRIP2). A SYSTEM assertion clears course and time of day and keeps the stored record and the reset log; every channel is under hold-off, a running soft turn-off goes on. A POWER assertion also drops the log. -/
def Obligations.ResetReachesRestore : Prop :=
  ∀ (s : State) (src : Fin 9), src.val < 8 → s.life = .run → Runs (.resetAssert src) s (fun t =>
    (∀ i : Fin 4, (t.slot i).state = .off) ∧ t.toClassify = [] ∧ t.injs = [] ∧ t.patrol.f4 = false ∧ t.chop.friction = false ∧
    (∀ n : Fin 32, (t.leg n).counting = false ∧ (t.leg n).liveA = false ∧ (t.leg n).liveB = false) ∧
    (5 ≤ src.val → t.course = s.course ∧ t.tod = s.tod ∧ t.groom.live = s.groom.live ∧ t.rst.log = s.rst.log ∧
      t.trip.ovCopy = some (s.get Reg.SDM.DCL_OV1.OV_TRIP2) ∧
      ∀ n : Fin 32, s.trip.resetHold = 0#4 → s.dcl.crossA.getLsbD 1 = false → s.dcl.crossB.getLsbD 1 = false → (t.leg n).hold = some (if (s.legRec n.val).trip = 0 ∧ (s.legRec n.val).slot < 4 then
        patternOf (s.legRec n.val).position (s.effective (Fin.ofNat 4 (s.legRec n.val).slot)) else .off)) ∧
    (2 ≤ src.val → src.val ≤ 4 → t.course = {} ∧ t.tod = {} ∧ t.groom.stored = s.groom.stored ∧ t.rst.log = s.rst.log ∧
      (∀ n : Fin 32, (t.leg n).hold = none) ∧
      ∀ n : Fin 64, (t.edge n).holdoff = true ∧ (t.edge n).powered = (s.edge n).powered ∧
        (t.edge n).out = if (s.edge n).soft then (s.edge n).out else .off) ∧
    (src.val ≤ 1 → t.course = {} ∧ t.rst.log = []) ∧
    t.himet.store = s.himet.store)

/-- A cold lift whose oscillator fails its check, and a cold or warm one whose three trim copies all fail, halts in reset-safe, Carve not released. A cold lift outside the conditions of L2 waits there and checks again; within them memory that does not clear, a failed test (its number recorded), a bad known answer or store, no good firmware in the running bank, or in a TRIAL's former one, and no locked PLL in service each halt it, a debug session of the second level holds it in L2, and otherwise it ends in RUN. Outside a lift of its reach none of the commands changes anything. A warm lift with a good image ends in RUN with the reset hold of every enabled slot and no hold pattern on other legs; with a bad one it becomes a SYSTEM episode that lifts again. 20 ms after handover a slot without an estimate in ASC takes speed 0. -/
def Obligations.LiftsRun : Prop :=
  (∀ (s : State) (env : LiftEnv) (w : WarmEnv),
    (s.life ≠ .lifting ∨ 2 ≤ s.rst.reach ∨ s.rst.waitL2 = true → exec (.coldLift env) s = .next s) ∧
    (s.life ≠ .lifting ∨ s.rst.waitL2 = false → exec (.bistConditionRecheck env) s = .next s) ∧
    (s.life ≠ .lifting ∨ s.rst.reach ≠ 2 → exec (.warmLift w) s = .next s)) ∧
  (∀ (s : State) (i : Fin 4), s.trip.resetHold.getLsbD i.val = false ∨ s.ascOn i = false ∨ (s.slot i).estSpeed.isSome = true →
    exec (.resetHoldEstimateTimeout i) s = .next s) ∧
  ∀ s : State, s.life = .lifting →
    (∀ env : LiftEnv, s.rst.reach ≤ 1 → s.rst.waitL2 = false → env.osc = true → env.trims = 0#3 → Runs (.coldLift env) s (fun t =>
      t.life = .resetSafe ∧ t.carve.released = false ∧ t.get Reg.RST.TRIM.COPY_OK = 0)) ∧
    (∀ env : LiftEnv, s.rst.reach ≤ 1 → s.rst.waitL2 = false → env.osc = false → Runs (.coldLift env) s (fun t =>
      t.life = .resetSafe)) ∧
    (∀ (env : LiftEnv) (c : Instr),
      (c = .coldLift env ∧ s.rst.reach ≤ 1 ∧ s.rst.waitL2 = false ∧ env.osc = true ∧ env.trims ≠ 0#3) ∨
        (c = .bistConditionRecheck env ∧ s.rst.waitL2 = true) →
      Runs c s (fun t => t.rst.waitL2 = !env.inRange ∧
        (∀ x, env.inRange = true → env.cleared = true → env.bistFail = some x → t.groom.stored.lastFail = x.toNat) ∧
        t.life = (if env.inRange = false then .lifting
          else if env.cleared = false ∨ env.bistFail.isSome = true then .resetSafe
          else if s.himet.level = 2 then .lifting
          else if env.knownAnswers = true ∧ env.storeGood = true ∧
              (s.fwGood s.svc.running = true ∨ (s.trial = true ∧ s.fwGood s.idleBank = true)) ∧
              ((env.pllA = true ∧ s.groom.live.plls.getLsbD 0 = false) ∨ (env.pllB = true ∧ s.groom.live.plls.getLsbD 1 = false))
            then .run else .resetSafe))) ∧
    (∀ env : WarmEnv, s.rst.reach = 2 →
      (env.trims = 0#3 → Runs (.warmLift env) s (fun t => t.life = .resetSafe)) ∧
      (env.trims ≠ 0#3 → env.imageGood = true → Runs (.warmLift env) s (fun t => t.life = .run ∧
        t.get Reg.RST.TIMING.LIFT = min env.duration 65535)) ∧
      (env.trims ≠ 0#3 → env.imageGood = false → Runs (.warmLift env) s (fun t => t.life = .lifting ∧ t.rst.reach = 1 ∧
        t.course = {}))) ∧
    (∀ i : Fin 4, s.trip.resetHold.getLsbD i.val = true → s.ascOn i = true → (s.slot i).estSpeed = none →
      Runs (.resetHoldEstimateTimeout i) s (fun t => (t.slot i).speed = 0#32 ∧ (t.slot i).nsrc = 3))

/-- At a root epoch the counter advances by 3,000 ns steered by RATE, spread evenly over its cycles, or takes the value of a SET, which is allowed with SOURCE = 0 alone; a SYNC stepped over is cancelled; the judge whose turn it is is tested, and removed on a wrong verdict. An edge of PPS_IN is taken unless its spacing is wrong (PPS_BAD), and waits for its measurement: local time minus the nearest second. For Folis OFFSET is local minus reference time. A measurement within 1,000 us is stored and moves no time at once; one beyond it steps an unlocked servo, and a locked one at the third, which unlocks it. Under an injection a measurement is withheld and counted. A lost reference holds over at the mean rate. PPS_OUT rises only when enabled, valid and in run. SYNC_ARM 1 ms or more ahead of the time of day with slots at rest and time valid arms, a nearer instant is refused; the instant fires or, with a slot not at rest, does not. Reads latch the instant. -/
def Obligations.TimeCommandsRun : Prop :=
  ∀ s : State,
    (∀ (al : Bool) (w : JudgeNames) (e : Vector JudgeNames 3), s.clk.rootRuns = true → Runs (.rootEpoch al w e) s (fun t =>
      let u := s.tod.units + s.time.advance
      t.clk.epochs = s.clk.epochs + 1 ∧ t.clk.edge = 0 ∧ t.time.advance = s.epochUnits ∧
      t.get Reg.CLK.EPOCH.COUNT = (if s.life = .reset then s.get Reg.CLK.EPOCH.COUNT else (s.get Reg.CLK.EPOCH.COUNT + 1) % 2 ^ 32) ∧
      (s.time.setAt = none → s.time.step = none → t.tod = todOf u) ∧
      (∀ d, s.time.setAt = none → s.time.step = some d → t.tod = todOf (u + d * 65536) ∧
        t.time.step = none ∧ t.flag Reg.TIME.STATUS.VALID = true ∧ t.causeSet ⟨42, 3⟩ = true) ∧
      (∀ x, s.time.setAt = some x → t.tod = todOf (instantUnits x) ∧ t.time.setAt = none ∧ t.causeSet ⟨42, 3⟩ = true) ∧
      (∀ (x : Nat × Nat) (b : Int), s.jumpTo u = some b → s.time.syncAt = some x → steppedOver u b (some x) = true →
        t.time.syncAt = none ∧ t.causeSet ⟨42, 6⟩ = true) ∧
      (al = false → t.causeSet ⟨46, 4⟩ = true) ∧
      (s.triad.retest = false → s.injAt Reg.TRIAD.INJ_STATUS.addr = none →
        (s.judges = 0#3 → t.judges = 0#3 ∧ t.triad = s.triad) ∧
        ∀ j : Fin 3, s.judgeTurn = some j.val →
          let m := 1#3 <<< j.val
          let bad := (wrongJudges m s.testLane s.voting w ^^^ (s.triad.invert &&& m)) &&& s.judges
          t.judges = s.judges &&& ~~~bad ∧ t.triad.rot = (j.val + 1) % 3 ∧ t.triad.turn = (s.triad.turn + 1) % 3 ∧
            (bad ≠ 0#3 → t.causeSet ⟨4, 8⟩ = true)))) ∧
    (∀ (al : Bool) (w : JudgeNames) (e : Vector JudgeNames 3), s.clk.rootRuns = false → exec (.rootEpoch al w e) s = .next s) ∧
    (s.get Reg.TIME.CFG.SOURCE = 0 → Runs .timeSet s (fun t => t.time.setAt = some s.timeArg ∧ t.tod = s.tod ∧
      t.flag Reg.TIME.STATUS.VALID = true ∧ t.get Reg.TIME.CMD_STATUS.CODE = codeOk)) ∧
    (s.get Reg.TIME.CFG.SOURCE ≠ 0 → Runs .timeSet s (fun t => t.time = s.time ∧ t.tod = s.tod ∧
      t.causeSet ⟨42, 10⟩ = true ∧ t.get Reg.TIME.CMD_STATUS.CODE = codeDenied)) ∧
    (∀ after : Nat, s.clk.rootRuns = true →
      let x := (s.edgeTo after).todUnits
      let since (p : Int) : Int := x - (p + s.time.ppsMove);
      ((∀ p, s.time.ppsAt = some p → s.time.ppsLost = true ∨ msUnits 3000 < since p ∨
          (msUnits 999 ≤ since p ∧ since p ≤ msUnits 1001)) →
        Runs (.ppsInEdge after) s (fun t => t.time.ppsAt = some x ∧ t.time.ppsLost = false ∧ t.time.ppsDue = true ∧ t.time.ppsMove = 0 ∧
          t.rd Reg.TIME.PPS_IN_S.addr = BitVec.ofNat 32 (todOf x).sec)) ∧
      (∀ p, s.time.ppsAt = some p → s.time.ppsLost = false → since p ≤ msUnits 3000 → (since p < msUnits 999 ∨ msUnits 1001 < since p) →
        Runs (.ppsInEdge after) s (fun t => t.time = s.time ∧ t.tod = s.tod ∧ t.causeSet ⟨42, 4⟩ = true))) ∧
    (∀ after : Nat, s.clk.rootRuns = false → exec (.ppsInEdge after) s = .next s) ∧
    (∀ (sm : ServoMeas) (off : Int), s.servoOffset sm = some off → s.hasRef = true → s.injAt Reg.TIME.INJ_STATUS.addr = none →
      (-65536000 ≤ off → off ≤ 65536000 → Runs (.servoMeasurement sm) s (fun t => t.tod = s.tod ∧ t.time.step = s.time.step ∧
        t.time.far = 0 ∧ t.rd Reg.TIME.OFFSET.addr = BitVec.ofInt 32 (off / 256) ∧ t.flag Reg.TIME.STATUS.HOLDOVER = false)) ∧
      (off < -65536000 ∨ 65536000 < off →
        (s.flag Reg.TIME.STATUS.LOCKED = false ∨ 2 ≤ s.time.far → Runs (.servoMeasurement sm) s (fun t => t.tod = s.tod ∧
          t.time.step = some (-off) ∧ t.flag Reg.TIME.STATUS.LOCKED = false ∧ t.time.far = 0 ∧
          (s.flag Reg.TIME.STATUS.LOCKED = true → t.causeSet ⟨42, 1⟩ = true))) ∧
        (s.flag Reg.TIME.STATUS.LOCKED = true → s.time.far < 2 → Runs (.servoMeasurement sm) s (fun t => t.tod = s.tod ∧
          t.time.step = s.time.step ∧ t.time.far = s.time.far + 1 ∧ t.flag Reg.TIME.STATUS.LOCKED = true)))) ∧
    (∀ (sm : ServoMeas) (off : Int) (i : Inj), s.servoOffset sm = some off → s.hasRef = true → s.injAt Reg.TIME.INJ_STATUS.addr = some i → Runs (.servoMeasurement sm) s (fun t =>
      t.time.withhold = s.time.withhold + 1 ∧
      (2 ≤ s.time.withhold → t.get Reg.TIME.INJ_STATUS.CODE = (if i.live then codeActed else codePass)))) ∧
    (∀ sm : ServoMeas, s.servoOffset sm = none → exec (.servoMeasurement sm) s = .next s) ∧
    (∀ sm : ServoMeas, s.hasRef = false → Runs (.servoMeasurement sm) s (fun t =>
      t.regs = s.regs ∧ t.tod = s.tod ∧ t.time.step = s.time.step)) ∧
    (∀ sm : ServoMeas, s.get Reg.TIME.CFG.SOURCE = 1 → s.servoOffset sm =
      if s.time.ppsDue then s.time.ppsAt.map (fun p => ppsOffset (p + s.time.ppsMove)) else none) ∧
    (∀ sm : ServoMeas, s.get Reg.TIME.CFG.SOURCE = 2 → s.servoOffset sm =
      some ((s.edgeTo sm.after).todUnits / 65536 - sm.reference)) ∧
    (s.hasRef = true → s.flag Reg.TIME.STATUS.HOLDOVER = false → s.time.rates ≠ [] → Runs .referenceLoss s (fun t =>
      t.flag Reg.TIME.STATUS.HOLDOVER = true ∧ t.get Reg.TIME.STATUS.ACTIVE = 0 ∧ t.causeSet ⟨42, 2⟩ = true ∧
      t.rd Reg.TIME.RATE.addr = BitVec.ofInt 32 (s.time.rates.sum / (s.time.rates.length : Int)))) ∧
    (s.hasRef = false ∨ s.flag Reg.TIME.STATUS.HOLDOVER = true → exec .referenceLoss s = .next s) ∧
    (s.hasRef = true → s.flag Reg.TIME.STATUS.HOLDOVER = false → s.time.rates = [] → Runs .referenceLoss s (fun t =>
      t.flag Reg.TIME.STATUS.HOLDOVER = true ∧ t.causeSet ⟨42, 2⟩ = true ∧ t.rd Reg.TIME.RATE.addr = s.rd Reg.TIME.RATE.addr)) ∧
    Runs .ppsOutPulse s (fun t => t.time.ppsOut = (s.time.ppsOut ||
      (s.flag Reg.TIME.CFG.PPS_OUT_EN && s.flag Reg.TIME.STATUS.VALID && decide (s.life = .run))) ∧ t.regs = s.regs) ∧
    Runs .ppsOutFall s (fun t => t.time.ppsOut = false ∧ t.regs = s.regs) ∧
    (s.allResting = true → s.flag Reg.TIME.STATUS.VALID = true → 1000000 ≤ nsBetween s.now.1 s.timeArg →
      Runs .syncArm s (fun t => t.time.syncAt = some s.timeArg ∧ t.flag Reg.TIME.STATUS.SYNC_ARMED = true ∧
        t.get Reg.TIME.CMD_STATUS.CODE = codeOk)) ∧
    (nsBetween s.now.1 s.timeArg < 1000000 ∨ s.allResting = false ∨ s.flag Reg.TIME.STATUS.VALID = false →
      Runs .syncArm s (fun t => t.time.syncAt = s.time.syncAt ∧ t.causeSet ⟨42, 10⟩ = true ∧
        t.get Reg.TIME.CMD_STATUS.CODE = codeDenied)) ∧
    Runs .syncArm s (fun t => t.time.syncAt = some s.timeArg ∧ t.get Reg.TIME.CMD_STATUS.CODE = codeOk ∨
      t.time.syncAt = s.time.syncAt ∧ t.get Reg.TIME.CMD_STATUS.CODE = codeDenied) ∧
    Runs .syncCancel s (fun t => t.time.syncAt = none ∧ t.flag Reg.TIME.STATUS.SYNC_ARMED = false ∧
      t.get Reg.TIME.CMD_STATUS.CODE = codeOk) ∧
    (∀ a, s.time.syncAt = some a → s.allResting = true → Runs .timeSyncFire s (fun t => t.time.syncAt = none ∧
      t.time.syncLast = a ∧ t.causeSet ⟨42, 5⟩ = true)) ∧
    (∀ a, s.time.syncAt = some a → s.allResting = false → Runs .timeSyncFire s (fun t => t.time.syncAt = none ∧
      t.legs = s.legs ∧ t.causeSet ⟨42, 6⟩ = true)) ∧
    (s.time.syncAt = none → exec .timeSyncFire s = .next s) ∧
    (∀ after : Nat, Runs (.timeNowRead after) s (fun t =>
      let x := todOf (s.edgeTo after).todUnits
      t.rd Reg.TIME.NOW_S_LO.addr = BitVec.ofNat 32 x.sec ∧ t.get Reg.TIME.NOW_NS.NS = x.ns ∧ t.tod = s.tod)) ∧
    (s.clk.rootRuns = true → ∀ after : Nat, s.clk.edge ≤ after → after < 4500 →
      (s.edgeTo after).todUnits = s.tod.units + s.time.advance * (after : Int) / 4500) ∧
    (∀ p, s.time.ppsAt = some p → Runs .ppsInRead s (fun t => t.get Reg.TIME.PPS_IN_NS.NS = (todOf p).ns)) ∧
    (s.time.ppsAt = none → Runs .ppsInRead s (fun t => t.get Reg.TIME.PPS_IN_NS.NS = 0)) ∧
    (∀ cls : Nat,
      (cls ≠ 1 → cls ≠ 2 → exec (.timeInject cls) s = .next s) ∧
      (cls = 1 ∨ (cls = 2 ∧ s.liveAllowed = true) → s.hasRef = true → s.flag Reg.TIME.STATUS.HOLDOVER = false →
        s.noneRuns Reg.TIME.INJ_STATUS.addr = true → Runs (.timeInject cls) s (fun t =>
          t.get Reg.TIME.INJ_STATUS.CODE = codePending ∧ t.time.withhold = 0 ∧
          t.injs = s.withInj ⟨Reg.TIME.INJ_STATUS.addr, decide (cls = 2), 0, 0, 0⟩)) ∧
      (cls = 1 ∨ cls = 2 → s.hasRef = false ∨ s.flag Reg.TIME.STATUS.HOLDOVER = true ∨
          s.noneRuns Reg.TIME.INJ_STATUS.addr = false ∨ (cls = 2 ∧ s.liveAllowed = false) →
        Runs (.timeInject cls) s (fun t => t.get Reg.TIME.INJ_STATUS.CODE = codeDenied ∧ t.injs = s.injs ∧
          t.causeSet ⟨42, 10⟩ = true)))

/-- A port in use of a running module takes the link state that its PHY reports, a trained spare STANDBY, its symbol errors and self-test judged, and a lost UP sets its LINK_DOWN. The switch learns a source, forwards to UP ports other than the ingress alone, floods a group address, and forwards no Folis or gPTP frame. A gPTP message of another domain than 0 is ignored; Pdelay_Req is answered, the answers to the module's own give the peer delay; messages go out on the ports of their role. A commit with a valid cycle is taken for a cycle boundary, an invalid one refused with GCL_ERROR; the switch of banks exchanges them. The slave port's Sync and Follow_Up are regenerated at the master ports. The spare stands in for a failed port, after a running test of it, or none is left. An injection into an UP port, or into the master-loss detector of a node with a parent, becomes pending, any other is refused; its window's end gives its result. -/
def Obligations.EthernetCommandsRun : Prop :=
  ∀ s : State,
    (∀ (p : Fin 3) (link : Fin 3) (errs : PortErrs), Runs (.portLinkChange p link errs) s (fun t =>
      t.net.portBad.getLsbD p.val = (errs.phyFail || decide (errs.symbols < errs.worst * 1000000)))) ∧
    (∀ (p : Fin 3) (link : Fin 3) (errs : PortErrs), s.life = .run → s.flag (Reg.NET.PORT.CFG.ENABLE p.val) = true →
      s.groom.live.ports.contains p.val = false → Runs (.portLinkChange p link errs) s (fun t =>
        t.get (Reg.NET.PORT.STATUS.LINK p.val) = (if link = 2 then s.linkTrained p.val else link.val) ∧
        t.get (Reg.NET.PORT.STATUS.SYM_ERRS p.val) = min (s.get (Reg.NET.PORT.STATUS.SYM_ERRS p.val) + errs.count) 0xFFFF ∧
        (link ≠ 2 → s.linkUp p.val = true → s.injAt Reg.NET.INJ_STATUS.addr = none → t.causeSet ⟨40, p.val⟩ = true))) ∧
    (∀ (p : Fin 3) (link : Fin 3) (errs : PortErrs), s.life ≠ .run ∨ s.flag (Reg.NET.PORT.CFG.ENABLE p.val) = false ∨
      s.groom.live.ports.contains p.val = true → exec (.portLinkChange p link errs) s = .next (s.netGo.portJudge p errs)) ∧
    (∀ (p : Fin 3) (f : List Byte), s.linkUp p.val = true → 14 ≤ f.length → f.length ≤ 1518 → consumed f = false →
      Runs (.switchFrame p f) s (fun t => t.regs = s.regs ∧ t.net.table = (s.learn (macOf (f.drop 6)) p.val).net.table ∧
        (∀ o ∈ t.net.out, ∃ q : Fin 3, o = .bridged q.val (frameClass f) f ∧ q ≠ p ∧ s.linkUp q.val = true) ∧
        ((macOf f).getLsbD 40 = true → ∀ q : Fin 3, q ≠ p → s.linkUp q.val = true → s.ungated q = true →
          .bridged q.val (frameClass f) f ∈ t.net.out))) ∧
    (∀ (p : Fin 3) (f : List Byte), s.linkUp p.val = false ∨ f.length < 14 ∨ 1518 < f.length ∨ consumed f = true → exec (.switchFrame p f) s = .next s.netGo) ∧
    (∀ (p : Fin 3) (m : GptpMsg), s.gptpOn p.val = false ∨ m.domain ≠ 0 → exec (.gptpFrame p ⟨m, false⟩) s = .next s.netGo) ∧
    (∀ (p : Fin 3) (m : GptpMsg), s.gptpOn p.val = true → m.domain = 0 →
      let slave := s.get (Reg.NET.PORT.STATUS.GPTP_ROLE p.val) = 2
      (m.kind = .pdelayReq → s.ungated p = true → Runs (.gptpFrame p ⟨m, false⟩) s (fun t => t.regs = s.regs ∧
        t.net.out = [.gptp p.val .pdelayResp, .gptp p.val .pdelayRespFollowUp])) ∧
      (m.kind = .pdelayResp → if s.net.pdelayStage[p] = 1 then Runs (.gptpFrame p ⟨m, false⟩) s (fun t => t.net.pdelayStage[p] = 2)
        else exec (.gptpFrame p ⟨m, false⟩) s = .next s.netGo) ∧
      (m.kind = .pdelayRespFollowUp → if s.net.pdelayStage[p] = 2 then Runs (.gptpFrame p ⟨m, false⟩) s (fun t =>
          t.net.pdelayStage[p] = 0 ∧ t.net.peerDelay[p] = ((m.span : Int) - (m.turn : Int)) / 2)
        else exec (.gptpFrame p ⟨m, false⟩) s = .next s.netGo) ∧
      (¬ slave → (∃ two : Bool, m.kind = .sync two) ∨ m.kind = .followUp → exec (.gptpFrame p ⟨m, false⟩) s = .next s.netGo) ∧
      (∀ two : Bool, slave → m.kind = .sync two → Runs (.gptpFrame p ⟨m, false⟩) s (fun t => t.regs = s.regs ∧
        t.net.syncLog = some (m.log % 8) ∧ ∀ q ∈ s.gptpPorts 1, s.ungated q = true →
        .gptp q.val (.sync true) ∈ t.net.out ∧ (two = false → .gptp q.val .followUp ∈ t.net.out))) ∧
      (slave → m.kind = .followUp → Runs (.gptpFrame p ⟨m, false⟩) s (fun t => t.regs = s.regs ∧
        ∀ q ∈ s.gptpPorts 1, s.ungated q = true → .gptp q.val .followUp ∈ t.net.out)) ∧
      (∀ v : GptpVec, m.kind = .announce v → Runs (.gptpFrame p ⟨m, false⟩) s (fun t => t.net.announce[p] = some v))) ∧
    (∀ p : Fin 3, s.gptpOn p.val = true → s.net.announce[p].isSome = true → Runs (.gptpTimeout p true) s (fun t =>
      t.net.announce[p] = none ∧ t.causeSet ⟨40, 5⟩ = true)) ∧
    (∀ p : Fin 3, s.gptpOn p.val = true → s.get (Reg.NET.PORT.STATUS.GPTP_ROLE p.val) = 2 → Runs (.gptpTimeout p false) s (fun t =>
      t.net.announce[p] = none ∧ t.causeSet ⟨40, 5⟩ = true)) ∧
    (∀ p : Fin 3, (s.gptpOn p.val = false ∨ s.net.announce[p] = none → exec (.gptpTimeout p true) s = .next s.netGo) ∧
      (s.gptpOn p.val = false ∨ s.get (Reg.NET.PORT.STATUS.GPTP_ROLE p.val) ≠ 2 → exec (.gptpTimeout p false) s = .next s.netGo)) ∧
    Runs (.gptpMessageSend 0) s (fun t => t.regs = s.regs ∧ (s.flag Reg.NET.GPTP.STATUS.GM = true →
      ∀ q ∈ s.gptpPorts 1, s.ungated q = true → .gptp q.val (.sync true) ∈ t.net.out ∧ .gptp q.val .followUp ∈ t.net.out)) ∧
    Runs (.gptpMessageSend 1) s (fun t => t.regs = s.regs ∧ ∀ q ∈ s.gptpPorts 1, s.ungated q = true →
      .gptp q.val (.announce s.announceVec) ∈ t.net.out) ∧
    Runs (.gptpMessageSend 2) s (fun t => t.regs = s.regs ∧ ∀ q : Fin 3, s.gptpOn q.val = true →
      t.net.pdelayStage[q] = 1 ∧ (s.ungated q = true → .gptp q.val .pdelayReq ∈ t.net.out)) ∧
    (∀ p : Fin 3, 1000 ≤ s.get (Reg.NET.PORT.QBV_CYCLE.NS p.val) → s.get (Reg.NET.PORT.QBV_CYCLE.NS p.val) ≤ 1000000000 →
      (∀ i : Nat, i ≤ s.get (Reg.NET.PORT.QBV_CTRL.LEN p.val) → 0 < s.get (Reg.NET.GCL.INTERVAL p.val i)) →
      Runs (.qbvCommit (BitVec.ofNat 2 p.val)) s (fun t => t.get Reg.NET.CMD_STATUS.CODE = codeOk ∧ t.net.active = s.net.active ∧
        ∃ (x : Nat × Nat) (h n : Nat), t.net.commits[p] = some x ∧
          x.1 * 1000000000 + x.2 = (s.get (Reg.NET.PORT.QBV_BASE_S.S p.val) + h * 2 ^ 32) * 1000000000 +
            s.get (Reg.NET.PORT.QBV_BASE_NS.NS p.val) + n * s.get (Reg.NET.PORT.QBV_CYCLE.NS p.val))) ∧
    (∀ p : Fin 3, s.get (Reg.NET.PORT.QBV_CYCLE.NS p.val) < 1000 ∨ 1000000000 < s.get (Reg.NET.PORT.QBV_CYCLE.NS p.val) ∨
      (∃ i : Nat, i ≤ s.get (Reg.NET.PORT.QBV_CTRL.LEN p.val) ∧ s.get (Reg.NET.GCL.INTERVAL p.val i) = 0) → Runs (.qbvCommit (BitVec.ofNat 2 p.val)) s (fun t =>
      t.get Reg.NET.CMD_STATUS.CODE = codeDenied ∧ t.net.commits = s.net.commits ∧ t.causeSet ⟨40, 7⟩ = true ∧ t.causeSet ⟨40, 9⟩ = true)) ∧
    Runs (.qbvCommit 3#2) s (fun t => t.get Reg.NET.CMD_STATUS.CODE = codeDenied ∧ t.net.commits = s.net.commits ∧
      t.causeSet ⟨40, 9⟩ = true) ∧
    (∀ p : Fin 3, s.net.commits[p].isSome = true → Runs (.qbvBankSwitch p) s (fun t => t.net.active[p] = s.windowBank p.val ∧
      t.net.commits[p] = none ∧ t.causeSet ⟨40, 6⟩ = true ∧
      t.get (Reg.NET.PORT.QBV_CTRL.BANK p.val) = 1 - s.get (Reg.NET.PORT.QBV_CTRL.BANK p.val))) ∧
    (∀ p : Fin 3, s.net.commits[p] = none → exec (.qbvBankSwitch p) s = .next s.netGo) ∧
    (s.groom.live.ports.contains s.spareOf = false → s.net.portBad.getLsbD s.spareOf = true → s.flag Reg.NET.CFG.ETH2_SPARE = true →
      s.groom.live.ports.contains 2 = false → s.get (Reg.NET.PORT.STATUS.LINK 2) = 3 → s.underTest 0x7A = false → Runs .ethSpareBringIn s (fun t =>
        t.groom.live.ports = s.groom.live.ports ++ [s.spareOf] ∧ t.linkUp 2 = true ∧
        t.causeSet ⟨40, 3⟩ = true ∧ t.causeSet ⟨5, 0⟩ = true ∧ t.causeSet ⟨5, 1⟩ = true)) ∧
    (s.groom.live.ports.contains s.spareOf = true ∨ s.net.portBad.getLsbD s.spareOf = false → exec .ethSpareBringIn s = .next s.netGo) ∧
    (s.groom.live.ports.contains s.spareOf = false → s.net.portBad.getLsbD s.spareOf = true →
      (s.underTest 0x7A = true → Runs .ethSpareBringIn s (fun t => t.groom = { s.groom with ethWait := true } ∧ t.regs = s.regs)) ∧
      (s.underTest 0x7A = false → s.flag Reg.NET.CFG.ETH2_SPARE = false ∨ s.groom.live.ports.contains 2 = true ∨
        s.get (Reg.NET.PORT.STATUS.LINK 2) ≠ 3 → Runs .ethSpareBringIn s (fun t => t.groom = s.groom ∧ t.causeSet ⟨5, 2⟩ = true))) ∧
    (∀ p : Fin 3, s.get Reg.NET.INJ_TARGET.TARGET = 0 → s.get Reg.NET.INJ_TARGET.INDEX = p.val →
      s.flag (Reg.NET.PORT.CFG.ENABLE p.val) = true → s.linkUp p.val = true → s.noneRuns Reg.NET.INJ_STATUS.addr = true →
      Runs (.netInject 1) s (fun t => t.get Reg.NET.INJ_STATUS.CODE = codePending ∧
        t.injs = s.withInj ⟨Reg.NET.INJ_STATUS.addr, false, 0, p.val, 0⟩)) ∧
    (s.get Reg.NET.INJ_TARGET.TARGET = 1 → 2 ≤ s.get Reg.NET.FOLIS.STATUS.ROLE → s.noneRuns Reg.NET.INJ_STATUS.addr = true →
      Runs (.netInject 1) s (fun t => t.get Reg.NET.INJ_STATUS.CODE = codePending ∧
        t.injs = s.withInj ⟨Reg.NET.INJ_STATUS.addr, false, 1, s.get Reg.NET.INJ_TARGET.INDEX, 0⟩)) ∧
    (∀ cls : Nat, (cls ≠ 1 → cls ≠ 2 → exec (.netInject cls) s = .next s) ∧
      (cls = 1 ∨ cls = 2 → cls = 2 ∨ s.noneRuns Reg.NET.INJ_STATUS.addr = false ∨ 1 < s.get Reg.NET.INJ_TARGET.TARGET ∨
          (s.get Reg.NET.INJ_TARGET.TARGET = 0 ∧ (3 ≤ s.get Reg.NET.INJ_TARGET.INDEX ∨
            s.flag (Reg.NET.PORT.CFG.ENABLE (s.get Reg.NET.INJ_TARGET.INDEX)) = false ∨ s.linkUp (s.get Reg.NET.INJ_TARGET.INDEX) = false)) ∨
          (s.get Reg.NET.INJ_TARGET.TARGET = 1 ∧ s.get Reg.NET.FOLIS.STATUS.ROLE < 2) →
        Runs (.netInject cls) s (fun t => t.get Reg.NET.INJ_STATUS.CODE = codeDenied ∧ t.injs = s.injs ∧ t.causeSet ⟨40, 9⟩ = true))) ∧
    (∀ (i : Inj) (pass : Bool), s.injAt Reg.NET.INJ_STATUS.addr = some i → i.ctrl = Reg.NET.INJ_STATUS.addr →
      Runs (.injectWindowEnd Reg.NET.INJ_STATUS.addr pass) s (fun t => t.injAt Reg.NET.INJ_STATUS.addr = none ∧
        t.get Reg.NET.INJ_STATUS.CODE = (if pass then codePass else codeFail) ∧
        (pass = true → t.causeSet (if i.target = 0 then ⟨40, i.index⟩ else ⟨41, 1⟩) = true) ∧
        (i.seen ≠ 0 → i.target = 0 → t.causeSet ⟨40, i.index⟩ = true)))

/-- Where Folis does not run on the port, or the frame breaks R496 or is of another type or too short, a received frame changes nothing; one of another domain sets FOREIGN. A lone candidate becomes master, a node with priority 255 none. A cycle starts on the master and is followed from the parent port alone, and goes to the child ports. Reports are held, joined and sent, late ones set LATE. Delay requests are numbered and answered, and an answer to the latest updates the delay. A schedule 100 periods ahead is taken and sent, a cancel drops it. Capabilities go to the tree ports and are kept; PEERS asks for them and runs until a record comes or the own one is sent. A read of AGG0 latches the aggregate. -/
def Obligations.FolisCommandsRun : Prop :=
  ∀ s : State,
    (∀ (p : Fin 3) (f : List Byte) (n : Nat) (r : Vector Nat 3), s.folisOn p.val = false ∨ folisMsg f = none →
      exec (.beaconReceive p ⟨f, false⟩) s = .next s.netGo ∧ exec (.cycleReceive p ⟨f, false⟩ n r) s = .next s.netGo ∧
      exec (.reportReceive p ⟨f, false⟩) s = .next s.netGo ∧ exec (.delayReqReceive p ⟨f, false⟩ n) s = .next s.netGo ∧
      exec (.delayRespReceive p ⟨f, false⟩ n) s = .next s.netGo ∧ exec (.scheduleReceive p ⟨f, false⟩) s = .next s.netGo ∧
      exec (.capsReceive p ⟨f, false⟩) s = .next s.netGo) ∧
    (∀ (p : Fin 3) (f : List Byte) (n : Nat) (r : Vector Nat 3) (m : FolisMsg), s.folisOn p.val = true → folisMsg f = some m →
      (m.dom ≠ s.get Reg.NET.FOLIS.DOMAIN.val →
        ∀ c ∈ [Instr.beaconReceive p ⟨f, false⟩, .cycleReceive p ⟨f, false⟩ n r, .reportReceive p ⟨f, false⟩, .delayReqReceive p ⟨f, false⟩ n, .delayRespReceive p ⟨f, false⟩ n,
          .scheduleReceive p ⟨f, false⟩, .capsReceive p ⟨f, false⟩], exec c s = .next (s.netGo.raise ⟨41, 6⟩)) ∧
      (m.dom = s.get Reg.NET.FOLIS.DOMAIN.val →
        ∀ c ∈ [(tyBeacon, Instr.beaconReceive p ⟨f, false⟩), (tyCycle, .cycleReceive p ⟨f, false⟩ n r), (tyReport, .reportReceive p ⟨f, false⟩),
          (tyDelayReq, .delayReqReceive p ⟨f, false⟩ n), (tyDelayResp, .delayRespReceive p ⟨f, false⟩ n), (tySchedule, .scheduleReceive p ⟨f, false⟩),
          (tyCaps, .capsReceive p ⟨f, false⟩)],
          m.ty ≠ c.1 ∨ m.body.length < folisPlen c.1 → exec c.2 s = .next s.netGo)) ∧
    (s.flag Reg.NET.FOLIS.CFG.ENABLE = true → s.net.beacons = [] → s.causeSet ⟨41, 5⟩ = false → Runs .beaconSend s (fun t =>
      (s.get Reg.NET.FOLIS.CFG.MASTER_PRIO < 255 → t.get Reg.NET.FOLIS.STATUS.ROLE = 1 ∧
        t.get Reg.NET.FOLIS.STATUS.DEPTH = 0 ∧ t.get Reg.NET.FOLIS.STATUS.MASTER_ID = s.nodeId ∧
        ∀ p ∈ s.folisPorts, s.ungated p = true → t.sentOwn p) ∧
      (s.get Reg.NET.FOLIS.CFG.MASTER_PRIO = 255 → t.get Reg.NET.FOLIS.STATUS.ROLE = 0))) ∧
    (∀ (p : Fin 3) (f : List Byte) (m : FolisMsg), s.folisAccepts p f tyBeacon m → Runs (.beaconReceive p ⟨f, false⟩) s (fun t =>
      t.net.beacons = ⟨p.val, m.node, leAt m.body 0 2 % 1024, leAt m.body 2 1, leAt m.body 3 1, leAt m.body 4 2, 0⟩ ::
        s.net.beacons ∧ (if m.node = s.nodeId ∧ ownMac m.src = false then t.causeSet ⟨41, 5⟩ = true else True))) ∧
    (s.flag Reg.NET.FOLIS.CFG.ENABLE = false → exec .beaconSend s = .next s.netGo) ∧
    (s.get Reg.NET.FOLIS.STATUS.ROLE < 2 → exec .masterLost s = .next s.netGo) ∧
    (∀ i, 2 ≤ s.get Reg.NET.FOLIS.STATUS.ROLE → s.injAt Reg.NET.INJ_STATUS.addr = some i → i.target = 1 →
      Runs .masterLost s (fun t => t.regs = s.regs ∧ t.injs.length = s.injs.length ∧
        ∀ j ∈ t.injs, j.ctrl = Reg.NET.INJ_STATUS.addr → j.seen = 1)) ∧
    (2 ≤ s.get Reg.NET.FOLIS.STATUS.ROLE → (∀ i, s.injAt Reg.NET.INJ_STATUS.addr = some i → i.target ≠ 1) → Runs .masterLost s (fun t =>
      t.causeSet ⟨41, 1⟩ = true ∧ (s.get Reg.NET.FOLIS.STATUS.MASTER_ID, 3) ∈ t.net.excluded ∧
      t.get Reg.NET.FOLIS.STATUS.SYNCED = 0)) ∧
    (∀ (k : Nat) (stamps : Vector Nat 3), s.isMaster = true → Runs (.cycleStart k stamps) s (fun t =>
      t.rd Reg.NET.FOLIS.CYCLE_NO.addr = BitVec.ofNat 32 k ∧ t.net.cycle = some (k % 2 ^ 32) ∧ t.net.own.nodes = 1 ∧
      t.net.held = [] ∧ ∀ p ∈ s.childPorts, s.ungated p = true → t.sentOwn p)) ∧
    (∀ (p : Fin 3) (f : List Byte) (m : FolisMsg) (n : Nat) (r : Vector Nat 3), s.folisAccepts p f tyCycle m →
      (s.get Reg.NET.FOLIS.STATUS.PARENT = p.val → Runs (.cycleReceive p ⟨f, false⟩ n r) s (fun t =>
        t.rd Reg.NET.FOLIS.CYCLE_NO.addr = BitVec.ofNat 32 m.cycle ∧ t.net.cycle = some m.cycle ∧
        t.net.agg.nodes = leAt m.body 52 2 ∧ t.get Reg.NET.FOLIS.STATUS.SYNCED = 1)) ∧
      (s.get Reg.NET.FOLIS.STATUS.PARENT ≠ p.val → exec (.cycleReceive p ⟨f, false⟩ n r) s = .next s.netGo)) ∧
    (2 ≤ s.get Reg.NET.FOLIS.STATUS.ROLE → s.net.closed = false → s.allHeld = true → Runs .reportSend s (fun t =>
      t.net.closed = true ∧ t.regs = s.regs ∧ ∀ p ∈ s.folisPorts, s.get Reg.NET.FOLIS.STATUS.PARENT = p.val →
        s.ungated p = true → t.sentOwn p)) ∧
    (s.get Reg.NET.FOLIS.STATUS.ROLE < 2 ∨ s.allHeld = false → exec .reportSend s = .next s.netGo) ∧
    (s.net.closed = false → s.get Reg.NET.FOLIS.STATUS.ROLE = 2 → Runs .reportDeadline s (fun t => t.net.closed = true ∧ t.regs = s.regs ∧
      ∀ p ∈ s.folisPorts, s.get Reg.NET.FOLIS.STATUS.PARENT = p.val → s.ungated p = true → t.sentOwn p)) ∧
    (s.get Reg.NET.FOLIS.STATUS.ROLE = 0 ∨ s.get Reg.NET.FOLIS.STATUS.ROLE = 3 → exec .reportDeadline s = .next s.netGo) ∧
    (s.isMaster = false → ∀ (k : Nat) (stamps : Vector Nat 3), exec (.cycleStart k stamps) s = .next s.netGo) ∧
    (s.net.closed = true → exec .reportSend s = .next s.netGo ∧ exec .reportDeadline s = .next s.netGo) ∧
    (s.net.closed = false → s.isMaster = true → Runs .reportDeadline s (fun t => t.net.closed = true ∧ t.net.agg = s.joined ∧
      t.net.aggCycle = s.get Reg.NET.FOLIS.CYCLE_NO.K)) ∧
    (∀ (p : Fin 3) (f : List Byte) (m : FolisMsg), s.folisAccepts p f tyReport m → p ∈ s.childPorts →
      (s.net.closed = true ∨ s.net.cycle ≠ some m.cycle → exec (.reportReceive p ⟨f, false⟩) s = .next (s.netGo.raise ⟨41, 4⟩)) ∧
      (s.net.closed = false → s.net.cycle = some m.cycle → Runs (.reportReceive p ⟨f, false⟩) s (fun t =>
        ∃ r, (p.val, r) ∈ t.net.held ∧ r.nodes = leAt m.body 0 2 ∧ r.lowest = leAt m.body 6 2))) ∧
    (∀ (p : Fin 3) (f : List Byte) (m : FolisMsg), s.folisAccepts p f tyReport m → p ∉ s.childPorts →
      exec (.reportReceive p ⟨f, false⟩) s = .next s.netGo) ∧
    (∀ p : Fin 3, s.folisOn p.val = false → exec (.delayReqSend p) s = .next s.netGo) ∧
    (∀ (p : Fin 3) (f : List Byte) (m : FolisMsg) (n : Nat), s.folisAccepts p f tyDelayResp m → s.net.delays[p].waiting = false ∨
      leAt m.body 8 2 ≠ s.net.delays[p].seq → exec (.delayRespReceive p ⟨f, false⟩ n) s = .next s.netGo) ∧
    (∀ p : Fin 3, s.folisOn p.val = true → Runs (.delayReqSend p) s (fun t => t.net.delays[p].waiting = true ∧
      t.net.delays[p].seq = (s.net.delays[p].seq + 1) % 65536 ∧ t.regs = s.regs ∧ (s.ungated p = true → t.sentOwn p))) ∧
    (∀ (p : Fin 3) (f : List Byte) (m : FolisMsg) (n : Nat), s.folisAccepts p f tyDelayReq m →
      Runs (.delayReqReceive p ⟨f, false⟩ n) s (fun t => t.regs = s.regs ∧ (s.ungated p = true → t.sentOwn p))) ∧
    (∀ (p : Fin 3) (f : List Byte) (m : FolisMsg) (n : Nat), s.folisAccepts p f tyDelayResp m → s.net.delays[p].waiting = true →
      leAt m.body 8 2 = s.net.delays[p].seq → Runs (.delayRespReceive p ⟨f, false⟩ n) s (fun t => t.net.delays[p].waiting = false ∧
        t.net.delays[p] = s.net.delays[p].take (((n : Int) - (leAt m.body 0 8 : Int)) / 2) ∧
        t.rd (Reg.NET.PORT.DELAY.addr p.val) = BitVec.ofInt 32 (delayMean t.net.delays[p].good / 256))) ∧
    (s.isMaster = true → ((100 * s.get Reg.NET.FOLIS.CYCLE.PERIOD * 1000 : Nat) : Int) ≤
        nsBetween s.now.1 s.folisAct → Runs .schedule s (fun t => t.net.sched = some s.folisAct ∧
      t.net.sending = true ∧ t.get Reg.NET.FOLIS.SCHED_SEQ.SEQ = (s.get Reg.NET.FOLIS.SCHED_SEQ.SEQ + 1) % 65536 ∧
      t.causeSet ⟨41, 7⟩ = true ∧ t.get Reg.NET.CMD_STATUS.CODE = codeOk)) ∧
    (s.isMaster = true → Runs .schedCancel s (fun t => t.net.sched = none ∧ t.net.sending = false ∧ t.net.cancels = 3 ∧
      t.svc.armed = none ∧ t.get Reg.NET.CMD_STATUS.CODE = codeOk)) ∧
    (s.isMaster = false ∨ nsBetween s.now.1 s.folisAct < ((100 * s.get Reg.NET.FOLIS.CYCLE.PERIOD * 1000 : Nat) : Int) →
      Runs .schedule s (fun t => t.net = s.netGo.net ∧ t.causeSet ⟨40, 9⟩ = true ∧ t.get Reg.NET.CMD_STATUS.CODE = codeDenied)) ∧
    Runs .schedule s (fun t => t.net.sched = some s.folisAct ∧ t.get Reg.NET.CMD_STATUS.CODE = codeOk ∨
      t.net = s.netGo.net ∧ t.get Reg.NET.CMD_STATUS.CODE = codeDenied) ∧
    (s.isMaster = false → Runs .schedCancel s (fun t => t.net = s.netGo.net ∧ t.causeSet ⟨40, 9⟩ = true ∧
        t.get Reg.NET.CMD_STATUS.CODE = codeDenied)) ∧
    (∀ (p : Fin 3) (f : List Byte) (m : FolisMsg), s.folisAccepts p f tySchedule m →
      s.get Reg.NET.FOLIS.STATUS.PARENT = p.val → Runs (.scheduleReceive p ⟨f, false⟩) s (fun t =>
        t.get Reg.NET.FOLIS.SCHED_SEQ.SEQ = leAt m.body 44 2 ∧
        (leAt m.body 46 1 = 1 → t.net.sched = some (leAt m.body 0 6, leAt m.body 6 4)) ∧
        (leAt m.body 46 1 = 2 → t.net.sched = none ∧ t.svc.armed = none))) ∧
    (∀ (p : Fin 3) (f : List Byte) (m : FolisMsg), s.folisAccepts p f tySchedule m →
      s.get Reg.NET.FOLIS.STATUS.PARENT ≠ p.val → exec (.scheduleReceive p ⟨f, false⟩) s = .next s.netGo) ∧
    Runs .capsRequest s (fun t => t.get Reg.NET.CMD_STATUS.CODE = codeOk ∧
      ∀ p ∈ s.treePorts, s.ungated p = true → t.sentOwn p) ∧
    Runs .capsSend s (fun t => t.regs = s.regs ∧ (s.probe.task = .peers → t.probe.task = .none) ∧ ∀ p ∈ s.treePorts, s.ungated p = true → t.sentOwn p) ∧
    (s.probe.task = .none → Runs .peers s (fun t => t.get Reg.PROBE.CMD_STATUS.CODE = codeOk ∧
      t.probe.task = (if s.treePorts = [] then .none else .peers) ∧
      ∀ p ∈ s.treePorts, s.ungated p = true → t.sentOwn p)) ∧
    (s.probe.task ≠ .none → Runs .peers s (fun t => t.get Reg.PROBE.CMD_STATUS.CODE = codeDenied ∧ t.causeSet ⟨44, 12⟩ = true)) ∧
    (∀ (p : Fin 3) (f : List Byte) (m : FolisMsg), s.folisAccepts p f tyCaps m → m.node ≠ s.nodeId →
      Runs (.capsReceive p ⟨f, false⟩) s (fun t => if leAt m.body 8 8 = Config.serial.toNat then t.net.peers = s.net.peers
        else ⟨m.node, leAt m.body 8 8, leAt m.body 0 2, leAt m.body 2 1, leAt m.body 3 1, leAt m.body 4 4⟩ ∈ t.net.peers ∧ (s.probe.task = .peers → t.probe.task = .none))) ∧
    (∀ (p : Fin 3) (f : List Byte) (m : FolisMsg), s.folisAccepts p f tyCaps m → m.node = s.nodeId → Runs (.capsReceive p ⟨f, false⟩) s (fun t =>
      t.net.peers = s.net.peers ∧ (leAt m.body 8 8 ≠ Config.serial.toNat → t.causeSet ⟨41, 5⟩ = true))) ∧
    (s.net.agg.nodes < 2048 → s.net.agg.agree < 2048 → s.net.agg.safe < 2048 → Runs .folisAggRead s (fun t =>
      t.get Reg.NET.FOLIS.AGG0.NODES = s.net.agg.nodes ∧ t.get Reg.NET.FOLIS.AGG0.AGREE = s.net.agg.agree ∧
      t.get Reg.NET.FOLIS.AGG2.SAFE = s.net.agg.safe ∧ t.rd Reg.NET.FOLIS.AGG4.addr = BitVec.ofNat 32 s.net.aggCycle))

/-- A controller leaves CONFIG for INTEGRATING, or RECOVERING after bus-off, enters CONFIG on request with its active buffer PENDING again, or ended by a noted abort, and integrates to error active or passive. An idle buffer takes a request, another refuses it. An abort ends a waiting buffer and is noted for an active one. A selection takes a PENDING buffer: the first with ORDER, else one of the lowest arbitration field; in ERROR_PASSIVE after an own frame it starts at the next one only. Success and error end or repeat it, with TEC, LEC or DLEC and causes; 256 is bus-off. RESTART starts recovery in BUS_OFF without AUTO_RECOVER; its end clears the counters and releases HELD. An injection is answered or refused, a SHADOW one in any state, a LIVE one on the bus only (log entry 105), where it sets TEC. How TEC moves is the model's reading of ISO 11898-1 (log entry 106). -/
def Obligations.CanTransmitRun : Prop :=
  ∀ (s : State) (c : Fin 2),
    (s.canState c = 0 → Runs (.canInitClear c) s (fun t => t.flag (Reg.CAN.CTRL.INIT c.val) = false ∧
      t.canState c = if s.can[c].fromBusOff then 5 else 1)) ∧
    (s.canState c ≠ 0 → Runs (.canInitClear c) s (fun t => t.flag (Reg.CAN.CTRL.INIT c.val) = false ∧ t.canState c = s.canState c)) ∧
    Runs (.canInitSet c) s (fun t => t.flag (Reg.CAN.CTRL.INIT c.val) = true ∧ t.canState c = s.canState c) ∧
    (s.flag (Reg.CAN.CTRL.INIT c.val) = true → s.canState c ≠ 0 → Runs (.canConfigEntry c) s (fun t => t.canState c = 0 ∧
      t.flag (Reg.CAN.STATUS.TX_BUSY c.val) = false ∧ t.flag (Reg.CAN.STATUS.RX_BUSY c.val) = false ∧
      (∀ b, s.canActive c = some b → (s.can[c].abort[b] = false → t.txb c b.val = 1) ∧
        (s.can[c].abort[b] = true → b.val ≠ 2 ∨ s.can[c].statusDue = none → t.txb c b.val = 0 ∧
          t.get (Reg.CAN.TXB.STATE.RESULT c.val b.val) = 2)) ∧
      (s.canActive c = none → t.can[c].chosen = none ∧ ∀ b, s.can[c].chosen = some b → b.val ≠ 2 ∨ s.can[c].statusDue = none →
        t.txb c b.val = if s.can[c].abort[b] then 0 else 1))) ∧
    (s.flag (Reg.CAN.CTRL.INIT c.val) = false ∨ s.canState c = 0 → exec (.canConfigEntry c) s = .next s) ∧
    (s.canState c ≠ 1 → exec (.canIntegrationDone c) s = .next s) ∧
    (s.canState c = 1 → Runs (.canIntegrationDone c) s (fun t =>
      t.canState c = if 128 ≤ s.tec c ∨ 128 ≤ s.rec_ c then 3 else 2)) ∧
    (∀ b : Fin 3, s.txb c b.val = 0 → (b.val = 2 → s.flag (Reg.CAN.STATUS_CFG.EN c.val) = false) →
      Runs (.canTxReq c b) s (fun t => t.txb c b.val = 1 ∧ t.get (Reg.CAN.TXB.STATE.TRIES c.val b.val) = 0)) ∧
    (∀ b : Fin 3, s.txb c b.val ≠ 0 ∨ (b.val = 2 ∧ s.flag (Reg.CAN.STATUS_CFG.EN c.val) = true) → exec (.canTxReq c b) s = .next (s.raise ⟨38 + c.val, 15⟩)) ∧
    (∀ b : Fin 3, (s.txb c b.val = 0 → exec (.canTxAbort c b) s = .next s) ∧
      (s.txb c b.val = 1 ∨ s.txb c b.val = 3 → s.can[c].chosen ≠ some b → Runs (.canTxAbort c b) s (fun t => t.txb c b.val = 0 ∧
        t.get (Reg.CAN.TXB.STATE.RESULT c.val b.val) = 2)) ∧
      (s.txb c b.val = 1 → s.can[c].chosen = some b → Runs (.canTxAbort c b) s (fun t => t.txb c b.val = 1 ∧ t.can[c].abort[b] = true)) ∧
      (s.txb c b.val = 2 → Runs (.canTxAbort c b) s (fun t => t.txb c b.val = 2 ∧ t.can[c].abort[b] = true))) ∧
    (∀ k : Nat, (s.canState c = 2 ∨ s.canState c = 3) → s.canMode c ∈ [0, 3, 4] → s.flag (Reg.CAN.CTRL.INIT c.val) = false →
      s.canActive c = none → s.can[c].chosen = none → s.canPick c = some k → s.txb c k = 1 ∧ k < 3 ∧
      (∀ j, j < 3 → s.txb c j = 1 → if s.flag (Reg.CAN.CTRL.ORDER c.val) then k ≤ j else s.arbKey c k ≤ s.arbKey c j) ∧
      (¬ (s.canState c = 3 ∧ s.can[c].sent = true) → Runs (.canTxSelect c) s (fun t => t.txb c k = 2 ∧
        t.flag (Reg.CAN.STATUS.TX_BUSY c.val) = true)) ∧
      (s.canState c = 3 ∧ s.can[c].sent = true → exec (.canTxSelect c) s =
        .next (s.setCan c { s.can[c] with chosen := some (Fin.ofNat 3 k), sent := false }))) ∧
    (∀ b : Fin 3, (s.canState c = 2 ∨ s.canState c = 3) → s.canMode c ∈ [0, 3, 4] → s.flag (Reg.CAN.CTRL.INIT c.val) = false →
      s.canActive c = none → s.can[c].chosen = some b → Runs (.canTxSelect c) s (fun t => t.txb c b.val = 2 ∧
        t.flag (Reg.CAN.STATUS.TX_BUSY c.val) = true ∧ t.can[c].chosen = none)) ∧
    ((s.canState c = 2 ∨ s.canState c = 3) → s.canMode c ∈ [0, 3, 4] → s.flag (Reg.CAN.CTRL.INIT c.val) = false →
      s.canActive c = none → s.can[c].chosen = none → s.canPick c = none →
      exec (.canTxSelect c) s = .next (s.setCan c { s.can[c] with sent := false })) ∧
    ((s.canState c ≠ 2 ∧ s.canState c ≠ 3) ∨ s.canMode c ∉ [0, 3, 4] ∨ s.flag (Reg.CAN.CTRL.INIT c.val) = true ∨
      s.canActive c ≠ none → exec (.canTxSelect c) s = .next s) ∧
    (∀ (b : Fin 3) (v : BitVec 7) (ns : Nat), s.canActive c = some b → s.tec c ≤ 256 →
      Runs (.txDone c v ns) s (fun t => (b.val ≠ 2 ∨ s.can[c].statusDue = none → t.txb c b.val = 0) ∧
        t.get (Reg.CAN.TXB.STATE.RESULT c.val b.val) = 1 ∧
        t.flag (Reg.CAN.STATUS.TX_BUSY c.val) = false ∧ t.tec c = s.tec c - 1 ∧ t.causeSet ⟨38 + c.val, 5⟩ = true ∧
        t.get (Reg.CAN.COUNTS.ACK_RUN c.val) = 0)) ∧
    (∀ (b : Fin 3) (kind : CanError) (dp nd : Bool), s.canActive c = some b → Runs (.canTxError c kind dp nd) s (fun t =>
      let spare := (kind.code.val = 3 ∧ s.canState c = 3 ∧ nd = true) ∨ (kind.code.val = 1 ∧ kind.arbitration = true)
      let tec := min (s.tec c + (if spare then 0 else 8) + 8 * kind.repeats) 256;
      t.get (if dp then Reg.CAN.ERR.DLEC c.val else Reg.CAN.ERR.LEC c.val) = kind.code.val ∧
      t.flag (Reg.CAN.STATUS.TX_BUSY c.val) = false ∧ t.tec c = tec ∧ (255 < tec → s.canState c = 2 ∨ s.canState c = 3 →
        t.canState c = (if s.flag (Reg.CAN.CTRL.AUTO_RECOVER c.val) then 5 else 4) ∧ t.causeSet ⟨38 + c.val, 8⟩ = true) ∧
      (b.val ≠ 2 ∨ s.can[c].statusDue = none → tec ≤ 255 →
        (s.can[c].abort[b] = true → t.txb c b.val = 0 ∧ t.get (Reg.CAN.TXB.STATE.RESULT c.val b.val) = 2) ∧
        (s.can[c].abort[b] = false → s.get (Reg.CAN.CTRL.RETRY_LIMIT c.val) = 0 ∨
          s.get (Reg.CAN.TXB.STATE.TRIES c.val b.val) + 1 < s.get (Reg.CAN.CTRL.RETRY_LIMIT c.val) → t.txb c b.val = 1) ∧
        (s.can[c].abort[b] = false → 0 < s.get (Reg.CAN.CTRL.RETRY_LIMIT c.val) →
          s.get (Reg.CAN.CTRL.RETRY_LIMIT c.val) ≤ s.get (Reg.CAN.TXB.STATE.TRIES c.val b.val) + 1 →
          s.get (Reg.CAN.TXB.STATE.TRIES c.val b.val) < 255 →
          t.txb c b.val = 0 ∧ t.get (Reg.CAN.TXB.STATE.RESULT c.val b.val) = 3 ∧ t.causeSet ⟨38 + c.val, 6⟩ = true)))) ∧
    (s.canActive c = none → (∀ (v : BitVec 7) (ns : Nat), exec (.txDone c v ns) s = .next s) ∧
      ∀ (kind : CanError) (d nd : Bool), exec (.canTxError c kind d nd) s = .next s) ∧
    (s.canState c = 4 → s.flag (Reg.CAN.CTRL.AUTO_RECOVER c.val) = false → Runs (.canRestart c) s (fun t => t.canState c = 5 ∧
      t.get (Reg.CAN.STATUS.RECOVERY c.val) = 0 ∧ t.get (Reg.CAN.CMD_STATUS.CODE c.val) = codeOk)) ∧
    (s.canState c ≠ 4 ∨ s.flag (Reg.CAN.CTRL.AUTO_RECOVER c.val) = true → Runs (.canRestart c) s (fun t => t.canState c = s.canState c ∧
      t.get (Reg.CAN.CMD_STATUS.CODE c.val) = codeDenied ∧ t.causeSet ⟨38 + c.val, 15⟩ = true)) ∧
    (s.canState c = 5 → Runs (.recovered c) s (fun t => t.canState c = 2 ∧ t.tec c = 0 ∧ t.rec_ c = 0 ∧
      t.causeSet ⟨38 + c.val, 9⟩ = true ∧ ∀ b : Fin 3, s.txb c b.val = 3 → t.txb c b.val = 1)) ∧
    (s.canState c ≠ 5 → exec (.recovered c) s = .next s) ∧
    Runs (.canClearStats c) s (fun t => t.get (Reg.CAN.COUNTS.BUSOFFS c.val) = 0 ∧ t.get (Reg.CAN.COUNTS.RX_DROPS c.val) = 0 ∧
      t.get (Reg.CAN.CMD_STATUS.CODE c.val) = codeOk) ∧
    (s.get (Reg.CAN.INJ_TARGET.TARGET c.val) ≤ 2 → s.noneRuns (Reg.CAN.INJ_STATUS.addr c.val) = true →
      Runs (.canInject c 1) s (fun t => t.get (Reg.CAN.INJ_STATUS.CODE c.val) = codePass ∧ t.tec c = s.tec c ∧
        t.injs = s.injs.filter (fun i => i.ctrl != Reg.CAN.INJ_STATUS.addr c.val) ∧
        t.causeSet ⟨38 + c.val, if s.get (Reg.CAN.INJ_TARGET.TARGET c.val) = 0 then 7
          else if s.get (Reg.CAN.INJ_TARGET.TARGET c.val) = 1 then 8 else 10⟩ = true)) ∧
    (s.get (Reg.CAN.INJ_TARGET.TARGET c.val) < 2 → (s.canState c = 2 ∨ s.canState c = 3) → s.liveAllowed = true →
      s.noneRuns (Reg.CAN.INJ_STATUS.addr c.val) = true → Runs (.canInject c 2) s (fun t =>
        t.get (Reg.CAN.INJ_STATUS.CODE c.val) = codeActed ∧
        t.tec c = (if s.get (Reg.CAN.INJ_TARGET.TARGET c.val) = 0 then 128 else 256) ∧
        t.canState c = (if s.get (Reg.CAN.INJ_TARGET.TARGET c.val) = 0 then 3
          else if s.flag (Reg.CAN.CTRL.AUTO_RECOVER c.val) then 5 else 4))) ∧
    (∀ cls : Nat, (cls ≠ 1 → cls ≠ 2 → exec (.canInject c cls) s = .next s) ∧
      (cls = 1 ∨ cls = 2 → 2 < s.get (Reg.CAN.INJ_TARGET.TARGET c.val) ∨ s.noneRuns (Reg.CAN.INJ_STATUS.addr c.val) = false ∨
          (cls = 2 ∧ (s.liveAllowed = false ∨ 2 ≤ s.get (Reg.CAN.INJ_TARGET.TARGET c.val) ∨ (s.canState c ≠ 2 ∧ s.canState c ≠ 3))) →
        Runs (.canInject c cls) s (fun t => t.get (Reg.CAN.INJ_STATUS.CODE c.val) = codeDenied ∧ t.injs = s.injs ∧
          t.tec c = s.tec c ∧ t.causeSet ⟨38 + c.val, 15⟩ = true)))

/-- A good frame that a filter, or NOMATCH, sends to FIFO0 or FIFO1 joins its end with the number of the filter, and is dropped with a count and RX_DROP when 16 stand there; one sent to the HPB takes the place of what stands there; a rejected one is dropped. An own frame that lost arbitration waits again, or ends aborted. In BUS_MON nothing is sent, in other states nothing is received. A recessive res bit restarts integration unless PXHD. A read latches the head, VALID tells an empty store, and a pop removes the latched head only while it is still the head. A receive error raises REC, which a good frame lowers (log entry 106); RESTRICTED moves neither. -/
def Obligations.CanReceiveRun : Prop :=
  ∀ (s : State) (c : Fin 2),
    (∀ (e : CanFrame) (r : Bool) (ns f : Nat) (k : Fin 2), (s.canState c = 2 ∨ s.canState c = 3) → s.canMode c ≠ 3 →
      r = false ∨ e.fdf = false →
      fltFirst (s.canFilters c) (canOnBus e) = some (f, k.val + 1) ∨
        (fltFirst (s.canFilters c) (canOnBus e) = none ∧ s.get (Reg.CAN.CTRL.NOMATCH c.val) = k.val + 1 ∧ f = 0x3F) →
      ((s.can[c].stores[(⟨k.val, by omega⟩ : Fin 3)]).length < 16 → Runs (.canFrameReceived c ⟨e, false⟩ r ns) s (fun t =>
        (∃ x, t.can[c].stores[(⟨k.val, by omega⟩ : Fin 3)] = s.can[c].stores[(⟨k.val, by omega⟩ : Fin 3)] ++ [x] ∧
          x.frame.id = (canOnBus e).id ∧ x.frame.dlc = e.dlc ∧ x.filter = f) ∧
        t.get (if k = 0 then Reg.CAN.FILL.FIFO0 c.val else Reg.CAN.FILL.FIFO1 c.val) =
          (s.can[c].stores[(⟨k.val, by omega⟩ : Fin 3)]).length + 1 ∧ t.causeSet ⟨38 + c.val, k.val⟩ = true)) ∧
      (16 ≤ (s.can[c].stores[(⟨k.val, by omega⟩ : Fin 3)]).length → Runs (.canFrameReceived c ⟨e, false⟩ r ns) s (fun t =>
        t.can[c].stores = s.can[c].stores ∧ t.causeSet ⟨38 + c.val, 3⟩ = true ∧
        t.get (Reg.CAN.COUNTS.RX_DROPS c.val) = min (s.get (Reg.CAN.COUNTS.RX_DROPS c.val) + 1) 65535))) ∧
    (∀ (e : CanFrame) (r : Bool) (ns f : Nat), (s.canState c = 2 ∨ s.canState c = 3) → s.canMode c ≠ 3 → r = false ∨ e.fdf = false →
      fltFirst (s.canFilters c) (canOnBus e) = some (f, 3) → Runs (.canFrameReceived c ⟨e, false⟩ r ns) s (fun t =>
        (∃ x, t.can[c].stores[2] = [x] ∧ x.frame.id = (canOnBus e).id ∧ x.frame.dlc = e.dlc ∧ x.filter = f) ∧
        t.flag (Reg.CAN.FILL.HPB c.val) = true ∧ t.causeSet ⟨38 + c.val, 2⟩ = true ∧
        (s.can[c].stores[2] ≠ [] → t.causeSet ⟨38 + c.val, 4⟩ = true))) ∧
    (∀ (e : CanFrame) (r : Bool) (ns : Nat), (s.canState c = 2 ∨ s.canState c = 3) → s.canMode c ≠ 3 → r = false ∨ e.fdf = false →
      (∃ f, fltFirst (s.canFilters c) (canOnBus e) = some (f, 4)) ∨
        (fltFirst (s.canFilters c) (canOnBus e) = none ∧ s.get (Reg.CAN.CTRL.NOMATCH c.val) = 0) → Runs (.canFrameReceived c ⟨e, false⟩ r ns) s (fun t =>
        t.can[c].stores = s.can[c].stores)) ∧
    (∀ (e : CanFrame) (r : Bool) (ns : Nat) (b : Fin 3), (s.canState c = 2 ∨ s.canState c = 3) → s.canMode c ≠ 3 →
      (s.canActive c = some b ∧ s.can[c].chosen = none) ∨ (s.canActive c = none ∧ s.can[c].chosen = some b) →
      b.val ≠ 2 ∨ s.can[c].statusDue = none → s.tec c ≤ 255 →
      let back (t : State) := t.txb c b.val = (if s.can[c].abort[b] then 0 else 1) ∧ t.can[c].chosen = none ∧
        (s.canActive c = some b → t.flag (Reg.CAN.STATUS.TX_BUSY c.val) = false);
      Runs (.canFrameReceived c ⟨e, false⟩ r ns) s back ∧ ∀ (kind : Fin 7) (d by8 : Bool), Runs (.receiveError c kind d by8) s back) ∧
    (∀ (e : CanFrame) (r : Bool) (ns : Nat), (s.canState c = 2 ∨ s.canState c = 3) → s.canMode c ≠ 3 → r = false ∨ e.fdf = false →
      Runs (.canFrameReceived c ⟨e, false⟩ r ns) s (fun t =>
        (s.canMode c = 1 → t.rec_ c = s.rec_ c) ∧ (s.canMode c ≠ 1 → s.rec_ c ≤ 127 → t.rec_ c = s.rec_ c - 1) ∧
        (s.canMode c ≠ 1 → 127 < s.rec_ c → 119 ≤ t.rec_ c ∧ t.rec_ c ≤ 127))) ∧
    (∀ (e : CanFrame) (ns : Nat), (s.canState c = 2 ∨ s.canState c = 3) → s.canMode c ≠ 3 → e.fdf = true →
      s.flag (Reg.CAN.CTRL.PXHD c.val) = true → Runs (.canFrameReceived c ⟨e, false⟩ true ns) s (fun t =>
        t.get (Reg.CAN.ERR.LEC c.val) = 2 ∧ t.can[c].stores = s.can[c].stores)) ∧
    (∀ (e : CanFrame) (ns : Nat), (s.canState c = 2 ∨ s.canState c = 3) → s.canMode c ≠ 3 → e.fdf = true →
      s.flag (Reg.CAN.CTRL.PXHD c.val) = false → Runs (.canFrameReceived c ⟨e, false⟩ true ns) s (fun t => t.canState c = 1 ∧
        t.causeSet ⟨38 + c.val, 11⟩ = true ∧ t.can[c].stores = s.can[c].stores)) ∧
    (∀ (e : CanFrame) (r : Bool) (ns : Nat), (s.canState c ≠ 2 ∧ s.canState c ≠ 3) ∨ s.canMode c = 3 →
      exec (.canFrameReceived c ⟨e, false⟩ r ns) s = .next s) ∧
    (∀ (f : Fin 3), s.can[c].stores[f] = [] → Runs (.canRxRead c f) s (fun t => t.rd (Reg.CAN.RX.ID.addr c.val f.val) = 0#32 ∧
      t.can[c].stores = s.can[c].stores)) ∧
    (∀ (f : Fin 3) (x : RxEntry) (l : List RxEntry), s.can[c].stores[f] = x :: l → Runs (.canRxRead c f) s (fun t =>
      t.get (Reg.CAN.RX.ID.val c.val f.val) = x.frame.id.toNat ∧ t.flag (Reg.CAN.RX.ID.VALID c.val f.val) = true ∧
      t.flag (Reg.CAN.RX.ID.IDE c.val f.val) = x.frame.ide ∧ t.get (Reg.CAN.RX.TS.NS c.val f.val) = x.ns % 2 ^ 30 ∧
      t.can[c].latched[f] = some x.tag ∧ t.can[c].stores = s.can[c].stores)) ∧
    (∀ f : Fin 3, s.can[c].stores[f] = [] → exec (.canRxPop c f) s = .next s) ∧
    (∀ (f : Fin 3) (x : RxEntry) (l : List RxEntry), s.can[c].stores[f] = x :: l →
      (s.can[c].latched[f] = some x.tag → Runs (.canRxPop c f) s (fun t => t.can[c].stores[f] = l ∧ t.can[c].latched[f] = none)) ∧
      (s.can[c].latched[f] ≠ some x.tag → exec (.canRxPop c f) s = .next s)) ∧
    (∀ (kind : Fin 7) (dp by8 : Bool), (s.canState c = 2 ∨ s.canState c = 3) → s.canMode c ≠ 3 → Runs (.receiveError c kind dp by8) s (fun t =>
      t.get (if dp then Reg.CAN.ERR.DLEC c.val else Reg.CAN.ERR.LEC c.val) = kind.val ∧
      t.rec_ c = if s.canMode c = 1 then s.rec_ c else min (s.rec_ c + if by8 then 8 else 1) 255)) ∧
    (∀ (kind : Fin 7) (d by8 : Bool), (s.canState c ≠ 2 ∧ s.canState c ≠ 3) ∨ s.canMode c = 3 → exec (.receiveError c kind d by8) s = .next s)

/-- While the module runs: a READ whose CRC fails returns zero bytes and a status byte without OK, sets CRC, and changes no register but the counter; a LEN with upper bits sets FRAMING, and an address outside the space, across a window or unaligned sets DECODE and LAST_BAD, alike without effect. An accepted READ returns its words, an accepted WRITE stores its words in order; STATUS returns the flags and SEQ. A wrong opcode, a transaction cut short and an early rise of CS do nothing but count; clock edges after the answer count as FRAMING. The transaction is the one that the CMD byte names. Before host enable and in resets the port does nothing. The CRC-8 of "123456789" is 0xF4. -/
def Obligations.HostPortTransactionsRun : Prop :=
  (crc8 [0x31#8, 0x32#8, 0x33#8, 0x34#8, 0x35#8, 0x36#8, 0x37#8, 0x38#8, 0x39#8] = 0xF4#8) ∧
  ∀ (s : State) (env : HostEnv),
    (s.life ≠ .run → (∀ (l : List Byte) (x d : Bool), exec (.hostWrite l x d env) s = .next s) ∧
      (∀ (l : List Byte) (late : BitVec 16) (x d : Bool), exec (.hostRead l late x d env) s = .next s) ∧
      (∀ x : Bool, exec (.hostStatus x) s = .next s) ∧ exec .hostCsEarlyRise s = .next s) ∧
    (∀ (l : List Byte) (late : BitVec 16) (x d : Bool),
      exec (.hostWrite l x d env) s = exec (.hostRead l 0#16 x d env) s ∧
      (l.head? = some 0x02#8 → exec (.hostRead l late x d env) s = exec (.hostWrite l x d env) s) ∧
      (l.head? = some 0x05#8 → exec (.hostRead l late x d env) s = exec (.hostStatus x) s) ∧
      (s.life = .run → l = [] ∨ (l.head? = some 0x0B#8 ∧ l.length ≤ 6) ∨
          (l.head? = some 0x02#8 ∧ l.length ≤ 6 + 4 * lenWords (l.getD 1 0#8)) → Runs (.hostRead l late x d env) s (fun t =>
        t.host.reply = [] ∧ t.causeSet ⟨47, 2⟩ = true ∧ s.regsBut [Reg.HOST.COUNTS0.addr, Reg.INT.GRP.CAUSE.addr 47] t))) ∧
    (s.life = .run → ∀ (len a3 a2 a1 a0 c : Byte) (rest : List Byte) (late : BitVec 16) (x d : Bool),
      (crc8 [0x0B#8, len, a3, a2, a1, a0] ≠ c → Runs (.hostRead ([0x0B#8, len, a3, a2, a1, a0, c] ++ rest) late x d env) s (fun t =>
        t.host.reply.length = 4 * lenWords len + 2 ∧ (∀ i, i < 4 * lenWords len → t.host.reply[i]? = some 0#8) ∧
        (∃ b, t.host.reply[4 * lenWords len]? = some b ∧ b.getLsbD 0 = false) ∧ t.causeSet ⟨47, 0⟩ = true ∧
        t.get Reg.HOST.COUNTS0.CRC_ERRS = min (s.get Reg.HOST.COUNTS0.CRC_ERRS + 1) 65535 ∧
        s.regsBut [Reg.HOST.COUNTS0.addr, Reg.INT.GRP.CAUSE.addr 47] t)) ∧
      (crc8 [0x0B#8, len, a3, a2, a1, a0] = c → 16 ≤ len.toNat →
        Runs (.hostRead ([0x0B#8, len, a3, a2, a1, a0, c] ++ rest) late x d env) s
        (fun t => t.causeSet ⟨47, 2⟩ = true ∧ s.regsBut [Reg.HOST.COUNTS0.addr, Reg.INT.GRP.CAUSE.addr 47] t)) ∧
      (crc8 [0x0B#8, len, a3, a2, a1, a0] = c → len.toNat < 16 → burstOk (a3 ++ a2 ++ a1 ++ a0 : BitVec 32).toNat (lenWords len) = false →
        Runs (.hostRead ([0x0B#8, len, a3, a2, a1, a0, c] ++ rest) late x d env) s (fun t => t.causeSet ⟨47, 1⟩ = true ∧
          (∀ i, i < 4 * lenWords len → t.host.reply[i]? = some 0#8) ∧ t.host.lastDecode = true ∧
          t.rd Reg.HOST.LAST_BAD.addr = (a3 ++ a2 ++ a1 ++ a0 : BitVec 32) ∧
          s.regsBut [Reg.HOST.COUNTS0.addr, Reg.HOST.COUNTS1.addr, Reg.HOST.LAST_BAD.addr, Reg.INT.GRP.CAUSE.addr 47] t)) ∧
      (crc8 [0x0B#8, len, a3, a2, a1, a0] = c → len.toNat < 16 → burstOk (a3 ++ a2 ++ a1 ++ a0 : BitVec 32).toNat (lenWords len) = true →
        Runs (.hostRead ([0x0B#8, len, a3, a2, a1, a0, c] ++ rest) late x d env) s (fun t => t.host.lastDecode = false ∧
          t.life = .run ∧ t.host.reply.length = 4 * lenWords len + 2 ∧
          t.host.reply.take (4 * lenWords len) = (((s.bumpWrap Reg.HOST.SEQ.COUNT).agreeFix d).readWords env
            (a3 ++ a2 ++ a1 ++ a0 : BitVec 32).toNat ((List.range (lenWords len)).map (fun i => late.getLsbD i))).1 ∧
          (∃ b, t.host.reply[4 * lenWords len]? = some b ∧ b.getLsbD 0 = true) ∧
          (∀ i, i < lenWords len → late.getLsbD i = true → t.causeSet ⟨47, 4⟩ = true ∧ t.host.lastLate = true)))) ∧
    (s.life = .run → ∀ (l : List Byte) (x d : Bool), l.getD 0 0#8 = 0x02#8 →
      (hostCheck l (6 + 4 * lenWords (l.getD 1 0#8)) = .ok → Runs (.hostWrite l x d env) s (fun t =>
        (((s.bumpWrap Reg.HOST.SEQ.COUNT).agreeFix d).writeWords env (beWord l 2).toNat
          ((List.range (lenWords (l.getD 1 0#8))).map (fun i => beWord l (6 + 4 * i)))).regsBut
            (if x then [Reg.HOST.COUNTS0.addr, Reg.INT.GRP.CAUSE.addr 47] else []) t ∧
        (t.life = .run → ∃ b, t.host.reply = [b, crc8 [b]] ∧ b.getLsbD 0 = true))) ∧
      (hostCheck l (6 + 4 * lenWords (l.getD 1 0#8)) = .crc → Runs (.hostWrite l x d env) s (fun t =>
        t.causeSet ⟨47, 0⟩ = true ∧ s.regsBut [Reg.HOST.COUNTS0.addr, Reg.INT.GRP.CAUSE.addr 47] t ∧ t.slots = s.slots)) ∧
      (hostCheck l (6 + 4 * lenWords (l.getD 1 0#8)) = .framing → Runs (.hostWrite l x d env) s (fun t =>
        t.causeSet ⟨47, 2⟩ = true ∧ s.regsBut [Reg.HOST.COUNTS0.addr, Reg.INT.GRP.CAUSE.addr 47] t ∧ t.slots = s.slots)) ∧
      (hostCheck l (6 + 4 * lenWords (l.getD 1 0#8)) = .decode → Runs (.hostWrite l x d env) s (fun t =>
        t.causeSet ⟨47, 1⟩ = true ∧ t.rd Reg.HOST.LAST_BAD.addr = beWord l 2 ∧ t.host.lastDecode = true ∧
        s.regsBut [Reg.HOST.COUNTS0.addr, Reg.HOST.COUNTS1.addr, Reg.HOST.LAST_BAD.addr, Reg.INT.GRP.CAUSE.addr 47] t ∧
        t.slots = s.slots))) ∧
    (s.life = .run → ∀ x : Bool, Runs (.hostStatus x) s (fun t =>
      (x = false → t.regs = s.regs) ∧ (x = true → t.causeSet ⟨47, 2⟩ = true) ∧
      s.regsBut [Reg.HOST.COUNTS0.addr, Reg.INT.GRP.CAUSE.addr 47] t ∧ ∃ b, t.host.reply = [b, crc8 [b]] ∧
      b.getLsbD 0 = true ∧ b.getLsbD 1 = s.host.lastDecode ∧ b.getLsbD 2 = s.host.lastLate ∧ b.getLsbD 3 = s.irqAsserted ∧
      b.getLsbD 4 = !s.safeNHigh ∧ b.toNat / 32 = s.get Reg.HOST.SEQ.COUNT % 8)) ∧
    (s.life = .run → ∀ (cmd : Byte) (l : List Byte) (late : BitVec 16) (x d : Bool), cmd ≠ 0x02#8 → cmd ≠ 0x0B#8 → cmd ≠ 0x05#8 →
      Runs (.hostRead (cmd :: l) late x d env) s (fun t => t.host.reply = [] ∧ t.causeSet ⟨47, 3⟩ = true ∧
        s.regsBut [Reg.HOST.COUNTS0.addr, Reg.INT.GRP.CAUSE.addr 47] t)) ∧
    (s.life = .run → Runs .hostCsEarlyRise s (fun t => t.host.reply = [] ∧ t.causeSet ⟨47, 2⟩ = true ∧
      s.regsBut [Reg.HOST.COUNTS0.addr, Reg.INT.GRP.CAUSE.addr 47] t))

/-- A write to an address without a register, or to one with no field open to the host, has no effect. In the blocks of Groomer, Slalom, the profile generators and Probe, a write inside the envelopes stores the open fields alone, one outside stores the bounds and sets ENVELOPE, and a refused field leaves the register as it is. A clear removes the bits of its group and their marks. INJECT sets the implemented bits with a shadow mark, slots and trips as they were. The release of EDGE mode ends. SUM0, PEND and TOP follow PEND. -/
def Obligations.RegisterAndInterruptWritesRun : Prop :=
  ∀ (s : State) (env : HostEnv),
    (∀ (a : Nat) (v : Word), rowsAt a = [] → exec (.registerWrite a v env) s = .next s) ∧
    (∀ (a : Nat) (v : Word), s.command env a v = none → (rowsAt a).any (fun r => s.opens (blockOf a) r) = false →
      exec (.registerWrite a v env) s = .next s) ∧
    (∀ (a : Nat) (v : Word), blockOf a ∈ [7, 16, 17, 23] → s.command env a v = none →
      (rowsAt a).any (fun r => s.opens (blockOf a) r) = true →
      ((s.judgeAll a v).all (fun p => p.2.inside) = true → Runs (.registerWrite a v env) s (fun t =>
        t.rd a = storedWord (s.rd a) (s.judgeAll a v) ∧ s.regsBut [a] t ∧ t.toClassify = s.toClassify)) ∧
      ((s.judgeAll a v).all (fun p => p.2.inside) = false → (∀ p ∈ s.judgeAll a v, p.2 ≠ .refuse) →
        exec (.registerWrite a v env) s = .next ((s.wr a (storedWord (s.rd a) (s.judgeAll a v))).envelope a)) ∧
      ((∃ p ∈ s.judgeAll a v, p.2 = .refuse) → exec (.registerWrite a v env) s = .next (s.envelope a))) ∧
    (∀ (g : Fin 64) (m : Word), Runs (.causeClear g m) s (fun t => t.causeWord g.val = s.causeWord g.val &&& ~~~m ∧
      t.shadowWord g.val = s.shadowWord g.val &&& ~~~m ∧ t.liveWord g.val = s.liveWord g.val &&& ~~~m ∧
      s.regsBut [Reg.INT.GRP.CAUSE.addr g.val] t ∧ t.slots = s.slots)) ∧
    (∀ (g : Fin 64) (m : Word), Runs (.intInject g m) s (fun t =>
      t.causeWord g.val = s.causeWord g.val ||| (m &&& implBits g.val) ∧
      (∀ b, b < 32 → (m &&& implBits g.val).getLsbD b = true → s.causeSet ⟨g.val, b⟩ = false → t.shadowed ⟨g.val, b⟩ = true) ∧
      s.regsBut [Reg.INT.GRP.CAUSE.addr g.val] t ∧ t.slots = s.slots ∧ t.trip = s.trip)) ∧
    Runs .irqEdgeReleaseEnd s (fun t => t.host.irqReleased = false ∧ t.regs = s.regs) ∧
    (∀ v : BitVec 64, (∀ g, g < 32 → (s.valueAt Reg.INT.SUM0.addr v).getLsbD g = (s.pendWord g != 0#32)) ∧
      (∀ g : Fin 64, s.valueAt (Reg.INT.GRP.PEND.addr g.val) v =
        s.causeWord g.val &&& s.rd (Reg.INT.GRP.ENABLE.addr g.val)) ∧
      (∀ g, g < 48 → s.pendWord g ≠ 0#32 → (∀ j, j < g → s.pendWord j = 0#32) →
        (s.valueAt Reg.INT.TOP.addr v).toNat % 128 = g))

/-- With no operation running and the store whole, CHALLENGE sets a nonce while the TRNG is good; AUTH consumes it, answers the first of the checks 1 to 7 that fails and clears the mailbox length, or starts the verification; ATTEST starts the signature of a 256-byte report; READ_CERT and READ_KEY fill the mailbox; a closed or expired session is gone. While busy, or with the store lost, they are refused. The end of an attestation places body and signature. A store check, a lost record, TRNG failure and recovery, random reads and injections act as stated. -/
def Obligations.HimetCommandsRun : Prop :=
  ∀ s : State,
    (s.flag Reg.HIMET.STATUS.BUSY = false → s.flag Reg.HIMET.STATUS.STORE_FAIL = false →
      (s.flag Reg.HIMET.STATUS.TRNG_OK = true → Runs .challenge s (fun t => t.himet.nonce = true ∧
          t.get Reg.HIMET.CMD_STATUS.CODE = codeOk) ∧
        Runs .attest s (fun t => t.flag Reg.HIMET.STATUS.BUSY = true ∧
          ∃ body, t.himet.op = some (.attest body) ∧ body.length = 256)) ∧
      (s.flag Reg.HIMET.STATUS.TRNG_OK = false → ∀ c ∈ [Instr.challenge, .attest], Runs c s (fun t => t.himet = s.himet ∧
        t.get Reg.HIMET.CMD_STATUS.CODE = codeDenied ∧ t.causeSet ⟨6, 14⟩ = true)) ∧
      Runs .auth s (fun t => t.himet.nonce = false ∧
        match s.tokEarly (s.mailbox (max (s.get Reg.HIMET.MBOX_LEN.LEN) 0x40)) (s.get Reg.HIMET.MBOX_LEN.LEN) with
        | some r => t.get Reg.HIMET.AUTH_STATUS.RESULT = r ∧ t.get Reg.HIMET.MBOX_LEN.LEN = 0 ∧ t.causeSet ⟨6, 1⟩ = true ∧
            t.himet.store = s.himet.store
        | none => t.himet.op = some (.auth (s.mailbox (max (s.get Reg.HIMET.MBOX_LEN.LEN) 0x40))) ∧
            t.flag Reg.HIMET.STATUS.BUSY = true) ∧
      Runs .readCert s (fun t => t.get Reg.HIMET.MBOX_LEN.LEN = 5293 ∧ t.get Reg.HIMET.CMD_STATUS.CODE = codeOk ∧
        ∀ i, i < 1324 → t.rd (Reg.HIMET.MBOX.addr i) = wordAt certificate (4 * i)) ∧
      (∀ k : Fin 8, Runs (.readKey k) s (fun t => t.get Reg.HIMET.CMD_STATUS.CODE = codeOk ∧ t.get Reg.HIMET.MBOX_LEN.LEN =
        (if (s.himet.store.keyOf k.val).isSome then 1952 else 0) ∧
        ∀ key, s.himet.store.keyOf k.val = some key → ∀ i, i < 488 → t.rd (Reg.HIMET.MBOX.addr i) = wordAt (slice key 0 1952) (4 * i))) ∧
      Runs .closeTest s (fun t => t.himet.test = none ∧
        ((∀ i ∈ s.injs, i.ctrl ≠ Reg.HIMET.CMD_STATUS.addr) → t.get Reg.HIMET.CMD_STATUS.CODE = codeOk) ∧
        (s.himet.test.isSome = true → t.causeSet ⟨6, 3⟩ = true ∧
          ((∀ i ∈ s.injs, i.ctrl ≠ Reg.HIMET.STATUS.addr) → t.flag Reg.HIMET.STATUS.TEST = false) ∧
          ∀ i ∈ t.injs, (i.live = false ∨ i.seen = 2) ∧ i ∈ s.injs)) ∧
      (s.himet.level = 0 → Runs .closeDebug s (fun t => t.himet = s.himet ∧ t.get Reg.HIMET.CMD_STATUS.CODE = codeOk)) ∧
      (s.himet.level = 1 → Runs .closeDebug s (fun t => t.himet.level = 0 ∧ t.himet.debug = none ∧
        t.get Reg.HIMET.STATUS.DEBUG = 0))) ∧
    (s.flag Reg.HIMET.STATUS.BUSY = true ∨ s.flag Reg.HIMET.STATUS.STORE_FAIL = true → ∀ (k : Fin 8) (c : Instr),
      c ∈ [Instr.challenge, .auth, .attest, .readCert, .readKey k, .closeTest] ∨ (c = .closeDebug ∧ s.himet.level ≠ 2) →
      Runs c s (fun t => t.himet = s.himet ∧ t.injs = s.injs ∧ t.get Reg.HIMET.CMD_STATUS.CODE = codeDenied ∧ t.causeSet ⟨6, 14⟩ = true)) ∧
    (∀ (ok : Bool) (body : List Byte), s.himet.op = some (.attest body) → body.length = 256 → Runs (.himetOperationEnd ok) s
      (fun t => t.himet.op = none ∧ t.flag Reg.HIMET.STATUS.BUSY = false ∧ t.get Reg.HIMET.MBOX_LEN.LEN = 3565 ∧
        t.causeSet ⟨6, 12⟩ = true ∧ ∀ i, i < 64 → t.rd (Reg.HIMET.MBOX.addr i) = wordAt body (4 * i))) ∧
    (∀ ok : Bool, s.himet.op = none → exec (.himetOperationEnd ok) s = .next s) ∧
    Runs .nonceExpiry s (fun t => t.himet.nonce = false ∧ ∀ i, i < 8 → t.rd (Reg.HIMET.NONCE.addr i) = 0#32) ∧
    Runs .testSessionExpiry s (fun t => t.himet.test = none ∧ (s.himet.test.isSome = true → t.causeSet ⟨6, 3⟩ = true ∧
      ∀ i ∈ t.injs, (i.live = false ∨ i.seen = 2) ∧ i ∈ s.injs)) ∧
    (s.himet.level = 0 → exec .debugSessionExpiry s = .next s) ∧
    (s.himet.level = 1 → Runs .debugSessionExpiry s (fun t => t.himet.level = 0 ∧ t.himet.debug = none ∧ t.life = s.life)) ∧
    (s.himet.level = 2 → s.life = .run ∨ s.life = .lifting → ∀ c ∈ [Instr.closeDebug, .debugSessionExpiry, .debugLinkRise], Runs c s (fun t =>
      t.himet.level = 0 ∧ t.life = .reset ∧ t.rst.active = 16#9 ∧ t.rst.reach = 1)) ∧
    (s.himet.level ≠ 2 → exec .debugLinkRise s = .next s) ∧
    ((∀ i, s.injAt Reg.HIMET.INJ_STATUS.addr = some i → i.target ≠ 1) → s.himet.resetDue = false →
      exec (.storeCheck false false) s = .next s ∧ exec (.storeCheck true false) s = .next (s.raise ⟨6, 9⟩)) ∧
    (∀ (f : Bool) (i : Inj), s.injAt Reg.HIMET.INJ_STATUS.addr = some i → i.target = 1 → s.himet.resetDue = false →
      Runs (.storeCheck f false) s (fun t => t.injAt Reg.HIMET.INJ_STATUS.addr = none ∧ t.causeSet ⟨6, 9⟩ = true ∧
        t.get Reg.HIMET.INJ_STATUS.CODE = codePass)) ∧
    (∀ f : Bool, s.life ≠ .run ∨ s.allResting = false ∨ (∃ i : Fin 4, s.slow i = false) → Runs (.storeCheck f true) s (fun t =>
      t.flag Reg.HIMET.STATUS.STORE_FAIL = true ∧ t.himet.resetDue = true ∧ t.causeSet ⟨6, 10⟩ = true ∧ t.life = s.life)) ∧
    (∀ f l : Bool, l = true ∨ s.himet.resetDue = true → s.life = .run → s.allResting = true → (∀ i : Fin 4, s.slow i = true) →
      Runs (.storeCheck f l) s (fun t => t.life = .reset ∧ t.rst.active = 16#9)) ∧
    Runs .trngFail s (fun t => t.flag Reg.HIMET.STATUS.TRNG_OK = false ∧ t.causeSet ⟨6, 11⟩ = true) ∧
    Runs .trngRecover s (fun t => t.flag Reg.HIMET.STATUS.TRNG_OK = true ∧ s.regsBut [Reg.HIMET.STATUS.addr] t) ∧
    Runs .randomRead s (fun t => s.regsBut [Reg.HIMET.RANDOM.addr] t ∧
      (s.flag Reg.HIMET.STATUS.TRNG_OK = false → t.rd Reg.HIMET.RANDOM.addr = 0#32)) ∧
    (s.get Reg.HIMET.INJ_TARGET.TARGET < 3 → s.noneRuns Reg.HIMET.INJ_STATUS.addr = true → Runs (.himetInject 1) s (fun t =>
      t.get Reg.HIMET.INJ_STATUS.CODE = codePending ∧ t.injs = s.withInj ⟨Reg.HIMET.INJ_STATUS.addr, false,
        s.get Reg.HIMET.INJ_TARGET.TARGET, 0, 0⟩)) ∧
    (s.get Reg.HIMET.INJ_TARGET.TARGET = 0 → s.liveAllowed = true → s.noneRuns Reg.HIMET.INJ_STATUS.addr = true →
      Runs (.himetInject 2) s (fun t => t.get Reg.HIMET.INJ_STATUS.CODE = codePending ∧
        t.injs = s.withInj ⟨Reg.HIMET.INJ_STATUS.addr, true, 0, 0, 0⟩)) ∧
    (∀ cls : Nat, (cls ≠ 1 → cls ≠ 2 → exec (.himetInject cls) s = .next s) ∧
      (cls = 1 ∨ cls = 2 → 3 ≤ s.get Reg.HIMET.INJ_TARGET.TARGET ∨ s.noneRuns Reg.HIMET.INJ_STATUS.addr = false ∨
          (cls = 2 ∧ (s.liveAllowed = false ∨ s.get Reg.HIMET.INJ_TARGET.TARGET ≠ 0)) →
        Runs (.himetInject cls) s (fun t => t.get Reg.HIMET.INJ_STATUS.CODE = codeDenied ∧ t.injs = s.injs ∧
          t.causeSet ⟨6, 14⟩ = true))) ∧
    (∀ (i : Inj) (pass : Bool), s.injAt Reg.HIMET.INJ_STATUS.addr = some i →
      Runs (.injectWindowEnd Reg.HIMET.INJ_STATUS.addr pass) s (fun t => t.injAt Reg.HIMET.INJ_STATUS.addr = none ∧
        t.get Reg.HIMET.INJ_STATUS.CODE = (if i.live then codeActed else if pass then codePass else codeFail) ∧
        (i.live = true → t.flag Reg.HIMET.STATUS.TRNG_OK = false ∧ t.causeSet ⟨6, 11⟩ = true) ∧
        (i.live = false → pass = true → i.target = 0 → t.causeSet ⟨6, 11⟩ = true)))

/-- When the verification of a token of the kind of the command ends and its store write completes, RESULT is 0x09 for a bad signature, 0x0A for a condition not met, else 1; the operation is over and the mailbox length 0. With RESULT 1 the store takes the effect of the kind: ENROL, OWNER_NEXT, ROTATE, TRANSFER, RELEASE, LOCK, UNLOCK, CK_LOAD, FLOOR; TEST opens a test session, DEBUG a first-level session, or a SYSTEM reset precedes a second-level one. Otherwise the store stays as it is. A token of another kind, or none, changes nothing. A store write that fails gives 0x0B. -/
def Obligations.TokensTakeEffect : Prop :=
  ∀ (s : State) (b : List Byte),
    (s.himet.op = some (.auth b) →
      (∀ p ∈ [(Instr.enrol, 1), (.ownerNext, 2), (.rotate, 3), (.lockToken, 6), (.unlockToken, 7), (.ckLoad, 8), (.floor, 9),
          (.testToken, 10)], tokKind b = p.2 → Runs p.1 s (fun t => t.himet.op = none ∧
        t.flag Reg.HIMET.STATUS.BUSY = false ∧ t.get Reg.HIMET.MBOX_LEN.LEN = 0 ∧ t.get Reg.HIMET.AUTH_STATUS.KIND = p.2 ∧
        t.get Reg.HIMET.AUTH_STATUS.RESULT = if s.tokSigned b = false then 9 else if s.tokMeets b = false then 10 else 1)) ∧
      (∀ p ∈ [(Instr.enrol, 1), (.ownerNext, 2), (.rotate, 3), (.transfer, 4), (.releaseToken, 5), (.lockToken, 6),
          (.unlockToken, 7), (.ckLoad, 8), (.floor, 9), (.testToken, 10), (.debug, 11)],
        (tokKind b ≠ p.2 → exec p.1 s = .next s) ∧
        (tokKind b = p.2 → Runs p.1 s (fun t => (s.tokSigned b && s.tokMeets b) = false → t.himet.store = s.himet.store))) ∧
      (tokKind b = 1 → Runs .enrol s (fun t => if s.tokSigned b && s.tokMeets b then
        t.himet.store = { s.himet.store with owned := true, owner := tokPayload b } else True)) ∧
      (tokKind b = 2 → Runs .ownerNext s (fun t => if s.tokSigned b && s.tokMeets b then
        t.himet.store = { s.himet.store with ownerNext := tokPayload b } else True)) ∧
      (tokKind b = 3 → Runs .rotate s (fun t => if s.tokSigned b && s.tokMeets b then
        t.himet.store = { s.himet.store with owner := s.himet.store.ownerNext, ownerNext := [] } else True)) ∧
      (tokKind b = 4 → Runs .transfer s (fun t => if s.tokSigned b && s.tokMeets b then t.himet.test = none ∧
        t.himet.store = { s.himet.store with owner := tokPayload b, ownerNext := [], ckCur := none, ckPrev := none } else True)) ∧
      (tokKind b = 5 → Runs .releaseToken s (fun t => if s.tokSigned b && s.tokMeets b then t.himet.test = none ∧
        t.himet.store = { s.himet.store with owned := false, owner := [], ownerNext := [], ckCur := none, ckPrev := none } else True)) ∧
      (tokKind b = 6 → Runs .lockToken s (fun t => if s.tokSigned b && s.tokMeets b then
        t.himet.store = { s.himet.store with locked := true } else True)) ∧
      (tokKind b = 7 → Runs .unlockToken s (fun t => if s.tokSigned b && s.tokMeets b then
        t.himet.store = { s.himet.store with locked := false } else True)) ∧
      (tokKind b = 8 → Runs .ckLoad s (fun t => if s.tokSigned b && s.tokMeets b then
        t.himet.store = { s.himet.store with ckPrev := s.himet.store.ckCur, ckCur := s.himet.store.newKey b } else True)) ∧
      (tokKind b = 9 → tokArg0 b < 3 → Runs .floor s (fun t => if s.tokSigned b && s.tokMeets b then
        (t.himet.store.ctr[Fin.ofNat 3 (tokArg0 b)]).toNat = tokArg1 b else True)) ∧
      (tokKind b = 10 → Runs .testToken s (fun t => if s.tokSigned b && s.tokMeets b then
        t.himet.test = some (s.clk.epochs, tokArg1 b) ∧ t.testOpen = true else True)) ∧
      (tokKind b = 11 → s.life = .run → Runs .debug s (fun t => if s.tokSigned b && s.tokMeets b then
        (if tokArg0 b = 2 then t.life = .reset ∧ t.rst.reach = 1 ∧ t.himet.level = 2
         else t.himet.level = 1 ∧ t.himet.debug = some (s.clk.epochs, tokArg1 b) ∧ t.life = .run) else True)) ∧
      (∀ p ∈ [(Instr.enrol, 1), (.ownerNext, 2), (.rotate, 3), (.transfer, 4), (.releaseToken, 5), (.lockToken, 6),
          (.unlockToken, 7), (.ckLoad, 8), (.floor, 9), (.testToken, 10), (.debug, 11)],
        tokKind b = p.2 → exec (.himetOperationEnd true) s = exec p.1 s) ∧
      Runs (.himetOperationEnd false) s (fun t => t.himet.op = none ∧ t.himet.store = s.himet.store ∧
        t.get Reg.HIMET.AUTH_STATUS.RESULT = if s.tokSigned b = false then 9 else if s.tokMeets b = false then 10 else 11)) ∧
    ((s.himet.op = none ∨ s.himet.op = some (.attest b)) → ∀ c ∈ [Instr.enrol, .ownerNext, .rotate, .transfer, .releaseToken, .lockToken, .unlockToken, .ckLoad,
      .floor, .testToken, .debug], exec c s = .next s)

/-- A running module answers on an attached port. INFO returns 320 bytes, STATUS 4. BEGIN starts a staging and empties the inactive bank, or refuses with the first failed check and changes no bank. DATA appends at the expected offset, a wrong offset or guard abandons the staging. END stages the complete set or abandons. ABORT and a detach abandon. Without an attached port nothing happens. -/
def Obligations.StagingCommandsRun : Prop :=
  ∀ (s : State) (tag : BitVec 16),
    (s.life = .run → ∀ cfg hs : Bool, Runs (.usbAttach cfg hs) s (fun t =>
      t.get Reg.SVC.STATUS.USB = (if cfg then 2 else 1) ∧ t.flag Reg.SVC.STATUS.HS = hs)) ∧
    (s.life ≠ .run → ∀ cfg hs : Bool, exec (.usbAttach cfg hs) s = .next s) ∧
    Runs .usbDetach s (fun t => t.get Reg.SVC.STATUS.USB = 0 ∧ t.svc.staging = none ∧
      (s.svc.staging.isSome = true → t.svc.states[s.idleBank] = 0)) ∧
    (s.usbOn = false → (∀ g : Bool, exec (.infoOp tag g) s = .next s) ∧
      (∀ (l : List Byte) (m w : Bool) (n : Nat), exec (.beginOp tag l m) s = .next s ∧ exec (.dataOp tag n l m w) s = .next s ∧
        exec (.svcEnd tag m w) s = .next s) ∧ exec (.svcStatus tag) s = .next s ∧ exec (.svcAbort (.usb tag)) s = .next s) ∧
    (s.usbOn = true → ∀ (l : List Byte) (m w : Bool) (n : Nat), 65536 < l.length → Runs (.dataOp tag n l m w) s (fun t =>
      t.regs = s.regs ∧ t.svc.staging = s.svc.staging ∧ t.svc.banks = s.svc.banks ∧
      ∃ r, t.svc.response = some r ∧ r.tag = tag ∧ r.op = 3 ∧ r.status = 0x46)) ∧
    (s.usbOn = true → ∀ g : Bool, Runs (.infoOp tag g) s (fun t => t.regs = s.regs ∧ ∃ r, t.svc.response = some r ∧ r.tag = tag ∧
      r.op = 1 ∧ r.status = (if g then 0x01 else 0x46) ∧ r.payload.length = if g then 320 else 0)) ∧
    (s.usbOn = true → Runs (.svcStatus tag) s (fun t => t.regs = s.regs ∧ ∃ r, t.svc.response = some r ∧ r.tag = tag ∧
      r.payload = leBytes 4 (s.rd Reg.SVC.RESULT.addr).toNat)) ∧
    (s.usbOn = true → ∀ (l : List Byte) (m : Bool),
      (s.beginErr l m = none → Runs (.beginOp tag l m) s (fun t => t.svc.staging = some ⟨l⟩ ∧ t.svc.states[s.idleBank] = 1 ∧
        t.svc.banks[s.idleBank] = {} ∧ t.get Reg.SVC.RESULT.CODE = 1 ∧ t.get Reg.SVC.PROGRESS.BYTES = 112)) ∧
      (∀ c, s.beginErr l m = some c → Runs (.beginOp tag l m) s (fun t => t.svc.banks = s.svc.banks ∧
        t.svc.states = s.svc.states ∧ t.svc.staging = s.svc.staging ∧ t.get Reg.SVC.RESULT.CODE = c ∧
        t.causeSet ⟨43, 1⟩ = true))) ∧
    (s.usbOn = true → ∀ (g : Staging) (n : Nat) (l : List Byte) (m w : Bool), l.length ≤ 65536 → s.svc.staging = some g →
      (∀ c, s.stageGuard m = some c → Runs (.dataOp tag n l m w) s (fun t => t.svc.staging = none ∧
        t.svc.states[s.idleBank] = 0 ∧ t.get Reg.SVC.RESULT.CODE = c ∧ t.causeSet ⟨43, 1⟩ = true)) ∧
      (s.stageGuard m = none → n ≠ g.data.length ∨ leAt g.data 0x0C 4 < g.data.length + l.length → Runs (.dataOp tag n l m w) s (fun t => t.svc.staging = none ∧
        t.get Reg.SVC.RESULT.CODE = 0x46)) ∧
      (s.stageGuard m = none → n = g.data.length → g.data.length + l.length ≤ leAt g.data 0x0C 4 →
        Runs (.dataOp tag n l m true) s (fun t => t.svc.staging = some ⟨g.data ++ l⟩ ∧ t.svc.banks = s.svc.banks ∧
          t.get Reg.SVC.PROGRESS.BYTES = (g.data.length + l.length) % 2 ^ 32 ∧ t.get Reg.SVC.RESULT.CODE = 1) ∧
        Runs (.dataOp tag n l m false) s (fun t => t.svc.staging = none ∧ t.get Reg.SVC.RESULT.CODE = 0x4B))) ∧
    (s.usbOn = true → s.svc.staging = none → ∀ (n : Nat) (l : List Byte) (m w : Bool), l.length ≤ 65536 →
      Runs (.dataOp tag n l m w) s (fun t => t.svc.banks = s.svc.banks ∧ t.get Reg.SVC.RESULT.CODE = 0x45) ∧
      Runs (.svcEnd tag m w) s (fun t => t.svc.banks = s.svc.banks ∧ t.get Reg.SVC.RESULT.CODE = 0x45)) ∧
    (s.usbOn = true → ∀ (g : Staging) (m w : Bool), s.svc.staging = some g →
      (∀ c, s.stageGuard m = some c → Runs (.svcEnd tag m w) s (fun t => t.svc.staging = none ∧ t.svc.states[s.idleBank] = 0 ∧
        t.get Reg.SVC.RESULT.CODE = c ∧ t.causeSet ⟨43, 1⟩ = true)) ∧
      (s.stageGuard m = none → g.data.length ≠ leAt g.data 0x0C 4 → Runs (.svcEnd tag m w) s (fun t => t.svc.staging = none ∧
        t.svc.states[s.idleBank] = 0 ∧ t.get Reg.SVC.RESULT.CODE = 0x46 ∧ t.causeSet ⟨43, 1⟩ = true))) ∧
    (s.usbOn = true → ∀ (g : Staging) (m w : Bool), s.svc.staging = some g → s.stageGuard m = none →
      g.data.length = leAt g.data 0x0C 4 → Runs (.svcEnd tag m w) s (fun t => t.svc.staging = none ∧
        match s.endErr g.data (s.fullSet g.data) w with
        | none => t.svc.states[s.idleBank] = 2 ∧ t.svc.banks[s.idleBank] = s.fullSet g.data ∧ t.causeSet ⟨43, 0⟩ = true ∧
            t.get Reg.SVC.RESULT.CODE = 1
        | some c => t.svc.states[s.idleBank] = 0 ∧ t.get Reg.SVC.RESULT.CODE = c ∧ t.causeSet ⟨43, 1⟩ = true)) ∧
    (∀ via : SvcVia, via = .host ∨ s.usbOn = true → Runs (.svcAbort via) s (fun t => t.svc.staging = none ∧
      t.get Reg.SVC.RESULT.CODE = 1 ∧ t.get Reg.SVC.RESULT.OP = 5 ∧ t.get Reg.SVC.CMD_STATUS.CODE = codeOk ∧
      (s.svc.staging = none → t.svc.banks = s.svc.banks ∧ t.svc.states = s.svc.states) ∧
      (s.svc.staging.isSome = true → t.svc.states[s.idleBank] = 0)))

/-- ARM_LOCAL arms a staged bank for an instant at least 1 ms ahead, or is refused. At the instant the swap starts if the module is ready, else it is postponed and starts later. CANCEL disarms. Each comes from the host or from an attached service port, which takes ARM_LOCAL's instant from its payload and gets an answer. CONFIRM makes a TRIAL bank that lifted ACTIVE and empties the other, ROLLBACK of a TRIAL bank with slots at rest starts the swap back; both are refused otherwise. A due rollback starts by itself. A third successful start confirms. A migrated set is recorded. -/
def Obligations.ActivationCommandsRun : Prop :=
  ∀ s : State,
    (s.usbOn = false → ∀ (tag : BitVec 16) (p : List Byte), ∀ c ∈ [Instr.armLocal (.usb tag) p, .svcCancel (.usb tag),
      .confirm (.usb tag), .rollback (.usb tag)], exec c s = .next s) ∧
    (∀ (via : SvcVia) (p : List Byte) (a : Nat × Nat),
      (via = .host ∧ a = s.svcAct) ∨ (s.usbOn = true ∧ (∃ tag, via = .usb tag) ∧
        a = ((wordAt p 0).toNat + (wordAt p 4).toNat % 65536 * 2 ^ 32, (wordAt p 8).toNat % 2 ^ 30)) →
      (s.svc.states[s.idleBank] = 2 → s.flag Reg.TIME.STATUS.VALID = true → a.2 < 1000000000 →
        1000000 ≤ nsBetween s.now.1 a → Runs (.armLocal via p) s (fun t => t.svc.armed = some a ∧
          t.causeSet ⟨43, 2⟩ = true ∧ t.get Reg.SVC.CMD_STATUS.CODE = codeOk)) ∧
      (s.svc.states[s.idleBank] ≠ 2 ∨ s.flag Reg.TIME.STATUS.VALID = false ∨ 1000000000 ≤ a.2 ∨
          nsBetween s.now.1 a < 1000000 → Runs (.armLocal via p) s (fun t => t.svc.armed = s.svc.armed ∧
        t.svc.postponed = s.svc.postponed ∧ t.get Reg.SVC.RESULT.CODE = 0x45 ∧ t.get Reg.SVC.CMD_STATUS.CODE = codeDenied ∧
        t.causeSet ⟨43, 9⟩ = true)) ∧
      Runs (.armLocal via p) s (fun t => t.svc.armed = some a ∧ t.get Reg.SVC.CMD_STATUS.CODE = codeOk ∨
        t.svc.armed = s.svc.armed ∧ t.get Reg.SVC.CMD_STATUS.CODE = codeDenied)) ∧
    (∀ via : SvcVia, via = .host ∨ s.usbOn = true → Runs (.svcCancel via) s (fun t => t.svc.armed = none ∧
      t.svc.postponed = false ∧ t.get Reg.SVC.CMD_STATUS.CODE = codeOk ∧ t.svc.banks = s.svc.banks)) ∧
    (∀ tag : BitVec 16, s.usbOn = true → ∀ c ∈ [Instr.svcCancel (.usb tag), .confirm (.usb tag), .rollback (.usb tag),
      .armLocal (.usb tag) [], .svcAbort (.usb tag)], Runs c s (fun t => ∃ r, t.svc.response = some r ∧ r.tag = tag ∧
        r.status = t.get Reg.SVC.CMD_STATUS.CODE)) ∧
    (s.svc.armed.isSome = true → s.swapReady = true → Runs .activationInstant s (fun t => t.swapping = true ∧
      t.svc.armed = none ∧ t.svc.swapBack = false ∧ t.regs = s.regs)) ∧
    (s.svc.armed.isSome = true → s.swapReady = false → Runs .activationInstant s (fun t => t.swapping = s.swapping ∧
      t.svc.armed = none ∧ t.svc.postponed = true ∧ t.get Reg.SVC.RESULT.CODE = 0x4E ∧ t.causeSet ⟨43, 3⟩ = true)) ∧
    (s.svc.armed = none → exec .activationInstant s = .next s) ∧
    (s.svc.postponed = true → s.swapReady = true → Runs .postponedSwap s (fun t => t.swapping = true ∧
      t.svc.postponed = false ∧ t.svc.swapBack = false)) ∧
    (s.svc.postponed = false ∨ s.swapReady = false → exec .postponedSwap s = .next s) ∧
    (∀ via : SvcVia, via = .host ∨ s.usbOn = true →
      (s.trial = true → s.svc.liftOk = true → s.swapping = false → Runs (.confirm via) s (fun t => t.svc.states[s.svc.running] = 4 ∧
        t.svc.states[s.idleBank] = 0 ∧ t.svc.running = s.svc.running ∧ t.himet.store.migrated = none ∧
        t.causeSet ⟨43, 6⟩ = true ∧ t.get Reg.SVC.CMD_STATUS.CODE = codeOk)) ∧
      (s.trial = false ∨ s.svc.liftOk = false ∨ s.swapping = true → Runs (.confirm via) s (fun t => t.svc.states = s.svc.states ∧
        t.svc.banks = s.svc.banks ∧ t.get Reg.SVC.RESULT.CODE = 0x45 ∧ t.get Reg.SVC.CMD_STATUS.CODE = codeDenied)) ∧
      (s.trial = false ∨ s.enabledRest = false ∨ s.swapping = true → Runs (.rollback via) s (fun t =>
        t.svc.states = s.svc.states ∧ t.svc.armed = s.svc.armed ∧ t.swapping = s.swapping ∧
        t.get Reg.SVC.CMD_STATUS.CODE = codeDenied)) ∧
      (s.trial = true → s.enabledRest = true → s.swapping = false → Runs (.rollback via) s (fun t => t.swapping = true ∧
        t.svc.swapBack = true ∧ t.svc.armed = none ∧ t.get Reg.SVC.CMD_STATUS.CODE = codeOk))) ∧
    (s.svc.rollbackDue = true → s.trial = true → s.life = .run → s.enabledRest = true → s.swapping = false →
      Runs .autoRollback s (fun t => t.swapping = true ∧ t.svc.swapBack = true ∧ t.regs = s.regs)) ∧
    (s.svc.rollbackDue = false ∨ s.trial = false ∨ s.life ≠ .run ∨ s.enabledRest = false ∨ s.swapping = true →
      exec .autoRollback s = .next s) ∧
    (s.svc.migrated ≠ [] → s.life = .run → Runs .migrated s (fun t => t.svc.migrated = [] ∧ t.causeSet ⟨43, 5⟩ = true ∧
      (t.svc.banks[s.svc.running]).migrated = some s.svc.migrated ∧
      t.himet.store.migrated = some (paramDigest s.svc.migrated, paramDigest (s.svc.banks[s.svc.running]).params))) ∧
    (s.svc.migrated = [] ∨ s.life ≠ .run → exec .migrated s = .next s) ∧
    (s.trial = true → s.svc.liftOk = true → s.svc.clean = true → s.swapping = false → Runs .trialStartSuccess s (fun t =>
      t.svc.starts = s.svc.starts + 1 ∧ t.svc.clean = false ∧ (3 ≤ s.svc.starts + 1 → t.causeSet ⟨43, 6⟩ = true) ∧
      t.svc.states[s.svc.running] = if 3 ≤ s.svc.starts + 1 then 4 else 3)) ∧
    (s.trial = false ∨ s.svc.liftOk = false ∨ s.svc.clean = false ∨ s.swapping = true → exec .trialStartSuccess s = .next s)

/-- For every command c, every queue and every state, a step of the state whose queue has c at its front is exec c on the state with the rest of the queue. With an empty queue the step is the instruction that the running Carve task has at its program address, and the block idles where there is none (the model's own choice, log entry 5). -/
def Obligations.StepRunsTheFrontCommand : Prop :=
  ∀ (s : State) (rest : List Instr),
    (∀ c : Instr, step { s with pending := c :: rest } = exec c { s with pending := rest }) ∧
    (∀ c : Instr, s.pending = [] → s.fetched = some c → step s = exec c s) ∧
    (s.pending = [] → s.fetched = none → step s = .next s) ∧
    (s.carve.running = none → s.fetched = none) ∧
    (∀ (t : Fin 8) (w : BitVec 64), s.carve.running = some t → s.carve.prog[s.carve.pc]? = some w → s.fetched = carveDecode w)

/-- Before power every register reads its reset value, every slot is OFF, no leg counts and no output drives, no cause waits, no injection is pending, the module is not in F4, the time is not valid. SAFE_N is low, FRICTION_REQ is asserted, IRQ_N is released, CANx_TX, GPIO, REF_OUT and PPS_OUT keep their pull-ups, every gate is tied to Kn, the queue is empty, and what is stored has its canonical form. That the state before power is the module without supply is the model's choice (log entries 2 and 4). -/
def Obligations.ResetLeaves : Prop :=
  (∀ a, State.reset.rd a = resetOf a) ∧ (∀ i : Fin 4, (State.reset.slot i).state = .off) ∧
  (∀ n : Fin 32, (State.reset.leg n).counting = false ∧ (State.reset.leg n).liveA = false ∧ (State.reset.leg n).liveB = false) ∧
  State.reset.life = .noSupply ∧ State.reset.toClassify = [] ∧ State.reset.injs = [] ∧ State.reset.patrol.f4 = false ∧
  State.reset.flag Reg.TIME.STATUS.VALID = false ∧ State.reset.safeNHigh = false ∧ State.reset.frictionContact = true ∧
  State.reset.irqAsserted = false ∧ State.reset.pending = [] ∧ State.reset.stored ∧
  State.reset.safeNContact = .low ∧ State.reset.frictionReqContact = .released ∧ State.reset.irqNContact = .released ∧
  State.reset.refOutContact = .pullUp ∧ State.reset.ppsOutContact = .pullUp ∧ (∀ n : Fin 64, State.reset.gateContact n = .kelvin) ∧
  (∀ c : Fin 2, State.reset.canTxContact c = .pullUp) ∧ (∀ k : Fin 16, State.reset.gpioContact k = .pullUp)

/-- For every state whose stored registers and marks stand in canonical form (keys strictly rising, nothing listed that reads so anyway), whatever command is at the front of its queue, the state after a step has that form too. It covers every command of the table: register writes, resets, lifts and course loads among them. The form is the model's own; equal contents are equal data by it. -/
def Obligations.EveryStepKeepsCanonicalForm : Prop :=
  ∀ s t : State, s.stored → step s = .next t → t.stored

/-- For every command and state, exec answers a next state with the same queue. So a step on a non-empty queue leaves exactly the rest of it, and the commands take effect first in, first out. The queue is the model's form of what waits. -/
def Obligations.NoCommandTouchesTheQueue : Prop :=
  ∀ (c : Instr) (s : State) (rest : List Instr),
    Runs c s (fun t => t.pending = s.pending) ∧
    ∃ t, step { s with pending := c :: rest } = .next t ∧ t.pending = rest

/-- For each of the 48 filters a host write of a zero, a subnormal or a NaN to GAIN changes no register but the cause word and sets ENVELOPE. For DCL_OV0, DCL_OV1 and DCL_UV a write whose values, after envelope clamping, would break UV_TRIP ≤ UV_WARN ≤ OV_LIM ≤ OV_CHOP ≤ OV_TRIP2 ≤ OV_TRIP3 changes no register but the cause word and sets THR_ORDER; one that keeps the order inside the envelopes is stored; from a state in order every such write leaves the thresholds in order. -/
def Obligations.RefusedSensingWritesChangeNothing : Prop :=
  ∀ (s : State) (env : HostEnv) (v : Word),
    (∀ n : Fin 48, (fZero? v || fSub? v || fNaN? v) = true →
      Runs (.registerWrite (Reg.SDM.F.GAIN.addr n.val) v env) s (fun t =>
        s.regsBut [Reg.INT.GRP.CAUSE.addr 21] t ∧ t.causeSet ⟨21, 21⟩ = true ∧
        (∀ b, b ≠ 21 → t.causeSet ⟨21, b⟩ = s.causeSet ⟨21, b⟩) ∧ t.slots = s.slots)) ∧
    (∀ a : Nat, a = Reg.SDM.DCL_OV0.addr ∨ a = Reg.SDM.DCL_OV1.addr ∨ a = Reg.SDM.DCL_UV.addr →
      ((∀ p ∈ s.judgeAll a v, p.2 ≠ .refuse) → (s.wr a (storedWord (s.rd a) (s.judgeAll a v))).sdmOrder = false →
        Runs (.registerWrite a v env) s (fun t => s.regsBut [Reg.INT.GRP.CAUSE.addr 22] t ∧ t.causeSet ⟨22, 9⟩ = true)) ∧
      ((∀ p ∈ s.judgeAll a v, p.2.inside = true) → (s.wr a (storedWord (s.rd a) (s.judgeAll a v))).sdmOrder = true →
        exec (.registerWrite a v env) s = .next (s.wr a (storedWord (s.rd a) (s.judgeAll a v)))) ∧
      (s.sdmOrder = true → Runs (.registerWrite a v env) s (fun t =>
        t.get Reg.SDM.DCL_UV.UV_TRIP ≤ t.get Reg.SDM.DCL_UV.UV_WARN ∧ t.get Reg.SDM.DCL_UV.UV_WARN ≤ t.get Reg.SDM.DCL_OV0.OV_LIM ∧
        t.get Reg.SDM.DCL_OV0.OV_LIM ≤ t.get Reg.SDM.DCL_OV0.OV_CHOP ∧ t.get Reg.SDM.DCL_OV0.OV_CHOP ≤ t.get Reg.SDM.DCL_OV1.OV_TRIP2 ∧
        t.get Reg.SDM.DCL_OV1.OV_TRIP2 ≤ t.get Reg.SDM.DCL_OV1.OV_TRIP3)))

/-- The write of GLOBAL.CMD = SYNC: with every slot OFF or STOPPED the status reads OK and no leg, slot or register but the status moves; with any slot in another state the status reads STATE_DENIED, the cause STATE_DENIED of the PWM block is set, and no leg or slot moves. -/
def Obligations.SyncGuarded : Prop :=
  ∀ s : State,
    ((∀ i : Fin 4, (s.slot i).state = .off ∨ (s.slot i).state = .stopped) → Runs .pwmSync s (fun t =>
      t.get Reg.PWM.GLOBAL.CMD_STATUS.CODE = codeOk ∧ s.regsBut [Reg.PWM.GLOBAL.CMD_STATUS.addr] t ∧ t.toClassify = s.toClassify ∧
      t.slots = s.slots ∧ t.legs = s.legs)) ∧
    (∀ i : Fin 4, (s.slot i).state ≠ .off → (s.slot i).state ≠ .stopped → Runs .pwmSync s (fun t =>
      t.get Reg.PWM.GLOBAL.CMD_STATUS.CODE = codeDenied ∧ t.causeSet ⟨3, 18⟩ = true ∧ t.legs = s.legs ∧ t.slots = s.slots ∧
      s.regsBut [Reg.PWM.GLOBAL.CMD_STATUS.addr, Reg.INT.GRP.CAUSE.addr 3] t))

/-- When Patrol takes a setting whose class, after escalation, is F4 and whose mark is none or live, the module is in F4, STATUS.F4 reads 1, and where it was not in F4 before F4_ENTERED is set. A shadow setting leaves F4 as it was. While in F4 the five commands are refused for every slot with STATE_DENIED, and slots, legs, lines and channels stay. -/
def Obligations.ClassF4EntersAndRefuses : Prop :=
  ∀ s : State,
    (∀ x : Setting, s.nextSetting s.toClassify = some x →
      (((x.mark = .real ∧ (State.escalate { s with toClassify := s.toClassify.erase x } ⟨x.grp, x.bit⟩
            (s.classOf ⟨x.grp, x.bit⟩)).1 = 4) ∨ (x.mark = .live ∧ s.classOf ⟨x.grp, x.bit⟩ = 4)) →
        Runs .causeClassify s (fun t => t.patrol.f4 = true ∧ t.patrolStatus.getLsbD 0 = true ∧
          (s.patrol.f4 = false → t.causeSet ⟨0, 7⟩ = true))) ∧
      (x.mark = .shadow → Runs .causeClassify s (fun t => t.patrol.f4 = s.patrol.f4))) ∧
    (s.patrol.f4 = true → ∀ (i : Fin 4) (c : Instr),
      c = .arm i ∨ c = .charge i ∨ c = .discharge i ∨ c = .recover i ∨ c = .restart i → Runs c s (fun t => s.driveRefused t i))

/-- By CLOSE_TEST on an idle Himet or by expiry: every LIVE injection that is pending, its result not yet shown, at a control outside the interrupt block reads ABORTED at that control and is pending no more, one at a control of its own that is SHADOW or has shown its result stays, TEST reads 0, INJ_ABORTED is set where one was withdrawn, TEST_CLOSED is set, and no slot, leg, channel or trip line moves. Without an open session an expiry changes nothing. -/
def Obligations.ClosedSessionWithdrawsLive : Prop :=
  ∀ s : State, (∀ c : Instr, (c = .closeTest ∧ s.flag Reg.HIMET.STATUS.BUSY = false ∧ s.flag Reg.HIMET.STATUS.STORE_FAIL = false) ∨
      c = .testSessionExpiry → s.himet.test.isSome = true → (∀ i ∈ s.injs, blockOf i.ctrl ≠ 4) →
    Runs c s (fun t =>
      (∀ i ∈ s.injs, i.live = true → i.seen ≠ 2 → t.get ⟨i.ctrl, 0, 8⟩ = codeAborted ∧ t.causeSet ⟨0, 10⟩ = true) ∧
      (∀ i ∈ t.injs, (i.live = false ∨ i.seen = 2) ∧ i ∈ s.injs) ∧
      (∀ i ∈ s.injs, (∀ j ∈ s.injs, j.live = true → j.seen ≠ 2 → j.ctrl ≠ i.ctrl) → i.live = false ∨ i.seen = 2 → i ∈ t.injs) ∧
      ((∀ i ∈ s.injs, i.ctrl ≠ Reg.HIMET.STATUS.addr) → t.flag Reg.HIMET.STATUS.TEST = false) ∧ t.causeSet ⟨6, 3⟩ = true ∧ t.slots = s.slots ∧ t.legs = s.legs ∧
      t.edges = s.edges ∧ t.trip.asserted = s.trip.asserted ∧ t.trip.slotLines = s.trip.slotLines)) ∧
    (s.himet.test = none → exec .testSessionExpiry s = .next s)

/-- VALID is 0 at the reset of the module and after every assertion of a source of SYSTEM or POWER reach on a running module whose stored registers are in canonical form. A SET that is taken (SOURCE = 0), a root epoch at which a step of the servo is due, and a measurement by which the servo locks set it. An assertion of WARM reach leaves it as it was. -/
def Obligations.TimeValidity : Prop :=
  (State.reset.flag Reg.TIME.STATUS.VALID = false) ∧
  ∀ s : State,
    (s.life = .run → s.stored → ∀ src : Fin 9, srcReach src ≤ 1 → Runs (.resetAssert src) s (fun t =>
      t.flag Reg.TIME.STATUS.VALID = false)) ∧
    (s.life = .run → s.stored → ∀ src : Fin 9, srcReach src = 2 → Runs (.resetAssert src) s (fun t =>
      t.flag Reg.TIME.STATUS.VALID = s.flag Reg.TIME.STATUS.VALID)) ∧
    (s.get Reg.TIME.CFG.SOURCE = 0 → Runs .timeSet s (fun t => t.flag Reg.TIME.STATUS.VALID = true)) ∧
    (∀ (d : Int) (aligned : Bool) (names : JudgeNames) (extra : Vector JudgeNames 3), s.clk.rootRuns = true → s.time.setAt = none → s.time.step = some d →
      Runs (.rootEpoch aligned names extra) s (fun t => t.flag Reg.TIME.STATUS.VALID = true)) ∧
    (∀ (sm : ServoMeas) (offset : Int), s.servoOffset sm = some offset → s.hasRef = true → s.injAt Reg.TIME.INJ_STATUS.addr = none → s.flag Reg.TIME.STATUS.LOCKED = false →
      15 ≤ s.time.near → -6553600 < offset → offset < 6553600 → Runs (.servoMeasurement sm) s (fun t =>
        t.flag Reg.TIME.STATUS.VALID = true ∧ t.flag Reg.TIME.STATUS.LOCKED = true ∧ t.causeSet ⟨42, 0⟩ = true))

/-- Every command of the time reference (but the root epoch and the instant of an armed SYNC), of the Ethernet switch, of Folis and of the CAN controllers, every command of Himet that may assert no reset, every operation and instant of updating, PEERS and the injections of Probe, the injection of the interrupt tree and the latching reads answer a next state in which slots, legs, channels, trip lines, the engine, the modulator, the profiles and what is sensed are as before. A cause that one sets acts later only, when Patrol classifies it or the trip network takes its request. -/
def Obligations.CommunicationLeavesThePowerStage : Prop :=
  ∀ (c : Instr) (s : State), communicates c = true ∨ inspects c = true → Runs c s (fun t => s.powerStage t)
end

