-- ==== Sys2Proof/Laws/Cells.lean ====
section
/-! SUPPORT. Laws of the sparse storage: what a write leaves to be read, and that it keeps the canonical form. -/

namespace Sys2Proof.Machine

variable {w : Nat} (d : Nat → BitVec w)

theorem cellGet_erase_same (m : Cells w) (a : Nat) : cellGet d (cellErase m a) a = d a := by
  induction m with
  | nil => rfl
  | cons p t ih =>
    obtain ⟨k, v⟩ := p
    by_cases h : k = a <;> simp [cellErase, cellGet, h, ih]

theorem cellGet_erase_other (m : Cells w) (a b : Nat) (h : b ≠ a) : cellGet d (cellErase m a) b = cellGet d m b := by
  induction m with
  | nil => rfl
  | cons p t ih =>
    obtain ⟨k, v⟩ := p
    by_cases hk : k = a
    · subst hk; simp [cellErase, cellGet, ih, Ne.symm h]
    · by_cases hb : k = b
      · subst hb; simp [cellErase, cellGet, hk]
      · simp [cellErase, cellGet, hk, hb, ih]

theorem cellGet_insert_same (m : Cells w) (a : Nat) (x : BitVec w) :
    cellGet d (cellInsert (cellErase m a) a x) a = x := by
  induction m with
  | nil => simp [cellErase, cellInsert, cellGet]
  | cons p t ih =>
    obtain ⟨k, v⟩ := p
    by_cases hk : k = a
    · simp [cellErase, hk, ih]
    · by_cases hl : a < k <;> simp [cellErase, cellInsert, cellGet, hk, hl, ih]

theorem cellGet_insert_other (m : Cells w) (a b : Nat) (x : BitVec w) (h : b ≠ a) :
    cellGet d (cellInsert m a x) b = cellGet d m b := by
  induction m with
  | nil => simp [cellInsert, cellGet, Ne.symm h]
  | cons p t ih =>
    obtain ⟨k, v⟩ := p
    by_cases hl : a < k
    · simp [cellInsert, cellGet, hl, Ne.symm h]
    · by_cases hb : k = b
      · subst hb; simp [cellInsert, cellGet, hl]
      · simp [cellInsert, cellGet, hl, hb, ih]

/-- A write is read back. -/
@[simp] theorem cellGet_set_same (m : Cells w) (a : Nat) (x : BitVec w) : cellGet d (cellSet d m a x) a = x := by
  unfold cellSet
  split
  · rename_i h; rw [cellGet_erase_same, h]
  · exact cellGet_insert_same d m a x

/-- A write leaves every other key as it was. -/
theorem cellGet_set_other (m : Cells w) (a b : Nat) (x : BitVec w) (h : b ≠ a) :
    cellGet d (cellSet d m a x) b = cellGet d m b := by
  unfold cellSet
  split
  · exact cellGet_erase_other d m a b h
  · rw [cellGet_insert_other d _ a b x h, cellGet_erase_other d m a b h]

/-- Keys above a bound stay above a lower one. -/
theorem cellSorted_weaken (m : Cells w) (a b : Nat) (h : a ≤ b) (hs : cellSorted (some b) m = true) :
    cellSorted (some a) m = true := by
  cases m with
  | nil => rfl
  | cons p t =>
    obtain ⟨k, v⟩ := p
    simp only [cellSorted, Bool.and_eq_true, decide_eq_true_eq] at hs ⊢
    exact ⟨by omega, hs.2⟩

theorem cellSorted_erase (m : Cells w) (lo a : Nat) (h : cellSorted (some lo) m = true) :
    cellSorted (some lo) (cellErase m a) = true := by
  induction m generalizing lo with
  | nil => rfl
  | cons p t ih =>
    obtain ⟨k, v⟩ := p
    simp only [cellSorted, Bool.and_eq_true, decide_eq_true_eq] at h
    by_cases hk : k = a
    · simp only [cellErase, hk, if_true]
      exact ih lo (cellSorted_weaken t lo k (by omega) h.2)
    · simp only [cellErase, hk, if_false, cellSorted, Bool.and_eq_true, decide_eq_true_eq]
      exact ⟨h.1, ih k h.2⟩

theorem cellSorted_insert (m : Cells w) (lo a : Nat) (x : BitVec w) (hl : lo < a)
    (hn : ∀ p ∈ m, p.1 ≠ a) (h : cellSorted (some lo) m = true) : cellSorted (some lo) (cellInsert m a x) = true := by
  induction m generalizing lo with
  | nil => simp [cellInsert, cellSorted, hl]
  | cons p t ih =>
    obtain ⟨k, v⟩ := p
    simp only [cellSorted, Bool.and_eq_true, decide_eq_true_eq] at h
    have hk : k ≠ a := hn (k, v) (by simp)
    by_cases hak : a < k
    · simp [cellInsert, hak, cellSorted, hl, h.2]
    · simp only [cellInsert, hak, if_false, cellSorted, Bool.and_eq_true, decide_eq_true_eq]
      exact ⟨h.1, ih k (by omega) (fun p hp => hn p (by simp [hp])) h.2⟩

theorem mem_cellErase (m : Cells w) (a : Nat) (p : Nat × BitVec w) : p ∈ cellErase m a ↔ p ∈ m ∧ p.1 ≠ a := by
  induction m with
  | nil => simp [cellErase]
  | cons q t ih =>
    obtain ⟨k, v⟩ := q
    by_cases hk : k = a
    · subst hk
      simp only [cellErase, if_true, ih, List.mem_cons]
      constructor
      · rintro ⟨h1, h2⟩; exact ⟨.inr h1, h2⟩
      · rintro ⟨h1 | h1, h2⟩
        · subst h1; exact absurd rfl h2
        · exact ⟨h1, h2⟩
    · simp only [cellErase, hk, if_false, List.mem_cons, ih]
      constructor
      · rintro (h | ⟨h1, h2⟩)
        · subst h; exact ⟨.inl rfl, hk⟩
        · exact ⟨.inr h1, h2⟩
      · rintro ⟨h1 | h1, h2⟩
        · exact .inl h1
        · exact .inr ⟨h1, h2⟩

theorem mem_cellInsert (m : Cells w) (a : Nat) (x : BitVec w) (p : Nat × BitVec w) :
    p ∈ cellInsert m a x ↔ p = (a, x) ∨ p ∈ m := by
  induction m with
  | nil => simp [cellInsert]
  | cons q t ih =>
    obtain ⟨k, v⟩ := q
    by_cases hl : a < k
    · simp [cellInsert, hl]
    · simp only [cellInsert, hl, if_false, List.mem_cons, ih]; tauto

/-- A storage is sorted without a bound when its tail is sorted above its first key. -/
theorem cellSorted_none (m : Cells w) : cellSorted none m = true ↔ ∀ k v t, m = (k, v) :: t → cellSorted (some k) t = true := by
  cases m with
  | nil => simp [cellSorted]
  | cons p t => obtain ⟨k, v⟩ := p; simp [cellSorted]

theorem cellSorted_erase_none (m : Cells w) (a : Nat) (h : cellSorted none m = true) :
    cellSorted none (cellErase m a) = true := by
  induction m with
  | nil => rfl
  | cons p t ih =>
    obtain ⟨k, v⟩ := p
    simp only [cellSorted] at h
    by_cases hk : k = a
    · simp only [cellErase, hk, if_true]
      apply ih
      cases t with
      | nil => rfl
      | cons q t => obtain ⟨k', v'⟩ := q; simp only [cellSorted, Bool.and_eq_true] at h ⊢; exact h.2
    · simp only [cellErase, hk, if_false, cellSorted]
      exact cellSorted_erase t k a h

theorem cellSorted_insert_none (m : Cells w) (a : Nat) (x : BitVec w) (hn : ∀ p ∈ m, p.1 ≠ a)
    (h : cellSorted none m = true) : cellSorted none (cellInsert m a x) = true := by
  cases m with
  | nil => simp [cellInsert, cellSorted]
  | cons p t =>
    obtain ⟨k, v⟩ := p
    simp only [cellSorted] at h
    have hk : k ≠ a := hn (k, v) (by simp)
    by_cases hak : a < k
    · simp [cellInsert, hak, cellSorted, h]
    · simp only [cellInsert, hak, if_false, cellSorted]
      exact cellSorted_insert t k a x (by omega) (fun p hp => hn p (by simp [hp])) h

/-- A write keeps the canonical form. -/
theorem cellWf_set (m : Cells w) (a : Nat) (x : BitVec w) (h : cellWf d m = true) : cellWf d (cellSet d m a x) = true := by
  simp only [cellWf, Bool.and_eq_true, List.all_eq_true, decide_eq_true_eq] at h ⊢
  have he := cellSorted_erase_none m a h.1
  unfold cellSet
  split
  · exact ⟨he, fun p hp => h.2 p ((mem_cellErase m a p).1 hp).1⟩
  · rename_i hx
    refine ⟨cellSorted_insert_none _ a x (fun p hp => ((mem_cellErase m a p).1 hp).2) he, fun p hp => ?_⟩
    rcases (mem_cellInsert _ a x p).1 hp with h1 | h1
    · subst h1; exact hx
    · exact h.2 p ((mem_cellErase m a p).1 h1).1

/-- Nothing listed is canonical. -/
@[simp] theorem cellWf_nil : cellWf d ([] : Cells w) = true := by simp [cellWf, cellSorted]

end Sys2Proof.Machine
end

