-- ==== Sys2Proof/Laws/State.lean ====
section
/-! SUPPORT. What the named updates of the state leave as it was: one lemma per field and update. -/

namespace Sys2Proof.Machine

variable (s : State)

/-! ## wr -/

@[simp] theorem State.wr_pending (a : Nat) (x : Word) : (s.wr a x).pending = s.pending := rfl
@[simp] theorem State.wr_shadowMarks (a : Nat) (x : Word) : (s.wr a x).shadowMarks = s.shadowMarks := rfl
@[simp] theorem State.wr_liveMarks (a : Nat) (x : Word) : (s.wr a x).liveMarks = s.liveMarks := rfl
@[simp] theorem State.wr_toClassify (a : Nat) (x : Word) : (s.wr a x).toClassify = s.toClassify := rfl
@[simp] theorem State.wr_life (a : Nat) (x : Word) : (s.wr a x).life = s.life := rfl
@[simp] theorem State.wr_freeCount (a : Nat) (x : Word) : (s.wr a x).freeCount = s.freeCount := rfl
@[simp] theorem State.wr_tod (a : Nat) (x : Word) : (s.wr a x).tod = s.tod := rfl
@[simp] theorem State.wr_host (a : Nat) (x : Word) : (s.wr a x).host = s.host := rfl
@[simp] theorem State.wr_course (a : Nat) (x : Word) : (s.wr a x).course = s.course := rfl
@[simp] theorem State.wr_clk (a : Nat) (x : Word) : (s.wr a x).clk = s.clk := rfl
@[simp] theorem State.wr_piste (a : Nat) (x : Word) : (s.wr a x).piste = s.piste := rfl
@[simp] theorem State.wr_legs (a : Nat) (x : Word) : (s.wr a x).legs = s.legs := rfl
@[simp] theorem State.wr_tripIns (a : Nat) (x : Word) : (s.wr a x).tripIns = s.tripIns := rfl
@[simp] theorem State.wr_trip (a : Nat) (x : Word) : (s.wr a x).trip = s.trip := rfl
@[simp] theorem State.wr_injs (a : Nat) (x : Word) : (s.wr a x).injs = s.injs := rfl
@[simp] theorem State.wr_slots (a : Nat) (x : Word) : (s.wr a x).slots = s.slots := rfl
@[simp] theorem State.wr_chop (a : Nat) (x : Word) : (s.wr a x).chop = s.chop := rfl
@[simp] theorem State.wr_hkaEvents (a : Nat) (x : Word) : (s.wr a x).hkaEvents = s.hkaEvents := rfl
@[simp] theorem State.wr_taskPresc (a : Nat) (x : Word) : (s.wr a x).taskPresc = s.taskPresc := rfl
@[simp] theorem State.wr_taskDelays (a : Nat) (x : Word) : (s.wr a x).taskDelays = s.taskDelays := rfl
@[simp] theorem State.wr_carve (a : Nat) (x : Word) : (s.wr a x).carve = s.carve := rfl
@[simp] theorem State.wr_ports (a : Nat) (x : Word) : (s.wr a x).ports = s.ports := rfl
@[simp] theorem State.wr_prof (a : Nat) (x : Word) : (s.wr a x).prof = s.prof := rfl
@[simp] theorem State.wr_slalom (a : Nat) (x : Word) : (s.wr a x).slalom = s.slalom := rfl
@[simp] theorem State.wr_sdm (a : Nat) (x : Word) : (s.wr a x).sdm = s.sdm := rfl
@[simp] theorem State.wr_phv (a : Nat) (x : Word) : (s.wr a x).phv = s.phv := rfl
@[simp] theorem State.wr_dcl (a : Nat) (x : Word) : (s.wr a x).dcl = s.dcl := rfl
@[simp] theorem State.wr_pos (a : Nat) (x : Word) : (s.wr a x).pos = s.pos := rfl
@[simp] theorem State.wr_chg (a : Nat) (x : Word) : (s.wr a x).chg = s.chg := rfl
@[simp] theorem State.wr_triad (a : Nat) (x : Word) : (s.wr a x).triad = s.triad := rfl
@[simp] theorem State.wr_patrol (a : Nat) (x : Word) : (s.wr a x).patrol = s.patrol := rfl
@[simp] theorem State.wr_swapping (a : Nat) (x : Word) : (s.wr a x).swapping = s.swapping := rfl
@[simp] theorem State.wr_edges (a : Nat) (x : Word) : (s.wr a x).edges = s.edges := rfl
@[simp] theorem State.wr_can (a : Nat) (x : Word) : (s.wr a x).can = s.can := rfl
@[simp] theorem State.wr_probe (a : Nat) (x : Word) : (s.wr a x).probe = s.probe := rfl
@[simp] theorem State.wr_supply (a : Nat) (x : Word) : (s.wr a x).supply = s.supply := rfl
@[simp] theorem State.wr_groom (a : Nat) (x : Word) : (s.wr a x).groom = s.groom := rfl
@[simp] theorem State.wr_time (a : Nat) (x : Word) : (s.wr a x).time = s.time := rfl
@[simp] theorem State.wr_svc (a : Nat) (x : Word) : (s.wr a x).svc = s.svc := rfl
@[simp] theorem State.wr_hka (a : Nat) (x : Word) : (s.wr a x).hka = s.hka := rfl
@[simp] theorem State.wr_rst (a : Nat) (x : Word) : (s.wr a x).rst = s.rst := rfl
@[simp] theorem State.wr_net (a : Nat) (x : Word) : (s.wr a x).net = s.net := rfl
@[simp] theorem State.wr_himet (a : Nat) (x : Word) : (s.wr a x).himet = s.himet := rfl

/-! ## put -/

@[simp] theorem State.put_pending (f : Fld) (v : Nat) : (s.put f v).pending = s.pending := rfl
@[simp] theorem State.put_shadowMarks (f : Fld) (v : Nat) : (s.put f v).shadowMarks = s.shadowMarks := rfl
@[simp] theorem State.put_liveMarks (f : Fld) (v : Nat) : (s.put f v).liveMarks = s.liveMarks := rfl
@[simp] theorem State.put_toClassify (f : Fld) (v : Nat) : (s.put f v).toClassify = s.toClassify := rfl
@[simp] theorem State.put_life (f : Fld) (v : Nat) : (s.put f v).life = s.life := rfl
@[simp] theorem State.put_freeCount (f : Fld) (v : Nat) : (s.put f v).freeCount = s.freeCount := rfl
@[simp] theorem State.put_tod (f : Fld) (v : Nat) : (s.put f v).tod = s.tod := rfl
@[simp] theorem State.put_host (f : Fld) (v : Nat) : (s.put f v).host = s.host := rfl
@[simp] theorem State.put_course (f : Fld) (v : Nat) : (s.put f v).course = s.course := rfl
@[simp] theorem State.put_clk (f : Fld) (v : Nat) : (s.put f v).clk = s.clk := rfl
@[simp] theorem State.put_piste (f : Fld) (v : Nat) : (s.put f v).piste = s.piste := rfl
@[simp] theorem State.put_legs (f : Fld) (v : Nat) : (s.put f v).legs = s.legs := rfl
@[simp] theorem State.put_tripIns (f : Fld) (v : Nat) : (s.put f v).tripIns = s.tripIns := rfl
@[simp] theorem State.put_trip (f : Fld) (v : Nat) : (s.put f v).trip = s.trip := rfl
@[simp] theorem State.put_injs (f : Fld) (v : Nat) : (s.put f v).injs = s.injs := rfl
@[simp] theorem State.put_slots (f : Fld) (v : Nat) : (s.put f v).slots = s.slots := rfl
@[simp] theorem State.put_chop (f : Fld) (v : Nat) : (s.put f v).chop = s.chop := rfl
@[simp] theorem State.put_hkaEvents (f : Fld) (v : Nat) : (s.put f v).hkaEvents = s.hkaEvents := rfl
@[simp] theorem State.put_taskPresc (f : Fld) (v : Nat) : (s.put f v).taskPresc = s.taskPresc := rfl
@[simp] theorem State.put_taskDelays (f : Fld) (v : Nat) : (s.put f v).taskDelays = s.taskDelays := rfl
@[simp] theorem State.put_carve (f : Fld) (v : Nat) : (s.put f v).carve = s.carve := rfl
@[simp] theorem State.put_ports (f : Fld) (v : Nat) : (s.put f v).ports = s.ports := rfl
@[simp] theorem State.put_prof (f : Fld) (v : Nat) : (s.put f v).prof = s.prof := rfl
@[simp] theorem State.put_slalom (f : Fld) (v : Nat) : (s.put f v).slalom = s.slalom := rfl
@[simp] theorem State.put_sdm (f : Fld) (v : Nat) : (s.put f v).sdm = s.sdm := rfl
@[simp] theorem State.put_phv (f : Fld) (v : Nat) : (s.put f v).phv = s.phv := rfl
@[simp] theorem State.put_dcl (f : Fld) (v : Nat) : (s.put f v).dcl = s.dcl := rfl
@[simp] theorem State.put_pos (f : Fld) (v : Nat) : (s.put f v).pos = s.pos := rfl
@[simp] theorem State.put_chg (f : Fld) (v : Nat) : (s.put f v).chg = s.chg := rfl
@[simp] theorem State.put_triad (f : Fld) (v : Nat) : (s.put f v).triad = s.triad := rfl
@[simp] theorem State.put_patrol (f : Fld) (v : Nat) : (s.put f v).patrol = s.patrol := rfl
@[simp] theorem State.put_swapping (f : Fld) (v : Nat) : (s.put f v).swapping = s.swapping := rfl
@[simp] theorem State.put_edges (f : Fld) (v : Nat) : (s.put f v).edges = s.edges := rfl
@[simp] theorem State.put_can (f : Fld) (v : Nat) : (s.put f v).can = s.can := rfl
@[simp] theorem State.put_probe (f : Fld) (v : Nat) : (s.put f v).probe = s.probe := rfl
@[simp] theorem State.put_supply (f : Fld) (v : Nat) : (s.put f v).supply = s.supply := rfl
@[simp] theorem State.put_groom (f : Fld) (v : Nat) : (s.put f v).groom = s.groom := rfl
@[simp] theorem State.put_time (f : Fld) (v : Nat) : (s.put f v).time = s.time := rfl
@[simp] theorem State.put_svc (f : Fld) (v : Nat) : (s.put f v).svc = s.svc := rfl
@[simp] theorem State.put_hka (f : Fld) (v : Nat) : (s.put f v).hka = s.hka := rfl
@[simp] theorem State.put_rst (f : Fld) (v : Nat) : (s.put f v).rst = s.rst := rfl
@[simp] theorem State.put_net (f : Fld) (v : Nat) : (s.put f v).net = s.net := rfl
@[simp] theorem State.put_himet (f : Fld) (v : Nat) : (s.put f v).himet = s.himet := rfl

/-! ## bump -/

@[simp] theorem State.bump_pending (f : Fld) : (s.bump f).pending = s.pending := rfl
@[simp] theorem State.bump_shadowMarks (f : Fld) : (s.bump f).shadowMarks = s.shadowMarks := rfl
@[simp] theorem State.bump_liveMarks (f : Fld) : (s.bump f).liveMarks = s.liveMarks := rfl
@[simp] theorem State.bump_toClassify (f : Fld) : (s.bump f).toClassify = s.toClassify := rfl
@[simp] theorem State.bump_life (f : Fld) : (s.bump f).life = s.life := rfl
@[simp] theorem State.bump_freeCount (f : Fld) : (s.bump f).freeCount = s.freeCount := rfl
@[simp] theorem State.bump_tod (f : Fld) : (s.bump f).tod = s.tod := rfl
@[simp] theorem State.bump_host (f : Fld) : (s.bump f).host = s.host := rfl
@[simp] theorem State.bump_course (f : Fld) : (s.bump f).course = s.course := rfl
@[simp] theorem State.bump_clk (f : Fld) : (s.bump f).clk = s.clk := rfl
@[simp] theorem State.bump_piste (f : Fld) : (s.bump f).piste = s.piste := rfl
@[simp] theorem State.bump_legs (f : Fld) : (s.bump f).legs = s.legs := rfl
@[simp] theorem State.bump_tripIns (f : Fld) : (s.bump f).tripIns = s.tripIns := rfl
@[simp] theorem State.bump_trip (f : Fld) : (s.bump f).trip = s.trip := rfl
@[simp] theorem State.bump_injs (f : Fld) : (s.bump f).injs = s.injs := rfl
@[simp] theorem State.bump_slots (f : Fld) : (s.bump f).slots = s.slots := rfl
@[simp] theorem State.bump_chop (f : Fld) : (s.bump f).chop = s.chop := rfl
@[simp] theorem State.bump_hkaEvents (f : Fld) : (s.bump f).hkaEvents = s.hkaEvents := rfl
@[simp] theorem State.bump_taskPresc (f : Fld) : (s.bump f).taskPresc = s.taskPresc := rfl
@[simp] theorem State.bump_taskDelays (f : Fld) : (s.bump f).taskDelays = s.taskDelays := rfl
@[simp] theorem State.bump_carve (f : Fld) : (s.bump f).carve = s.carve := rfl
@[simp] theorem State.bump_ports (f : Fld) : (s.bump f).ports = s.ports := rfl
@[simp] theorem State.bump_prof (f : Fld) : (s.bump f).prof = s.prof := rfl
@[simp] theorem State.bump_slalom (f : Fld) : (s.bump f).slalom = s.slalom := rfl
@[simp] theorem State.bump_sdm (f : Fld) : (s.bump f).sdm = s.sdm := rfl
@[simp] theorem State.bump_phv (f : Fld) : (s.bump f).phv = s.phv := rfl
@[simp] theorem State.bump_dcl (f : Fld) : (s.bump f).dcl = s.dcl := rfl
@[simp] theorem State.bump_pos (f : Fld) : (s.bump f).pos = s.pos := rfl
@[simp] theorem State.bump_chg (f : Fld) : (s.bump f).chg = s.chg := rfl
@[simp] theorem State.bump_triad (f : Fld) : (s.bump f).triad = s.triad := rfl
@[simp] theorem State.bump_patrol (f : Fld) : (s.bump f).patrol = s.patrol := rfl
@[simp] theorem State.bump_swapping (f : Fld) : (s.bump f).swapping = s.swapping := rfl
@[simp] theorem State.bump_edges (f : Fld) : (s.bump f).edges = s.edges := rfl
@[simp] theorem State.bump_can (f : Fld) : (s.bump f).can = s.can := rfl
@[simp] theorem State.bump_probe (f : Fld) : (s.bump f).probe = s.probe := rfl
@[simp] theorem State.bump_supply (f : Fld) : (s.bump f).supply = s.supply := rfl
@[simp] theorem State.bump_groom (f : Fld) : (s.bump f).groom = s.groom := rfl
@[simp] theorem State.bump_time (f : Fld) : (s.bump f).time = s.time := rfl
@[simp] theorem State.bump_svc (f : Fld) : (s.bump f).svc = s.svc := rfl
@[simp] theorem State.bump_hka (f : Fld) : (s.bump f).hka = s.hka := rfl
@[simp] theorem State.bump_rst (f : Fld) : (s.bump f).rst = s.rst := rfl
@[simp] theorem State.bump_net (f : Fld) : (s.bump f).net = s.net := rfl
@[simp] theorem State.bump_himet (f : Fld) : (s.bump f).himet = s.himet := rfl

/-! ## bumpWrap -/

@[simp] theorem State.bumpWrap_pending (f : Fld) : (s.bumpWrap f).pending = s.pending := rfl
@[simp] theorem State.bumpWrap_shadowMarks (f : Fld) : (s.bumpWrap f).shadowMarks = s.shadowMarks := rfl
@[simp] theorem State.bumpWrap_liveMarks (f : Fld) : (s.bumpWrap f).liveMarks = s.liveMarks := rfl
@[simp] theorem State.bumpWrap_toClassify (f : Fld) : (s.bumpWrap f).toClassify = s.toClassify := rfl
@[simp] theorem State.bumpWrap_life (f : Fld) : (s.bumpWrap f).life = s.life := rfl
@[simp] theorem State.bumpWrap_freeCount (f : Fld) : (s.bumpWrap f).freeCount = s.freeCount := rfl
@[simp] theorem State.bumpWrap_tod (f : Fld) : (s.bumpWrap f).tod = s.tod := rfl
@[simp] theorem State.bumpWrap_host (f : Fld) : (s.bumpWrap f).host = s.host := rfl
@[simp] theorem State.bumpWrap_course (f : Fld) : (s.bumpWrap f).course = s.course := rfl
@[simp] theorem State.bumpWrap_clk (f : Fld) : (s.bumpWrap f).clk = s.clk := rfl
@[simp] theorem State.bumpWrap_piste (f : Fld) : (s.bumpWrap f).piste = s.piste := rfl
@[simp] theorem State.bumpWrap_legs (f : Fld) : (s.bumpWrap f).legs = s.legs := rfl
@[simp] theorem State.bumpWrap_tripIns (f : Fld) : (s.bumpWrap f).tripIns = s.tripIns := rfl
@[simp] theorem State.bumpWrap_trip (f : Fld) : (s.bumpWrap f).trip = s.trip := rfl
@[simp] theorem State.bumpWrap_injs (f : Fld) : (s.bumpWrap f).injs = s.injs := rfl
@[simp] theorem State.bumpWrap_slots (f : Fld) : (s.bumpWrap f).slots = s.slots := rfl
@[simp] theorem State.bumpWrap_chop (f : Fld) : (s.bumpWrap f).chop = s.chop := rfl
@[simp] theorem State.bumpWrap_hkaEvents (f : Fld) : (s.bumpWrap f).hkaEvents = s.hkaEvents := rfl
@[simp] theorem State.bumpWrap_taskPresc (f : Fld) : (s.bumpWrap f).taskPresc = s.taskPresc := rfl
@[simp] theorem State.bumpWrap_taskDelays (f : Fld) : (s.bumpWrap f).taskDelays = s.taskDelays := rfl
@[simp] theorem State.bumpWrap_carve (f : Fld) : (s.bumpWrap f).carve = s.carve := rfl
@[simp] theorem State.bumpWrap_ports (f : Fld) : (s.bumpWrap f).ports = s.ports := rfl
@[simp] theorem State.bumpWrap_prof (f : Fld) : (s.bumpWrap f).prof = s.prof := rfl
@[simp] theorem State.bumpWrap_slalom (f : Fld) : (s.bumpWrap f).slalom = s.slalom := rfl
@[simp] theorem State.bumpWrap_sdm (f : Fld) : (s.bumpWrap f).sdm = s.sdm := rfl
@[simp] theorem State.bumpWrap_phv (f : Fld) : (s.bumpWrap f).phv = s.phv := rfl
@[simp] theorem State.bumpWrap_dcl (f : Fld) : (s.bumpWrap f).dcl = s.dcl := rfl
@[simp] theorem State.bumpWrap_pos (f : Fld) : (s.bumpWrap f).pos = s.pos := rfl
@[simp] theorem State.bumpWrap_chg (f : Fld) : (s.bumpWrap f).chg = s.chg := rfl
@[simp] theorem State.bumpWrap_triad (f : Fld) : (s.bumpWrap f).triad = s.triad := rfl
@[simp] theorem State.bumpWrap_patrol (f : Fld) : (s.bumpWrap f).patrol = s.patrol := rfl
@[simp] theorem State.bumpWrap_swapping (f : Fld) : (s.bumpWrap f).swapping = s.swapping := rfl
@[simp] theorem State.bumpWrap_edges (f : Fld) : (s.bumpWrap f).edges = s.edges := rfl
@[simp] theorem State.bumpWrap_can (f : Fld) : (s.bumpWrap f).can = s.can := rfl
@[simp] theorem State.bumpWrap_probe (f : Fld) : (s.bumpWrap f).probe = s.probe := rfl
@[simp] theorem State.bumpWrap_supply (f : Fld) : (s.bumpWrap f).supply = s.supply := rfl
@[simp] theorem State.bumpWrap_groom (f : Fld) : (s.bumpWrap f).groom = s.groom := rfl
@[simp] theorem State.bumpWrap_time (f : Fld) : (s.bumpWrap f).time = s.time := rfl
@[simp] theorem State.bumpWrap_svc (f : Fld) : (s.bumpWrap f).svc = s.svc := rfl
@[simp] theorem State.bumpWrap_hka (f : Fld) : (s.bumpWrap f).hka = s.hka := rfl
@[simp] theorem State.bumpWrap_rst (f : Fld) : (s.bumpWrap f).rst = s.rst := rfl
@[simp] theorem State.bumpWrap_net (f : Fld) : (s.bumpWrap f).net = s.net := rfl
@[simp] theorem State.bumpWrap_himet (f : Fld) : (s.bumpWrap f).himet = s.himet := rfl

/-! ## status -/

@[simp] theorem State.status_pending (a c : Nat) : (s.status a c).pending = s.pending := rfl
@[simp] theorem State.status_shadowMarks (a c : Nat) : (s.status a c).shadowMarks = s.shadowMarks := rfl
@[simp] theorem State.status_liveMarks (a c : Nat) : (s.status a c).liveMarks = s.liveMarks := rfl
@[simp] theorem State.status_toClassify (a c : Nat) : (s.status a c).toClassify = s.toClassify := rfl
@[simp] theorem State.status_life (a c : Nat) : (s.status a c).life = s.life := rfl
@[simp] theorem State.status_freeCount (a c : Nat) : (s.status a c).freeCount = s.freeCount := rfl
@[simp] theorem State.status_tod (a c : Nat) : (s.status a c).tod = s.tod := rfl
@[simp] theorem State.status_host (a c : Nat) : (s.status a c).host = s.host := rfl
@[simp] theorem State.status_course (a c : Nat) : (s.status a c).course = s.course := rfl
@[simp] theorem State.status_clk (a c : Nat) : (s.status a c).clk = s.clk := rfl
@[simp] theorem State.status_piste (a c : Nat) : (s.status a c).piste = s.piste := rfl
@[simp] theorem State.status_legs (a c : Nat) : (s.status a c).legs = s.legs := rfl
@[simp] theorem State.status_tripIns (a c : Nat) : (s.status a c).tripIns = s.tripIns := rfl
@[simp] theorem State.status_trip (a c : Nat) : (s.status a c).trip = s.trip := rfl
@[simp] theorem State.status_injs (a c : Nat) : (s.status a c).injs = s.injs := rfl
@[simp] theorem State.status_slots (a c : Nat) : (s.status a c).slots = s.slots := rfl
@[simp] theorem State.status_chop (a c : Nat) : (s.status a c).chop = s.chop := rfl
@[simp] theorem State.status_hkaEvents (a c : Nat) : (s.status a c).hkaEvents = s.hkaEvents := rfl
@[simp] theorem State.status_taskPresc (a c : Nat) : (s.status a c).taskPresc = s.taskPresc := rfl
@[simp] theorem State.status_taskDelays (a c : Nat) : (s.status a c).taskDelays = s.taskDelays := rfl
@[simp] theorem State.status_carve (a c : Nat) : (s.status a c).carve = s.carve := rfl
@[simp] theorem State.status_ports (a c : Nat) : (s.status a c).ports = s.ports := rfl
@[simp] theorem State.status_prof (a c : Nat) : (s.status a c).prof = s.prof := rfl
@[simp] theorem State.status_slalom (a c : Nat) : (s.status a c).slalom = s.slalom := rfl
@[simp] theorem State.status_sdm (a c : Nat) : (s.status a c).sdm = s.sdm := rfl
@[simp] theorem State.status_phv (a c : Nat) : (s.status a c).phv = s.phv := rfl
@[simp] theorem State.status_dcl (a c : Nat) : (s.status a c).dcl = s.dcl := rfl
@[simp] theorem State.status_pos (a c : Nat) : (s.status a c).pos = s.pos := rfl
@[simp] theorem State.status_chg (a c : Nat) : (s.status a c).chg = s.chg := rfl
@[simp] theorem State.status_triad (a c : Nat) : (s.status a c).triad = s.triad := rfl
@[simp] theorem State.status_patrol (a c : Nat) : (s.status a c).patrol = s.patrol := rfl
@[simp] theorem State.status_swapping (a c : Nat) : (s.status a c).swapping = s.swapping := rfl
@[simp] theorem State.status_edges (a c : Nat) : (s.status a c).edges = s.edges := rfl
@[simp] theorem State.status_can (a c : Nat) : (s.status a c).can = s.can := rfl
@[simp] theorem State.status_probe (a c : Nat) : (s.status a c).probe = s.probe := rfl
@[simp] theorem State.status_supply (a c : Nat) : (s.status a c).supply = s.supply := rfl
@[simp] theorem State.status_groom (a c : Nat) : (s.status a c).groom = s.groom := rfl
@[simp] theorem State.status_time (a c : Nat) : (s.status a c).time = s.time := rfl
@[simp] theorem State.status_svc (a c : Nat) : (s.status a c).svc = s.svc := rfl
@[simp] theorem State.status_hka (a c : Nat) : (s.status a c).hka = s.hka := rfl
@[simp] theorem State.status_rst (a c : Nat) : (s.status a c).rst = s.rst := rfl
@[simp] theorem State.status_net (a c : Nat) : (s.status a c).net = s.net := rfl
@[simp] theorem State.status_himet (a c : Nat) : (s.status a c).himet = s.himet := rfl

/-! ## setShadow -/

@[simp] theorem State.setShadow_pending (g : Nat) (w : Word) : (s.setShadow g w).pending = s.pending := rfl
@[simp] theorem State.setShadow_regs (g : Nat) (w : Word) : (s.setShadow g w).regs = s.regs := rfl
@[simp] theorem State.setShadow_liveMarks (g : Nat) (w : Word) : (s.setShadow g w).liveMarks = s.liveMarks := rfl
@[simp] theorem State.setShadow_toClassify (g : Nat) (w : Word) : (s.setShadow g w).toClassify = s.toClassify := rfl
@[simp] theorem State.setShadow_life (g : Nat) (w : Word) : (s.setShadow g w).life = s.life := rfl
@[simp] theorem State.setShadow_freeCount (g : Nat) (w : Word) : (s.setShadow g w).freeCount = s.freeCount := rfl
@[simp] theorem State.setShadow_tod (g : Nat) (w : Word) : (s.setShadow g w).tod = s.tod := rfl
@[simp] theorem State.setShadow_host (g : Nat) (w : Word) : (s.setShadow g w).host = s.host := rfl
@[simp] theorem State.setShadow_course (g : Nat) (w : Word) : (s.setShadow g w).course = s.course := rfl
@[simp] theorem State.setShadow_clk (g : Nat) (w : Word) : (s.setShadow g w).clk = s.clk := rfl
@[simp] theorem State.setShadow_piste (g : Nat) (w : Word) : (s.setShadow g w).piste = s.piste := rfl
@[simp] theorem State.setShadow_legs (g : Nat) (w : Word) : (s.setShadow g w).legs = s.legs := rfl
@[simp] theorem State.setShadow_tripIns (g : Nat) (w : Word) : (s.setShadow g w).tripIns = s.tripIns := rfl
@[simp] theorem State.setShadow_trip (g : Nat) (w : Word) : (s.setShadow g w).trip = s.trip := rfl
@[simp] theorem State.setShadow_injs (g : Nat) (w : Word) : (s.setShadow g w).injs = s.injs := rfl
@[simp] theorem State.setShadow_slots (g : Nat) (w : Word) : (s.setShadow g w).slots = s.slots := rfl
@[simp] theorem State.setShadow_chop (g : Nat) (w : Word) : (s.setShadow g w).chop = s.chop := rfl
@[simp] theorem State.setShadow_hkaEvents (g : Nat) (w : Word) : (s.setShadow g w).hkaEvents = s.hkaEvents := rfl
@[simp] theorem State.setShadow_taskPresc (g : Nat) (w : Word) : (s.setShadow g w).taskPresc = s.taskPresc := rfl
@[simp] theorem State.setShadow_taskDelays (g : Nat) (w : Word) : (s.setShadow g w).taskDelays = s.taskDelays := rfl
@[simp] theorem State.setShadow_carve (g : Nat) (w : Word) : (s.setShadow g w).carve = s.carve := rfl
@[simp] theorem State.setShadow_ports (g : Nat) (w : Word) : (s.setShadow g w).ports = s.ports := rfl
@[simp] theorem State.setShadow_prof (g : Nat) (w : Word) : (s.setShadow g w).prof = s.prof := rfl
@[simp] theorem State.setShadow_slalom (g : Nat) (w : Word) : (s.setShadow g w).slalom = s.slalom := rfl
@[simp] theorem State.setShadow_sdm (g : Nat) (w : Word) : (s.setShadow g w).sdm = s.sdm := rfl
@[simp] theorem State.setShadow_phv (g : Nat) (w : Word) : (s.setShadow g w).phv = s.phv := rfl
@[simp] theorem State.setShadow_dcl (g : Nat) (w : Word) : (s.setShadow g w).dcl = s.dcl := rfl
@[simp] theorem State.setShadow_pos (g : Nat) (w : Word) : (s.setShadow g w).pos = s.pos := rfl
@[simp] theorem State.setShadow_chg (g : Nat) (w : Word) : (s.setShadow g w).chg = s.chg := rfl
@[simp] theorem State.setShadow_triad (g : Nat) (w : Word) : (s.setShadow g w).triad = s.triad := rfl
@[simp] theorem State.setShadow_patrol (g : Nat) (w : Word) : (s.setShadow g w).patrol = s.patrol := rfl
@[simp] theorem State.setShadow_swapping (g : Nat) (w : Word) : (s.setShadow g w).swapping = s.swapping := rfl
@[simp] theorem State.setShadow_edges (g : Nat) (w : Word) : (s.setShadow g w).edges = s.edges := rfl
@[simp] theorem State.setShadow_can (g : Nat) (w : Word) : (s.setShadow g w).can = s.can := rfl
@[simp] theorem State.setShadow_probe (g : Nat) (w : Word) : (s.setShadow g w).probe = s.probe := rfl
@[simp] theorem State.setShadow_supply (g : Nat) (w : Word) : (s.setShadow g w).supply = s.supply := rfl
@[simp] theorem State.setShadow_groom (g : Nat) (w : Word) : (s.setShadow g w).groom = s.groom := rfl
@[simp] theorem State.setShadow_time (g : Nat) (w : Word) : (s.setShadow g w).time = s.time := rfl
@[simp] theorem State.setShadow_svc (g : Nat) (w : Word) : (s.setShadow g w).svc = s.svc := rfl
@[simp] theorem State.setShadow_hka (g : Nat) (w : Word) : (s.setShadow g w).hka = s.hka := rfl
@[simp] theorem State.setShadow_rst (g : Nat) (w : Word) : (s.setShadow g w).rst = s.rst := rfl
@[simp] theorem State.setShadow_net (g : Nat) (w : Word) : (s.setShadow g w).net = s.net := rfl
@[simp] theorem State.setShadow_himet (g : Nat) (w : Word) : (s.setShadow g w).himet = s.himet := rfl

/-! ## setLive -/

@[simp] theorem State.setLive_pending (g : Nat) (w : Word) : (s.setLive g w).pending = s.pending := rfl
@[simp] theorem State.setLive_regs (g : Nat) (w : Word) : (s.setLive g w).regs = s.regs := rfl
@[simp] theorem State.setLive_shadowMarks (g : Nat) (w : Word) : (s.setLive g w).shadowMarks = s.shadowMarks := rfl
@[simp] theorem State.setLive_toClassify (g : Nat) (w : Word) : (s.setLive g w).toClassify = s.toClassify := rfl
@[simp] theorem State.setLive_life (g : Nat) (w : Word) : (s.setLive g w).life = s.life := rfl
@[simp] theorem State.setLive_freeCount (g : Nat) (w : Word) : (s.setLive g w).freeCount = s.freeCount := rfl
@[simp] theorem State.setLive_tod (g : Nat) (w : Word) : (s.setLive g w).tod = s.tod := rfl
@[simp] theorem State.setLive_host (g : Nat) (w : Word) : (s.setLive g w).host = s.host := rfl
@[simp] theorem State.setLive_course (g : Nat) (w : Word) : (s.setLive g w).course = s.course := rfl
@[simp] theorem State.setLive_clk (g : Nat) (w : Word) : (s.setLive g w).clk = s.clk := rfl
@[simp] theorem State.setLive_piste (g : Nat) (w : Word) : (s.setLive g w).piste = s.piste := rfl
@[simp] theorem State.setLive_legs (g : Nat) (w : Word) : (s.setLive g w).legs = s.legs := rfl
@[simp] theorem State.setLive_tripIns (g : Nat) (w : Word) : (s.setLive g w).tripIns = s.tripIns := rfl
@[simp] theorem State.setLive_trip (g : Nat) (w : Word) : (s.setLive g w).trip = s.trip := rfl
@[simp] theorem State.setLive_injs (g : Nat) (w : Word) : (s.setLive g w).injs = s.injs := rfl
@[simp] theorem State.setLive_slots (g : Nat) (w : Word) : (s.setLive g w).slots = s.slots := rfl
@[simp] theorem State.setLive_chop (g : Nat) (w : Word) : (s.setLive g w).chop = s.chop := rfl
@[simp] theorem State.setLive_hkaEvents (g : Nat) (w : Word) : (s.setLive g w).hkaEvents = s.hkaEvents := rfl
@[simp] theorem State.setLive_taskPresc (g : Nat) (w : Word) : (s.setLive g w).taskPresc = s.taskPresc := rfl
@[simp] theorem State.setLive_taskDelays (g : Nat) (w : Word) : (s.setLive g w).taskDelays = s.taskDelays := rfl
@[simp] theorem State.setLive_carve (g : Nat) (w : Word) : (s.setLive g w).carve = s.carve := rfl
@[simp] theorem State.setLive_ports (g : Nat) (w : Word) : (s.setLive g w).ports = s.ports := rfl
@[simp] theorem State.setLive_prof (g : Nat) (w : Word) : (s.setLive g w).prof = s.prof := rfl
@[simp] theorem State.setLive_slalom (g : Nat) (w : Word) : (s.setLive g w).slalom = s.slalom := rfl
@[simp] theorem State.setLive_sdm (g : Nat) (w : Word) : (s.setLive g w).sdm = s.sdm := rfl
@[simp] theorem State.setLive_phv (g : Nat) (w : Word) : (s.setLive g w).phv = s.phv := rfl
@[simp] theorem State.setLive_dcl (g : Nat) (w : Word) : (s.setLive g w).dcl = s.dcl := rfl
@[simp] theorem State.setLive_pos (g : Nat) (w : Word) : (s.setLive g w).pos = s.pos := rfl
@[simp] theorem State.setLive_chg (g : Nat) (w : Word) : (s.setLive g w).chg = s.chg := rfl
@[simp] theorem State.setLive_triad (g : Nat) (w : Word) : (s.setLive g w).triad = s.triad := rfl
@[simp] theorem State.setLive_patrol (g : Nat) (w : Word) : (s.setLive g w).patrol = s.patrol := rfl
@[simp] theorem State.setLive_swapping (g : Nat) (w : Word) : (s.setLive g w).swapping = s.swapping := rfl
@[simp] theorem State.setLive_edges (g : Nat) (w : Word) : (s.setLive g w).edges = s.edges := rfl
@[simp] theorem State.setLive_can (g : Nat) (w : Word) : (s.setLive g w).can = s.can := rfl
@[simp] theorem State.setLive_probe (g : Nat) (w : Word) : (s.setLive g w).probe = s.probe := rfl
@[simp] theorem State.setLive_supply (g : Nat) (w : Word) : (s.setLive g w).supply = s.supply := rfl
@[simp] theorem State.setLive_groom (g : Nat) (w : Word) : (s.setLive g w).groom = s.groom := rfl
@[simp] theorem State.setLive_time (g : Nat) (w : Word) : (s.setLive g w).time = s.time := rfl
@[simp] theorem State.setLive_svc (g : Nat) (w : Word) : (s.setLive g w).svc = s.svc := rfl
@[simp] theorem State.setLive_hka (g : Nat) (w : Word) : (s.setLive g w).hka = s.hka := rfl
@[simp] theorem State.setLive_rst (g : Nat) (w : Word) : (s.setLive g w).rst = s.rst := rfl
@[simp] theorem State.setLive_net (g : Nat) (w : Word) : (s.setLive g w).net = s.net := rfl
@[simp] theorem State.setLive_himet (g : Nat) (w : Word) : (s.setLive g w).himet = s.himet := rfl

/-! ## setSlot -/

@[simp] theorem State.setSlot_pending (i : Fin 4) (x : Slot) : (s.setSlot i x).pending = s.pending := rfl
@[simp] theorem State.setSlot_regs (i : Fin 4) (x : Slot) : (s.setSlot i x).regs = s.regs := rfl
@[simp] theorem State.setSlot_shadowMarks (i : Fin 4) (x : Slot) : (s.setSlot i x).shadowMarks = s.shadowMarks := rfl
@[simp] theorem State.setSlot_liveMarks (i : Fin 4) (x : Slot) : (s.setSlot i x).liveMarks = s.liveMarks := rfl
@[simp] theorem State.setSlot_toClassify (i : Fin 4) (x : Slot) : (s.setSlot i x).toClassify = s.toClassify := rfl
@[simp] theorem State.setSlot_life (i : Fin 4) (x : Slot) : (s.setSlot i x).life = s.life := rfl
@[simp] theorem State.setSlot_freeCount (i : Fin 4) (x : Slot) : (s.setSlot i x).freeCount = s.freeCount := rfl
@[simp] theorem State.setSlot_tod (i : Fin 4) (x : Slot) : (s.setSlot i x).tod = s.tod := rfl
@[simp] theorem State.setSlot_host (i : Fin 4) (x : Slot) : (s.setSlot i x).host = s.host := rfl
@[simp] theorem State.setSlot_course (i : Fin 4) (x : Slot) : (s.setSlot i x).course = s.course := rfl
@[simp] theorem State.setSlot_clk (i : Fin 4) (x : Slot) : (s.setSlot i x).clk = s.clk := rfl
@[simp] theorem State.setSlot_piste (i : Fin 4) (x : Slot) : (s.setSlot i x).piste = s.piste := rfl
@[simp] theorem State.setSlot_legs (i : Fin 4) (x : Slot) : (s.setSlot i x).legs = s.legs := rfl
@[simp] theorem State.setSlot_tripIns (i : Fin 4) (x : Slot) : (s.setSlot i x).tripIns = s.tripIns := rfl
@[simp] theorem State.setSlot_trip (i : Fin 4) (x : Slot) : (s.setSlot i x).trip = s.trip := rfl
@[simp] theorem State.setSlot_injs (i : Fin 4) (x : Slot) : (s.setSlot i x).injs = s.injs := rfl
@[simp] theorem State.setSlot_chop (i : Fin 4) (x : Slot) : (s.setSlot i x).chop = s.chop := rfl
@[simp] theorem State.setSlot_hkaEvents (i : Fin 4) (x : Slot) : (s.setSlot i x).hkaEvents = s.hkaEvents := rfl
@[simp] theorem State.setSlot_taskPresc (i : Fin 4) (x : Slot) : (s.setSlot i x).taskPresc = s.taskPresc := rfl
@[simp] theorem State.setSlot_taskDelays (i : Fin 4) (x : Slot) : (s.setSlot i x).taskDelays = s.taskDelays := rfl
@[simp] theorem State.setSlot_carve (i : Fin 4) (x : Slot) : (s.setSlot i x).carve = s.carve := rfl
@[simp] theorem State.setSlot_ports (i : Fin 4) (x : Slot) : (s.setSlot i x).ports = s.ports := rfl
@[simp] theorem State.setSlot_prof (i : Fin 4) (x : Slot) : (s.setSlot i x).prof = s.prof := rfl
@[simp] theorem State.setSlot_slalom (i : Fin 4) (x : Slot) : (s.setSlot i x).slalom = s.slalom := rfl
@[simp] theorem State.setSlot_sdm (i : Fin 4) (x : Slot) : (s.setSlot i x).sdm = s.sdm := rfl
@[simp] theorem State.setSlot_phv (i : Fin 4) (x : Slot) : (s.setSlot i x).phv = s.phv := rfl
@[simp] theorem State.setSlot_dcl (i : Fin 4) (x : Slot) : (s.setSlot i x).dcl = s.dcl := rfl
@[simp] theorem State.setSlot_pos (i : Fin 4) (x : Slot) : (s.setSlot i x).pos = s.pos := rfl
@[simp] theorem State.setSlot_chg (i : Fin 4) (x : Slot) : (s.setSlot i x).chg = s.chg := rfl
@[simp] theorem State.setSlot_triad (i : Fin 4) (x : Slot) : (s.setSlot i x).triad = s.triad := rfl
@[simp] theorem State.setSlot_patrol (i : Fin 4) (x : Slot) : (s.setSlot i x).patrol = s.patrol := rfl
@[simp] theorem State.setSlot_swapping (i : Fin 4) (x : Slot) : (s.setSlot i x).swapping = s.swapping := rfl
@[simp] theorem State.setSlot_edges (i : Fin 4) (x : Slot) : (s.setSlot i x).edges = s.edges := rfl
@[simp] theorem State.setSlot_can (i : Fin 4) (x : Slot) : (s.setSlot i x).can = s.can := rfl
@[simp] theorem State.setSlot_probe (i : Fin 4) (x : Slot) : (s.setSlot i x).probe = s.probe := rfl
@[simp] theorem State.setSlot_supply (i : Fin 4) (x : Slot) : (s.setSlot i x).supply = s.supply := rfl
@[simp] theorem State.setSlot_groom (i : Fin 4) (x : Slot) : (s.setSlot i x).groom = s.groom := rfl
@[simp] theorem State.setSlot_time (i : Fin 4) (x : Slot) : (s.setSlot i x).time = s.time := rfl
@[simp] theorem State.setSlot_svc (i : Fin 4) (x : Slot) : (s.setSlot i x).svc = s.svc := rfl
@[simp] theorem State.setSlot_hka (i : Fin 4) (x : Slot) : (s.setSlot i x).hka = s.hka := rfl
@[simp] theorem State.setSlot_rst (i : Fin 4) (x : Slot) : (s.setSlot i x).rst = s.rst := rfl
@[simp] theorem State.setSlot_net (i : Fin 4) (x : Slot) : (s.setSlot i x).net = s.net := rfl
@[simp] theorem State.setSlot_himet (i : Fin 4) (x : Slot) : (s.setSlot i x).himet = s.himet := rfl

/-! ## setLeg -/

@[simp] theorem State.setLeg_pending (n : Fin 32) (x : Leg) : (s.setLeg n x).pending = s.pending := rfl
@[simp] theorem State.setLeg_regs (n : Fin 32) (x : Leg) : (s.setLeg n x).regs = s.regs := rfl
@[simp] theorem State.setLeg_shadowMarks (n : Fin 32) (x : Leg) : (s.setLeg n x).shadowMarks = s.shadowMarks := rfl
@[simp] theorem State.setLeg_liveMarks (n : Fin 32) (x : Leg) : (s.setLeg n x).liveMarks = s.liveMarks := rfl
@[simp] theorem State.setLeg_toClassify (n : Fin 32) (x : Leg) : (s.setLeg n x).toClassify = s.toClassify := rfl
@[simp] theorem State.setLeg_life (n : Fin 32) (x : Leg) : (s.setLeg n x).life = s.life := rfl
@[simp] theorem State.setLeg_freeCount (n : Fin 32) (x : Leg) : (s.setLeg n x).freeCount = s.freeCount := rfl
@[simp] theorem State.setLeg_tod (n : Fin 32) (x : Leg) : (s.setLeg n x).tod = s.tod := rfl
@[simp] theorem State.setLeg_host (n : Fin 32) (x : Leg) : (s.setLeg n x).host = s.host := rfl
@[simp] theorem State.setLeg_course (n : Fin 32) (x : Leg) : (s.setLeg n x).course = s.course := rfl
@[simp] theorem State.setLeg_clk (n : Fin 32) (x : Leg) : (s.setLeg n x).clk = s.clk := rfl
@[simp] theorem State.setLeg_piste (n : Fin 32) (x : Leg) : (s.setLeg n x).piste = s.piste := rfl
@[simp] theorem State.setLeg_tripIns (n : Fin 32) (x : Leg) : (s.setLeg n x).tripIns = s.tripIns := rfl
@[simp] theorem State.setLeg_trip (n : Fin 32) (x : Leg) : (s.setLeg n x).trip = s.trip := rfl
@[simp] theorem State.setLeg_injs (n : Fin 32) (x : Leg) : (s.setLeg n x).injs = s.injs := rfl
@[simp] theorem State.setLeg_slots (n : Fin 32) (x : Leg) : (s.setLeg n x).slots = s.slots := rfl
@[simp] theorem State.setLeg_chop (n : Fin 32) (x : Leg) : (s.setLeg n x).chop = s.chop := rfl
@[simp] theorem State.setLeg_hkaEvents (n : Fin 32) (x : Leg) : (s.setLeg n x).hkaEvents = s.hkaEvents := rfl
@[simp] theorem State.setLeg_taskPresc (n : Fin 32) (x : Leg) : (s.setLeg n x).taskPresc = s.taskPresc := rfl
@[simp] theorem State.setLeg_taskDelays (n : Fin 32) (x : Leg) : (s.setLeg n x).taskDelays = s.taskDelays := rfl
@[simp] theorem State.setLeg_carve (n : Fin 32) (x : Leg) : (s.setLeg n x).carve = s.carve := rfl
@[simp] theorem State.setLeg_ports (n : Fin 32) (x : Leg) : (s.setLeg n x).ports = s.ports := rfl
@[simp] theorem State.setLeg_prof (n : Fin 32) (x : Leg) : (s.setLeg n x).prof = s.prof := rfl
@[simp] theorem State.setLeg_slalom (n : Fin 32) (x : Leg) : (s.setLeg n x).slalom = s.slalom := rfl
@[simp] theorem State.setLeg_sdm (n : Fin 32) (x : Leg) : (s.setLeg n x).sdm = s.sdm := rfl
@[simp] theorem State.setLeg_phv (n : Fin 32) (x : Leg) : (s.setLeg n x).phv = s.phv := rfl
@[simp] theorem State.setLeg_dcl (n : Fin 32) (x : Leg) : (s.setLeg n x).dcl = s.dcl := rfl
@[simp] theorem State.setLeg_pos (n : Fin 32) (x : Leg) : (s.setLeg n x).pos = s.pos := rfl
@[simp] theorem State.setLeg_chg (n : Fin 32) (x : Leg) : (s.setLeg n x).chg = s.chg := rfl
@[simp] theorem State.setLeg_triad (n : Fin 32) (x : Leg) : (s.setLeg n x).triad = s.triad := rfl
@[simp] theorem State.setLeg_patrol (n : Fin 32) (x : Leg) : (s.setLeg n x).patrol = s.patrol := rfl
@[simp] theorem State.setLeg_swapping (n : Fin 32) (x : Leg) : (s.setLeg n x).swapping = s.swapping := rfl
@[simp] theorem State.setLeg_edges (n : Fin 32) (x : Leg) : (s.setLeg n x).edges = s.edges := rfl
@[simp] theorem State.setLeg_can (n : Fin 32) (x : Leg) : (s.setLeg n x).can = s.can := rfl
@[simp] theorem State.setLeg_probe (n : Fin 32) (x : Leg) : (s.setLeg n x).probe = s.probe := rfl
@[simp] theorem State.setLeg_supply (n : Fin 32) (x : Leg) : (s.setLeg n x).supply = s.supply := rfl
@[simp] theorem State.setLeg_groom (n : Fin 32) (x : Leg) : (s.setLeg n x).groom = s.groom := rfl
@[simp] theorem State.setLeg_time (n : Fin 32) (x : Leg) : (s.setLeg n x).time = s.time := rfl
@[simp] theorem State.setLeg_svc (n : Fin 32) (x : Leg) : (s.setLeg n x).svc = s.svc := rfl
@[simp] theorem State.setLeg_hka (n : Fin 32) (x : Leg) : (s.setLeg n x).hka = s.hka := rfl
@[simp] theorem State.setLeg_rst (n : Fin 32) (x : Leg) : (s.setLeg n x).rst = s.rst := rfl
@[simp] theorem State.setLeg_net (n : Fin 32) (x : Leg) : (s.setLeg n x).net = s.net := rfl
@[simp] theorem State.setLeg_himet (n : Fin 32) (x : Leg) : (s.setLeg n x).himet = s.himet := rfl

/-! ## setEdge -/

@[simp] theorem State.setEdge_pending (n : Fin 64) (x : EdgeCh) : (s.setEdge n x).pending = s.pending := rfl
@[simp] theorem State.setEdge_regs (n : Fin 64) (x : EdgeCh) : (s.setEdge n x).regs = s.regs := rfl
@[simp] theorem State.setEdge_shadowMarks (n : Fin 64) (x : EdgeCh) : (s.setEdge n x).shadowMarks = s.shadowMarks := rfl
@[simp] theorem State.setEdge_liveMarks (n : Fin 64) (x : EdgeCh) : (s.setEdge n x).liveMarks = s.liveMarks := rfl
@[simp] theorem State.setEdge_toClassify (n : Fin 64) (x : EdgeCh) : (s.setEdge n x).toClassify = s.toClassify := rfl
@[simp] theorem State.setEdge_life (n : Fin 64) (x : EdgeCh) : (s.setEdge n x).life = s.life := rfl
@[simp] theorem State.setEdge_freeCount (n : Fin 64) (x : EdgeCh) : (s.setEdge n x).freeCount = s.freeCount := rfl
@[simp] theorem State.setEdge_tod (n : Fin 64) (x : EdgeCh) : (s.setEdge n x).tod = s.tod := rfl
@[simp] theorem State.setEdge_host (n : Fin 64) (x : EdgeCh) : (s.setEdge n x).host = s.host := rfl
@[simp] theorem State.setEdge_course (n : Fin 64) (x : EdgeCh) : (s.setEdge n x).course = s.course := rfl
@[simp] theorem State.setEdge_clk (n : Fin 64) (x : EdgeCh) : (s.setEdge n x).clk = s.clk := rfl
@[simp] theorem State.setEdge_piste (n : Fin 64) (x : EdgeCh) : (s.setEdge n x).piste = s.piste := rfl
@[simp] theorem State.setEdge_legs (n : Fin 64) (x : EdgeCh) : (s.setEdge n x).legs = s.legs := rfl
@[simp] theorem State.setEdge_tripIns (n : Fin 64) (x : EdgeCh) : (s.setEdge n x).tripIns = s.tripIns := rfl
@[simp] theorem State.setEdge_trip (n : Fin 64) (x : EdgeCh) : (s.setEdge n x).trip = s.trip := rfl
@[simp] theorem State.setEdge_injs (n : Fin 64) (x : EdgeCh) : (s.setEdge n x).injs = s.injs := rfl
@[simp] theorem State.setEdge_slots (n : Fin 64) (x : EdgeCh) : (s.setEdge n x).slots = s.slots := rfl
@[simp] theorem State.setEdge_chop (n : Fin 64) (x : EdgeCh) : (s.setEdge n x).chop = s.chop := rfl
@[simp] theorem State.setEdge_hkaEvents (n : Fin 64) (x : EdgeCh) : (s.setEdge n x).hkaEvents = s.hkaEvents := rfl
@[simp] theorem State.setEdge_taskPresc (n : Fin 64) (x : EdgeCh) : (s.setEdge n x).taskPresc = s.taskPresc := rfl
@[simp] theorem State.setEdge_taskDelays (n : Fin 64) (x : EdgeCh) : (s.setEdge n x).taskDelays = s.taskDelays := rfl
@[simp] theorem State.setEdge_carve (n : Fin 64) (x : EdgeCh) : (s.setEdge n x).carve = s.carve := rfl
@[simp] theorem State.setEdge_ports (n : Fin 64) (x : EdgeCh) : (s.setEdge n x).ports = s.ports := rfl
@[simp] theorem State.setEdge_prof (n : Fin 64) (x : EdgeCh) : (s.setEdge n x).prof = s.prof := rfl
@[simp] theorem State.setEdge_slalom (n : Fin 64) (x : EdgeCh) : (s.setEdge n x).slalom = s.slalom := rfl
@[simp] theorem State.setEdge_sdm (n : Fin 64) (x : EdgeCh) : (s.setEdge n x).sdm = s.sdm := rfl
@[simp] theorem State.setEdge_phv (n : Fin 64) (x : EdgeCh) : (s.setEdge n x).phv = s.phv := rfl
@[simp] theorem State.setEdge_dcl (n : Fin 64) (x : EdgeCh) : (s.setEdge n x).dcl = s.dcl := rfl
@[simp] theorem State.setEdge_pos (n : Fin 64) (x : EdgeCh) : (s.setEdge n x).pos = s.pos := rfl
@[simp] theorem State.setEdge_chg (n : Fin 64) (x : EdgeCh) : (s.setEdge n x).chg = s.chg := rfl
@[simp] theorem State.setEdge_triad (n : Fin 64) (x : EdgeCh) : (s.setEdge n x).triad = s.triad := rfl
@[simp] theorem State.setEdge_patrol (n : Fin 64) (x : EdgeCh) : (s.setEdge n x).patrol = s.patrol := rfl
@[simp] theorem State.setEdge_swapping (n : Fin 64) (x : EdgeCh) : (s.setEdge n x).swapping = s.swapping := rfl
@[simp] theorem State.setEdge_can (n : Fin 64) (x : EdgeCh) : (s.setEdge n x).can = s.can := rfl
@[simp] theorem State.setEdge_probe (n : Fin 64) (x : EdgeCh) : (s.setEdge n x).probe = s.probe := rfl
@[simp] theorem State.setEdge_supply (n : Fin 64) (x : EdgeCh) : (s.setEdge n x).supply = s.supply := rfl
@[simp] theorem State.setEdge_groom (n : Fin 64) (x : EdgeCh) : (s.setEdge n x).groom = s.groom := rfl
@[simp] theorem State.setEdge_time (n : Fin 64) (x : EdgeCh) : (s.setEdge n x).time = s.time := rfl
@[simp] theorem State.setEdge_svc (n : Fin 64) (x : EdgeCh) : (s.setEdge n x).svc = s.svc := rfl
@[simp] theorem State.setEdge_hka (n : Fin 64) (x : EdgeCh) : (s.setEdge n x).hka = s.hka := rfl
@[simp] theorem State.setEdge_rst (n : Fin 64) (x : EdgeCh) : (s.setEdge n x).rst = s.rst := rfl
@[simp] theorem State.setEdge_net (n : Fin 64) (x : EdgeCh) : (s.setEdge n x).net = s.net := rfl
@[simp] theorem State.setEdge_himet (n : Fin 64) (x : EdgeCh) : (s.setEdge n x).himet = s.himet := rfl

/-! ## setSdm -/

@[simp] theorem State.setSdm_pending (n : Fin 48) (x : SdmFilter) : (s.setSdm n x).pending = s.pending := rfl
@[simp] theorem State.setSdm_regs (n : Fin 48) (x : SdmFilter) : (s.setSdm n x).regs = s.regs := rfl
@[simp] theorem State.setSdm_shadowMarks (n : Fin 48) (x : SdmFilter) : (s.setSdm n x).shadowMarks = s.shadowMarks := rfl
@[simp] theorem State.setSdm_liveMarks (n : Fin 48) (x : SdmFilter) : (s.setSdm n x).liveMarks = s.liveMarks := rfl
@[simp] theorem State.setSdm_toClassify (n : Fin 48) (x : SdmFilter) : (s.setSdm n x).toClassify = s.toClassify := rfl
@[simp] theorem State.setSdm_life (n : Fin 48) (x : SdmFilter) : (s.setSdm n x).life = s.life := rfl
@[simp] theorem State.setSdm_freeCount (n : Fin 48) (x : SdmFilter) : (s.setSdm n x).freeCount = s.freeCount := rfl
@[simp] theorem State.setSdm_tod (n : Fin 48) (x : SdmFilter) : (s.setSdm n x).tod = s.tod := rfl
@[simp] theorem State.setSdm_host (n : Fin 48) (x : SdmFilter) : (s.setSdm n x).host = s.host := rfl
@[simp] theorem State.setSdm_course (n : Fin 48) (x : SdmFilter) : (s.setSdm n x).course = s.course := rfl
@[simp] theorem State.setSdm_clk (n : Fin 48) (x : SdmFilter) : (s.setSdm n x).clk = s.clk := rfl
@[simp] theorem State.setSdm_piste (n : Fin 48) (x : SdmFilter) : (s.setSdm n x).piste = s.piste := rfl
@[simp] theorem State.setSdm_legs (n : Fin 48) (x : SdmFilter) : (s.setSdm n x).legs = s.legs := rfl
@[simp] theorem State.setSdm_tripIns (n : Fin 48) (x : SdmFilter) : (s.setSdm n x).tripIns = s.tripIns := rfl
@[simp] theorem State.setSdm_trip (n : Fin 48) (x : SdmFilter) : (s.setSdm n x).trip = s.trip := rfl
@[simp] theorem State.setSdm_injs (n : Fin 48) (x : SdmFilter) : (s.setSdm n x).injs = s.injs := rfl
@[simp] theorem State.setSdm_slots (n : Fin 48) (x : SdmFilter) : (s.setSdm n x).slots = s.slots := rfl
@[simp] theorem State.setSdm_chop (n : Fin 48) (x : SdmFilter) : (s.setSdm n x).chop = s.chop := rfl
@[simp] theorem State.setSdm_hkaEvents (n : Fin 48) (x : SdmFilter) : (s.setSdm n x).hkaEvents = s.hkaEvents := rfl
@[simp] theorem State.setSdm_taskPresc (n : Fin 48) (x : SdmFilter) : (s.setSdm n x).taskPresc = s.taskPresc := rfl
@[simp] theorem State.setSdm_taskDelays (n : Fin 48) (x : SdmFilter) : (s.setSdm n x).taskDelays = s.taskDelays := rfl
@[simp] theorem State.setSdm_carve (n : Fin 48) (x : SdmFilter) : (s.setSdm n x).carve = s.carve := rfl
@[simp] theorem State.setSdm_ports (n : Fin 48) (x : SdmFilter) : (s.setSdm n x).ports = s.ports := rfl
@[simp] theorem State.setSdm_prof (n : Fin 48) (x : SdmFilter) : (s.setSdm n x).prof = s.prof := rfl
@[simp] theorem State.setSdm_slalom (n : Fin 48) (x : SdmFilter) : (s.setSdm n x).slalom = s.slalom := rfl
@[simp] theorem State.setSdm_phv (n : Fin 48) (x : SdmFilter) : (s.setSdm n x).phv = s.phv := rfl
@[simp] theorem State.setSdm_dcl (n : Fin 48) (x : SdmFilter) : (s.setSdm n x).dcl = s.dcl := rfl
@[simp] theorem State.setSdm_pos (n : Fin 48) (x : SdmFilter) : (s.setSdm n x).pos = s.pos := rfl
@[simp] theorem State.setSdm_chg (n : Fin 48) (x : SdmFilter) : (s.setSdm n x).chg = s.chg := rfl
@[simp] theorem State.setSdm_triad (n : Fin 48) (x : SdmFilter) : (s.setSdm n x).triad = s.triad := rfl
@[simp] theorem State.setSdm_patrol (n : Fin 48) (x : SdmFilter) : (s.setSdm n x).patrol = s.patrol := rfl
@[simp] theorem State.setSdm_swapping (n : Fin 48) (x : SdmFilter) : (s.setSdm n x).swapping = s.swapping := rfl
@[simp] theorem State.setSdm_edges (n : Fin 48) (x : SdmFilter) : (s.setSdm n x).edges = s.edges := rfl
@[simp] theorem State.setSdm_can (n : Fin 48) (x : SdmFilter) : (s.setSdm n x).can = s.can := rfl
@[simp] theorem State.setSdm_probe (n : Fin 48) (x : SdmFilter) : (s.setSdm n x).probe = s.probe := rfl
@[simp] theorem State.setSdm_supply (n : Fin 48) (x : SdmFilter) : (s.setSdm n x).supply = s.supply := rfl
@[simp] theorem State.setSdm_groom (n : Fin 48) (x : SdmFilter) : (s.setSdm n x).groom = s.groom := rfl
@[simp] theorem State.setSdm_time (n : Fin 48) (x : SdmFilter) : (s.setSdm n x).time = s.time := rfl
@[simp] theorem State.setSdm_svc (n : Fin 48) (x : SdmFilter) : (s.setSdm n x).svc = s.svc := rfl
@[simp] theorem State.setSdm_hka (n : Fin 48) (x : SdmFilter) : (s.setSdm n x).hka = s.hka := rfl
@[simp] theorem State.setSdm_rst (n : Fin 48) (x : SdmFilter) : (s.setSdm n x).rst = s.rst := rfl
@[simp] theorem State.setSdm_net (n : Fin 48) (x : SdmFilter) : (s.setSdm n x).net = s.net := rfl
@[simp] theorem State.setSdm_himet (n : Fin 48) (x : SdmFilter) : (s.setSdm n x).himet = s.himet := rfl

/-! ## setProf -/

@[simp] theorem State.setProf_pending (i : Fin 4) (x : Prof) : (s.setProf i x).pending = s.pending := rfl
@[simp] theorem State.setProf_regs (i : Fin 4) (x : Prof) : (s.setProf i x).regs = s.regs := rfl
@[simp] theorem State.setProf_shadowMarks (i : Fin 4) (x : Prof) : (s.setProf i x).shadowMarks = s.shadowMarks := rfl
@[simp] theorem State.setProf_liveMarks (i : Fin 4) (x : Prof) : (s.setProf i x).liveMarks = s.liveMarks := rfl
@[simp] theorem State.setProf_toClassify (i : Fin 4) (x : Prof) : (s.setProf i x).toClassify = s.toClassify := rfl
@[simp] theorem State.setProf_life (i : Fin 4) (x : Prof) : (s.setProf i x).life = s.life := rfl
@[simp] theorem State.setProf_freeCount (i : Fin 4) (x : Prof) : (s.setProf i x).freeCount = s.freeCount := rfl
@[simp] theorem State.setProf_tod (i : Fin 4) (x : Prof) : (s.setProf i x).tod = s.tod := rfl
@[simp] theorem State.setProf_host (i : Fin 4) (x : Prof) : (s.setProf i x).host = s.host := rfl
@[simp] theorem State.setProf_course (i : Fin 4) (x : Prof) : (s.setProf i x).course = s.course := rfl
@[simp] theorem State.setProf_clk (i : Fin 4) (x : Prof) : (s.setProf i x).clk = s.clk := rfl
@[simp] theorem State.setProf_piste (i : Fin 4) (x : Prof) : (s.setProf i x).piste = s.piste := rfl
@[simp] theorem State.setProf_legs (i : Fin 4) (x : Prof) : (s.setProf i x).legs = s.legs := rfl
@[simp] theorem State.setProf_tripIns (i : Fin 4) (x : Prof) : (s.setProf i x).tripIns = s.tripIns := rfl
@[simp] theorem State.setProf_trip (i : Fin 4) (x : Prof) : (s.setProf i x).trip = s.trip := rfl
@[simp] theorem State.setProf_injs (i : Fin 4) (x : Prof) : (s.setProf i x).injs = s.injs := rfl
@[simp] theorem State.setProf_slots (i : Fin 4) (x : Prof) : (s.setProf i x).slots = s.slots := rfl
@[simp] theorem State.setProf_chop (i : Fin 4) (x : Prof) : (s.setProf i x).chop = s.chop := rfl
@[simp] theorem State.setProf_hkaEvents (i : Fin 4) (x : Prof) : (s.setProf i x).hkaEvents = s.hkaEvents := rfl
@[simp] theorem State.setProf_taskPresc (i : Fin 4) (x : Prof) : (s.setProf i x).taskPresc = s.taskPresc := rfl
@[simp] theorem State.setProf_taskDelays (i : Fin 4) (x : Prof) : (s.setProf i x).taskDelays = s.taskDelays := rfl
@[simp] theorem State.setProf_carve (i : Fin 4) (x : Prof) : (s.setProf i x).carve = s.carve := rfl
@[simp] theorem State.setProf_ports (i : Fin 4) (x : Prof) : (s.setProf i x).ports = s.ports := rfl
@[simp] theorem State.setProf_slalom (i : Fin 4) (x : Prof) : (s.setProf i x).slalom = s.slalom := rfl
@[simp] theorem State.setProf_sdm (i : Fin 4) (x : Prof) : (s.setProf i x).sdm = s.sdm := rfl
@[simp] theorem State.setProf_phv (i : Fin 4) (x : Prof) : (s.setProf i x).phv = s.phv := rfl
@[simp] theorem State.setProf_dcl (i : Fin 4) (x : Prof) : (s.setProf i x).dcl = s.dcl := rfl
@[simp] theorem State.setProf_pos (i : Fin 4) (x : Prof) : (s.setProf i x).pos = s.pos := rfl
@[simp] theorem State.setProf_chg (i : Fin 4) (x : Prof) : (s.setProf i x).chg = s.chg := rfl
@[simp] theorem State.setProf_triad (i : Fin 4) (x : Prof) : (s.setProf i x).triad = s.triad := rfl
@[simp] theorem State.setProf_patrol (i : Fin 4) (x : Prof) : (s.setProf i x).patrol = s.patrol := rfl
@[simp] theorem State.setProf_swapping (i : Fin 4) (x : Prof) : (s.setProf i x).swapping = s.swapping := rfl
@[simp] theorem State.setProf_edges (i : Fin 4) (x : Prof) : (s.setProf i x).edges = s.edges := rfl
@[simp] theorem State.setProf_can (i : Fin 4) (x : Prof) : (s.setProf i x).can = s.can := rfl
@[simp] theorem State.setProf_probe (i : Fin 4) (x : Prof) : (s.setProf i x).probe = s.probe := rfl
@[simp] theorem State.setProf_supply (i : Fin 4) (x : Prof) : (s.setProf i x).supply = s.supply := rfl
@[simp] theorem State.setProf_groom (i : Fin 4) (x : Prof) : (s.setProf i x).groom = s.groom := rfl
@[simp] theorem State.setProf_time (i : Fin 4) (x : Prof) : (s.setProf i x).time = s.time := rfl
@[simp] theorem State.setProf_svc (i : Fin 4) (x : Prof) : (s.setProf i x).svc = s.svc := rfl
@[simp] theorem State.setProf_hka (i : Fin 4) (x : Prof) : (s.setProf i x).hka = s.hka := rfl
@[simp] theorem State.setProf_rst (i : Fin 4) (x : Prof) : (s.setProf i x).rst = s.rst := rfl
@[simp] theorem State.setProf_net (i : Fin 4) (x : Prof) : (s.setProf i x).net = s.net := rfl
@[simp] theorem State.setProf_himet (i : Fin 4) (x : Prof) : (s.setProf i x).himet = s.himet := rfl

/-! ## setSl -/

@[simp] theorem State.setSl_pending (i : Fin 4) (x : SlalomSt) : (s.setSl i x).pending = s.pending := rfl
@[simp] theorem State.setSl_regs (i : Fin 4) (x : SlalomSt) : (s.setSl i x).regs = s.regs := rfl
@[simp] theorem State.setSl_shadowMarks (i : Fin 4) (x : SlalomSt) : (s.setSl i x).shadowMarks = s.shadowMarks := rfl
@[simp] theorem State.setSl_liveMarks (i : Fin 4) (x : SlalomSt) : (s.setSl i x).liveMarks = s.liveMarks := rfl
@[simp] theorem State.setSl_toClassify (i : Fin 4) (x : SlalomSt) : (s.setSl i x).toClassify = s.toClassify := rfl
@[simp] theorem State.setSl_life (i : Fin 4) (x : SlalomSt) : (s.setSl i x).life = s.life := rfl
@[simp] theorem State.setSl_freeCount (i : Fin 4) (x : SlalomSt) : (s.setSl i x).freeCount = s.freeCount := rfl
@[simp] theorem State.setSl_tod (i : Fin 4) (x : SlalomSt) : (s.setSl i x).tod = s.tod := rfl
@[simp] theorem State.setSl_host (i : Fin 4) (x : SlalomSt) : (s.setSl i x).host = s.host := rfl
@[simp] theorem State.setSl_course (i : Fin 4) (x : SlalomSt) : (s.setSl i x).course = s.course := rfl
@[simp] theorem State.setSl_clk (i : Fin 4) (x : SlalomSt) : (s.setSl i x).clk = s.clk := rfl
@[simp] theorem State.setSl_piste (i : Fin 4) (x : SlalomSt) : (s.setSl i x).piste = s.piste := rfl
@[simp] theorem State.setSl_legs (i : Fin 4) (x : SlalomSt) : (s.setSl i x).legs = s.legs := rfl
@[simp] theorem State.setSl_tripIns (i : Fin 4) (x : SlalomSt) : (s.setSl i x).tripIns = s.tripIns := rfl
@[simp] theorem State.setSl_trip (i : Fin 4) (x : SlalomSt) : (s.setSl i x).trip = s.trip := rfl
@[simp] theorem State.setSl_injs (i : Fin 4) (x : SlalomSt) : (s.setSl i x).injs = s.injs := rfl
@[simp] theorem State.setSl_slots (i : Fin 4) (x : SlalomSt) : (s.setSl i x).slots = s.slots := rfl
@[simp] theorem State.setSl_chop (i : Fin 4) (x : SlalomSt) : (s.setSl i x).chop = s.chop := rfl
@[simp] theorem State.setSl_hkaEvents (i : Fin 4) (x : SlalomSt) : (s.setSl i x).hkaEvents = s.hkaEvents := rfl
@[simp] theorem State.setSl_taskPresc (i : Fin 4) (x : SlalomSt) : (s.setSl i x).taskPresc = s.taskPresc := rfl
@[simp] theorem State.setSl_taskDelays (i : Fin 4) (x : SlalomSt) : (s.setSl i x).taskDelays = s.taskDelays := rfl
@[simp] theorem State.setSl_carve (i : Fin 4) (x : SlalomSt) : (s.setSl i x).carve = s.carve := rfl
@[simp] theorem State.setSl_ports (i : Fin 4) (x : SlalomSt) : (s.setSl i x).ports = s.ports := rfl
@[simp] theorem State.setSl_prof (i : Fin 4) (x : SlalomSt) : (s.setSl i x).prof = s.prof := rfl
@[simp] theorem State.setSl_sdm (i : Fin 4) (x : SlalomSt) : (s.setSl i x).sdm = s.sdm := rfl
@[simp] theorem State.setSl_phv (i : Fin 4) (x : SlalomSt) : (s.setSl i x).phv = s.phv := rfl
@[simp] theorem State.setSl_dcl (i : Fin 4) (x : SlalomSt) : (s.setSl i x).dcl = s.dcl := rfl
@[simp] theorem State.setSl_pos (i : Fin 4) (x : SlalomSt) : (s.setSl i x).pos = s.pos := rfl
@[simp] theorem State.setSl_chg (i : Fin 4) (x : SlalomSt) : (s.setSl i x).chg = s.chg := rfl
@[simp] theorem State.setSl_triad (i : Fin 4) (x : SlalomSt) : (s.setSl i x).triad = s.triad := rfl
@[simp] theorem State.setSl_patrol (i : Fin 4) (x : SlalomSt) : (s.setSl i x).patrol = s.patrol := rfl
@[simp] theorem State.setSl_swapping (i : Fin 4) (x : SlalomSt) : (s.setSl i x).swapping = s.swapping := rfl
@[simp] theorem State.setSl_edges (i : Fin 4) (x : SlalomSt) : (s.setSl i x).edges = s.edges := rfl
@[simp] theorem State.setSl_can (i : Fin 4) (x : SlalomSt) : (s.setSl i x).can = s.can := rfl
@[simp] theorem State.setSl_probe (i : Fin 4) (x : SlalomSt) : (s.setSl i x).probe = s.probe := rfl
@[simp] theorem State.setSl_supply (i : Fin 4) (x : SlalomSt) : (s.setSl i x).supply = s.supply := rfl
@[simp] theorem State.setSl_groom (i : Fin 4) (x : SlalomSt) : (s.setSl i x).groom = s.groom := rfl
@[simp] theorem State.setSl_time (i : Fin 4) (x : SlalomSt) : (s.setSl i x).time = s.time := rfl
@[simp] theorem State.setSl_svc (i : Fin 4) (x : SlalomSt) : (s.setSl i x).svc = s.svc := rfl
@[simp] theorem State.setSl_hka (i : Fin 4) (x : SlalomSt) : (s.setSl i x).hka = s.hka := rfl
@[simp] theorem State.setSl_rst (i : Fin 4) (x : SlalomSt) : (s.setSl i x).rst = s.rst := rfl
@[simp] theorem State.setSl_net (i : Fin 4) (x : SlalomSt) : (s.setSl i x).net = s.net := rfl
@[simp] theorem State.setSl_himet (i : Fin 4) (x : SlalomSt) : (s.setSl i x).himet = s.himet := rfl

/-! ## setCan -/

@[simp] theorem State.setCan_pending (c : Fin 2) (x : CanSt) : (s.setCan c x).pending = s.pending := rfl
@[simp] theorem State.setCan_regs (c : Fin 2) (x : CanSt) : (s.setCan c x).regs = s.regs := rfl
@[simp] theorem State.setCan_shadowMarks (c : Fin 2) (x : CanSt) : (s.setCan c x).shadowMarks = s.shadowMarks := rfl
@[simp] theorem State.setCan_liveMarks (c : Fin 2) (x : CanSt) : (s.setCan c x).liveMarks = s.liveMarks := rfl
@[simp] theorem State.setCan_toClassify (c : Fin 2) (x : CanSt) : (s.setCan c x).toClassify = s.toClassify := rfl
@[simp] theorem State.setCan_life (c : Fin 2) (x : CanSt) : (s.setCan c x).life = s.life := rfl
@[simp] theorem State.setCan_freeCount (c : Fin 2) (x : CanSt) : (s.setCan c x).freeCount = s.freeCount := rfl
@[simp] theorem State.setCan_tod (c : Fin 2) (x : CanSt) : (s.setCan c x).tod = s.tod := rfl
@[simp] theorem State.setCan_host (c : Fin 2) (x : CanSt) : (s.setCan c x).host = s.host := rfl
@[simp] theorem State.setCan_course (c : Fin 2) (x : CanSt) : (s.setCan c x).course = s.course := rfl
@[simp] theorem State.setCan_clk (c : Fin 2) (x : CanSt) : (s.setCan c x).clk = s.clk := rfl
@[simp] theorem State.setCan_piste (c : Fin 2) (x : CanSt) : (s.setCan c x).piste = s.piste := rfl
@[simp] theorem State.setCan_legs (c : Fin 2) (x : CanSt) : (s.setCan c x).legs = s.legs := rfl
@[simp] theorem State.setCan_tripIns (c : Fin 2) (x : CanSt) : (s.setCan c x).tripIns = s.tripIns := rfl
@[simp] theorem State.setCan_trip (c : Fin 2) (x : CanSt) : (s.setCan c x).trip = s.trip := rfl
@[simp] theorem State.setCan_injs (c : Fin 2) (x : CanSt) : (s.setCan c x).injs = s.injs := rfl
@[simp] theorem State.setCan_slots (c : Fin 2) (x : CanSt) : (s.setCan c x).slots = s.slots := rfl
@[simp] theorem State.setCan_chop (c : Fin 2) (x : CanSt) : (s.setCan c x).chop = s.chop := rfl
@[simp] theorem State.setCan_hkaEvents (c : Fin 2) (x : CanSt) : (s.setCan c x).hkaEvents = s.hkaEvents := rfl
@[simp] theorem State.setCan_taskPresc (c : Fin 2) (x : CanSt) : (s.setCan c x).taskPresc = s.taskPresc := rfl
@[simp] theorem State.setCan_taskDelays (c : Fin 2) (x : CanSt) : (s.setCan c x).taskDelays = s.taskDelays := rfl
@[simp] theorem State.setCan_carve (c : Fin 2) (x : CanSt) : (s.setCan c x).carve = s.carve := rfl
@[simp] theorem State.setCan_ports (c : Fin 2) (x : CanSt) : (s.setCan c x).ports = s.ports := rfl
@[simp] theorem State.setCan_prof (c : Fin 2) (x : CanSt) : (s.setCan c x).prof = s.prof := rfl
@[simp] theorem State.setCan_slalom (c : Fin 2) (x : CanSt) : (s.setCan c x).slalom = s.slalom := rfl
@[simp] theorem State.setCan_sdm (c : Fin 2) (x : CanSt) : (s.setCan c x).sdm = s.sdm := rfl
@[simp] theorem State.setCan_phv (c : Fin 2) (x : CanSt) : (s.setCan c x).phv = s.phv := rfl
@[simp] theorem State.setCan_dcl (c : Fin 2) (x : CanSt) : (s.setCan c x).dcl = s.dcl := rfl
@[simp] theorem State.setCan_pos (c : Fin 2) (x : CanSt) : (s.setCan c x).pos = s.pos := rfl
@[simp] theorem State.setCan_chg (c : Fin 2) (x : CanSt) : (s.setCan c x).chg = s.chg := rfl
@[simp] theorem State.setCan_triad (c : Fin 2) (x : CanSt) : (s.setCan c x).triad = s.triad := rfl
@[simp] theorem State.setCan_patrol (c : Fin 2) (x : CanSt) : (s.setCan c x).patrol = s.patrol := rfl
@[simp] theorem State.setCan_swapping (c : Fin 2) (x : CanSt) : (s.setCan c x).swapping = s.swapping := rfl
@[simp] theorem State.setCan_edges (c : Fin 2) (x : CanSt) : (s.setCan c x).edges = s.edges := rfl
@[simp] theorem State.setCan_probe (c : Fin 2) (x : CanSt) : (s.setCan c x).probe = s.probe := rfl
@[simp] theorem State.setCan_supply (c : Fin 2) (x : CanSt) : (s.setCan c x).supply = s.supply := rfl
@[simp] theorem State.setCan_groom (c : Fin 2) (x : CanSt) : (s.setCan c x).groom = s.groom := rfl
@[simp] theorem State.setCan_time (c : Fin 2) (x : CanSt) : (s.setCan c x).time = s.time := rfl
@[simp] theorem State.setCan_svc (c : Fin 2) (x : CanSt) : (s.setCan c x).svc = s.svc := rfl
@[simp] theorem State.setCan_hka (c : Fin 2) (x : CanSt) : (s.setCan c x).hka = s.hka := rfl
@[simp] theorem State.setCan_rst (c : Fin 2) (x : CanSt) : (s.setCan c x).rst = s.rst := rfl
@[simp] theorem State.setCan_net (c : Fin 2) (x : CanSt) : (s.setCan c x).net = s.net := rfl
@[simp] theorem State.setCan_himet (c : Fin 2) (x : CanSt) : (s.setCan c x).himet = s.himet := rfl

/-! ## setPos -/

@[simp] theorem State.setPos_pending (k : Fin 4) (x : PosCh) : (s.setPos k x).pending = s.pending := rfl
@[simp] theorem State.setPos_regs (k : Fin 4) (x : PosCh) : (s.setPos k x).regs = s.regs := rfl
@[simp] theorem State.setPos_shadowMarks (k : Fin 4) (x : PosCh) : (s.setPos k x).shadowMarks = s.shadowMarks := rfl
@[simp] theorem State.setPos_liveMarks (k : Fin 4) (x : PosCh) : (s.setPos k x).liveMarks = s.liveMarks := rfl
@[simp] theorem State.setPos_toClassify (k : Fin 4) (x : PosCh) : (s.setPos k x).toClassify = s.toClassify := rfl
@[simp] theorem State.setPos_life (k : Fin 4) (x : PosCh) : (s.setPos k x).life = s.life := rfl
@[simp] theorem State.setPos_freeCount (k : Fin 4) (x : PosCh) : (s.setPos k x).freeCount = s.freeCount := rfl
@[simp] theorem State.setPos_tod (k : Fin 4) (x : PosCh) : (s.setPos k x).tod = s.tod := rfl
@[simp] theorem State.setPos_host (k : Fin 4) (x : PosCh) : (s.setPos k x).host = s.host := rfl
@[simp] theorem State.setPos_course (k : Fin 4) (x : PosCh) : (s.setPos k x).course = s.course := rfl
@[simp] theorem State.setPos_clk (k : Fin 4) (x : PosCh) : (s.setPos k x).clk = s.clk := rfl
@[simp] theorem State.setPos_piste (k : Fin 4) (x : PosCh) : (s.setPos k x).piste = s.piste := rfl
@[simp] theorem State.setPos_legs (k : Fin 4) (x : PosCh) : (s.setPos k x).legs = s.legs := rfl
@[simp] theorem State.setPos_tripIns (k : Fin 4) (x : PosCh) : (s.setPos k x).tripIns = s.tripIns := rfl
@[simp] theorem State.setPos_trip (k : Fin 4) (x : PosCh) : (s.setPos k x).trip = s.trip := rfl
@[simp] theorem State.setPos_injs (k : Fin 4) (x : PosCh) : (s.setPos k x).injs = s.injs := rfl
@[simp] theorem State.setPos_slots (k : Fin 4) (x : PosCh) : (s.setPos k x).slots = s.slots := rfl
@[simp] theorem State.setPos_chop (k : Fin 4) (x : PosCh) : (s.setPos k x).chop = s.chop := rfl
@[simp] theorem State.setPos_hkaEvents (k : Fin 4) (x : PosCh) : (s.setPos k x).hkaEvents = s.hkaEvents := rfl
@[simp] theorem State.setPos_taskPresc (k : Fin 4) (x : PosCh) : (s.setPos k x).taskPresc = s.taskPresc := rfl
@[simp] theorem State.setPos_taskDelays (k : Fin 4) (x : PosCh) : (s.setPos k x).taskDelays = s.taskDelays := rfl
@[simp] theorem State.setPos_carve (k : Fin 4) (x : PosCh) : (s.setPos k x).carve = s.carve := rfl
@[simp] theorem State.setPos_ports (k : Fin 4) (x : PosCh) : (s.setPos k x).ports = s.ports := rfl
@[simp] theorem State.setPos_prof (k : Fin 4) (x : PosCh) : (s.setPos k x).prof = s.prof := rfl
@[simp] theorem State.setPos_slalom (k : Fin 4) (x : PosCh) : (s.setPos k x).slalom = s.slalom := rfl
@[simp] theorem State.setPos_sdm (k : Fin 4) (x : PosCh) : (s.setPos k x).sdm = s.sdm := rfl
@[simp] theorem State.setPos_phv (k : Fin 4) (x : PosCh) : (s.setPos k x).phv = s.phv := rfl
@[simp] theorem State.setPos_dcl (k : Fin 4) (x : PosCh) : (s.setPos k x).dcl = s.dcl := rfl
@[simp] theorem State.setPos_chg (k : Fin 4) (x : PosCh) : (s.setPos k x).chg = s.chg := rfl
@[simp] theorem State.setPos_triad (k : Fin 4) (x : PosCh) : (s.setPos k x).triad = s.triad := rfl
@[simp] theorem State.setPos_patrol (k : Fin 4) (x : PosCh) : (s.setPos k x).patrol = s.patrol := rfl
@[simp] theorem State.setPos_swapping (k : Fin 4) (x : PosCh) : (s.setPos k x).swapping = s.swapping := rfl
@[simp] theorem State.setPos_edges (k : Fin 4) (x : PosCh) : (s.setPos k x).edges = s.edges := rfl
@[simp] theorem State.setPos_can (k : Fin 4) (x : PosCh) : (s.setPos k x).can = s.can := rfl
@[simp] theorem State.setPos_probe (k : Fin 4) (x : PosCh) : (s.setPos k x).probe = s.probe := rfl
@[simp] theorem State.setPos_supply (k : Fin 4) (x : PosCh) : (s.setPos k x).supply = s.supply := rfl
@[simp] theorem State.setPos_groom (k : Fin 4) (x : PosCh) : (s.setPos k x).groom = s.groom := rfl
@[simp] theorem State.setPos_time (k : Fin 4) (x : PosCh) : (s.setPos k x).time = s.time := rfl
@[simp] theorem State.setPos_svc (k : Fin 4) (x : PosCh) : (s.setPos k x).svc = s.svc := rfl
@[simp] theorem State.setPos_hka (k : Fin 4) (x : PosCh) : (s.setPos k x).hka = s.hka := rfl
@[simp] theorem State.setPos_rst (k : Fin 4) (x : PosCh) : (s.setPos k x).rst = s.rst := rfl
@[simp] theorem State.setPos_net (k : Fin 4) (x : PosCh) : (s.setPos k x).net = s.net := rfl
@[simp] theorem State.setPos_himet (k : Fin 4) (x : PosCh) : (s.setPos k x).himet = s.himet := rfl


end Sys2Proof.Machine
end

