-- ==== Sys2Proof/Laws/Regs.lean ====
section
/-! SUPPORT. Laws of the register operations: what a store of a register or of a field leaves to be read. -/

namespace Sys2Proof.Machine

variable (s : State)

/-- A register reads what was stored. -/
@[simp] theorem State.rd_wr_same (a : Nat) (x : Word) : (s.wr a x).rd a = x := cellGet_set_same resetOf s.regs a x

/-- A store leaves every other register as it was. -/
theorem State.rd_wr_other (a b : Nat) (x : Word) (h : b ≠ a) : (s.wr a x).rd b = s.rd b :=
  cellGet_set_other resetOf s.regs a b x h

/-- A register's value depends on the registers alone. -/
theorem State.rd_congr {s t : State} (h : t.regs = s.regs) (a : Nat) : t.rd a = s.rd a := by
  simp [State.rd, h]

/-- A field's value depends on the registers alone. -/
theorem State.get_congr {s t : State} (h : t.regs = s.regs) (f : Fld) : t.get f = s.get f := by
  simp [State.get, State.rd_congr h]

theorem fieldMask_bit (l n i : Nat) (h : i < 32) : (fieldMask l n).getLsbD i = decide (l ≤ i ∧ i < l + n) := by
  simp only [fieldMask, BitVec.getLsbD_shiftLeft, h, decide_true, Bool.true_and, BitVec.getLsbD_ofNat]
  by_cases hl : l ≤ i
  · have : i - l < 32 := by omega
    simp only [show ¬ i < l by omega, decide_false, Bool.not_false, Bool.true_and, this, decide_true, Nat.testBit_two_pow_sub_one]
    exact decide_eq_decide.2 (by omega)
  · simp [hl, show i < l by omega]

theorem setBits_bit (w : Word) (l n v i : Nat) (h : i < 32) :
    (setBits w l n v).getLsbD i = if l ≤ i ∧ i < l + n then v.testBit (i - l) else w.getLsbD i := by
  simp only [setBits, BitVec.getLsbD_or, BitVec.getLsbD_and, BitVec.getLsbD_not, fieldMask_bit l n i h, h, decide_true,
    Bool.true_and, BitVec.getLsbD_shiftLeft, BitVec.getLsbD_ofNat]
  by_cases hc : l ≤ i ∧ i < l + n
  · have h1 : ¬ i < l := by omega
    have h2 : i - l < 32 := by omega
    simp [hc, h1, h2]
  · simp [hc]

theorem getBits_testBit (w : Word) (l n i : Nat) : (getBits w l n).testBit i = (decide (i < n) && w.getLsbD (l + i)) := by
  simp only [getBits, Nat.testBit_mod_two_pow, Nat.testBit_div_two_pow, BitVec.getLsbD, Nat.add_comm]

/-- A field reads what was stored into it, modulo its width. -/
theorem getBits_setBits_same (w : Word) (l n v : Nat) (h : l + n ≤ 32) : getBits (setBits w l n v) l n = v % 2 ^ n := by
  apply Nat.eq_of_testBit_eq
  intro i
  rw [getBits_testBit, Nat.testBit_mod_two_pow]
  by_cases hi : i < n
  · rw [setBits_bit _ _ _ _ _ (by omega)]; simp [hi]
  · simp [hi]

/-- A field reads as before when another field is stored. -/
theorem getBits_setBits_other (w : Word) (l n v l' n' : Nat) (h : l' + n' ≤ l ∨ l + n ≤ l') (h' : l' + n' ≤ 32) :
    getBits (setBits w l n v) l' n' = getBits w l' n' := by
  apply Nat.eq_of_testBit_eq
  intro i
  rw [getBits_testBit, getBits_testBit]
  by_cases hi : i < n'
  · rw [setBits_bit _ _ _ _ _ (by omega), if_neg (by omega)]
  · simp [hi]

/-- A field reads what was put. -/
theorem State.get_put_same (f : Fld) (v : Nat) (h : f.lsb + f.width ≤ 32) : (s.put f v).get f = v % 2 ^ f.width := by
  simp [State.get, State.put, getBits_setBits_same _ _ _ _ h]

/-- A put leaves a field of another register as it was. -/
theorem State.get_put_addr (f g : Fld) (v : Nat) (h : g.addr ≠ f.addr) : (s.put f v).get g = s.get g := by
  simp [State.get, State.put, State.rd_wr_other _ _ _ _ h]

/-- A put leaves another field of the same register as it was. -/
theorem State.get_put_bits (f g : Fld) (v : Nat) (h : g.lsb + g.width ≤ f.lsb ∨ f.lsb + f.width ≤ g.lsb)
    (h' : g.lsb + g.width ≤ 32) : (s.put f v).get g = s.get g := by
  by_cases ha : g.addr = f.addr
  · simp [State.get, State.put, ha, getBits_setBits_other _ _ _ _ _ _ h h']
  · exact State.get_put_addr s f g v ha

/-- A put leaves every field that shares no bit with it. -/
theorem State.get_put_ne (f g : Fld) (v : Nat)
    (h : g.addr ≠ f.addr ∨ ((g.lsb + g.width ≤ f.lsb ∨ f.lsb + f.width ≤ g.lsb) ∧ g.lsb + g.width ≤ 32)) :
    (s.put f v).get g = s.get g := by
  rcases h with h | ⟨h, h'⟩
  · exact State.get_put_addr s f g v h
  · exact State.get_put_bits s f g v h h'

/-- A field that counts up leaves every field that shares no bit with it. -/
theorem State.get_bump_ne (f g : Fld)
    (h : g.addr ≠ f.addr ∨ ((g.lsb + g.width ≤ f.lsb ∨ f.lsb + f.width ≤ g.lsb) ∧ g.lsb + g.width ≤ 32)) :
    (s.bump f).get g = s.get g := State.get_put_ne s f g _ h

/-- A register store leaves the fields of other registers. -/
theorem State.get_wr_ne (a : Nat) (x : Word) (g : Fld) (h : g.addr ≠ a) : (s.wr a x).get g = s.get g := by
  simp [State.get, State.rd_wr_other _ _ _ _ h]

/-- A field of a register that was stored. -/
theorem State.get_wr_same (x : Word) (g : Fld) : (s.wr g.addr x).get g = getBits x g.lsb g.width := by
  simp [State.get]

/-- A status code leaves the fields of other registers. -/
theorem State.get_status_ne (a c : Nat) (g : Fld) (h : g.addr ≠ a) : (s.status a c).get g = s.get g :=
  State.get_put_ne s _ g c (.inl h)

/-- A put leaves every other register as it was. -/
theorem State.rd_put_other (f : Fld) (v b : Nat) (h : b ≠ f.addr) : (s.put f v).rd b = s.rd b :=
  State.rd_wr_other s _ _ _ h

/-- A status register reads the code that was stored. -/
theorem State.get_status (a c : Nat) : (s.status a c).get ⟨a, 0, 8⟩ = c % 256 :=
  State.get_put_same s ⟨a, 0, 8⟩ c (Nat.le_of_lt (by show 0 + 8 < 32; omega))

/-- A store keeps the canonical form of the registers. -/
theorem State.wr_wf (a : Nat) (x : Word) (h : cellWf resetOf s.regs = true) : cellWf resetOf (s.wr a x).regs = true :=
  cellWf_set resetOf s.regs a x h

/-- A put keeps the canonical form of the registers. -/
theorem State.put_wf (f : Fld) (v : Nat) (h : cellWf resetOf s.regs = true) : cellWf resetOf (s.put f v).regs = true :=
  State.wr_wf s _ _ h

end Sys2Proof.Machine
end

