-- ==== Sys2Proof/Laws/Ops.lean ====
section
/-! SUPPORT. Everything that the shared operations on causes, requests, refusals and injections can do: which fields of the state each
leaves as it was, and what it does to registers, cause bits and requests. -/

namespace Sys2Proof.Machine

variable (s : State)

/-- What the operations on causes never touch. -/
structure SameButCauses (s t : State) : Prop where
  pending : t.pending = s.pending
  life : t.life = s.life
  freeCount : t.freeCount = s.freeCount
  tod : t.tod = s.tod
  course : t.course = s.course
  clk : t.clk = s.clk
  piste : t.piste = s.piste
  legs : t.legs = s.legs
  tripIns : t.tripIns = s.tripIns
  injs : t.injs = s.injs
  slots : t.slots = s.slots
  chop : t.chop = s.chop
  hkaEvents : t.hkaEvents = s.hkaEvents
  taskPresc : t.taskPresc = s.taskPresc
  taskDelays : t.taskDelays = s.taskDelays
  carve : t.carve = s.carve
  ports : t.ports = s.ports
  prof : t.prof = s.prof
  slalom : t.slalom = s.slalom
  sdm : t.sdm = s.sdm
  phv : t.phv = s.phv
  dcl : t.dcl = s.dcl
  pos : t.pos = s.pos
  chg : t.chg = s.chg
  triad : t.triad = s.triad
  patrol : t.patrol = s.patrol
  swapping : t.swapping = s.swapping
  edges : t.edges = s.edges
  can : t.can = s.can
  probe : t.probe = s.probe
  supply : t.supply = s.supply
  groom : t.groom = s.groom
  time : t.time = s.time
  svc : t.svc = s.svc
  hka : t.hka = s.hka
  rst : t.rst = s.rst
  net : t.net = s.net
  himet : t.himet = s.himet

@[simp] theorem State.irqEdge_regs (s0 s : State) (g : Nat) : (State.irqEdge s0 s g).regs = s.regs := by
  unfold State.irqEdge; split <;> rfl
@[simp] theorem State.irqEdge_shadowMarks (s0 s : State) (g : Nat) : (State.irqEdge s0 s g).shadowMarks = s.shadowMarks := by
  unfold State.irqEdge; split <;> rfl
@[simp] theorem State.irqEdge_liveMarks (s0 s : State) (g : Nat) : (State.irqEdge s0 s g).liveMarks = s.liveMarks := by
  unfold State.irqEdge; split <;> rfl
@[simp] theorem State.irqEdge_toClassify (s0 s : State) (g : Nat) : (State.irqEdge s0 s g).toClassify = s.toClassify := by
  unfold State.irqEdge; split <;> rfl
@[simp] theorem State.irqEdge_trip (s0 s : State) (g : Nat) : (State.irqEdge s0 s g).trip = s.trip := by
  unfold State.irqEdge; split <;> rfl

theorem SameButCauses.refl : SameButCauses s s := by constructor <;> rfl

theorem SameButCauses.trans {s t u : State} (h : SameButCauses s t) (h' : SameButCauses t u) : SameButCauses s u := by
  cases h; cases h'; constructor <;> (first | simp_all)

theorem State.irqEdge_same (s0 s : State) (g : Nat) : SameButCauses s (State.irqEdge s0 s g) := by
  unfold State.irqEdge; split <;> constructor <;> rfl

/-- Setting a cause stores the cause bit, whatever the mark. -/
theorem State.setCauseM_regs (c : Cause) (m : Mark) :
    (s.setCauseM c m).regs = (s.put ⟨Reg.INT.GRP.CAUSE.addr c.grp, c.bit, 1⟩ 1).regs := by
  unfold State.setCauseM
  cases m <;> simp only [State.irqEdge_regs] <;> (try split) <;> rfl

theorem State.setCauseM_same (c : Cause) (m : Mark) : SameButCauses s (s.setCauseM c m) := by
  have key : ∀ s2 : State, SameButCauses s s2 → SameButCauses s
      { State.irqEdge s s2 c.grp with toClassify := s2.toClassify ++ [⟨c.grp, c.bit, m⟩] } := by
    intro s2 h
    have h' := h.trans (State.irqEdge_same s s2 c.grp)
    cases h'; constructor <;> assumption
  refine key _ ?_
  cases m <;> simp only <;> (try split) <;> constructor <;> rfl

/-- Setting a cause hands the setting to Patrol. -/
@[simp] theorem State.setCauseM_toClassify (c : Cause) (m : Mark) :
    (s.setCauseM c m).toClassify = s.toClassify ++ [⟨c.grp, c.bit, m⟩] := by
  unfold State.setCauseM
  cases m <;> simp only <;> (try split) <;> rfl

@[simp] theorem State.setCauseM_trip (c : Cause) (m : Mark) : (s.setCauseM c m).trip = s.trip := by
  unfold State.setCauseM
  cases m <;> simp only [State.irqEdge_trip] <;> (try split) <;> rfl

theorem State.pulseTrip_same (c : Cause) : SameButCauses s (s.pulseTrip c) := by
  unfold State.pulseTrip; split <;> (try split) <;> constructor <;> rfl

@[simp] theorem State.pulseTrip_regs (c : Cause) : (s.pulseTrip c).regs = s.regs := by
  unfold State.pulseTrip; split <;> (try split) <;> rfl
@[simp] theorem State.pulseTrip_shadowMarks (c : Cause) : (s.pulseTrip c).shadowMarks = s.shadowMarks := by
  unfold State.pulseTrip; split <;> (try split) <;> rfl
@[simp] theorem State.pulseTrip_liveMarks (c : Cause) : (s.pulseTrip c).liveMarks = s.liveMarks := by
  unfold State.pulseTrip; split <;> (try split) <;> rfl
@[simp] theorem State.pulseTrip_toClassify (c : Cause) : (s.pulseTrip c).toClassify = s.toClassify := by
  unfold State.pulseTrip; split <;> (try split) <;> rfl
@[simp] theorem State.pulseTrip_host (c : Cause) : (s.pulseTrip c).host = s.host := by
  unfold State.pulseTrip; split <;> (try split) <;> rfl

/-- Without a fault-group entry with a trip group a cause presents no request. -/
theorem State.pulseTrip_none (c : Cause) (h : s.faultRec c = none) : s.pulseTrip c = s := by
  unfold State.pulseTrip; rw [h]

theorem State.raise_same (c : Cause) : SameButCauses s (s.raise c) :=
  (s.setCauseM_same c .real).trans (State.pulseTrip_same _ c)

@[simp] theorem State.raise_toClassify (c : Cause) : (s.raise c).toClassify = s.toClassify ++ [⟨c.grp, c.bit, .real⟩] := by
  simp [State.raise, State.setCause]

theorem State.raise_regs (c : Cause) : (s.raise c).regs = (s.put ⟨Reg.INT.GRP.CAUSE.addr c.grp, c.bit, 1⟩ 1).regs := by
  simp [State.raise, State.setCause, State.setCauseM_regs]

theorem State.raiseM_same (c : Cause) (m : Mark) : SameButCauses s (s.raiseM c m) := by
  cases m
  · exact s.raise_same c
  · exact s.setCauseM_same c .shadow
  · exact (s.setCauseM_same c .live).trans (State.pulseTrip_same _ c)

theorem State.raiseM_regs (c : Cause) (m : Mark) :
    (s.raiseM c m).regs = (s.put ⟨Reg.INT.GRP.CAUSE.addr c.grp, c.bit, 1⟩ 1).regs := by
  cases m
  · exact s.raise_regs c
  · exact s.setCauseM_regs c .shadow
  · simp [State.raiseM, State.setCauseM_regs]

theorem State.setIf_same (b : Bool) (c : Cause) : SameButCauses s (s.setIf b c) := by
  unfold State.setIf; split
  · exact s.raise_same c
  · exact .refl s

theorem State.deny_same (a : Nat) (c : Cause) : SameButCauses s (s.deny a c) :=
  SameButCauses.trans (by constructor <;> rfl) (State.raise_same (s.status a codeDenied) c)

/-! ## Fields that the operations leave -/

@[simp] theorem State.setCauseM_pending (c : Cause) (m : Mark) : (s.setCauseM c m).pending = s.pending := (s.setCauseM_same c m).pending
@[simp] theorem State.setCauseM_life (c : Cause) (m : Mark) : (s.setCauseM c m).life = s.life := (s.setCauseM_same c m).life
@[simp] theorem State.setCauseM_freeCount (c : Cause) (m : Mark) : (s.setCauseM c m).freeCount = s.freeCount := (s.setCauseM_same c m).freeCount
@[simp] theorem State.setCauseM_tod (c : Cause) (m : Mark) : (s.setCauseM c m).tod = s.tod := (s.setCauseM_same c m).tod
@[simp] theorem State.setCauseM_course (c : Cause) (m : Mark) : (s.setCauseM c m).course = s.course := (s.setCauseM_same c m).course
@[simp] theorem State.setCauseM_clk (c : Cause) (m : Mark) : (s.setCauseM c m).clk = s.clk := (s.setCauseM_same c m).clk
@[simp] theorem State.setCauseM_piste (c : Cause) (m : Mark) : (s.setCauseM c m).piste = s.piste := (s.setCauseM_same c m).piste
@[simp] theorem State.setCauseM_legs (c : Cause) (m : Mark) : (s.setCauseM c m).legs = s.legs := (s.setCauseM_same c m).legs
@[simp] theorem State.setCauseM_tripIns (c : Cause) (m : Mark) : (s.setCauseM c m).tripIns = s.tripIns := (s.setCauseM_same c m).tripIns
@[simp] theorem State.setCauseM_injs (c : Cause) (m : Mark) : (s.setCauseM c m).injs = s.injs := (s.setCauseM_same c m).injs
@[simp] theorem State.setCauseM_slots (c : Cause) (m : Mark) : (s.setCauseM c m).slots = s.slots := (s.setCauseM_same c m).slots
@[simp] theorem State.setCauseM_chop (c : Cause) (m : Mark) : (s.setCauseM c m).chop = s.chop := (s.setCauseM_same c m).chop
@[simp] theorem State.setCauseM_hkaEvents (c : Cause) (m : Mark) : (s.setCauseM c m).hkaEvents = s.hkaEvents := (s.setCauseM_same c m).hkaEvents
@[simp] theorem State.setCauseM_taskPresc (c : Cause) (m : Mark) : (s.setCauseM c m).taskPresc = s.taskPresc := (s.setCauseM_same c m).taskPresc
@[simp] theorem State.setCauseM_taskDelays (c : Cause) (m : Mark) : (s.setCauseM c m).taskDelays = s.taskDelays := (s.setCauseM_same c m).taskDelays
@[simp] theorem State.setCauseM_carve (c : Cause) (m : Mark) : (s.setCauseM c m).carve = s.carve := (s.setCauseM_same c m).carve
@[simp] theorem State.setCauseM_ports (c : Cause) (m : Mark) : (s.setCauseM c m).ports = s.ports := (s.setCauseM_same c m).ports
@[simp] theorem State.setCauseM_prof (c : Cause) (m : Mark) : (s.setCauseM c m).prof = s.prof := (s.setCauseM_same c m).prof
@[simp] theorem State.setCauseM_slalom (c : Cause) (m : Mark) : (s.setCauseM c m).slalom = s.slalom := (s.setCauseM_same c m).slalom
@[simp] theorem State.setCauseM_sdm (c : Cause) (m : Mark) : (s.setCauseM c m).sdm = s.sdm := (s.setCauseM_same c m).sdm
@[simp] theorem State.setCauseM_phv (c : Cause) (m : Mark) : (s.setCauseM c m).phv = s.phv := (s.setCauseM_same c m).phv
@[simp] theorem State.setCauseM_dcl (c : Cause) (m : Mark) : (s.setCauseM c m).dcl = s.dcl := (s.setCauseM_same c m).dcl
@[simp] theorem State.setCauseM_pos (c : Cause) (m : Mark) : (s.setCauseM c m).pos = s.pos := (s.setCauseM_same c m).pos
@[simp] theorem State.setCauseM_chg (c : Cause) (m : Mark) : (s.setCauseM c m).chg = s.chg := (s.setCauseM_same c m).chg
@[simp] theorem State.setCauseM_triad (c : Cause) (m : Mark) : (s.setCauseM c m).triad = s.triad := (s.setCauseM_same c m).triad
@[simp] theorem State.setCauseM_patrol (c : Cause) (m : Mark) : (s.setCauseM c m).patrol = s.patrol := (s.setCauseM_same c m).patrol
@[simp] theorem State.setCauseM_swapping (c : Cause) (m : Mark) : (s.setCauseM c m).swapping = s.swapping := (s.setCauseM_same c m).swapping
@[simp] theorem State.setCauseM_edges (c : Cause) (m : Mark) : (s.setCauseM c m).edges = s.edges := (s.setCauseM_same c m).edges
@[simp] theorem State.setCauseM_can (c : Cause) (m : Mark) : (s.setCauseM c m).can = s.can := (s.setCauseM_same c m).can
@[simp] theorem State.setCauseM_probe (c : Cause) (m : Mark) : (s.setCauseM c m).probe = s.probe := (s.setCauseM_same c m).probe
@[simp] theorem State.setCauseM_supply (c : Cause) (m : Mark) : (s.setCauseM c m).supply = s.supply := (s.setCauseM_same c m).supply
@[simp] theorem State.setCauseM_groom (c : Cause) (m : Mark) : (s.setCauseM c m).groom = s.groom := (s.setCauseM_same c m).groom
@[simp] theorem State.setCauseM_time (c : Cause) (m : Mark) : (s.setCauseM c m).time = s.time := (s.setCauseM_same c m).time
@[simp] theorem State.setCauseM_svc (c : Cause) (m : Mark) : (s.setCauseM c m).svc = s.svc := (s.setCauseM_same c m).svc
@[simp] theorem State.setCauseM_hka (c : Cause) (m : Mark) : (s.setCauseM c m).hka = s.hka := (s.setCauseM_same c m).hka
@[simp] theorem State.setCauseM_rst (c : Cause) (m : Mark) : (s.setCauseM c m).rst = s.rst := (s.setCauseM_same c m).rst
@[simp] theorem State.setCauseM_net (c : Cause) (m : Mark) : (s.setCauseM c m).net = s.net := (s.setCauseM_same c m).net
@[simp] theorem State.setCauseM_himet (c : Cause) (m : Mark) : (s.setCauseM c m).himet = s.himet := (s.setCauseM_same c m).himet

@[simp] theorem State.raise_pending (c : Cause) : (s.raise c).pending = s.pending := (s.raise_same c).pending
@[simp] theorem State.raise_life (c : Cause) : (s.raise c).life = s.life := (s.raise_same c).life
@[simp] theorem State.raise_freeCount (c : Cause) : (s.raise c).freeCount = s.freeCount := (s.raise_same c).freeCount
@[simp] theorem State.raise_tod (c : Cause) : (s.raise c).tod = s.tod := (s.raise_same c).tod
@[simp] theorem State.raise_course (c : Cause) : (s.raise c).course = s.course := (s.raise_same c).course
@[simp] theorem State.raise_clk (c : Cause) : (s.raise c).clk = s.clk := (s.raise_same c).clk
@[simp] theorem State.raise_piste (c : Cause) : (s.raise c).piste = s.piste := (s.raise_same c).piste
@[simp] theorem State.raise_legs (c : Cause) : (s.raise c).legs = s.legs := (s.raise_same c).legs
@[simp] theorem State.raise_tripIns (c : Cause) : (s.raise c).tripIns = s.tripIns := (s.raise_same c).tripIns
@[simp] theorem State.raise_injs (c : Cause) : (s.raise c).injs = s.injs := (s.raise_same c).injs
@[simp] theorem State.raise_slots (c : Cause) : (s.raise c).slots = s.slots := (s.raise_same c).slots
@[simp] theorem State.raise_chop (c : Cause) : (s.raise c).chop = s.chop := (s.raise_same c).chop
@[simp] theorem State.raise_hkaEvents (c : Cause) : (s.raise c).hkaEvents = s.hkaEvents := (s.raise_same c).hkaEvents
@[simp] theorem State.raise_taskPresc (c : Cause) : (s.raise c).taskPresc = s.taskPresc := (s.raise_same c).taskPresc
@[simp] theorem State.raise_taskDelays (c : Cause) : (s.raise c).taskDelays = s.taskDelays := (s.raise_same c).taskDelays
@[simp] theorem State.raise_carve (c : Cause) : (s.raise c).carve = s.carve := (s.raise_same c).carve
@[simp] theorem State.raise_ports (c : Cause) : (s.raise c).ports = s.ports := (s.raise_same c).ports
@[simp] theorem State.raise_prof (c : Cause) : (s.raise c).prof = s.prof := (s.raise_same c).prof
@[simp] theorem State.raise_slalom (c : Cause) : (s.raise c).slalom = s.slalom := (s.raise_same c).slalom
@[simp] theorem State.raise_sdm (c : Cause) : (s.raise c).sdm = s.sdm := (s.raise_same c).sdm
@[simp] theorem State.raise_phv (c : Cause) : (s.raise c).phv = s.phv := (s.raise_same c).phv
@[simp] theorem State.raise_dcl (c : Cause) : (s.raise c).dcl = s.dcl := (s.raise_same c).dcl
@[simp] theorem State.raise_pos (c : Cause) : (s.raise c).pos = s.pos := (s.raise_same c).pos
@[simp] theorem State.raise_chg (c : Cause) : (s.raise c).chg = s.chg := (s.raise_same c).chg
@[simp] theorem State.raise_triad (c : Cause) : (s.raise c).triad = s.triad := (s.raise_same c).triad
@[simp] theorem State.raise_patrol (c : Cause) : (s.raise c).patrol = s.patrol := (s.raise_same c).patrol
@[simp] theorem State.raise_swapping (c : Cause) : (s.raise c).swapping = s.swapping := (s.raise_same c).swapping
@[simp] theorem State.raise_edges (c : Cause) : (s.raise c).edges = s.edges := (s.raise_same c).edges
@[simp] theorem State.raise_can (c : Cause) : (s.raise c).can = s.can := (s.raise_same c).can
@[simp] theorem State.raise_probe (c : Cause) : (s.raise c).probe = s.probe := (s.raise_same c).probe
@[simp] theorem State.raise_supply (c : Cause) : (s.raise c).supply = s.supply := (s.raise_same c).supply
@[simp] theorem State.raise_groom (c : Cause) : (s.raise c).groom = s.groom := (s.raise_same c).groom
@[simp] theorem State.raise_time (c : Cause) : (s.raise c).time = s.time := (s.raise_same c).time
@[simp] theorem State.raise_svc (c : Cause) : (s.raise c).svc = s.svc := (s.raise_same c).svc
@[simp] theorem State.raise_hka (c : Cause) : (s.raise c).hka = s.hka := (s.raise_same c).hka
@[simp] theorem State.raise_rst (c : Cause) : (s.raise c).rst = s.rst := (s.raise_same c).rst
@[simp] theorem State.raise_net (c : Cause) : (s.raise c).net = s.net := (s.raise_same c).net
@[simp] theorem State.raise_himet (c : Cause) : (s.raise c).himet = s.himet := (s.raise_same c).himet

@[simp] theorem State.raiseM_pending (c : Cause) (m : Mark) : (s.raiseM c m).pending = s.pending := (s.raiseM_same c m).pending
@[simp] theorem State.raiseM_life (c : Cause) (m : Mark) : (s.raiseM c m).life = s.life := (s.raiseM_same c m).life
@[simp] theorem State.raiseM_freeCount (c : Cause) (m : Mark) : (s.raiseM c m).freeCount = s.freeCount := (s.raiseM_same c m).freeCount
@[simp] theorem State.raiseM_tod (c : Cause) (m : Mark) : (s.raiseM c m).tod = s.tod := (s.raiseM_same c m).tod
@[simp] theorem State.raiseM_course (c : Cause) (m : Mark) : (s.raiseM c m).course = s.course := (s.raiseM_same c m).course
@[simp] theorem State.raiseM_clk (c : Cause) (m : Mark) : (s.raiseM c m).clk = s.clk := (s.raiseM_same c m).clk
@[simp] theorem State.raiseM_piste (c : Cause) (m : Mark) : (s.raiseM c m).piste = s.piste := (s.raiseM_same c m).piste
@[simp] theorem State.raiseM_legs (c : Cause) (m : Mark) : (s.raiseM c m).legs = s.legs := (s.raiseM_same c m).legs
@[simp] theorem State.raiseM_tripIns (c : Cause) (m : Mark) : (s.raiseM c m).tripIns = s.tripIns := (s.raiseM_same c m).tripIns
@[simp] theorem State.raiseM_injs (c : Cause) (m : Mark) : (s.raiseM c m).injs = s.injs := (s.raiseM_same c m).injs
@[simp] theorem State.raiseM_slots (c : Cause) (m : Mark) : (s.raiseM c m).slots = s.slots := (s.raiseM_same c m).slots
@[simp] theorem State.raiseM_chop (c : Cause) (m : Mark) : (s.raiseM c m).chop = s.chop := (s.raiseM_same c m).chop
@[simp] theorem State.raiseM_hkaEvents (c : Cause) (m : Mark) : (s.raiseM c m).hkaEvents = s.hkaEvents := (s.raiseM_same c m).hkaEvents
@[simp] theorem State.raiseM_taskPresc (c : Cause) (m : Mark) : (s.raiseM c m).taskPresc = s.taskPresc := (s.raiseM_same c m).taskPresc
@[simp] theorem State.raiseM_taskDelays (c : Cause) (m : Mark) : (s.raiseM c m).taskDelays = s.taskDelays := (s.raiseM_same c m).taskDelays
@[simp] theorem State.raiseM_carve (c : Cause) (m : Mark) : (s.raiseM c m).carve = s.carve := (s.raiseM_same c m).carve
@[simp] theorem State.raiseM_ports (c : Cause) (m : Mark) : (s.raiseM c m).ports = s.ports := (s.raiseM_same c m).ports
@[simp] theorem State.raiseM_prof (c : Cause) (m : Mark) : (s.raiseM c m).prof = s.prof := (s.raiseM_same c m).prof
@[simp] theorem State.raiseM_slalom (c : Cause) (m : Mark) : (s.raiseM c m).slalom = s.slalom := (s.raiseM_same c m).slalom
@[simp] theorem State.raiseM_sdm (c : Cause) (m : Mark) : (s.raiseM c m).sdm = s.sdm := (s.raiseM_same c m).sdm
@[simp] theorem State.raiseM_phv (c : Cause) (m : Mark) : (s.raiseM c m).phv = s.phv := (s.raiseM_same c m).phv
@[simp] theorem State.raiseM_dcl (c : Cause) (m : Mark) : (s.raiseM c m).dcl = s.dcl := (s.raiseM_same c m).dcl
@[simp] theorem State.raiseM_pos (c : Cause) (m : Mark) : (s.raiseM c m).pos = s.pos := (s.raiseM_same c m).pos
@[simp] theorem State.raiseM_chg (c : Cause) (m : Mark) : (s.raiseM c m).chg = s.chg := (s.raiseM_same c m).chg
@[simp] theorem State.raiseM_triad (c : Cause) (m : Mark) : (s.raiseM c m).triad = s.triad := (s.raiseM_same c m).triad
@[simp] theorem State.raiseM_patrol (c : Cause) (m : Mark) : (s.raiseM c m).patrol = s.patrol := (s.raiseM_same c m).patrol
@[simp] theorem State.raiseM_swapping (c : Cause) (m : Mark) : (s.raiseM c m).swapping = s.swapping := (s.raiseM_same c m).swapping
@[simp] theorem State.raiseM_edges (c : Cause) (m : Mark) : (s.raiseM c m).edges = s.edges := (s.raiseM_same c m).edges
@[simp] theorem State.raiseM_can (c : Cause) (m : Mark) : (s.raiseM c m).can = s.can := (s.raiseM_same c m).can
@[simp] theorem State.raiseM_probe (c : Cause) (m : Mark) : (s.raiseM c m).probe = s.probe := (s.raiseM_same c m).probe
@[simp] theorem State.raiseM_supply (c : Cause) (m : Mark) : (s.raiseM c m).supply = s.supply := (s.raiseM_same c m).supply
@[simp] theorem State.raiseM_groom (c : Cause) (m : Mark) : (s.raiseM c m).groom = s.groom := (s.raiseM_same c m).groom
@[simp] theorem State.raiseM_time (c : Cause) (m : Mark) : (s.raiseM c m).time = s.time := (s.raiseM_same c m).time
@[simp] theorem State.raiseM_svc (c : Cause) (m : Mark) : (s.raiseM c m).svc = s.svc := (s.raiseM_same c m).svc
@[simp] theorem State.raiseM_hka (c : Cause) (m : Mark) : (s.raiseM c m).hka = s.hka := (s.raiseM_same c m).hka
@[simp] theorem State.raiseM_rst (c : Cause) (m : Mark) : (s.raiseM c m).rst = s.rst := (s.raiseM_same c m).rst
@[simp] theorem State.raiseM_net (c : Cause) (m : Mark) : (s.raiseM c m).net = s.net := (s.raiseM_same c m).net
@[simp] theorem State.raiseM_himet (c : Cause) (m : Mark) : (s.raiseM c m).himet = s.himet := (s.raiseM_same c m).himet

@[simp] theorem State.setIf_pending (b : Bool) (c : Cause) : (s.setIf b c).pending = s.pending := (s.setIf_same b c).pending
@[simp] theorem State.setIf_life (b : Bool) (c : Cause) : (s.setIf b c).life = s.life := (s.setIf_same b c).life
@[simp] theorem State.setIf_freeCount (b : Bool) (c : Cause) : (s.setIf b c).freeCount = s.freeCount := (s.setIf_same b c).freeCount
@[simp] theorem State.setIf_tod (b : Bool) (c : Cause) : (s.setIf b c).tod = s.tod := (s.setIf_same b c).tod
@[simp] theorem State.setIf_course (b : Bool) (c : Cause) : (s.setIf b c).course = s.course := (s.setIf_same b c).course
@[simp] theorem State.setIf_clk (b : Bool) (c : Cause) : (s.setIf b c).clk = s.clk := (s.setIf_same b c).clk
@[simp] theorem State.setIf_piste (b : Bool) (c : Cause) : (s.setIf b c).piste = s.piste := (s.setIf_same b c).piste
@[simp] theorem State.setIf_legs (b : Bool) (c : Cause) : (s.setIf b c).legs = s.legs := (s.setIf_same b c).legs
@[simp] theorem State.setIf_tripIns (b : Bool) (c : Cause) : (s.setIf b c).tripIns = s.tripIns := (s.setIf_same b c).tripIns
@[simp] theorem State.setIf_injs (b : Bool) (c : Cause) : (s.setIf b c).injs = s.injs := (s.setIf_same b c).injs
@[simp] theorem State.setIf_slots (b : Bool) (c : Cause) : (s.setIf b c).slots = s.slots := (s.setIf_same b c).slots
@[simp] theorem State.setIf_chop (b : Bool) (c : Cause) : (s.setIf b c).chop = s.chop := (s.setIf_same b c).chop
@[simp] theorem State.setIf_hkaEvents (b : Bool) (c : Cause) : (s.setIf b c).hkaEvents = s.hkaEvents := (s.setIf_same b c).hkaEvents
@[simp] theorem State.setIf_taskPresc (b : Bool) (c : Cause) : (s.setIf b c).taskPresc = s.taskPresc := (s.setIf_same b c).taskPresc
@[simp] theorem State.setIf_taskDelays (b : Bool) (c : Cause) : (s.setIf b c).taskDelays = s.taskDelays := (s.setIf_same b c).taskDelays
@[simp] theorem State.setIf_carve (b : Bool) (c : Cause) : (s.setIf b c).carve = s.carve := (s.setIf_same b c).carve
@[simp] theorem State.setIf_ports (b : Bool) (c : Cause) : (s.setIf b c).ports = s.ports := (s.setIf_same b c).ports
@[simp] theorem State.setIf_prof (b : Bool) (c : Cause) : (s.setIf b c).prof = s.prof := (s.setIf_same b c).prof
@[simp] theorem State.setIf_slalom (b : Bool) (c : Cause) : (s.setIf b c).slalom = s.slalom := (s.setIf_same b c).slalom
@[simp] theorem State.setIf_sdm (b : Bool) (c : Cause) : (s.setIf b c).sdm = s.sdm := (s.setIf_same b c).sdm
@[simp] theorem State.setIf_phv (b : Bool) (c : Cause) : (s.setIf b c).phv = s.phv := (s.setIf_same b c).phv
@[simp] theorem State.setIf_dcl (b : Bool) (c : Cause) : (s.setIf b c).dcl = s.dcl := (s.setIf_same b c).dcl
@[simp] theorem State.setIf_pos (b : Bool) (c : Cause) : (s.setIf b c).pos = s.pos := (s.setIf_same b c).pos
@[simp] theorem State.setIf_chg (b : Bool) (c : Cause) : (s.setIf b c).chg = s.chg := (s.setIf_same b c).chg
@[simp] theorem State.setIf_triad (b : Bool) (c : Cause) : (s.setIf b c).triad = s.triad := (s.setIf_same b c).triad
@[simp] theorem State.setIf_patrol (b : Bool) (c : Cause) : (s.setIf b c).patrol = s.patrol := (s.setIf_same b c).patrol
@[simp] theorem State.setIf_swapping (b : Bool) (c : Cause) : (s.setIf b c).swapping = s.swapping := (s.setIf_same b c).swapping
@[simp] theorem State.setIf_edges (b : Bool) (c : Cause) : (s.setIf b c).edges = s.edges := (s.setIf_same b c).edges
@[simp] theorem State.setIf_can (b : Bool) (c : Cause) : (s.setIf b c).can = s.can := (s.setIf_same b c).can
@[simp] theorem State.setIf_probe (b : Bool) (c : Cause) : (s.setIf b c).probe = s.probe := (s.setIf_same b c).probe
@[simp] theorem State.setIf_supply (b : Bool) (c : Cause) : (s.setIf b c).supply = s.supply := (s.setIf_same b c).supply
@[simp] theorem State.setIf_groom (b : Bool) (c : Cause) : (s.setIf b c).groom = s.groom := (s.setIf_same b c).groom
@[simp] theorem State.setIf_time (b : Bool) (c : Cause) : (s.setIf b c).time = s.time := (s.setIf_same b c).time
@[simp] theorem State.setIf_svc (b : Bool) (c : Cause) : (s.setIf b c).svc = s.svc := (s.setIf_same b c).svc
@[simp] theorem State.setIf_hka (b : Bool) (c : Cause) : (s.setIf b c).hka = s.hka := (s.setIf_same b c).hka
@[simp] theorem State.setIf_rst (b : Bool) (c : Cause) : (s.setIf b c).rst = s.rst := (s.setIf_same b c).rst
@[simp] theorem State.setIf_net (b : Bool) (c : Cause) : (s.setIf b c).net = s.net := (s.setIf_same b c).net
@[simp] theorem State.setIf_himet (b : Bool) (c : Cause) : (s.setIf b c).himet = s.himet := (s.setIf_same b c).himet

@[simp] theorem State.deny_pending (a : Nat) (c : Cause) : (s.deny a c).pending = s.pending := (s.deny_same a c).pending
@[simp] theorem State.deny_life (a : Nat) (c : Cause) : (s.deny a c).life = s.life := (s.deny_same a c).life
@[simp] theorem State.deny_freeCount (a : Nat) (c : Cause) : (s.deny a c).freeCount = s.freeCount := (s.deny_same a c).freeCount
@[simp] theorem State.deny_tod (a : Nat) (c : Cause) : (s.deny a c).tod = s.tod := (s.deny_same a c).tod
@[simp] theorem State.deny_course (a : Nat) (c : Cause) : (s.deny a c).course = s.course := (s.deny_same a c).course
@[simp] theorem State.deny_clk (a : Nat) (c : Cause) : (s.deny a c).clk = s.clk := (s.deny_same a c).clk
@[simp] theorem State.deny_piste (a : Nat) (c : Cause) : (s.deny a c).piste = s.piste := (s.deny_same a c).piste
@[simp] theorem State.deny_legs (a : Nat) (c : Cause) : (s.deny a c).legs = s.legs := (s.deny_same a c).legs
@[simp] theorem State.deny_tripIns (a : Nat) (c : Cause) : (s.deny a c).tripIns = s.tripIns := (s.deny_same a c).tripIns
@[simp] theorem State.deny_injs (a : Nat) (c : Cause) : (s.deny a c).injs = s.injs := (s.deny_same a c).injs
@[simp] theorem State.deny_slots (a : Nat) (c : Cause) : (s.deny a c).slots = s.slots := (s.deny_same a c).slots
@[simp] theorem State.deny_chop (a : Nat) (c : Cause) : (s.deny a c).chop = s.chop := (s.deny_same a c).chop
@[simp] theorem State.deny_hkaEvents (a : Nat) (c : Cause) : (s.deny a c).hkaEvents = s.hkaEvents := (s.deny_same a c).hkaEvents
@[simp] theorem State.deny_taskPresc (a : Nat) (c : Cause) : (s.deny a c).taskPresc = s.taskPresc := (s.deny_same a c).taskPresc
@[simp] theorem State.deny_taskDelays (a : Nat) (c : Cause) : (s.deny a c).taskDelays = s.taskDelays := (s.deny_same a c).taskDelays
@[simp] theorem State.deny_carve (a : Nat) (c : Cause) : (s.deny a c).carve = s.carve := (s.deny_same a c).carve
@[simp] theorem State.deny_ports (a : Nat) (c : Cause) : (s.deny a c).ports = s.ports := (s.deny_same a c).ports
@[simp] theorem State.deny_prof (a : Nat) (c : Cause) : (s.deny a c).prof = s.prof := (s.deny_same a c).prof
@[simp] theorem State.deny_slalom (a : Nat) (c : Cause) : (s.deny a c).slalom = s.slalom := (s.deny_same a c).slalom
@[simp] theorem State.deny_sdm (a : Nat) (c : Cause) : (s.deny a c).sdm = s.sdm := (s.deny_same a c).sdm
@[simp] theorem State.deny_phv (a : Nat) (c : Cause) : (s.deny a c).phv = s.phv := (s.deny_same a c).phv
@[simp] theorem State.deny_dcl (a : Nat) (c : Cause) : (s.deny a c).dcl = s.dcl := (s.deny_same a c).dcl
@[simp] theorem State.deny_pos (a : Nat) (c : Cause) : (s.deny a c).pos = s.pos := (s.deny_same a c).pos
@[simp] theorem State.deny_chg (a : Nat) (c : Cause) : (s.deny a c).chg = s.chg := (s.deny_same a c).chg
@[simp] theorem State.deny_triad (a : Nat) (c : Cause) : (s.deny a c).triad = s.triad := (s.deny_same a c).triad
@[simp] theorem State.deny_patrol (a : Nat) (c : Cause) : (s.deny a c).patrol = s.patrol := (s.deny_same a c).patrol
@[simp] theorem State.deny_swapping (a : Nat) (c : Cause) : (s.deny a c).swapping = s.swapping := (s.deny_same a c).swapping
@[simp] theorem State.deny_edges (a : Nat) (c : Cause) : (s.deny a c).edges = s.edges := (s.deny_same a c).edges
@[simp] theorem State.deny_can (a : Nat) (c : Cause) : (s.deny a c).can = s.can := (s.deny_same a c).can
@[simp] theorem State.deny_probe (a : Nat) (c : Cause) : (s.deny a c).probe = s.probe := (s.deny_same a c).probe
@[simp] theorem State.deny_supply (a : Nat) (c : Cause) : (s.deny a c).supply = s.supply := (s.deny_same a c).supply
@[simp] theorem State.deny_groom (a : Nat) (c : Cause) : (s.deny a c).groom = s.groom := (s.deny_same a c).groom
@[simp] theorem State.deny_time (a : Nat) (c : Cause) : (s.deny a c).time = s.time := (s.deny_same a c).time
@[simp] theorem State.deny_svc (a : Nat) (c : Cause) : (s.deny a c).svc = s.svc := (s.deny_same a c).svc
@[simp] theorem State.deny_hka (a : Nat) (c : Cause) : (s.deny a c).hka = s.hka := (s.deny_same a c).hka
@[simp] theorem State.deny_rst (a : Nat) (c : Cause) : (s.deny a c).rst = s.rst := (s.deny_same a c).rst
@[simp] theorem State.deny_net (a : Nat) (c : Cause) : (s.deny a c).net = s.net := (s.deny_same a c).net
@[simp] theorem State.deny_himet (a : Nat) (c : Cause) : (s.deny a c).himet = s.himet := (s.deny_same a c).himet

/-! ## Registers and cause bits -/

/-- A register reads as before a cause is set, but for the CAUSE word of its group. -/
theorem State.rd_raiseM (c : Cause) (m : Mark) (a : Nat) (h : a ≠ Reg.INT.GRP.CAUSE.addr c.grp) :
    (s.raiseM c m).rd a = s.rd a := by
  rw [State.rd_congr (s.raiseM_regs c m)]; exact State.rd_put_other s _ _ _ h

theorem State.rd_setCauseM (c : Cause) (m : Mark) (a : Nat) (h : a ≠ Reg.INT.GRP.CAUSE.addr c.grp) :
    (s.setCauseM c m).rd a = s.rd a := by
  rw [State.rd_congr (s.setCauseM_regs c m)]; exact State.rd_put_other s _ _ _ h

theorem State.rd_raise (c : Cause) (a : Nat) (h : a ≠ Reg.INT.GRP.CAUSE.addr c.grp) : (s.raise c).rd a = s.rd a := by
  rw [State.rd_congr (s.raise_regs c)]; exact State.rd_put_other s _ _ _ h

/-- A field reads as before a cause is set, but in the CAUSE word of its group. -/
theorem State.get_raise (c : Cause) (f : Fld) (h : f.addr ≠ Reg.INT.GRP.CAUSE.addr c.grp) : (s.raise c).get f = s.get f := by
  simp [State.get, State.rd_raise s c f.addr h]

theorem State.get_raiseM (c : Cause) (m : Mark) (f : Fld) (h : f.addr ≠ Reg.INT.GRP.CAUSE.addr c.grp) :
    (s.raiseM c m).get f = s.get f := by
  simp [State.get, State.rd_raiseM s c m f.addr h]

theorem State.get_setCauseM (c : Cause) (m : Mark) (f : Fld) (h : f.addr ≠ Reg.INT.GRP.CAUSE.addr c.grp) :
    (s.setCauseM c m).get f = s.get f := by
  simp [State.get, State.rd_setCauseM s c m f.addr h]

theorem State.get_setIf (b : Bool) (c : Cause) (f : Fld) (h : f.addr ≠ Reg.INT.GRP.CAUSE.addr c.grp) :
    (s.setIf b c).get f = s.get f := by
  unfold State.setIf; split
  · exact s.get_raise c f h
  · rfl

theorem State.get_deny (a : Nat) (c : Cause) (f : Fld) (h : f.addr ≠ Reg.INT.GRP.CAUSE.addr c.grp) (ha : f.addr ≠ a) :
    (s.deny a c).get f = s.get f := by
  unfold State.deny; rw [State.get_raise _ _ _ h]; exact State.get_put_addr s _ _ _ ha

/-- Whether a cause bit is set, from the registers. -/
theorem State.causeSet_congr {s t : State} (h : t.regs = s.regs) (c : Cause) : t.causeSet c = s.causeSet c := by
  simp [State.causeSet, State.causeWord, State.rd_congr h]

theorem State.causeSet_put_same (c : Cause) (h : c.bit < 32) :
    (s.put ⟨Reg.INT.GRP.CAUSE.addr c.grp, c.bit, 1⟩ 1).causeSet c = true := by
  have : (1 : Nat).testBit 0 = true := by decide
  simp [State.causeSet, State.causeWord, State.put, setBits_bit _ _ _ _ _ h, this]

/-- A cause set stands set. -/
theorem State.causeSet_setCauseM (c : Cause) (m : Mark) (h : c.bit < 32) : (s.setCauseM c m).causeSet c = true := by
  rw [State.causeSet_congr (s.setCauseM_regs c m)]; exact s.causeSet_put_same c h

theorem State.causeSet_raise (c : Cause) (h : c.bit < 32) : (s.raise c).causeSet c = true := by
  rw [State.causeSet_congr (s.raise_regs c)]; exact s.causeSet_put_same c h

theorem State.causeSet_raiseM (c : Cause) (m : Mark) (h : c.bit < 32) : (s.raiseM c m).causeSet c = true := by
  rw [State.causeSet_congr (s.raiseM_regs c m)]; exact s.causeSet_put_same c h

theorem State.causeSet_deny (a : Nat) (c : Cause) (h : c.bit < 32) : (s.deny a c).causeSet c = true :=
  State.causeSet_raise _ c h

/-- A field put into no CAUSE word leaves a cause bit. -/
theorem State.causeSet_put (f : Fld) (v : Nat) (c : Cause) (h : Reg.INT.GRP.CAUSE.addr c.grp ≠ f.addr) :
    (s.put f v).causeSet c = s.causeSet c := by
  simp [State.causeSet, State.causeWord, State.rd_put_other s f v _ h]

/-- Setting a cause clears no cause bit. -/
theorem State.causeSet_put_mono (c d : Cause) (h : s.causeSet d = true) (hb : d.bit < 32) :
    (s.put ⟨Reg.INT.GRP.CAUSE.addr c.grp, c.bit, 1⟩ 1).causeSet d = true := by
  have h1 : (1 : Nat).testBit 0 = true := by decide
  by_cases hg : Reg.INT.GRP.CAUSE.addr d.grp = Reg.INT.GRP.CAUSE.addr c.grp
  · simp only [State.causeSet, State.causeWord, hg, State.put, State.rd_wr_same] at h ⊢
    rw [setBits_bit _ _ _ _ _ hb]
    split
    · rename_i hc
      have : d.bit - c.bit = 0 := by omega
      rw [this, h1]
    · exact h
  · rw [State.causeSet_put s _ _ d hg]; exact h

theorem State.causeSet_raise_mono (c d : Cause) (h : s.causeSet d = true) (hb : d.bit < 32) :
    (s.raise c).causeSet d = true := by
  rw [State.causeSet_congr (s.raise_regs c)]; exact s.causeSet_put_mono c d h hb

theorem State.causeSet_setCauseM_mono (c d : Cause) (m : Mark) (h : s.causeSet d = true) (hb : d.bit < 32) :
    (s.setCauseM c m).causeSet d = true := by
  rw [State.causeSet_congr (s.setCauseM_regs c m)]; exact s.causeSet_put_mono c d h hb

theorem State.causeSet_setIf_mono (b : Bool) (c d : Cause) (h : s.causeSet d = true) (hb : d.bit < 32) :
    (s.setIf b c).causeSet d = true := by
  unfold State.setIf; split
  · exact s.causeSet_raise_mono c d h hb
  · exact h

/-- A refused command leaves STATE_DENIED in its status register, unless that is a CAUSE word. -/
theorem State.get_deny_code (a : Nat) (c : Cause) (h : a ≠ Reg.INT.GRP.CAUSE.addr c.grp) : (s.deny a c).get ⟨a, 0, 8⟩ = 2 := by
  unfold State.deny; rw [State.get_raise _ _ _ h, State.get_status]; rfl

end Sys2Proof.Machine
end

