-- ==== Sys2Proof/WellFormed.lean ====
section
/-! DEFINITION. Well-formed commands: operands that the outside world can send. -/

namespace Sys2Proof

/-- A CLASS field (R388). -/
def classOk (cls : Nat) : Bool := decide (cls < 4)

/-- A frame without its check sequence has 60 to 1,518 bytes (R488). -/
def frameOk (frame : List Byte) : Bool := decide (60 ≤ frame.length ∧ frame.length ≤ 1518)

/-- Addresses of the INJ_STATUS registers whose injections end by a window or by the limit of 100 ms (R396): PATROL, GROOM, HIMET, HKA, TIME,
NET, PROBE, CAN0, CAN1, TRIAD, the trip inputs and the edge channels. -/
def injControl (ctrl : Nat) : Bool :=
  [0x40050108, 0x40070038, 0x400800A8, 0x400D0028, 0x40020054, 0x40150018, 0x40170030, 0x40130038, 0x40140038, 0x40060040].contains ctrl ||
    (decide (0x400A020C ≤ ctrl ∧ ctrl < 0x400A030C) && decide ((ctrl - 0x400A020C) % 0x10 = 0)) ||
    (decide (0x400B0054 ≤ ctrl ∧ ctrl < 0x400C0054) && decide ((ctrl - 0x400B0054) % 0x400 = 0))

/-- A register's address lies in the peripheral space, at a multiple of 4 (R3, R32). -/
def registerOk (addr : Nat) : Bool := decide (0x40000000 ≤ addr ∧ addr < 0x40190000 ∧ addr % 4 = 0)

/-- A READ or WRITE starts with its CMD byte (R539). -/
def transactionOk (sent : List Byte) : Bool := !sent.isEmpty

/-- The well-formed commands. -/
def Instr.wellFormed : Instr → Bool
  | .hostWrite sent _ _ _ => transactionOk sent
  | .hostRead sent _ _ _ _ => transactionOk sent
  | .hostStatus _ => true
  | .hostCsEarlyRise => true
  | .registerWrite addr _ _ => registerOk addr
  | .rootEpoch _ _ _ => true
  | .pllSwitch => true
  | .refLoss => true
  | .holdoverLimit => true
  | .refReturn => true
  | .pllBoth => true
  | .bridgeToPll _ _ => true
  | .powerOn => true
  | .auxHigh _ => true
  | .auxLow _ => true
  | .auxFail => true
  | .holdupStart => true
  | .holdupEnd => true
  | .holdupRecover => true
  | .scrubPass _ => true
  | .tileSwap _ _ _ => true
  | .tileCompareRunEnd => true
  | .tileRepair => true
  | .goldenReload _ => true
  | .readback => true
  | .readbackDone _ _ => true
  | .envQuery _ => true
  | .sdmResult _ _ _ _ _ _ => true
  | .streamStuck _ => true
  | .sdmCmpOutput _ _ _ => true
  | .sdmResRead _ => true
  | .dclResult _ _ => true
  | .dclThresholdCross _ _ _ => true
  | .sdmSpareAssign _ => true
  | .sdmSpareTakeover _ => true
  | .quadEdge _ _ _ _ => true
  | .illWindowEnd _ => true
  | .indexEvent _ _ => true
  | .speedZeroTimeout _ => true
  | .hallEdge _ _ _ => true
  | .resolverUpdate _ _ _ _ _ _ => true
  | .resMonitor _ _ _ _ => true
  | .resPhaseMeasure _ _ => true
  | .serFrameStart _ _ _ => true
  | .serFrameEnd _ _ _ _ _ => true
  | .serTimeout _ => true
  | .posAngleRead _ _ => true
  | .wireFault _ _ => true
  | .wireRecover _ => true
  | .posPreset _ _ => true
  | .clearHomed _ => true
  | .posClearCounters _ => true
  | .taskTrigger _ _ => true
  | .triggerReady _ => true
  | .taskDispatch _ _ => true
  | .nop => true
  | .endTask => true
  | .br _ _ => true
  | .sig _ _ => true
  | .setb _ _ _ => true
  | .sadd _ _ _ => true
  | .ssub _ _ _ => true
  | .smul _ _ _ => true
  | .smac _ _ _ => true
  | .smin _ _ _ => true
  | .smax _ _ _ => true
  | .sabs _ _ => true
  | .sneg _ _ => true
  | .smov _ _ => true
  | .sldi _ _ => true
  | .scmp _ _ => true
  | .ssel _ _ _ _ => true
  | .sclamp _ _ _ _ => true
  | .swrap _ _ => true
  | .sdiv _ _ _ => true
  | .ssqrt _ _ => true
  | .ssincos _ _ => true
  | .satan2 _ _ _ => true
  | .vadd _ _ _ => true
  | .vsub _ _ _ => true
  | .vmul _ _ _ => true
  | .vmac _ _ _ => true
  | .vscl _ _ _ => true
  | .vbcast _ _ => true
  | .vins _ _ _ => true
  | .vext _ _ _ => true
  | .vclamp _ _ _ _ => true
  | .vint _ _ _ _ _ _ => true
  | .ipre _ _ _ => true
  | .vdot _ _ _ => true
  | .vld _ _ _ => true
  | .vst _ _ _ => true
  | .mvm _ _ _ _ _ _ => true
  | .mvma _ _ _ _ _ _ => true
  | .vmov _ _ => true
  | .inPort _ _ _ => true
  | .inv _ _ _ => true
  | .outPort _ _ _ => true
  | .outv _ _ _ => true
  | .ldp _ _ => true
  | .ldpv _ _ => true
  | .taskAbort => true
  | .carvePreset _ => true
  | .carveClearStats _ => true
  | .paramWrite _ _ => true
  | .carveInRead _ _ => true
  | .carveEccSweep _ _ => true
  | .profStep _ _ => true
  | .profHold _ => true
  | .profResume _ => true
  | .presetInput _ => true
  | .profValueRead _ => true
  | .slalomJob _ _ _ => true
  | .rotStart _ => true
  | .rotWindowEnd _ _ => true
  | .rotResultRead _ => true
  | .pwmBoundary _ => true
  | .pwmMid _ => true
  | .pwmCompareEvent _ _ _ _ => true
  | .commitDeadline _ => true
  | .pwmCommit _ _ _ => true
  | .pwmLoadall => true
  | .pwmSync => true
  | .pwmClearStats => true
  | .syncIssue => true
  | .deadTimeEnd _ _ => true
  | .minpulseStretchEnd _ _ => true
  | .interlockRelease _ => true
  | .ilockWindowEnd => true
  | .tripRequest => true
  | .forcedTurnOn _ _ => true
  | .tripRelease _ => true
  | .tripDeassert _ => true
  | .tripinFilterDone _ _ => true
  | .blankWindowEnd _ => true
  | .tripinInject _ cls => classOk cls
  | .tripinInjectEnd _ => true
  | .chopRequestRelease _ _ => true
  | .chopVerify _ => true
  | .downlinkFrame _ _ _ => true
  | .uplinkFrame _ _ _ => true
  | .linkCrcWindowEnd _ => true
  | .linkLoss _ => true
  | .holdoff _ => true
  | .linkAutoRetrain _ => true
  | .skewCalPass _ _ _ _ => true
  | .edgeSelftest _ => true
  | .edgeRetrain _ => true
  | .edgePark _ => true
  | .edgeUnpark _ => true
  | .edgeClearStats _ => true
  | .groomerPark _ _ => true
  | .edgeInject _ _ cls => classOk cls
  | .edgeMeasUpdate _ _ => true
  | .measRead _ => true
  | .supUv _ _ _ => true
  | .gateUv _ _ _ => true
  | .outFault _ _ => true
  | .scHard _ _ => true
  | .oc _ _ => true
  | .desat _ _ => true
  | .protectionBlankEnd _ _ => true
  | .softOffPhase1End _ _ => true
  | .stoTimeExpiry _ _ => true
  | .softOffEnd _ _ => true
  | .protectionFlag _ => true
  | .protectionHoldRelease _ => true
  | .selftestStep _ _ _ _ _ _ => true
  | .arm _ => true
  | .start _ => true
  | .stop _ => true
  | .resume _ => true
  | .disarm _ => true
  | .recover _ => true
  | .restart _ => true
  | .charge _ => true
  | .discharge _ => true
  | .catchDeadline _ => true
  | .catchEpisodeEnd _ => true
  | .standstill _ => true
  | .glideTimeout _ => true
  | .ovTrip2Release => true
  | .dischargePhase1Timeout _ => true
  | .dischargePhase2Timeout _ => true
  | .sourceOk => true
  | .sourceLost => true
  | .ctrFbChange _ => true
  | .parkInChange _ => true
  | .closeTimeExpiry => true
  | .settleExpiry => true
  | .rampTimeout => true
  | .openTimeExpiry => true
  | .laneFault _ _ _ _ _ _ _ _ => true
  | .triadWarmReset => true
  | .sweepEnd => true
  | .laneRejoin _ _ => true
  | .resyncTimeout => true
  | .triadInject _ cls => classOk cls
  | .triadClearStats => true
  | .causeClassify => true
  | .escWindowEnd _ => true
  | .clearF4 => true
  | .clearFirst => true
  | .frictionOn => true
  | .frictionOff => true
  | .wdogKick _ _ => true
  | .hostWdog => true
  | .taskStall _ => true
  | .supWdog => true
  | .supWdogReset => true
  | .patrolInject cls => classOk cls
  | .injectWindowEnd ctrl _ => injControl ctrl
  | .injectTimeout ctrl => injControl ctrl
  | .clsQuery _ _ => true
  | .patrolFirstRead => true
  | .hkaTimerTick _ => true
  | .hkaPwmTrigger => true
  | .hkaStart _ => true
  | .hkaClearStats => true
  | .hkaDelayEnd _ _ => true
  | .hkaConversionEnd _ _ => true
  | .hkaCheckEnd _ _ _ => true
  | .checkStarved _ => true
  | .hkaIdlePowerDown _ => true
  | .trackerWindowEnd _ => true
  | .trackerSumRead _ => true
  | .tdacWrite _ => true
  | .hkaInject cls => classOk cls
  | .hkaSpareTakeover => true
  | .auxMeasure _ => true
  | .railExcursion _ _ => true
  | .midCmd _ => true
  | .midDone _ _ _ _ => true
  | .midAbort => true
  | .cable _ => true
  | .cableLegDone _ _ => true
  | .peers => true
  | .probeAbort => true
  | .probeInject cls => classOk cls
  | .groomBist _ _ => true
  | .groomBistDone _ => true
  | .returnLane _ => true
  | .resetBaseline _ => true
  | .groomInject cls => classOk cls
  | .rowReplaced _ _ _ => true
  | .sectorMarked _ _ _ _ => true
  | .pllSpareTestEnd _ => true
  | .groomRecordWrite _ => true
  | .ethSpareBringIn => true
  | .resetNLow _ _ => true
  | .resetAssert _ => true
  | .resetRelease => true
  | .rstWarm _ => true
  | .rstSystem _ => true
  | .rstBlock _ _ => true
  | .blockDone => true
  | .coldLift _ => true
  | .bistConditionRecheck _ => true
  | .warmLift _ => true
  | .resetHoldEstimateTimeout _ => true
  | .rstLogSelect _ => true
  | .ppsInEdge _ => true
  | .servoMeasurement _ => true
  | .referenceLoss => true
  | .ppsOutPulse => true
  | .timeSet => true
  | .syncArm => true
  | .syncCancel => true
  | .timeSyncFire => true
  | .timeNowRead _ => true
  | .ppsInRead => true
  | .timeInject cls => classOk cls
  | .portLinkChange _ _ _ => true
  | .switchFrame _ frame => frameOk frame
  | .gptpFrame _ _ => true
  | .qbvCommit _ => true
  | .qbvBankSwitch _ => true
  | .beaconSend => true
  | .beaconReceive _ frame => frameOk frame.value
  | .masterLost => true
  | .cycleStart _ _ => true
  | .cycleReceive _ frame _ _ => frameOk frame.value
  | .reportSend => true
  | .reportDeadline => true
  | .reportReceive _ frame => frameOk frame.value
  | .delayReqSend _ => true
  | .delayReqReceive _ frame _ => frameOk frame.value
  | .delayRespReceive _ frame _ => frameOk frame.value
  | .schedule => true
  | .schedCancel => true
  | .scheduleReceive _ frame => frameOk frame.value
  | .capsRequest => true
  | .capsSend => true
  | .capsReceive _ frame => frameOk frame.value
  | .folisAggRead => true
  | .netInject cls => classOk cls
  | .canInitClear _ => true
  | .canInitSet _ => true
  | .canConfigEntry _ => true
  | .canIntegrationDone _ => true
  | .canTxReq _ _ => true
  | .canTxAbort _ _ => true
  | .canTxSelect _ => true
  | .txDone _ _ _ => true
  | .canTxError _ _ _ _ => true
  | .canRestart _ => true
  | .recovered _ => true
  | .canClearStats _ => true
  | .canFrameReceived _ _ _ _ => true
  | .canRxRead _ _ => true
  | .canRxPop _ _ => true
  | .canInject _ cls => classOk cls
  | .causeClear _ _ => true
  | .intInject _ _ => true
  | .irqEdgeReleaseEnd => true
  | .challenge => true
  | .auth => true
  | .enrol => true
  | .ownerNext => true
  | .rotate => true
  | .transfer => true
  | .releaseToken => true
  | .lockToken => true
  | .unlockToken => true
  | .ckLoad => true
  | .floor => true
  | .testToken => true
  | .debug => true
  | .attest => true
  | .readCert => true
  | .readKey _ => true
  | .closeTest => true
  | .closeDebug => true
  | .nonceExpiry => true
  | .testSessionExpiry => true
  | .debugSessionExpiry => true
  | .storeCheck _ _ => true
  | .trngFail => true
  | .trngRecover => true
  | .randomRead => true
  | .himetInject cls => classOk cls
  | .usbAttach _ _ => true
  | .usbDetach => true
  | .infoOp _ _ => true
  | .beginOp _ _ _ => true
  | .dataOp _ _ _ _ _ => true
  | .svcEnd _ _ _ => true
  | .svcAbort _ => true
  | .confirm _ => true
  | .rollback _ => true
  | .armLocal _ _ => true
  | .svcCancel _ => true
  | .svcStatus _ => true
  | .activationInstant => true
  | .postponedSwap => true
  | .migrated => true
  | .trialStartSuccess => true
  | .autoRollback => true
  | .streamChange _ _ => true
  | .receiveError _ _ _ _ => true
  | .retrainEnd _ _ => true
  | .selftestTimeout _ => true
  | .himetOperationEnd _ => true
  | .gptpTimeout _ _ => true
  | .gptpMessageSend _ => true
  | .ppsOutFall => true
  | .debugLinkRise => true
  | .supervisorReport => true

end Sys2Proof
end

