-- ==== Sys2Proof/Tests/Slice0.lean ====
section
/-! SUPPORT. Tests: ill-formed commands that WellFormed refuses, a state and operands that meet the hypotheses of every statement, and
small checks against figures of the spec. -/

namespace Sys2Proof.Tests

-- One theorem after another: their kernel evaluations would otherwise all wait at once, each in a thread of its own.
set_option Elab.async false

open Sys2Proof Sys2Proof.Machine

/-- Registers set on a state, for the tests. -/
def set (l : List (Fld × Nat)) (s : State) : State := l.foldl (fun t p => t.put p.1 p.2) s

/-- The module after host enable with nothing configured. -/
def on : State := { State.reset with life := .run }

/-- PLL A drives the root and PLL B stands by; the reference is there. -/
def clocked : State := { set [(Reg.CLK.STATUS.PLLA_LOCK, 1), (Reg.CLK.STATUS.PLLB_LOCK, 1), (Reg.CLK.STATUS.REF_OK, 1)] on with
  clk := { rootRuns := true } }

theorem witness_clock_running :
    clocked.flag (pllLock (clocked.get Reg.CLK.STATUS.ACTIVE)) = true ∧
    clocked.flag (pllLock (1 - clocked.get Reg.CLK.STATUS.ACTIVE)) = true ∧
    clocked.flag Reg.CLK.STATUS.BRIDGE = false ∧ clocked.flag Reg.CLK.STATUS.REF_OK = true ∧ clocked.windowAt 0x0B 0 = false ∧
    clocked.clk.rootRuns = true ∧
    ({ clocked with groom := { bist := some ⟨0x71, .idle⟩ } } : State).underTest (0x71 - clocked.get Reg.CLK.STATUS.ACTIVE) = true := by decide

theorem witness_clock_other :
    let s := set [(Reg.CLK.STATUS.HOLDOVER, 1), (Reg.CLK.STATUS.BRIDGE, 1)] { on with groom := { pllTest := some 1 } }
    s.flag Reg.CLK.STATUS.HOLDOVER = true ∧ s.flag Reg.CLK.STATUS.BRIDGE = true ∧ (true || false) = true ∧
    s.groom.pllTest = some 1 := by decide

theorem witness_frame_clock : ∃ t, exec .pllSwitch clocked = .next t := ⟨_, rfl⟩

/-- A course is ACTIVE. -/
def active : State := set [(Reg.PISTE.STATUS.STATE, 3)] on

theorem witness_fabric_scrub :
    let s := { active with course := { frames := [(5, 0#32)] } }
    s.courseActive = true ∧ s.tileUsed 1 5 = true ∧ s.piste.repairs = [] ∧ [((1 : Fin 4), (5 : Fin 136))].Nodup ∧
    cellGet (fun _ => 0#8) s.piste.runs (tileKey 1 5) ≤ 1#8 ∧ s.flag Reg.PISTE.CMD_STATUS.BUSY = false := by decide

theorem witness_fabric_repair :
    let s := { active with piste := { swaps := [(1, 5)], repairs := [{ unit := ⟨1, 5, 128⟩, compared := true }] } }
    let o := { s with piste := { s.piste with replaced := (List.range' 128 8).map (fun k => ⟨1, k, k⟩), repairs := [] } }
    s.piste.swaps.contains (1, 5) = true ∧ s.piste.repairs = { unit := ⟨1, 5, 128⟩, compared := true } :: [] ∧
    on.piste.swaps.contains (1, 5) = false ∧ on.courseActive = false ∧ s.freeSpares 1 = 129 :: [130, 131, 132, 133, 134, 135] ∧
    o.freeSpares 1 = [] ∧ on.piste.repairs = [] ∧ s.repairHeld { unit := ⟨1, 5, 128⟩, compared := true } = false ∧
    (set [(Reg.TRIAD.STATUS.MODE, 1), (Reg.TRIAD.STATUS.ODD, 1)] s).repairHeld { unit := ⟨1, 5, 128⟩, compared := true } = true := by decide

theorem witness_fabric_readback :
    let s := set [(Reg.PISTE.CMD_STATUS.BUSY, 1)] on
    (s.courseActive = false ∨ s.flag Reg.PISTE.CMD_STATUS.BUSY = true) ∧ s.flag Reg.PISTE.CMD_STATUS.BUSY = true := by decide

theorem witness_fabric_query :
    let s := { set [(Reg.PISTE.ENV_ADDR.ADDR, 0x400A0004)] on with
      course := { env := [⟨0x400A0004, 0, 24, 0, 5#32, 9#32⟩] } }
    s.envOf (s.rd Reg.PISTE.ENV_ADDR.addr).toNat (0#5).toNat = some ⟨0x400A0004, 0, 24, 0, 5#32, 9#32⟩ ∧
    s.envOf (s.rd Reg.PISTE.ENV_ADDR.addr).toNat (1#5).toNat = none := by decide

theorem witness_sensing_results :
    let s := set [(Reg.SDM.F.CFG.ENABLE 3, 1), (Reg.SDM.PHV_CFG.ENABLE, 1), (Reg.SDM.F.CMP_CFG.EN_HI 3, 1)] on
    s.flag (Reg.SDM.F.CFG.ENABLE 3) = true ∧ s.flag Reg.SDM.PHV_CFG.ENABLE = true ∧ s.flag Reg.SDM.DCL_CFG.ENABLE = true ∧
    s.flag (Reg.SDM.F.CMP_CFG.EN_HI 3) = true ∧ s.flag (Reg.SDM.F.CMP_CFG.EN_LO 3) = false ∧ s.windowAt 1 3 = false ∧
    s.sdm[3].hi = false ∧ s.sdm[3].ch.forms (s.get (Reg.SDM.F.CFG.MODE 3)) = true ∧
    s.phv[3].forms (s.get Reg.SDM.PHV_CFG.MODE) = true ∧ s.dcl.a.forms (s.get Reg.SDM.DCL_CFG.MODE) = true ∧
    s.sdm[3].ch.freshFrom = none ∧ s.phv[3].freshFrom = none ∧ s.dcl.a.freshFrom = none := by decide +kernel

theorem witness_sensing_windows :
    let s := set [(Reg.SDM.F.CFG.INPUT_A 3, 64), (Reg.SDM.F.CFG.INPUT_B 3, 127), (Reg.SDM.F.DEC.D 3, 4), (Reg.SDM.F.CFG.ORDER 3, 0),
      (Reg.SDM.F.CMP_CFG.CDEC 3, 4), (Reg.SDM.F.CMP_CFG.CORDER 3, 0), (Reg.SDM.PHV_CFG.DEC, 2), (Reg.SDM.DCL_CFG.DEC, 2)] on
    let b : List Bool := [true, true, true, false, true, true]
    s.filterX 3 b [] = some (1 / 2) ∧ s.filterX 3 [] [] = none ∧ (s.cmpY 3 b []).isSome = true ∧ (s.phvX 3 b).isSome = true ∧
    (s.dclX b).isSome = true ∧ s.flag (Reg.SDM.F.CFG.ENABLE 4) = false ∧ dclBitsMv (List.replicate 16 true) = some 2400000 ∧
    dclBitsMv [] = none ∧ dclCodeMv 4095#12 = 2399414 := by decide +kernel

theorem witness_sensing_thresholds :
    let s := { on with dcl := { crossB := 8#4 } }
    let c := { on with trip := { ovCopy := some 900 }, edges := on.edges.set 5 { link := 2 } }
    c.trip.ovCopy = some 900 ∧ (set [(stuckFld 5, 1)] on).flag (stuckFld 5) = true ∧ (c.edges[Fin.ofNat 64 (5 : Fin 80).val]).linked = true ∧
    (on.edges[Fin.ofNat 64 (5 : Fin 80).val]).linked = false ∧ on.dclAcross 1 9000000 = true ∧ (set [(Reg.SDM.DCL_UV.UV_TRIP, 100)] on).dclAcross 3 0 = true ∧
    s.trip.ovCopy = none ∧ s.windowAt 3 1 = false ∧ s.windowAt 3 3 = false ∧
    s.dcl.crossA.getLsbD 1 = false ∧ s.dcl.crossB.getLsbD 1 = false ∧
    s.dcl.crossB.getLsbD 3 = true ∧ s.dcl.crossA.getLsbD 3 = false := by decide

theorem witness_sensing_spares :
    let s := { on with sdm := on.sdm.set 7 { spare := some 16 } }
    let w := { s with groom := { filterWait := [9] } }
    on.filterBusy = false ∧ (on.markFilter 9 true).freeFilters = 48 :: [49, 50, 51] ∧
    ({ on with groom := { live := { badFilters := [48, 49, 50, 51] } } } : State).freeFilters = [] ∧ s.sdm[7].spare = some 16 ∧
    s.filterBusy = true ∧ s.groom.bist = none ∧ s.sdm[9].spare = none ∧ s.groom.filterWait.contains 9 = false ∧
    w.groom.filterWait = 9 :: [] ∧ w.groom.filterWait.contains 9 = true := by decide +kernel

theorem witness_latched : ∃ t, exec (.sdmResRead 3) on = .next t ∧ (∃ u, exec (.sdmResult 3 [true] [] false false 0) t = .next u) ∧
    (∃ u, exec (.sdmResRead 3) t = .next u) := ⟨_, rfl, ⟨_, rfl⟩, ⟨_, rfl⟩⟩

theorem witness_seq :
    let s := { set [(Reg.SDM.F.CFG.ENABLE 3, 1)] on with sdm := on.sdm.set 3 { ch := { seq := 0xFFFF#16 } } }
    s.flag (Reg.SDM.F.CFG.ENABLE 3) = true ∧ s.sdm[3].ch.seq = 0xFFFF#16 ∧
    s.sdm[3].ch.forms (s.get (Reg.SDM.F.CFG.MODE 3)) = true := by decide

theorem witness_quadrature :
    let s := set [(Reg.POS.CH.CFG.ENABLE 2, 1), (Reg.POS.CH.CFG.MODE 2, 1)] on
    s.posMode 2 = 1 ∧ (decide (s.pos[2].a ≠ true) != decide (s.pos[2].b ≠ false)) = true ∧
    s.pos[2].illWin + 1 ≤ s.get (Reg.POS.CH.LIMITS.ILLEGAL_LIMIT 2) ∧
    (let u : State := { s with pos := s.pos.set 2 { illWin := 9 } }
     u.posMode 2 = 1 ∧ u.pos[2].a ≠ true ∧ u.pos[2].b ≠ true ∧
     u.get (Reg.POS.CH.LIMITS.ILLEGAL_LIMIT 2) < u.pos[2].illWin + 1) := by decide

/-- Interface 1 runs in a mode, serving no slot. -/
def sensor (mode : Nat) : State := set [(Reg.POS.CH.CFG.ENABLE 1, 1), (Reg.POS.CH.CFG.MODE 1, mode)] on

theorem witness_position_index :
    let s : State := { sensor 1 with pos := (sensor 1).pos.set 1 { a := true, b := true } }
    let u : State := { set [(Reg.POS.CH.INDEX.INDEX_MODE 1, 2)] s with pos := s.pos.set 1 { a := true, b := true, homed := true, cnt := 2 } }
    s.posMode 1 = 1 ∧ s.pos[1].homed = false ∧ s.pos[1].a = decide (s.get (Reg.POS.CH.INDEX.QUAL 1) / 2 % 2 = 1) ∧
    s.pos[1].b = decide (s.get (Reg.POS.CH.INDEX.QUAL 1) % 2 = 1) ∧
    u.posMode 1 = 1 ∧ u.pos[1].homed = true ∧ u.pos[1].a = decide (u.get (Reg.POS.CH.INDEX.QUAL 1) / 2 % 2 = 1) ∧
    u.pos[1].b = decide (u.get (Reg.POS.CH.INDEX.QUAL 1) % 2 = 1) ∧ u.get (Reg.POS.CH.INDEX.INDEX_MODE 1) = 2 ∧
    indexDev u.pos[1].cnt (u.posCpt 1) ≠ 0 ∧
    (indexDev u.pos[1].cnt (u.posCpt 1)).natAbs ≤ u.get (Reg.POS.CH.INDEX.INDEX_TOL 1) ∧ on.posMode 1 ≠ 1 ∧ on.posMode 1 ≠ 2 ∧
    s.softMin 1 ≤ 0 ∧ 0 ≤ s.softMax 1 ∧ u.softMin 1 ≤ u.pos[1].pos - 2 ∧
    (let v : State := { u with pos := u.pos.set 1 { a := true, b := true, homed := true, cnt := 1000 } }
     v.get (Reg.POS.CH.INDEX.INDEX_TOL 1) < (indexDev v.pos[1].cnt (v.posCpt 1)).natAbs) := by decide +kernel

theorem witness_position_hall :
    (sensor 2).posMode 1 = 2 ∧ hallSector 5 = some 0 ∧ hallSector 7 = none := by decide

theorem witness_position_resolver :
    let s : State := { sensor 3 with pos := (sensor 3).pos.set 1 { base := true, amp := 1, amp7 := 3 } }
    s.posMode 1 = 3 ∧ s.flag (Reg.POS.CH.RES_CFG.PHASE_AUTO 1) = true ∧ s.posValid 1 = true ∧
    s.pos[1].amp * 2 < s.pos[1].amp7 := by decide +kernel

theorem witness_position_serial :
    let s := set [(Reg.POS.CH.SER_CFG0.STATUS_BITS 1, 0), (Reg.POS.CH.SER_CFG1.CRC_INV 1, 0)] (sensor 4)
    let u : State := { s with pos := s.pos.set 1 { frameRun := true } }
    let v : State := { set [(Reg.POS.CH.SER_CFG0.STATUS_BITS 1, 0)] (sensor 5) with pos := s.pos.set 1 { frameRun := true } }
    (s.posMode 1 = 4 ∨ s.posMode 1 = 5) ∧ s.pos[1].frameRun = false ∧ u.pos[1].frameRun = true ∧
    u.get (Reg.POS.CH.SER_CFG0.STATUS_BITS 1) = 0 ∧ u.posMode 1 = 4 ∧ u.flag (Reg.POS.CH.SER_CFG1.CRC_INV 1) = false ∧
    0 % 2 ^ u.get (Reg.POS.CH.SER_CFG1.CRC_LEN 1) = crcBits (u.get (Reg.POS.CH.SER_CFG1.CRC_LEN 1))
      (u.get (Reg.POS.CH.SER_CFG1.CRC_POLY 1))
      (0 % 2 ^ (u.get (Reg.POS.CH.SER_CFG0.MT_BITS 1) + u.get (Reg.POS.CH.SER_CFG0.ST_BITS 1)))
      (u.get (Reg.POS.CH.SER_CFG0.MT_BITS 1) + u.get (Reg.POS.CH.SER_CFG0.ST_BITS 1)) 0 ∧
    0 < u.get (Reg.POS.CH.SER_CFG1.CRC_LEN 1) ∧ 1 % 2 ^ u.get (Reg.POS.CH.SER_CFG1.CRC_LEN 1) ≠ crcBits (u.get (Reg.POS.CH.SER_CFG1.CRC_LEN 1))
      (u.get (Reg.POS.CH.SER_CFG1.CRC_POLY 1))
      (0 % 2 ^ (u.get (Reg.POS.CH.SER_CFG0.MT_BITS 1) + u.get (Reg.POS.CH.SER_CFG0.ST_BITS 1)))
      (u.get (Reg.POS.CH.SER_CFG0.MT_BITS 1) + u.get (Reg.POS.CH.SER_CFG0.ST_BITS 1)) 0 ∧
    v.pos[1].frameRun = true ∧ v.get (Reg.POS.CH.SER_CFG0.STATUS_BITS 1) = 0 ∧ v.posMode 1 = 5 ∧
    v.get (Reg.POS.CH.SER_CFG0.PARITY 1) = 0 ∧ v.flag (Reg.POS.CH.SER_CFG0.GRAY 1) = false := by decide +kernel

theorem witness_position_wires :
    (sensor 1).pairUsed 1 3 = false ∧
    ({ sensor 1 with injs := [⟨Reg.PATROL.INJ_STATUS.addr, false, 4, 4, 0⟩] } : State).windowAt 4 (4 * 1 + 0) = true ∧
    (sensor 1).pairUsed 1 0 = true ∧ (sensor 1).windowAt 4 (4 * 1 + 0) = false ∧ (sensor 1).posResting 1 = true ∧
    (sensor 1).softMin 1 ≤
      signedOf 48 ((sensor 1).get (Reg.POS.CH.PRESET_LO.LO 1) + (sensor 1).get (Reg.POS.CH.PRESET_HI.HI 1) * 2 ^ 32) ∧
    signedOf 48 ((sensor 1).get (Reg.POS.CH.PRESET_LO.LO 1) + (sensor 1).get (Reg.POS.CH.PRESET_HI.HI 1) * 2 ^ 32) ≤
      (sensor 1).softMax 1 := by decide +kernel

theorem witness_position_refused :
    let s : State := { set [(Reg.POS.CH.CFG.NOSLOT 1, 0)] on with slots := on.slots.set 0 { state := .armed } }
    s.posResting 1 = false := by decide

/-- Task 0 runs with budget. -/
def running : State := { set [(Reg.CARVE.TASK.CFG.BUDGET 0, 400)] on with carve := { running := some 0 } }

theorem witness_scalar : running.issues 1 = true ∧ running.issues 2 = true ∧ running.issues 8 = true ∧
    running.issues 10 = true := by decide

theorem witness_vector : running.issues 1 = true ∧ running.issues 2 = true ∧ running.issues ((15 : Fin 16).val + 1) = true := by decide

theorem witness_engine : running.carve.running = some 0 ∧ running.issues 1 = true ∧ running.issues 2 = true ∧
    running.issues 6 = true ∧ running.issues ((3 : Fin 16).val + 1) = true := by decide

theorem witness_budget : on.issues 1 = false ∧ on.issues 10 = false ∧ carveCycles (.sdiv 0 1 2) = some 10 := by decide

theorem witness_words : carveAdmits (.mvma 8 3 16#14 false 0 0) = true ∧ (carveEncode (.mvma 8 3 16#14 false 0 0)).isSome = true ∧
    carveAdmits (.br 3 5) = true ∧ ((5 : Fin 4096).val < 6) := by decide

theorem witness_tasks :
    let s : State := { on with carve := { notReady := [2], waiting := [5], released := true } }
    on.carve.released = false ∧ s.carve.notReady.contains 3 = false ∧ s.carve.waiting.contains 3 = false ∧ s.carve.running ≠ some 3 ∧
    on.carve.waiting = [] ∧ on.carve.running.isSome = false ∧
    s.carve.notReady.contains 2 = true ∧ s.carve.running = none ∧ s.carve.released = true ∧ s.carve.waiting = 5 :: [] ∧
    running.carve.running = some 0 ∧ running.issues 1 = true ∧
    (let u : State := { on with carve := { running := some 0, cycles := 70000 } }
     u.carve.running = some 0 ∧ u.overBudget = true ∧ u.windowAt 7 0 = false ∧
     ({ u with injs := [⟨Reg.PATROL.INJ_STATUS.addr, false, 7, 0, 0⟩] } : State).windowAt 7 0 = true ∧
     ({ set [(Reg.CARVE.TASK.CFG.BUDGET 0, 400)] u with carve := { running := some 0, prog := [0#64] } } : State).overBudget = false) := by decide

theorem witness_profile_limits : (0 : Rat) ≤ 1400 ∧ (0 : Rat) ≤ 4000 ∧ (0 : Rat) ≤ 40000 ∧ (0 : Rat) ≤ 1 / 48000 := by decide +kernel

/-- Slot 1 in the given state. -/
def inState (st : SlotState) (s : State) : State := s.setSlot 1 { s.slot 1 with state := st }

theorem witness_profile :
    let s := inState .run (set [(Reg.PROF.CH.CFG.ENABLE 1, 1)] on)
    s.flag (Reg.PROF.CH.CFG.ENABLE 1) = true ∧ (s.slot 1).state = .run ∧ on.flag (Reg.PROF.CH.CFG.ENABLE 1) = false ∧
    s.chg.phase ≠ .rampDown ∧ (s.slot 1).state.steps = true ∧ (on.slot 1).state.steps = false ∧
    (on.profPort 1).valid = true ∧
    (let u : State := { on with course := { routes := [⟨0x01, 0, 0x13, 0, 1⟩] }, ports := [(portKey 0x13 1 0, { valid := false })] }
     (u.slot 1).state.steps = false ∧ (u.profPort 1).valid = false) := by decide

theorem witness_slalom :
    let legs : List LegRec := [{ slot := 1, function := 1 }]
    let s := inState .run { set [(Reg.SLALOM.SL.CFG.ENABLE 1, 1)] on with
      course := { legs := legs }, carve := { jobs := [1] }, slalom := on.slalom.set 1 { mode := .svm, rotBusy := true } }
    let u : State := { set [(Reg.SLALOM.SL.CFG.ENABLE 1, 1)] on with course := { legs := legs }, carve := { jobs := [1] } }
    let v : State := { u with slalom := on.slalom.set 1 { idled := true } }
    let w : State := { on with carve := { jobs := [1] } }
    s.carve.jobs = 1 :: [] ∧ on.carve.jobs.head? ≠ some 1 ∧ (s.slot 1).state.modulated = true ∧ s.slalom[1].rotHigh = false ∧ s.emfWindow 1 0 = none ∧
    s.flag (Reg.SLALOM.SL.CFG.ENABLE 1) = true ∧ (s.slot 1).state = .run ∧ s.slalom[1].mode = .svm ∧
    s.flag (Reg.SLALOM.SL.CFG.OM_EN 1) = false ∧ s.flag (Reg.SLALOM.SL.CFG.ADV_SVM 1) = false ∧
    s.flag Reg.PWM.GLOBAL.CTRL.LOADALL_MODE = false ∧ s.isPhase 1 0 = true ∧ (s.leg 0).fixed = none ∧
    u.carve.jobs = 1 :: [] ∧ u.flag (Reg.SLALOM.SL.CFG.ENABLE 1) = true ∧ (u.slot 1).state.modulated = false ∧
    u.slalom[1].idled = false ∧ u.isPhase 1 0 = true ∧ (u.slot 1).lineRelease = false ∧
    v.carve.jobs = 1 :: [] ∧ v.flag (Reg.SLALOM.SL.CFG.ENABLE 1) = true ∧ (v.slot 1).state.modulated = false ∧
    v.slalom[1].idled = true ∧ (v.slot 1).lineRelease = false ∧ w.carve.jobs = 1 :: [] ∧ w.flag (Reg.SLALOM.SL.CFG.ENABLE 1) = false ∧
    s.slalom[1].rotBusy = true ∧ (s.slot 1).judged ≠ .probe ∧ (on.slot 1).state = .off ∧ on.slalom[1].rotBusy = false ∧
    s.servingPos 1 = none := by decide

/-- Leg 9 counts up with a period of 15,000 counts and CMPA 6,000. -/
def counting : State :=
  (set [(Reg.PWM.LEG.CFG.MODE 9, 1), (⟨Reg.PWM.LEG.ACT.addr 9 0, 0, 32⟩, 15000), (⟨Reg.PWM.LEG.ACT.addr 9 1, 0, 32⟩, 6000),
    (⟨Reg.PWM.LEG.EVT_ROUTE.addr 9, 2, 1⟩, 1)] on).setLeg 9 { counting := true }

theorem witness_pwm_points :
    let c : Content := { mask := 3#7, words := [20000#32, 7000#32] }
    let s := counting.setLeg 9 { counting := true, fixed := some c, armed := some 0 }
    let u := counting.setLeg 9 { counting := true, fixed := some c, armed := some 1 }
    let v := (set [(Reg.PWM.LEG.CFG.MODE 9, 2)] counting).setLeg 9 { counting := true, nextPeriod := some 9#32 }
    let w := (set [(Reg.PWM.LEG.CFG.MODE 9, 2)] u)
    (on.leg 9).counting = false ∧ (s.leg 9).counting = true ∧ (s.leg 9).fixed = some c ∧ (s.leg 9).armed = some 0 ∧
    u.legMode 9 = 1 ∧ (u.leg 9).armed = some 1 ∧ c.mask.getLsbD 0 = true ∧ w.legMode 9 = 2 ∧ (w.leg 9).armed = some 1 ∧
    v.legMode 9 = 2 ∧ (v.leg 9).fixed = none ∧ (v.leg 9).nextPeriod = some 9#32 ∧
    getBits (counting.act 9 1) 0 21 ≤ counting.actPeriod 9 ∧
    phaseOf (counting.legMode 9) (counting.actPeriod 9) (getBits (counting.act 9 1) 0 21) false <
      spanOf (counting.legMode 9) (counting.actPeriod 9) ∧
    s.midOwns 9 = false ∧ ({ s with probe := { task := .mid, slot := 1 }, course := { legs := List.replicate 10 { slot := 1, function := 1 } } } : State).midOwns 9 = true ∧
    s.flag Reg.PWM.GLOBAL.CTRL.LOADALL_MODE = false ∧
    phaseOf (w.legMode 9) (w.actPeriod 9) (w.actPeriod 9 - getBits (w.act 9 1) 0 21) true < spanOf (w.legMode 9) (w.actPeriod 9) ∧
    counting.get ⟨Reg.PWM.LEG.EVT_PRE.addr 9, 8, 4⟩ = 0 ∧ counting.flag ⟨Reg.PWM.LEG.EVT_ROUTE.addr 9, 2, 1⟩ = true := by decide

theorem witness_pwm_commits :
    let s := set [(Reg.PWM.GLOBAL.CTRL.LOADALL_MODE, 1)] counting
    let u := counting.setLeg 9 { counting := true, armed := some 0 }
    let v := counting.setLeg 9 { counting := true, armed := some 0, fixed := some { mask := 3#7, words := [] } }
    counting.flag Reg.PWM.GLOBAL.CTRL.LOADALL_MODE = false ∧ (u.leg 9).armed.isSome = true ∧ (u.leg 9).fixed = none ∧
    (v.leg 9).fixed.isSome = true ∧ ((counting.setLeg 9 { loadAll := true }).leg 9).loadAll = true ∧
    s.flag Reg.PWM.GLOBAL.CTRL.LOADALL_MODE = true ∧ s.flag Reg.PWM.GLOBAL.LOADALL.val = false ∧ s.legMode 9 ≠ 0 ∧
    on.allResting = true ∧ (inState .run on).allResting = false ∧ 0 < counting.actPeriod 9 ∧ on.trip.syncPending = false ∧
    ({ counting with trip := { syncPending := true } } : State).trip.syncPending = true ∧ (counting.leg 9).nextPeriod = none := by decide

theorem witness_outputs :
    let s := counting.setLeg 9 { counting := true, outA := { ref := true, dtRun := true } }
    let d := set [(Reg.PWM.LEG.MINPULSE.COUNT 9, 7000)] s
    let u := counting.setLeg 9 { counting := true, outA := { dtRun := true }, outB := { stretch := true, on := true } }
    let v := counting.setLeg 9 { counting := true, outA := { dtRun := true } }
    let w : State := { on with course := { interlocks := [⟨1, 0, 2, 0, 0⟩], tgMasks := [0x200#32], legs := List.replicate 10 { trip := 2 } }
                               trip := { held := [0], reqs := [⟨0, 3, 4⟩] } }
    ((s.leg 9).out false).dtRun = true ∧ ((s.leg 9).out false).ref = true ∧ s.putOff 9 false = false ∧
    s.get (Reg.PWM.LEG.MINPULSE.COUNT 9) = 0 ∧ (s.leg 9).forced = none ∧ (on.leg 9).outA.dtRun = false ∧
    d.pulseTaps 9 false 0 = some 192000 ∧ d.get (Reg.PWM.LEG.MINPULSE.COUNT 9) = 7000 ∧ d.flag (Reg.PWM.LEG.MINPULSE.MODE 9) = false ∧
    s.course.interlocks = [] ∧ ((v.leg 9).out false).dtRun = true ∧ ((v.leg 9).out false).ref = false ∧
    v.putOff 9 false = false ∧ u.putOff 9 false = true ∧ ((u.leg 9).out true).stretch = true ∧
    w.course.interlocks[0]? = some ⟨1, 0, 2, 0, 0⟩ ∧ w.linkOverlap 0 = false ∧
    w.trip.held.contains 0 = true ∧ w.overlap ⟨1, 0, 2, 0, 0⟩ = false ∧ w.trip.reqs = [⟨0, 3, 4⟩] ∧ w.trip.resetHold = 0#4 ∧
    (w.legRec 9).trip = 2 ∧ (w.course.tgMasks.getD 0 0#32).getLsbD 9 = true := by decide +kernel

theorem witness_overlap :
    let w : State := { on with
      course := { interlocks := [⟨1, 0, 2, 0, 0⟩] }
      legs := (on.legs.set 1 { outA := { on := true }, liveA := true }).set 2 { outA := { on := true }, liveA := true } }
    w.overlap ⟨1, 0, 2, 0, 0⟩ = true ∧ w.linkOverlap 0 = true := by decide

theorem witness_trip_releases :
    let s := on.setLeg 9 { forceWaitA := true, liveA := true, forceWaitB := true }
    let u := on.setLeg 9 { forceWaitB := true, forceWaitA := true }
    let w : State := { set [(Reg.PWM.TRIP.CFG.LATCH, 1)] on with
      course := { faults := [⟨3, 4, 3, 1, 0, 0⟩] }, trip := { present := [(3, 4)], asserted := 1#16 } }
    (s.leg 9).forceWaitB = true ∧ s.partnersOff 9 1 = false ∧ (s.leg 9).forceWaitA = true ∧ s.partnersOff 9 0 = true ∧
    (u.leg 9).forceWaitB = true ∧ u.partnersOff 9 1 = true ∧ (1#16).getLsbD 0 = true ∧
    (w.get Reg.PWM.TRIP.CFG.LATCH).testBit 0 = true ∧
    w.groupSource 0 = true ∧ on.groupSource 0 = false ∧ w.groupSource 1 = false ∧ (w.get Reg.PWM.TRIP.CFG.LATCH).testBit 1 = false := by decide

theorem witness_trip_inputs :
    let s := set [(Reg.PWM.TRIPIN.CFG.ENABLE 5, 1)] on
    let q := set [(Reg.PWM.TRIPIN.CFG.ENABLE 5, 1), (Reg.PWM.TRIPIN.CFG.POL 5, 1)] on
    let u : State := { on with course := { faults := [⟨3, 5, 3, 1, 2, 0⟩] } }
    let j : Inj := ⟨Reg.PWM.TRIPIN.INJ_STATUS.addr 5, false, 5, 0, 0⟩
    let w : State := { s with injs := [j], tripIns := s.tripIns.set 5 { injSeen := true } }
    let v : State := { w with injs := [{ j with live := true }] }
    let l := set [(Reg.HIMET.STATUS.TEST, 1)] s
    s.flag (Reg.PWM.TRIPIN.CFG.ENABLE 5) = true ∧ s.flag (Reg.PWM.TRIPIN.CFG.POL 5) = false ∧ s.tripIns[5].blanked = false ∧
    s.tripIns[5].active = false ∧ s.tripInj 5 = none ∧ s.tripLevel 5 = false ∧ q.tripLevel 5 = true ∧ q.tripInj 5 = none ∧
    u.faultRec ⟨3, 5⟩ = some ⟨3, 5, 3, 1, 2, 0⟩ ∧
    on.flag (Reg.PWM.TRIPIN.CFG.ENABLE 5) = false ∧ l.liveAllowed = true ∧ s.liveAllowed = false ∧ l.tripInj 5 = none ∧
    ({ s with tripIns := s.tripIns.set 5 { blanked := true } } : State).tripIns[5].blanked = true ∧
    w.tripInj 5 = some j ∧ j.live = false ∧ w.tripIns[5].injSeen = true ∧ w.tripLevel 5 = false ∧ w.causeSet ⟨3, 5⟩ = false ∧
    v.tripInj 5 = some { j with live := true } ∧
    ({ v with injs := [{ j with live := true, seen := 2 }] } : State).tripInj 5 = some { j with live := true, seen := 2 } := by decide

theorem witness_interlock :
    let s : State := { counting with course := { interlocks := [⟨9, 0, 9, 1, 0⟩] } }
    s.noShootThrough ∧ (∀ p ∈ s.course.interlocks, p.legX < 32 ∧ p.legY < 32 ∧ p.outX < 2 ∧ p.outY < 2) := by
  unfold State.noShootThrough; decide

theorem witness_interlock_runs : ∃ t, exec (.pwmBoundary 9) { counting with course := { interlocks := [⟨9, 0, 9, 1, 0⟩] } } = .next t :=
  ⟨_, rfl⟩

/-- Channel 7 mapped to output A of leg 9, powered and in service. -/
def channel (f : EdgeCh → EdgeCh) (s : State) : State :=
  { s with
    course := { chans := List.replicate 8 { leg := 9, unmapped := false, sense := 15 }, legs := List.replicate 10 { slot := 1, function := 2, trip := 0 } }
    edges := s.edges.set 7 (f { link := 2, powered := true }) }

theorem witness_edge_links :
    let s := channel (fun e => { e with holdoff := true, releaseDue := true }) (on.setLeg 9 { liveA := true })
    let u := channel (fun e => { e with out := .on, crcWin := 1000, retrain := true }) on
    let v := channel (fun e => { e with link := 4 }) { on with chop := { waiting := true } }
    s.alive 7 = true ∧ (s.edge 7).link ≠ 0 ∧ (s.linkEpisodes 7).edgeCmd 7 = true ∧ (s.edge 7).out = .off ∧
    (s.edge 7).latch = false ∧ (s.edge 7).releaseDue = true ∧ u.alive 7 = true ∧ (u.linkEpisodes 7).edgeCmd 7 = false ∧ (u.edge 7).out = .on ∧
    (u.edge 7).crcWin = 1000 ∧ (u.edge 7).linked = true ∧ (u.edge 7).retrain = true ∧ (v.edge 7).link = 4 ∧
    (v.chanRec 7).out = 0 ∧ (v.chanRec 7).sense % 2 = 1 ∧ (v.chLeg 7).function = 2 ∧ v.chop.waiting = true ∧
    (v.get Reg.DRIVE.CHOP_ISENSE.ISENSE : Int) < (3000#16).toInt ∧ on.alive 7 = false := by decide

theorem witness_skew : (set [(Reg.EDGE.CH.SKEW.TRIM 7, 63)] on).get (Reg.EDGE.CH.SKEW.TRIM 7) = 63 ∧
    125 < (65336#16).toInt.natAbs ∧ (65336#16).toInt < 0 := by decide

/-- Channels 6 and 7 as a pair on output A of leg 9. -/
def paired (f g : EdgeCh → EdgeCh) (s : State) : State :=
  { s with
    course := { chans := List.replicate 6 {} ++ [{ leg := 9, unmapped := false, partner := 7, sense := 15, qg := 100 },
        { leg := 9, unmapped := false, partner := 6, sense := 15, qg := 100 }], legs := List.replicate 10 { slot := 1, function := 1, trip := 0 } }
    edges := (s.edges.set 6 (f { link := 2, powered := true })).set 7 (g { link := 2, powered := true }) }

theorem witness_edge_commands :
    let s := paired id id on
    let u := paired id (fun e => { e with out := .parked }) on
    let v := set [(⟨Reg.EDGE.CH.CAUSE.addr 7, 4, 1⟩, 1)] s
    s.alive 7 = true ∧ (s.edge 7).busy = false ∧ s.edgeResting 7 = true ∧ s.mate 7 = some 6 ∧
    s.parkable 7 = true ∧ (s.edge 7).out ≠ .parked ∧ u.mate 7 = some 6 ∧ (u.edge 7).out = .parked ∧
    u.get (Reg.EDGE.CH.CAUSE.CAUSES 7) / 8 % 128 = 0 ∧ v.edgeBit 7 4 = true ∧ (v.edge 7).cmdOn = false ∧
    (v.edge 6).cmdOn = false ∧ (v.edge 7).out = .off ∧ v.parkable 7 = true ∧ (s.edge 6).out ≠ .parked ∧ s.injAt (edgeInj 7) = none ∧
    (let w := set [(⟨Reg.EDGE.CH.CAUSE.addr 7, 4, 1⟩, 1)] (channel id on)
     w.mate 7 = none ∧ w.edgeBit 7 4 = true ∧ (w.edge 7).out ≠ .parked ∧ (w.edge 7).soft = false) ∧
    s.detAllowed 7 2 = true ∧ s.mapped 7 = true ∧ on.mapped 7 = false ∧ on.mate 7 = none ∧
    (paired id (fun e => { e with link := 4 }) on).parkable 7 = false := by decide +kernel

theorem witness_edge_guards :
    let s := inState .run (channel (fun e => { e with selftest := some 1 }) on)
    let u := channel (fun e => { e with prot2 := 0x03840000#32 }) on
    let w : State := { channel id on with course := { chans := List.replicate 8 { leg := 9, unmapped := false } } }
    s.alive 7 = true ∧ (s.edge 7).busy = true ∧ s.edgeResting 7 = false ∧ w.alive 7 = true ∧ w.detAllowed 7 2 = false ∧
    u.detAllowed 7 5 = true ∧ u.testing 7 5 = false ∧ u.edgeLive 7 5 = false ∧
    (800#16).toNat ≤ getBits (u.edge 7).prot2 16 12 ∧ (u.edge 7).ot = false ∧ (u.edge 7).soft = false := by decide

theorem witness_protection :
    let s := channel (fun e => { e with out := .on }) on
    let b := channel (fun e => { e with out := .on, blank := true, ocOver := true }) on
    let o := channel id on
    let f := channel (fun e => { e with out := .soft1 }) on
    let p := paired (fun e => { e with out := .on }) (fun e => { e with out := .soft1, flags := [(0, true)] }) on
    s.alive 7 = true ∧ s.injAt (edgeInj 7) = none ∧ (s.edge 7).isOn = true ∧ s.detAllowed 7 0 = true ∧ s.detAllowed 7 1 = true ∧
    s.detAllowed 7 2 = true ∧ (s.edge 7).blank = false ∧ (s.edge 7).ocOver = false ∧ (b.edge 7).blank = true ∧ (b.edge 7).ocOver = true ∧
    (getBits (s.edge 7).prot0 0 12 : Int) < (3000#16).toInt ∧ (getBits (s.edge 7).prot0 16 12 : Int) < (3000#16).toInt ∧
    100 * (getBits (s.edge 7).prot1 0 8 : Int) < (12000#16).toInt ∧ (1000 : Int) < (s.railsMv 7).1 - 1500 ∧
    25 * getBits (s.edge 7).prot1 24 8 ≤ 2000 ∧ 25 * getBits (b.edge 7).prot1 8 8 ≤ 1000000 ∧ s.testing 7 4 = false ∧
    (o.railsMv 7).2 + 3000 < 2000 ∧ f.alive 7 = true ∧ (f.edge 7).soft = true ∧ ((channel (fun e => { e with out := .parked }) on).edge 7).out = .parked ∧ 0 ≤ f.softLevel 7 ∧
    (o.edge 7).out = .off ∧ (o.edge 7).flags = [] ∧ (p.edge 7).flags ≠ [] ∧ (p.chLeg 7).trip = 0 ∧ (p.chLeg 7).slot < 4 ∧
    p.mate 7 = some 6 ∧ p.alive 6 = true ∧ (p.edge 6).out = .on ∧ on.alive 7 = false := by decide

theorem witness_protection_tests :
    let x := channel (fun e => { e with selftest := some 2 }) on
    let y := channel (fun e => { e with selftest := some 5 }) on
    let j : Inj := ⟨edgeInj 7, false, 3, 7, 0⟩
    let z := { channel id on with injs := [j] }
    let l := { channel id on with injs := [{ j with live := true }] }
    let c : State := { channel id on with course := { (channel id on).course with interlocks := [⟨9, 0, 9, 1, 0⟩] } }
    (x.edge 7).selftest = some (2 : Fin 6).val ∧ (x.edge 7).out ≠ .on ∧ (x.edge 7).soft = false ∧
    x.nextDet 7 3 = some 3 ∧ (y.edge 7).selftest = some (5 : Fin 6).val ∧ y.nextDet 7 6 = none ∧
    stepPasses 2 (some 60) (some 100) 200 = true ∧ stepPasses 2 (some 61) (some 100) 200 = false ∧
    z.injAt (edgeInj 7) = some j ∧ j.live = false ∧ j.target = (3 : Fin 6).val ∧ l.edgeLive 7 3 = true ∧ l.alive 7 = true ∧
    (⟨9, 0, 9, 1, 0⟩ : Interlock).has (c.chanRec 7).leg (c.chanRec 7).out = true := by decide

theorem witness_switch_off :
    let s := channel (fun e => { e with latch := true }) (on.setLeg 9 { liveA := true })
    (s.edge 7).latch = true ∧ (s.edge 7).out ≠ .on ∧ s.edgeCmd 7 = true := by decide

theorem witness_switch_off_runs :
    ∃ t, exec (.downlinkFrame 7 true true) (channel (fun e => { e with latch := true }) (on.setLeg 9 { liveA := true })) = .next t :=
  ⟨_, rfl⟩

/-- Slot 0 in the given state. -/
def slot0 (st : SlotState) (s : State) : State := s.setSlot 0 { s.slot 0 with state := st, above := false, reason := .host }

theorem witness_drive_commands :
    let a := set [(Reg.PISTE.STATUS.STATE, 3)] (slot0 .off on)
    let r := slot0 .run on
    let c : State := { slot0 .charge on with chg := { phase := .active } }
    let f : State := { slot0 .charge on with chg := { phase := .closing, fbHigh := false } }
    a.commandable 0 = true ∧ (a.slot 0).judged.resting = true ∧ a.courseActive = true ∧ (a.slot 0).above = false ∧
    a.hardCause 0 = false ∧ a.driveBlocked = false ∧ (slot0 .armed on).commandable 0 = true ∧
    ((slot0 .armed on).slot 0).judged = .armed ∧ on.liveBusy = false ∧ on.swapping = false ∧ (r.slot 0).judged = .run ∧
    (c.slot 0).judged = .charge ∧ c.chg.phase = .active ∧ f.fbClosed = true ∧ f.commandable 0 = true ∧ ((slot0 .glide on).slot 0).judged = .glide ∧
    ((slot0 .glide on).slot 0).reason = .host := by decide

theorem witness_drive_recovery :
    let s := slot0 .safe on
    let b := slot0 .off (set [(⟨Reg.DRIVE.SLOT.STANDSTILL_SPEED.addr 0, 0, 32⟩, 0x40A00000), (Reg.DRIVE.SLOT.PARAMS.DISCH_EN 0, 1)] on)
    let d : State := { b with course := { legs := [{ function := 3 }] }, dcl := { a := { valid := true, res := 0x43800000#32 } } }
    let e : State := { b with dcl := { a := { valid := true } } }
    (s.slot 0).judged = .safe ∧ (s.slot 0).above = false ∧ s.hardCause 0 = false ∧ s.patrol.f4 = false ∧
    s.get Reg.PWM.TRIP.FAILSIDE.SIDES / 4 ^ (0 : Fin 4).val % 4 = 0 ∧ s.trip.ov = false ∧ s.phaseHeld 0 = false ∧
    d.commandable 0 = true ∧ (d.slot 0).judged.resting = true ∧ (∀ k : Fin 4, k ≠ 0 → (d.slot k).state.resting = true) ∧
    d.slow 0 = true ∧ d.driveBlocked = false ∧ d.linkDischarged = false ∧ d.hasDischLeg = true ∧ e.linkDischarged = true ∧
    e.hasDischLeg = false ∧ b.linkDischarged = false ∧ b.flag (Reg.DRIVE.SLOT.PARAMS.DISCH_EN 0) = true ∧ on.chargeDeny ≠ 0 := by decide +kernel

/-- D0 armed at rest with a good source. -/
def plugged : State :=
  let s := set [(Reg.DRIVE.CHG.CFG.TOPO, 1), (Reg.DRIVE.CHG.STATUS.SOURCE_OK, 1), (⟨Reg.DRIVE.SLOT.STANDSTILL_SPEED.addr 0, 0, 32⟩, 0x40A00000)] (slot0 .armed on)
  let u : State := { s with chg := { s.chg with parkHigh := false, fbHigh := true } }
  u.setSlot 0 { u.slot 0 with stale := false, nsrc := 1, restRun := true }

theorem witness_charge : plugged.chargeDeny = 0 ∧ (plugged.slot 0).judged = .armed ∧ plugged.driveBlocked = false ∧
    plugged.commandable 0 = true ∧ plugged.slow 0 = true := by decide +kernel

theorem witness_drive_refused :
    let s : State := { on with trip := { resetHold := 1#4 } }
    (on.slot 0).judged.resting = true ∧ (on.slot 0).judged ≠ .armed ∧ (on.slot 0).judged ≠ .run ∧ (on.slot 0).judged ≠ .charge ∧
    (on.slot 0).judged ≠ .glide ∧ (on.slot 0).judged ≠ .stopped ∧ (on.slot 0).judged ≠ .safe ∧ s.commandable 0 = false ∧ s.trip.resetHold.getLsbD 0 = true ∧
    ((slot0 .run on).slot 0).judged.resting = false := by decide

theorem witness_drive_timers :
    let c := (slot0 .catching on).setSlot 0 { (slot0 .catching on).slot 0 with method := 1, origin := .safe, tries := 2 }
    let g := set [(⟨Reg.DRIVE.SLOT.STANDSTILL_SPEED.addr 0, 0, 32⟩, 0x40A00000), (Reg.DRIVE.SLOT.TIMES.GLIDE_TIMEOUT 0, 5)] (slot0 .glide on)
    let d := (slot0 .discharge on).setSlot 0 { (slot0 .discharge on).slot 0 with dischPhase := 1 }
    let e := set [(Reg.DRIVE.SLOT.PARAMS.DISCH_EN 0, 1)] d
    let h : State := { c with slalom := c.slalom.set 0 { lockHigh := true } }
    (c.slot 0).judged = .catching ∧ (c.slot 0).method = 1 ∧ (c.slot 0).stillDue = false ∧ c.slalom[(0 : Fin 4)].lockHigh = false ∧
    (h.slot 0).judged = .catching ∧ h.slalom[(0 : Fin 4)].lockHigh = true ∧ 2 ≤ (h.slot 0).tries ∧
    ((slot0 .catching on).slot 0).tries < 2 ∧ ((slot0 .run on).slot 0).state = .run ∧ g.slow 0 = true ∧ (g.slot 0).judged = .glide ∧
    (g.slot 0).reason ≠ .reverse ∧ ((g.setSlot 0 { g.slot 0 with reason := .reverse }).slow 0) = true ∧
    g.get (Reg.DRIVE.SLOT.TIMES.GLIDE_TIMEOUT 0) ≠ 0 ∧ (e.slot 0).state = .discharge ∧ (e.slot 0).dischPhase = 1 ∧
    e.linkDischarged = false ∧ e.flag (Reg.DRIVE.SLOT.PARAMS.DISCH_EN 0) = true ∧
    ((d.setSlot 0 { d.slot 0 with dischPhase := 2 }).slot 0).dischPhase = 2 := by decide

theorem witness_chopper :
    let s : State := { set [(Reg.SDM.DCL_OV0.OV_CHOP, 900), (Reg.DRIVE.CHOP_THR.HYS, 20), (Reg.DRIVE.CHOP_THR.DV, 1), (Reg.SLALOM.SL.CFG.ENABLE 0, 1)] on with
      chop := { req := true, waiting := true, startMv := 900000 }, trip := { ov := true } }
    s.chop.req = true ∧ 800000 < (s.get Reg.SDM.DCL_OV0.OV_CHOP - s.get Reg.DRIVE.CHOP_THR.HYS) * 1000 ∧ s.chop.dischReq = false ∧
    s.chop.waiting = true ∧ 899000 + s.get Reg.DRIVE.CHOP_THR.DV * 1000 ≤ s.chop.startMv ∧
    s.chop.startMv < 900000 + s.get Reg.DRIVE.CHOP_THR.DV * 1000 ∧ s.chop.sensed = false ∧
    (∀ k : Fin 4, (s.slot k).state ≠ .discharge) ∧ s.flag (Reg.SLALOM.SL.CFG.ENABLE 0) = true ∧ s.trip.ov = true ∧
    s.dcl.crossA.getLsbD 1 = false ∧ s.dcl.crossB.getLsbD 1 = false := by decide

theorem witness_charging :
    let f (p : ChgPhase) (c : Bool) : State := { slot0 .charge (set [(Reg.DRIVE.CHG.STATUS.SOURCE_OK, 1)] on) with chg := { phase := p, fbHigh := !c, settle := c } }
    (f .closing false).flag Reg.DRIVE.CHG.STATUS.SOURCE_OK = true ∧ (f .closing false).sourceGood = false ∧ (f .idle false).chg.phase = .idle ∧
    (f .closing false).fbClosed = false ∧ (f .closing true).chg.settle = true ∧ (f .active true).chg.phase = .active ∧
    (f .rampDown true).fbClosed = true ∧ (f .opening true).chg.phase = .opening ∧ ((f .opening true).slot 0).judged = .charge ∧
    on.flag Reg.DRIVE.CHG.CFG.FB_POL = false ∧
    (let u : State := (f .idle true).setSlot 0 { (f .idle true).slot 0 with state := .safe, prev := .charge }
     u.safeAfterCharge = true ∧ u.fbClosed = true) ∧ ((f .active true).slot 0).state = .charge ∧ (on.slot 0).judged ≠ .charge := by decide

theorem witness_source :
    let s : State := { set [(Reg.DRIVE.CHG.CFG.TOPO, 2), (Reg.DRIVE.CHG.VWIN.VMAX, 500)] on with chg := { rms := [0x43C80000#32] } }
    s.sourceGood = true := by decide +kernel

/-- Three lanes voting, three judges. -/
def lanes : State := { set [(Reg.TRIAD.STATUS.MODE, 0), (Reg.TRIAD.STATUS.VOTING, 7), (Reg.TRIAD.STATUS.JUDGES, 7)] on with clk := { rootRuns := true } }

theorem witness_lanes :
    let r : State := { set [(Reg.TRIAD.STATUS.MODE, 1), (Reg.TRIAD.STATUS.SPARE_READY, 0)] lanes with triad := { spare := none, sweepDone := true } }
    let b : State := { r with carve := { running := some 0 } }
    lanes.laneMode = 0 ∧ lanes.clk.rootRuns = true ∧ lanes.voting = 7#4 ∧ lanes.judges = 7#3 ∧
    let w : CompareWord := ⟨3#32, 5#512, 15#64⟩
    let words : Vector CompareWord 4 := #v[w, w, ⟨3#32, 6#512, 15#64⟩, w]
    lanes.noneRuns Reg.TRIAD.INJ_STATUS.addr = true ∧ noneAlike (wordsOf words lanes.voting) = false ∧
    noneAlike (wordsOf #v[w, ⟨3#32, 6#512, 15#64⟩, ⟨3#32, 7#512, 15#64⟩, w] lanes.voting) = true ∧ votedPoint .outPort = true ∧
 (lanes.triad.times.getD 1 []).length < 2 ∧
    (set [(Reg.TRIAD.STATUS.MODE, 3)] lanes).laneMode = 3 ∧ r.laneMode = 1 ∧ r.triad.sweepDone = true ∧ r.lanesIdle = true ∧
    2 ≤ ones lanes.voting ∧ (0xF#4 &&& lanes.voting) = lanes.voting ∧ (0#4 &&& lanes.voting) = 0#4 ∧ (2#4 &&& lanes.voting) = 1#4 <<< 1 ∧
    ({ lanes with triad := { times := [[], [5, 4], [], []] } } : State).triad.times.getD 1 [] = [5, 4] ∧ lanes.liveFlip 1 2 = false ∧ r.spareReady = none ∧ ones (lanes.voting &&& ~~~(6#4 &&& lanes.voting)) < 2 ∧
    r.triad.heldReports = [] ∧ r.triad.spare ≠ some (r.get Reg.TRIAD.STATUS.ODD) ∧ b.lanesIdle = false ∧ r.spareReady = none ∧
    lanes.voting.getLsbD 2 = true := by decide +kernel

theorem witness_lane_hour : ({ lanes with clk := {} } : State).now.1.1 < 4 + 3600 := by decide +kernel

theorem witness_classify :
    let f (c g b : Nat) (m : Mark) : State := { slot0 .run on with
      course := { slots := [{ enable := true }], faults := [⟨g, b, c, 1, 255, 0⟩] }, toClassify := [⟨g, b, m⟩] }
    let o : State := { on with slots := #v[{ state := .run, obsDue := true }, {}, {}, {}] }
    on.toClassify = [] ∧ (o.slot 0).obsDue = true ∧ (o.slot 0).state = .run ∧ (∀ j : Fin 4, j ≠ 0 → (o.slot j).obsDue = false) ∧
    (∀ i : Fin 4, ((f 3 20 1 .real).slot i).obsDue = false) ∧ (f 3 20 1 .shadow).nextSetting (f 3 20 1 .shadow).toClassify = some ⟨20, 1, .shadow⟩ ∧
    (f 2 20 1 .real).nextSetting (f 2 20 1 .real).toClassify = some ⟨20, 1, .real⟩ ∧
    ((f 1 20 1 .real).escalate ⟨20, 1⟩ ((f 1 20 1 .real).classOf ⟨20, 1⟩)).1 = 1 ∧
    ((f 2 20 1 .real).escalate ⟨20, 1⟩ ((f 2 20 1 .real).classOf ⟨20, 1⟩)).1 = 2 ∧ inMask ((f 2 20 1 .real).slotsOf ⟨20, 1⟩) 0 = true ∧ (f 2 20 1 .real).reacts 0 = true ∧
    ((f 2 20 1 .real).slot 0).judged = .run ∧ (f 3 20 1 .real).classOf ⟨20, 1⟩ = 3 ∧ (f 4 20 1 .real).classOf ⟨20, 1⟩ = 4 := by decide

theorem witness_patrol :
    let s : State := { set [(Reg.TRIAD.STATUS.JUDGES, 7), (Reg.PISTE.STATUS.STATE, 3)] on with supply := { below16 := false } }
    let w : State := { set [(Reg.PATROL.WDOG_CFG.ENABLE, 1), (Reg.PATROL.INJ_TARGET.TARGET, 9)] (slot0 .run on) with patrol := { wdogArmed := true } }
    let j : State := { w with injs := [⟨Reg.PATROL.INJ_STATUS.addr, false, 9, 0, 0⟩] }
    s.realCauses.any (fun c => decide (s.classNow c = 4)) = false ∧ s.flag Reg.CLK.STATUS.BRIDGE = false ∧ s.judges = 7#3 ∧
    s.courseActive = true ∧ s.supply.below16 = false ∧ on.courseActive = false ∧ w.wdogOn = true ∧
    w.get Reg.PATROL.WDOG_CFG.MIN ≤ 1000 ∧ w.windowAt 8 0 = false ∧ on.wdogOn = false ∧ (w.slot 0).state.watched = true ∧
    w.windowAt 9 0 = false ∧ w.patrolTarget (w.get Reg.PATROL.INJ_TARGET.TARGET) (w.get Reg.PATROL.INJ_TARGET.INDEX) = true ∧
    w.get Reg.PATROL.INJ_TARGET.TARGET ≠ 10 ∧ w.noneRuns Reg.PATROL.INJ_STATUS.addr = true ∧
    j.injAt Reg.PATROL.INJ_STATUS.addr = some ⟨Reg.PATROL.INJ_STATUS.addr, false, 9, 0, 0⟩ ∧ j.causeSet ⟨0, 1⟩ = false ∧
    ({ w with injs := [⟨Reg.PATROL.INJ_STATUS.addr, false, 8, 0, 0⟩] } : State).windowAt 8 0 = true ∧
    ({ on with injs := [⟨Reg.TRIAD.INJ_STATUS.addr, true, 4, 0, 0⟩] } : State).injAt Reg.TRIAD.INJ_STATUS.addr = some ⟨Reg.TRIAD.INJ_STATUS.addr, true, 4, 0, 0⟩ ∧
    on.classOf ⟨3, 4⟩ < 8 := by decide

/-- Sequence 3 enabled with the given trigger and phase. -/
def sequence (trig : Nat) (x : HkaSeq) : State :=
  { set [(Reg.HKA.SEQ.CFG.ENABLE 3, 1), (Reg.HKA.SEQ.CFG.TRIG 3, trig), (Reg.HKA.SEQ.CFG.LEG 3, 9), (Reg.HKA.SEQ.CFG.LEN 3, 1),
    (Reg.HKA.SEQ.CFG.PD 3, 1), (Reg.HKA.SEQ.ENTRY.TRK 3 0, 5), (Reg.HKA.TRK.CFG.ENABLE 5, 1), (Reg.HKA.TRK.CFG.WMODE 5, 1)] on with
    hka := { seqs := (Vector.replicate 8 {}).set 3 x, fails := (Vector.replicate 9 0).set 3 2 }, hkaEvents := [9] }

theorem witness_hka_sequences :
    (sequence 1 {}).seqOn 3 = true ∧ (sequence 1 {}).hka.seqs[3].phase = .idle ∧ (sequence 1 {}).get (Reg.HKA.SEQ.CFG.TRIG 3) = 1 ∧
    (sequence 2 {}).hkaEvents = [9] ∧ (sequence 2 {}).get (Reg.HKA.SEQ.CFG.TRIG 3) = 2 ∧ (sequence 2 {}).get (Reg.HKA.SEQ.CFG.LEG 3) = 9 ∧
    (sequence 3 {}).get (Reg.HKA.SEQ.CFG.TRIG 3) = 3 ∧ (sequence 1 { phase := .pass }).hka.seqs[3].phase = .pass ∧
    (sequence 1 { phase := .pass }).hka.seqs[3].entry < (sequence 1 { phase := .pass }).get (Reg.HKA.SEQ.CFG.LEN 3) ∧
    (sequence 1 {}).get (Reg.HKA.SEQ.ENTRY.TRK 3 0) = 5 ∧ (sequence 1 {}).flag (Reg.HKA.TRK.CFG.ENABLE 5) = true ∧
    (sequence 1 {}).get (Reg.HKA.TRK.CFG.WMODE 5) = 1 ∧ (sequence 1 {}).injAt Reg.HKA.INJ_STATUS.addr = none ∧
    (sequence 1 { phase := .pass, entry := 1 }).get (Reg.HKA.SEQ.CFG.LEN 3) ≤ 1 ∧ (sequence 1 { phase := .check }).hka.seqs[3].phase = .check ∧
    (sequence 1 { phase := .delay }).hka.seqs[3].phase = .delay ∧ (sequence 1 {}).flag (Reg.HKA.SEQ.CFG.PD 3) = true ∧
    (sequence 1 {}).hka.fails[(sequence 1 {}).seqCore 3] = 2 ∧ 8 < (9#12).toNat ∧ 2040 ≤ (2048#12).toNat ∧ (2048#12).toNat ≤ 2056 := by decide

theorem witness_hka_others :
    let s : State := { set [(Reg.HKA.INJ_TARGET.INDEX, 5), (Reg.HKA.TRK.LIM.EN 5, 1)] (sequence 1 {}) with
      hka := { trks := (Vector.replicate 64 {}).set 5 { count := 1, full := some ⟨1, 1, 1, 1, 0#16⟩ }, bring := some { seq := 3, core := 8, on := true, passes := 16 } } }
    0 < s.hka.trks[5].count ∧ s.hka.trks[5].full = some ⟨1, 1, 1, 1, 0#16⟩ ∧ s.get Reg.HKA.INJ_TARGET.TARGET = 0 ∧
    s.get Reg.HKA.INJ_TARGET.INDEX = 5 ∧ s.flag (Reg.HKA.TRK.LIM.EN 5) = true ∧ s.hka.bring = some ⟨3, 8, true, 16⟩ ∧
    s.liveAllowed = false ∧ s.servedBy 4 = some 4 ∧ s.servedBy 8 = some 3 ∧
    ({ s with injs := [⟨Reg.HKA.INJ_STATUS.addr, false, 0, 5, 0⟩] } : State).injAt Reg.HKA.INJ_STATUS.addr =
      some ⟨Reg.HKA.INJ_STATUS.addr, false, 0, 5, 0⟩ ∧
    ({ s with injs := [⟨Reg.HKA.INJ_STATUS.addr, false, 1, 3, 0⟩] } : State).checkInj 3 =
      some ⟨Reg.HKA.INJ_STATUS.addr, false, 1, 3, 0⟩ := by decide

theorem witness_probe :
    let s : State := { set [(⟨Reg.DRIVE.SLOT.STANDSTILL_SPEED.addr 0, 0, 32⟩, 0x40A00000), (⟨Reg.PROBE.MID_VDC.addr, 0, 32⟩, 0)] on with
      course := { legs := [{ slot := 0, function := 1 }, { slot := 0, function := 1 }] } }
    let m : State := { s with probe := { task := .mid, slot := 0 } }
    let v : State := { s with course := { s.course with slots := [{ polePairs := 4 }] }, probe := { task := .mid, slot := 0, posRef := some (0, 70000) } }
    let c : State := { s with probe := { task := .cable, slot := 0, leg := 0 } }
    s.probeReady 0 = true ∧ s.phaseFrom 0 0 = some 0 ∧ m.probe.task = .mid ∧ m.midMotion = false ∧ m.midRange = false ∧ v.probe.task = .mid ∧ v.probe.posRef = some (0, 70000) ∧ v.midMotion = true ∧ m.probe.slot = (0 : Fin 4).val ∧ c.probe.task = .cable ∧ c.probe.leg < 32 ∧
    m.probeReady 1 = false ∧ on.phaseFrom 0 0 = none ∧ c.phaseFrom c.probe.slot (c.probe.leg + 1) = some 1 ∧ (c.phaseFrom 0 2) = none ∧ s.get Reg.PROBE.INJ_TARGET.TARGET < 4 ∧
    s.noneRuns Reg.PROBE.INJ_STATUS.addr = true ∧ m.midOwns 0 = true ∧
    ({ m with dcl := { a := { res := 0x42000000#32, valid := true } } } : State).higherDc = some 0x42000000#32 ∧ 4 ≤ (set [(Reg.PROBE.INJ_TARGET.TARGET, 4)] s).get Reg.PROBE.INJ_TARGET.TARGET ∧
    ({ s with injs := [⟨Reg.PROBE.INJ_STATUS.addr, true, 2, 0, 0⟩] } : State).injAt Reg.PROBE.INJ_STATUS.addr =
      some ⟨Reg.PROBE.INJ_STATUS.addr, true, 2, 0, 0⟩ := by decide +kernel

theorem witness_cable :
    let c : State := { on with
      course := { legs := [{ slot := 0, function := 1 }], chans := [{ leg := 0, out := 1, unmapped := false, sense := 8, qg := 100 }] }
      probe := { task := .cable, slot := 0, leg := 0 } }
    c.primaryB c.probe.leg = some 0 ∧ (c.chanRec 0).sense / 8 % 2 = 1 ∧
    (((fRat (c.rd Reg.PROBE.VP.addr) * (((1000 : Nat) : Rat) * 2 / 3 / 4) / 40 + 1 / 2).floor.toNat) < 65536) ∧
    (c.chanRec (0 : Fin 64).val).leg = c.probe.leg := by decide +kernel

theorem witness_groomer :
    let l : State := { set [(Reg.TRIAD.STATUS.MODE, 0)] on with groom := { live := { lanes := 8#4, marked := [(0, 7)] } }, triad := { spare := none } }
    let b : State := { l with groom := { bist := some ⟨3, .returnLane⟩ } }
    let e : State := { l with groom := { live := { rows := List.replicate 128 0 } } }
    let st : State := { on with svc := { running := 1, staging := some ⟨[]⟩ } }
    let so : State := { st with groom := { live := { sectors := List.replicate 256 (0, 0) } } }
    let w := set [(Reg.GROOM.INJ_TARGET.INDEX, 7), (Reg.SDM.F.CFG.INPUT_A 0, 7)] (channel id on)
    on.groom.bist = none ∧ on.bistKind (0x61#8).toNat = some .idle ∧ on.bistKind (0x7F#8).toNat = none ∧
    lanes.bistKind 1 = none ∧ (set [(Reg.TRIAD.STATUS.SPARE_READY, 1)] { lanes with triad := { spare := some 3 } }).bistKind 1 = some .lane ∧
    ({ b with groom := { bist := some ⟨0x10, .inUse⟩ } } : State).bistReady ⟨0x10, .inUse⟩ = false ∧ b.groom.bist = some ⟨3, .returnLane⟩ ∧
    b.bistReady ⟨3, .returnLane⟩ = true ∧ l.laneMode = 0 ∧ l.groom.live.lanes.getLsbD (3#8).toNat = true ∧ l.laneMode ≠ 1 ∧
    on.edgeResting 7 = true ∧ w.get Reg.GROOM.INJ_TARGET.TARGET = 0 ∧ w.get Reg.GROOM.INJ_TARGET.INDEX = 7 ∧ w.alive 7 = true ∧
    (w.senseGain 7).isSome = true ∧ w.noneRuns Reg.GROOM.INJ_STATUS.addr = true ∧ on.bistKind 0x12 = some .inUse ∧ on.spareCore = some 8 ∧ on.coreUsed 2 = some 2 ∧
    on.bistKind 0x25 = some .inUse ∧ on.unitUsed 5 = some 5 ∧ on.filterBring = false ∧ 0 < on.rowsLeft ∧ e.rowsLeft = 0 ∧
    on.get Reg.GROOM.MEM_CFG.ROW_CE_LIMIT ≤ 4 ∧ on.get Reg.GROOM.MEM_CFG.SECTOR_CE_LIMIT ≤ 8 ∧ ¬ on.get Reg.GROOM.MEM_CFG.ROW_CE_LIMIT ≤ 3 ∧
    st.svc.staging.isSome = true ∧ (0 : Fin 2) ≠ st.svc.running ∧ 0 < st.sectorsLeft 0 ∧ so.sectorsLeft 0 = 0 ∧ so.svc.staging.isSome = true ∧
    (0, 7) ∈ l.groom.live.marked ∧ (0, 8) ∉ l.groom.live.marked := by decide +kernel

theorem witness_reset :
    let r : State := { on with life := .reset, rst := { sources := 4#9, reach := 1, block := some 13, log := [⟨4#9, 1, 0, 0, 0⟩] } }
    let h : State := { on with supply := { holdup := true }, triad := { resetDue := true }, patrol := { supDue := true } }
    on.life = .run ∧ r.life = .reset ∧ r.rst.reach ≤ 2 ∧ State.reset.life = .noSupply ∧ State.reset.rst.active &&& 0x1FC#9 = 0#9 ∧
    h.supply.holdup = true ∧ h.life ≠ .noSupply ∧ h.triad.resetDue = true ∧ h.patrol.supDue = true ∧ on.allResting = true ∧
    (∀ i : Fin 4, (on.slotRec i.val).enable = false ∨ on.slow i = true) ∧ (inState .run on).allResting = false ∧
    on.rst.block = none ∧ on.blockAllowed (13 : Fin 32).val = true ∧ on.blockIdle false (13 : Fin 32).val = true ∧
    { on with swapping := true }.swapping = true ∧ on.swapping = false ∧ State.reset.triad.resetDue = false ∧ State.reset.patrol.supDue = false ∧
    { State.reset with rst := { active := 4#9 } }.rst.active &&& 0x1FC#9 ≠ 0#9 ∧ on.rst.log[(0 : Fin 16).val]? = none ∧ on.blockAllowed 1 = false ∧ r.rst.block = some 13 ∧
    r.rst.log[(0 : Fin 16).val]? = some ⟨4#9, 1, 0, 0, 0⟩ ∧ srcReach 0 < 2 := by decide

theorem witness_reset_reach : on.life = .run ∧ on.trip.resetHold = 0#4 ∧ on.dcl.crossA.getLsbD 1 = false ∧ on.dcl.crossB.getLsbD 1 = false := by decide

/-- A lift environment in which everything is good. -/
def goodEnv : LiftEnv := ⟨true, 7#3, false, true, true, none, true, true, true, true, [], 200, [], [0#32, 0#32, 0#32, 0#32], 0x44000000#32, 0x44000000#32, [], [], [], 5000⟩

theorem witness_lifts :
    let c : State := { State.reset with life := .lifting }
    let w : State := { c with rst := { reach := 2 } }
    let b : State := { c with rst := { waitL2 := true } }
    let h : State := { c with course := { legs := [{ slot := 0, function := 1 }] }, trip := { resetHold := 1#4 },
                              legs := c.legs.set 0 { hold := some .aOn, liveA := true } }
    c.life = .lifting ∧ on.life ≠ .lifting ∧ c.trip.resetHold.getLsbD 0 = false ∧ c.rst.reach ≤ 1 ∧ c.rst.waitL2 = false ∧ goodEnv.trims ≠ 0#3 ∧ goodEnv.inRange = true ∧ goodEnv.cleared = true ∧
    goodEnv.bistFail = none ∧ c.himet.level ≠ 2 ∧ goodEnv.knownAnswers = true ∧ goodEnv.storeGood = true ∧ goodEnv.pllA = true ∧
    c.groom.live.plls.getLsbD 0 = false ∧ c.trial = false ∧ b.rst.waitL2 = true ∧ w.rst.reach = 2 ∧
    h.trip.resetHold.getLsbD 0 = true ∧ h.ascOn 0 = true ∧ (h.slot 0).estSpeed = none := by decide

theorem witness_sync_arm :
    let v : State := set [(Reg.TIME.STATUS.VALID, 1), (⟨Reg.TIME.ARG.addr 0, 0, 32⟩, 1)] on
    1000000 ≤ nsBetween v.now.1 v.timeArg ∧ nsBetween on.now.1 on.timeArg < 1000000 := by decide +kernel

theorem witness_time :
    let c : State := { on with clk := { rootRuns := true } }
    let r : State := { set [(Reg.TIME.CFG.SOURCE, 1)] c with time := { rates := [4], setAt := some (1, 2), ppsAt := some 5, ppsLost := false, ppsDue := true } }
    let g : State := { c with time := { ppsAt := some 5, ppsLost := true } }
    let v : State := set [(Reg.TIME.STATUS.VALID, 1), (⟨Reg.TIME.ARG.addr 0, 0, 32⟩, 1)] on
    let f : State := { on with time := { syncAt := some (1, 0) } }
    c.clk.rootRuns = true ∧ c.time.setAt = none ∧ c.time.step = none ∧ r.time.setAt = some (1, 2) ∧ on.clk.rootRuns = false ∧
    g.time.ppsLost = true ∧ c.time.rates = [] ∧ (r.edgeTo 0).todUnits - (5 + r.time.ppsMove) < msUnits 999 ∧ (r.edgeTo 0).todUnits - (5 + r.time.ppsMove) ≤ msUnits 3000 ∧
    r.servoOffset ⟨0, 0⟩ = some 0 ∧ c.servoOffset ⟨0, 0⟩ = some 0 ∧ (set [(Reg.TIME.CFG.SOURCE, 2)] c).get Reg.TIME.CFG.SOURCE = 2 ∧
    (set [(Reg.TIME.CFG.SOURCE, 1)] c).servoOffset ⟨0, 0⟩ = none ∧ c.clk.edge ≤ 7 ∧ c.triad.retest = false ∧
    (set [(Reg.TRIAD.STATUS.JUDGES, 7)] c).judgeTurn = some 0 ∧ (set [(Reg.TRIAD.STATUS.JUDGES, 0)] c).judges = 0#3 ∧
    ({ c with time := { step := some 65536, syncAt := some (0, 3001) } } : State).jumpTo (3000 * 2 ^ 32) = some (3000 * 2 ^ 32 + 2 ^ 32) ∧
    steppedOver (3000 * 2 ^ 32) (3000 * 2 ^ 32 + 2 ^ 32) (some (0, 3001)) = true ∧
    r.clk.rootRuns = true ∧ r.time.ppsLost = false ∧ r.time.far < 2 ∧
    (set [(Reg.TIME.STATUS.LOCKED, 1)] r).flag Reg.TIME.STATUS.LOCKED = true ∧ c.hasRef = false ∧
    { r with injs := [⟨Reg.TIME.INJ_STATUS.addr, false, 0, 0, 0⟩] }.injAt Reg.TIME.INJ_STATUS.addr = some ⟨Reg.TIME.INJ_STATUS.addr, false, 0, 0, 0⟩ ∧
    { c with time := { step := some 3 } }.time.step = some (3 : Int) ∧
    on.get Reg.TIME.CFG.SOURCE = 0 ∧ r.get Reg.TIME.CFG.SOURCE ≠ 0 ∧ c.time.ppsAt = none ∧ r.hasRef = true ∧
    r.injAt Reg.TIME.INJ_STATUS.addr = none ∧ r.noneRuns Reg.TIME.INJ_STATUS.addr = true ∧ r.flag Reg.TIME.STATUS.LOCKED = false ∧ on.hasRef = false ∧
    r.flag Reg.TIME.STATUS.HOLDOVER = false ∧ r.time.rates ≠ [] ∧ v.allResting = true ∧ v.flag Reg.TIME.STATUS.VALID = true ∧
    f.time.syncAt = some (1, 0) ∧ f.allResting = true ∧ (inState .run f).allResting = false ∧
    (inState .run f).time.syncAt = some (1, 0) ∧ on.time.syncAt = none ∧ r.time.ppsAt = some 5 := by decide

/-- Port 0 is UP, in use, and runs gPTP and Folis; the module is Folis master of a tree with one child there. -/
def netOn : State := set [(Reg.NET.PORT.CFG.ENABLE 0, 1), (Reg.NET.PORT.CFG.GPTP 0, 1), (Reg.NET.PORT.CFG.FOLIS 0, 1),
  (Reg.NET.PORT.STATUS.LINK 0, 2), (Reg.NET.FOLIS.CFG.ENABLE, 1), (Reg.NET.FOLIS.STATUS.ROLE, 1), (Reg.NET.FOLIS.STATUS.PARENT, 3),
  (Reg.NET.FOLIS.STATUS.CHILDREN, 1), (Reg.NET.FOLIS.CFG.MASTER_PRIO, 1)] on

theorem witness_ethernet :
    let f : List Byte := List.replicate 20 0xFF#8
    let c : List Byte := gptpDest ++ List.replicate 20 0#8
    let v : GptpVec := ⟨1, 6, 0x21, 0, 1, 5#64, 0⟩
    let q := set [(Reg.NET.PORT.QBV_CYCLE.NS 0, 1000), (Reg.NET.GCL.INTERVAL 0 0, 5), (Reg.NET.PORT.STATUS.GPTP_ROLE 0, 1),
      (Reg.NET.GPTP.STATUS.GM, 1), (Reg.NET.PORT.QBV_CTRL.LEN 0, 0)] netOn
    let a : State := { netOn with net := { announce := netOn.net.announce.set 0 (some v), commits := netOn.net.commits.set 0 (some (1, 0)) } }
    let sp : State := { set [(Reg.NET.CFG.ETH2_SPARE, 1), (Reg.NET.PORT.STATUS.LINK 2, 3)] netOn with net := { portBad := 7#3 } }
    let st : State := { sp with groom := { bist := some ⟨0x7A, .idle⟩ } }
    netOn.life = .run ∧ netOn.flag (Reg.NET.PORT.CFG.ENABLE (0 : Fin 3).val) = true ∧ netOn.groom.live.ports.contains 0 = false ∧
    sp.net.portBad.getLsbD sp.spareOf = true ∧ sp.underTest 0x7A = false ∧ st.underTest 0x7A = true ∧
    netOn.net.pdelayStage[(0 : Fin 3)] ≠ 1 ∧ ({ netOn with net := { pdelayStage := #v[2, 1, 0] } } : State).net.pdelayStage[(1 : Fin 3)] = 1 ∧
    netOn.noneRuns Reg.NET.INJ_STATUS.addr = true ∧ netOn.linkUp 0 = true ∧ netOn.injAt Reg.NET.INJ_STATUS.addr = none ∧ netOn.flag (Reg.NET.PORT.CFG.ENABLE 1) = false ∧
    14 ≤ f.length ∧ f.length ≤ 1518 ∧ consumed f = false ∧ (macOf f).getLsbD 40 = true ∧ consumed c = true ∧
    netOn.gptpOn 1 = false ∧ netOn.gptpOn 0 = true ∧ netOn.ungated 0 = true ∧ a.net.announce[(0 : Fin 3)].isSome = true ∧
    a.gptpOn 0 = true ∧ q.flag Reg.NET.GPTP.STATUS.GM = true ∧ (0 : Fin 3) ∈ q.gptpPorts 1 ∧ q.ungated 0 = true ∧
    1000 ≤ q.get (Reg.NET.PORT.QBV_CYCLE.NS 0) ∧ q.get (Reg.NET.PORT.QBV_CYCLE.NS 0) ≤ 1000000000 ∧
    q.get (Reg.NET.PORT.QBV_CTRL.LEN 0) = 0 ∧ 0 < q.get (Reg.NET.GCL.INTERVAL 0 0) ∧
    (set [(Reg.NET.PORT.QBV_CYCLE.NS 0, 999)] on).get (Reg.NET.PORT.QBV_CYCLE.NS 0) < 1000 ∧
    a.net.commits[(0 : Fin 3)].isSome = true ∧ on.net.commits[(0 : Fin 3)] = none ∧ sp.groom.live.ports.contains sp.spareOf = false ∧
    sp.flag Reg.NET.CFG.ETH2_SPARE = true ∧ sp.groom.live.ports.contains 2 = false ∧ sp.get (Reg.NET.PORT.STATUS.LINK 2) = 3 ∧
    (set [(Reg.NET.CFG.ETH2_SPARE, 0)] on).flag Reg.NET.CFG.ETH2_SPARE = false ∧ netOn.get Reg.NET.INJ_TARGET.TARGET = 0 ∧
    netOn.get Reg.NET.INJ_TARGET.INDEX = (0 : Fin 3).val ∧
    (set [(Reg.NET.PORT.STATUS.GPTP_ROLE 0, 2)] netOn).get (Reg.NET.PORT.STATUS.GPTP_ROLE 0) = 2 ∧
    netOn.get (Reg.NET.PORT.STATUS.GPTP_ROLE 0) ≠ 2 ∧
    (set [(Reg.NET.INJ_TARGET.TARGET, 1), (Reg.NET.FOLIS.STATUS.ROLE, 2)] netOn).get Reg.NET.INJ_TARGET.TARGET = 1 ∧
    (set [(Reg.NET.INJ_TARGET.TARGET, 1), (Reg.NET.FOLIS.STATUS.ROLE, 2)] netOn).get Reg.NET.FOLIS.STATUS.ROLE = 2 ∧
    { on with injs := [⟨Reg.NET.INJ_STATUS.addr, false, 0, 0, 0⟩] }.injAt Reg.NET.INJ_STATUS.addr =
      some ⟨Reg.NET.INJ_STATUS.addr, false, 0, 0, 0⟩ := by decide +kernel

/-- A Folis frame of a type with a body, from node 9 in cycle 4 of domain 0. -/
def folisFrame (ty : Nat) (body : List Byte) : List Byte :=
  folisDest ++ [2#8, 0#8, 0#8, 0#8, 0#8, 9#8] ++ folisType ++ [1#8, BitVec.ofNat 8 ty, 0#8, 0#8, 9#8, 0#8] ++ leBytes 2 body.length ++
    leBytes 4 4 ++ [0#8, 0#8, 0#8, 0#8] ++ body

theorem witness_folis :
    let n : State := { netOn with net := { closed := false, cycle := some 4, delays := netOn.net.delays.set 0 { seq := 1, waiting := true } } }
    let r : State := { set [(Reg.NET.FOLIS.STATUS.ROLE, 3), (Reg.NET.FOLIS.STATUS.CHILDREN, 0), (Reg.NET.FOLIS.STATUS.PARENT, 0)] n
                       with net := { closed := false } }
    let m : FolisMsg := ⟨0x020000000009#48, 3, 0, 9, 4, 0, 0, List.replicate 16 0#8⟩
    let one : List Byte := [0#8, 0#8, 0#8, 0#8, 0#8, 0#8, 0#8, 0#8, 1#8, 0#8]
    netOn.folisOn 1 = false ∧ folisMsg [] = none ∧ netOn.flag Reg.NET.FOLIS.CFG.ENABLE = true ∧ netOn.net.beacons = [] ∧
    netOn.causeSet ⟨41, 5⟩ = false ∧ netOn.get Reg.NET.FOLIS.CFG.MASTER_PRIO < 255 ∧ (0 : Fin 3) ∈ netOn.folisPorts ∧
    netOn.isMaster = true ∧ (0 : Fin 3) ∈ netOn.childPorts ∧ 2 ≤ r.get Reg.NET.FOLIS.STATUS.ROLE ∧
    r.injAt Reg.NET.INJ_STATUS.addr = none ∧ r.net.closed = false ∧ r.allHeld = true ∧
    r.get Reg.NET.FOLIS.STATUS.PARENT = (0 : Fin 3).val ∧ (0 : Fin 3) ∈ r.treePorts ∧ on.net.closed = true ∧
    on.isMaster = false ∧ on.probe.task = .none ∧ on.treePorts = [] ∧
    (set [(Reg.NET.FOLIS.DOMAIN.val, 5)] netOn).get Reg.NET.FOLIS.DOMAIN.val ≠ m.dom ∧
    (∃ x, n.folisAccepts 0 (folisFrame tyBeacon (List.replicate 8 0#8)) tyBeacon x) ∧
    (∃ x, r.folisAccepts 0 (folisFrame tyCycle (List.replicate 68 0#8)) tyCycle x) ∧
    n.folisAccepts 0 (folisFrame tyReport (List.replicate 16 0#8)) tyReport m ∧ n.net.closed = false ∧
    n.net.cycle = some m.cycle ∧ m.node ≠ n.nodeId ∧
    (∃ x, n.folisAccepts 0 (folisFrame tyDelayReq [1#8, 0#8]) tyDelayReq x) ∧
    (∃ x, n.folisAccepts 0 (folisFrame tyDelayResp one) tyDelayResp x ∧ leAt x.body 8 2 = n.net.delays[(0 : Fin 3)].seq) ∧
    n.net.delays[(0 : Fin 3)].waiting = true ∧
    (∃ x, r.folisAccepts 0 (folisFrame tySchedule (List.replicate 48 0#8)) tySchedule x) ∧
    (∃ x, n.folisAccepts 0 (folisFrame tyCaps (List.replicate 16 0#8)) tyCaps x ∧ x.node ≠ n.nodeId) := by
  refine ⟨by decide, by decide, by decide +kernel, by decide, by decide +kernel, by decide +kernel, by decide +kernel, by decide +kernel,
    by decide +kernel, by decide +kernel, by decide +kernel, by decide, by decide +kernel, by decide +kernel, by decide +kernel, by decide, by decide,
    by decide, by decide +kernel, by decide +kernel, ⟨_, by unfold State.folisAccepts; refine ⟨?_, rfl, ?_, ?_, ?_⟩ <;> decide +kernel⟩,
    ⟨_, by unfold State.folisAccepts; refine ⟨?_, rfl, ?_, ?_, ?_⟩ <;> decide +kernel⟩,
    by unfold State.folisAccepts; refine ⟨?_, ?_, ?_, ?_, ?_⟩ <;> decide +kernel, by decide +kernel, by decide +kernel, by decide +kernel,
    ⟨_, by unfold State.folisAccepts; refine ⟨?_, rfl, ?_, ?_, ?_⟩ <;> decide +kernel⟩,
    ⟨_, by unfold State.folisAccepts; refine ⟨?_, rfl, ?_, ?_, ?_⟩ <;> decide +kernel, by decide +kernel⟩, by decide +kernel,
    ⟨_, by unfold State.folisAccepts; refine ⟨?_, rfl, ?_, ?_, ?_⟩ <;> decide +kernel⟩,
    ⟨_, by unfold State.folisAccepts; refine ⟨?_, rfl, ?_, ?_, ?_⟩ <;> decide +kernel, by decide +kernel⟩⟩

theorem witness_schedule :
    let m := set [(⟨Reg.NET.FOLIS.ACT.addr 0, 0, 32⟩, 1000)] netOn
    m.isMaster = true ∧ ((100 * m.get Reg.NET.FOLIS.CYCLE.PERIOD * 1000 : Nat) : Int) ≤ nsBetween m.now.1 m.folisAct ∧
    nsBetween netOn.now.1 netOn.folisAct < ((100 * netOn.get Reg.NET.FOLIS.CYCLE.PERIOD * 1000 : Nat) : Int) := by decide +kernel

/-- CAN0 error active, off CONFIG, buffer 1 PENDING. -/
def canOn : State := set [(Reg.CAN.STATUS.STATE 0, 2), (Reg.CAN.CTRL.INIT 0, 0), (Reg.CAN.TXB.STATE.val 0 1, 1)] on

theorem witness_can_transmit :
    let a := set [(Reg.CAN.TXB.STATE.val 0 1, 2)] canOn
    let st (n : Nat) := set [(Reg.CAN.STATUS.STATE 0, n)] canOn
    (st 0).canState 0 = 0 ∧ canOn.canState 0 ≠ 0 ∧ (set [(Reg.CAN.CTRL.INIT 0, 1)] canOn).flag (Reg.CAN.CTRL.INIT 0) = true ∧
    canOn.flag (Reg.CAN.CTRL.INIT 0) = false ∧ (st 1).canState 0 = 1 ∧ canOn.txb 0 0 = 0 ∧
    canOn.flag (Reg.CAN.STATUS_CFG.EN 0) = false ∧ canOn.txb 0 1 = 1 ∧ a.txb 0 1 = 2 ∧ canOn.canMode 0 ∈ [0, 3, 4] ∧
    canOn.canActive 0 = none ∧ canOn.can[(0 : Fin 2)].chosen = none ∧ canOn.canPick 0 = some 1 ∧
    (let p : State := { (st 3) with can := canOn.can.set 0 { canOn.can[(0 : Fin 2)] with sent := true } }
     p.canState 0 = 3 ∧ p.can[(0 : Fin 2)].sent = true ∧ p.canPick 0 = some 1 ∧ p.can[(0 : Fin 2)].chosen = none) ∧
    (let p : State := { canOn with can := canOn.can.set 0 { canOn.can[(0 : Fin 2)] with chosen := some 1 } }
     p.can[(0 : Fin 2)].chosen = some 1 ∧ p.txb 0 1 = 1 ∧ p.canActive 0 = none) ∧ on.canPick 0 = none ∧ a.canActive 0 = some 1 ∧
    a.can[(0 : Fin 2)].statusDue = none ∧ a.tec 0 ≤ 256 ∧ a.can[(0 : Fin 2)].abort[(1 : Fin 3)] = false ∧ a.tec 0 + 8 ≤ 255 ∧
    (set [(Reg.CAN.CTRL.RETRY_LIMIT 0, 1)] a).get (Reg.CAN.CTRL.RETRY_LIMIT 0) ≤ a.get (Reg.CAN.TXB.STATE.TRIES 0 1) + 1 ∧
    (set [(Reg.CAN.CTRL.RETRY_LIMIT 0, 0)] a).get (Reg.CAN.CTRL.RETRY_LIMIT 0) = 0 ∧ (st 4).canState 0 = 4 ∧
    (set [(Reg.CAN.CTRL.AUTO_RECOVER 0, 0)] (st 4)).flag (Reg.CAN.CTRL.AUTO_RECOVER 0) = false ∧ (st 5).canState 0 = 5 ∧
    canOn.get (Reg.CAN.INJ_TARGET.TARGET 0) ≤ 2 ∧ canOn.noneRuns (Reg.CAN.INJ_STATUS.addr 0) = true := by decide

theorem witness_can_receive :
    let e : CanFrame := ⟨5#29, false, false, 0#4, true, false, false, []⟩
    let s := set [(Reg.CAN.FLT.MASK.ACTION 0 3, 1), (Reg.CAN.FLT.ID.val 0 3, 5), (Reg.CAN.FLT.MASK.val 0 3, 31)] canOn
    let x : RxEntry := ⟨e, 3, 0, 7⟩
    let r : State := { s with can := s.can.set 0 { stores := #v[[x], [], []], latched := #v[some 7, none, none] } }
    let q : State := { s with can := s.can.set 0 { stores := #v[List.replicate 16 x, [], []] } }
    (s.canState 0 = 2 ∨ s.canState 0 = 3) ∧ s.canMode 0 ≠ 3 ∧ s.canActive 0 = none ∧ s.can[(0 : Fin 2)].chosen = none ∧ s.tec 0 ≤ 255 ∧
    fltFirst (s.canFilters 0) (canOnBus e) = some (3, 1) ∧ s.can[(0 : Fin 2)].stores[0].length < 16 ∧
    16 ≤ q.can[(0 : Fin 2)].stores[0].length ∧ fltFirst (canOn.canFilters 0) (canOnBus e) = none ∧
    canOn.get (Reg.CAN.CTRL.NOMATCH 0) = 0 ∧ e.fdf = true ∧ canOn.flag (Reg.CAN.CTRL.PXHD 0) = false ∧ on.canState 0 < 2 ∧
    fltFirst ((set [(Reg.CAN.FLT.MASK.ACTION 0 3, 3)] s).canFilters 0) (canOnBus e) = some (3, 3) ∧
    fltFirst ((set [(Reg.CAN.FLT.MASK.ACTION 0 3, 4)] s).canFilters 0) (canOnBus e) = some (3, 4) ∧
    (set [(Reg.CAN.CTRL.PXHD 0, 1)] canOn).flag (Reg.CAN.CTRL.PXHD 0) = true ∧ on.canState 0 ≠ 2 ∧ on.canState 0 ≠ 3 ∧
    (set [(Reg.CAN.TXB.STATE.val 0 1, 2)] canOn).canActive 0 = some 1 ∧ (set [(Reg.CAN.TXB.STATE.val 0 1, 2)] canOn).tec 0 ≤ 255 ∧
    s.can[(0 : Fin 2)].stores[(0 : Fin 3)] = [] ∧ r.can[(0 : Fin 2)].stores[(0 : Fin 3)] = [x] ∧
    r.can[(0 : Fin 2)].latched[(0 : Fin 3)] = some x.tag ∧
    { r with can := r.can.set 0 { stores := #v[[x], [], []] } }.can[(0 : Fin 2)].latched[(0 : Fin 3)] ≠ some x.tag := by decide +kernel

theorem witness_host :
    let r (a : Byte) (len : Byte) : List Byte := [0x0B#8, len, 0x40#8, a, 0x10#8, 0x24#8]
    let w : List Byte := [0x02#8, 0x00#8, 0x40#8, 0x0F#8, 0x10#8, 0x24#8, 0#8, 0#8, 0#8, 1#8]
    State.reset.life ≠ .run ∧ on.life = .run ∧ crc8 (r 0x0F#8 0#8) ≠ crc8 (r 0x0F#8 0#8) + 1#8 ∧ 16 ≤ (0x10#8).toNat ∧
    (0x00#8).toNat < 16 ∧ burstOk (0x40#8 ++ 0x0F#8 ++ 0x10#8 ++ 0x24#8 : BitVec 32).toNat (lenWords 0#8) = true ∧
    burstOk (0x40#8 ++ 0x0F#8 ++ 0x10#8 ++ 0x25#8 : BitVec 32).toNat (lenWords 0#8) = false ∧
    hostCheck (w ++ [crc8 w]) (6 + 4 * lenWords ((w ++ [crc8 w]).getD 1 0#8)) = .ok ∧
    hostCheck (w ++ [crc8 w + 1#8]) (6 + 4 * lenWords ((w ++ [crc8 w + 1#8]).getD 1 0#8)) = .crc ∧
    (w ++ [crc8 w]).getD 0 0#8 = 0x02#8 ∧ (0x33#8) ≠ 0x02#8 := by decide +kernel

theorem witness_writes :
    let env : HostEnv := ⟨0, 0, 0, false, false, 0#2⟩
    let a : Nat := Reg.PROBE.MID_VDC.addr
    let b : Nat := Reg.GROOM.INJ_TARGET.addr
    rowsAt 0x40000FF0 = [] ∧ on.command env Reg.PROBE.STATUS.addr 0#32 = none ∧
    (rowsAt Reg.PROBE.STATUS.addr).any (fun r => on.opens (blockOf Reg.PROBE.STATUS.addr) r) = false ∧ blockOf b ∈ [7, 16, 17, 23] ∧
    on.command env b 0#32 = none ∧ (rowsAt b).any (fun r => on.opens (blockOf b) r) = true ∧
    (on.judgeAll b 0#32).all (fun p => p.2.inside) = true ∧ on.causeSet ⟨3, 0⟩ = false ∧
    (1#32 &&& implBits 3).getLsbD 0 = true ∧ (set [(⟨Reg.INT.GRP.CAUSE.addr 45, 0, 32⟩, 1), (⟨Reg.INT.GRP.ENABLE.addr 45, 0, 32⟩, 1)] on).pendWord 45 ≠ 0#32 ∧
    (on.judgeAll 0x4007001C 0#32).all (fun p => p.2.inside) = false ∧ (∀ p ∈ on.judgeAll 0x4007001C 0#32, p.2 ≠ .refuse) ∧
    on.command env 0x40100100 0x30#32 = none ∧ (∃ p ∈ on.judgeAll 0x40100100 0x30#32, p.2 = .refuse) ∧
    (rowsAt (Reg.INT.GRP.PEND.addr 63)).isEmpty = false ∧ a ≠ b := by decide +kernel

theorem witness_himet :
    let h := set [(Reg.HIMET.STATUS.TRNG_OK, 1)] on
    let a : State := { on with himet := { op := some (.attest (List.replicate 256 0#8)) } }
    let d (n : Nat) : State := { on with himet := { level := n } }
    let w := set [(⟨Reg.DRIVE.SLOT.STANDSTILL_SPEED.addr 0, 0, 32⟩, 0x40A00000), (⟨Reg.DRIVE.SLOT.STANDSTILL_SPEED.addr 1, 0, 32⟩, 0x40A00000),
      (⟨Reg.DRIVE.SLOT.STANDSTILL_SPEED.addr 2, 0, 32⟩, 0x40A00000), (⟨Reg.DRIVE.SLOT.STANDSTILL_SPEED.addr 3, 0, 32⟩, 0x40A00000)] on
    h.flag Reg.HIMET.STATUS.BUSY = false ∧ h.flag Reg.HIMET.STATUS.STORE_FAIL = false ∧ h.flag Reg.HIMET.STATUS.TRNG_OK = true ∧
    (set [(Reg.HIMET.STATUS.TRNG_OK, 0)] on).flag Reg.HIMET.STATUS.TRNG_OK = false ∧ (d 1).himet.level = 1 ∧
    (set [(Reg.HIMET.STATUS.BUSY, 1)] on).flag Reg.HIMET.STATUS.BUSY = true ∧
    a.himet.op = some (.attest (List.replicate 256 0#8)) ∧ (List.replicate 256 0#8).length = 256 ∧ on.himet.op = none ∧
    (d 2).himet.level = 2 ∧ (d 2).life = .run ∧ on.himet.level ≠ 2 ∧ on.injAt Reg.HIMET.INJ_STATUS.addr = none ∧ on.noneRuns Reg.HIMET.INJ_STATUS.addr = true ∧ on.injs = [] ∧
    { on with himet := { test := some (0, 60) } }.himet.test.isSome = true ∧
    { on with injs := [⟨Reg.HIMET.INJ_STATUS.addr, false, 1, 0, 0⟩] }.noneRuns Reg.HIMET.INJ_STATUS.addr = false ∧
    on.himet.resetDue = false ∧ (d 2).himet.level ≠ 1 ∧ on.himet.level = 0 ∧
    { on with injs := [⟨Reg.HIMET.INJ_STATUS.addr, false, 1, 0, 0⟩] }.injAt Reg.HIMET.INJ_STATUS.addr =
      some ⟨Reg.HIMET.INJ_STATUS.addr, false, 1, 0, 0⟩ ∧ on.get Reg.HIMET.INJ_TARGET.TARGET = 0 ∧
    (set [(Reg.HIMET.STATUS.STORE_FAIL, 1)] on).flag Reg.HIMET.STATUS.STORE_FAIL = true ∧ (inState .run on).allResting = false ∧ w.allResting = true ∧ (∀ i : Fin 4, w.slow i = true) ∧
    on.get Reg.HIMET.INJ_TARGET.TARGET < 3 := by decide +kernel

theorem witness_tokens :
    let b (k : Byte) : List Byte := [0x47#8, 0x51#8, 0x54#8, 0x4B#8, 1#8, k, 0xFE#8, 0#8]
    let s (k : Byte) : State := { on with himet := { op := some (.auth (b k)) } }
    (s 1#8).himet.op = some (.auth (b 1#8)) ∧ on.himet.op = none ∧ (s 1#8).life = .run ∧ tokArg0 (b 9#8) < 3 ∧
    (∀ k : Fin 11, tokKind (b (BitVec.ofNat 8 (k.val + 1))) = k.val + 1) ∧ tokKind (b 1#8) ≠ 2 := by decide +kernel

/-- The service port attached, AUX_IN at 30 V. -/
def svcOn : State := set [(Reg.SVC.STATUS.USB, 2), (Reg.PROBE.SUPPLY.AUX, 3000)] on

theorem witness_staging :
    let d (n : Nat) : List Byte := List.replicate 12 0#8 ++ leBytes 4 n
    let g (n : Nat) : State := { svcOn with svc := { staging := some ⟨d n⟩ } }
    let hd : List Byte := [0x47#8, 0x51#8, 0x42#8, 0x44#8, 1#8, 0#8, 0x80#8, 0x64#8, 0x41#8, 1#8, 0#8, 0#8, 0x70#8, 0#8, 0#8, 0#8] ++
      List.replicate 48 0#8 ++ [0x70#8, 0#8, 0#8, 0#8] ++ List.replicate 44 0#8
    svcOn.life = .run ∧ State.reset.life ≠ .run ∧ (g 16).svc.staging.isSome = true ∧ on.usbOn = false ∧ svcOn.usbOn = true ∧
    svcOn.beginErr hd false = none ∧ svcOn.beginErr hd true = some 0x42 ∧ (g 16).svc.staging = some ⟨d 16⟩ ∧
    (d 16).length ≠ leAt (d 20) 0x0C 4 ∧ leAt (d 16) 0x0C 4 < (d 16).length + 1 ∧ (g 16).stageGuard true = some 0x42 ∧ (g 16).stageGuard false = none ∧ (d 20).length + 4 ≤ leAt (d 20) 0x0C 4 ∧
    svcOn.svc.staging = none ∧ (d 16).length = leAt (d 16) 0x0C 4 := by decide +kernel

theorem witness_activation :
    let a : State := { set [(Reg.TIME.STATUS.VALID, 1), (⟨Reg.SVC.ACT.addr 0, 0, 32⟩, 1)] on with svc := { states := #v[4, 2], armed := some (1, 0), postponed := true } }
    let r : State := { a with trip := { resetHold := 1#4 } }
    let t : State := { on with svc := { states := #v[3, 5], liftOk := true, clean := true, rollbackDue := true, migrated := [1#8] } }
    a.svc.states[a.idleBank] = 2 ∧ a.flag Reg.TIME.STATUS.VALID = true ∧ a.svcAct.2 < 1000000000 ∧
    1000000 ≤ nsBetween a.now.1 a.svcAct ∧ svcOn.usbOn = true ∧ on.usbOn = false ∧ (on.trial = false) ∧ on.svc.states[on.idleBank] ≠ 2 ∧ a.svc.armed.isSome = true ∧
    a.swapReady = true ∧ r.swapReady = false ∧ r.svc.armed.isSome = true ∧ on.svc.armed = none ∧ a.svc.postponed = true ∧
    t.trial = true ∧ t.svc.liftOk = true ∧ on.trial = false ∧ t.enabledRest = true ∧ t.swapping = false ∧
    t.svc.rollbackDue = true ∧ t.life = .run ∧ on.svc.rollbackDue = false ∧ t.svc.migrated ≠ [] ∧ on.svc.migrated = [] ∧
    t.svc.clean = true := by decide

theorem witness_step : State.reset.pending = [] ∧ step { on with pending := [.timeSet] } = exec .timeSet on ∧ on.fetched = none ∧
    State.fetched { on with carve := { running := some 0, prog := [0#64] } } = some .nop ∧ on.carve.running = none := by
  refine ⟨rfl, rfl, ?_, ?_, ?_⟩ <;> decide +kernel

theorem witness_stored : State.stored { on with pending := [.canInitSet 0] } ∧
    ∃ t, step { on with pending := [.wdogKick 0x5A#8 0] } = .next t := by
  constructor
  · unfold State.stored; decide +kernel
  · exact ⟨_, rfl⟩

theorem witness_gain : (fZero? 0x80000000#32 || fSub? 0x80000000#32 || fNaN? 0x80000000#32) = true ∧
    (fZero? 0x00000001#32 || fSub? 0x00000001#32 || fNaN? 0x00000001#32) = true ∧
    (fZero? 0x7FC00000#32 || fSub? 0x7FC00000#32 || fNaN? 0x7FC00000#32) = true ∧
    (fZero? 0x00800000#32 || fSub? 0x00800000#32 || fNaN? 0x00800000#32) = false := by decide

theorem witness_order :
    let a := Reg.SDM.DCL_OV0.addr
    let bad : Word := 0x08340FFF#32
    (∀ p ∈ on.judgeAll a bad, p.2 ≠ .refuse) ∧ (on.wr a (storedWord (on.rd a) (on.judgeAll a bad))).sdmOrder = false ∧
    (∀ p ∈ on.judgeAll a 0x08340803#32, p.2.inside = true) ∧
    (on.wr a (storedWord (on.rd a) (on.judgeAll a 0x08340803#32))).sdmOrder = true ∧ on.sdmOrder = true := by decide +kernel

theorem witness_sync : (∀ i : Fin 4, (on.slot i).state = .off ∨ (on.slot i).state = .stopped) ∧
    ((slot0 .glide on).slot 0).state ≠ .off ∧ ((slot0 .glide on).slot 0).state ≠ .stopped := by decide

theorem witness_f4 :
    let f (m : Mark) : State := { on with course := { faults := [⟨20, 1, 4, 1, 255, 0⟩] }, toClassify := [⟨20, 1, m⟩] }
    (f .real).nextSetting (f .real).toClassify = some ⟨20, 1, .real⟩ ∧
    (State.escalate { (f .real) with toClassify := (f .real).toClassify.erase ⟨20, 1, .real⟩ } ⟨20, 1⟩ ((f .real).classOf ⟨20, 1⟩)).1 = 4 ∧
    (f .live).nextSetting (f .live).toClassify = some ⟨20, 1, .live⟩ ∧ (f .live).classOf ⟨20, 1⟩ = 4 ∧
    (f .shadow).nextSetting (f .shadow).toClassify = some ⟨20, 1, .shadow⟩ ∧ (f .real).patrol.f4 = false ∧
    State.patrol { on with patrol := { f4 := true } } = { f4 := true } := by decide +kernel

theorem witness_close :
    let s : State := { set [(Reg.HIMET.STATUS.TEST, 1)] on with himet := { test := some (0, 60) }, injs := [⟨Reg.PATROL.INJ_STATUS.addr, true, 3, 0, 0⟩,
      ⟨Reg.HKA.INJ_STATUS.addr, false, 0, 0, 0⟩] }
    s.flag Reg.HIMET.STATUS.BUSY = false ∧ s.flag Reg.HIMET.STATUS.STORE_FAIL = false ∧ s.himet.test.isSome = true ∧
    (∀ i ∈ s.injs, blockOf i.ctrl ≠ 4) ∧ (∀ i ∈ s.injs, i.ctrl ≠ Reg.HIMET.STATUS.addr) ∧ s.injs.length = 2 ∧
    (∀ j ∈ s.injs, j.live = true → j.seen ≠ 2 → j.ctrl ≠ Reg.HKA.INJ_STATUS.addr) ∧ on.himet.test = none := by decide +kernel

theorem witness_valid :
    let s : State := { set [(Reg.TIME.CFG.SOURCE, 1)] on with clk := { rootRuns := true }, time := { step := some 65536, near := 15, ppsDue := true, ppsAt := some 0 } }
    on.life = .run ∧ srcReach 0 ≤ 1 ∧ srcReach 7 = 2 ∧ on.get Reg.TIME.CFG.SOURCE = 0 ∧ s.clk.rootRuns = true ∧ s.time.setAt = none ∧
    s.time.step = some 65536 ∧ s.injs = [] ∧ s.servoOffset ⟨0, 0⟩ = some 0 ∧ s.hasRef = true ∧ s.injAt Reg.TIME.INJ_STATUS.addr = none ∧
    s.flag Reg.TIME.STATUS.LOCKED = false ∧ 15 ≤ s.time.near := by decide +kernel

theorem witness_valid_stored : State.stored on := by unfold State.stored; decide

theorem witness_communicates : communicates (.canFrameReceived 0 ⟨⟨0#29, false, false, 0#4, false, false, false, []⟩, false⟩ false 0) = true ∧
    communicates .schedule = true ∧ inspects (.beginOp 0#16 [] false) = true ∧ inspects (.intInject 3 1#32) = true := by decide

/-- Each check of WellFormed refuses an ill-formed command and passes a good one. -/
theorem test_ill_formed : (Instr.patrolInject 4).wellFormed = false ∧ (Instr.patrolInject 3).wellFormed = true ∧
    (Instr.switchFrame 0 (List.replicate 59 0#8)).wellFormed = false ∧ (Instr.switchFrame 0 (List.replicate 60 0#8)).wellFormed = true ∧
    (Instr.injectTimeout 0x40050000).wellFormed = false ∧ (Instr.injectTimeout 0x40050108).wellFormed = true ∧
    (Instr.registerWrite 0x40000002 0#32 ⟨0, 0, 0, false, false, 0#2⟩).wellFormed = false ∧
    (Instr.registerWrite 0x40190000 0#32 ⟨0, 0, 0, false, false, 0#2⟩).wellFormed = false ∧
    (Instr.registerWrite 0x40000004 0#32 ⟨0, 0, 0, false, false, 0#2⟩).wellFormed = true ∧
    (Instr.hostWrite [] false false ⟨0, 0, 0, false, false, 0#2⟩).wellFormed = false ∧
    (Instr.hostRead [0x0B#8] 0#16 false false ⟨0, 0, 0, false, false, 0#2⟩).wellFormed = true := by decide +kernel

/-- The table gives no row any bits: no word spells a command. -/
theorem test_no_word : decodeTableWord 16 0x1234 = none := by decide

/-- The worked example of chapter 4: 59.375 % ones on a full scale of 1,280 A give RAW 0x0C_0000 and 240.0 A. -/
theorem test_phase_current :
    let s := set [(Reg.SDM.F.CFG.ENABLE 0, 1), (Reg.SDM.F.CFG.INPUT_A 0, 64), (Reg.SDM.F.CFG.INPUT_B 0, 127),
      (Reg.SDM.F.CFG.ORDER 0, 0), (Reg.SDM.F.DEC.D 0, 32), (⟨Reg.SDM.F.GAIN.addr 0, 0, 32⟩, 0x44A00000)] on
    Runs (.sdmResult 0 (List.replicate 19 true ++ List.replicate 13 false) [] false false 0) s (fun t => t.sdm[0].ch.raw = 0x0C0000#24 ∧ t.sdm[0].ch.res = 0x43700000#32) := by
  refine ⟨_, rfl, ?_⟩
  decide +kernel

/-- The worked example of chapter 16: 1,926 counts at 150 m/µs are 12.04 m. -/
theorem test_cable_length :
    let s := { set [(⟨Reg.PROBE.VP.addr, 0, 32⟩, 0x43160000)] on with
      probe := { task := .cable }
      course := { legs := [{ slot := 0, function := 1 }], chans := [{ leg := 0, out := 1, unmapped := false, sense := 8 }] } }
    getBits ((nextOf s (execCableLegDone (some 1926) [])).rd (Reg.PROBE.CABLE.addr 0)) 0 16 = 1204 := by decide +kernel

/-- The bit times of the worked example of chapter 19 are taken in CONFIG. -/
theorem test_can_times :
    let env : HostEnv := ⟨0, 0, 0, false, false, 0#2⟩
    let s := set [(Reg.CAN.CTRL.INIT 0, 1)] on
    Runs (.registerWrite (Reg.CAN.NBT.addr 0) 0x078F3E00#32 env) s (fun t => t.get (Reg.CAN.NBT.NTSEG1 0) = 62 ∧
      t.get (Reg.CAN.NBT.NTSEG2 0) = 15 ∧ t.get (Reg.CAN.NBT.NSJW 0) = 15) := by
  refine ⟨_, rfl, ?_⟩
  decide +kernel

/-- The worked example of chapter 7: vα = 400 V and vβ = 300 V on 1,000 V give LEG0 29,059 counts and 16 taps. -/
theorem test_compare_of_w0 :
    let s : State := { set [(⟨Reg.PWM.LEG.ACT.addr 0 0, 0, 32⟩, 31250)] on with
      course := { legs := [{ slot := 0, function := 1, phase := 0 }], routes := [⟨0, 0, 0x11, 0, 0⟩, ⟨0, 0, 0x11, 1, 0⟩] }
      ports := [(portKey 0x11 0 0, { val := 0x43C80000#32 }), (portKey 0x11 0 1, { val := 0x43960000#32 })] }
    (s.slSvm 0 0 1000 0).a = some (cmpWord 29059 16) := by decide +kernel

/-- The contacts without supply (R58): every request and hold stands, no output drives. -/
theorem test_contacts_unsupplied : State.reset.safeNContact = .low ∧ State.reset.frictionReqContact = .released ∧
    State.reset.irqNContact = .released ∧ State.reset.canTxContact 0 = .pullUp ∧ State.reset.gateContact 0 = .kelvin ∧
    State.reset.refOutContact = .pullUp ∧ State.reset.excContact 0 = .highZ := by decide +kernel

end Sys2Proof.Tests
end

section
/-! Every command keeps the queue and the canonical form of what is stored. One rule per function of the model that makes
states: where its argument has come from `o` with queue and form kept, so has its result. Each rule follows the body of
its function, so that a chain `h.put.raise` stands for the updates in their order; only the writes of registers and marks,
`Kept.wr`, `Kept.setShadow`, `Kept.setLive` and `Kept.clearMailbox`, say why the form is kept. -/

namespace Sys2Proof.Machine

/-- On the way from `o` to `s` the queue has stayed as it was, and the canonical form of what is stored has not been lost. -/
structure Kept (o s : State) : Prop where
  pending : s.pending = o.pending
  stored : o.stored → s.stored

/-- A command from `o` answers a next state, and on the way to it the queue and the canonical form are kept. -/
def KeptNext (o : State) (r : Host.Outcome State Fault Refusal) : Prop := ∃ t, r = .next t ∧ Kept o t

/-- On the way from `o` to a state, where there is one, the queue and the canonical form are kept. -/
def KeptSome (o : State) (r : Option State) : Prop := ∀ t, r = some t → Kept o t

variable {o s : State}

theorem Kept.refl (s : State) : Kept s s := ⟨rfl, id⟩

/-- An update of fields other than queue, registers and marks. -/
theorem Kept.upd
    {toClassify life freeCount tod host course clk piste legs tripIns trip injs slots chop hkaEvents taskPresc
    taskDelays carve ports prof slalom sdm phv dcl pos chg triad patrol swapping edges can probe supply groom time svc
    hka rst net himet}
    (h : Kept o s) : Kept o ⟨s.pending, s.regs, s.shadowMarks, s.liveMarks,
    toClassify, life, freeCount, tod, host, course, clk, piste, legs, tripIns, trip, injs, slots, chop, hkaEvents,
    taskPresc, taskDelays, carve, ports, prof, slalom, sdm, phv, dcl, pos, chg, triad, patrol, swapping, edges, can,
    probe, supply, groom, time, svc, hka, rst, net, himet⟩ :=
  ⟨h.pending, h.stored⟩

theorem Kept.ite {c : Prop} {_ : Decidable c} {a b : State} (ha : Kept o a) (hb : Kept o b) : Kept o (if c then a else b) := by
  split
  · exact ha
  · exact hb

theorem Kept.iteSnd {α : Type} {c : Prop} {_ : Decidable c} {a b : α × State} (ha : Kept o a.2) (hb : Kept o b.2) :
    Kept o (if c then a else b).2 := by
  split
  · exact ha
  · exact hb

theorem Kept.foldl {α : Type} {f : State → α → State} {l : List α} (h : Kept o s)
    (hf : ∀ {t x}, Kept o t → Kept o (f t x)) : Kept o (l.foldl f s) := by
  induction l generalizing s with
  | nil => exact h
  | cons x l ih => exact ih (hf h)

theorem Kept.next (h : Kept o s) : KeptNext o (.next s) := ⟨s, rfl, h⟩

theorem KeptNext.ite {c : Prop} {_ : Decidable c} {a b : Host.Outcome State Fault Refusal} (ha : KeptNext o a)
    (hb : KeptNext o b) : KeptNext o (if c then a else b) := by
  split
  · exact ha
  · exact hb

theorem KeptNext.nextOf {f : State → Host.Outcome State Fault Refusal} (h : KeptNext o (f s)) :
    Kept o (Sys2Proof.Machine.nextOf s f) := by
  obtain ⟨t, e, ht⟩ := h
  simpa only [Sys2Proof.Machine.nextOf, e] using ht

theorem KeptSome.empty : KeptSome o none := fun _ e => nomatch e

theorem Kept.opt (h : Kept o s) : KeptSome o (some s) := fun _ e => Option.some.inj e ▸ h

theorem KeptSome.ite {c : Prop} {_ : Decidable c} {a b : Option State} (ha : KeptSome o a) (hb : KeptSome o b) :
    KeptSome o (if c then a else b) := by
  split
  · exact ha
  · exact hb

theorem Kept.wr {a x} (h : Kept o s) : Kept o (s.wr a x) := by
  refine ⟨h.pending, fun ho => ?_⟩
  obtain ⟨hr, hs, hl⟩ := h.stored ho
  exact ⟨cellWf_set _ _ _ _ hr, hs, hl⟩

theorem Kept.setShadow {g w} (h : Kept o s) : Kept o (s.setShadow g w) := by
  refine ⟨h.pending, fun ho => ?_⟩
  obtain ⟨hr, hs, hl⟩ := h.stored ho
  exact ⟨hr, cellWf_set _ _ _ _ hs, hl⟩

theorem Kept.setLive {g w} (h : Kept o s) : Kept o (s.setLive g w) := by
  refine ⟨h.pending, fun ho => ?_⟩
  obtain ⟨hr, hs, hl⟩ := h.stored ho
  exact ⟨hr, hs, cellWf_set _ _ _ _ hl⟩

/-! ## The functions of Machine/Ops -/

theorem Kept.put {f v} (h : Kept o s) : Kept o (s.put f v) := h.wr

theorem Kept.bump {f} (h : Kept o s) : Kept o (s.bump f) := h.put

theorem Kept.bumpWrap {f} (h : Kept o s) : Kept o (s.bumpWrap f) := h.put

theorem Kept.fresh (h : Kept o s) : Kept o s.fresh.2 := h.upd

theorem Kept.irqEdge {g} {s0 : State} (h1 : Kept o s) : Kept o (s0.irqEdge s g) := .ite h1.upd h1

theorem Kept.setCauseM {c m} (h : Kept o s) : Kept o (s.setCauseM c m) := by
  unfold State.setCauseM
  dsimp only
  refine Kept.upd ?_
  refine Kept.irqEdge ?_
  split
  · exact h.put.setShadow
  · exact .ite h.put h.put.setShadow
  · exact h.put.setShadow.setLive

theorem Kept.setCause {c} (h : Kept o s) : Kept o (s.setCause c) := h.setCauseM

theorem Kept.pulseTrip {c} (h : Kept o s) : Kept o (s.pulseTrip c) := by
  unfold State.pulseTrip
  dsimp only
  split
  · exact .ite h.upd h
  · exact h

theorem Kept.raise {c} (h : Kept o s) : Kept o (s.raise c) := h.setCause.pulseTrip

theorem Kept.raiseM {c m} (h : Kept o s) : Kept o (s.raiseM c m) := by
  unfold State.raiseM
  split
  · exact h.raise
  · exact h.setCauseM.pulseTrip
  · exact h.setCauseM

theorem Kept.setIf {b c} (h : Kept o s) : Kept o (s.setIf b c) := .ite h.raise h

theorem Kept.status {addr code} (h : Kept o s) : Kept o (s.status addr code) := h.put

theorem Kept.deny {addr c} (h : Kept o s) : Kept o (s.deny addr c) := h.status.raise

theorem Kept.setSlot {i x} (h : Kept o s) : Kept o (s.setSlot i x) := h.upd

theorem Kept.setLeg {i x} (h : Kept o s) : Kept o (s.setLeg i x) := h.upd

theorem Kept.injStart {i} (h : Kept o s) : Kept o (s.injStart i) := h.status.upd

theorem Kept.injEnd {ctrl code} (h : Kept o s) : Kept o (s.injEnd ctrl code) := by
  conv in State.injEnd => delta State.injEnd
  split
  · exact h.status.upd.raise
  · exact h.status.upd

theorem Kept.inject {ctrl cls denied enabled liveOk target index} {start : State → Bool → State} (h : Kept o s)
    (hf : ∀ {t live}, Kept o t → Kept o (start t live)) :
    Kept o (s.inject ctrl cls denied enabled liveOk target index start) :=
  Kept.ite (Kept.ite h.deny (hf h.injStart)) h

theorem Kept.abortLive (h : Kept o s) : Kept o s.abortLive :=
  .ite (h.foldl (fun h => h.status.upd.raise)).upd (h.foldl (fun h => h.status.upd.raise))

theorem Kept.noteSeen {v} (h : Kept o s) : Kept o (s.noteSeen v) := h.upd

theorem Kept.heldAct {target index} {act : State → State} (h : Kept o s) (hf : ∀ {t}, Kept o t → Kept o (act t)) :
    Kept o (s.heldAct target index act) :=
  .ite h.noteSeen (hf h)

theorem Kept.heldEnd {target index} (h : Kept o s) : Kept o (s.heldEnd target index) := .ite h.noteSeen h

theorem Kept.edgeTo {c} (h : Kept o s) : Kept o (s.edgeTo c) := .ite h.upd h

theorem Kept.edgeNow (h : Kept o s) : Kept o s.edgeNow := h.fresh.edgeTo

theorem Kept.now (h : Kept o s) : Kept o s.now.2 := h.edgeNow

theorem Kept.ctlNow (h : Kept o s) : Kept o s.ctlNow.2 := h.edgeNow

theorem Kept.agreeFix {differs} (h : Kept o s) : Kept o (s.agreeFix differs) := .ite h.bump.raise h

/-! ## The functions of Machine/Trip -/

theorem Kept.ilockEpisodes (h : Kept o s) : Kept o s.ilockEpisodes := by
  unfold State.ilockEpisodes
  dsimp only
  refine h.foldl fun h => ?_
  split
  · exact h
  · exact .ite h.upd.setLeg.bump h

theorem Kept.openBlank {n edgeA edgeB} (h : Kept o s) : Kept o (s.openBlank n edgeA edgeB) := .ite h.upd h

theorem Kept.settle {s0 : State} (h : Kept o s0) : Kept o s0.settle := h.ilockEpisodes.foldl fun h => h.setLeg.openBlank

theorem Kept.followForce {n point} (h : Kept o s) : Kept o (s.followForce n point) := by
  unfold State.followForce
  dsimp only
  split
  · exact .ite h h.setLeg
  · exact .ite h.setLeg h

theorem Kept.reforce (h : Kept o s) : Kept o s.reforce := (h.foldl Kept.followForce).settle

theorem Kept.slotLine {i v} (h : Kept o s) : Kept o (s.slotLine i v) := h.upd.reforce

theorem Kept.ovLine {v} (h : Kept o s) : Kept o (s.ovLine v) := h.upd.reforce

theorem Kept.presentTrip {c} (h : Kept o s) : Kept o (s.presentTrip c) := by
  unfold State.presentTrip
  dsimp only
  split
  · exact .ite h.upd h
  · exact h

theorem Kept.endTrip {c} (h : Kept o s) : Kept o (s.endTrip c) := h.upd

/-! ## The functions of Machine/Carve -/

theorem Kept.issue {cyc f} (h : Kept o s) : Kept o (s.issue cyc f) := .ite h.upd h

theorem Kept.issueS {cyc d f} (h : Kept o s) : Kept o (s.issueS cyc d f) := h.issue

theorem Kept.issueV {d f} (h : Kept o s) : Kept o (s.issueV d f) := h.issue

theorem execNop_kept (h : Kept o s) : KeptNext o (execNop s) := h.issue.next

theorem execBr_kept {cond target} (h : Kept o s) : KeptNext o (execBr cond target s) := .ite h.upd.next h.next

theorem execSig_kept {cond n} (h : Kept o s) : KeptNext o (execSig cond n s) := by
  unfold execSig
  dsimp only
  split
  · exact h.next
  · exact .ite (.ite h.issue.upd.raise.next h.issue.next) h.next

theorem execSetb_kept {a stride nmax} (h : Kept o s) : KeptNext o (execSetb a stride nmax s) := h.issue.next

theorem execSadd_kept {d a b} (h : Kept o s) : KeptNext o (execSadd d a b s) := h.issueS.next

theorem execSsub_kept {d a b} (h : Kept o s) : KeptNext o (execSsub d a b s) := h.issueS.next

theorem execSmul_kept {d a b} (h : Kept o s) : KeptNext o (execSmul d a b s) := h.issueS.next

theorem execSmac_kept {d a b} (h : Kept o s) : KeptNext o (execSmac d a b s) := h.issueS.next

theorem execSmin_kept {d a b} (h : Kept o s) : KeptNext o (execSmin d a b s) := h.issueS.next

theorem execSmax_kept {d a b} (h : Kept o s) : KeptNext o (execSmax d a b s) := h.issueS.next

theorem execSabs_kept {d a} (h : Kept o s) : KeptNext o (execSabs d a s) := h.issueS.next

theorem execSneg_kept {d a} (h : Kept o s) : KeptNext o (execSneg d a s) := h.issueS.next

theorem execSmov_kept {d a} (h : Kept o s) : KeptNext o (execSmov d a s) := h.issueS.next

theorem execSldi_kept {d x} (h : Kept o s) : KeptNext o (execSldi d x s) := h.issueS.next

theorem execScmp_kept {a b} (h : Kept o s) : KeptNext o (execScmp a b s) := h.issue.next

theorem execSsel_kept {d cond a b} (h : Kept o s) : KeptNext o (execSsel d cond a b s) := h.issueS.next

theorem execSclamp_kept {d a b e} (h : Kept o s) : KeptNext o (execSclamp d a b e s) := h.issue.next

theorem execSwrap_kept {d a} (h : Kept o s) : KeptNext o (execSwrap d a s) := h.issueS.next

theorem execSdiv_kept {d a b} (h : Kept o s) : KeptNext o (execSdiv d a b s) := h.issueS.next

theorem execSsqrt_kept {d a} (h : Kept o s) : KeptNext o (execSsqrt d a s) := h.issueS.next

theorem execSsincos_kept {d a} (h : Kept o s) : KeptNext o (execSsincos d a s) := h.issue.next

theorem execSatan2_kept {d a b} (h : Kept o s) : KeptNext o (execSatan2 d a b s) := h.issueS.next

theorem execVadd_kept {d a b} (h : Kept o s) : KeptNext o (execVadd d a b s) := h.issueV.next

theorem execVsub_kept {d a b} (h : Kept o s) : KeptNext o (execVsub d a b s) := h.issueV.next

theorem execVmul_kept {d a b} (h : Kept o s) : KeptNext o (execVmul d a b s) := h.issueV.next

theorem execVmac_kept {d a b} (h : Kept o s) : KeptNext o (execVmac d a b s) := h.issueV.next

theorem execVscl_kept {d a b} (h : Kept o s) : KeptNext o (execVscl d a b s) := h.issueV.next

theorem execVbcast_kept {d a} (h : Kept o s) : KeptNext o (execVbcast d a s) := h.issueV.next

theorem execVins_kept {d e a} (h : Kept o s) : KeptNext o (execVins d e a s) := h.issue.next

theorem execVext_kept {d a e} (h : Kept o s) : KeptNext o (execVext d a e s) := h.issueS.next

theorem execVclamp_kept {d a b e} (h : Kept o s) : KeptNext o (execVclamp d a b e s) := h.issue.next

theorem execVint_kept {d a b e shift dir} (h : Kept o s) : KeptNext o (execVint d a b e shift dir s) := h.issue.next

theorem execIpre_kept {d a mask} (h : Kept o s) : KeptNext o (execIpre d a mask s) := h.issue.next

theorem execVdot_kept {d a b} (h : Kept o s) : KeptNext o (execVdot d a b s) := h.issueS.next

theorem execVld_kept {d maddr ind} (h : Kept o s) : KeptNext o (execVld d maddr ind s) := h.issue.next

theorem execVst_kept {d maddr ind} (h : Kept o s) : KeptNext o (execVst d maddr ind s) := h.issue.next

theorem execMvm_kept {d a maddr ind rows doff} (h : Kept o s) : KeptNext o (execMvm d a maddr ind rows doff s) := h.issue.next

theorem execMvma_kept {d a maddr ind rows doff} (h : Kept o s) : KeptNext o (execMvma d a maddr ind rows doff s) := h.issue.next

theorem execVmov_kept {d a} (h : Kept o s) : KeptNext o (execVmov d a s) := h.issueV.next

theorem execInPort_kept {d slot port} (h : Kept o s) : KeptNext o (execInPort d slot port s) := h.issue.next

theorem execInv_kept {d slot port} (h : Kept o s) : KeptNext o (execInv d slot port s) := h.issue.next

theorem execOutPort_kept {slot port a} (h : Kept o s) : KeptNext o (execOutPort slot port a s) := h.issue.next

theorem execOutv_kept {slot port a} (h : Kept o s) : KeptNext o (execOutv slot port a s) := h.issue.next

theorem execLdp_kept {d k} (h : Kept o s) : KeptNext o (execLdp d k s) := h.issue.next

theorem execLdpv_kept {d k} (h : Kept o s) : KeptNext o (execLdpv d k s) := h.issue.next

theorem Kept.applyHeld (h : Kept o s) : Kept o s.applyHeld := (h.foldl Kept.wr).upd

theorem Kept.writeParam {k x} (h : Kept o s) : Kept o (s.writeParam k x) := .ite h.upd h.wr

theorem execTriggerReady_kept {t} (h : Kept o s) : KeptNext o (execTriggerReady t s) := .ite h.upd.next h.next

theorem Kept.abortRun {t ran m} (h : Kept o s) : Kept o (s.abortRun t ran m) :=
  (Kept.ite h.upd.put.put.bumpWrap h.upd.put.put).bump.raiseM.applyHeld

theorem execTaskAbort_kept (h : Kept o s) : KeptNext o (execTaskAbort s) := by
  unfold execTaskAbort
  split
  · exact h.next
  · exact .ite (h.heldAct (fun h => h.abortRun)).next h.next

theorem execCarvePreset_kept {t} (h : Kept o s) : KeptNext o (execCarvePreset t s) := h.upd.status.next

theorem execCarveClearStats_kept {t} (h : Kept o s) : KeptNext o (execCarveClearStats t s) := h.put.put.status.next

theorem execParamWrite_kept {k value} (h : Kept o s) : KeptNext o (execParamWrite k value s) := h.writeParam.next

theorem Kept.route {cls idx p} (h : Kept o s) : Kept o (s.route cls idx p) := h.foldl fun h => .ite h.upd h

theorem Kept.routeVal {cls idx x} (h : Kept o s) : Kept o (s.routeVal cls idx x) := h.route

theorem execCarveInRead_kept {slot port} (h : Kept o s) : KeptNext o (execCarveInRead slot port s) := h.wr.next

theorem execCarveEccSweep_kept {fixed byRead} (h : Kept o s) : KeptNext o (execCarveEccSweep fixed byRead s) :=
  .ite (h.foldl Kept.raise).next h.next

/-! ## The functions of Machine/Can -/

theorem Kept.setCan {c x} (h : Kept o s) : Kept o (s.setCan c x) := h.upd

theorem Kept.setCanState {c v} (h : Kept o s) : Kept o (s.setCanState c v) := h.put

theorem Kept.setTxb {c b v} (h : Kept o s) : Kept o (s.setTxb c b v) := h.put

theorem Kept.endTxb {c b result} (h : Kept o s) : Kept o (s.endTxb c b result) := h.setTxb.put

theorem Kept.dropActive {c b v} (h : Kept o s) : Kept o (s.dropActive c b v) := .ite h.endTxb.setCan h.setTxb

theorem Kept.dropChosen {c} (h : Kept o s) : Kept o (s.dropChosen c) := by
  unfold State.dropChosen
  dsimp only
  split
  · exact h.setCan.dropActive
  · exact h.setCan

theorem Kept.heldStatus {c} (h : Kept o s) : Kept o (s.heldStatus c) := .ite h.raise h

theorem Kept.setTxData {c b l} (h : Kept o s) : Kept o (s.setTxData c b l) := h.foldl Kept.wr

theorem Kept.loadStatus {c l} (h : Kept o s) : Kept o (s.loadStatus c l) :=
  have h1 : Kept o _ := h.wr.put.put.put.put.put.setTxData.put
  (Kept.ite h1.setTxb h1).heldStatus

theorem Kept.statusFrame {code} (h : Kept o s) : Kept o (s.statusFrame code) :=
  h.foldl fun h => .ite (.ite h.setCan h.loadStatus) h

theorem Kept.statusAfter {c} (h : Kept o s) : Kept o (s.statusAfter c) := by
  unfold State.statusAfter
  dsimp only
  split
  · exact .ite h.setCan.loadStatus h
  · exact h

theorem Kept.canConfine {c m} (h : Kept o s) : Kept o (s.canConfine c m) := by
  unfold State.canConfine
  extract_lets set_ st hot s1 s2 s3 s4 s5
  have h1 : Kept o s1 := .ite h.setCanState.setCauseM.pulseTrip (.ite h.setCanState h)
  have h3 : Kept o s3 := h1.put.setCanState.dropChosen.foldl fun h => .ite h.setTxb (.ite h.dropActive h)
  have h5 : Kept o s5 := h3.put.bump.setCauseM.pulseTrip.statusAfter.heldStatus
  exact .ite (.ite (.ite h5.put.setCanState h5) h1) h

theorem execCanInitClear_kept {c} (h : Kept o s) : KeptNext o (execCanInitClear c s) :=
  .ite (.ite h.put.put.setCanState.next h.put.setCanState.next) h.put.next

theorem execCanInitSet_kept {c} (h : Kept o s) : KeptNext o (execCanInitSet c s) := h.put.next

theorem execCanConfigEntry_kept {c} (h : Kept o s) : KeptNext o (execCanConfigEntry c s) := by
  unfold execCanConfigEntry
  dsimp only
  split
  · refine Kept.next ?_
    refine Kept.heldStatus ?_
    refine Kept.statusAfter ?_
    split
    · exact h.setCan.setCanState.put.put.dropActive
    · exact h.setCan.setCanState.put.put.dropChosen
  · exact h.next

theorem execCanIntegrationDone_kept {c} (h : Kept o s) : KeptNext o (execCanIntegrationDone c s) :=
  .ite h.setCanState.next h.next

theorem execCanTxReq_kept {c b} (h : Kept o s) : KeptNext o (execCanTxReq c b s) := .ite h.raise.next h.setTxb.put.next

theorem execCanTxAbort_kept {c b} (h : Kept o s) : KeptNext o (execCanTxAbort c b s) := by
  unfold execCanTxAbort
  dsimp only
  split
  · exact h.next
  · exact h.setCan.next
  · exact .ite h.setCan.next h.endTxb.next

theorem Kept.canStart {c b} (h : Kept o s) : Kept o (s.canStart c b) := h.setCan.setTxb.put

theorem execCanTxSelect_kept {c} (h : Kept o s) : KeptNext o (execCanTxSelect c s) := by
  unfold execCanTxSelect
  dsimp only
  split
  · split
    · exact h.canStart.next
    · exact .ite h.setCan.next h.canStart.next
    · exact h.setCan.next
  · exact h.next

theorem Kept.ackClear {c} (h : Kept o s) : Kept o (s.ackClear c) := h.put.put

theorem Kept.canFill {c} (h : Kept o s) : Kept o (s.canFill c) := h.put.put.put

theorem Kept.canStore {c f e filter ns} (h : Kept o s) : Kept o (s.canStore c f e filter ns) :=
  .ite h.bump.raise (Kept.ite h.setCan.raise h.setCan).canFill.raise

theorem Kept.canAccept {c f ns l} (h : Kept o s) : Kept o (s.canAccept c f ns l) := by
  unfold State.canAccept
  dsimp only
  split
  · exact h.canStore
  · exact h.canStore
  · exact h.canStore
  · exact h
  · split
    · exact h.canStore
    · exact h.canStore
    · exact h

theorem Kept.canDelay {c e tdcv} (h : Kept o s) : Kept o (s.canDelay c e tdcv) := .ite h.put.setIf h

theorem execTxDone_kept {c tdcv ns} (h : Kept o s) : KeptNext o (execTxDone c tdcv ns s) := by
  unfold execTxDone
  split
  · exact h.next
  · extract_lets e s1 _ s2 s3 s4 s5
    have h4 : Kept o s4 := h.canDelay.endTxb.setCan.put.put.ackClear.raise.canConfine
    have h5 : Kept o s5 := .ite h4.canAccept h4
    exact h5.statusAfter.next

theorem Kept.lec {c kind dataPhase} (h : Kept o s) : Kept o (s.lec c kind dataPhase) := h.put

theorem Kept.ackError {c} (h : Kept o s) : Kept o (s.ackError c) := .ite h.bump.put.raise h.bump

theorem Kept.tecError {c e noDominant} (h : Kept o s) : Kept o (s.tecError c e noDominant) := h.put

theorem Kept.retryTxb {c b} (h : Kept o s) : Kept o (s.retryTxb c b) := .ite h.dropActive (.ite h.endTxb.raise h.setTxb)

theorem Kept.errorDelay {c b e} (h : Kept o s) : Kept o (s.errorDelay c b e) := by
  unfold State.errorDelay
  split
  · exact h.canDelay
  · exact h

theorem execCanTxError_kept {c kind dataPhase noDominant} (h : Kept o s) :
    KeptNext o (execCanTxError c kind dataPhase noDominant s) := by
  unfold execCanTxError
  split
  · exact h.next
  · extract_lets s1 s2
    have h1 : Kept o s1 := h.errorDelay.lec.bump.tecError
    have h2 : Kept o s2 := (Kept.ite h1.ackError h1).put
    exact h2.setCan.retryTxb.statusAfter.canConfine.next

theorem execCanRestart_kept {c} (h : Kept o s) : KeptNext o (execCanRestart c s) :=
  .ite h.deny.next h.put.setCanState.status.next

theorem execRecovered_kept {c} (h : Kept o s) : KeptNext o (execRecovered c s) :=
  .ite (h.put.put.put.foldl (fun h => .ite h.setTxb h)).setCan.setCanState.raise.next h.next

theorem execCanClearStats_kept {c} (h : Kept o s) : KeptNext o (execCanClearStats c s) := h.put.put.status.next

theorem Kept.canLost {c} (h : Kept o s) : Kept o (s.canLost c) := by
  unfold State.canLost
  refine Kept.statusAfter ?_
  split
  · exact h.put.dropChosen.dropActive
  · exact h.dropChosen

theorem Kept.recGood {c} (h : Kept o s) : Kept o (s.recGood c) := .ite h.fresh.put h.put

theorem execCanFrameReceived_kept {c sample resRecessive ns} {s0 : State} (h : Kept o s0) :
    KeptNext o (execCanFrameReceived c sample resRecessive ns s0) := by
  unfold execCanFrameReceived
  extract_lets s frame st s2 quiet t s3
  have hs : Kept o s := h.agreeFix
  have h2 : Kept o s2 := hs.canLost
  have ht : Kept o t := h2.lec
  have h3 : Kept o s3 := .ite h2 h2.recGood.canConfine
  exact .ite (.ite (.ite (Kept.next (.ite ht ht.bump.canConfine)) h2.setCanState.raise.next) h3.ackClear.canAccept.next) hs.next

theorem execCanRxRead_kept {c f} (h : Kept o s) : KeptNext o (execCanRxRead c f s) := by
  unfold execCanRxRead
  dsimp only
  split
  · exact h.wr.setCan.next
  · exact (h.setCan.wr.wr.wr.foldl Kept.wr).next

theorem execCanRxPop_kept {c f} (h : Kept o s) : KeptNext o (execCanRxPop c f s) := by
  unfold execCanRxPop
  dsimp only
  split
  · exact .ite h.setCan.canFill.next h.next
  · exact h.next

theorem execCanInject_kept {c cls} (h : Kept o s) : KeptNext o (execCanInject c cls s) :=
  (h.inject (fun h => .ite h.put.canConfine.injEnd h.setCauseM.injEnd)).next

theorem execReceiveError_kept {c kind dataPhase by8} (h : Kept o s) : KeptNext o (execReceiveError c kind dataPhase by8 s) :=
  .ite (.ite h.canLost.lec.next h.canLost.lec.put.canConfine.next) h.next

theorem Kept.recoveryShown {c} (h : Kept o s) : Kept o (s.recoveryShown c) := .ite h.fresh.put h

/-! ## The functions of Machine/Pos -/

theorem Kept.setPos {k x} (h : Kept o s) : Kept o (s.setPos k x) := h.upd

theorem Kept.rotSampleSlot {i cycle} (h : Kept o s) : Kept o (s.rotSampleSlot i cycle) := .ite h.upd h

theorem Kept.rotSample {k cycle} (h : Kept o s) : Kept o (s.rotSample k cycle) := by
  unfold State.rotSample
  split
  · exact h.rotSampleSlot
  · exact h

theorem Kept.posUpdM {k x reason m} (h : Kept o s) : Kept o (s.posUpdM k x reason m) := by
  unfold State.posUpdM
  dsimp only
  split
  · split
    · exact .ite h.setPos.rotSample h.setPos.setPos.rotSample.raiseM
    · exact h.setPos
  · exact h.setPos

theorem Kept.posUpd {k x reason} (h : Kept o s) : Kept o (s.posUpd k x reason) := h.posUpdM

theorem Kept.posBadM {k reason m} (h : Kept o s) : Kept o (s.posBadM k reason m) := h.posUpdM

theorem Kept.posBad {k reason} (h : Kept o s) : Kept o (s.posBad k reason) := h.posBadM

theorem Kept.posGood {k reason} (h : Kept o s) : Kept o (s.posGood k reason) := h.setPos

theorem Kept.posPlace {k cnt p} (h : Kept o s) : Kept o (s.posPlace k cnt p) := h.setPos.setIf

theorem Kept.posShift {k d} (h : Kept o s) : Kept o (s.posShift k d) := .ite h h.posPlace

theorem Kept.posMove {k d} (h : Kept o s) : Kept o (s.posMove k d) := h.posShift

theorem Kept.posRebase {k p} (h : Kept o s) : Kept o (s.posRebase k p) := h.posPlace.setPos

theorem Kept.posMeasure {k dir cycle} (h : Kept o s) : Kept o (s.posMeasure k dir cycle) := .ite h.setPos h.setPos

theorem Kept.posStamp {k dir cycle} (h : Kept o s) : Kept o (s.posStamp k dir cycle) := h.rotSample.posMeasure.rotSample

theorem Kept.posIllegal {k} (h : Kept o s) : Kept o (s.posIllegal k) :=
  .ite h.setPos.bump.raise.posUpd.raise h.setPos.bump.raise

theorem execQuadEdge_kept {k a b cycle} (h : Kept o s) : KeptNext o (execQuadEdge k a b cycle s) :=
  .ite h.next (.ite h.setPos.posIllegal.next (.ite h.next h.setPos.posMove.posStamp.next))

theorem execIllWindowEnd_kept {k} (h : Kept o s) : KeptNext o (execIllWindowEnd k s) :=
  (Kept.ite h.setPos.posGood h.setPos).next

theorem execIndexEvent_kept {k illegal} (h : Kept o s) : KeptNext o (execIndexEvent k illegal s) := by
  unfold execIndexEvent
  dsimp only
  split
  · exact h.next
  · split
    · exact h.posRebase.next
    · split
      · exact h.next
      · split
        · exact h.wr.next
        · split
          · exact .ite h.wr.setPos.posShift.raise.next h.wr.raise.next
          · split
            · exact h.wr.raise.next
            · exact h.wr.posUpd.raise.next
            · exact h.wr.raise.next

theorem execSpeedZeroTimeout_kept {k} (h : Kept o s) : KeptNext o (execSpeedZeroTimeout k s) :=
  .ite h.setPos.rotSample.next h.next

theorem execHallEdge_kept {k code cycle} (h : Kept o s) : KeptNext o (execHallEdge k code cycle s) := by
  unfold execHallEdge
  dsimp only
  split
  · exact h.next
  · split
    · exact h.setPos.raise.posIllegal.next
    · split
      · exact h.setPos.next
      · split
        · exact h.setPos.next
        · exact h.setPos.posMove.posStamp.next
        · exact h.setPos.posMove.posStamp.next
        · exact h.setPos.raise.posIllegal.next

theorem Kept.monAct {k bit reason m} (h : Kept o s) : Kept o (s.monAct k bit reason m) := h.posBadM.raiseM

theorem Kept.posMonitor {k run bit reason bad} (h : Kept o s) : Kept o (s.posMonitor k run bit reason bad) :=
  .ite (.ite h.monAct h) h.posGood

theorem execResolverUpdate_kept {k shaft rate error steady cycle} (h : Kept o s) :
    KeptNext o (execResolverUpdate k shaft rate error steady cycle s) :=
  have h1 : Kept o _ := h.posMove.setPos.rotSample
  .ite h.next (.ite (Kept.ite h1 h1.posBad.raise).next h1.posMonitor.next)

theorem execResMonitor_kept {k amplitude current limited} (h : Kept o s) :
    KeptNext o (execResMonitor k amplitude current limited s) :=
  .ite h.next (Kept.ite (.ite (h.setPos.heldAct (fun h => h.monAct)) h.setPos) h.setPos.heldEnd.posGood).posMonitor.next

theorem execResPhaseMeasure_kept {k phase} (h : Kept o s) : KeptNext o (execResPhaseMeasure k phase s) := .ite h.put.next h.next

theorem Kept.posDiscard {k bits} (h : Kept o s) : Kept o (s.posDiscard k bits) :=
  .ite (h.setPos.foldl Kept.raise).posBad (h.setPos.foldl Kept.raise)

theorem execSerFrameStart_kept {k sdaHigh cycle} (h : Kept o s) : KeptNext o (execSerFrameStart k sdaHigh cycle s) :=
  .ite h.next (.ite h.posDiscard.next h.setPos.next)

theorem execSerFrameEnd_kept {k data crc parity sdaHigh} (h : Kept o s) :
    KeptNext o (execSerFrameEnd k data crc parity sdaHigh s) := by
  unfold execSerFrameEnd
  refine .ite h.next ?_
  extract_lets st mt sb w poly d want0 want par odd crcBad err warn s0 s1 failures
  have h1 : Kept o s1 := h.setPos.setIf
  refine .ite (Kept.posDiscard (.ite h1.bump h1)).next ?_
  extract_lets
  split
  · exact h1.posPlace.setPos.next
  · exact .ite h1.posMove.setPos.posStamp.next h1.posMove.setPos.posStamp.next

theorem execSerTimeout_kept {k} (h : Kept o s) : KeptNext o (execSerTimeout k s) := .ite h.setPos.posDiscard.next h.next

theorem Kept.routePos {t cycle} (h : Kept o s) : Kept o (s.routePos t cycle) := h.foldl fun h => .ite h.route.route.route h

theorem execPosAngleRead_kept {k cycle} (h : Kept o s) : KeptNext o (execPosAngleRead k cycle s) := h.wr.wr.wr.wr.wr.wr.next

theorem Kept.wireAct {k pair m} (h : Kept o s) : Kept o (s.wireAct k pair m) := h.posUpdM.raiseM

theorem execWireFault_kept {k pair} (h : Kept o s) : KeptNext o (execWireFault k pair s) :=
  .ite (h.heldAct (fun h => h.wireAct)).next h.next

theorem execWireRecover_kept {k} (h : Kept o s) : KeptNext o (execWireRecover k s) :=
  (h.foldl Kept.heldEnd).setPos.posGood.next

theorem execPosPreset_kept {k edge} (h : Kept o s) : KeptNext o (execPosPreset k edge s) :=
  .ite h.posRebase.posMove.status.next h.deny.next

theorem execClearHomed_kept {k} (h : Kept o s) : KeptNext o (execClearHomed k s) := h.posUpd.status.next

theorem execPosClearCounters_kept {k} (h : Kept o s) : KeptNext o (execPosClearCounters k s) := h.put.put.status.next

theorem Kept.posFreeze {k i cycle} (h : Kept o s) : Kept o (s.posFreeze k i cycle) := .ite h.setPos.setPos.posBad.raise h.setPos

theorem Kept.posPlaus {k i cycle} (h : Kept o s) : Kept o (s.posPlaus k i cycle) :=
  have h1 : Kept o _ := h.heldEnd.setPos
  .ite (.ite (.ite (h.setPos.heldAct (fun h => h.monAct)) h.setPos) (.ite h1.posGood h1)) h

/-! ## The functions of Machine/Pwm -/

theorem Kept.mpAct {n} (h : Kept o s) : Kept o (s.mpAct n) := h.bump

theorem Kept.leadEdge {n outB} (h : Kept o s) : Kept o (s.leadEdge n outB) :=
  .ite h.setLeg (.ite h.setLeg.mpAct (.ite h.setLeg.mpAct h.setLeg))

theorem Kept.refOn {n outB t} (h : Kept o s) : Kept o (s.refOn n outB t) := .ite h.setLeg.leadEdge h.setLeg

theorem Kept.refOff {n outB t by_} {s0 : State} (h : Kept o s0) : Kept o (s0.refOff n outB t by_) :=
  .ite (.ite (Kept.ite h.leadEdge h).setLeg (Kept.ite h.leadEdge h).setLeg.mpAct) (Kept.ite h.leadEdge h).setLeg

theorem Kept.applyRef {n outB new by_} (h : Kept o s) : Kept o (s.applyRef n outB new by_) := .ite h (.ite h.refOn h.refOff)

theorem Kept.applyRefs {n r by_} (h : Kept o s) : Kept o (s.applyRefs n r by_) := .ite h.applyRef.applyRef h.applyRef.applyRef

theorem Kept.updateRefs {n by_} (h : Kept o s) : Kept o (s.updateRefs n by_) := h.applyRefs

theorem Kept.tapLead {n mid} (h : Kept o s) : Kept o (s.tapLead n mid) := .ite h.applyRefs.settle h

theorem Kept.tapTrail {n mid by_} (h : Kept o s) : Kept o (s.tapTrail n mid by_) :=
  .ite h.applyRefs h.applyRefs.settle.updateRefs

theorem Kept.legElapse {n} {s0 : State} (h : Kept o s0) : Kept o (s0.legElapse n) := h.fresh.setLeg

theorem Kept.moveTo {n counter down} (h : Kept o s) : Kept o (s.moveTo n counter down) := h.setLeg

theorem Kept.fireEvent {n src} (h : Kept o s) : Kept o (s.fireEvent n src) :=
  (Kept.ite h.setLeg.setIf.upd h.setLeg.setIf).foldl fun h => .ite (.ite h.upd h.upd) h

theorem Kept.loadActive {n c mid} (h : Kept o s) : Kept o (s.loadActive n c mid) :=
  (Kept.ite (h.foldl (fun h => .ite h.wr h)).put (h.foldl (fun h => .ite h.wr h))).setLeg

theorem Kept.transfer {n mid} (h : Kept o s) : Kept o (s.transfer n mid) := by
  unfold State.transfer
  dsimp only
  split
  · exact h
  · exact .ite (Kept.ite h.loadActive.bumpWrap.bump.raise h.loadActive.bumpWrap).setLeg.put
        (Kept.ite h.loadActive.bumpWrap.bump.raise h.loadActive.bumpWrap).setLeg

theorem Kept.lateCommit {n} (h : Kept o s) : Kept o (s.lateCommit n) := h.bump.raise

theorem Kept.commit {n point late} (h : Kept o s) : Kept o (s.commit n point late) := .ite h.setLeg.lateCommit h.setLeg

theorem Kept.midCommit {n} (h : Kept o s) : Kept o (s.midCommit n) := .ite h.raise h.commit

theorem Kept.midWrite {n} (h : Kept o s) : Kept o (s.midWrite n) := (h.foldl (fun h => h.fresh.wr.setLeg)).put.setLeg.midCommit

theorem Kept.midIdle {n} (h : Kept o s) : Kept o (s.midIdle n) := h.put.setLeg.midCommit

theorem Kept.pointAct {n mid} {s0 : State} (h : Kept o s0) : Kept o (s0.pointAct n mid) := by
  unfold State.pointAct
  dsimp only
  exact (Kept.ite (.ite h.transfer.midWrite h.transfer) (.ite h.lateCommit h)).followForce.tapTrail.fireEvent.settle

theorem Kept.point {n mid} (h : Kept o s) : Kept o (s.point n mid) := h.tapLead.pointAct

theorem Kept.periodDue {n} (h : Kept o s) : Kept o (s.periodDue n) := by
  unfold State.periodDue
  dsimp only
  split
  · exact h.wr.setLeg
  · exact h

theorem Kept.atBoundary {n} (h : Kept o s) : Kept o (s.atBoundary n) := h.moveTo.periodDue.point

theorem execPwmBoundary_kept {n} (h : Kept o s) : KeptNext o (execPwmBoundary n s) := (Kept.ite h.atBoundary h).next

theorem Kept.atMid {n} (h : Kept o s) : Kept o (s.atMid n) := (Kept.ite h.moveTo h.moveTo).point

theorem execPwmMid_kept {n} (h : Kept o s) : KeptNext o (execPwmMid n s) := (Kept.ite h.atMid h).next

theorem execPwmCompareEvent_kept {n src down mirror} (h : Kept o s) : KeptNext o (execPwmCompareEvent n src down mirror s) :=
  .ite (Kept.ite h.moveTo.updateRefs.settle h.moveTo.updateRefs.fireEvent.settle).next h.next

theorem execCommitDeadline_kept {n} (h : Kept o s) : KeptNext o (execCommitDeadline n s) :=
  .ite (.ite (.ite h.setLeg.setSlot.slotLine.next h.setLeg.next) h.setLeg.next) h.next

theorem execPwmCommit_kept {n point late} (h : Kept o s) : KeptNext o (execPwmCommit n point late s) :=
  .ite h.raise.next (.ite h.next h.commit.next)

theorem execPwmLoadall_kept (h : Kept o s) : KeptNext o (execPwmLoadall s) := .ite h.put.upd.next h.next

theorem execPwmSync_kept (h : Kept o s) : KeptNext o (execPwmSync s) := .ite h.upd.status.next h.deny.next

theorem execPwmClearStats_kept (h : Kept o s) : KeptNext o (execPwmClearStats s) := (h.foldl (fun h => h.wr.wr)).status.next

theorem Kept.syncLeg {n} {st : State} (h : Kept o st) : Kept o (st.syncLeg n) :=
  have h1 : Kept o _ := (Kept.ite h.legElapse h).setLeg
  .ite h (.ite h1.periodDue.pointAct (.ite h1.setLeg.pointAct h1.updateRefs.settle))

theorem Kept.sync (h : Kept o s) : Kept o s.sync := h.upd.foldl Kept.syncLeg

theorem execSyncIssue_kept (h : Kept o s) : KeptNext o (execSyncIssue s) := .ite h.upd.sync.next h.next

theorem execDeadTimeEnd_kept {n outB} (h : Kept o s) : KeptNext o (execDeadTimeEnd n outB s) :=
  .ite (Kept.ite h.leadEdge.settle h.setLeg.settle).next h.next

theorem execMinpulseStretchEnd_kept {n outB} (h : Kept o s) : KeptNext o (execMinpulseStretchEnd n outB s) :=
  .ite h.setLeg.settle.next h.next

theorem execInterlockRelease_kept {k} (h : Kept o s) : KeptNext o (execInterlockRelease k s) := by
  unfold execInterlockRelease
  dsimp only
  split
  · exact .ite (Kept.ite h h.upd).upd.settle.next (Kept.ite h h.upd).next
  · exact h.next

theorem execIlockWindowEnd_kept (h : Kept o s) : KeptNext o (execIlockWindowEnd s) :=
  (h.foldl (fun h => .ite h.raise h)).upd.next

theorem execTripRequest_kept (h : Kept o s) : KeptNext o (execTripRequest s) := by
  unfold execTripRequest
  dsimp only
  split
  · exact h.next
  · exact h.upd.reforce.next

theorem execForcedTurnOn_kept {n outB} (h : Kept o s) : KeptNext o (execForcedTurnOn n outB s) :=
  .ite (Kept.ite h.setLeg.settle h).next (Kept.ite h.setLeg.settle h).next

theorem execTripRelease_kept {mask} (h : Kept o s) : KeptNext o (execTripRelease mask s) := h.upd.reforce.setIf.next

theorem execTripDeassert_kept {g} (h : Kept o s) : KeptNext o (execTripDeassert g s) := .ite h.upd.reforce.next h.next

theorem Kept.setTripIn {i t} (h : Kept o s) : Kept o (s.setTripIn i t) := h.upd

theorem Kept.tripInAct {i level live} (h : Kept o s) : Kept o (s.tripInAct i level live) :=
  .ite h.setTripIn.bump.setCauseM.presentTrip (.ite h.setTripIn.endTrip h)

theorem Kept.tripInEval {i} (h : Kept o s) : Kept o (s.tripInEval i) := by
  unfold State.tripInEval
  dsimp only
  split
  · exact h
  · split
    · exact .ite h.setTripIn (.ite h h.tripInAct.status.upd)
    · exact h.tripInAct

theorem execTripinFilterDone_kept {i high} {s0 : State} (h : Kept o s0) : KeptNext o (execTripinFilterDone i high s0) :=
  h.agreeFix.setTripIn.tripInEval.next

theorem execBlankWindowEnd_kept {i} (h : Kept o s) : KeptNext o (execBlankWindowEnd i s) := h.setTripIn.tripInEval.next

theorem execTripinInject_kept {i cls} (h : Kept o s) : KeptNext o (execTripinInject i cls s) :=
  (h.inject (fun h => h.setTripIn.tripInEval)).next

theorem execTripinInjectEnd_kept {i} (h : Kept o s) : KeptNext o (execTripinInjectEnd i s) := by
  unfold execTripinInjectEnd
  split
  · exact h.next
  · extract_lets t pass s1 s2
    have h2 : Kept o s2 := .ite h.injEnd.setCauseM h.injEnd
    exact .ite h.next (.ite h.upd.tripInEval.next (Kept.next (.ite h2.tripInAct h2.tripInEval)))

/-! ## The functions of Machine/Slot -/

theorem Kept.frictionCheck (h : Kept o s) : Kept o s.frictionCheck := .ite h.upd h

theorem Kept.chopRefs (h : Kept o s) : Kept o s.chopRefs := (h.foldl (fun h => .ite h.legElapse.updateRefs h)).settle

theorem Kept.writeDisch {i x} (h : Kept o s) : Kept o (s.writeDisch i x) := h.writeParam

theorem Kept.writeMode {x} (h : Kept o s) : Kept o (s.writeMode x) := h.writeParam

theorem Kept.leaveCharge {safe} (h : Kept o s) : Kept o (s.leaveCharge safe) := h.writeMode.upd

theorem Kept.dischRelease (h : Kept o s) : Kept o s.dischRelease := .ite h.upd.upd.put h.upd

theorem Kept.leaveDischarge {i} (h : Kept o s) : Kept o (s.leaveDischarge i) :=
  (Kept.ite h.writeDisch h).setSlot.dischRelease.chopRefs

theorem Kept.rotStart {i} (h : Kept o s) : Kept o (s.rotStart i) := h.upd.put

theorem Kept.rotStop {i} (h : Kept o s) : Kept o (s.rotStop i) := h.upd.put

theorem Kept.rotWrite {i res src speed angle} (h : Kept o s) : Kept o (s.rotWrite i res src speed angle) :=
  h.put.put.put.bumpWrap.upd.routeVal.routeVal

theorem Kept.slalomEnter {i} (h : Kept o s) : Kept o (s.slalomEnter i) := h.upd

theorem Kept.lockBegin {i} (h : Kept o s) : Kept o (s.lockBegin i) := h.upd

theorem Kept.endHold {i} (h : Kept o s) : Kept o (s.endHold i) := .ite h.upd.reforce h

theorem Kept.dropHolds (h : Kept o s) : Kept o s.dropHolds := h.upd

theorem Kept.clearLatches {i} (h : Kept o s) : Kept o (s.clearLatches i) := h.upd.dropHolds.put.reforce

theorem Kept.enterNow {i st r} (h : Kept o s) : Kept o (s.enterNow i st r) :=
  have h1 : Kept o _ := .ite h.leaveCharge h
  have h2 : Kept o _ := .ite h1.leaveDischarge h1
  have h3 : Kept o _ := (Kept.ite h2.rotStop h2).setSlot
  have h4 : Kept o _ := .ite h3.slalomEnter.lockBegin h3
  have h5 : Kept o _ := .ite h4.bump.slotLine.endHold h4
  (Kept.ite h5.rotStart (.ite h5.clearLatches h5)).raise.frictionCheck

theorem Kept.enter {i st r} (h : Kept o s) : Kept o (s.enter i st r) := .ite (Kept.ite h.rotStop h).setSlot h.enterNow

theorem Kept.dischargeFail {i r} (h : Kept o s) : Kept o (s.dischargeFail i r) := h.writeDisch.raise.enter.statusFrame

theorem Kept.dischargeDone {i} (h : Kept o s) : Kept o (s.dischargeDone i) := h.raise.enter

theorem Kept.dischPhase2 {i} (h : Kept o s) : Kept o (s.dischPhase2 i) := by
  unfold State.dischPhase2
  dsimp only
  exact .ite h.dischRelease.chopRefs.dischargeDone
      (.ite h.dischRelease.chopRefs.setSlot.writeDisch h.dischRelease.chopRefs.dischargeFail)

theorem Kept.chopStart (h : Kept o s) : Kept o s.chopStart := h.upd.bump

theorem Kept.dischBegin {i} (h : Kept o s) : Kept o (s.dischBegin i) :=
  .ite h.dischargeDone (.ite h.setSlot.upd.chopStart.chopRefs h.dischPhase2)

theorem Kept.chopFault {m} (h : Kept o s) : Kept o (s.chopFault m) :=
  ((h.foldl Kept.raiseM).foldl (fun h => .ite h.writeParam h)).upd.put.statusFrame.foldl fun h => .ite h.dischPhase2 h

theorem Kept.chopJudge {fell ended} (h : Kept o s) : Kept o (s.chopJudge fell ended) :=
  .ite (.ite h.upd.put h.upd.put.chopFault) h

theorem Kept.chopAssert (h : Kept o s) : Kept o s.chopAssert := .ite h.upd.chopStart.chopRefs h

theorem Kept.chargeStop {i r} (h : Kept o s) : Kept o (s.chargeStop i r) := by
  unfold State.chargeStop
  dsimp only
  split
  · exact h.enter
  · exact .ite h.upd h.enter
  · exact h.upd
  · exact h
  · exact h

theorem Kept.chargeOpen (h : Kept o s) : Kept o s.chargeOpen := .ite h.upd h.enter

theorem Kept.applyF2 {i} (h : Kept o s) : Kept o (s.applyF2 i) := by
  unfold State.applyF2
  split
  · exact h.enter
  · exact h.enter
  · exact h.enter
  · exact h.chargeStop
  · exact h.dischargeFail
  · exact h
  · exact h
  · exact h
  · exact h
  · exact h

theorem Kept.applyF34 {i r} (h : Kept o s) : Kept o (s.applyF34 i r) := .ite h (Kept.ite h.writeDisch h).enter

/-! ## The functions of Machine/Emf -/

theorem Kept.emfMeasure {i cycle} (h : Kept o s) : Kept o (s.emfMeasure i cycle) := .ite h.upd h

theorem Kept.emfTake {k cycle} (h : Kept o s) : Kept o (s.emfTake k cycle) := h.foldl fun h => .ite h.emfMeasure.rotSampleSlot h

theorem Kept.ascTake {i cycle} (h : Kept o s) : Kept o (s.ascTake i cycle) := by
  unfold State.ascTake
  dsimp only
  split
  · exact h.setSlot
  · exact h.setSlot

/-! ## The functions of Machine/Drive -/

theorem Kept.driveDeny {i} (h : Kept o s) : Kept o (s.driveDeny i) := h.deny.setIf

theorem driveCmd_kept {i ok} {act : State → State} (h : Kept o s) (hf : ∀ {t}, Kept o t → Kept o (act t)) :
    KeptNext o (s.driveCmd i ok act) :=
  .ite (hf h).status.next h.driveDeny.next

theorem execArm_kept {i} (h : Kept o s) : KeptNext o (execArm i s) := driveCmd_kept h (fun h => h.enter)

theorem execStart_kept {i} (h : Kept o s) : KeptNext o (execStart i s) := driveCmd_kept h (fun h => h.enter)

theorem execStop_kept {i} (h : Kept o s) : KeptNext o (execStop i s) := by
  unfold execStop
  split
  · exact driveCmd_kept h (fun h => h.enter)
  · exact driveCmd_kept h (fun h => h.chargeStop)
  · exact driveCmd_kept h (fun h => h)

theorem execResume_kept {i} (h : Kept o s) : KeptNext o (execResume i s) := driveCmd_kept h (fun h => h.enter)

theorem execDisarm_kept {i} (h : Kept o s) : KeptNext o (execDisarm i s) := driveCmd_kept h (fun h => h.enter)

theorem execRecover_kept {i} (h : Kept o s) : KeptNext o (execRecover i s) := driveCmd_kept h (fun h => h.enter)

theorem execRestart_kept {i} (h : Kept o s) : KeptNext o (execRestart i s) := driveCmd_kept h (fun h => h.enter)

theorem execDischarge_kept {i} (h : Kept o s) : KeptNext o (execDischarge i s) := driveCmd_kept h (fun h => h.enter.dischBegin)

theorem Kept.catchLock {i res src speed angle} (h : Kept o s) : Kept o (s.catchLock i res src speed angle) := by
  unfold State.catchLock
  dsimp only
  split
  · exact .ite h.rotWrite.bump.enter h.rotWrite.bump.enter
  · exact h.rotWrite.bump.enter.setSlot
  · exact h.rotWrite.bump.enter

theorem execCatchDeadline_kept {i} (h : Kept o s) : KeptNext o (execCatchDeadline i s) :=
  .ite h.next (.ite h.setSlot.next (.ite h.setSlot.bump.lockBegin.raise.enter.next h.setSlot.bump.lockBegin.next))

theorem execCatchEpisodeEnd_kept {i} (h : Kept o s) : KeptNext o (execCatchEpisodeEnd i s) := .ite h.setSlot.next h.next

theorem execStandstill_kept {i} (h : Kept o s) : KeptNext o (execStandstill i s) :=
  .ite (.ite (.ite h.setSlot.enter.next h.setSlot.enter.next) h.setSlot.next) h.next

theorem execGlideTimeout_kept {i} (h : Kept o s) : KeptNext o (execGlideTimeout i s) := .ite h.raise.next h.next

theorem execOvTrip2Release_kept (h : Kept o s) : KeptNext o (execOvTrip2Release s) := .ite h.ovLine.next h.next

theorem execDischargePhase1Timeout_kept {i} (h : Kept o s) : KeptNext o (execDischargePhase1Timeout i s) :=
  .ite h.dischPhase2.next h.next

theorem execDischargePhase2Timeout_kept {i} (h : Kept o s) : KeptNext o (execDischargePhase2Timeout i s) :=
  .ite (Kept.ite h.dischargeDone h.dischargeFail).next h.next

theorem execChopRequestRelease_kept {aMv bMv} (h : Kept o s) : KeptNext o (execChopRequestRelease aMv bMv s) :=
  .ite (Kept.ite h.upd.upd h.upd.upd.chopJudge).chopRefs.next h.upd.next

theorem execChopVerify_kept {mv} (h : Kept o s) : KeptNext o (execChopVerify mv s) := h.upd.chopJudge.next

/-! ## The functions of Machine/Charge -/

theorem Kept.setSeqOk {v} (h : Kept o s) : Kept o (s.setSeqOk v) := h.put

theorem Kept.sourceMeasure {cycle} (h : Kept o s) : Kept o (s.sourceMeasure cycle) :=
  .ite h (.ite h.upd.wr.setSeqOk (.ite h.upd.wr.setSeqOk.setIf (.ite h.upd h.upd)))

theorem execSourceOk_kept (h : Kept o s) : KeptNext o (execSourceOk s) := .ite h.put.next h.next

theorem execSourceLost_kept (h : Kept o s) : KeptNext o (execSourceLost s) := by
  unfold execSourceLost
  dsimp only
  split
  · split
    · exact h.put.bump.raise.next
    · exact h.put.bump.raise.next
    · exact h.put.bump.raise.next
    · exact h.put.next
    · exact h.put.next
  · exact h.next

theorem execCharge_kept {i} (h : Kept o s) : KeptNext o (execCharge i s) :=
  .ite (driveCmd_kept h (fun h => h)) (driveCmd_kept (Kept.ite h h.put) (fun h => h.put.bump.writeMode.enter))

theorem Kept.chargeEntered (h : Kept o s) : Kept o s.chargeEntered := h.upd.setIf

theorem Kept.ctrFault {b} (h : Kept o s) : Kept o (s.ctrFault b) := h.bump.raise

theorem execCtrFbChange_kept {high} (h : Kept o s) : KeptNext o (execCtrFbChange high s) := by
  unfold execCtrFbChange
  dsimp only
  split
  · exact h.upd.next
  · exact h.upd.ctrFault.next
  · exact .ite h.upd.enter.next h.upd.next
  · exact h.upd.next

theorem execParkInChange_kept {high} (h : Kept o s) : KeptNext o (execParkInChange high s) := h.upd.setIf.next

theorem execCloseTimeExpiry_kept (h : Kept o s) : KeptNext o (execCloseTimeExpiry s) := .ite h.ctrFault.next h.next

theorem execSettleExpiry_kept (h : Kept o s) : KeptNext o (execSettleExpiry s) := .ite h.upd.next h.next

theorem execRampTimeout_kept (h : Kept o s) : KeptNext o (execRampTimeout s) := .ite h.raise.chargeOpen.next h.next

theorem execOpenTimeExpiry_kept (h : Kept o s) : KeptNext o (execOpenTimeExpiry s) := .ite h.ctrFault.next h.next

theorem Kept.chargeOv (h : Kept o s) : Kept o s.chargeOv := by
  unfold State.chargeOv
  dsimp only
  split
  · exact h
  · exact .ite (.ite h.upd h.enter) h
  · exact .ite (.ite h.upd h.enter) h
  · exact .ite (.ite h.upd h.enter) h
  · exact .ite (.ite h.upd h.enter) h

theorem Kept.ztg (h : Kept o s) : Kept o s.ztg := .ite h (Kept.ite (.ite h.upd.bump.raise h.upd) h).upd.setIf

/-! ## The functions of Machine/Clk -/

theorem Kept.broughtIn {left} (h : Kept o s) : Kept o (s.broughtIn left) := h.raise.setIf

theorem Kept.spareOut (h : Kept o s) : Kept o s.spareOut := h.raise

theorem Kept.showSpares {lane} (h : Kept o s) : Kept o (s.showSpares lane) := h.put

theorem Kept.pllToGroomer {p} (h : Kept o s) : Kept o (s.pllToGroomer p) := .ite h h.upd

theorem Kept.pllCaused {p} (h : Kept o s) : Kept o (s.pllCaused p) := .ite h.upd.upd.raise h.upd.pllToGroomer

theorem Kept.bridge (h : Kept o s) : Kept o s.bridge := .ite h.put.put.put.raise.upd h.put.put.put.raise.spareOut

theorem Kept.bridgeEnd {p} (h : Kept o s) : Kept o (s.bridgeEnd p) := h.put.put.put.upd.pllToGroomer

theorem execPllSwitch_kept (h : Kept o s) : KeptNext o (execPllSwitch s) :=
  .ite h.put.put.bump.raise.pllCaused.broughtIn.next (.ite h.bridge.next h.next)

theorem Kept.refLoss {m} (h : Kept o s) : Kept o (s.refLoss m) := .ite h.put.put.bump.raiseM h

theorem execRefLoss_kept (h : Kept o s) : KeptNext o (execRefLoss s) := (h.heldAct (fun h => h.refLoss)).next

theorem execHoldoverLimit_kept (h : Kept o s) : KeptNext o (execHoldoverLimit s) := h.setIf.next

theorem execRefReturn_kept (h : Kept o s) : KeptNext o (execRefReturn s) := .ite h.put.put.heldEnd.next h.next

theorem execPllBoth_kept (h : Kept o s) : KeptNext o (execPllBoth s) := .ite h.bridge.next h.next

theorem execBridgeToPll_kept {a b} (h : Kept o s) : KeptNext o (execBridgeToPll a b s) :=
  .ite (Kept.ite h.put h).bridgeEnd.next h.next

theorem execPllSpareTestEnd_kept {ok} (h : Kept o s) : KeptNext o (execPllSpareTestEnd ok s) := by
  unfold execPllSpareTestEnd
  dsimp only
  split
  · exact h.next
  · exact h.upd.put.next

/-! ## The functions of Machine/Sdm -/

theorem Kept.sdmTrigger {t cycle} (h : Kept o s) : Kept o (s.sdmTrigger t cycle) := h.upd

theorem Kept.setSdm {n f} (h : Kept o s) : Kept o (s.setSdm n f) := h.upd

theorem Kept.pairCompare {n} (h : Kept o s) : Kept o (s.pairCompare n) :=
  .ite (.ite h.setSdm.setSdm h.setSdm.setSdm.setSdm.setIf) h

theorem Kept.filterResult {n bitsA bitsB gateEdge cycle} {st : State} (h : Kept o st) :
    Kept o (st.filterResult n bitsA bitsB gateEdge cycle) :=
  (Kept.iteSnd h.fresh h).setSdm.wr.setIf.setIf.pairCompare.route

theorem Kept.phvResult {i bits cycle} {st : State} (h : Kept o st) : Kept o (st.phvResult i bits cycle) :=
  have h1 : Kept o _ := (Kept.iteSnd h.fresh h).upd.wr.setIf.route.emfTake
  .ite h1.sourceMeasure h1

theorem execSdmResult_kept {n bitsA bitsB gateEdge copyDiffers cycle} (h : Kept o s) :
    KeptNext o (execSdmResult n bitsA bitsB gateEdge copyDiffers cycle s) :=
  .ite (.ite h.agreeFix.filterResult.next h.next) (.ite h.agreeFix.phvResult.next h.next)

theorem Kept.streamDown {k} (h : Kept o s) : Kept o (s.streamDown k) := .ite h h.put.raise

theorem execStreamStuck_kept {n} (h : Kept o s) : KeptNext o (execStreamStuck n s) := h.streamDown.next

theorem Kept.streamFresh {k cycle} (h : Kept o s) : Kept o (s.streamFresh k cycle) := h.upd

theorem Kept.streamUp {k} (h : Kept o s) : Kept o (s.streamUp k) := h.ctlNow.streamFresh

theorem Kept.sdmEnabled {s0 : State} (h1 : Kept o s) : Kept o (s0.sdmEnabled s) := .ite h1.ctlNow.upd h1

theorem execStreamChange_kept {n cycle} (h : Kept o s) : KeptNext o (execStreamChange n cycle s) :=
  .ite h.put.streamFresh.next h.next

theorem Kept.cmpRelease {n} (h : Kept o s) : Kept o (s.cmpRelease n) := .ite h h.endTrip

theorem Kept.cmpAssert {n m} (h : Kept o s) : Kept o (s.cmpAssert n m) := h.setCauseM.presentTrip

theorem Kept.cmpSide {n target up} (h : Kept o s) : Kept o (s.cmpSide n target up) := .ite (h.heldAct (fun h => h.cmpAssert)) h

theorem Kept.cmpGate {n} (h : Kept o s) : Kept o (s.cmpGate n) := .ite h.setSdm.cmpRelease h.setSdm

theorem execSdmCmpOutput_kept {n bitsA bitsB} {st : State} (h : Kept o st) : KeptNext o (execSdmCmpOutput n bitsA bitsB st) :=
  have h1 : Kept o _ := (Kept.iteSnd h.fresh h).setSdm
  have h2 : Kept o _ := .ite h1 h1.heldEnd
  have h3 : Kept o _ := .ite h2 h2.heldEnd
  .ite (.ite h3.cmpSide.cmpSide.next (.ite h3.cmpSide.cmpSide.next (.ite h3.cmpRelease.next h3.next))) h.next

theorem execSdmResRead_kept {n} (h : Kept o s) : KeptNext o (execSdmResRead n s) :=
  .ite h.wr.wr.setSdm.next (.ite h.wr.upd.next (.ite h.wr.upd.next h.wr.upd.next))

theorem Kept.ovHold {i} (h : Kept o s) : Kept o (s.ovHold i) := by
  unfold State.ovHold
  dsimp only
  split
  · exact .ite h.setSlot h
  · split
    · exact h
    · exact .ite (.ite h h.setSlot.raise) (.ite h.setSlot h)

theorem execDclResult_kept {bitsA sample} {s0 : State} (h : Kept o s0) : KeptNext o (execDclResult bitsA sample s0) :=
  .ite h.agreeFix.next (Kept.next (.foldl (.route (.route (.setIf (.setIf (.upd (.setIf (.setIf (.setIf (.setIf (.wr (.wr (.upd
    (.iteSnd (.fresh (.iteSnd h.agreeFix.ctlNow h.agreeFix)) (.iteSnd h.agreeFix.ctlNow h.agreeFix))))))))))))))
    fun h => .ite h.ovHold.dischargeDone h.ovHold))

theorem Kept.warmOv (h : Kept o s) : Kept o s.warmOv := h.foldl fun h => .ite h.setLeg h

theorem Kept.crossAct {t m} (h : Kept o s) : Kept o (s.crossAct t m) := by
  unfold State.crossAct
  split
  · exact h.raiseM.chopAssert
  · exact h.ovLine.raiseM.chargeOv
  · exact h.raiseM.statusFrame
  · exact h.raiseM

theorem Kept.dclSeen {chB obs} (h : Kept o s) : Kept o (s.dclSeen chB obs).2 := by
  unfold State.dclSeen
  dsimp only
  split
  · exact h
  · split
    · exact h
    · exact h.fresh

theorem execDclThresholdCross_kept {t chB obs} {st : State} (h : Kept o st) :
    KeptNext o (execDclThresholdCross t chB obs st) := by
  unfold execDclThresholdCross
  dsimp only
  split
  · exact .ite h.dclSeen.warmOv.next h.dclSeen.next
  · exact .ite h.dclSeen.upd.heldEnd.next (.ite h.dclSeen.upd.next (h.dclSeen.upd.heldAct (fun h => h.crossAct)).next)

theorem Kept.showFilters (h : Kept o s) : Kept o s.showFilters := h.put

theorem Kept.markFilter {u bad} (h : Kept o s) : Kept o (s.markFilter u bad) := h.upd

theorem Kept.sdmSpareStart {n want} (h : Kept o s) : Kept o (s.sdmSpareStart n want) := by
  unfold State.sdmSpareStart
  dsimp only
  split
  · exact h.spareOut
  · exact h.setSdm.showFilters

theorem Kept.nextFilter {want} (h : Kept o s) : Kept o (s.nextFilter want) := by
  unfold State.nextFilter
  dsimp only
  split
  · exact h
  · exact .ite h h.upd.sdmSpareStart

theorem execSdmSpareAssign_kept {n} {s0 : State} (h : Kept o s0) : KeptNext o (execSdmSpareAssign n s0) :=
  .ite h.markFilter.next (.ite h.markFilter.upd.next h.markFilter.sdmSpareStart.next)

theorem execSdmSpareTakeover_kept {n} (h : Kept o s) : KeptNext o (execSdmSpareTakeover n s) := by
  unfold execSdmSpareTakeover
  dsimp only
  split
  · exact .ite h.setSdm.upd.showFilters.raise.broughtIn.nextFilter.next h.next
  · exact h.next

/-! ## The functions of Machine/Edge -/

theorem Kept.setEdge {n e} (h : Kept o s) : Kept o (s.setEdge n e) := h.upd

theorem Kept.edgeDetail {n d m} (h : Kept o s) : Kept o (s.edgeDetail n d m) := .ite h.put.setCauseM h.put.setCauseM.pulseTrip

theorem Kept.edgeIf {b n d} (h : Kept o s) : Kept o (s.edgeIf b n d) := .ite h.edgeDetail h

theorem Kept.edgeDeny {addr n} (h : Kept o s) : Kept o (s.edgeDeny addr n) := h.status.edgeDetail

theorem Kept.markSide {n} (h : Kept o s) : Kept o (s.markSide n) := .ite h.wr.reforce h

theorem Kept.linkEpisodes {n} (h : Kept o s) : Kept o (s.linkEpisodes n) := by
  unfold State.linkEpisodes
  dsimp only
  refine h.foldl fun h => ?_
  split
  · exact h
  · exact .ite h (h.upd.setLeg.foldl (fun h => h.bump.edgeDetail))

theorem Kept.badFrame {n late} (h : Kept o s) : Kept o (s.badFrame n late) := (Kept.ite h.bump.bump h.bump).setEdge.edgeIf

theorem Kept.stageOn {n} (h : Kept o s) : Kept o (s.stageOn n) := .ite h.setEdge h

theorem Kept.stageOff {n} (h : Kept o s) : Kept o (s.stageOff n) := .ite h.setEdge h

theorem execDownlinkFrame_kept {n good changed} (h : Kept o s) : KeptNext o (execDownlinkFrame n good changed s) :=
  have h1 : Kept o _ := h.linkEpisodes
  have h2 : Kept o _ := h1.setEdge
  .ite h.next (.ite (Kept.ite h2.stageOn h2.stageOff).next h1.badFrame.next)

theorem execUplinkFrame_kept {n good sns} (h : Kept o s) : KeptNext o (execUplinkFrame n good sns s) :=
  .ite h.next (.ite (.ite h.upd.next h.next) h.badFrame.next)

theorem execLinkCrcWindowEnd_kept {n} (h : Kept o s) : KeptNext o (execLinkCrcWindowEnd n s) := h.setEdge.next

theorem execLinkLoss_kept {n} (h : Kept o s) : KeptNext o (execLinkLoss n s) :=
  .ite h.setEdge.edgeDetail.streamDown.markSide.next h.next

theorem execHoldoff_kept {n} (h : Kept o s) : KeptNext o (execHoldoff n s) := .ite h.setEdge.stageOff.next h.next

theorem Kept.trained {n} (h : Kept o s) : Kept o (s.trained n) := h.setEdge.bump.streamUp

theorem execLinkAutoRetrain_kept {n} (h : Kept o s) : KeptNext o (execLinkAutoRetrain n s) := .ite h.trained.next h.next

theorem execSkewCalPass_kept {n measured resid refine} (h : Kept o s) :
    KeptNext o (execSkewCalPass n measured resid refine s) :=
  .ite (.ite h.put.next (.ite (Kept.ite h.put.put h.put.edgeIf).next (Kept.ite h.put.put h.put.edgeIf).next)) h.next

theorem Kept.edgeBusy {n} (h : Kept o s) : Kept o (s.edgeBusy n) := h.put

theorem edgeCommand_kept {n ok} {act : State → State} (h : Kept o s) (hf : ∀ {t}, Kept o t → Kept o (act t)) :
    KeptNext o (s.edgeCommand n ok act) :=
  .ite h.edgeDeny.next (.ite (hf h.status).next h.next)

theorem execEdgeRetrain_kept {n} (h : Kept o s) : KeptNext o (execEdgeRetrain n s) :=
  edgeCommand_kept h (fun h => h.setEdge.edgeBusy.dropHolds.streamDown)

theorem execRetrainEnd_kept {n ok} (h : Kept o s) : KeptNext o (execRetrainEnd n ok s) :=
  have h1 : Kept o _ := h.setEdge.edgeBusy
  .ite (.ite h1.trained.setEdge.next h1.setEdge.edgeDetail.streamDown.next) h.next

theorem Kept.park {n} (h : Kept o s) : Kept o (s.park n) := by
  unfold State.park
  dsimp only
  split
  · exact h
  · exact h.setEdge.setEdge.edgeDetail.edgeDetail

theorem execEdgePark_kept {n} (h : Kept o s) : KeptNext o (execEdgePark n s) := edgeCommand_kept h (fun h => .ite h h.park)

theorem Kept.clearSingle {n} (h : Kept o s) : Kept o (s.clearSingle n) := h.setEdge.put

theorem execEdgeUnpark_kept {n} (h : Kept o s) : KeptNext o (execEdgeUnpark n s) := by
  unfold execEdgeUnpark
  dsimp only
  refine edgeCommand_kept h (fun h => ?_)
  split
  · split
    · exact h.upd.setEdge.clearSingle.clearSingle
    · exact h.upd.setEdge.clearSingle
  · exact h

theorem execEdgeClearStats_kept {n} (h : Kept o s) : KeptNext o (execEdgeClearStats n s) :=
  edgeCommand_kept h (fun h => h.wr.wr)

theorem Kept.recordPark {n} (h : Kept o s) : Kept o (s.recordPark n) := h.upd

theorem execGroomerPark_kept {n elapsed} (h : Kept o s) : KeptNext o (execGroomerPark n elapsed s) := by
  unfold execGroomerPark
  dsimp only
  split
  · exact h.next
  · split
    · exact (Kept.ite h.spareOut h).next
    · exact .ite h.markSide.spareOut.next (.ite h.park.recordPark.broughtIn.next h.next)

theorem execEdgeInject_kept {n det cls} (h : Kept o s) : KeptNext o (execEdgeInject n det cls s) :=
  .ite h.next (.ite h.edgeDeny.next h.injStart.next)

theorem Kept.protAct {n det m} (h : Kept o s) : Kept o (s.protAct n det m) :=
  .ite h (.ite h.edgeDetail (Kept.ite h.setEdge h.setEdge.stageOff).edgeDetail)

theorem Kept.protRow {n det active} (h : Kept o s) : Kept o (s.protRow n det active) := .ite h.protAct.injEnd (.ite h.protAct h)

theorem execScHard_kept {n sns} (h : Kept o s) : KeptNext o (execScHard n sns s) := .ite h.protRow.next h.next

theorem execOc_kept {n sns} (h : Kept o s) : KeptNext o (execOc n sns s) := .ite h.setEdge.protRow.next h.setEdge.next

theorem execDesat_kept {n ds} (h : Kept o s) : KeptNext o (execDesat n ds s) := .ite h.setEdge.protRow.next h.setEdge.next

theorem execProtectionBlankEnd_kept {n ns} (h : Kept o s) : KeptNext o (execProtectionBlankEnd n ns s) :=
  have h1 : Kept o _ := h.setEdge
  have h2 : Kept o _ := .ite h1.protRow h1
  .ite (Kept.ite h2.protRow h2).next h.next

theorem execGateUv_kept {n gn ns} (h : Kept o s) : KeptNext o (execGateUv n gn ns s) := .ite h.protRow.next h.next

theorem execSupUv_kept {n vpos vneg} (h : Kept o s) : KeptNext o (execSupUv n vpos vneg s) :=
  .ite h.next (.ite h.protRow.next (Kept.ite h.setEdge.protRow h.setEdge).next)

theorem Kept.healthOff {n d} (h : Kept o s) : Kept o (s.healthOff n d) := by
  unfold State.healthOff
  dsimp only
  split
  · exact h.edgeDetail.setEdge.stageOff.setEdge.stageOff.markSide
  · exact h.edgeDetail.setEdge.stageOff

theorem execOutFault_kept {n gn} (h : Kept o s) : KeptNext o (execOutFault n gn s) := .ite h.healthOff.next h.next

theorem execSoftOffPhase1End_kept {n gn} (h : Kept o s) : KeptNext o (execSoftOffPhase1End n gn s) := .ite h.setEdge.next h.next

theorem execStoTimeExpiry_kept {n ns} (h : Kept o s) : KeptNext o (execStoTimeExpiry n ns s) := .ite h.setEdge.next h.next

theorem execSoftOffEnd_kept {n gn} (h : Kept o s) : KeptNext o (execSoftOffEnd n gn s) := .ite h.setEdge.next h.next

theorem Kept.relay {p soft} (h : Kept o s) : Kept o (s.relay p soft) := .ite h (.ite h.setEdge h.setEdge.stageOff)

theorem execProtectionFlag_kept {n} (h : Kept o s) : KeptNext o (execProtectionFlag n s) := by
  unfold execProtectionFlag
  dsimp only
  split
  · exact h.next
  · refine Kept.next ?_
    split
    · refine Kept.slotLine ?_
      refine Kept.markSide ?_
      refine Kept.foldl ?_ fun h => Kept.ite (h.foldl Kept.setEdge) h
      split
      · exact h.setEdge.relay
      · exact h.setEdge
    · refine Kept.markSide ?_
      refine Kept.foldl ?_ fun h => Kept.ite (h.foldl Kept.setEdge) h
      split
      · exact h.setEdge.relay
      · exact h.setEdge

theorem execProtectionHoldRelease_kept {n} (h : Kept o s) : KeptNext o (execProtectionHoldRelease n s) := h.setEdge.next

theorem Kept.unmask {n det} (h : Kept o s) : Kept o (s.unmask n det) := .ite h.protRow h

theorem execEdgeSelftest_kept {n} (h : Kept o s) : KeptNext o (execEdgeSelftest n s) :=
  edgeCommand_kept h (fun h => h.setEdge.edgeBusy.unmask)

theorem stepEnd_kept {n det inject pass} (h : Kept o s) : KeptNext o (s.stepEnd n det inject pass) := by
  unfold State.stepEnd
  dsimp only
  split
  · split
    · exact .ite (Kept.ite h.edgeDetail.injEnd h.healthOff.injEnd).next h.next
    · exact h.next
  · split
    · split
      · split
        · exact h.setEdge.next
        · exact h.setEdge.edgeBusy.edgeDetail.next
      · exact h.setEdge.edgeBusy.healthOff.next
    · exact h.next

theorem execSelftestStep_kept {n det inject assertNs releaseNs quietNs} (h : Kept o s) :
    KeptNext o (execSelftestStep n det inject assertNs releaseNs quietNs s) := by
  unfold execSelftestStep
  refine .ite h.next ?_
  obtain ⟨t, e, ht⟩ := stepEnd_kept (n := n) (det := det) (inject := inject)
    (pass := stepPasses det.val assertNs releaseNs quietNs) h
  rw [e]
  exact ht.unmask.next

theorem execSelftestTimeout_kept {n} (h : Kept o s) : KeptNext o (execSelftestTimeout n s) := by
  unfold execSelftestTimeout
  dsimp only
  split
  · exact h.setEdge.edgeBusy.unmask.next
  · exact h.next

theorem Kept.thermalAct {n det now was m} (h : Kept o s) : Kept o (s.thermalAct n det now was m) :=
  .ite h (.ite (.ite h h.edgeDetail) (.ite (.ite h.stageOff h) (.ite h.setEdge.edgeDetail h.setEdge.edgeDetail)))

theorem Kept.wearJudge {high thr figure} (h : Kept o s) : Kept o (s.wearJudge high thr figure) := by
  unfold State.wearJudge
  dsimp only
  split
  · exact h
  · exact .ite (.ite h h.put.raise) (.ite h.put h)

theorem Kept.wearInject {n} (h : Kept o s) : Kept o (s.wearInject n) := by
  unfold State.wearInject
  split
  · exact .ite (.ite h.put.raiseM.injEnd h.setCauseM.injEnd) h
  · exact h

theorem Kept.wearUpdate {n m} (h : Kept o s) : Kept o (s.wearUpdate n m) := by
  unfold State.wearUpdate
  dsimp only
  split
  · exact h
  · exact .ite h (Kept.ite h.setEdge.put.put.put.wearJudge.put.wearJudge h.setEdge.put.put.put.wearJudge.put).wearInject

theorem execEdgeMeasUpdate_kept {n sample} {s0 : State} (h : Kept o s0) : KeptNext o (execEdgeMeasUpdate n sample s0) := by
  unfold execEdgeMeasUpdate
  extract_lets s m e q m1 heavy pwr trip warn hot s1 s2 s3 s4
  have hs : Kept o s := h.agreeFix
  have h3 : Kept o s3 := hs.setEdge.put.put.edgeIf.edgeIf
  have h4 : Kept o s4 := .ite h3.thermalAct.injEnd h3.thermalAct
  exact .ite hs.next h4.thermalAct.wearUpdate.next

theorem execMeasRead_kept {n} (h : Kept o s) : KeptNext o (execMeasRead n s) := .ite h.wr.wr.wr.wr.next h.next

/-! ## The functions of Machine/Hka -/

theorem Kept.setSeq {q x} (h : Kept o s) : Kept o (s.setSeq q x) := h.upd

theorem Kept.setTrk {k x} (h : Kept o s) : Kept o (s.setTrk k x) := h.upd

theorem Kept.setDead {q v} (h : Kept o s) : Kept o (s.setDead q v) := h.upd.put

theorem Kept.hkaPower (h : Kept o s) : Kept o s.hkaPower := h.upd

theorem Kept.seqTrigger {q} (h : Kept o s) : Kept o (s.seqTrigger q) := .ite (.ite h.upd.setSeq h.bump.raise) h

theorem execHkaTimerTick_kept {q} (h : Kept o s) : KeptNext o (execHkaTimerTick q s) := .ite h.seqTrigger.next h.next

theorem execHkaPwmTrigger_kept (h : Kept o s) : KeptNext o (execHkaPwmTrigger s) := by
  unfold execHkaPwmTrigger
  split
  · exact h.next
  · exact (h.upd.foldl (fun h => .ite h.seqTrigger h)).next

theorem execHkaStart_kept {mask} (h : Kept o s) : KeptNext o (execHkaStart mask s) :=
  (h.foldl (fun h => .ite h.seqTrigger h)).status.next

theorem execHkaClearStats_kept (h : Kept o s) : KeptNext o (execHkaClearStats s) :=
  ((h.foldl Kept.wr).foldl Kept.put).status.next

theorem execHkaDelayEnd_kept {q checkDue} (h : Kept o s) : KeptNext o (execHkaDelayEnd q checkDue s) :=
  .ite h.setSeq.next h.next

theorem Kept.trkRoute {k} (h : Kept o s) : Kept o (s.trkRoute k) := by
  unfold State.trkRoute
  split
  · exact h.routeVal
  · exact h

theorem Kept.trkEnabled {k} (h : Kept o s) : Kept o (s.trkEnabled k) := h.setTrk

theorem Kept.trkZero (h : Kept o s) : Kept o s.trkZero := h.foldl Kept.routeVal

theorem Kept.trkEnd {k} (h : Kept o s) : Kept o (s.trkEnd k) := h.setTrk.trkRoute

theorem Kept.limCheck {k out m} (h : Kept o s) : Kept o (s.limCheck k out m) := .ite (Kept.ite h h.put).raiseM h

theorem Kept.trkResult {k code} (h : Kept o s) : Kept o (s.trkResult k code) := by
  unfold State.trkResult
  dsimp only
  split
  · split
    · exact .ite h.limCheck.injEnd (.ite h.upd h.injEnd)
    · exact .ite h.limCheck.setTrk.trkEnd h.limCheck.setTrk
  · exact h

theorem Kept.chain {q} (h : Kept o s) : Kept o (s.chain q) := h.foldl fun h => .ite h.seqTrigger h

theorem Kept.passEnd {q} (h : Kept o s) : Kept o (s.passEnd q) :=
  .ite (h.bumpWrap.foldl (fun h => .ite h.trkEnd h)).upd.setSeq (h.bumpWrap.foldl (fun h => .ite h.trkEnd h)).upd.setSeq.chain

theorem execHkaConversionEnd_kept {q sample} {s0 : State} (h : Kept o s0) : KeptNext o (execHkaConversionEnd q sample s0) :=
  .ite (Kept.ite h.agreeFix.setSeq.trkResult.passEnd h.agreeFix.setSeq.trkResult).next h.agreeFix.next

theorem Kept.assignCore {c q} (h : Kept o s) : Kept o (s.assignCore c q) := h.upd

theorem Kept.coreFault {c q m} {s0 : State} (h : Kept o s0) : Kept o (s0.coreFault c q m) := by
  unfold State.coreFault
  dsimp only
  split
  · exact h.upd.raiseM
  · split
    · exact h.upd.raiseM.upd.assignCore
    · exact .ite h.upd.raiseM.upd.setDead.setSeq.upd h.upd.raiseM.upd.setDead.setSeq.spareOut

theorem Kept.coreServe (h : Kept o s) : Kept o s.coreServe := by
  unfold State.coreServe
  dsimp only
  refine h.upd.foldl fun h => ?_
  split
  · exact h.assignCore.setDead
  · exact h.spareOut

theorem execHkaCheckEnd_kept {q ref zero} (h : Kept o s) : KeptNext o (execHkaCheckEnd q ref zero s) := by
  unfold execHkaCheckEnd
  extract_lets x c inj seen pass s1 shadow run _ t u s2
  have h1 : Kept o s1 := h.put.put
  have hu : Kept o u := .ite h1.upd h1.upd.bump
  have h2 : Kept o s2 :=
    .ite (.ite h1.injEnd h1.setCauseM.injEnd) (.ite (.ite hu.coreFault.injEnd hu.coreFault) hu)
  exact .ite h2.setSeq.chain.next h.next

theorem execCheckStarved_kept {q} (h : Kept o s) : KeptNext o (execCheckStarved q s) := h.setIf.next

theorem execHkaIdlePowerDown_kept {q} (h : Kept o s) : KeptNext o (execHkaIdlePowerDown q s) := .ite h.setSeq.next h.next

theorem execTrackerWindowEnd_kept {k} (h : Kept o s) : KeptNext o (execTrackerWindowEnd k s) := .ite h.trkEnd.next h.next

theorem execTrackerSumRead_kept {k} (h : Kept o s) : KeptNext o (execTrackerSumRead k s) := by
  unfold execTrackerSumRead
  dsimp only
  split
  · exact h.wr.wr.wr.wr.next
  · exact h.setTrk.wr.wr.wr.wr.next

theorem execTdacWrite_kept {code} (h : Kept o s) : KeptNext o (execTdacWrite code s) := h.put.next

theorem execHkaInject_kept {cls} (h : Kept o s) : KeptNext o (execHkaInject cls s) := (h.inject (fun h => h.upd)).next

theorem execHkaSpareTakeover_kept (h : Kept o s) : KeptNext o (execHkaSpareTakeover s) := by
  unfold execHkaSpareTakeover
  dsimp only
  split
  · exact .ite h.upd.raise.broughtIn.next h.next
  · exact h.next

/-! ## The functions of Machine/Supply -/

theorem execAuxHigh_kept {present} (h : Kept o s) : KeptNext o (execAuxHigh present s) := h.upd.setIf.next

theorem execAuxLow_kept {present} (h : Kept o s) : KeptNext o (execAuxLow present s) := h.upd.setIf.next

theorem execAuxFail_kept (h : Kept o s) : KeptNext o (execAuxFail s) := h.raise.next

theorem execHoldupStart_kept (h : Kept o s) : KeptNext o (execHoldupStart s) := h.upd.next

theorem execHoldupRecover_kept (h : Kept o s) : KeptNext o (execHoldupRecover s) := h.upd.next

theorem Kept.opTick (h : Kept o s) : Kept o s.opTick := .ite (.ite h.upd h.upd.bumpWrap) h

theorem execAuxMeasure_kept {code} (h : Kept o s) : KeptNext o (execAuxMeasure code s) := h.put.opTick.next

theorem execRailExcursion_kept {rail band} (h : Kept o s) : KeptNext o (execRailExcursion rail band s) := h.put.setIf.setIf.next

/-! ## The functions of Machine/Triad -/

theorem Kept.setLaneMode {v} (h : Kept o s) : Kept o (s.setLaneMode v) := h.put

theorem Kept.removeJudges {m mark} (h : Kept o s) : Kept o (s.removeJudges m mark) :=
  .ite h (.ite h.put.raiseM.raiseM h.put.raiseM)

theorem Kept.double (h : Kept o s) : Kept o s.double := h.setLaneMode.raise.upd.reforce

theorem Kept.startSweep {odd} (h : Kept o s) : Kept o (s.startSweep odd) := h.upd.put.setLaneMode

theorem Kept.haltLane {x} (h : Kept o s) : Kept o (s.haltLane x) := h.put

theorem Kept.retireLane {x} (h : Kept o s) : Kept o (s.retireLane x) := h.haltLane.upd.put

theorem Kept.replaceLane (h : Kept o s) : Kept o s.replaceLane := by
  unfold State.replaceLane
  split
  · exact h.startSweep
  · exact h.setLaneMode.raise.spareOut

theorem Kept.beyondRepair {x} (h : Kept o s) : Kept o (s.beyondRepair x) := by
  unfold State.beyondRepair
  dsimp only
  split
  · exact h.upd.put.retireLane.raise
  · split
    · exact .ite h.retireLane.raise.replaceLane h
    · exact h.upd
    · exact .ite h.double h
    · exact h

theorem Kept.laneFault {x point index named} (h : Kept o s) : Kept o (s.laneFault x point index named) :=
  have h1 : Kept o _ := h.now.upd.bump.bump.wr
  have h2 : Kept o _ := h1.haltLane.startSweep.raiseM
  .ite h1.retireLane.raise.replaceLane (.ite h2.injEnd h2)

theorem Kept.vote {point words m} (h : Kept o s) : Kept o (s.vote point words m) := .ite h.upd h

theorem execLaneFault_kept {point words j1 j2 j3 stream parity path} {s0 : State} (h : Kept o s0) :
    KeptNext o (execLaneFault point words j1 j2 j3 stream parity path s0) := by
  unfold execLaneFault
  extract_lets s v fix out count s1 s2 left judges s3 judges3 names odd
  have hs : Kept o s := .ite h h.vote
  have h1 : Kept o s1 := .ite hs hs.put.raise
  have h2 : Kept o s2 := .ite h1 h1.put.raise
  have h3 : Kept o s3 := .ite h2.removeJudges h2
  refine .ite hs.next (.ite h2.double.next (.ite h3.next (.ite h3.double.next ?_)))
  clear_value odd
  split
  · exact Kept.next (.ite h3.upd h3)
  · exact Kept.next (.ite h3.laneFault h3.double)
  · exact h3.double.next

theorem execSweepEnd_kept (h : Kept o s) : KeptNext o (execSweepEnd s) := .ite h.upd.next h.next

theorem execLaneRejoin_kept {cycles wasRead} (h : Kept o s) : KeptNext o (execLaneRejoin cycles wasRead s) :=
  have h1 : Kept o _ := h.put.setLaneMode.bump.put.put.raise
  .ite ((Kept.ite h1.upd.put.raise.broughtIn (.ite h1.bump.put.raise h1)).upd.foldl Kept.beyondRepair).next h.next

theorem execResyncTimeout_kept (h : Kept o s) : KeptNext o (execResyncTimeout s) :=
  have h1 : Kept o _ := h.retireLane.raise
  .ite (.ite h1.upd.put.setLaneMode.raise.spareOut.next h1.replaceLane.next) h.next

theorem execTriadInject_kept {target cls} (h : Kept o s) : KeptNext o (execTriadInject target cls s) :=
  .ite h.next (h.inject (fun h => .ite h.upd h)).next

theorem Kept.judgeTest {wrong live} (h : Kept o s) : Kept o (s.judgeTest wrong live) := h.bumpWrap.put.removeJudges.removeJudges

theorem Kept.splitTests {lane extra} (h : Kept o s) : Kept o (s.splitTests lane extra) := h.judgeTest.bumpWrap.setIf

theorem Kept.judgeEpoch {names extra} (h : Kept o s) : Kept o (s.judgeEpoch names extra) := by
  unfold State.judgeEpoch
  extract_lets lane _ s1 _ s2
  have h1 : Kept o s1 := by
    unfold s1
    split
    · exact h
    · exact .ite h.upd.judgeTest h.upd.judgeTest.injEnd
  have h2 : Kept o s2 := .ite h1.upd.splitTests h1
  split
  · refine .ite h2 ?_
    extract_lets under wrong pass t u
    have hu : Kept o u := .ite h2.judgeTest.setCauseM h2.judgeTest
    exact hu.injEnd
  · exact h2

theorem execTriadClearStats_kept (h : Kept o s) : KeptNext o (execTriadClearStats s) := h.wr.wr.wr.wr.wr.status.next

theorem Kept.lastLaneRead (h : Kept o s) : Kept o s.lastLaneRead := h.wr.wr.put

/-! ## The functions of Machine/Time -/

theorem Kept.jumped {a b} (h : Kept o s) : Kept o (s.jumped a b) := (Kept.ite h.upd.upd.put.raise h.upd).raise

theorem Kept.todEpoch (h : Kept o s) : Kept o s.todEpoch := by
  unfold State.todEpoch
  dsimp only
  split
  · exact (Kept.ite h.upd h.upd.put).upd.jumped
  · exact h.upd

theorem execPpsInEdge_kept {after} (h : Kept o s) : KeptNext o (execPpsInEdge after s) :=
  .ite (.ite h.edgeTo.upd.wr.next h.edgeTo.raise.next) h.next

theorem Kept.servoRate (h : Kept o s) : Kept o s.servoRate := h.fresh.upd.wr.setIf

theorem Kept.todHold {m} (h : Kept o s) : Kept o (s.todHold m) := .ite h (Kept.ite h.upd h.upd.wr).put.put.raiseM

theorem Kept.refLostHold {m} (h : Kept o s) : Kept o (s.refLostHold m) := .ite h.todHold h

theorem Kept.ownRef (h : Kept o s) : Kept o s.ownRef := .ite h.todHold h

theorem Kept.putOffset {offset} (h : Kept o s) : Kept o (s.putOffset offset) := .ite h.wr h.fresh.wr

theorem Kept.servo {offset} (h : Kept o s) : Kept o (s.servo offset) :=
  have h1 : Kept o _ := h.putOffset.put.put.upd
  have h2 : Kept o _ := h1.servoRate
  have h3 : Kept o _ := .ite h2.upd h2
  .ite h1.upd (.ite h1.put.raise.upd (.ite h3.put.put.raise h3))

theorem Kept.measure {offset} (h : Kept o s) : Kept o (s.measure offset) := by
  unfold State.measure
  dsimp only
  split
  · exact h
  · split
    · exact h.servo
    · exact .ite (Kept.ite h h.servo).upd
          (.ite (Kept.ite h h.servo).upd.refLostHold.injEnd (Kept.ite h h.servo).upd.setCauseM.injEnd)

theorem execServoMeasurement_kept {m} (h : Kept o s) : KeptNext o (execServoMeasurement m s) := by
  unfold execServoMeasurement
  dsimp only
  split
  · exact h.next
  · exact h.edgeTo.upd.measure.next

theorem execReferenceLoss_kept (h : Kept o s) : KeptNext o (execReferenceLoss s) := h.refLostHold.next

theorem execPpsOutPulse_kept (h : Kept o s) : KeptNext o (execPpsOutPulse s) := h.upd.next

theorem execPpsOutFall_kept (h : Kept o s) : KeptNext o (execPpsOutFall s) := h.upd.next

theorem execTimeSet_kept (h : Kept o s) : KeptNext o (execTimeSet s) := .ite h.upd.put.status.next h.deny.next

theorem execSyncArm_kept (h : Kept o s) : KeptNext o (execSyncArm s) := .ite h.now.upd.put.status.next h.now.deny.next

theorem Kept.disarmSync (h : Kept o s) : Kept o s.disarmSync := h.upd.put

theorem execSyncCancel_kept (h : Kept o s) : KeptNext o (execSyncCancel s) := h.disarmSync.status.next

theorem execTimeSyncFire_kept (h : Kept o s) : KeptNext o (execTimeSyncFire s) := by
  unfold execTimeSyncFire
  dsimp only
  split
  · exact h.next
  · exact .ite h.disarmSync.sync.upd.raise.next h.disarmSync.raise.next

theorem Kept.ownSync (h : Kept o s) : Kept o s.ownSync := .ite h.sync h.edgeNow.upd

theorem execTimeNowRead_kept {after} {st : State} (h : Kept o st) : KeptNext o (execTimeNowRead after st) :=
  h.edgeTo.wr.put.put.put.next

theorem execPpsInRead_kept (h : Kept o s) : KeptNext o (execPpsInRead s) := h.put.next

theorem execTimeInject_kept {cls} (h : Kept o s) : KeptNext o (execTimeInject cls s) := (h.inject (fun h => h.upd)).next

/-! ## The functions of Machine/Groom -/

theorem Kept.groomDeny (h : Kept o s) : Kept o s.groomDeny := h.deny

theorem Kept.bistBringIn {t k} (h : Kept o s) : Kept o (s.bistBringIn t k) := by
  unfold State.bistBringIn
  dsimp only
  split
  · split
    · exact h.haltLane.startSweep
    · exact h
  · split
    · split
      · exact h.assignCore
      · exact h
    · split
      · exact .ite h h.upd.nextFilter
      · exact h
  · exact h

theorem Kept.verdict {t v} (h : Kept o s) : Kept o (s.verdict t v) := h.put.put.bumpWrap.raise.setIf

theorem execGroomBist_kept {target inRange} (h : Kept o s) : KeptNext o (execGroomBist target inRange s) := by
  unfold execGroomBist
  dsimp only
  split
  · exact h.groomDeny.next
  · split
    · exact h.groomDeny.next
    · exact .ite h.upd.bistBringIn.put.status.next h.groomDeny.put.put.next

theorem Kept.setRec {g} (h : Kept o s) : Kept o (s.setRec g) := h.upd

theorem Kept.laneSpare {x} (h : Kept o s) : Kept o (s.laneSpare x) := h.upd.put.setRec.put

theorem Kept.bringLane {x} (h : Kept o s) : Kept o (s.bringLane x) := .ite h.startSweep h

theorem Kept.bridgeServe {p} (h : Kept o s) : Kept o (s.bridgeServe p) := .ite h.bridgeEnd.broughtIn h

theorem Kept.bistPass {b} (h : Kept o s) : Kept o (s.bistPass b) := by
  unfold State.bistPass
  dsimp only
  split
  · exact h.laneSpare.bringLane
  · exact h.upd.laneSpare.bringLane.raise
  · split
    · exact .ite h.bringLane (.ite h.laneSpare.bringLane h)
    · split
      · split
        · exact .ite h.setRec h.setRec.setDead
        · exact h.setRec
      · exact .ite h.markFilter.showFilters (.ite h (.ite h.setRec.put.bridgeServe h.setRec))

theorem Kept.bistFail {b} (h : Kept o s) : Kept o (s.bistFail b) :=
  have h1 : Kept o _ := h.setRec.put
  .ite (.ite h.upd.put.retireLane (.ite h h.retireLane))
    (.ite h.setRec (.ite h.markFilter.showFilters
      (.ite h.setRec.showSpares (.ite (.ite h1.upd.spareOut h1) h.setRec))))

theorem Kept.bistRange {b} (h : Kept o s) : Kept o (s.bistRange b) := by
  unfold State.bistRange
  split
  · exact h.bistPass
  · exact h
  · exact .ite h.showFilters (.ite h.bistPass h)

theorem execReturnLane_kept {target} (h : Kept o s) : KeptNext o (execReturnLane target s) :=
  .ite (.ite h.upd.put.status.next h.groomDeny.put.put.next) h.groomDeny.next

theorem Kept.clearBaseline {n} (h : Kept o s) : Kept o (s.clearBaseline n) := h.setEdge.wr.wr

theorem execResetBaseline_kept {target} (h : Kept o s) : KeptNext o (execResetBaseline target s) := by
  unfold execResetBaseline
  dsimp only
  split
  · split
    · refine Kept.next ?_
      refine Kept.status ?_
      split
      · exact h.clearBaseline.clearBaseline
      · exact h.clearBaseline
    · exact h.groomDeny.next
  · exact h.groomDeny.next

theorem execGroomInject_kept {cls} (h : Kept o s) : KeptNext o (execGroomInject cls s) := (h.inject (fun h => h)).next

theorem execRowReplaced_kept {row ce lost} (h : Kept o s) : KeptNext o (execRowReplaced row ce lost s) :=
  .ite h.next (.ite h.spareOut.next h.setRec.raise.broughtIn.next)

theorem Kept.remapSector {p} (h : Kept o s) : Kept o (s.remapSector p) := .ite h.spareOut h.setRec.broughtIn

theorem Kept.remapSectors {b} (h : Kept o s) : Kept o (s.remapSectors b) := h.foldl Kept.remapSector

theorem execSectorMarked_kept {bank sector ce verify} (h : Kept o s) : KeptNext o (execSectorMarked bank sector ce verify s) :=
  .ite (.ite h.raise.remapSector.next h.next) (.ite h.next h.setRec.raise.next)

theorem execGroomRecordWrite_kept {ok} (h : Kept o s) : KeptNext o (execGroomRecordWrite ok s) := .ite h.upd.next h.raise.next

/-! ## The functions of Machine/LoadCheck -/

theorem Kept.cfgWrite {r} (h : Kept o s) : Kept o (s.cfgWrite r) := h.wr

/-! ## The functions of Machine/Piste -/

theorem Kept.loadShadows {n} (h : Kept o s) : Kept o (s.loadShadows n) :=
  .ite (h.foldl (fun h => .ite h.wr.setLeg h)).put.setLeg (h.foldl (fun h => .ite h.wr.setLeg h))

theorem Kept.envQuery (h : Kept o s) : Kept o s.envQuery := by
  unfold State.envQuery
  dsimp only
  split
  · exact h.put.put.put.wr.wr
  · exact h.wr.wr.wr

theorem Kept.envelope {a} (h : Kept o s) : Kept o (s.envelope a) := by
  unfold State.envelope
  split
  · exact h.raise
  · exact h.raise
  · exact h.raise
  · exact h.raise
  · exact h.edgeDetail
  · exact h.raise
  · exact h.raise
  · exact h.raise
  · exact h.foldl Kept.raise
  · exact h.raise
  · exact h.raise
  · split
    · exact h.raise
    · exact h.raise
  · exact h.raise
  · exact h.raise
  · exact h.raise
  · exact h.raise
  · exact h

theorem Kept.cfgRecord {r} (h : Kept o s) : Kept o (s.cfgRecord r) := by
  conv in State.cfgRecord => delta State.cfgRecord
  extract_lets s1
  split
  · exact h.envelope
  · exact h.raise
  · exact .ite h.cfgWrite.envQuery h.cfgWrite

theorem Kept.applyBlock {b} (h : Kept o s) : Kept o (s.applyBlock b) := by
  unfold State.applyBlock
  extract_lets s1 s2
  have h1 : Kept o s1 := h.foldl Kept.cfgRecord
  have h2 : Kept o s2 :=
    .ite ((h1.foldl Kept.loadShadows).foldl Kept.tripInEval) (.ite h1.put (.ite h1.sdmEnabled (.ite h1.hkaPower h1)))
  split
  · exact h2.put
  · exact h2

theorem Kept.applyAll (h : Kept o s) : Kept o s.applyAll := h.put.foldl Kept.applyBlock

theorem Kept.loadParams (h : Kept o s) : Kept o s.loadParams := (h.foldl Kept.wr).foldl fun h => .ite h.wr h

theorem Kept.loadMatrix (h : Kept o s) : Kept o s.loadMatrix := h.upd

theorem Kept.loadCarve (h : Kept o s) : Kept o s.loadCarve := h.upd.loadMatrix

theorem Kept.putDigest {addr d} (h : Kept o s) : Kept o (s.putDigest addr d) := h.foldl Kept.wr

theorem Kept.fingerprint (h : Kept o s) : Kept o s.fingerprint := h.putDigest

theorem Kept.passed (h : Kept o s) : Kept o s.passed := h.bumpWrap

theorem Kept.freshFabric (h : Kept o s) : Kept o s.freshFabric := h.upd.foldl Kept.showSpares

theorem Kept.loadFailed {e} (h : Kept o s) : Kept o (s.loadFailed e) := h.upd.freshFabric.put.put.put.put.raise

theorem Kept.showCourse {c} (h : Kept o s) : Kept o (s.showCourse c) :=
  (h.put.put.put.put.put.put.put.wr.wr.foldl Kept.wr).putDigest

theorem Kept.tileFailed {lane tile} (h : Kept o s) : Kept o (s.tileFailed lane tile) := by
  unfold State.tileFailed
  dsimp only
  split
  · exact h.raise.spareOut.upd.beyondRepair
  · exact .ite h.upd.showSpares.raise.beyondRepair h.upd.showSpares

theorem Kept.mismatch {lane tile} (h : Kept o s) : Kept o (s.mismatch lane tile) := .ite h (.ite h.upd.tileFailed h.upd.upd)

theorem Kept.scrub {bad} (h : Kept o s) : Kept o (s.scrub bad) := (h.upd.foldl Kept.mismatch).passed

theorem Kept.loadCourse {bad} (h : Kept o s) : Kept o (s.loadCourse bad) := by
  unfold State.loadCourse
  dsimp only
  split
  · exact h.loadFailed
  · exact h.upd.freshFabric.loadCarve.applyAll.loadParams.showCourse.scrub.fingerprint

theorem execScrubPass_kept {bad} (h : Kept o s) : KeptNext o (execScrubPass bad s) := .ite h.scrub.next h.next

theorem Kept.scrubLast {lane tile} (h : Kept o s) : Kept o (s.scrubLast lane tile) := h.put.put

theorem execTileSwap_kept {lane tile good} (h : Kept o s) : KeptNext o (execTileSwap lane tile good s) :=
  .ite (.ite h.upd.bump.scrubLast.raise.next h.upd.tileFailed.next) h.next

theorem execTileCompareRunEnd_kept (h : Kept o s) : KeptNext o (execTileCompareRunEnd s) := by
  unfold execTileCompareRunEnd
  dsimp only
  split
  · exact .ite h.next h.upd.next
  · exact h.next

theorem execTileRepair_kept (h : Kept o s) : KeptNext o (execTileRepair s) := by
  unfold execTileRepair
  dsimp only
  split
  · exact .ite h.upd.scrubLast.raise.broughtIn.next h.next
  · exact h.next

theorem execGoldenReload_kept {good} (h : Kept o s) : KeptNext o (execGoldenReload good s) := h.raise.setIf.next

theorem execReadback_kept (h : Kept o s) : KeptNext o (execReadback s) := .ite h.put.status.next h.deny.next

theorem execReadbackDone_kept {bad golden} (h : Kept o s) : KeptNext o (execReadbackDone bad golden s) :=
  .ite h.scrub.put.put.bumpWrap.setIf.raise.next h.next

theorem execEnvQuery_kept {lsb} (h : Kept o s) : KeptNext o (execEnvQuery lsb s) := h.put.envQuery.next

/-! ## The functions of Machine/Slalom -/

theorem Kept.setProf {i x} (h : Kept o s) : Kept o (s.setProf i x) := h.upd

theorem Kept.setSl {i x} (h : Kept o s) : Kept o (s.setSl i x) := h.upd

theorem execProfStep_kept {i interval} {s0 : State} (h : Kept o s0) : KeptNext o (execProfStep i interval s0) :=
  have h1 : Kept o _ := h.ovHold.setProf.bumpWrap.setIf.setIf.setIf
  .ite (.ite h1.chargeOpen.next h1.next) h.ovHold.next

theorem execProfHold_kept {i} (h : Kept o s) : KeptNext o (execProfHold i s) := h.setProf.status.next

theorem execProfResume_kept {i} (h : Kept o s) : KeptNext o (execProfResume i s) := h.setProf.status.next

theorem Kept.profSet {i y} (h : Kept o s) : Kept o (s.profSet i y) := h.wr.setProf.routeVal.routeVal

theorem Kept.profInput {i} (h : Kept o s) : Kept o (s.profInput i) := .ite h.profSet h.profSet.raise

theorem Kept.profEntry {i} (h : Kept o s) : Kept o (s.profEntry i) := .ite h (.ite h.profInput h.profSet)

theorem execPresetInput_kept {i} (h : Kept o s) : KeptNext o (execPresetInput i s) := .ite h.deny.next h.profInput.status.next

theorem execProfValueRead_kept {i} (h : Kept o s) : KeptNext o (execProfValueRead i s) := h.wr.wr.next

theorem Kept.slWrite {i first n w} (h : Kept o s) : Kept o (s.slWrite i first n w) := by
  unfold State.slWrite
  extract_lets put s1 _ s2
  have hput {t k v} (ht : Kept o t) : Kept o (put t k v) := by
    cases v with
    | some x => exact ht.wr.setLeg
    | none => exact ht
  have h1 : Kept o s1 := hput (hput h)
  have h2 : Kept o s2 := .ite h1.put.setLeg h1
  exact .ite h2.raise h2.commit

theorem Kept.slWriteAll {i first} {f : State → Fin 32 → SlWrite} (h : Kept o s) : Kept o (s.slWriteAll i first f) := by
  unfold State.slWriteAll
  dsimp only
  exact .ite (h.foldl (fun h => .ite h.slWrite h)).setSlot (h.foldl (fun h => .ite h.slWrite h))

theorem Kept.slStatus {i mode sector limited stale changed m} (h : Kept o s) :
    Kept o (s.slStatus i mode sector limited stale changed m) :=
  (Kept.ite h.put.put.put.put.wr.bumpWrap.raise h.put.put.put.put.wr).setIf.setIf

theorem Kept.slModulate {i half cycle} (h : Kept o s) : Kept o (s.slModulate i half cycle) :=
  (Kept.ite h.fresh.setSl.slWriteAll.upd h.fresh.setSl.slWriteAll).slStatus

theorem Kept.slRest {i} (h : Kept o s) : Kept o (s.slRest i) := h.setSl.slStatus

theorem execSlalomJob_kept {i half cycle} {s0 : State} (h : Kept o s0) : KeptNext o (execSlalomJob i half cycle s0) :=
  have h1 : Kept o _ := h.upd.slRest
  .ite h.next (.ite h.upd.next (.ite (.ite h1.next h1.slWriteAll.next) h.upd.slModulate.next))

theorem execRotStart_kept {i} (h : Kept o s) : KeptNext o (execRotStart i s) := .ite h.rotStart.status.next h.deny.next

theorem Kept.psiMeasure {i e} (h : Kept o s) : Kept o (s.psiMeasure i e) := h.upd

theorem Kept.probeResult {i res} (h : Kept o s) : Kept o (s.probeResult i res) := by
  unfold State.probeResult
  dsimp only
  split
  · exact h.setSlot.enter
  · exact h.setSlot.enter
  · exact .ite h.setSlot.raise.enter h.setSlot.enter
  · exact .ite h.setSlot.setSlot.rotStart h.setSlot.raise.enter

theorem execRotWindowEnd_kept {i cycle} (h : Kept o s) : KeptNext o (execRotWindowEnd i cycle s) := by
  unfold execRotWindowEnd
  extract_lets s0 emf
  have h0 : Kept o s0 := h.rotSampleSlot
  refine .ite h0.next ?_
  clear_value emf
  rcases hf : s0.fresh with ⟨fv, s1⟩
  have h1 : Kept o s1 := by simpa only [hf] using h0.fresh
  dsimp only
  refine .ite (Kept.probeResult ?_).next (Kept.next ?_)
  all_goals
    split
    · exact .ite h1.rotWrite.setIf.setIf.psiMeasure h1.rotWrite.setIf.setIf
    · exact h1.rotWrite.setIf.setIf

theorem execRotResultRead_kept {i} (h : Kept o s) : KeptNext o (execRotResultRead i s) := h.wr.wr.next

/-! ## The functions of Machine/Task -/

theorem execTaskTrigger_kept {t sample} {st : State} (h : Kept o st) : KeptNext o (execTaskTrigger t sample st) :=
  have h1 : Kept o _ := h.agreeFix.upd.routePos.sdmTrigger
  .ite h1.next (.ite h1.bump.raise.next h1.upd.next)

theorem Kept.carveDispatch {t wait cycle} (h : Kept o s) : Kept o (s.carveDispatch t wait cycle) := h.upd.put.put

theorem Kept.profApply {t} (h : Kept o s) : Kept o (s.profApply t) := by
  unfold State.profApply
  dsimp only
  refine h.foldl fun h => ?_
  split
  · split
    · exact h.wr.setProf.routeVal.routeVal
    · exact h
  · exact h

theorem Kept.presetOwned {i} (h : Kept o s) : Kept o (s.presetOwned i) := h.upd

theorem Kept.entryDue {i} (h : Kept o s) : Kept o (s.entryDue i) := by
  unfold State.entryDue
  dsimp only
  split
  · exact h.enterNow.presetOwned.setSlot
  · exact .ite h.enterNow h

theorem Kept.entryAfter {i st} (h : Kept o s) : Kept o (s.entryAfter i st) := by
  unfold State.entryAfter
  split
  · exact h.profEntry.chargeEntered
  · exact h.profEntry
  · exact h

theorem Kept.ascStep {i cycle} (h : Kept o s) : Kept o (s.ascStep i cycle) := .ite h.ascTake h.setSlot

theorem Kept.selUpdate {i n} (h : Kept o s) : Kept o (s.selUpdate i n) :=
  (Kept.ite h.setSlot.setSlot.lockBegin h.setSlot).upd.reforce

theorem Kept.probeFast {i cycle} (h : Kept o s) : Kept o (s.probeFast i cycle) :=
  .ite h.fresh.rotWrite.setIf.setSlot.raise.raise.enter h.fresh.rotWrite.setIf.setSlot.enter

theorem Kept.speedFollow {i cycle} (h : Kept o s) : Kept o (s.speedFollow i cycle) := by
  unfold State.speedFollow
  extract_lets x s1 fast s2
  have h1 : Kept o s1 := .ite h h.setSlot
  refine .ite (.ite h1.raise h1.endHold) ?_
  split
  · exact h1.setIf
  · exact h1.setIf
  · exact h1.setIf
  · exact .ite h1.setIf h1.setIf.dischargeFail
  · exact .ite h1.probeFast h1
  all_goals exact h1

theorem Kept.speedUpdate {i cycle} (h : Kept o s) : Kept o (s.speedUpdate i cycle) := by
  unfold State.speedUpdate
  dsimp only
  split
  · exact h.setSlot.selUpdate.speedFollow
  · exact h.setSlot

theorem Kept.lockCheck {i cycle} (h : Kept o s) : Kept o (s.lockCheck i cycle) := by
  unfold State.lockCheck
  dsimp only
  split
  · exact h
  · split
    · split
      · exact .ite h.catchLock h
      · exact h
    · split
      · exact h.catchLock
      · split
        · split
          · exact h.catchLock
          · exact h.fresh.catchLock
        · exact h

theorem Kept.curCheck {i} (h : Kept o s) : Kept o (s.curCheck i) := h.setSlot.setIf

theorem Kept.slotDispatch {i cycle} (h : Kept o s) : Kept o (s.slotDispatch i cycle) :=
  have h1 : Kept o _ := h.rotSampleSlot.ascStep.speedUpdate.lockCheck.curCheck
  .ite (.ite h1.ztg h1) h

theorem execTaskDispatch_kept {wait cycle} (h : Kept o s) : KeptNext o (execTaskDispatch wait cycle s) := by
  unfold execTaskDispatch
  dsimp only
  split
  · split
    · exact h.entryDue.carveDispatch.profApply.entryAfter.slotDispatch.next
    · exact h.carveDispatch.profApply.next
  · exact h.next

theorem Kept.foldlSnd {α β : Type} {f : β × State → α → β × State} {l : List α} {p : β × State} (h : Kept o p.2)
    (hf : ∀ {p x}, Kept o p.2 → Kept o (f p x).2) : Kept o (l.foldl f p).2 := by
  induction l generalizing p with
  | nil => exact h
  | cons x l ih => exact ih (hf h)

theorem Kept.escalate {c cls} (h : Kept o s) : Kept o (s.escalate c cls).2 := by
  unfold State.escalate
  exact .foldlSnd h fun h => .iteSnd (.iteSnd h.put.put.raise h.put) h

theorem Kept.obsAct {i} (h : Kept o s) : Kept o (s.obsAct i) := .ite (.ite h.setSlot.enter h.setSlot) h

theorem Kept.obsCheck {i} (h : Kept o s) : Kept o (s.obsCheck i) :=
  .ite h.setSlot (.ite (.ite h.setSlot.bump.raise.setSlot.obsAct h.setSlot.bump.raise) h.setSlot)

theorem Kept.transferOuts (h : Kept o s) : Kept o s.transferOuts := h.foldl fun h => h.wr.routeVal

theorem execEndTask_kept (h : Kept o s) : KeptNext o (execEndTask s) := by
  unfold execEndTask
  split
  · exact h.next
  · refine .ite ?_ h.next
    extract_lets s0 c cyc slot at_ s1 _ s2 s3 s4 s5 s6
    have h3 : Kept o s3 := h.issue.transferOuts.upd.put.put.bumpWrap
    have h4 : Kept o s4 := .ite h3.bumpWrap h3
    have h6 : Kept o s6 := h4.setIf.setIf.setIf.applyHeld
    split
    · exact h6.next
    · exact (h6.foldl fun h => .ite h.posFreeze.posPlaus h).obsCheck.upd.next

/-! ## The functions of Machine/Reset -/

theorem Kept.resetRegs {w inBlock} (h : Kept o s) : Kept o (s.resetRegs w inBlock) := h.foldl fun h => .ite h.wr h

theorem Kept.abandon (h : Kept o s) : Kept o s.abandon := .ite h.upd h

theorem Kept.disarm (h : Kept o s) : Kept o s.disarm := h.upd

theorem Kept.wipeWarm (h : Kept o s) : Kept o s.wipeWarm := by
  have h1 : Kept o s.abandon.disarm := h.abandon.disarm
  refine ⟨h1.pending, fun ho => ?_⟩
  obtain ⟨hr, -, -⟩ := h1.stored ho
  exact ⟨hr, cellWf_nil _, cellWf_nil _⟩

theorem Kept.wipeSystem {s0 : State} (h : Kept o s0) : Kept o s0.wipeSystem := h.wipeWarm.upd

theorem Kept.wipePower {s0 : State} (h : Kept o s0) : Kept o s0.wipePower := h.wipeSystem.upd

theorem Kept.wipe {w} (h : Kept o s) : Kept o (s.wipe w) := by
  unfold State.wipe
  dsimp only
  refine Kept.put ?_
  refine Kept.put ?_
  split
  · exact h.resetRegs.wipePower
  · exact h.resetRegs.wipeSystem
  · exact h.resetRegs.wipeWarm

theorem Kept.fixHold (h : Kept o s) : Kept o s.fixHold := .ite (.ite h.upd.warmOv h.upd) h

theorem Kept.assertTime (h : Kept o s) : Kept o s.assertTime.2 := .iteSnd h.now h

theorem Kept.assertReset {src} (h : Kept o s) : Kept o (s.assertReset src) := by
  unfold State.assertReset
  dsimp only
  split
  · exact h.upd
  · exact .ite h.upd.wipe.upd h.upd
  · exact .ite h (Kept.ite h.assertTime.fixHold h.assertTime).wipe.upd

theorem Kept.recordSwap (h : Kept o s) : Kept o s.recordSwap := h.upd

theorem execResetAssert_kept {src} (h : Kept o s) : KeptNext o (execResetAssert src s) :=
  .ite (.ite h.recordSwap.assertReset.next h.next) h.assertReset.next

theorem execResetNLow_kept {ns may} (h : Kept o s) : KeptNext o (execResetNLow ns may s) := .ite h.assertReset.next h.next

theorem Kept.release (h : Kept o s) : Kept o s.release := by
  unfold State.release
  dsimp only
  refine Kept.upd ?_
  split
  · exact h.fresh.put.put.put
  · exact h.fresh.put.put.put.bump
  · exact h.fresh.put.put.put.bump

theorem execResetRelease_kept (h : Kept o s) : KeptNext o (execResetRelease s) := .ite h.release.next h.next

theorem execPowerOn_kept (h : Kept o s) : KeptNext o (execPowerOn s) := .ite (Kept.ite h.upd.release h.upd).next h.next

theorem execHoldupEnd_kept (h : Kept o s) : KeptNext o (execHoldupEnd s) := .ite h.assertReset.upd.next h.next

theorem execTriadWarmReset_kept (h : Kept o s) : KeptNext o (execTriadWarmReset s) := .ite h.assertReset.next h.next

theorem execSupWdogReset_kept (h : Kept o s) : KeptNext o (execSupWdogReset s) := .ite h.assertReset.next h.next

theorem execRstWarm_kept {key} (h : Kept o s) : KeptNext o (execRstWarm key s) := .ite h.status.assertReset.next h.raise.next

theorem execRstSystem_kept {key} (h : Kept o s) : KeptNext o (execRstSystem key s) :=
  .ite h.raise.next (.ite h.status.assertReset.next h.deny.next)

theorem Kept.dropPresent {gs} (h : Kept o s) : Kept o (s.dropPresent gs) := h.upd

theorem Kept.wipeBlock {n} (h : Kept o s) : Kept o (s.wipeBlock n) := by
  unfold State.wipeBlock
  dsimp only
  split
  · exact h.upd.reforce
  · exact h.upd.dropPresent
  · exact h.upd.trkZero.dropPresent
  · exact h.upd.dropPresent
  · exact h.upd
  · exact h.upd
  · exact h.upd
  · exact h.upd.dropPresent
  · exact h.abandon.disarm
  · exact h.upd
  · exact h

theorem execRstBlock_kept {block key} (h : Kept o s) : KeptNext o (execRstBlock block key s) :=
  .ite h.raise.next (.ite h.deny.next (.ite h.fresh.status.resetRegs.wipeBlock.upd.next h.fresh.status.raise.next))

theorem Kept.deadSeqs (h : Kept o s) : Kept o s.deadSeqs := by
  unfold State.deadSeqs
  refine h.foldl fun h => ?_
  split
  · split
    · exact h.assignCore
    · exact h.setDead
  · exact h

theorem Kept.faultyFilters (h : Kept o s) : Kept o s.faultyFilters := h.upd

theorem Kept.resumeSpares (h : Kept o s) : Kept o s.resumeSpares := h.coreServe.deadSeqs.faultyFilters.showFilters.nextFilter

theorem execBlockDone_kept (h : Kept o s) : KeptNext o (execBlockDone s) := by
  unfold execBlockDone
  dsimp only
  split
  · exact h.next
  · exact (Kept.ite h.upd.applyBlock.loadParams (.ite h.upd.applyBlock.deadSeqs h.upd.applyBlock)).raise.next

theorem execResetHoldEstimateTimeout_kept {i} (h : Kept o s) : KeptNext o (execResetHoldEstimateTimeout i s) :=
  .ite h.setSlot.selUpdate.speedFollow.next h.next

theorem execRstLogSelect_kept {index} (h : Kept o s) : KeptNext o (execRstLogSelect index s) := by
  unfold execRstLogSelect
  dsimp only
  split
  · exact h.put.wr.wr.wr.next
  · exact h.put.wr.wr.wr.next

/-! ## The functions of Machine/Himet -/

theorem Kept.himetDeny (h : Kept o s) : Kept o s.himetDeny := h.deny

theorem himetCmd_kept {ok} {act : State → State} (h : Kept o s) (hf : ∀ {t}, Kept o t → Kept o (act t)) :
    KeptNext o (s.himetCmd ok act) :=
  .ite (hf h.status).next h.himetDeny.next

theorem Kept.setStore {x} (h : Kept o s) : Kept o (s.setStore x) := h.upd

theorem Kept.showStore (h : Kept o s) : Kept o s.showStore := (h.put.put.put.put.foldl Kept.wr).putDigest

theorem cellSorted_filter {w : Nat} (m : Cells w) (p : Nat × BitVec w → Bool) (lo : Nat)
    (h : cellSorted (some lo) m = true) : cellSorted (some lo) (m.filter p) = true := by
  induction m generalizing lo with
  | nil => rfl
  | cons q t ih =>
    obtain ⟨k, v⟩ := q
    simp only [cellSorted, Bool.and_eq_true, decide_eq_true_eq] at h
    by_cases hp : p (k, v) = true
    · simp only [List.filter_cons_of_pos hp, cellSorted, Bool.and_eq_true, decide_eq_true_eq]
      exact ⟨h.1, ih k h.2⟩
    · rw [List.filter_cons_of_neg hp]
      exact ih lo (cellSorted_weaken t lo k (by omega) h.2)

theorem cellSorted_filter_none {w : Nat} (m : Cells w) (p : Nat × BitVec w → Bool)
    (h : cellSorted none m = true) : cellSorted none (m.filter p) = true := by
  cases m with
  | nil => rfl
  | cons q t =>
    obtain ⟨k, v⟩ := q
    have ht := cellSorted_filter t p k h
    by_cases hp : p (k, v) = true
    · simpa only [List.filter_cons_of_pos hp, cellSorted] using ht
    · rw [List.filter_cons_of_neg hp]
      rw [cellSorted_none]
      intro k' v' t' e
      rw [e] at ht
      simp only [cellSorted, Bool.and_eq_true] at ht
      exact ht.2

/-- What is taken out of a storage in canonical form leaves it so. -/
theorem cellWf_filter {w : Nat} (d : Nat → BitVec w) (m : Cells w) (p : Nat × BitVec w → Bool) (h : cellWf d m = true) :
    cellWf d (m.filter p) = true := by
  simp only [cellWf, Bool.and_eq_true, List.all_eq_true] at h ⊢
  exact ⟨cellSorted_filter_none m p h.1, fun q hq => h.2 q (List.mem_of_mem_filter hq)⟩

theorem Kept.clearMailbox (h : Kept o s) : Kept o s.clearMailbox := by
  refine Kept.put ⟨h.pending, fun ho => ?_⟩
  obtain ⟨hr, hs, hl⟩ := h.stored ho
  exact ⟨cellWf_filter _ _ _ hr, hs, hl⟩

theorem Kept.fillMailbox {b} (h : Kept o s) : Kept o (s.fillMailbox b) := (h.foldl Kept.wr).put

theorem Kept.dropNonce (h : Kept o s) : Kept o s.dropNonce := h.upd.putDigest

theorem Kept.draw (h : Kept o s) : Kept o s.draw.2 := h.fresh.fresh.fresh.fresh

theorem execChallenge_kept (h : Kept o s) : KeptNext o (execChallenge s) := himetCmd_kept h (fun h => h.draw.upd.putDigest)

theorem execNonceExpiry_kept (h : Kept o s) : KeptNext o (execNonceExpiry s) := h.dropNonce.next

theorem Kept.closeTest (h : Kept o s) : Kept o s.closeTest := .ite h.upd.put.abortLive.raise h

theorem Kept.closeDebugOne (h : Kept o s) : Kept o s.closeDebugOne := .ite h.upd.put h

theorem Kept.ownerSet {x} (h : Kept o s) : Kept o (s.ownerSet x) := h.setStore.showStore.raise

theorem Kept.dropKeys (h : Kept o s) : Kept o s.dropKeys := .ite h h.setStore.showStore.raise

theorem Kept.raiseCounter {c v} (h : Kept o s) : Kept o (s.raiseCounter c v) := .ite h.setStore.showStore.raise h

theorem Kept.setLocked {v} (h : Kept o s) : Kept o (s.setLocked v) := .ite h h.setStore.showStore.raise

theorem Kept.openDebug {level secs} (h : Kept o s) : Kept o (s.openDebug level secs) :=
  .ite h.closeTest.upd.assertReset h.upd.put.raise

theorem Kept.tokEffect {b} (h : Kept o s) : Kept o (s.tokEffect b) := by
  unfold State.tokEffect
  dsimp only
  split
  · exact h.ownerSet
  · exact h.setStore
  · exact h.setStore.showStore
  · exact h.dropKeys.ownerSet.closeTest.closeDebugOne
  · exact h.dropKeys.ownerSet.closeTest.closeDebugOne
  · exact h.setLocked
  · exact h.setLocked
  · exact h.setStore.showStore.raise
  · exact h.raiseCounter
  · exact h.upd.put.setIf
  · exact h.openDebug

theorem Kept.tokResult {b r} (h : Kept o s) : Kept o (s.tokResult b r) := h.put.put.bumpWrap.raise.clearMailbox

theorem execAuth_kept (h : Kept o s) : KeptNext o (execAuth s) := by
  unfold execAuth
  dsimp only
  refine himetCmd_kept h (fun h => ?_)
  split
  · exact h.dropNonce.tokResult
  · exact h.dropNonce.upd.put

theorem Kept.opDone (h : Kept o s) : Kept o s.opDone := h.upd.put

theorem Kept.tokFinish {b storeOk} (h : Kept o s) : Kept o (s.tokFinish b storeOk) :=
  .ite h.opDone.tokResult (.ite h.opDone.tokResult (.ite h.opDone.tokResult h.opDone.tokResult.tokEffect))

theorem Kept.attestFinish {body} (h : Kept o s) : Kept o (s.attestFinish body) := h.opDone.fresh.fillMailbox.raise

theorem execHimetOperationEnd_kept {storeOk} (h : Kept o s) : KeptNext o (execHimetOperationEnd storeOk s) := by
  unfold execHimetOperationEnd
  split
  · exact h.next
  · exact h.tokFinish.next
  · exact h.attestFinish.next

theorem tokenEnds_kept {kind} (h : Kept o s) : KeptNext o (s.tokenEnds kind) := by
  unfold State.tokenEnds
  split
  · exact .ite h.tokFinish.next h.next
  · exact h.next

theorem execEnrol_kept (h : Kept o s) : KeptNext o (execEnrol s) := tokenEnds_kept h

theorem execOwnerNext_kept (h : Kept o s) : KeptNext o (execOwnerNext s) := tokenEnds_kept h

theorem execRotate_kept (h : Kept o s) : KeptNext o (execRotate s) := tokenEnds_kept h

theorem execTransfer_kept (h : Kept o s) : KeptNext o (execTransfer s) := tokenEnds_kept h

theorem execReleaseToken_kept (h : Kept o s) : KeptNext o (execReleaseToken s) := tokenEnds_kept h

theorem execLockToken_kept (h : Kept o s) : KeptNext o (execLockToken s) := tokenEnds_kept h

theorem execUnlockToken_kept (h : Kept o s) : KeptNext o (execUnlockToken s) := tokenEnds_kept h

theorem execCkLoad_kept (h : Kept o s) : KeptNext o (execCkLoad s) := tokenEnds_kept h

theorem execFloor_kept (h : Kept o s) : KeptNext o (execFloor s) := tokenEnds_kept h

theorem execTestToken_kept (h : Kept o s) : KeptNext o (execTestToken s) := tokenEnds_kept h

theorem execDebug_kept (h : Kept o s) : KeptNext o (execDebug s) := tokenEnds_kept h

theorem execAttest_kept (h : Kept o s) : KeptNext o (execAttest s) := himetCmd_kept h (fun h => h.now.fresh.upd.put)

theorem execReadCert_kept (h : Kept o s) : KeptNext o (execReadCert s) := himetCmd_kept h (fun h => h.fillMailbox)

theorem execReadKey_kept {slot} (h : Kept o s) : KeptNext o (execReadKey slot s) := by
  unfold execReadKey
  refine himetCmd_kept h (fun h => ?_)
  split
  · exact h.fillMailbox
  · exact h.put

theorem execCloseTest_kept (h : Kept o s) : KeptNext o (execCloseTest s) := himetCmd_kept h (fun h => h.closeTest)

theorem Kept.endDebug (h : Kept o s) : Kept o s.endDebug := by
  unfold State.endDebug
  dsimp only
  split
  · exact h
  · exact h.closeDebugOne
  · exact h.upd.assertReset

theorem execCloseDebug_kept (h : Kept o s) : KeptNext o (execCloseDebug s) :=
  .ite h.endDebug.next (himetCmd_kept h (fun h => h.endDebug))

theorem execTestSessionExpiry_kept (h : Kept o s) : KeptNext o (execTestSessionExpiry s) := h.closeTest.next

theorem execDebugSessionExpiry_kept (h : Kept o s) : KeptNext o (execDebugSessionExpiry s) := h.endDebug.next

theorem execDebugLinkRise_kept (h : Kept o s) : KeptNext o (execDebugLinkRise s) := .ite h.endDebug.next h.next

theorem Kept.storeReset (h : Kept o s) : Kept o s.storeReset := .ite h.assertReset h

theorem execStoreCheck_kept {fixed lost} (h : Kept o s) : KeptNext o (execStoreCheck fixed lost s) := by
  unfold execStoreCheck
  dsimp only
  refine Kept.next ?_
  refine Kept.storeReset ?_
  split
  · refine Kept.raise ?_
    refine Kept.put ?_
    refine Kept.upd ?_
    refine Kept.setIf ?_
    split
    · exact h.setCauseM.injEnd
    · exact h
  · refine Kept.setIf ?_
    split
    · exact h.setCauseM.injEnd
    · exact h

theorem execTrngFail_kept (h : Kept o s) : KeptNext o (execTrngFail s) := h.put.raise.next

theorem execTrngRecover_kept (h : Kept o s) : KeptNext o (execTrngRecover s) := h.put.next

theorem execRandomRead_kept (h : Kept o s) : KeptNext o (execRandomRead s) := .ite h.fresh.wr.next h.wr.next

theorem execHimetInject_kept {cls} (h : Kept o s) : KeptNext o (execHimetInject cls s) := (h.inject (fun h => h)).next

theorem Kept.himetInjEnd {i pass} (h : Kept o s) : Kept o (s.himetInjEnd i pass) := by
  unfold State.himetInjEnd
  split
  · exact h.put.raiseM.injEnd
  · split
    · refine Kept.injEnd ?_
      split
      · exact h.setCauseM
      · exact h.setCauseM
      · exact h
    · exact h.injEnd

/-! ## The functions of Machine/Svc -/

theorem Kept.setBank {b x st} (h : Kept o s) : Kept o (s.setBank b x st) := h.upd

theorem Kept.svcResult {op code} (h : Kept o s) : Kept o (s.svcResult op code) := h.put.put.bumpWrap

theorem Kept.respond {op status tag payload} (h : Kept o s) : Kept o (s.respond op status tag payload) := h.upd

theorem execUsbAttach_kept {configured hs} (h : Kept o s) : KeptNext o (execUsbAttach configured hs s) :=
  .ite h.put.put.next h.next

theorem execUsbDetach_kept (h : Kept o s) : KeptNext o (execUsbDetach s) := h.abandon.put.put.next

theorem execInfoOp_kept {tag good} (h : Kept o s) : KeptNext o (execInfoOp tag good s) :=
  .ite h.next (.ite h.respond.next h.respond.next)

theorem Kept.stageRefuse {op code tag} (h : Kept o s) : Kept o (s.stageRefuse op code tag) := h.svcResult.raise.respond

theorem execBeginOp_kept {tag payload moved} (h : Kept o s) : KeptNext o (execBeginOp tag payload moved s) := by
  unfold execBeginOp
  dsimp only
  split
  · exact h.next
  · split
    · exact h.stageRefuse.next
    · exact h.setBank.remapSectors.upd.put.svcResult.respond.next

theorem Kept.stageFail {op code tag} (h : Kept o s) : Kept o (s.stageFail op code tag) := h.abandon.stageRefuse

theorem execDataOp_kept {tag offset payload moved written} (h : Kept o s) :
    KeptNext o (execDataOp tag offset payload moved written s) := by
  unfold execDataOp
  dsimp only
  split
  · exact h.next
  · split
    · exact h.respond.next
    · split
      · exact h.stageRefuse.next
      · split
        · exact h.stageFail.next
        · exact .ite h.stageFail.next (.ite h.stageFail.next h.upd.put.svcResult.respond.next)

theorem execSvcEnd_kept {tag moved written} (h : Kept o s) : KeptNext o (execSvcEnd tag moved written s) := by
  unfold execSvcEnd
  dsimp only
  split
  · exact h.next
  · split
    · exact h.stageRefuse.next
    · split
      · exact h.stageFail.next
      · split
        · exact h.stageFail.next
        · split
          · exact h.stageFail.next
          · exact h.setBank.upd.svcResult.raise.respond.next

theorem Kept.svcCmd {via op code} (h : Kept o s) : Kept o (s.svcCmd via op code) := by
  unfold State.svcCmd
  dsimp only
  split
  · exact h.svcResult.status.setIf
  · exact h.svcResult.status.setIf.respond

theorem execSvcAbort_kept {via} (h : Kept o s) : KeptNext o (execSvcAbort via s) := .ite h.abandon.svcCmd.next h.next

theorem Kept.confirmBank (h : Kept o s) : Kept o s.confirmBank :=
  h.setBank.setBank.upd.raiseCounter.raiseCounter.raiseCounter.raise

theorem execConfirm_kept {via} (h : Kept o s) : KeptNext o (execConfirm via s) :=
  .ite h.next (.ite h.confirmBank.svcCmd.next h.svcCmd.next)

theorem Kept.swapStart {back} (h : Kept o s) : Kept o (s.swapStart back) := h.upd

theorem execRollback_kept {via} (h : Kept o s) : KeptNext o (execRollback via s) :=
  .ite h.next (.ite h.swapStart.svcCmd.next h.svcCmd.next)

theorem execAutoRollback_kept (h : Kept o s) : KeptNext o (execAutoRollback s) := .ite h.swapStart.next h.next

theorem Kept.armAt {t} (h : Kept o s) : Kept o (s.armAt t) := h.upd.raise

theorem execArmLocal_kept {via payload} (h : Kept o s) : KeptNext o (execArmLocal via payload s) := by
  unfold execArmLocal
  refine .ite h.next ?_
  extract_lets s0
  have h0 : Kept o s0 := by
    unfold s0
    cases via with
    | host => exact h
    | usb _ => exact h.foldl Kept.wr
  exact .ite h0.now.armAt.svcCmd.next h0.now.svcCmd.next

theorem execSvcCancel_kept {via} (h : Kept o s) : KeptNext o (execSvcCancel via s) := .ite h.disarm.svcCmd.next h.next

theorem execSvcStatus_kept {tag} (h : Kept o s) : KeptNext o (execSvcStatus tag s) := .ite h.respond.next h.next

theorem Kept.scheduled {cancel t fp} (h : Kept o s) : Kept o (s.scheduled cancel t fp) :=
  .ite h.disarm (.ite h.armAt h.svcResult)

theorem Kept.activate (h : Kept o s) : Kept o s.activate := .ite h.swapStart h.upd.svcResult.raise

theorem execActivationInstant_kept (h : Kept o s) : KeptNext o (execActivationInstant s) := .ite h.activate.next h.next

theorem execPostponedSwap_kept (h : Kept o s) : KeptNext o (execPostponedSwap s) := .ite h.swapStart.next h.next

theorem execMigrated_kept (h : Kept o s) : KeptNext o (execMigrated s) := .ite h.setBank.upd.raise.next h.next

theorem execTrialStartSuccess_kept (h : Kept o s) : KeptNext o (execTrialStartSuccess s) :=
  .ite (Kept.ite h.upd.confirmBank h.upd).next h.next

/-! ## The functions of Machine/Net -/

theorem Kept.netGo (h : Kept o s) : Kept o s.netGo := h.upd

theorem Kept.setGates {p b} (h : Kept o s) : Kept o (s.setGates p b) := h.upd

theorem Kept.emit {p cls len x} (h : Kept o s) : Kept o (s.emit p cls len x) := Kept.ite h.upd h

theorem Kept.emitGptp {p k} (h : Kept o s) : Kept o (s.emitGptp p k) := h.emit

theorem Kept.setGm {gm own synced steps} (h : Kept o s) : Kept o (s.setGm gm own synced steps) :=
  h.put.put.put.wr.wr.setIf.upd.ownRef

theorem Kept.bmca (h : Kept o s) : Kept o s.bmca := by
  unfold State.bmca
  dsimp only
  split
  · exact (h.foldl Kept.put).setGm
  · exact .ite (h.foldl Kept.put).setGm (h.foldl Kept.put).setGm

theorem Kept.externalRoles (h : Kept o s) : Kept o s.externalRoles := by
  unfold State.externalRoles
  dsimp only
  split
  · split
    · exact (h.fresh.foldl Kept.put).setGm
    · exact (h.fresh.foldl Kept.put).setGm
  · exact .ite (h.fresh.foldl Kept.put).setGm (h.fresh.foldl Kept.put).setGm

theorem Kept.gptpRoles (h : Kept o s) : Kept o s.gptpRoles := .ite h.externalRoles h.bmca

theorem Kept.pdelayTo {p stage} (h : Kept o s) : Kept o (s.pdelayTo p stage) := h.upd

theorem Kept.pdelayEnd {p span turn} (h : Kept o s) : Kept o (s.pdelayEnd p span turn) := h.pdelayTo.upd

theorem execGptpFrame_kept {p sample} {s0 : State} (h : Kept o s0) : KeptNext o (execGptpFrame p sample s0) := by
  unfold execGptpFrame
  extract_lets s1 msg kind slave isSync _ s all _
  have h1 : Kept o s1 := h.agreeFix.netGo
  have hs : Kept o s := .ite h1.upd h1
  have hall (l : List GptpKind) : Kept o (all l) := .ite (hs.foldl fun h => h.foldl Kept.emitGptp) hs
  refine .ite h1.next ?_
  clear_value kind
  split
  · exact hs.upd.gptpRoles.next
  · exact (hall _).next
  · exact (hall _).next
  · exact (hall _).next
  · exact hs.emitGptp.emitGptp.next
  · exact Kept.next (.ite hs.pdelayTo hs)
  · exact Kept.next (.ite hs.pdelayEnd hs)

theorem execGptpTimeout_kept {p announce} {s0 : State} (h : Kept o s0) : KeptNext o (execGptpTimeout p announce s0) :=
  .ite (Kept.ite h.netGo.refLostHold h.netGo).raise.upd.gptpRoles.next h.netGo.next

theorem execGptpMessageSend_kept {kind} {s0 : State} (h : Kept o s0) : KeptNext o (execGptpMessageSend kind s0) := by
  unfold execGptpMessageSend
  dsimp only
  split
  · exact .ite (h.netGo.foldl (fun h => h.emitGptp.emitGptp)).next h.netGo.next
  · exact (h.netGo.foldl Kept.emitGptp).next
  · exact (h.netGo.foldl (fun h => h.pdelayTo.emitGptp)).next

theorem Kept.learn {a p} (h : Kept o s) : Kept o (s.learn a p) := h.upd

theorem execSwitchFrame_kept {p frame} {s0 : State} (h : Kept o s0) : KeptNext o (execSwitchFrame p frame s0) :=
  .ite (h.netGo.learn.foldl Kept.emit).next h.netGo.next

theorem Kept.linkDown {p} (h : Kept o s) : Kept o (s.linkDown p) := by
  unfold State.linkDown
  split
  · exact .ite h.upd h.raise
  · exact h.raise

theorem Kept.linkBack {p} (h : Kept o s) : Kept o (s.linkBack p) := h.upd

theorem Kept.portsSettle (h : Kept o s) : Kept o s.portsSettle :=
  .ite (h.foldl (fun h => .ite h h.put)).put.linkDown
    (.ite (h.foldl (fun h => .ite h h.put)).put.linkBack (h.foldl (fun h => .ite h h.put)))

theorem Kept.portJudge {p e} (h : Kept o s) : Kept o (s.portJudge p e) := h.upd

theorem execPortLinkChange_kept {p link errs} {s0 : State} (h : Kept o s0) : KeptNext o (execPortLinkChange p link errs s0) :=
  have h1 : Kept o _ := h.netGo.portJudge
  have h2 : Kept o _ := h1.put.put
  .ite (Kept.ite h2.linkDown (.ite h2.linkBack h2)).gptpRoles.next h1.next

theorem Kept.ethBringIn (h : Kept o s) : Kept o s.ethBringIn :=
  have h1 : Kept o _ := h.upd.wr.wr.put
  have h2 : Kept o _ := .ite h1.put h1
  .ite h.upd (.ite (Kept.ite h2.linkDown h2).raise.broughtIn h.spareOut)

theorem execEthSpareBringIn_kept {s0 : State} (h : Kept o s0) : KeptNext o (execEthSpareBringIn s0) :=
  .ite h.netGo.next h.netGo.ethBringIn.next

theorem Kept.bistServe {b} (h : Kept o s) : Kept o (s.bistServe b) :=
  .ite (.ite h.upd.ethBringIn h) (.ite h.coreServe h.nextFilter)

theorem execGroomBistDone_kept {verdict} (h : Kept o s) : KeptNext o (execGroomBistDone verdict s) := by
  unfold execGroomBistDone
  extract_lets s1 _ s2
  have h1 : Kept o s1 := .ite h.netGo h
  have h2 : Kept o s2 := h1.upd.put
  split
  · exact h1.next
  · refine .ite ?_ h1.next
    extract_lets s3
    have h3 : Kept o s3 := by
      unfold s3
      split
      · exact h2.bistPass
      · exact h2.bistFail
      · exact h2.bistRange
    exact h3.bistServe.verdict.next

theorem execQbvCommit_kept {port} {s0 : State} (h : Kept o s0) : KeptNext o (execQbvCommit port s0) := by
  unfold execQbvCommit
  dsimp only
  split
  · exact .ite h.netGo.now.upd.status.next h.netGo.now.deny.raise.next
  · exact h.netGo.deny.next

theorem Kept.showBank {p b} (h : Kept o s) : Kept o (s.showBank p b) := (h.foldl Kept.wr).put.put.put.put

theorem execQbvBankSwitch_kept {p} {s0 : State} (h : Kept o s0) : KeptNext o (execQbvBankSwitch p s0) :=
  .ite h.netGo.setGates.showBank.put.upd.raise.next h.netGo.next

theorem Kept.eventsOver {a b} (h : Kept o s) : Kept o (s.eventsOver a b) := .ite h.upd.activate.raise h.upd

theorem execRootEpoch_kept {aligned names extra} (h : Kept o s) : KeptNext o (execRootEpoch aligned names extra s) := by
  unfold execRootEpoch
  refine .ite ?_ h.next
  extract_lets u _ s1 s2 s3 s4
  have h3 : Kept o s3 := .todEpoch (.ite h.upd h.upd.bumpWrap)
  have h4 : Kept o s4 := by
    unfold s4
    cases s.jumpTo u with
    | none => exact h3
    | some v => exact h3.eventsOver
  exact h4.setIf.judgeEpoch.next

theorem execNetInject_kept {cls} (h : Kept o s) : KeptNext o (execNetInject cls s) := (h.inject (fun h => h)).next

/-! ## The functions of Machine/Probe -/

theorem probeCmd_kept {ok} {act : State → State} (h : Kept o s) (hf : ∀ {t}, Kept o t → Kept o (act t)) :
    KeptNext o (s.probeCmd ok act) :=
  .ite (hf h).status.next h.deny.next

theorem Kept.midStart {i} (h : Kept o s) : Kept o (s.midStart i) := h.upd.foldl fun h => .ite h.midWrite h

theorem execMidCmd_kept {i} (h : Kept o s) : KeptNext o (execMidCmd i s) := probeCmd_kept h (fun h => h.midStart)

theorem Kept.midEnd {r c} (h : Kept o s) : Kept o (s.midEnd r c) := (h.foldl (fun h => .ite h.midIdle h)).upd.bumpWrap.raise

theorem Kept.midVdc (h : Kept o s) : Kept o s.midVdc.2 := by
  unfold State.midVdc
  dsimp only
  split
  · exact h
  · exact h.fresh

theorem Kept.midDone {rs ld lq axis} {s0 : State} (h : Kept o s0) : Kept o (s0.midDone rs ld lq axis) := by
  unfold State.midDone
  dsimp only
  exact h.midVdc.midEnd

theorem execMidDone_kept {rs ld lq dAngle} (h : Kept o s) : KeptNext o (execMidDone rs ld lq dAngle s) :=
  .ite h.midDone.next h.next

theorem execMidAbort_kept (h : Kept o s) : KeptNext o (execMidAbort s) := .ite h.midEnd.next h.next

theorem Kept.midReached {cls reached} (h : Kept o s) : Kept o (s.midReached cls reached) := .ite h.midEnd h

theorem Kept.cablePulse {out} (h : Kept o s) : Kept o (s.cablePulse out) := by
  unfold State.cablePulse
  dsimp only
  exact h.upd.legElapse.updateRefs.settle

theorem Kept.cableStop (h : Kept o s) : Kept o s.cableStop := by
  unfold State.cableStop
  dsimp only
  exact h.upd.legElapse.updateRefs.settle

theorem Kept.cableStart {i l} (h : Kept o s) : Kept o (s.cableStart i l) := h.upd.cablePulse

theorem Kept.cableEnd (h : Kept o s) : Kept o s.cableEnd := h.cablePulse.cablePulse.cablePulse.cableStop

theorem execProbeAbort_kept (h : Kept o s) : KeptNext o (execProbeAbort s) := by
  unfold execProbeAbort
  dsimp only
  refine Kept.next ?_
  refine Kept.status ?_
  split
  · exact h.midEnd
  · exact h.cableStop
  · exact h.upd

theorem execCable_kept {i} (h : Kept o s) : KeptNext o (execCable i s) := by
  unfold execCable
  refine probeCmd_kept h (fun h => ?_)
  split
  · exact h.cableStart
  · exact h.raise

theorem Kept.cableRecord {l span} (h : Kept o s) : Kept o (s.cableRecord l span) := by
  unfold State.cableRecord
  dsimp only
  split
  · exact .ite (Kept.iteSnd h h.fresh).wr h.wr
  · exact h.wr

theorem Kept.switchRecord {m} (h : Kept o s) : Kept o (s.switchRecord m) := h.wr.wr

theorem execCableLegDone_kept {span delays} (h : Kept o s) : KeptNext o (execCableLegDone span delays s) := by
  unfold execCableLegDone
  dsimp only
  split
  · split
    · exact (h.cableRecord.foldl Kept.switchRecord).setIf.cableEnd.cableStart.next
    · exact (h.cableRecord.foldl Kept.switchRecord).setIf.cableEnd.raise.next
  · exact h.next

theorem Kept.midRead {i} (h : Kept o s) : Kept o (s.midRead i) := h.put.put.wr.wr.wr.wr.wr

theorem execProbeInject_kept {cls} (h : Kept o s) : KeptNext o (execProbeInject cls s) := (h.inject (fun h => h)).next

theorem Kept.probeInjEnd {i pass} (h : Kept o s) : Kept o (s.probeInjEnd i pass) :=
  .ite h.raiseM.injEnd (.ite h.setCauseM.injEnd h.injEnd)

/-! ## The functions of Machine/Patrol -/

theorem Kept.record {c cls slots shadow} (h : Kept o s) : Kept o (s.record c cls slots shadow) :=
  .ite (Kept.ite h.wr h).now.upd.wr (.ite h.wr h)

theorem Kept.enterF4 (h : Kept o s) : Kept o s.enterF4 := .ite h h.upd.raise

theorem Kept.react {cls slots} {s0 : State} (h : Kept o s0) : Kept o (s0.react cls slots) := by
  unfold State.react
  dsimp only
  split
  · exact h.midReached.foldl fun h => .ite h.applyF2 h
  · exact h.midReached.foldl fun h => .ite h.applyF34 h
  · exact (h.midReached.foldl (fun h => .ite h.applyF34 h)).enterF4
  · exact h.midReached

theorem Kept.setRaised {c cls} (h : Kept o s) : Kept o (s.setRaised c cls) := .ite h.upd h

theorem Kept.obsSettle (h : Kept o s) : Kept o s.obsSettle := h.foldl Kept.obsAct

theorem execCauseClassify_kept (h : Kept o s) : KeptNext o (execCauseClassify s) := by
  unfold execCauseClassify
  dsimp only
  split
  · exact h.obsSettle.next
  · split
    · exact h.upd.record.obsSettle.next
    · exact h.upd.record.react.obsSettle.next
    · exact h.upd.escalate.setRaised.record.react.obsSettle.next

theorem execEscWindowEnd_kept {e} (h : Kept o s) : KeptNext o (execEscWindowEnd e s) := h.put.next

theorem execClearF4_kept (h : Kept o s) : KeptNext o (execClearF4 s) := .ite h.deny.next h.upd.raise.status.next

theorem execClearFirst_kept (h : Kept o s) : KeptNext o (execClearFirst s) := h.upd.wr.status.next

theorem execFrictionOn_kept (h : Kept o s) : KeptNext o (execFrictionOn s) := h.upd.status.next

theorem execFrictionOff_kept (h : Kept o s) : KeptNext o (execFrictionOff s) := h.upd.status.next

theorem Kept.wdogExpire {m} (h : Kept o s) : Kept o (s.wdogExpire m) := h.upd.bump.put.raiseM

theorem execWdogKick_kept {key ms} (h : Kept o s) : KeptNext o (execWdogKick key ms s) :=
  .ite h.next (.ite (h.heldAct (fun h => h.wdogExpire)).next h.upd.put.next)

theorem execHostWdog_kept (h : Kept o s) : KeptNext o (execHostWdog s) := .ite (h.heldAct (fun h => h.wdogExpire)).next h.next

theorem execTaskStall_kept {i} (h : Kept o s) : KeptNext o (execTaskStall i s) :=
  .ite (h.heldAct (fun h => h.raise)).next h.next

theorem execSupWdog_kept (h : Kept o s) : KeptNext o (execSupWdog s) := h.upd.raise.next

theorem execSupervisorReport_kept (h : Kept o s) : KeptNext o (execSupervisorReport s) := h.next

theorem Kept.patrolAct {target index m} (h : Kept o s) : Kept o (s.patrolAct target index m) := by
  unfold State.patrolAct
  dsimp only
  split
  · split
    · exact h.setSdm.cmpAssert
    · exact h
  · split
    · exact h.setSdm.cmpAssert
    · exact h
  · split
    · exact h.crossAct
    · exact h
  · split
    · exact h.wireAct
    · exact h
  · split
    · exact h.monAct
    · exact h
  · split
    · exact h.monAct
    · exact h
  · split
    · exact .ite h.abortRun h
    · exact h
  · exact h.wdogExpire
  · exact h.raiseM
  · exact h.chopFault
  · exact h.refLoss
  · exact h

theorem Kept.patrolEnd {i code} (h : Kept o s) : Kept o (s.patrolEnd i code) := .ite h.injEnd.patrolAct h.injEnd

theorem Kept.patrolShadow {i pass} (h : Kept o s) : Kept o (s.patrolShadow i pass) :=
  (Kept.ite (h.foldl Kept.setCauseM) h).patrolEnd

theorem execPatrolInject_kept {cls} (h : Kept o s) : KeptNext o (execPatrolInject cls s) :=
  (h.inject (fun h => .ite (.ite h.patrolAct.injEnd h.patrolShadow) h)).next

theorem execClsQuery_kept {group bit} (h : Kept o s) : KeptNext o (execClsQuery group bit s) := h.put.put.wr.next

theorem execPatrolFirstRead_kept (h : Kept o s) : KeptNext o (execPatrolFirstRead s) := h.wr.put.next

/-! ## The functions of Machine/Folis -/

theorem Kept.sendAs {p ty node cycle depth flags body} (h : Kept o s) : Kept o (s.sendAs p ty node cycle depth flags body) :=
  h.emit

theorem Kept.sendOwn {p ty flags body} (h : Kept o s) : Kept o (s.sendOwn p ty flags body) := h.sendAs

theorem Kept.folisIn {p frame ty} {act : State → FolisMsg → State} (h : Kept o s)
    (hf : ∀ {t m}, Kept o t → Kept o (act t m)) : Kept o (s.folisIn p frame ty act) := by
  unfold State.folisIn
  extract_lets s1
  have h1 : Kept o s1 := h.netGo
  refine .ite ?_ h1
  split
  · exact h1
  · exact .ite h1.raise (.ite (hf h1) h1)

theorem Kept.sendCaps {flags} (h : Kept o s) : Kept o (s.sendCaps flags) := h.foldl Kept.sendOwn

theorem Kept.elect (h : Kept o s) : Kept o s.elect :=
  have h1 : Kept o _ := h.put.put.put.put.put.foldl fun h => h.put.put
  have h2 : Kept o _ := (Kept.ite h1.put h1).upd.setIf
  (Kept.ite h2.sendCaps h2).ownRef

theorem execBeaconSend_kept {s0 : State} (h : Kept o s0) : KeptNext o (execBeaconSend s0) :=
  .ite (h.netGo.upd.elect.foldl Kept.sendOwn).next h.netGo.next

theorem execBeaconReceive_kept {p frame} (h : Kept o s) : KeptNext o (execBeaconReceive p frame s) :=
  (h.agreeFix.folisIn (fun h => h.setIf.upd.elect)).next

theorem Kept.masterLost (h : Kept o s) : Kept o s.masterLost := (Kept.ite h.refLostHold h).put.upd.raise.elect

theorem execMasterLost_kept {s0 : State} (h : Kept o s0) : KeptNext o (execMasterLost s0) := by
  unfold execMasterLost
  dsimp only
  split
  · split
    · exact .ite h.netGo.upd.next h.netGo.masterLost.next
    · exact h.netGo.masterLost.next
  · exact h.netGo.next

theorem Kept.complete (h : Kept o s) : Kept o s.complete := h.upd.setIf.setIf

theorem Kept.dropPassed {t16} (h : Kept o s) : Kept o (s.dropPassed t16) := h.upd

theorem Kept.sendSchedule (h : Kept o s) : Kept o s.sendSchedule := by
  unfold State.sendSchedule
  dsimp only
  split
  · exact .ite (h.foldl Kept.sendOwn) h
  · exact .ite (h.upd.foldl Kept.sendOwn) h

theorem execCycleStart_kept {k stamps} {s0 : State} (h : Kept o s0) : KeptNext o (execCycleStart k stamps s0) :=
  have h1 : Kept o _ := ((Kept.ite h.netGo h.netGo.complete).dropPassed.wr.upd.foldl Kept.sendOwn).sendSchedule
  .ite (Kept.ite h1.complete h1).next h.netGo.next

theorem execCycleReceive_kept {p frame ingress residence} (h : Kept o s) :
    KeptNext o (execCycleReceive p frame ingress residence s) := by
  unfold execCycleReceive
  refine Kept.next (h.agreeFix.folisIn fun {t m} h => .ite ?_ h)
  extract_lets b delay corr local16 offset agree agg t1 own _ t2 t3 t4
  have h2 : Kept o t2 := h.edgeTo.dropPassed.wr.put.upd
  have h4 : Kept o t4 := (Kept.ite h2.measure h2).setIf
  exact h4.foldl Kept.sendAs

theorem Kept.sendReport (h : Kept o s) : Kept o s.sendReport := by
  unfold State.sendReport
  dsimp only
  split
  · exact h.upd.sendOwn
  · exact h.upd

theorem execReportSend_kept {s0 : State} (h : Kept o s0) : KeptNext o (execReportSend s0) :=
  .ite h.netGo.sendReport.next h.netGo.next

theorem execReportDeadline_kept {s0 : State} (h : Kept o s0) : KeptNext o (execReportDeadline s0) := by
  unfold execReportDeadline
  dsimp only
  split
  · exact h.netGo.next
  · split
    · exact h.netGo.complete.next
    · exact h.netGo.sendReport.next
    · exact h.netGo.next

theorem execReportReceive_kept {p frame} (h : Kept o s) : KeptNext o (execReportReceive p frame s) :=
  (h.agreeFix.folisIn (fun h => .ite (.ite h.raise (.ite h.upd.complete h.upd)) h)).next

theorem execDelayReqSend_kept {p} {s0 : State} (h : Kept o s0) : KeptNext o (execDelayReqSend p s0) :=
  .ite h.netGo.upd.sendOwn.next h.netGo.next

theorem execDelayReqReceive_kept {p frame turn} (h : Kept o s) : KeptNext o (execDelayReqReceive p frame turn s) :=
  (h.agreeFix.folisIn (fun h => h.sendOwn)).next

theorem execDelayRespReceive_kept {p frame span} (h : Kept o s) : KeptNext o (execDelayRespReceive p frame span s) :=
  (h.agreeFix.folisIn (fun h => .ite h.upd.wr h)).next

theorem Kept.takeSchedule {t fp} (h : Kept o s) : Kept o (s.takeSchedule t fp) := h.upd.raise.scheduled.upd

theorem execSchedule_kept {s0 : State} (h : Kept o s0) : KeptNext o (execSchedule s0) :=
  .ite h.netGo.now.bumpWrap.takeSchedule.upd.status.next h.netGo.now.deny.next

theorem execSchedCancel_kept {s0 : State} (h : Kept o s0) : KeptNext o (execSchedCancel s0) :=
  .ite h.netGo.scheduled.upd.status.next h.netGo.deny.next

theorem execScheduleReceive_kept {p frame} (h : Kept o s) : KeptNext o (execScheduleReceive p frame s) := by
  unfold execScheduleReceive
  refine Kept.next (h.agreeFix.folisIn fun {t m} h => ?_)
  refine .ite ?_ h
  extract_lets b act fp seq t1 isNew t2
  have h2 : Kept o t2 := .put (.foldl h fun h => h.sendAs)
  split
  · refine .ite h2.takeSchedule ?_
    exact .ite h2.now.upd.armAt h2.now.upd
  · exact h2.setIf.scheduled.upd
  · exact h2

theorem Kept.peerSummary (h : Kept o s) : Kept o s.peerSummary := h.put.put.put.wr.setIf

theorem execCapsRequest_kept (h : Kept o s) : KeptNext o (execCapsRequest s) := h.netGo.sendCaps.status.next

theorem execPeers_kept (h : Kept o s) : KeptNext o (execPeers s) :=
  probeCmd_kept h (fun h => .ite h.netGo.sendCaps h.netGo.sendCaps.upd)

theorem Kept.peersEnd (h : Kept o s) : Kept o s.peersEnd := .ite h.upd h

theorem execCapsSend_kept (h : Kept o s) : KeptNext o (execCapsSend s) := h.peersEnd.netGo.sendCaps.next

theorem execCapsReceive_kept {p frame} (h : Kept o s) : KeptNext o (execCapsReceive p frame s) := by
  unfold execCapsReceive
  refine Kept.next (h.agreeFix.folisIn fun {t m} h => ?_)
  extract_lets b unit t1 t2 x _ t3
  have h1 : Kept o t1 := h.foldl Kept.sendAs
  have h2 : Kept o t2 := h1.raise.elect
  have h3 : Kept o t3 := h1.upd.peerSummary.peersEnd
  exact .ite h1 (.ite (.ite h2.sendCaps h2) (.ite h3.sendCaps h3))

theorem execFolisAggRead_kept (h : Kept o s) : KeptNext o (execFolisAggRead s) := h.put.put.put.put.put.put.put.put.put.wr.next

theorem Kept.netEnd {i code} (h : Kept o s) : Kept o (s.netEnd i code) :=
  .ite h.injEnd (.ite h.injEnd.raise h.injEnd.masterLost)

theorem Kept.netInjEnd {i pass} (h : Kept o s) : Kept o (s.netInjEnd i pass) := .ite h.setCauseM.netEnd h.netEnd

/-! ## The functions of Machine/Inject -/

theorem Kept.patrolInjEnd {i pass} (h : Kept o s) : Kept o (s.patrolInjEnd i pass) :=
  .ite (.ite h h.patrolAct.injEnd) h.patrolShadow

theorem execInjectWindowEnd_kept {ctrl pass} (h : Kept o s) : KeptNext o (execInjectWindowEnd ctrl pass s) := by
  unfold execInjectWindowEnd
  split
  · exact h.next
  · exact .ite h.patrolInjEnd.next (.ite h.probeInjEnd.next (.ite h.himetInjEnd.next (.ite h.netInjEnd.next h.next)))

theorem execInjectTimeout_kept {ctrl} (h : Kept o s) : KeptNext o (execInjectTimeout ctrl s) := by
  unfold execInjectTimeout
  dsimp only
  split
  · exact h.next
  · exact .ite h.netEnd.next ((Kept.ite h.upd h).patrolEnd.foldl (fun h => .ite h.tripInEval h)).next

/-! ## The functions of Machine/Lift -/

theorem Kept.halted (h : Kept o s) : Kept o s.halted := h.upd

theorem Kept.loadTrims {t} (h : Kept o s) : Kept o (s.loadTrims t) := .ite h.put.halted h.put.put.setIf

theorem Kept.checkRetained {bad} (h : Kept o s) : Kept o (s.checkRetained bad) := .ite h.upd.put.put.raise h

theorem Kept.recordFw (h : Kept o s) : Kept o s.recordFw := h.upd.putDigest

theorem Kept.startFw (h : Kept o s) : Kept o s.startFw := .ite h.recordFw (.ite h.upd.recordFw.raise h.halted)

theorem Kept.startLanes {spare} (h : Kept o s) : Kept o (s.startLanes spare) := h.put.put.put.upd.put

theorem Kept.showFigures (h : Kept o s) : Kept o s.showFigures := by
  unfold State.showFigures
  refine h.foldl fun h => ?_
  split
  · exact h.wr.wr
  · exact h

theorem Kept.applyRecord (h : Kept o s) : Kept o s.applyRecord := h.upd.showFigures.showFilters.put.fresh.put.put.startLanes

theorem Kept.atStage {n} (h : Kept o s) : Kept o (s.atStage n) := h.upd

theorem Kept.startRoot {a b} (h : Kept o s) : Kept o (s.startRoot a b) := .ite h.put.put.put.put.upd.atStage h.halted

theorem Kept.prepareParams (h : Kept o s) : Kept o s.prepareParams := by
  unfold State.prepareParams
  extract_lets k0 k s1 good _ s2 _ s3
  have h2 : Kept o s2 := h.setBank.upd
  have h3 : Kept o s3 := by
    unfold s3
    refine .ite ?_ h2
    split
    · exact h2.upd
    · exact h2.upd.raise
  exact h3.putDigest

theorem Kept.courseTrial (h : Kept o s) : Kept o s.courseTrial := .ite h.upd h

theorem Kept.showChannel {n} (h : Kept o s) : Kept o (s.showChannel n) := .ite h h.wr.wr

theorem Kept.bringCourse {bad} (h : Kept o s) : Kept o (s.bringCourse bad) :=
  h.prepareParams.loadCourse.resumeSpares.courseTrial.atStage.foldl Kept.showChannel

theorem Kept.channelUp {u} (h : Kept o s) : Kept o (s.channelUp u) := by
  unfold State.channelUp
  dsimp only
  split
  · exact h.setEdge
  · split
    · exact h.setEdge
    · exact h.setEdge.put
    · exact h.setEdge.streamUp.put.put.put

theorem Kept.channelFault {u} (h : Kept o s) : Kept o (s.channelFault u) := by
  unfold State.channelFault
  dsimp only
  split
  · exact h
  · split
    · exact h.healthOff.markSide
    · exact h.edgeDetail.streamDown.markSide
    · exact .ite h.edgeIf.healthOff h.edgeIf

theorem Kept.parkRecorded (h : Kept o s) : Kept o s.parkRecorded := h.foldl fun h => .ite h.park h

theorem Kept.edgesUp {ups} (h : Kept o s) : Kept o (s.edgesUp ups) :=
  .ite ((h.foldl Kept.channelUp).foldl Kept.channelFault).parkRecorded.ownSync h

theorem Kept.legAtLift {env n} (h : Kept o s) : Kept o (s.legAtLift env n) :=
  .ite h (.ite (h.cableStart.cableEnd.cableRecord.foldl Kept.switchRecord).setIf h.wr)

theorem Kept.midAtLift {env i} (h : Kept o s) : Kept o (s.midAtLift env i) := by
  unfold State.midAtLift
  dsimp only
  split
  · split
    · split
      · split
        · exact h.midStart.midEnd
        · exact h.midStart.midEnd
      · exact h.midStart.fresh.fresh.midEnd
    · exact h.upd.bumpWrap
  · exact h

theorem Kept.probeLift {env} (h : Kept o s) : Kept o (s.probeLift env) :=
  ((h.put.setIf.foldl (fun h => .ite (.ite h.setPos.put h.setPos) h)).foldl Kept.legAtLift).setIf.foldl fun h =>
    h.midAtLift

theorem Kept.selAbove (h : Kept o s) : Kept o s.selAbove := h.upd

theorem Kept.runReady {duration} (h : Kept o s) : Kept o (s.runReady duration) := h.upd.put.atStage.raise

theorem Kept.countTrial (h : Kept o s) : Kept o s.countTrial := .ite (.ite h.upd h.upd) h

theorem Kept.onward {f : State → State} (h : Kept o s) (hf : ∀ {t}, Kept o t → Kept o (f t)) : Kept o (s.onward f) :=
  .ite (hf h) h

theorem Kept.liftUp {env} (h : Kept o s) : Kept o (s.liftUp env) :=
  h.countTrial.bringCourse.selAbove.edgesUp.probeLift.runReady.upd

theorem Kept.liftFrom2 {env} (h : Kept o s) : Kept o (s.liftFrom2 env) := by
  unfold State.liftFrom2
  refine .ite h.upd (.ite h.upd.raise.halted ?_)
  split
  · exact h.upd.upd.halted
  · refine .ite h.upd.atStage (.ite h.upd.halted ?_)
    exact h.upd.checkRetained.showStore.startFw.onward fun h => h.applyRecord.startRoot.onward fun h => h.liftUp

theorem execColdLift_kept {env} (h : Kept o s) : KeptNext o (execColdLift env s) :=
  .ite (Kept.ite (h.loadTrims.onward (fun h => h.liftFrom2)) h.halted).next h.next

theorem execBistConditionRecheck_kept {env} (h : Kept o s) : KeptNext o (execBistConditionRecheck env s) :=
  .ite h.liftFrom2.next h.next

theorem Kept.imageMismatch (h : Kept o s) : Kept o s.imageMismatch := h.wipe.put.put.bump.put.upd

theorem Kept.warmScrub {bad} (h : Kept o s) : Kept o (s.warmScrub bad) := .ite h.scrub h

theorem Kept.warmRestore {env} (h : Kept o s) : Kept o (s.warmRestore env) :=
  h.warmScrub.loadMatrix.applyAll.loadParams.resumeSpares.upd.atStage

theorem Kept.warmSwap {env} (h : Kept o s) : Kept o (s.warmSwap env) := h.recordFw.countTrial.bringCourse.upd

theorem Kept.adopt {n} (h : Kept o s) : Kept o (s.adopt n) := by
  unfold State.adopt
  dsimp only
  split
  · split
    · exact h.setLeg
    · exact h
  · exact h.setLeg

theorem Kept.handover (h : Kept o s) : Kept o s.handover := (h.foldl Kept.adopt).upd.ownSync

theorem Kept.warmUp {env} (h : Kept o s) : Kept o (s.warmUp env) :=
  have h1 : Kept o _ := (Kept.ite h.warmSwap h.countTrial.warmRestore).startLanes.showStore.selAbove.handover.runReady.upd
  .ite h1.raise h1

theorem execWarmLift_kept {env} (h : Kept o s) : KeptNext o (execWarmLift env s) :=
  .ite (h.loadTrims.onward (fun h => .ite h.warmUp h.imageMismatch)).next h.next

/-! ## The functions of Machine/Read -/

theorem Kept.latchLow {env a} (h : Kept o s) : Kept o (s.latchLow env a) := by
  unfold State.latchLow
  split
  · exact .ite (KeptNext.nextOf (execTimeNowRead_kept h)) (.ite (KeptNext.nextOf (execPpsInRead_kept h)) h)
  · exact .ite (KeptNext.nextOf (execPatrolFirstRead_kept h)) h
  · exact .ite h.lastLaneRead h
  · exact .ite (KeptNext.nextOf (execRandomRead_kept h)) h
  · split
    · exact .ite (KeptNext.nextOf (execMeasRead_kept h)) h
    · exact h
  · split
    · exact KeptNext.nextOf (execSdmResRead_kept h)
    · split
      · exact KeptNext.nextOf (execSdmResRead_kept h)
      · exact .ite (KeptNext.nextOf (execSdmResRead_kept h)) (.ite (KeptNext.nextOf (execSdmResRead_kept h)) h)
  · split
    · exact KeptNext.nextOf (execTrackerSumRead_kept h)
    · exact h
  · split
    · exact KeptNext.nextOf (execPosAngleRead_kept h)
    · exact h
  · split
    · exact KeptNext.nextOf (execCarveInRead_kept h)
    · exact h
  · exact h

theorem Kept.latchHigh {a} (h : Kept o s) : Kept o (s.latchHigh a) := by
  unfold State.latchHigh
  split
  · split
    · exact KeptNext.nextOf (execRotResultRead_kept h)
    · exact h
  · split
    · exact KeptNext.nextOf (execProfValueRead_kept h)
    · exact h
  · exact .ite h.wr.wr h
  · split
    · exact h.recoveryShown
    · split
      · exact KeptNext.nextOf (execCanRxRead_kept h)
      · exact h
  · split
    · exact h.recoveryShown
    · split
      · exact KeptNext.nextOf (execCanRxRead_kept h)
      · exact h
  · exact .ite (KeptNext.nextOf (execFolisAggRead_kept h)) h
  · split
    · exact h.midRead
    · exact h
  · exact h

theorem Kept.readReg {env a} (h : Kept o s) : Kept o (s.readReg env a).2 := (Kept.ite h.latchLow h.latchHigh).fresh

/-! ## The functions of Machine/Command -/

theorem Kept.clearCauses {g m} (h : Kept o s) : Kept o (s.clearCauses g m) := h.wr.setShadow.setLive.upd.frictionCheck

theorem execCauseClear_kept {grp mask} (h : Kept o s) : KeptNext o (execCauseClear grp mask s) := h.clearCauses.next

theorem execIntInject_kept {grp mask} (h : Kept o s) : KeptNext o (execIntInject grp mask s) :=
  (h.foldl (fun h => .ite h.setCauseM h)).next

theorem execIrqEdgeReleaseEnd_kept (h : Kept o s) : KeptNext o (execIrqEdgeReleaseEnd s) := h.upd.next

theorem commandLow_kept {env a v} (h : Kept o s) : KeptSome o (s.commandLow env a v) := by
  unfold State.commandLow
  extract_lets +onlyGivenNames c cls
  clear_value c
  split
  · split
    · refine Kept.opt ?_
      split
      · exact KeptNext.nextOf (execTimeSet_kept h)
      · exact KeptNext.nextOf (execSyncArm_kept h)
      · exact KeptNext.nextOf (execSyncCancel_kept h)
      · exact h
    · exact KeptSome.ite (Kept.opt (KeptNext.nextOf (execTimeInject_kept h))) KeptSome.empty
  · split
    · refine Kept.opt ?_
      split
      · exact KeptNext.nextOf (execRstWarm_kept h)
      · exact KeptNext.nextOf (execRstSystem_kept h)
      · exact KeptNext.nextOf (execRstBlock_kept h)
      · exact Kept.ite h h.raise
    · exact KeptSome.empty
  · split
    · exact Kept.opt (KeptNext.nextOf (execCauseClear_kept h))
    · split
      · exact Kept.opt (KeptNext.nextOf (execIntInject_kept h))
      · exact KeptSome.empty
  · split
    · refine Kept.opt ?_
      split
      · exact KeptNext.nextOf (execClearF4_kept h)
      · exact KeptNext.nextOf (execClearFirst_kept h)
      · exact KeptNext.nextOf (execFrictionOn_kept h)
      · exact KeptNext.nextOf (execFrictionOff_kept h)
      · exact h
    · exact .ite (Kept.opt (KeptNext.nextOf (execWdogKick_kept h)))
        (.ite (Kept.opt (KeptNext.nextOf (execPatrolInject_kept h))) .empty)
  · exact .ite (Kept.opt (.ite (KeptNext.nextOf (execTriadClearStats_kept h)) h))
      (.ite (Kept.opt (KeptNext.nextOf (execTriadInject_kept h))) .empty)
  · split
    · refine Kept.opt ?_
      split
      · exact KeptNext.nextOf (execGroomBist_kept h)
      · exact KeptNext.nextOf (execReturnLane_kept h)
      · exact KeptNext.nextOf (execResetBaseline_kept h)
      · exact h
    · exact KeptSome.ite (Kept.opt (KeptNext.nextOf (execGroomInject_kept h))) KeptSome.empty
  · split
    · refine Kept.opt ?_
      split
      · exact KeptNext.nextOf (execChallenge_kept h)
      · exact KeptNext.nextOf (execAuth_kept h)
      · exact KeptNext.nextOf (execAttest_kept h)
      · exact KeptNext.nextOf (execReadCert_kept h)
      · exact KeptNext.nextOf (execReadKey_kept h)
      · exact KeptNext.nextOf (execCloseTest_kept h)
      · exact KeptNext.nextOf (execCloseDebug_kept h)
      · exact h
    · exact KeptSome.ite (Kept.opt (KeptNext.nextOf (execHimetInject_kept h))) KeptSome.empty
  · exact KeptSome.ite (Kept.opt (Kept.ite (KeptNext.nextOf (execReadback_kept h)) h)) KeptSome.empty
  · exact KeptSome.empty

theorem Kept.driveCode {i c} (h : Kept o s) : Kept o (s.driveCode i c) := by
  unfold State.driveCode
  split
  · exact KeptNext.nextOf (execArm_kept h)
  · exact KeptNext.nextOf (execStart_kept h)
  · exact KeptNext.nextOf (execStop_kept h)
  · exact KeptNext.nextOf (execResume_kept h)
  · exact KeptNext.nextOf (execDisarm_kept h)
  · exact KeptNext.nextOf (execRecover_kept h)
  · exact KeptNext.nextOf (execRestart_kept h)
  · exact KeptNext.nextOf (execCharge_kept h)
  · exact KeptNext.nextOf (execDischarge_kept h)
  · exact h

theorem commandPwm_kept {env a v} (h : Kept o s) : KeptSome o (s.commandPwm env a v) := by
  unfold State.commandPwm
  split
  · exact (Kept.ite (KeptNext.nextOf (execPwmLoadall_kept h)) h).opt
  · split
    · refine Kept.opt ?_
      split
      · exact KeptNext.nextOf (execPwmSync_kept h)
      · exact KeptNext.nextOf (execPwmClearStats_kept h)
      · exact h
    · split
      · exact (KeptNext.nextOf (execTripRelease_kept h)).opt
      · split
        · exact (KeptNext.nextOf (execTripinInject_kept h)).opt
        · split
          · exact (KeptNext.nextOf (execPwmCommit_kept h)).opt
          · exact .empty

theorem commandEdge_kept {a v} (h : Kept o s) : KeptSome o (s.commandEdge a v) := by
  unfold State.commandEdge
  split
  · exact h.wr.opt
  · split
    · refine Kept.opt ?_
      split
      · exact KeptNext.nextOf (execEdgeSelftest_kept h)
      · exact KeptNext.nextOf (execEdgeRetrain_kept h)
      · exact KeptNext.nextOf (execEdgePark_kept h)
      · exact KeptNext.nextOf (execEdgeUnpark_kept h)
      · exact KeptNext.nextOf (execEdgeClearStats_kept h)
      · exact h
    · split
      · exact (KeptNext.nextOf (execEdgeInject_kept h)).opt
      · exact .empty

theorem commandMid_kept {env a v} (h : Kept o s) : KeptSome o (s.commandMid env a v) := by
  unfold State.commandMid
  dsimp only
  split
  · exact commandPwm_kept h
  · exact commandEdge_kept h
  · split
    · exact h.wr.opt
    · split
      · refine Kept.opt ?_
        split
        · exact KeptNext.nextOf (execHkaStart_kept h)
        · exact KeptNext.nextOf (execHkaClearStats_kept h)
        · exact h
      · exact .ite (KeptNext.nextOf (execHkaInject_kept h)).opt .empty
  · split
    · refine Kept.opt ?_
      split
      · exact KeptNext.nextOf (execPosPreset_kept h)
      · exact KeptNext.nextOf (execClearHomed_kept h)
      · exact KeptNext.nextOf (execPosClearCounters_kept h)
      · exact h
    · exact .empty
  · split
    · refine Kept.opt ?_
      split
      · exact KeptNext.nextOf (execCarvePreset_kept h)
      · exact KeptNext.nextOf (execCarveClearStats_kept h)
      · exact h
    · exact .empty
  · split
    · exact (Kept.ite (KeptNext.nextOf (execRotStart_kept h)) h).opt
    · exact .empty
  · split
    · refine Kept.opt ?_
      split
      · exact KeptNext.nextOf (execProfHold_kept h)
      · exact KeptNext.nextOf (execProfResume_kept h)
      · exact KeptNext.nextOf (execPresetInput_kept h)
      · exact h
    · exact .empty
  · split
    · exact h.driveCode.opt
    · exact .empty
  · exact .empty

theorem commandCan_kept {c a v} (h : Kept o s) : KeptSome o (s.commandCan c a v) := by
  unfold State.commandCan
  split
  · refine Kept.opt ?_
    split
    · exact KeptNext.nextOf (execCanRestart_kept h)
    · exact KeptNext.nextOf (execCanClearStats_kept h)
    · exact h
  · split
    · exact (KeptNext.nextOf (execCanInject_kept h)).opt
    · split
      · exact (Kept.ite (KeptNext.nextOf (execCanTxAbort_kept h)) (.ite (KeptNext.nextOf (execCanTxReq_kept h)) h)).opt
      · split
        · exact (Kept.ite (KeptNext.nextOf (execCanRxPop_kept h)) h).opt
        · exact .empty

theorem commandHigh_kept {a v} (h : Kept o s) : KeptSome o (s.commandHigh a v) := by
  unfold State.commandHigh
  extract_lets +onlyGivenNames c
  clear_value c
  split
  · exact commandCan_kept h
  · exact commandCan_kept h
  · split
    · refine Kept.opt ?_
      split
      · exact KeptNext.nextOf (execQbvCommit_kept h)
      · exact KeptNext.nextOf (execSchedule_kept h)
      · exact KeptNext.nextOf (execSchedCancel_kept h)
      · exact KeptNext.nextOf (execCapsRequest_kept h)
      · exact h
    · exact KeptSome.ite (Kept.opt (KeptNext.nextOf (execNetInject_kept h))) KeptSome.empty
  · split
    · refine Kept.opt ?_
      split
      · exact KeptNext.nextOf (execConfirm_kept h)
      · exact KeptNext.nextOf (execRollback_kept h)
      · exact KeptNext.nextOf (execArmLocal_kept h)
      · exact KeptNext.nextOf (execSvcCancel_kept h)
      · exact KeptNext.nextOf (execSvcAbort_kept h)
      · exact h
    · exact KeptSome.empty
  · split
    · refine Kept.opt ?_
      split
      · exact KeptNext.nextOf (execMidCmd_kept h)
      · exact KeptNext.nextOf (execCable_kept h)
      · exact KeptNext.nextOf (execPeers_kept h)
      · exact KeptNext.nextOf (execProbeAbort_kept h)
      · exact h
    · exact KeptSome.ite (Kept.opt (KeptNext.nextOf (execProbeInject_kept h))) KeptSome.empty
  · exact KeptSome.ite (Kept.opt (KeptNext.nextOf (execCauseClear_kept h))) KeptSome.empty
  · exact KeptSome.empty

theorem command_kept {env a v} (h : Kept o s) : KeptSome o (s.command env a v) :=
  .ite (commandLow_kept h) (.ite (commandMid_kept h) (commandHigh_kept h))

/-! ## The functions of Machine/Write -/

theorem guarded_kept {a w} (h : Kept o s) : KeptSome o (s.guarded a w) := by
  unfold State.guarded
  split
  · exact .ite h.raise.opt .empty
  · exact .ite .empty h.opt
  · split
    · exact .ite h.opt .empty
    · exact .empty
  · exact .ite h.raise.opt .empty
  · exact .empty

theorem Kept.afterPwm {a} (h : Kept o s) : Kept o (s.afterPwm a) := by
  unfold State.afterPwm
  dsimp only
  split
  · split
    · exact h.setLeg
    · split
      · exact (Kept.ite h.setLeg h).updateRefs.settle
      · split
        · exact h.setLeg
        · exact h
  · split
    · exact h.tripInEval
    · exact h

theorem Kept.afterStore {a} {s0 : State} (h1 : Kept o s) : Kept o (s0.afterStore s a) := by
  unfold State.afterStore
  split
  · exact .ite h1.put.ownRef h1
  · exact .ite (KeptNext.nextOf (execRstLogSelect_kept h1)) h1
  · split
    · exact .ite h1 h1.upd
    · split
      · exact h1.wr.irqEdge
      · exact h1
  · exact .ite (KeptNext.nextOf (execClsQuery_kept h1)) h1
  · exact .ite (KeptNext.nextOf (execEnvQuery_kept h1)) h1
  · exact h1.afterPwm
  · split
    · exact h1.sdmEnabled.cmpGate
    · exact h1.sdmEnabled
  · split
    · exact KeptNext.nextOf (execTdacWrite_kept h1)
    · split
      · exact .ite h1.trkEnabled h1
      · split
        · exact h1.trkRoute
        · exact h1.hkaPower
  · split
    · exact KeptNext.nextOf (execParamWrite_kept h1.wr)
    · exact h1
  · exact .ite h1.chopRefs h1
  · exact .ite (KeptNext.nextOf (execCanInitClear_kept h1)) h1
  · exact .ite (KeptNext.nextOf (execCanInitClear_kept h1)) h1
  · exact .ite (Kept.ite (Kept.ite h1.portsSettle h1).elect (.ite h1.portsSettle h1)).gptpRoles
        (.ite (Kept.ite h1.portsSettle h1).elect (.ite h1.portsSettle h1))
  · exact h1

/-- The judgement of a stored register as a whole (R14 steps 4 and 5). -/
theorem Kept.joint {j : Joint} {a : Nat} {t : State} (h : Kept o s) (ht : Kept o t) :
    Kept o (match j with | .envelope => s.envelope a | .other c => s.raise c | .ok => t) := by
  cases j with
  | envelope => exact h.envelope
  | other c => exact h.raise
  | ok => exact ht

theorem Kept.store {a v} (h : Kept o s) : Kept o (s.store a v) := by
  conv in State.store => delta State.store
  exact .ite h (.ite h.envelope (.joint h (.ite h.wr.afterStore h.wr.afterStore.envelope)))

theorem Kept.storeCan {c a v} (h : Kept o s) : Kept o (s.storeCan c a v) :=
  have h1 : Kept o _ := .ite (KeptNext.nextOf (execCanInitSet_kept h)) h
  .ite (.ite h1.raise h1) (.ite h.raise h.store)

theorem Kept.storeReg {a v} (h : Kept o s) : Kept o (s.storeReg a v) := by
  unfold State.storeReg
  refine .ite h ?_
  split
  · exact h.storeCan
  · exact h.storeCan
  · split
    next t e => exact guarded_kept h t e
    next => exact h.store

theorem Kept.writeReg {env a v} (h : Kept o s) : Kept o (s.writeReg env a v) := by
  unfold State.writeReg
  refine .ite h ?_
  split
  next t e => exact command_kept h t e
  next => exact h.storeReg

theorem execRegisterWrite_kept {addr value env} (h : Kept o s) : KeptNext o (execRegisterWrite addr value env s) :=
  h.writeReg.next

/-! ## The functions of Machine/HostPort -/

theorem Kept.framing {b} (h : Kept o s) : Kept o (s.framing b) := h.bump.raise

theorem Kept.answer {data ok decode late} {s0 : State} (h1 : Kept o s) : Kept o (s0.answer s data ok decode late) :=
  h1.fresh.upd

theorem Kept.dropped {sent data c} (h : Kept o s) : Kept o (s.dropped sent data c) := by
  unfold State.dropped
  dsimp only
  split
  · exact h.upd.framing
  · exact h.bump.raise.answer
  · exact h.framing.answer
  · exact h.bump.wr.raise.answer
  · exact h

theorem Kept.writeWords {env addr} {l : List Word} (h : Kept o s) : Kept o (s.writeWords env addr l) := by
  induction l generalizing s addr with
  | nil => exact h
  | cons w l ih => exact .ite (ih h.writeReg) h

theorem Kept.hostWrite {sent copyDiffers env} (h : Kept o s) : Kept o (s.hostWrite sent copyDiffers env) := by
  unfold State.hostWrite
  dsimp only
  split
  · exact h.bumpWrap.agreeFix.writeWords.answer
  · exact h.dropped

theorem Kept.readWords {env addr} {l : List Bool} (h : Kept o s) : Kept o (s.readWords env addr l).2 := by
  induction l generalizing s addr with
  | nil => exact h
  | cons late l ih => exact ih h.readReg

theorem Kept.hostRead {sent late copyDiffers env} (h : Kept o s) : Kept o (s.hostRead sent late copyDiffers env) := by
  unfold State.hostRead
  dsimp only
  split
  · exact .ite h.bumpWrap.agreeFix.readWords.answer.bump.raise h.bumpWrap.agreeFix.readWords.answer
  · exact h.dropped

theorem Kept.transact {sent copyDiffers late extra env} (h : Kept o s) : Kept o (s.transact sent copyDiffers late extra env) := by
  unfold State.transact
  dsimp only
  split
  · exact h
  · split
    · exact h.upd.framing
    · exact .ite (.ite h.hostWrite.framing h.hostWrite)
          (.ite (.ite h.hostRead.framing h.hostRead) (.ite (.ite h.answer.framing h.answer) h.upd.framing))

theorem execHostWrite_kept {sent extra copyDiffers env} (h : Kept o s) :
    KeptNext o (execHostWrite sent extra copyDiffers env s) :=
  h.transact.next

theorem execHostRead_kept {sent late extra copyDiffers env} (h : Kept o s) :
    KeptNext o (execHostRead sent late extra copyDiffers env s) :=
  h.transact.next

theorem execHostStatus_kept {extra} (h : Kept o s) : KeptNext o (execHostStatus extra s) := h.transact.next

theorem execHostCsEarlyRise_kept (h : Kept o s) : KeptNext o (execHostCsEarlyRise s) := (Kept.ite h.upd.framing h).next

/-! ## The functions of Machine/Dispatch -/

/-- Every command answers a next state, with the queue as it was and the canonical form of what is stored not lost. -/
theorem exec_kept (i : Instr) (h : Kept o s) : KeptNext o (exec i s) :=
  match i with
  | .hostWrite .. => execHostWrite_kept h
  | .hostRead .. => execHostRead_kept h
  | .hostStatus .. => execHostStatus_kept h
  | .hostCsEarlyRise => execHostCsEarlyRise_kept h
  | .registerWrite .. => execRegisterWrite_kept h
  | .rootEpoch .. => execRootEpoch_kept h
  | .pllSwitch => execPllSwitch_kept h
  | .refLoss => execRefLoss_kept h
  | .holdoverLimit => execHoldoverLimit_kept h
  | .refReturn => execRefReturn_kept h
  | .pllBoth => execPllBoth_kept h
  | .bridgeToPll .. => execBridgeToPll_kept h
  | .powerOn => execPowerOn_kept h
  | .auxHigh .. => execAuxHigh_kept h
  | .auxLow .. => execAuxLow_kept h
  | .auxFail => execAuxFail_kept h
  | .holdupStart => execHoldupStart_kept h
  | .holdupEnd => execHoldupEnd_kept h
  | .holdupRecover => execHoldupRecover_kept h
  | .scrubPass .. => execScrubPass_kept h
  | .tileSwap .. => execTileSwap_kept h
  | .tileCompareRunEnd => execTileCompareRunEnd_kept h
  | .tileRepair => execTileRepair_kept h
  | .goldenReload .. => execGoldenReload_kept h
  | .readback => execReadback_kept h
  | .readbackDone .. => execReadbackDone_kept h
  | .envQuery .. => execEnvQuery_kept h
  | .sdmResult .. => execSdmResult_kept h
  | .streamStuck .. => execStreamStuck_kept h
  | .sdmCmpOutput .. => execSdmCmpOutput_kept h
  | .sdmResRead .. => execSdmResRead_kept h
  | .dclResult .. => execDclResult_kept h
  | .dclThresholdCross .. => execDclThresholdCross_kept h
  | .sdmSpareAssign .. => execSdmSpareAssign_kept h
  | .sdmSpareTakeover .. => execSdmSpareTakeover_kept h
  | .quadEdge .. => execQuadEdge_kept h
  | .illWindowEnd .. => execIllWindowEnd_kept h
  | .indexEvent .. => execIndexEvent_kept h
  | .speedZeroTimeout .. => execSpeedZeroTimeout_kept h
  | .hallEdge .. => execHallEdge_kept h
  | .resolverUpdate .. => execResolverUpdate_kept h
  | .resMonitor .. => execResMonitor_kept h
  | .resPhaseMeasure .. => execResPhaseMeasure_kept h
  | .serFrameStart .. => execSerFrameStart_kept h
  | .serFrameEnd .. => execSerFrameEnd_kept h
  | .serTimeout .. => execSerTimeout_kept h
  | .posAngleRead .. => execPosAngleRead_kept h
  | .wireFault .. => execWireFault_kept h
  | .wireRecover .. => execWireRecover_kept h
  | .posPreset .. => execPosPreset_kept h
  | .clearHomed .. => execClearHomed_kept h
  | .posClearCounters .. => execPosClearCounters_kept h
  | .taskTrigger .. => execTaskTrigger_kept h
  | .triggerReady .. => execTriggerReady_kept h
  | .taskDispatch .. => execTaskDispatch_kept h
  | .nop => execNop_kept h
  | .endTask => execEndTask_kept h
  | .br .. => execBr_kept h
  | .sig .. => execSig_kept h
  | .setb .. => execSetb_kept h
  | .sadd .. => execSadd_kept h
  | .ssub .. => execSsub_kept h
  | .smul .. => execSmul_kept h
  | .smac .. => execSmac_kept h
  | .smin .. => execSmin_kept h
  | .smax .. => execSmax_kept h
  | .sabs .. => execSabs_kept h
  | .sneg .. => execSneg_kept h
  | .smov .. => execSmov_kept h
  | .sldi .. => execSldi_kept h
  | .scmp .. => execScmp_kept h
  | .ssel .. => execSsel_kept h
  | .sclamp .. => execSclamp_kept h
  | .swrap .. => execSwrap_kept h
  | .sdiv .. => execSdiv_kept h
  | .ssqrt .. => execSsqrt_kept h
  | .ssincos .. => execSsincos_kept h
  | .satan2 .. => execSatan2_kept h
  | .vadd .. => execVadd_kept h
  | .vsub .. => execVsub_kept h
  | .vmul .. => execVmul_kept h
  | .vmac .. => execVmac_kept h
  | .vscl .. => execVscl_kept h
  | .vbcast .. => execVbcast_kept h
  | .vins .. => execVins_kept h
  | .vext .. => execVext_kept h
  | .vclamp .. => execVclamp_kept h
  | .vint .. => execVint_kept h
  | .ipre .. => execIpre_kept h
  | .vdot .. => execVdot_kept h
  | .vld .. => execVld_kept h
  | .vst .. => execVst_kept h
  | .mvm .. => execMvm_kept h
  | .mvma .. => execMvma_kept h
  | .vmov .. => execVmov_kept h
  | .inPort .. => execInPort_kept h
  | .inv .. => execInv_kept h
  | .outPort .. => execOutPort_kept h
  | .outv .. => execOutv_kept h
  | .ldp .. => execLdp_kept h
  | .ldpv .. => execLdpv_kept h
  | .taskAbort => execTaskAbort_kept h
  | .carvePreset .. => execCarvePreset_kept h
  | .carveClearStats .. => execCarveClearStats_kept h
  | .paramWrite .. => execParamWrite_kept h
  | .carveInRead .. => execCarveInRead_kept h
  | .carveEccSweep .. => execCarveEccSweep_kept h
  | .profStep .. => execProfStep_kept h
  | .profHold .. => execProfHold_kept h
  | .profResume .. => execProfResume_kept h
  | .presetInput .. => execPresetInput_kept h
  | .profValueRead .. => execProfValueRead_kept h
  | .slalomJob .. => execSlalomJob_kept h
  | .rotStart .. => execRotStart_kept h
  | .rotWindowEnd .. => execRotWindowEnd_kept h
  | .rotResultRead .. => execRotResultRead_kept h
  | .pwmBoundary .. => execPwmBoundary_kept h
  | .pwmMid .. => execPwmMid_kept h
  | .pwmCompareEvent .. => execPwmCompareEvent_kept h
  | .commitDeadline .. => execCommitDeadline_kept h
  | .pwmCommit .. => execPwmCommit_kept h
  | .pwmLoadall => execPwmLoadall_kept h
  | .pwmSync => execPwmSync_kept h
  | .pwmClearStats => execPwmClearStats_kept h
  | .syncIssue => execSyncIssue_kept h
  | .deadTimeEnd .. => execDeadTimeEnd_kept h
  | .minpulseStretchEnd .. => execMinpulseStretchEnd_kept h
  | .interlockRelease .. => execInterlockRelease_kept h
  | .ilockWindowEnd => execIlockWindowEnd_kept h
  | .tripRequest => execTripRequest_kept h
  | .forcedTurnOn .. => execForcedTurnOn_kept h
  | .tripRelease .. => execTripRelease_kept h
  | .tripDeassert .. => execTripDeassert_kept h
  | .tripinFilterDone .. => execTripinFilterDone_kept h
  | .blankWindowEnd .. => execBlankWindowEnd_kept h
  | .tripinInject .. => execTripinInject_kept h
  | .tripinInjectEnd .. => execTripinInjectEnd_kept h
  | .chopRequestRelease .. => execChopRequestRelease_kept h
  | .chopVerify .. => execChopVerify_kept h
  | .downlinkFrame .. => execDownlinkFrame_kept h
  | .uplinkFrame .. => execUplinkFrame_kept h
  | .linkCrcWindowEnd .. => execLinkCrcWindowEnd_kept h
  | .linkLoss .. => execLinkLoss_kept h
  | .holdoff .. => execHoldoff_kept h
  | .linkAutoRetrain .. => execLinkAutoRetrain_kept h
  | .skewCalPass .. => execSkewCalPass_kept h
  | .edgeSelftest .. => execEdgeSelftest_kept h
  | .edgeRetrain .. => execEdgeRetrain_kept h
  | .edgePark .. => execEdgePark_kept h
  | .edgeUnpark .. => execEdgeUnpark_kept h
  | .edgeClearStats .. => execEdgeClearStats_kept h
  | .groomerPark .. => execGroomerPark_kept h
  | .edgeInject .. => execEdgeInject_kept h
  | .edgeMeasUpdate .. => execEdgeMeasUpdate_kept h
  | .measRead .. => execMeasRead_kept h
  | .supUv .. => execSupUv_kept h
  | .gateUv .. => execGateUv_kept h
  | .outFault .. => execOutFault_kept h
  | .scHard .. => execScHard_kept h
  | .oc .. => execOc_kept h
  | .desat .. => execDesat_kept h
  | .protectionBlankEnd .. => execProtectionBlankEnd_kept h
  | .softOffPhase1End .. => execSoftOffPhase1End_kept h
  | .stoTimeExpiry .. => execStoTimeExpiry_kept h
  | .softOffEnd .. => execSoftOffEnd_kept h
  | .protectionFlag .. => execProtectionFlag_kept h
  | .protectionHoldRelease .. => execProtectionHoldRelease_kept h
  | .selftestStep .. => execSelftestStep_kept h
  | .arm .. => execArm_kept h
  | .start .. => execStart_kept h
  | .stop .. => execStop_kept h
  | .resume .. => execResume_kept h
  | .disarm .. => execDisarm_kept h
  | .recover .. => execRecover_kept h
  | .restart .. => execRestart_kept h
  | .charge .. => execCharge_kept h
  | .discharge .. => execDischarge_kept h
  | .catchDeadline .. => execCatchDeadline_kept h
  | .catchEpisodeEnd .. => execCatchEpisodeEnd_kept h
  | .standstill .. => execStandstill_kept h
  | .glideTimeout .. => execGlideTimeout_kept h
  | .ovTrip2Release => execOvTrip2Release_kept h
  | .dischargePhase1Timeout .. => execDischargePhase1Timeout_kept h
  | .dischargePhase2Timeout .. => execDischargePhase2Timeout_kept h
  | .sourceOk => execSourceOk_kept h
  | .sourceLost => execSourceLost_kept h
  | .ctrFbChange .. => execCtrFbChange_kept h
  | .parkInChange .. => execParkInChange_kept h
  | .closeTimeExpiry => execCloseTimeExpiry_kept h
  | .settleExpiry => execSettleExpiry_kept h
  | .rampTimeout => execRampTimeout_kept h
  | .openTimeExpiry => execOpenTimeExpiry_kept h
  | .laneFault .. => execLaneFault_kept h
  | .triadWarmReset => execTriadWarmReset_kept h
  | .sweepEnd => execSweepEnd_kept h
  | .laneRejoin .. => execLaneRejoin_kept h
  | .resyncTimeout => execResyncTimeout_kept h
  | .triadInject .. => execTriadInject_kept h
  | .triadClearStats => execTriadClearStats_kept h
  | .causeClassify => execCauseClassify_kept h
  | .escWindowEnd .. => execEscWindowEnd_kept h
  | .clearF4 => execClearF4_kept h
  | .clearFirst => execClearFirst_kept h
  | .frictionOn => execFrictionOn_kept h
  | .frictionOff => execFrictionOff_kept h
  | .wdogKick .. => execWdogKick_kept h
  | .hostWdog => execHostWdog_kept h
  | .taskStall .. => execTaskStall_kept h
  | .supWdog => execSupWdog_kept h
  | .supWdogReset => execSupWdogReset_kept h
  | .patrolInject .. => execPatrolInject_kept h
  | .injectWindowEnd .. => execInjectWindowEnd_kept h
  | .injectTimeout .. => execInjectTimeout_kept h
  | .clsQuery .. => execClsQuery_kept h
  | .patrolFirstRead => execPatrolFirstRead_kept h
  | .hkaTimerTick .. => execHkaTimerTick_kept h
  | .hkaPwmTrigger => execHkaPwmTrigger_kept h
  | .hkaStart .. => execHkaStart_kept h
  | .hkaClearStats => execHkaClearStats_kept h
  | .hkaDelayEnd .. => execHkaDelayEnd_kept h
  | .hkaConversionEnd .. => execHkaConversionEnd_kept h
  | .hkaCheckEnd .. => execHkaCheckEnd_kept h
  | .checkStarved .. => execCheckStarved_kept h
  | .hkaIdlePowerDown .. => execHkaIdlePowerDown_kept h
  | .trackerWindowEnd .. => execTrackerWindowEnd_kept h
  | .trackerSumRead .. => execTrackerSumRead_kept h
  | .tdacWrite .. => execTdacWrite_kept h
  | .hkaInject .. => execHkaInject_kept h
  | .hkaSpareTakeover => execHkaSpareTakeover_kept h
  | .auxMeasure .. => execAuxMeasure_kept h
  | .railExcursion .. => execRailExcursion_kept h
  | .midCmd .. => execMidCmd_kept h
  | .midDone .. => execMidDone_kept h
  | .midAbort => execMidAbort_kept h
  | .cable .. => execCable_kept h
  | .cableLegDone .. => execCableLegDone_kept h
  | .peers => execPeers_kept h
  | .probeAbort => execProbeAbort_kept h
  | .probeInject .. => execProbeInject_kept h
  | .groomBist .. => execGroomBist_kept h
  | .groomBistDone .. => execGroomBistDone_kept h
  | .returnLane .. => execReturnLane_kept h
  | .resetBaseline .. => execResetBaseline_kept h
  | .groomInject .. => execGroomInject_kept h
  | .rowReplaced .. => execRowReplaced_kept h
  | .sectorMarked .. => execSectorMarked_kept h
  | .pllSpareTestEnd .. => execPllSpareTestEnd_kept h
  | .groomRecordWrite .. => execGroomRecordWrite_kept h
  | .ethSpareBringIn => execEthSpareBringIn_kept h
  | .resetNLow .. => execResetNLow_kept h
  | .resetAssert .. => execResetAssert_kept h
  | .resetRelease => execResetRelease_kept h
  | .rstWarm .. => execRstWarm_kept h
  | .rstSystem .. => execRstSystem_kept h
  | .rstBlock .. => execRstBlock_kept h
  | .blockDone => execBlockDone_kept h
  | .coldLift .. => execColdLift_kept h
  | .bistConditionRecheck .. => execBistConditionRecheck_kept h
  | .warmLift .. => execWarmLift_kept h
  | .resetHoldEstimateTimeout .. => execResetHoldEstimateTimeout_kept h
  | .rstLogSelect .. => execRstLogSelect_kept h
  | .ppsInEdge .. => execPpsInEdge_kept h
  | .servoMeasurement .. => execServoMeasurement_kept h
  | .referenceLoss => execReferenceLoss_kept h
  | .ppsOutPulse => execPpsOutPulse_kept h
  | .timeSet => execTimeSet_kept h
  | .syncArm => execSyncArm_kept h
  | .syncCancel => execSyncCancel_kept h
  | .timeSyncFire => execTimeSyncFire_kept h
  | .timeNowRead .. => execTimeNowRead_kept h
  | .ppsInRead => execPpsInRead_kept h
  | .timeInject .. => execTimeInject_kept h
  | .portLinkChange .. => execPortLinkChange_kept h
  | .switchFrame .. => execSwitchFrame_kept h
  | .gptpFrame .. => execGptpFrame_kept h
  | .qbvCommit .. => execQbvCommit_kept h
  | .qbvBankSwitch .. => execQbvBankSwitch_kept h
  | .beaconSend => execBeaconSend_kept h
  | .beaconReceive .. => execBeaconReceive_kept h
  | .masterLost => execMasterLost_kept h
  | .cycleStart .. => execCycleStart_kept h
  | .cycleReceive .. => execCycleReceive_kept h
  | .reportSend => execReportSend_kept h
  | .reportDeadline => execReportDeadline_kept h
  | .reportReceive .. => execReportReceive_kept h
  | .delayReqSend .. => execDelayReqSend_kept h
  | .delayReqReceive .. => execDelayReqReceive_kept h
  | .delayRespReceive .. => execDelayRespReceive_kept h
  | .schedule => execSchedule_kept h
  | .schedCancel => execSchedCancel_kept h
  | .scheduleReceive .. => execScheduleReceive_kept h
  | .capsRequest => execCapsRequest_kept h
  | .capsSend => execCapsSend_kept h
  | .capsReceive .. => execCapsReceive_kept h
  | .folisAggRead => execFolisAggRead_kept h
  | .netInject .. => execNetInject_kept h
  | .canInitClear .. => execCanInitClear_kept h
  | .canInitSet .. => execCanInitSet_kept h
  | .canConfigEntry .. => execCanConfigEntry_kept h
  | .canIntegrationDone .. => execCanIntegrationDone_kept h
  | .canTxReq .. => execCanTxReq_kept h
  | .canTxAbort .. => execCanTxAbort_kept h
  | .canTxSelect .. => execCanTxSelect_kept h
  | .txDone .. => execTxDone_kept h
  | .canTxError .. => execCanTxError_kept h
  | .canRestart .. => execCanRestart_kept h
  | .recovered .. => execRecovered_kept h
  | .canClearStats .. => execCanClearStats_kept h
  | .canFrameReceived .. => execCanFrameReceived_kept h
  | .canRxRead .. => execCanRxRead_kept h
  | .canRxPop .. => execCanRxPop_kept h
  | .canInject .. => execCanInject_kept h
  | .causeClear .. => execCauseClear_kept h
  | .intInject .. => execIntInject_kept h
  | .irqEdgeReleaseEnd => execIrqEdgeReleaseEnd_kept h
  | .challenge => execChallenge_kept h
  | .auth => execAuth_kept h
  | .enrol => execEnrol_kept h
  | .ownerNext => execOwnerNext_kept h
  | .rotate => execRotate_kept h
  | .transfer => execTransfer_kept h
  | .releaseToken => execReleaseToken_kept h
  | .lockToken => execLockToken_kept h
  | .unlockToken => execUnlockToken_kept h
  | .ckLoad => execCkLoad_kept h
  | .floor => execFloor_kept h
  | .testToken => execTestToken_kept h
  | .debug => execDebug_kept h
  | .attest => execAttest_kept h
  | .readCert => execReadCert_kept h
  | .readKey .. => execReadKey_kept h
  | .closeTest => execCloseTest_kept h
  | .closeDebug => execCloseDebug_kept h
  | .nonceExpiry => execNonceExpiry_kept h
  | .testSessionExpiry => execTestSessionExpiry_kept h
  | .debugSessionExpiry => execDebugSessionExpiry_kept h
  | .storeCheck .. => execStoreCheck_kept h
  | .trngFail => execTrngFail_kept h
  | .trngRecover => execTrngRecover_kept h
  | .randomRead => execRandomRead_kept h
  | .himetInject .. => execHimetInject_kept h
  | .usbAttach .. => execUsbAttach_kept h
  | .usbDetach => execUsbDetach_kept h
  | .infoOp .. => execInfoOp_kept h
  | .beginOp .. => execBeginOp_kept h
  | .dataOp .. => execDataOp_kept h
  | .svcEnd .. => execSvcEnd_kept h
  | .svcAbort .. => execSvcAbort_kept h
  | .confirm .. => execConfirm_kept h
  | .rollback .. => execRollback_kept h
  | .armLocal .. => execArmLocal_kept h
  | .svcCancel .. => execSvcCancel_kept h
  | .svcStatus .. => execSvcStatus_kept h
  | .activationInstant => execActivationInstant_kept h
  | .postponedSwap => execPostponedSwap_kept h
  | .migrated => execMigrated_kept h
  | .trialStartSuccess => execTrialStartSuccess_kept h
  | .autoRollback => execAutoRollback_kept h
  | .streamChange .. => execStreamChange_kept h
  | .receiveError .. => execReceiveError_kept h
  | .retrainEnd .. => execRetrainEnd_kept h
  | .selftestTimeout .. => execSelftestTimeout_kept h
  | .himetOperationEnd .. => execHimetOperationEnd_kept h
  | .gptpTimeout .. => execGptpTimeout_kept h
  | .gptpMessageSend .. => execGptpMessageSend_kept h
  | .ppsOutFall => execPpsOutFall_kept h
  | .debugLinkRise => execDebugLinkRise_kept h
  | .supervisorReport => execSupervisorReport_kept h

/-- A step of a state with a command at the front takes it from the queue, and keeps the rest and the canonical form. -/
theorem step_kept_of_cons {c rest} (hp : s.pending = c :: rest) : KeptNext { s with pending := rest } (step s) := by
  simp only [step, hp]
  exact exec_kept c (.refl _)

/-- A step of a state whose queue is empty keeps queue and canonical form. -/
theorem step_kept_of_nil (hp : s.pending = []) : KeptNext s (step s) := by
  simp only [step, hp]
  cases s.fetched with
  | some c => exact exec_kept c (.refl s)
  | none => exact (Kept.refl s).next

theorem KeptNext.stored_of_next {r : Host.Outcome State Fault Refusal} {t : State} (h : KeptNext o r) (e : r = .next t)
    (ho : o.stored) : t.stored := by
  obtain ⟨u, hu, hk⟩ := h
  obtain rfl : u = t := Host.Outcome.next.inj (hu.symm.trans e)
  exact hk.stored ho

end Sys2Proof.Machine

/-- Settles O53: `exec_kept` for the command that the step takes. -/
theorem everyStepKeepsCanonicalForm : Obligations.EveryStepKeepsCanonicalForm := by
  unfold Obligations.EveryStepKeepsCanonicalForm
  intro s t hs ht
  cases hp : s.pending with
  | nil => exact (Sys2Proof.Machine.step_kept_of_nil hp).stored_of_next ht hs
  | cons c rest => exact (Sys2Proof.Machine.step_kept_of_cons hp).stored_of_next ht hs
end

section
/-! What a step takes up: the three arms of `step`, and the word at the address of a running task. -/

namespace Sys2Proof.Machine

theorem step_of_cons (s : State) (c : Instr) (rest : List Instr) :
    step { s with pending := c :: rest } = exec c { s with pending := rest } := rfl

theorem step_of_fetched {s : State} {c : Instr} (hp : s.pending = []) (hf : s.fetched = some c) : step s = exec c s := by
  simp only [step, hp, hf]

theorem step_of_idle {s : State} (hp : s.pending = []) (hf : s.fetched = none) : step s = .next s := by
  simp only [step, hp, hf]

theorem fetched_of_no_task {s : State} (h : s.carve.running = none) : s.fetched = none := by
  simp [State.fetched, h]

theorem fetched_of_word {s : State} {t : Fin 8} {w : BitVec 64} (h : s.carve.running = some t)
    (hw : s.carve.prog[s.carve.pc]? = some w) : s.fetched = carveDecode w := by
  simp [State.fetched, h, hw]

end Sys2Proof.Machine

section
open Sys2Proof.Machine

/-- Settles O51: the three arms of `step`, and what the address of the running task spells. -/
theorem stepRunsTheFrontCommand : Obligations.StepRunsTheFrontCommand := by
  unfold Obligations.StepRunsTheFrontCommand
  intro s rest
  exact ⟨fun c => step_of_cons s c rest, fun _ => step_of_fetched, step_of_idle, fetched_of_no_task, fun _ _ => fetched_of_word⟩
end
end

section
/-! What the contacts show of a module that does not run, and the state before power (R8, R41, R49, R50, R58). -/

namespace Sys2Proof.Machine

section
variable {s : State}

theorem irqAsserted_of_not_run (h : s.life ≠ .run) : s.irqAsserted = false := by
  simp [State.irqAsserted, h]

theorem safeNHigh_of_not_run (h : s.life ≠ .run) : s.safeNHigh = false := by
  simp [State.safeNHigh, h]

theorem frictionContact_of_not_run (h : s.life ≠ .run) : s.frictionContact = true := by
  simp [State.frictionContact, h]

theorem safeNContact_of_not_run (h : s.life ≠ .run) : s.safeNContact = .low := by
  simp [State.safeNContact, safeNHigh_of_not_run h]

theorem frictionReqContact_of_not_run (h : s.life ≠ .run) : s.frictionReqContact = .released := by
  simp [State.frictionReqContact, frictionContact_of_not_run h]

theorem irqNContact_of_not_run (h : s.life ≠ .run) : s.irqNContact = .released := by
  simp [State.irqNContact, irqAsserted_of_not_run h]

theorem canTxContact_of_not_run (h : s.life ≠ .run) (c : Fin 2) : s.canTxContact c = .pullUp := by
  simp [State.canTxContact, h]

theorem ppsOutContact_of_not_run (h : s.life ≠ .run) : s.ppsOutContact = .pullUp := by
  simp [State.ppsOutContact, h]

theorem refOutContact_of_stage_lt (h : s.rst.stage < 4) : s.refOutContact = .pullUp := by
  simp [State.refOutContact, h]

theorem gpioContact_of_stage_lt (h : s.rst.stage < 5) (k : Fin 16) : s.gpioContact k = .pullUp :=
  if_neg fun hc => absurd h (Nat.not_lt.mpr hc.1)

theorem gateContact_of_unpowered {n : Fin 64} (h : (s.edge n).powered = false) : s.gateContact n = .kelvin := by
  simp [State.gateContact, h]

end

theorem reset_life : State.reset.life = .noSupply := rfl

theorem reset_life_ne_run : State.reset.life ≠ .run := by decide

theorem reset_stage : State.reset.rst.stage = 0 := rfl

theorem reset_rd (a : Nat) : State.reset.rd a = resetOf a := rfl

theorem reset_slot (i : Fin 4) : State.reset.slot i = {} := by
  revert i; decide +kernel

theorem reset_leg (n : Fin 32) : State.reset.leg n = {} := by
  revert n; decide +kernel

theorem reset_edge (n : Fin 64) : State.reset.edge n = {} := by
  revert n; decide +kernel

theorem reset_timeValid : State.reset.flag Reg.TIME.STATUS.VALID = false := by decide +kernel

theorem reset_stored : State.reset.stored := ⟨cellWf_nil _, cellWf_nil _, cellWf_nil _⟩

end Sys2Proof.Machine

section
open Sys2Proof.Machine

/-- Settles O52: the contacts show a module that does not run, at stage 0, with its channels unpowered. -/
theorem resetLeaves : Obligations.ResetLeaves := by
  unfold Obligations.ResetLeaves
  have hl := reset_life_ne_run
  refine ⟨reset_rd, fun i => ?_, fun n => ?_, reset_life, rfl, rfl, rfl, reset_timeValid, safeNHigh_of_not_run hl,
    frictionContact_of_not_run hl, irqAsserted_of_not_run hl, rfl, reset_stored, safeNContact_of_not_run hl,
    frictionReqContact_of_not_run hl, irqNContact_of_not_run hl, refOutContact_of_stage_lt (by simp [reset_stage]),
    ppsOutContact_of_not_run hl, fun n => gateContact_of_unpowered ?_, canTxContact_of_not_run hl,
    gpioContact_of_stage_lt (by simp [reset_stage])⟩
  · rw [reset_slot]
  · rw [reset_leg]; exact ⟨rfl, rfl, rfl⟩
  · rw [reset_edge]
end
end

section
/-! A refused drive command: what `driveDeny` shows and leaves, and when each command of a slot comes to it (R14, R307). -/

namespace Sys2Proof.Machine

variable {s : State} {i : Fin 4}

theorem driveStatus_ne_cause (i : Fin 4) (g : Nat) :
    Reg.DRIVE.SLOT.CMD_STATUS.addr i.val ≠ Reg.INT.GRP.CAUSE.addr g := by
  simp only [Reg.DRIVE.SLOT.CMD_STATUS.addr, Reg.INT.GRP.CAUSE.addr]; omega

theorem causeSet_setIf_same {b : Bool} {c : Cause} (h : c.bit < 32) (hb : b = true) : (s.setIf b c).causeSet c = true := by
  simp only [State.setIf, hb, if_true]
  exact State.causeSet_raise s c h

theorem slotLines_raise (c : Cause) : (s.raise c).trip.slotLines = s.trip.slotLines := by
  unfold State.raise State.setCause State.pulseTrip
  split
  · split <;> simp
  · simp

theorem slotLines_setIf (b : Bool) (c : Cause) : (s.setIf b c).trip.slotLines = s.trip.slotLines := by
  unfold State.setIf
  split
  · exact slotLines_raise c
  · rfl

theorem driveRefused_driveDeny : s.driveRefused (s.driveDeny i) i := by
  unfold State.driveRefused State.driveDeny
  refine ⟨?_, ?_, ?_, ?_, ?_, ?_⟩
  · rw [State.get_setIf _ _ _ _ (driveStatus_ne_cause i 45)]
    exact State.get_deny_code s _ _ (driveStatus_ne_cause i _)
  · exact State.causeSet_setIf_mono _ _ _ _ (State.causeSet_deny s _ _ (show 13 < 32 by decide)) (show 13 < 32 by decide)
  · rw [State.setIf_slots, State.deny_slots]
  · rw [State.setIf_legs, State.deny_legs]
  · rw [slotLines_setIf, State.deny, slotLines_raise, State.status_trip]
  · rw [State.setIf_edges, State.deny_edges]

theorem causeSet_rstDenied_driveDeny (h : s.trip.resetHold.getLsbD i.val = true) : (s.driveDeny i).causeSet ⟨45, 5⟩ = true :=
  causeSet_setIf_same (by decide) h

/-- A drive command is refused where what its row asks for does not hold, or where the slot takes no command. -/
theorem driveCmd_refused {p : Prop} {ok : Bool} {act : State → State} (hp : ok = true → p)
    (h : ¬ p ∨ s.commandable i = false) : s.driveCmd i ok act = .next (s.driveDeny i) := by
  have hc : (ok && !s.driveHeld && !s.trip.resetHold.getLsbD i.val && !s.probed i) = false := by
    rw [Bool.eq_false_iff]
    intro hok
    obtain ⟨⟨⟨hok, hheld⟩, hrst⟩, hprobe⟩ : ((ok = true ∧ _) ∧ _) ∧ _ := by simpa only [Bool.and_eq_true] using hok
    have hcmd : s.commandable i = true := by rw [State.commandable, hheld, hrst, hprobe]; rfl
    exact h.elim (fun h => h (hp hok)) fun h => Bool.false_ne_true (h.symm.trans hcmd)
  rw [State.driveCmd, hc]
  rfl

theorem execArm_refused (h : ¬ ((s.slot i).judged.resting = true ∧ s.courseActive = true ∧ (s.slot i).above = false ∧
    s.hardCause i = false ∧ s.driveBlocked = false) ∨ s.commandable i = false) :
    execArm i s = .next (s.driveDeny i) := by
  unfold execArm
  dsimp only
  refine driveCmd_refused (fun hok => ?_) h
  simpa [and_assoc] using hok

theorem execStart_refused (h : ¬ ((s.slot i).judged = .armed ∧ s.liveBusy = false ∧ s.swapping = false) ∨
    s.commandable i = false) : execStart i s = .next (s.driveDeny i) := by
  unfold execStart
  refine driveCmd_refused (fun hok => ?_) h
  simpa [and_assoc] using hok

theorem execStop_refused (h : (s.slot i).judged ≠ .run ∧ (s.slot i).judged ≠ .charge ∨ s.commandable i = false) :
    execStop i s = .next (s.driveDeny i) := by
  unfold execStop
  split
  · rename_i hj; exact driveCmd_refused (fun _ => trivial) (.inr (h.resolve_left fun h => h.1 hj))
  · rename_i hj; exact driveCmd_refused (fun _ => trivial) (.inr (h.resolve_left fun h => h.2 hj))
  · exact driveCmd_refused Bool.false_ne_true (.inl id)

theorem execResume_refused (h : ¬ ((s.slot i).judged = .glide ∧ (s.slot i).reason = .host) ∨ s.commandable i = false) :
    execResume i s = .next (s.driveDeny i) := by
  unfold execResume
  dsimp only
  refine driveCmd_refused (fun hok => ?_) h
  simpa [and_assoc] using hok

theorem execDisarm_refused (h : ¬ ((s.slot i).judged = .armed ∨ (s.slot i).judged = .stopped) ∨ s.commandable i = false) :
    execDisarm i s = .next (s.driveDeny i) := by
  unfold execDisarm
  dsimp only
  refine driveCmd_refused (fun hok => ?_) h
  simpa [and_assoc] using hok

theorem execRecover_refused (h : ¬ ((s.slot i).judged = .safe ∧ (s.slot i).above = false ∧ s.hardCause i = false ∧
    s.patrol.f4 = false) ∨ s.commandable i = false) : execRecover i s = .next (s.driveDeny i) := by
  unfold execRecover
  dsimp only
  refine driveCmd_refused (fun hok => ?_) h
  simpa [and_assoc] using hok

theorem execRestart_refused (h : ¬ ((s.slot i).judged = .safe ∧ s.get Reg.PWM.TRIP.FAILSIDE.SIDES / 4 ^ i.val % 4 = 0 ∧
    s.trip.ov = false ∧ s.phaseHeld i = false ∧ s.hardCause i = false ∧ s.patrol.f4 = false) ∨ s.commandable i = false) :
    execRestart i s = .next (s.driveDeny i) := by
  unfold execRestart
  refine driveCmd_refused (fun hok => ?_) h
  simpa [and_assoc] using hok

theorem execDischarge_refused (h : ¬ (((s.slot i).judged.resting = true ∨ (s.slot i).judged = .armed) ∧
    (∀ k : Fin 4, k ≠ i → (s.slot k).state.resting = true) ∧ s.slow i = true ∧ s.driveBlocked = false) ∨
    s.commandable i = false) : execDischarge i s = .next (s.driveDeny i) := by
  unfold execDischarge
  dsimp only
  refine driveCmd_refused (fun hok => ?_) h
  simpa [and_assoc, or_iff_not_imp_left] using hok

theorem execCharge_other_refused (h : i ≠ 0) : execCharge i s = .next (s.driveDeny i) := by
  unfold execCharge
  rw [if_pos h]
  exact driveCmd_refused Bool.false_ne_true (.inl id)

theorem execCharge_denied (h : s.chargeDeny ≠ 0) :
    execCharge 0 s = .next ((s.put Reg.DRIVE.CHG.STATUS.DENY s.chargeDeny).driveDeny 0) := by
  unfold execCharge
  simp only [ne_eq, not_true_eq_false, if_false, h, decide_false, Bool.false_and]
  exact driveCmd_refused Bool.false_ne_true (.inl id)

theorem execCharge_refused (hd : s.chargeDeny = 0)
    (h : ¬ ((s.slot 0).judged = .armed ∧ s.driveBlocked = false) ∨ s.commandable 0 = false) :
    execCharge 0 s = .next (s.driveDeny 0) := by
  unfold execCharge
  simp only [ne_eq, not_true_eq_false, if_false, hd, if_true]
  refine driveCmd_refused (fun hok => ?_) h
  simpa using hok

theorem chargeDeny_le : s.chargeDeny ≤ 7 := by
  unfold State.chargeDeny
  dsimp only
  split_ifs <;> decide

theorem get_deny_driveDeny :
    ((s.put Reg.DRIVE.CHG.STATUS.DENY s.chargeDeny).driveDeny 0).get Reg.DRIVE.CHG.STATUS.DENY = s.chargeDeny := by
  have hle : s.chargeDeny < 2 ^ Reg.DRIVE.CHG.STATUS.DENY.width := Nat.lt_of_le_of_lt chargeDeny_le (by decide)
  unfold State.driveDeny
  rw [State.get_setIf _ _ _ _ (by decide), State.get_deny _ _ _ _ (by decide) (by decide), State.get_put_same _ _ _ (by decide),
    Nat.mod_eq_of_lt hle]

/-- The reason noted in DENY moves nothing that a refusal leaves as it was. -/
theorem runs_driveDeny {c : Instr} {t : State} (h : exec c s = .next (t.driveDeny i))
    (ht : t.slots = s.slots ∧ t.legs = s.legs ∧ t.trip = s.trip ∧ t.edges = s.edges) :
    Runs c s (fun u => s.driveRefused u i ∧ (s.trip.resetHold.getLsbD i.val = true → u.causeSet ⟨45, 5⟩ = true)) := by
  obtain ⟨hslots, hlegs, htrip, hedges⟩ := ht
  obtain ⟨hcode, hcause, hr⟩ := driveRefused_driveDeny (s := t) (i := i)
  rw [hslots, hlegs, htrip, hedges] at hr
  exact ⟨_, h, ⟨hcode, hcause, hr⟩, fun hb => causeSet_rstDenied_driveDeny (htrip ▸ hb)⟩

theorem runs_charge_refused (h : ¬ (i = 0 ∧ s.chargeDeny = 0 ∧ (s.slot i).judged = .armed ∧ s.driveBlocked = false) ∨
    s.commandable i = false) :
    Runs (.charge i) s (fun t => s.driveRefused t i ∧ (s.trip.resetHold.getLsbD i.val = true → t.causeSet ⟨45, 5⟩ = true)) := by
  by_cases hi : i = 0
  · subst hi
    by_cases hd : s.chargeDeny = 0
    · exact runs_driveDeny (execCharge_refused hd (h.imp_left fun h hp => h ⟨rfl, hd, hp⟩)) ⟨rfl, rfl, rfl, rfl⟩
    · exact runs_driveDeny (execCharge_denied hd) ⟨rfl, rfl, rfl, rfl⟩
  · exact runs_driveDeny (execCharge_other_refused hi) ⟨rfl, rfl, rfl, rfl⟩

end Sys2Proof.Machine

section
open Sys2Proof.Machine

/-- Settles O28: each command comes to `driveDeny`, CHARGE with its reason in DENY. -/
theorem driveCommandsRefused : Obligations.DriveCommandsRefused := by
  unfold Obligations.DriveCommandsRefused
  refine ⟨fun s i c => ?_, fun s hd => ⟨_, execCharge_denied hd, get_deny_driveDeny⟩⟩
  extract_lets x clear
  have same : s.slots = s.slots ∧ s.legs = s.legs ∧ s.trip = s.trip ∧ s.edges = s.edges := ⟨rfl, rfl, rfl, rfl⟩
  rintro (⟨rfl, h⟩ | ⟨rfl, h⟩ | ⟨rfl, h⟩ | ⟨rfl, h⟩ | ⟨rfl, h⟩ | ⟨rfl, h⟩ | ⟨rfl, h⟩ | ⟨rfl, h⟩ | ⟨rfl, h⟩ |
    ⟨h, rfl | rfl | rfl | rfl | rfl | rfl | rfl | rfl | rfl⟩)
  · exact runs_driveDeny (execArm_refused (.inl h)) same
  · exact runs_driveDeny (execStart_refused (.inl h)) same
  · exact runs_driveDeny (execStop_refused (.inl h)) same
  · exact runs_driveDeny (execResume_refused (.inl h)) same
  · exact runs_driveDeny (execDisarm_refused (.inl (not_or.mpr h))) same
  · exact runs_driveDeny (execRecover_refused (.inl h)) same
  · exact runs_driveDeny (execRestart_refused (.inl h)) same
  · exact runs_charge_refused (.inl h)
  · exact runs_driveDeny (execDischarge_refused (.inl h)) same
  · exact runs_driveDeny (execArm_refused (.inr h)) same
  · exact runs_driveDeny (execStart_refused (.inr h)) same
  · exact runs_driveDeny (execStop_refused (.inr h)) same
  · exact runs_driveDeny (execResume_refused (.inr h)) same
  · exact runs_driveDeny (execDisarm_refused (.inr h)) same
  · exact runs_driveDeny (execRecover_refused (.inr h)) same
  · exact runs_driveDeny (execRestart_refused (.inr h)) same
  · exact runs_charge_refused (.inr h)
  · exact runs_driveDeny (execDischarge_refused (.inr h)) same
end
end

section
/-! What a reset of each reach leaves (R7, R8, R269, R455, R458, R461, R471): each part of an assertion changes only the fields
that its lemma names. -/

namespace Sys2Proof.Machine

variable (s : State)

theorem exists_resetRegs (w : Nat) (inBlock : Nat → Bool) : ∃ r, s.resetRegs w inBlock = { s with regs := r } := by
  unfold State.resetRegs
  refine List.foldlRecOn (motive := fun t : State => ∃ r, t = { s with regs := r }) _ _ ⟨s.regs, rfl⟩ fun t ht p _ => ?_
  obtain ⟨r, rfl⟩ := ht
  split
  · exact ⟨_, rfl⟩
  · exact ⟨r, rfl⟩

theorem exists_abandon_disarm : ∃ v, s.abandon.disarm = { s with svc := v } := by
  unfold State.abandon
  split
  · exact ⟨_, rfl⟩
  · exact ⟨_, rfl⟩

theorem exists_edgeTo (c : Nat) : ∃ x, s.edgeTo c = { s with clk := x } := by
  unfold State.edgeTo
  split
  · exact ⟨_, rfl⟩
  · exact ⟨_, rfl⟩

theorem exists_assertTime : ∃ f x, s.assertTime.2 = { s with freeCount := f, clk := x } := by
  unfold State.assertTime
  split
  · obtain ⟨x, hx⟩ := exists_edgeTo s.fresh.2 (s.clk.edge + s.fresh.1.toNat % (4500 - s.clk.edge))
    exact ⟨_, x, hx⟩
  · exact ⟨_, _, rfl⟩

theorem exists_warmOv : ∃ l, s.warmOv = { s with legs := l } := by
  unfold State.warmOv
  refine List.foldlRecOn (motive := fun t : State => ∃ l, t = { s with legs := l }) _ _ ⟨s.legs, rfl⟩ fun t ht n _ => ?_
  obtain ⟨l, rfl⟩ := ht
  dsimp only
  split
  · exact ⟨_, rfl⟩
  · exact ⟨l, rfl⟩

/-- W0 fixes patterns, copies OV_TRIP2 and moves nothing else; with no crossing the pattern of a leg is `holdFor`. -/
theorem exists_fixHold (h : s.life = .run) : ∃ l, s.fixHold = { s with
      legs := l, trip := { s.trip with ovCopy := some (s.get Reg.SDM.DCL_OV1.OV_TRIP2) } } ∧
    (s.dcl.crossA.getLsbD 1 = false → s.dcl.crossB.getLsbD 1 = false →
      l = Vector.ofFn (fun n : Fin 32 => { s.leg n with hold := some (s.holdFor n) })) := by
  unfold State.fixHold
  rw [if_pos h]
  dsimp only
  split
  · rename_i ha
    obtain ⟨l, hl⟩ := exists_warmOv { s with
      legs := Vector.ofFn (fun n : Fin 32 => { s.leg n with hold := some (s.holdFor n) })
      trip := { s.trip with ovCopy := some (s.get Reg.SDM.DCL_OV1.OV_TRIP2) } }
    refine ⟨l, hl, fun hA hB => ?_⟩
    rw [hA, hB] at ha
    exact absurd ha Bool.false_ne_true
  · exact ⟨_, rfl, fun _ _ => rfl⟩

/-- The state that the wipe of an assertion from RUN finds. -/
def State.asserted (s : State) (src : Fin 9) : State :=
  if srcReach src = 2 then s.assertTime.2.fixHold else s.assertTime.2

/-- From RUN an assertion wipes the reach of its source, and starts an episode. -/
theorem assertReset_of_run (h : s.life = .run) (src : Fin 9) : ∃ a, s.assertReset src =
    { (s.asserted src).wipe (srcReach src) with
      life := .reset
      rst := { ((s.asserted src).wipe (srcReach src)).rst with
        active := a, sources := a, reach := srcReach src, fromS := s.assertTime.1.1, fromNs := s.assertTime.1.2 } } := by
  refine ⟨1#9 <<< src.val, ?_⟩
  unfold State.assertReset State.asserted
  simp only [h, reduceCtorEq, false_and, and_false, if_false]

/-- What no reset keeps: states of slots, causes that wait for Patrol, injections, F4, and running legs. -/
structure State.Dropped (t : State) : Prop where
  slots : ∀ i : Fin 4, (t.slot i).state = .off
  toClassify : t.toClassify = []
  injs : t.injs = []
  f4 : t.patrol.f4 = false
  friction : t.chop.friction = false
  legs : ∀ n : Fin 32, (t.leg n).counting = false ∧ (t.leg n).liveA = false ∧ (t.leg n).liveB = false

/-- What a WARM reset keeps. -/
structure State.WarmKept (s t : State) : Prop where
  course : t.course = s.course
  tod : t.tod = s.tod
  live : t.groom.live = s.groom.live
  stored : t.groom.stored = s.groom.stored
  log : t.rst.log = s.rst.log
  ovCopy : t.trip.ovCopy = s.trip.ovCopy
  legs : ∀ n : Fin 32, (t.leg n).hold = (s.leg n).hold
  edges : ∀ n : Fin 64, (t.edge n).powered = (s.edge n).powered ∧ (t.edge n).out = (s.edge n).out
  store : t.himet.store = s.himet.store

/-- What a SYSTEM reset keeps. -/
structure State.SystemKept (s t : State) : Prop where
  course : t.course = {}
  tod : t.tod = {}
  stored : t.groom.stored = s.groom.stored
  log : t.rst.log = s.rst.log
  legs : ∀ n : Fin 32, (t.leg n).hold = none
  edges : ∀ n : Fin 64, (t.edge n).holdoff = true ∧ (t.edge n).powered = (s.edge n).powered ∧
    (t.edge n).out = if (s.edge n).soft then (s.edge n).out else .off
  store : t.himet.store = s.himet.store

/-- What a POWER reset keeps. -/
structure State.PowerKept (s t : State) : Prop where
  course : t.course = {}
  log : t.rst.log = []
  store : t.himet.store = s.himet.store

theorem slots_off (i : Fin 4) : (Vector.replicate 4 ({} : Slot))[i].state = .off := by simp

theorem dropped_wipeWarm : s.wipeWarm.Dropped where
  slots i := slots_off i
  toClassify := rfl
  injs := rfl
  f4 := rfl
  friction := rfl
  legs n := by simp [State.leg, State.wipeWarm]

theorem warmKept_wipeWarm : s.WarmKept s.wipeWarm := by
  obtain ⟨v, hv⟩ := exists_abandon_disarm s
  unfold State.wipeWarm
  rw [hv]
  constructor
  case legs => intro n; simp [State.leg]
  case edges => intro n; simp [State.edge]
  all_goals rfl

theorem dropped_wipeSystem : s.wipeSystem.Dropped := by
  obtain ⟨hslots, hcl, hinjs, hf4, hfriction, _⟩ := dropped_wipeWarm s
  exact ⟨hslots, hcl, hinjs, hf4, hfriction, fun n => by simp [State.leg, State.wipeSystem]⟩

theorem systemKept_wipeSystem : s.SystemKept s.wipeSystem := by
  have h := warmKept_wipeWarm s
  constructor
  case stored => exact h.stored
  case log => exact h.log
  case store => exact h.store
  case legs => intro n; simp [State.leg, State.wipeSystem]
  case edges =>
    intro n
    obtain ⟨hp, ho⟩ := h.edges n
    have hs : (s.wipeWarm.edge n).soft = (s.edge n).soft := by simp only [EdgeCh.soft, ho]
    have he : s.wipeSystem.edge n = _ := Vector.getElem_map (i := n.val) _ _
    rw [he]
    exact ⟨rfl, hp, by rw [← hs, ← ho]; rfl⟩
  all_goals rfl

theorem dropped_wipePower : s.wipePower.Dropped := by
  obtain ⟨hslots, hcl, hinjs, hf4, hfriction, hlegs⟩ := dropped_wipeSystem s
  exact ⟨hslots, hcl, hinjs, hf4, hfriction, hlegs⟩

theorem powerKept_wipePower : s.PowerKept s.wipePower := ⟨rfl, rfl, (systemKept_wipeSystem s).store⟩

theorem warmKept_wipe (w : Nat) : s.WarmKept (s.wipe (w + 2)) := by
  obtain ⟨r, hr⟩ := exists_resetRegs s (w + 2) (fun _ => true)
  unfold State.wipe
  rw [hr]
  obtain ⟨hcourse, htod, hlive, hstored, hlog, hov, hlegs, hedges, hstore⟩ := warmKept_wipeWarm { s with regs := r }
  exact ⟨hcourse, htod, hlive, hstored, hlog, hov, hlegs, hedges, hstore⟩

theorem systemKept_wipe : s.SystemKept (s.wipe 1) := by
  obtain ⟨r, hr⟩ := exists_resetRegs s 1 (fun _ => true)
  unfold State.wipe
  rw [hr]
  obtain ⟨hcourse, htod, hstored, hlog, hlegs, hedges, hstore⟩ := systemKept_wipeSystem { s with regs := r }
  exact ⟨hcourse, htod, hstored, hlog, hlegs, hedges, hstore⟩

theorem powerKept_wipe : s.PowerKept (s.wipe 0) := by
  obtain ⟨r, hr⟩ := exists_resetRegs s 0 (fun _ => true)
  unfold State.wipe
  rw [hr]
  obtain ⟨hcourse, hlog, hstore⟩ := powerKept_wipePower { s with regs := r }
  exact ⟨hcourse, hlog, hstore⟩

theorem dropped_wipe (w : Nat) : (s.wipe w).Dropped := by
  unfold State.wipe
  split
  · obtain ⟨hslots, hcl, hinjs, hf4, hfriction, hlegs⟩ := dropped_wipePower (s.resetRegs 0 fun _ => true)
    exact ⟨hslots, hcl, hinjs, hf4, hfriction, hlegs⟩
  · obtain ⟨hslots, hcl, hinjs, hf4, hfriction, hlegs⟩ := dropped_wipeSystem (s.resetRegs 1 fun _ => true)
    exact ⟨hslots, hcl, hinjs, hf4, hfriction, hlegs⟩
  · obtain ⟨hslots, hcl, hinjs, hf4, hfriction, hlegs⟩ := dropped_wipeWarm (s.resetRegs w fun _ => true)
    exact ⟨hslots, hcl, hinjs, hf4, hfriction, hlegs⟩

/-- Without a reset hold the pattern fixed for a leg is that of its slot's safe state. -/
theorem holdFor_of_no_resetHold (h : s.trip.resetHold = 0#4) (n : Fin 32) :
    s.holdFor n = if (s.legRec n.val).trip = 0 ∧ (s.legRec n.val).slot < 4 then
      patternOf (s.legRec n.val).position (s.effective (Fin.ofNat 4 (s.legRec n.val).slot)) else .off := by
  unfold State.holdFor
  simp [h]

/-- What the wipe of a WARM assertion finds: the hold pattern and the copy of OV_TRIP2 beside what stood. -/
theorem exists_asserted_warm (h : s.life = .run) {src : Fin 9} (hr : srcReach src = 2) : ∃ f x l, s.asserted src = { s with
      freeCount := f, clk := x, legs := l, trip := { s.trip with ovCopy := some (s.get Reg.SDM.DCL_OV1.OV_TRIP2) } } ∧
    (s.dcl.crossA.getLsbD 1 = false → s.dcl.crossB.getLsbD 1 = false →
      ∀ n : Fin 32, l[n].hold = some (({ s with freeCount := f, clk := x } : State).holdFor n)) := by
  obtain ⟨f, x, hx⟩ := exists_assertTime s
  obtain ⟨l, hl, hhold⟩ := exists_fixHold { s with freeCount := f, clk := x } h
  refine ⟨f, x, l, ?_, fun hA hB n => ?_⟩
  · rw [State.asserted, if_pos hr, hx]; exact hl
  · rw [hhold hA hB]; simp

theorem exists_asserted_cold {src : Fin 9} (hr : srcReach src ≠ 2) :
    ∃ f x, s.asserted src = { s with freeCount := f, clk := x } := by
  rw [State.asserted, if_neg hr]
  exact exists_assertTime s

theorem store_wipe : ∀ w, (s.wipe w).himet.store = s.himet.store
  | 0 => (powerKept_wipe s).store
  | 1 => (systemKept_wipe s).store
  | w + 2 => (warmKept_wipe s w).store

theorem himet_asserted (h : s.life = .run) (src : Fin 9) : (s.asserted src).himet = s.himet := by
  by_cases hr : srcReach src = 2
  · obtain ⟨f, x, l, hs, _⟩ := exists_asserted_warm s h hr
    rw [hs]
  · obtain ⟨f, x, hs⟩ := exists_asserted_cold s hr
    rw [hs]

end Sys2Proof.Machine

section
open Sys2Proof.Machine

/-- Settles O38: an assertion from RUN is the wipe of its reach, after what a WARM one fixes. -/
theorem resetReachesRestore : Obligations.ResetReachesRestore := by
  unfold Obligations.ResetReachesRestore
  intro s src hsrc hrun
  obtain ⟨a, ha⟩ := assertReset_of_run s hrun src
  have hexec : execResetAssert src s = .next (s.assertReset src) := if_neg (by omega)
  refine ⟨_, hexec, ?_⟩
  rw [ha]
  obtain ⟨hslots, hcl, hinjs, hf4, hfriction, hlegs⟩ := dropped_wipe (s.asserted src) (srcReach src)
  refine ⟨hslots, hcl, hinjs, hf4, hfriction, hlegs, fun hw => ?_, fun hlo hhi => ?_, fun hp => ?_, ?_⟩
  · have hr : srcReach src = 2 := by rw [srcReach, if_neg (by omega), if_neg (by omega)]
    obtain ⟨f, x, l, hs, hhold⟩ := exists_asserted_warm s hrun hr
    have hk := warmKept_wipe (s.asserted src) 0
    rw [hr]
    rw [hs] at hk ⊢
    refine ⟨hk.course, hk.tod, hk.live, hk.log, hk.ovCopy, fun n h0 hA hB => ?_⟩
    exact (hk.legs n).trans ((hhold hA hB n).trans (congrArg some (holdFor_of_no_resetHold _ h0 n)))
  · have hr : srcReach src = 1 := by rw [srcReach, if_neg (by omega), if_pos (by omega)]
    obtain ⟨f, x, hs⟩ := exists_asserted_cold s (src := src) (by omega)
    have hk := systemKept_wipe (s.asserted src)
    rw [hr]
    rw [hs] at hk ⊢
    exact ⟨hk.course, hk.tod, hk.stored, hk.log, hk.legs, hk.edges⟩
  · have hr : srcReach src = 0 := if_pos hp
    rw [hr]
    have hk := powerKept_wipe (s.asserted src)
    exact ⟨hk.course, hk.log⟩
  · exact (store_wipe _ _).trans (congrArg _ (himet_asserted s hrun src))
end
end

section
/-! Register writes in the blocks whose stores start nothing, the cause bits of a clear and of INJECT, and the words of the
interrupt tree (R5, R10 to R12, R14, R34, R391, R549 to R554). -/

namespace Sys2Proof.Machine

variable {s : State}

theorem exec_registerWrite {a : Nat} {v : Word} {env : HostEnv} {t : State} (h : s.writeReg env a v = t) :
    exec (.registerWrite a v env) s = .next t := congrArg Host.Outcome.next h

theorem writeReg_of_no_row {a : Nat} (h : rowsAt a = []) (env : HostEnv) (v : Word) : s.writeReg env a v = s := by
  simp [State.writeReg, h]

theorem writeReg_of_no_command {a : Nat} {v : Word} {env : HostEnv} (hc : s.command env a v = none)
    (h : (rowsAt a).any (fun r => s.opens (blockOf a) r) = true) : s.writeReg env a v = s.storeReg a v := by
  have hr : (rowsAt a).isEmpty = false := by
    cases hl : rowsAt a with
    | nil => rw [hl] at h; exact h.symm
    | cons r l => rfl
  simp only [State.writeReg, hr, hc, Bool.false_eq_true, if_false]

theorem writeReg_of_closed {a : Nat} {v : Word} {env : HostEnv} (hc : s.command env a v = none)
    (h : (rowsAt a).any (fun r => s.opens (blockOf a) r) = false) : s.writeReg env a v = s := by
  simp only [State.writeReg, hc, State.storeReg, h, Bool.not_false, if_true, ite_self]

/-- The blocks of Groomer, Slalom, PROF and Probe guard no write, judge no register as a whole and start nothing with a store. -/
def plainBlock (b : Nat) : Prop := b = 7 ∨ b = 16 ∨ b = 17 ∨ b = 23

theorem guarded_of_plain {a : Nat} (h : plainBlock (blockOf a)) (w : Word) : s.guarded a w = none := by
  unfold State.guarded
  generalize blockOf a = b at h ⊢
  rcases h with rfl | rfl | rfl | rfl <;> rfl

theorem joint_of_plain {a : Nat} (h : plainBlock (blockOf a)) : s.joint a = .ok := by
  unfold State.joint
  generalize blockOf a = b at h ⊢
  rcases h with rfl | rfl | rfl | rfl <;> rfl

theorem afterStore_of_plain {a : Nat} (h : plainBlock (blockOf a)) (s0 : State) : s0.afterStore s a = s := by
  unfold State.afterStore
  generalize blockOf a = b at h ⊢
  rcases h with rfl | rfl | rfl | rfl <;> rfl

theorem storeReg_of_plain {a : Nat} {v : Word} (h : plainBlock (blockOf a))
    (ho : (rowsAt a).any (fun r => s.opens (blockOf a) r) = true) : s.storeReg a v = s.store a v := by
  have hg := guarded_of_plain (s := s) h (s.rawWord a v)
  unfold State.storeReg
  rw [ho]
  generalize hb : blockOf a = b at h
  rcases h with rfl | rfl | rfl | rfl <;> simp [hg]

theorem judgeAll_ne_nil {a : Nat} (ho : (rowsAt a).any (fun r => s.opens (blockOf a) r) = true) (v : Word) :
    (s.judgeAll a v).isEmpty = false := by
  obtain ⟨r, hr, hor⟩ := List.any_eq_true.mp ho
  have hmem : r ∈ (rowsAt a).filter fun r => s.opens (blockOf a) r := List.mem_filter.mpr ⟨hr, hor⟩
  rw [State.judgeAll, List.isEmpty_map]
  exact List.isEmpty_eq_false_iff.mpr (List.ne_nil_of_mem hmem)

theorem store_of_refuse {a : Nat} {v : Word} (ho : (rowsAt a).any (fun r => s.opens (blockOf a) r) = true)
    (h : ∃ p ∈ s.judgeAll a v, p.2 = .refuse) : s.store a v = s.envelope a := by
  obtain ⟨p, hp, hr⟩ := h
  have hany : (s.judgeAll a v).any (fun p => decide (p.2 = .refuse)) = true :=
    List.any_eq_true.mpr ⟨p, hp, decide_eq_true hr⟩
  have hne : ¬ (s.judgeAll a v).isEmpty = true := by rw [judgeAll_ne_nil ho]; exact Bool.false_ne_true
  conv in State.store => delta State.store
  exact (if_neg hne).trans (if_pos hany)

theorem store_of_plain {a : Nat} {v : Word} (hb : plainBlock (blockOf a))
    (ho : (rowsAt a).any (fun r => s.opens (blockOf a) r) = true) (h : ∀ p ∈ s.judgeAll a v, p.2 ≠ .refuse) :
    s.store a v = if (s.judgeAll a v).all (fun p => p.2.inside) then s.wr a (storedWord (s.rd a) (s.judgeAll a v))
      else (s.wr a (storedWord (s.rd a) (s.judgeAll a v))).envelope a := by
  have hany : (s.judgeAll a v).any (fun p => decide (p.2 = .refuse)) = false :=
    List.any_eq_false.mpr fun p hp hr => h p hp (of_decide_eq_true hr)
  simp only [State.store, judgeAll_ne_nil ho, hany, Bool.false_eq_true, if_false, joint_of_plain hb, afterStore_of_plain hb]

theorem not_refuse_of_inside {l : List (FRow × Judged)} (h : l.all (fun p => p.2.inside) = true) :
    ∀ p ∈ l, p.2 ≠ .refuse := by
  intro p hp hr
  have hi := List.all_eq_true.mp h p hp
  rw [hr] at hi
  exact Bool.false_ne_true hi

/-! ## Clearing causes -/

theorem frictionCheck_regs : s.frictionCheck.regs = s.regs ∧ s.frictionCheck.shadowMarks = s.shadowMarks ∧
    s.frictionCheck.liveMarks = s.liveMarks ∧ s.frictionCheck.slots = s.slots := by
  unfold State.frictionCheck
  split
  · exact ⟨rfl, rfl, rfl, rfl⟩
  · exact ⟨rfl, rfl, rfl, rfl⟩

theorem shadowWord_setShadow_same (g : Nat) (w : Word) : (s.setShadow g w).shadowWord g = w :=
  cellGet_set_same _ _ _ _

theorem liveWord_setLive_same (g : Nat) (w : Word) : (s.setLive g w).liveWord g = w :=
  cellGet_set_same _ _ _ _

theorem clearCauses_spec (g : Nat) (m : Word) : (s.clearCauses g m).causeWord g = s.causeWord g &&& ~~~m ∧
    (s.clearCauses g m).shadowWord g = s.shadowWord g &&& ~~~m ∧ (s.clearCauses g m).liveWord g = s.liveWord g &&& ~~~m ∧
    s.regsBut [Reg.INT.GRP.CAUSE.addr g] (s.clearCauses g m) ∧ (s.clearCauses g m).slots = s.slots := by
  unfold State.clearCauses
  extract_lets s1 s2 keep p
  obtain ⟨hregs, hshadow, hlive, hslots⟩ :=
    frictionCheck_regs (s := { s2 with patrol := { p with raised := p.raised.filter keep } })
  have hrd (a : Nat) := (State.rd_congr hregs a).trans (show _ = s1.rd a from rfl)
  refine ⟨?_, ?_, ?_, ?_, hslots⟩
  · exact (hrd _).trans (State.rd_wr_same s _ _)
  · exact (congrArg (cellGet _ · g) hshadow).trans (shadowWord_setShadow_same (s := s1) g _)
  · exact (congrArg (cellGet _ · g) hlive).trans (liveWord_setLive_same (s := s1.setShadow g _) g _)
  · intro a ha
    exact (hrd a).trans (State.rd_wr_other s _ _ _ (by simpa using ha))

/-! ## Injected causes -/

theorem shadowWord_setCauseM_shadow (c : Cause) : (s.setCauseM c .shadow).shadowWord c.grp =
    if s.causeSet c && !s.shadowed c then s.shadowWord c.grp else bitTo (s.shadowWord c.grp) c.bit true := by
  unfold State.setCauseM
  dsimp only
  refine (congrArg (cellGet _ · c.grp) (State.irqEdge_shadowMarks _ _ _)).trans ?_
  split
  · rfl
  · exact shadowWord_setShadow_same (s := s.put _ _) _ _

theorem bitTo_true_bit (w : Word) (b i : Nat) (hi : i < 32) :
    (bitTo w b true).getLsbD i = (w.getLsbD i || decide (i = b)) := by
  simp only [bitTo, if_true, BitVec.getLsbD_or, BitVec.getLsbD_shiftLeft, hi, decide_true, Bool.true_and]
  rcases Nat.lt_trichotomy i b with h | h | h
  · simp [h, Nat.ne_of_lt h]
  · simp [h]
  · have : i - b ≠ 0 := by omega
    simp [Nat.ne_of_gt h, this, Nat.not_lt_of_gt h]

theorem shadowed_setCauseM_mono (c : Cause) (i : Nat) (hi : i < 32) (h : s.shadowed ⟨c.grp, i⟩ = true) :
    (s.setCauseM c .shadow).shadowed ⟨c.grp, i⟩ = true := by
  have hw : (s.shadowWord c.grp).getLsbD i = true := h
  show ((s.setCauseM c .shadow).shadowWord c.grp).getLsbD i = true
  rw [shadowWord_setCauseM_shadow]
  by_cases hc : (s.causeSet c && !s.shadowed c) = true
  · rw [if_pos hc]; exact hw
  · rw [if_neg hc, bitTo_true_bit _ _ _ hi, hw, Bool.true_or]

theorem shadowed_setCauseM_same (c : Cause) (hb : c.bit < 32) (h : s.causeSet c = false) :
    (s.setCauseM c .shadow).shadowed c = true := by
  simp only [State.shadowed, shadowWord_setCauseM_shadow, h, Bool.false_and, Bool.false_eq_true, if_false]
  rw [bitTo_true_bit _ _ _ hb, decide_eq_true rfl, Bool.or_true]

theorem causeWord_setCauseM_bit (c : Cause) (m : Mark) (i : Nat) (hi : i < 32) :
    ((s.setCauseM c m).causeWord c.grp).getLsbD i = ((s.causeWord c.grp).getLsbD i || decide (i = c.bit)) := by
  have hrd : (s.setCauseM c m).causeWord c.grp = setBits (s.causeWord c.grp) c.bit 1 1 := by
    rw [State.causeWord, State.rd_congr (State.setCauseM_regs s c m)]
    exact State.rd_wr_same s _ _
  rw [hrd, setBits_bit _ _ _ _ _ hi]
  by_cases h : i = c.bit
  · simp [h]
  · have hn : ¬ (c.bit ≤ i ∧ i < c.bit + 1) := by omega
    rw [if_neg hn, decide_eq_false h, Bool.or_false]

/-- What INJECT has made of the bits below `n` of the mask `m` in group `g`. -/
structure Injected (s : State) (g : Nat) (m : Word) (n : Nat) (t : State) : Prop where
  word : ∀ i, i < 32 → (t.causeWord g).getLsbD i = ((s.causeWord g).getLsbD i || (decide (i < n) && m.getLsbD i))
  shadow : ∀ i, i < n → m.getLsbD i = true → s.causeSet ⟨g, i⟩ = false → t.shadowed ⟨g, i⟩ = true
  regs : s.regsBut [Reg.INT.GRP.CAUSE.addr g] t
  slots : t.slots = s.slots
  trip : t.trip = s.trip

theorem Injected.setCause {g n : Nat} {m : Word} {t : State} (h : Injected s g m n t) (hn : n < 32) (hm : m.getLsbD n = true) :
    Injected s g m (n + 1) (t.setCauseM ⟨g, n⟩ .shadow) where
  word i hi := by
    rw [causeWord_setCauseM_bit ⟨g, n⟩ .shadow i hi, h.word i hi]
    by_cases hin : i = n
    · subst hin; simp [hm]
    · have : i < n + 1 ↔ i < n := by omega
      simp [hin, this]
  shadow i hi hmi hs := by
    by_cases hin : i = n
    · subst hin
      refine shadowed_setCauseM_same ⟨g, i⟩ hn ?_
      have hc : (s.causeWord g).getLsbD i = false := hs
      simp [State.causeSet, h.word i hn, hc]
    · exact shadowed_setCauseM_mono ⟨g, n⟩ i (by omega) (h.shadow i (by omega) hmi hs)
  regs a ha := (State.rd_setCauseM t ⟨g, n⟩ .shadow a (by simpa using ha)).trans (h.regs a ha)
  slots := (State.setCauseM_slots t _ _).trans h.slots
  trip := (State.setCauseM_trip t _ _).trans h.trip

theorem Injected.skip {g n : Nat} {m : Word} {t : State} (h : Injected s g m n t) (hm : m.getLsbD n = false) :
    Injected s g m (n + 1) t where
  word i hi := by
    rw [h.word i hi]
    by_cases hin : i = n
    · subst hin; simp [hm]
    · have : i < n + 1 ↔ i < n := by omega
      simp [this]
  shadow i hi hmi hs := by
    refine h.shadow i ?_ hmi hs
    have : i ≠ n := fun e => Bool.false_ne_true ((e ▸ hm).symm.trans hmi)
    omega
  regs := h.regs
  slots := h.slots
  trip := h.trip

theorem injected_foldl (g : Nat) (m : Word) (n : Nat) (hn : n ≤ 32) : Injected s g m n
    ((List.range n).foldl (fun t b => if m.getLsbD b then t.setCauseM ⟨g, b⟩ .shadow else t) s) := by
  induction n with
  | zero => exact ⟨fun i _ => by simp, fun i hi => absurd hi (Nat.not_lt_zero i), fun _ _ => rfl, rfl, rfl⟩
  | succ n ih =>
    rw [List.range_succ, List.foldl_append]
    show Injected s g m (n + 1) (if m.getLsbD n then _ else _)
    split
    · rename_i hm; exact (ih (by omega)).setCause (by omega) hm
    · rename_i hm; exact (ih (by omega)).skip (Bool.eq_false_iff.mpr hm)

theorem Injected.causeWord {g : Nat} {m : Word} {t : State} (h : Injected s g m 32 t) :
    t.causeWord g = s.causeWord g ||| m := by
  refine BitVec.eq_of_getLsbD_eq fun i hi => ?_
  rw [h.word i hi, BitVec.getLsbD_or, decide_eq_true hi, Bool.true_and]

/-! ## The words of the interrupt tree -/

theorem testBit_sum_bits (f : Nat → Bool) (n : Nat) :
    ((List.range n).map (fun k => b2n (f k) * 2 ^ k)).sum < 2 ^ n ∧
    ∀ i, ((List.range n).map (fun k => b2n (f k) * 2 ^ k)).sum.testBit i = (decide (i < n) && f i) := by
  induction n with
  | zero => exact ⟨by simp, fun i => by simp⟩
  | succ n ih =>
    obtain ⟨hlt, hbit⟩ := ih
    rw [List.range_succ, List.map_append, List.sum_append]
    simp only [List.map_cons, List.map_nil, List.sum_cons, List.sum_nil, Nat.add_zero]
    have hb : b2n (f n) ≤ 1 := by cases f n <;> decide
    refine ⟨?_, fun i => ?_⟩
    · have := Nat.mul_le_mul_right (2 ^ n) hb
      rw [Nat.pow_succ]; omega
    · rw [Nat.add_comm, Nat.mul_comm, Nat.testBit_two_pow_mul_add _ hlt, hbit]
      rcases Nat.lt_trichotomy i n with h | h | h
      · simp [h, Nat.lt_succ_of_lt h]
      · subst h
        cases hf : f i <;> simp [b2n]
      · have h1 : ¬ i < n := by omega
        have h2 : ¬ i < n + 1 := by omega
        have h3 : i - n ≠ 0 := by omega
        have hone : Nat.testBit 1 (i - n) = false :=
          Bool.eq_false_iff.mpr (mt Nat.testBit_one_eq_true_iff_self_eq_zero.mp h3)
        cases hf : f n <;> simp [b2n, h1, h2, hone]

theorem groupBits_bit (f : Nat → Word) (g n i : Nat) (hi : i < n) (hn : i < 32) :
    (groupBits f g n).getLsbD i = (f (g + i) != 0#32) := by
  have h := (testBit_sum_bits (fun k => f (g + k) != 0#32) n).2 i
  rw [groupBits, BitVec.getLsbD_ofNat, h, decide_eq_true hi, decide_eq_true hn, Bool.true_and, Bool.true_and]

theorem valueAt_of_low {a : Nat} (hr : (rowsAt a).isEmpty = false) (hb : blockOf a < 10) (v : BitVec 64) :
    s.valueAt a v = s.derivedLow a v := by
  unfold State.valueAt
  rw [hr, if_neg Bool.false_ne_true, if_pos hb]

theorem valueAt_sum0 (v : BitVec 64) : s.valueAt Reg.INT.SUM0.addr v = groupBits s.pendWord 0 32 := by
  have hb : blockOf Reg.INT.SUM0.addr = 4 := by decide
  rw [valueAt_of_low (by decide +kernel) (by decide), State.derivedLow, hb]
  exact if_pos rfl

theorem valueAt_top (v : BitVec 64) : s.valueAt Reg.INT.TOP.addr v = s.intTop := by
  have hb : blockOf Reg.INT.TOP.addr = 4 := by decide
  rw [valueAt_of_low (by decide +kernel) (by decide), State.derivedLow, hb]
  exact (if_neg (by decide)).trans ((if_neg (by decide)).trans (if_pos rfl))

theorem rowsAt_pend (g : Fin 64) : (rowsAt (Reg.INT.GRP.PEND.addr g.val)).isEmpty = false := by
  revert g; decide +kernel

theorem blockOf_pend (g : Fin 64) : blockOf (Reg.INT.GRP.PEND.addr g.val) = 4 := by
  simp only [blockOf, Reg.INT.GRP.PEND.addr]; omega

theorem elemOf_pend (g : Fin 64) : elemOf (Reg.INT.GRP.PEND.addr g.val) (Reg.INT.GRP.PEND.addr 0) 0x10 64 = some g.val := by
  simp only [elemOf, Reg.INT.GRP.PEND.addr]
  rw [if_pos (by omega)]
  congr 1
  omega

theorem valueAt_pend (g : Fin 64) (v : BitVec 64) : s.valueAt (Reg.INT.GRP.PEND.addr g.val) v = s.pendWord g.val := by
  have hne (b : Nat) (hb : b < Reg.INT.GRP.PEND.addr 0) : Reg.INT.GRP.PEND.addr g.val ≠ b := by
    simp only [Reg.INT.GRP.PEND.addr] at hb ⊢; omega
  have hlow : blockOf (Reg.INT.GRP.PEND.addr g.val) < 10 := by rw [blockOf_pend]; decide
  rw [valueAt_of_low (rowsAt_pend g) hlow, State.derivedLow, blockOf_pend g]
  rw [if_neg (hne Reg.INT.SUM0.addr (by decide)), if_neg (hne Reg.INT.SUM1.addr (by decide)),
    if_neg (hne Reg.INT.TOP.addr (by decide)), if_neg (hne Reg.INT.SET0.addr (by decide)),
    if_neg (hne Reg.INT.SET1.addr (by decide)), elemOf_pend]
  rfl

theorem intTop_group {g : Nat} (hg : g < 48) (hp : s.pendWord g ≠ 0#32) (hlow : ∀ j, j < g → s.pendWord j = 0#32) :
    s.intTop.toNat % 128 = g := by
  have hfind : (List.range 48).find? (fun g => s.pendWord g != 0#32) = some g := by
    rw [List.find?_range_eq_some]
    refine ⟨bne_iff_ne.mpr hp, List.mem_range.mpr hg, fun j hj => ?_⟩
    simp [hlow j hj]
  simp only [State.intTop, hfind, Option.getD_some, BitVec.toNat_ofNat]
  have : b2n s.irqAsserted ≤ 1 := by cases s.irqAsserted <;> decide
  omega

end Sys2Proof.Machine

section
open Sys2Proof.Machine

/-- Settles O46: a write comes to `writeReg`, a clear to `clearCauses`, INJECT to one `setCauseM` for each bit of its mask. -/
theorem registerAndInterruptWritesRun : Obligations.RegisterAndInterruptWritesRun := by
  unfold Obligations.RegisterAndInterruptWritesRun
  intro s env
  refine ⟨fun a v hr => exec_registerWrite (writeReg_of_no_row hr env v),
    fun a v hc ho => exec_registerWrite (writeReg_of_closed hc ho),
    fun a v hb hc ho => ?_, fun g m => ⟨_, rfl, clearCauses_spec g.val m⟩, fun g m => ⟨_, rfl, ?_⟩, ⟨_, rfl, rfl, rfl⟩,
    fun v => ⟨fun g hg => ?_, fun g => valueAt_pend g v, fun g hg hp hlow => ?_⟩⟩
  · have hplain : plainBlock (blockOf a) := by simpa [plainBlock] using hb
    have hstore : s.writeReg env a v = s.store a v := (writeReg_of_no_command hc ho).trans (storeReg_of_plain hplain ho)
    refine ⟨fun hin => ?_, fun hout hnr => ?_, fun hr => exec_registerWrite (hstore.trans (store_of_refuse ho hr))⟩
    · have ht := hstore.trans ((store_of_plain hplain ho (not_refuse_of_inside hin)).trans (if_pos hin))
      exact ⟨_, exec_registerWrite ht, State.rd_wr_same s _ _,
        fun b hb => State.rd_wr_other s _ _ _ (by simpa using hb), rfl⟩
    · refine exec_registerWrite (hstore.trans ((store_of_plain hplain ho hnr).trans (if_neg ?_)))
      rw [hout]; exact Bool.false_ne_true
  · have hi := injected_foldl (s := s) g.val (m &&& implBits g.val) 32 (Nat.le_refl 32)
    exact ⟨hi.causeWord, fun b hb => hi.shadow b hb, hi.regs, hi.slots, hi.trip⟩
  · rw [valueAt_sum0, groupBits_bit _ _ _ _ hg hg, Nat.zero_add]
  · rw [valueAt_top]; exact intTop_group hg hp hlow
end
end

section
/-! Which registers an operation on causes, fields and Groomer leaves as they were, and what a cause bit reads after another is set. -/

namespace Sys2Proof.Machine

variable {s t u : State} {l : List Nat}

theorem regsBut_refl : s.regsBut l s := fun _ _ => rfl

theorem State.regsBut.trans (h : s.regsBut l t) (h' : t.regsBut l u) : s.regsBut l u :=
  fun a ha => (h' a ha).trans (h a ha)

theorem State.regsBut.of_regs (h : s.regsBut l t) (hr : u.regs = t.regs) : s.regsBut l u :=
  h.trans fun a _ => State.rd_congr hr a

theorem State.regsBut.wr {a : Nat} {x : Word} (h : s.regsBut l t) (ha : a ∈ l) : s.regsBut l (t.wr a x) :=
  h.trans fun _ hb => State.rd_wr_other t _ _ _ fun e => hb (e ▸ ha)

theorem State.regsBut.put {f : Fld} {v : Nat} (h : s.regsBut l t) (hf : f.addr ∈ l) : s.regsBut l (t.put f v) := h.wr hf

theorem State.regsBut.raiseM {c : Cause} {m : Mark} (h : s.regsBut l t) (hc : Reg.INT.GRP.CAUSE.addr c.grp ∈ l) :
    s.regsBut l (t.raiseM c m) :=
  (h.put hc).of_regs (State.raiseM_regs t c m)

theorem State.regsBut.raise {c : Cause} (h : s.regsBut l t) (hc : Reg.INT.GRP.CAUSE.addr c.grp ∈ l) : s.regsBut l (t.raise c) :=
  h.raiseM (m := .real) hc

theorem State.regsBut.setIf {b : Bool} {c : Cause} (h : s.regsBut l t) (hc : Reg.INT.GRP.CAUSE.addr c.grp ∈ l) :
    s.regsBut l (t.setIf b c) := by
  unfold State.setIf
  split
  · exact h.raise hc
  · exact h

theorem State.regsBut.get (h : s.regsBut l t) {f : Fld} (hf : f.addr ∉ l) : t.get f = s.get f := by
  simp only [State.get, h f.addr hf]

theorem State.regsBut.flag (h : s.regsBut l t) {f : Fld} (hf : f.addr ∉ l) : t.flag f = s.flag f := by
  simp only [State.flag, h.get hf]

theorem State.regsBut.causeSet (h : s.regsBut l t) {c : Cause} (hc : Reg.INT.GRP.CAUSE.addr c.grp ∉ l) :
    t.causeSet c = s.causeSet c := by
  simp only [State.causeSet, State.causeWord, h _ hc]

theorem get_lt (s : State) (f : Fld) : s.get f < 2 ^ f.width := Nat.mod_lt _ (Nat.two_pow_pos _)

theorem causeAddr_injective : Function.Injective Reg.INT.GRP.CAUSE.addr := fun g g' h => by
  simp only [Reg.INT.GRP.CAUSE.addr] at h; omega

/-- What a cause bit reads after a cause has been set: the two differ in group or in bit, or are one. -/
theorem causeSet_raiseM_eq (c d : Cause) (m : Mark) (hd : d.bit < 32) :
    (s.raiseM c m).causeSet d = (s.causeSet d || decide (d = c)) := by
  rw [State.causeSet_congr (State.raiseM_regs s c m), ← State.causeSet_congr (State.setCauseM_regs s c m)]
  obtain ⟨g, b⟩ := c
  obtain ⟨g', b'⟩ := d
  by_cases hg : g' = g
  · subst hg
    simpa [State.causeSet] using causeWord_setCauseM_bit (s := s) ⟨g', b⟩ m b' hd
  · have hne : Reg.INT.GRP.CAUSE.addr g' ≠ Reg.INT.GRP.CAUSE.addr g := fun e => hg (causeAddr_injective e)
    simp [State.causeSet, State.causeWord, State.rd_setCauseM s ⟨g, b⟩ m _ hne, hg]

theorem causeSet_raise_eq (c d : Cause) (hd : d.bit < 32) : (s.raise c).causeSet d = (s.causeSet d || decide (d = c)) :=
  causeSet_raiseM_eq c d .real hd

theorem causeSet_setIf_eq (b : Bool) (c d : Cause) (hd : d.bit < 32) :
    (s.setIf b c).causeSet d = (s.causeSet d || (b && decide (d = c))) := by
  unfold State.setIf
  cases b
  · simp
  · simpa using causeSet_raise_eq c d hd

end Sys2Proof.Machine
end

section
/-! The frame of the clock and supply commands (R27 to R30, R51, R52). Each rule follows the body of its function. -/

namespace Sys2Proof.Machine

variable {s t u : State}

theorem setCauseM_causesFrom (s : State) (c : Cause) (m : Mark) : s.setCauseM c m = s.causesFrom (s.setCauseM c m) := by
  unfold State.setCauseM State.irqEdge
  cases m <;> dsimp only <;> split <;> (try split) <;> rfl

theorem pulseTrip_causesFrom (s : State) (c : Cause) : s.pulseTrip c = s.causesFrom (s.pulseTrip c) := by
  unfold State.pulseTrip
  split
  · split <;> rfl
  · rfl

theorem causesFrom_trans (h : t = s.causesFrom t) (h' : u = t.causesFrom u) : u = s.causesFrom u :=
  h'.trans (show _ = (s.causesFrom t).causesFrom u from congrArg (State.causesFrom · u) h)

theorem raiseM_causesFrom (s : State) (c : Cause) : (m : Mark) → s.raiseM c m = s.causesFrom (s.raiseM c m)
  | .real => causesFrom_trans (setCauseM_causesFrom s c .real) (pulseTrip_causesFrom _ c)
  | .live => causesFrom_trans (setCauseM_causesFrom s c .live) (pulseTrip_causesFrom _ c)
  | .shadow => setCauseM_causesFrom s c .shadow

/-- The registers that the clock and supply commands may change. -/
def clockRegs : List Nat :=
  [Reg.CLK.STATUS.addr, Reg.CLK.EVENTS.addr, Reg.GROOM.OP_TIME.addr, Reg.PROBE.SUPPLY.addr, Reg.PROBE.RAILS.addr] ++
    causeWords [46, 44, 5]

/-- `s` with everything that a clock or supply command may move taken from `t`. -/
def State.clockFrom (s t : State) : State := { s.causesFrom t with groom := t.groom, supply := t.supply, injs := t.injs }

/-- On the way from `s` to `t` nothing has moved but what a clock or supply command may move. -/
structure ClockFramed (s t : State) : Prop where
  regs : s.regsBut clockRegs t
  rest : t = s.clockFrom t

theorem ClockFramed.refl (s : State) : ClockFramed s s := ⟨regsBut_refl, rfl⟩

theorem ClockFramed.put {f : Fld} {v : Nat} (h : ClockFramed s t) (hf : f.addr ∈ clockRegs) : ClockFramed s (t.put f v) :=
  ⟨h.regs.put hf, congrArg (State.put · f v) h.rest⟩

theorem ClockFramed.upd {g su i} (h : ClockFramed s t) : ClockFramed s { t with groom := g, supply := su, injs := i } :=
  ⟨h.regs.of_regs rfl, congrArg (fun x : State => { x with groom := g, supply := su, injs := i }) h.rest⟩

theorem ClockFramed.causes (h : ClockFramed s t) (hr : s.regsBut clockRegs u) (hu : u = t.causesFrom u) : ClockFramed s u := by
  refine ⟨hr, ?_⟩
  have hg : u.groom = t.groom := by rw [hu]; rfl
  have hs : u.supply = t.supply := by rw [hu]; rfl
  have hi : u.injs = t.injs := by rw [hu]; rfl
  rw [State.clockFrom, hg, hs, hi]
  exact hu.trans (show _ = (s.clockFrom t).causesFrom u from congrArg (State.causesFrom · u) h.rest)

theorem ClockFramed.raiseM {c : Cause} {m : Mark} (h : ClockFramed s t) (hc : Reg.INT.GRP.CAUSE.addr c.grp ∈ clockRegs) :
    ClockFramed s (t.raiseM c m) :=
  h.causes (h.regs.raiseM hc) (raiseM_causesFrom t c m)

theorem ClockFramed.raise {c : Cause} (h : ClockFramed s t) (hc : Reg.INT.GRP.CAUSE.addr c.grp ∈ clockRegs) :
    ClockFramed s (t.raise c) :=
  h.raiseM (m := .real) hc

theorem ClockFramed.ite {p : Prop} [Decidable p] (h : ClockFramed s t) (h' : ClockFramed s u) : ClockFramed s (if p then t else u) := by
  split
  · exact h
  · exact h'

theorem ClockFramed.setIf {b : Bool} {c : Cause} (h : ClockFramed s t) (hc : Reg.INT.GRP.CAUSE.addr c.grp ∈ clockRegs) :
    ClockFramed s (t.setIf b c) :=
  .ite (h.raise hc) h

theorem ClockFramed.broughtIn {n : Nat} (h : ClockFramed s t) : ClockFramed s (t.broughtIn n) :=
  (h.raise (by decide)).setIf (by decide)

theorem ClockFramed.spareOut (h : ClockFramed s t) : ClockFramed s t.spareOut := h.raise (by decide)

theorem pllLock_addr (p : Nat) : (pllLock p).addr = Reg.CLK.STATUS.addr := by
  unfold pllLock; split <;> rfl

theorem ClockFramed.putLock {p v : Nat} (h : ClockFramed s t) : ClockFramed s (t.put (pllLock p) v) :=
  h.put (by rw [pllLock_addr]; decide)

theorem ClockFramed.pllToGroomer {p : Nat} (h : ClockFramed s t) : ClockFramed s (t.pllToGroomer p) := .ite h h.upd

theorem ClockFramed.pllCaused {p : Nat} (h : ClockFramed s t) : ClockFramed s (t.pllCaused p) :=
  .ite (h.upd.raise (by decide)) h.upd.pllToGroomer

theorem ClockFramed.bridge (h : ClockFramed s t) : ClockFramed s t.bridge :=
  have h1 := (((h.put (by decide)).put (by decide)).put (by decide)).raise (by decide)
  .ite h1.upd h1.spareOut

theorem ClockFramed.bridgeEnd {p : Nat} (h : ClockFramed s t) : ClockFramed s (t.bridgeEnd p) :=
  ((h.put (by decide)).putLock.put (by decide)).upd.pllToGroomer

theorem ClockFramed.refLoss {m : Mark} (h : ClockFramed s t) : ClockFramed s (t.refLoss m) :=
  .ite ((((h.put (by decide)).put (by decide)).put (by decide)).raiseM (by decide)) h

theorem ClockFramed.opTick (h : ClockFramed s t) : ClockFramed s t.opTick :=
  .ite (.ite h.upd (h.upd.put (by decide))) h

theorem clockFramed_pllSwitch (h : execPllSwitch s = .next t) : ClockFramed s t := by
  unfold execPllSwitch at h
  dsimp only at h
  split_ifs at h <;> obtain rfl := Host.Outcome.next.inj h
  · exact (((((ClockFramed.refl s).putLock).put (by decide)).put (by decide)).raise (by decide)).pllCaused.broughtIn
  · exact (ClockFramed.refl s).bridge
  · exact .refl s

theorem clockFramed_refLoss (h : execRefLoss s = .next t) : ClockFramed s t := by
  obtain rfl := Host.Outcome.next.inj h
  exact .ite (ClockFramed.refl s).upd (ClockFramed.refl s).refLoss

theorem clockFramed_refReturn (h : execRefReturn s = .next t) : ClockFramed s t := by
  unfold execRefReturn at h
  split at h <;> obtain rfl := Host.Outcome.next.inj h
  · have h1 := ((ClockFramed.refl s).put (f := Reg.CLK.STATUS.REF_OK) (v := 1) (by decide)).put
      (f := Reg.CLK.STATUS.HOLDOVER) (v := 0) (by decide)
    exact .ite h1.upd h1
  · exact .refl s

theorem clockFramed_pllBoth (h : execPllBoth s = .next t) : ClockFramed s t := by
  unfold execPllBoth at h
  split at h <;> obtain rfl := Host.Outcome.next.inj h
  · exact (ClockFramed.refl s).bridge
  · exact .refl s

theorem clockFramed_bridgeToPll {a b : Bool} (h : execBridgeToPll a b s = .next t) : ClockFramed s t := by
  unfold execBridgeToPll at h
  split at h <;> obtain rfl := Host.Outcome.next.inj h
  · exact ClockFramed.bridgeEnd (.ite (ClockFramed.refl s).putLock (.refl s))
  · exact .refl s

theorem clockFramed_pllSpareTestEnd {ok : Bool} (h : execPllSpareTestEnd ok s = .next t) : ClockFramed s t := by
  unfold execPllSpareTestEnd at h
  split at h <;> obtain rfl := Host.Outcome.next.inj h
  · exact .refl s
  · exact (ClockFramed.refl s).upd.putLock

theorem clockFramed_railExcursion {rail : Fin 6} {band : Fin 3} (h : execRailExcursion rail band s = .next t) :
    ClockFramed s t := by
  obtain rfl := Host.Outcome.next.inj h
  exact (((ClockFramed.refl s).put (f := ⟨Reg.PROBE.RAILS.addr, rail.val, 1⟩)
    (show Reg.PROBE.RAILS.addr ∈ clockRegs by decide)).setIf (by decide)).setIf (by decide)

end Sys2Proof.Machine

section
open Sys2Proof.Machine

/-- Settles O2: each command keeps `ClockFramed`, by the rule for each function that it calls. -/
theorem clockAndSupplyFrame : Obligations.ClockAndSupplyFrame := by
  unfold Obligations.ClockAndSupplyFrame
  intro c s t hc ht
  suffices h : ClockFramed s t from ⟨h.regs, h.rest⟩
  have h0 := ClockFramed.refl s
  rcases hc with hc | ⟨a, b, rfl⟩ | ⟨ok, rfl⟩ | ⟨p, rfl | rfl⟩ | ⟨code, rfl⟩ | ⟨rail, band, rfl⟩
  · simp only [List.mem_cons, List.not_mem_nil, or_false] at hc
    rcases hc with rfl | rfl | rfl | rfl | rfl | rfl | rfl | rfl
    · exact clockFramed_pllSwitch ht
    · exact clockFramed_refLoss ht
    · obtain rfl := Host.Outcome.next.inj ht; exact h0.setIf (by decide)
    · exact clockFramed_refReturn ht
    · exact clockFramed_pllBoth ht
    · obtain rfl := Host.Outcome.next.inj ht; exact h0.raise (by decide)
    · obtain rfl := Host.Outcome.next.inj ht; exact h0.upd
    · obtain rfl := Host.Outcome.next.inj ht; exact h0.upd
  · exact clockFramed_bridgeToPll ht
  · exact clockFramed_pllSpareTestEnd ht
  · obtain rfl := Host.Outcome.next.inj ht; exact h0.upd.setIf (by decide)
  · obtain rfl := Host.Outcome.next.inj ht; exact h0.upd.setIf (by decide)
  · obtain rfl := Host.Outcome.next.inj ht; exact (h0.put (by decide)).opTick
  · exact clockFramed_railExcursion ht
end
end

section
/-! What the clock and supply commands do to CLK.STATUS, the supply and the causes (R27 to R31, R51, R52, R422, R423, R440). -/

namespace Sys2Proof.Machine

variable {s : State}

/-- A bring-in moves no register but the causes of Groomer. -/
theorem regsBut_broughtIn (s : State) (n : Nat) : s.regsBut (causeWords [5]) (s.broughtIn n) :=
  (regsBut_refl.raise (by decide)).setIf (by decide)

theorem regsBut_spareOut (s : State) : s.regsBut (causeWords [5]) s.spareOut := regsBut_refl.raise (by decide)

theorem regs_pllToGroomer (s : State) (p : Nat) : (s.pllToGroomer p).regs = s.regs := by
  unfold State.pllToGroomer
  split <;> rfl

/-- A switchover of a PLL moves no register but the causes of Groomer. -/
theorem regsBut_pllCaused (s : State) (p : Nat) : s.regsBut (causeWords [5]) (s.pllCaused p) := by
  unfold State.pllCaused
  dsimp only
  split
  · exact (regsBut_refl.of_regs rfl).raise (by decide)
  · exact regsBut_refl.of_regs (regs_pllToGroomer _ p)

theorem pllSwitch_runs (ha : s.flag (pllLock (s.get Reg.CLK.STATUS.ACTIVE)) = true)
    (hb : s.flag (pllLock (1 - s.get Reg.CLK.STATUS.ACTIVE)) = true) (hbr : s.flag Reg.CLK.STATUS.BRIDGE = false)
    (ht : s.underTest (0x71 - s.get Reg.CLK.STATUS.ACTIVE) = false) :
    Runs .pllSwitch s (fun t => t.get Reg.CLK.STATUS.ACTIVE = 1 - s.get Reg.CLK.STATUS.ACTIVE ∧
      t.flag (pllLock (s.get Reg.CLK.STATUS.ACTIVE)) = false ∧
      t.flag (pllLock (1 - s.get Reg.CLK.STATUS.ACTIVE)) = true ∧ t.causeSet ⟨46, 0⟩ = true) := by
  have hlt := get_lt s Reg.CLK.STATUS.ACTIVE
  refine ⟨_, if_pos (by simp [ha, hb, hbr, ht]), ?_⟩
  generalize s.get Reg.CLK.STATUS.ACTIVE = a at *
  have h := fun u : State => (regsBut_pllCaused u a).trans (regsBut_broughtIn _ 0)
  have hmem : Reg.CLK.STATUS.addr ∉ causeWords [5] := by decide
  have hlock (p : Nat) : (pllLock p).addr ∉ causeWords [5] := by rw [pllLock_addr]; exact hmem
  rw [(h _).get hmem, (h _).flag (hlock _), (h _).flag (hlock _), (h _).causeSet (by decide)]
  obtain rfl | rfl : a = 0 ∨ a = 1 := by
    have : a < 2 := hlt
    omega
  all_goals
    simpa (disch := decide) [State.flag, pllLock, State.get_raise, State.bump, State.get_put_ne, State.get_put_same,
      State.causeSet_raise] using hb

/-- With no PLL that drives the root its locks are clear, the bridge oscillator runs, and the cause stands. -/
theorem bridge_reads (s : State) : s.bridge.get Reg.CLK.STATUS.PLLA_LOCK = 0 ∧ s.bridge.get Reg.CLK.STATUS.PLLB_LOCK = 0 ∧
    s.bridge.get Reg.CLK.STATUS.BRIDGE = 1 ∧ s.bridge.causeSet ⟨46, 3⟩ = true := by
  obtain ⟨s1, hs1⟩ : ∃ s1, s1 =
    (((s.put Reg.CLK.STATUS.PLLA_LOCK 0).put Reg.CLK.STATUS.PLLB_LOCK 0).put Reg.CLK.STATUS.BRIDGE 1).raise ⟨46, 3⟩ := ⟨_, rfl⟩
  have hb : s1.regsBut (causeWords [5]) s.bridge := by
    unfold State.bridge
    dsimp only
    rw [← hs1]
    split
    · exact regsBut_refl.of_regs rfl
    · exact regsBut_spareOut s1
  have hmem : Reg.CLK.STATUS.addr ∉ causeWords [5] := by decide
  rw [hb.get hmem, hb.get hmem, hb.get hmem, hb.causeSet (by decide), hs1]
  simp (disch := decide) [State.get_raise, State.get_put_ne, State.get_put_same, State.causeSet_raise]

theorem pllWait_bridge (ht : s.underTest (0x71 - s.get Reg.CLK.STATUS.ACTIVE) = true) : s.bridge.groom.pllWait = true := by
  unfold State.bridge
  dsimp only
  rw [if_pos ht]

theorem pllSwitch_bridges (hr : s.clk.rootRuns = true) (ha : s.flag (pllLock (s.get Reg.CLK.STATUS.ACTIVE)) = true)
    (hbr : s.flag Reg.CLK.STATUS.BRIDGE = false) (ht : s.underTest (0x71 - s.get Reg.CLK.STATUS.ACTIVE) = true) :
    Runs .pllSwitch s (fun t => t.flag Reg.CLK.STATUS.BRIDGE = true ∧ t.get Reg.CLK.STATUS.PLLA_LOCK = 0 ∧
      t.get Reg.CLK.STATUS.PLLB_LOCK = 0 ∧ t.causeSet ⟨46, 3⟩ = true ∧ t.groom.pllWait = true) := by
  obtain ⟨hA, hB, hbridge, hcause⟩ := bridge_reads s
  refine ⟨s.bridge, (if_neg ?_).trans (if_pos ?_), ?_, hA, hB, hcause, pllWait_bridge ht⟩
  · simp [ht]
  · simp [hr, ha, hbr, ht]
  · simp [State.flag, hbridge]

theorem pllSwitch_idle (h : (s.flag (pllLock (s.get Reg.CLK.STATUS.ACTIVE)) && !s.flag Reg.CLK.STATUS.BRIDGE) = false ∨
      (s.underTest (0x71 - s.get Reg.CLK.STATUS.ACTIVE) = false ∧ s.flag (pllLock (1 - s.get Reg.CLK.STATUS.ACTIVE)) = false) ∨
      (s.underTest (0x71 - s.get Reg.CLK.STATUS.ACTIVE) = true ∧ s.clk.rootRuns = false)) : exec .pllSwitch s = .next s := by
  refine (if_neg ?_).trans (if_neg ?_)
  · rcases h with h | ⟨_, h⟩ | ⟨h, _⟩
    · rcases Bool.and_eq_false_iff.mp h with h | h <;> simp [h]
    · simp [h]
    · simp [h]
  · rcases h with h | ⟨h, _⟩ | ⟨_, h⟩
    · rcases Bool.and_eq_false_iff.mp h with h | h <;> simp [h]
    · simp [h]
    · simp [h]

theorem refLoss_runs (hr : s.flag Reg.CLK.STATUS.REF_OK = true) (hw : s.windowAt 0x0B 0 = false) :
    Runs .refLoss s (fun t => t.get Reg.CLK.STATUS.REF_OK = 0 ∧ t.get Reg.CLK.STATUS.HOLDOVER = 1 ∧ t.causeSet ⟨46, 1⟩ = true) := by
  refine ⟨_, rfl, ?_⟩
  simp (disch := decide) [State.heldAct, hw, State.refLoss, hr, State.get_raiseM, State.bump, State.get_put_ne,
    State.get_put_same, State.causeSet_raiseM]

theorem refLoss_idle (hw : s.windowAt 0x0B 0 = false) (hr : s.flag Reg.CLK.STATUS.REF_OK = false) :
    exec .refLoss s = .next s :=
  congrArg Host.Outcome.next ((if_neg (Bool.eq_false_iff.mp hw)).trans (if_neg (Bool.eq_false_iff.mp hr)))

theorem refLoss_held (hw : s.windowAt 0x0B 0 = true) : Runs .refLoss s (fun t => t.regs = s.regs ∧ t.clk = s.clk) := by
  refine ⟨s.noteSeen 1, congrArg Host.Outcome.next (if_pos hw), rfl, rfl⟩

theorem regs_heldEnd (s : State) (target index : Nat) : (s.heldEnd target index).regs = s.regs := by
  unfold State.heldEnd
  split <;> rfl

theorem refReturn_runs (hr : s.clk.rootRuns = true) :
    Runs .refReturn s (fun t => t.get Reg.CLK.STATUS.REF_OK = 1 ∧ t.get Reg.CLK.STATUS.HOLDOVER = 0) := by
  refine ⟨_, if_pos hr, ?_, ?_⟩
  all_goals
    rw [State.get_congr (regs_heldEnd _ _ _)]
    simp (disch := decide) [State.get_put_ne, State.get_put_same]

theorem pllBoth_runs (hr : s.clk.rootRuns = true) (hbr : s.flag Reg.CLK.STATUS.BRIDGE = false) :
    Runs .pllBoth s (fun t => t.get Reg.CLK.STATUS.PLLA_LOCK = 0 ∧ t.get Reg.CLK.STATUS.PLLB_LOCK = 0 ∧
      t.get Reg.CLK.STATUS.BRIDGE = 1 ∧ t.causeSet ⟨46, 3⟩ = true) :=
  ⟨s.bridge, if_pos (by simp [hr, hbr]), bridge_reads s⟩

theorem pllBoth_idle (h : s.clk.rootRuns = false ∨ s.flag Reg.CLK.STATUS.BRIDGE = true) : exec .pllBoth s = .next s := by
  refine if_neg ?_
  rcases h with h | h <;> simp [h]

/-- The root has moved from the bridge oscillator to PLL p; no cause is set. -/
theorem bridgeEnd_reads (s : State) (p : Nat) (hp : p < 2) : (s.bridgeEnd p).get Reg.CLK.STATUS.BRIDGE = 0 ∧
    (s.bridgeEnd p).get Reg.CLK.STATUS.ACTIVE = p ∧ (s.bridgeEnd p).flag (pllLock p) = true ∧
    (s.bridgeEnd p).causeSet ⟨46, 0⟩ = s.causeSet ⟨46, 0⟩ := by
  have hr : (s.bridgeEnd p).regs = (((s.put Reg.CLK.STATUS.BRIDGE 0).put (pllLock p) 1).put Reg.CLK.STATUS.ACTIVE p).regs :=
    regs_pllToGroomer _ _
  rw [State.flag, State.get_congr hr, State.get_congr hr, State.get_congr hr, State.causeSet_congr hr]
  obtain rfl | rfl : p = 0 ∨ p = 1 := by omega
  all_goals simp (disch := decide) [pllLock, State.get_put_ne, State.get_put_same, State.causeSet_put]

theorem bridgeToPll_runs {a b : Bool} (hab : (a || b) = true) (hbr : s.flag Reg.CLK.STATUS.BRIDGE = true) :
    Runs (.bridgeToPll a b) s (fun t => t.get Reg.CLK.STATUS.BRIDGE = 0 ∧
      t.get Reg.CLK.STATUS.ACTIVE = (if a then 0 else 1) ∧ t.flag (pllLock (if a then 0 else 1)) = true ∧
      t.causeSet ⟨46, 0⟩ = s.causeSet ⟨46, 0⟩) := by
  refine ⟨_, if_pos (by simp [hbr, hab]), ?_⟩
  have hp : (if a = true then 0 else 1) < 2 := by split <;> decide
  obtain ⟨hbridge, hactive, hlock, hcause⟩ := bridgeEnd_reads (if a && b then s.put (pllLock 1) 1 else s) _ hp
  refine ⟨hbridge, hactive, hlock, hcause.trans ?_⟩
  split
  · exact State.causeSet_put s _ _ _ (by decide)
  · rfl

theorem bridgeToPll_idle {a b : Bool} (h : (a || b) = false ∨ s.flag Reg.CLK.STATUS.BRIDGE = false) :
    exec (.bridgeToPll a b) s = .next s := by
  refine if_neg ?_
  rcases h with h | h <;> simp [h]

theorem pllSpareTestEnd_runs {p : Nat} (ok : Bool) (h : s.groom.pllTest = some p) :
    Runs (.pllSpareTestEnd ok) s (fun t => t.groom.pllTest = none ∧ t.flag (pllLock p) = ok) := by
  have he : execPllSpareTestEnd ok s =
      .next (State.put { s with groom := { s.groom with pllTest := none } } (pllLock p) (b2n ok)) := by
    simp only [execPllSpareTestEnd, h]
  have hw : (pllLock p).width = 1 ∧ (pllLock p).lsb + (pllLock p).width ≤ 32 := by
    unfold pllLock; split <;> decide
  refine ⟨_, he, rfl, ?_⟩
  rw [State.flag, State.get_put_same _ _ _ hw.2, hw.1]
  cases ok <;> rfl

theorem pllSpareTestEnd_idle (ok : Bool) (h : s.groom.pllTest = none) : exec (.pllSpareTestEnd ok) s = .next s := by
  show execPllSpareTestEnd ok s = _
  simp only [execPllSpareTestEnd, h]

theorem opTick_regsBut (s : State) : s.regsBut [Reg.GROOM.OP_TIME.addr] s.opTick := by
  unfold State.opTick
  split
  · dsimp only
    split
    · exact regsBut_refl.of_regs rfl
    · exact (regsBut_refl.of_regs rfl).put (by decide)
  · exact regsBut_refl

/-- A comparator of AUX_IN sets its cause while it stands outside, and the supply stays as noted. -/
theorem setIf_supply_cause (s : State) (p : Bool) (c : Cause) (hc : c.bit < 32) :
    (s.setIf p c).supply = s.supply ∧ (s.setIf p c).causeSet c = (p || s.causeSet c) := by
  refine ⟨State.setIf_supply s p c, ?_⟩
  rw [causeSet_setIf_eq _ _ _ hc, decide_eq_true rfl, Bool.and_true, Bool.or_comm]

theorem auxHigh_runs (p : Bool) : Runs (.auxHigh p) s (fun t => t.supply.above36 = p ∧
    t.supply.below16 = s.supply.below16 ∧ t.causeSet ⟨44, 0⟩ = (p || s.causeSet ⟨44, 0⟩)) := by
  obtain ⟨hsupply, hcause⟩ := setIf_supply_cause { s with supply := { s.supply with above36 := p } } p ⟨44, 0⟩ (by decide)
  exact ⟨_, rfl, by rw [hsupply], by rw [hsupply], hcause⟩

theorem auxLow_runs (p : Bool) : Runs (.auxLow p) s (fun t => t.supply.below16 = p ∧
    t.supply.above36 = s.supply.above36 ∧ t.causeSet ⟨44, 1⟩ = (p || s.causeSet ⟨44, 1⟩)) := by
  obtain ⟨hsupply, hcause⟩ := setIf_supply_cause { s with supply := { s.supply with below16 := p } } p ⟨44, 1⟩ (by decide)
  exact ⟨_, rfl, by rw [hsupply], by rw [hsupply], hcause⟩

theorem auxMeasure_runs (code : BitVec 16) :
    Runs (.auxMeasure code) s (fun t => t.get Reg.PROBE.SUPPLY.AUX = code.toNat) := by
  refine ⟨_, rfl, ((opTick_regsBut _).get (by decide)).trans ?_⟩
  rw [State.get_put_same _ _ _ (by decide)]
  exact Nat.mod_eq_of_lt code.isLt

theorem railExcursion_runs (rail : Fin 6) (band : Fin 3) : Runs (.railExcursion rail band) s (fun t =>
    t.get ⟨Reg.PROBE.RAILS.addr, rail.val, 1⟩ = (if band.val = 0 then 0 else 1) ∧
    t.causeSet ⟨44, 3⟩ = (s.causeSet ⟨44, 3⟩ || (decide (band.val ≠ 0) && !s.flag ⟨Reg.PROBE.RAILS.addr, rail.val, 1⟩)) ∧
    t.causeSet ⟨44, 4⟩ = (s.causeSet ⟨44, 4⟩ || decide (band.val = 2))) := by
  have hout (g : Nat) : s.regsBut [Reg.PROBE.RAILS.addr] (s.put ⟨Reg.PROBE.RAILS.addr, rail.val, 1⟩ g) :=
    regsBut_refl.put (List.mem_singleton_self _)
  have hw : rail.val + 1 ≤ 32 := by omega
  refine ⟨_, rfl, ?_, ?_, ?_⟩
  · have haddr : Reg.PROBE.RAILS.addr ≠ Reg.INT.GRP.CAUSE.addr 44 := by decide
    rw [State.get_setIf _ _ _ _ haddr, State.get_setIf _ _ _ _ haddr, State.get_put_same _ _ _ hw]
    by_cases hb : band.val = 0 <;> simp [b2n, hb]
  · simp (disch := decide) [causeSet_setIf_eq, (hout _).causeSet]
  · simp (disch := decide) [causeSet_setIf_eq, (hout _).causeSet]

end Sys2Proof.Machine

section
open Sys2Proof.Machine

/-- Settles O1: what each command writes, by its condition. With the other PLL under an on-demand test the root bridges, and the
failure waits for the end of the test (log entries 65 and 95). -/
theorem clockAndSupplyCommandsRun : Obligations.ClockAndSupplyCommandsRun := by
  unfold Obligations.ClockAndSupplyCommandsRun
  intro s
  refine ⟨pllSwitch_runs, refLoss_runs, fun h => ⟨_, rfl, causeSet_setIf_same (by decide) h⟩, refReturn_runs, pllBoth_runs,
    fun _ _ => bridgeToPll_runs, fun _ => pllSpareTestEnd_runs, pllSpareTestEnd_idle, pllSwitch_idle, pllSwitch_bridges,
    fun _ _ => bridgeToPll_idle, refLoss_idle, refLoss_held, fun h => congrArg Host.Outcome.next (if_neg (Bool.eq_false_iff.mp h)),
    fun h => if_neg (by simp [h]), pllBoth_idle,
    auxHigh_runs, auxLow_runs, ⟨_, rfl, State.causeSet_raise s _ (by decide), State.raise_supply s _⟩,
    ⟨_, rfl, rfl, rfl⟩, ⟨_, rfl, rfl, rfl⟩, auxMeasure_runs, railExcursion_runs⟩
end
end

section
/-! The time of day between two epochs: readings, PPS, the servo, the armed SYNC and the TIME injections (R474 to R486, R509,
R510). -/

namespace Sys2Proof.Machine

variable {s : State}

/-- The cycle of the running epoch stands in the clock alone. -/
theorem exists_edgeNow (s : State) : ∃ f x, s.edgeNow = { s with freeCount := f, clk := x } := by
  obtain ⟨x, hx⟩ := exists_edgeTo s.fresh.2 (s.clk.edge + s.fresh.1.toNat % (4500 - s.clk.edge))
  exact ⟨_, x, hx⟩

/-! ## SET, readings and PPS -/

theorem timeSet_runs (h : s.get Reg.TIME.CFG.SOURCE = 0) : Runs .timeSet s (fun t => t.time.setAt = some s.timeArg ∧
    t.tod = s.tod ∧ t.flag Reg.TIME.STATUS.VALID = true ∧ t.get Reg.TIME.CMD_STATUS.CODE = codeOk) := by
  refine ⟨_, if_pos h, rfl, rfl, ?_, State.get_status _ _ _⟩
  simp (disch := decide) [State.flag, State.get_status_ne, State.get_put_same]

theorem timeSet_denied (h : s.get Reg.TIME.CFG.SOURCE ≠ 0) : Runs .timeSet s (fun t => t.time = s.time ∧ t.tod = s.tod ∧
    t.causeSet ⟨42, 10⟩ = true ∧ t.get Reg.TIME.CMD_STATUS.CODE = codeDenied) :=
  ⟨_, if_neg h, State.deny_time s _ _, State.deny_tod s _ _, State.causeSet_deny s _ _ (by decide),
    State.get_deny_code s _ _ (by decide)⟩

/-- PPS_IN_EDGE takes an edge where its spacing from the latest accepted one is right. -/
theorem ppsFits_iff (x : Int) : s.ppsFits x = true ↔ ∀ p, s.time.ppsAt = some p → s.time.ppsLost = true ∨
    msUnits 3000 < x - (p + s.time.ppsMove) ∨
      (msUnits 999 ≤ x - (p + s.time.ppsMove) ∧ x - (p + s.time.ppsMove) ≤ msUnits 1001) := by
  unfold State.ppsFits
  cases s.time.ppsAt with
  | none => simp
  | some p => simp [or_assoc]

theorem ppsInEdge_taken (after : Nat) (hr : s.clk.rootRuns = true) (h : s.ppsFits (s.edgeTo after).todUnits = true) :
    Runs (.ppsInEdge after) s (fun t => t.time.ppsAt = some (s.edgeTo after).todUnits ∧ t.time.ppsLost = false ∧
      t.time.ppsDue = true ∧ t.time.ppsMove = 0 ∧
      t.rd Reg.TIME.PPS_IN_S.addr = BitVec.ofNat 32 (todOf (s.edgeTo after).todUnits).sec) :=
  ⟨_, (if_pos hr).trans (if_pos h), rfl, rfl, rfl, rfl, State.rd_wr_same _ _ _⟩

theorem ppsInEdge_bad (after : Nat) (hr : s.clk.rootRuns = true) (h : s.ppsFits (s.edgeTo after).todUnits = false) :
    Runs (.ppsInEdge after) s (fun t => t.time = s.time ∧ t.tod = s.tod ∧ t.causeSet ⟨42, 4⟩ = true) := by
  obtain ⟨c, hc⟩ := exists_edgeTo s after
  refine ⟨_, (if_pos hr).trans (if_neg (Bool.eq_false_iff.mp h)), ?_, ?_,
    State.causeSet_raise _ _ (by decide)⟩
  · rw [State.raise_time, hc]
  · rw [State.raise_tod, hc]

theorem ppsOutPulse_runs (s : State) : Runs .ppsOutPulse s (fun t => t.time.ppsOut = (s.time.ppsOut ||
    (s.flag Reg.TIME.CFG.PPS_OUT_EN && s.flag Reg.TIME.STATUS.VALID && decide (s.life = .run))) ∧ t.regs = s.regs) :=
  ⟨_, rfl, rfl, rfl⟩

theorem todOf_ns_lt (u : Int) : (todOf u).ns < 2 ^ 30 := by
  have : (todOf u).ns < 1000000000 := Nat.mod_lt _ (by decide)
  omega

theorem timeNowRead_runs (s : State) (after : Nat) : Runs (.timeNowRead after) s (fun t =>
    let x := todOf (s.edgeTo after).todUnits
    t.rd Reg.TIME.NOW_S_LO.addr = BitVec.ofNat 32 x.sec ∧ t.get Reg.TIME.NOW_NS.NS = x.ns ∧ t.tod = s.tod) := by
  obtain ⟨c, hc⟩ := exists_edgeTo s after
  refine ⟨_, rfl, ?_, ?_, ?_⟩
  · simp (disch := decide) only [State.rd_put_other, State.rd_wr_same]
  · simp (disch := decide) only [State.get_put_ne, State.get_put_same]
    exact Nat.mod_eq_of_lt (todOf_ns_lt _)
  · simp only [State.put_tod, State.wr_tod, hc]

/-- Within an epoch the counter advances evenly with its cycles. -/
theorem todUnits_edgeTo (hr : s.clk.rootRuns = true) {after : Nat} (hle : s.clk.edge ≤ after) (hlt : after < 4500) :
    (s.edgeTo after).todUnits = s.tod.units + s.time.advance * (after : Int) / 4500 := by
  have : max s.clk.edge (min after 4499) = after := by omega
  simp only [State.edgeTo, hr, if_true, State.todUnits, this]

theorem ppsInRead_of_edge {p : Int} (h : s.time.ppsAt = some p) :
    Runs .ppsInRead s (fun t => t.get Reg.TIME.PPS_IN_NS.NS = (todOf p).ns) := by
  refine ⟨_, rfl, (State.get_put_same _ _ _ (by decide)).trans ?_⟩
  rw [h]
  exact Nat.mod_eq_of_lt (todOf_ns_lt p)

theorem ppsInRead_of_none (h : s.time.ppsAt = none) : Runs .ppsInRead s (fun t => t.get Reg.TIME.PPS_IN_NS.NS = 0) := by
  refine ⟨_, rfl, (State.get_put_same _ _ _ (by decide)).trans ?_⟩
  rw [h]
  rfl

/-! ## The reference and its loss -/

theorem referenceLoss_idle (h : s.hasRef = false ∨ s.flag Reg.TIME.STATUS.HOLDOVER = true) : exec .referenceLoss s = .next s := by
  refine congrArg Host.Outcome.next ?_
  unfold State.refLostHold State.todHold
  rcases h with h | h <;> simp [h]

/-- What a loss of the reference leaves: holdover, no active source, the cause, and RATE as it was or at its mean. -/
theorem todHold_reads (m : Mark) (hh : s.flag Reg.TIME.STATUS.HOLDOVER = false) :
    (s.todHold m).flag Reg.TIME.STATUS.HOLDOVER = true ∧ (s.todHold m).get Reg.TIME.STATUS.ACTIVE = 0 ∧
    (s.todHold m).causeSet ⟨42, 2⟩ = true ∧ (s.todHold m).rd Reg.TIME.RATE.addr = if s.time.rates = [] then s.rd Reg.TIME.RATE.addr
      else BitVec.ofInt 32 (s.time.rates.sum / (s.time.rates.length : Int)) := by
  unfold State.todHold
  rw [hh]
  refine ⟨?_, ?_, State.causeSet_raiseM _ _ _ (by decide), ?_⟩
  · simp (disch := decide) [State.flag, State.get_raiseM, State.get_put_ne, State.get_put_same]
  · simp (disch := decide) [State.get_raiseM, State.get_put_same]
  · simp (disch := decide) only [State.rd_raiseM, State.rd_put_other, Bool.false_eq_true, if_false]
    split
    · rfl
    · exact State.rd_wr_same _ _ _

theorem referenceLoss_next (hr : s.hasRef = true) : exec .referenceLoss s = .next (s.todHold .real) :=
  congrArg Host.Outcome.next (if_pos hr)

/-! ## The armed SYNC -/

/-- What SYNC_ARM asks for: slots at rest, time valid, and an instant 1 ms or more ahead. -/
def State.mayArm (s : State) : Bool :=
  s.allResting && s.flag Reg.TIME.STATUS.VALID && decide (1000000 ≤ nsBetween s.now.1 s.timeArg)

theorem execSyncArm_eq (s : State) : execSyncArm s = if s.mayArm then
      .next ((State.put { s.now.2 with time := { s.time with syncAt := some s.timeArg } } Reg.TIME.STATUS.SYNC_ARMED 1).status
        Reg.TIME.CMD_STATUS.addr codeOk)
    else .next (s.now.2.deny Reg.TIME.CMD_STATUS.addr ⟨42, 10⟩) := by
  obtain ⟨f, x, h⟩ : ∃ f x, s.now.2 = { s with freeCount := f, clk := x } := exists_edgeNow s
  have hnow : s.now = (s.now.1, { s with freeCount := f, clk := x }) := Prod.ext rfl h
  unfold execSyncArm State.mayArm
  rw [hnow]
  rfl

theorem syncArm_armed (h : s.mayArm = true) : Runs .syncArm s (fun t => t.time.syncAt = some s.timeArg ∧
    t.flag Reg.TIME.STATUS.SYNC_ARMED = true ∧ t.get Reg.TIME.CMD_STATUS.CODE = codeOk) := by
  refine ⟨_, (execSyncArm_eq s).trans (if_pos h), rfl, ?_, State.get_status _ _ _⟩
  simp (disch := decide) [State.flag, State.get_status_ne, State.get_put_same]

theorem syncArm_denied (h : s.mayArm = false) : Runs .syncArm s (fun t => t.time.syncAt = s.time.syncAt ∧
    t.causeSet ⟨42, 10⟩ = true ∧ t.get Reg.TIME.CMD_STATUS.CODE = codeDenied) := by
  obtain ⟨f, x, hx⟩ : ∃ f x, s.now.2 = { s with freeCount := f, clk := x } := exists_edgeNow s
  refine ⟨_, (execSyncArm_eq s).trans (if_neg (Bool.eq_false_iff.mp h)), ?_, State.causeSet_deny _ _ _ (by decide),
    State.get_deny_code _ _ _ (by decide)⟩
  rw [State.deny_time, hx]

theorem mayArm_iff : s.mayArm = true ↔
    s.allResting = true ∧ s.flag Reg.TIME.STATUS.VALID = true ∧ 1000000 ≤ nsBetween s.now.1 s.timeArg := by
  simp [State.mayArm, and_assoc]

theorem syncCancel_runs (s : State) : Runs .syncCancel s (fun t => t.time.syncAt = none ∧
    t.flag Reg.TIME.STATUS.SYNC_ARMED = false ∧ t.get Reg.TIME.CMD_STATUS.CODE = codeOk) := by
  refine ⟨_, rfl, rfl, ?_, State.get_status _ _ _⟩
  simp (disch := decide) [State.flag, State.disarmSync, State.get_status_ne, State.get_put_same]

theorem execTimeSyncFire_of_armed {a : Nat × Nat} (h : s.time.syncAt = some a) : execTimeSyncFire s = if s.allResting then
      .next (State.raise { s.disarmSync.sync with time := { s.disarmSync.time with syncLast := a } } ⟨42, 5⟩)
    else .next (s.disarmSync.raise ⟨42, 6⟩) := by
  simp only [execTimeSyncFire, h]
  rfl

theorem timeSyncFire_fires {a : Nat × Nat} (h : s.time.syncAt = some a) (hr : s.allResting = true) :
    Runs .timeSyncFire s (fun t => t.time.syncAt = none ∧ t.time.syncLast = a ∧ t.causeSet ⟨42, 5⟩ = true) := by
  refine ⟨_, (execTimeSyncFire_of_armed h).trans (if_pos hr), ?_, ?_, State.causeSet_raise _ _ (by decide)⟩
  · rw [State.raise_time]; rfl
  · rw [State.raise_time]

theorem timeSyncFire_misses {a : Nat × Nat} (h : s.time.syncAt = some a) (hr : s.allResting = false) :
    Runs .timeSyncFire s (fun t => t.time.syncAt = none ∧ t.legs = s.legs ∧ t.causeSet ⟨42, 6⟩ = true) := by
  refine ⟨_, (execTimeSyncFire_of_armed h).trans (if_neg (Bool.eq_false_iff.mp hr)), ?_, ?_,
    State.causeSet_raise _ _ (by decide)⟩
  · rw [State.raise_time]; rfl
  · rw [State.raise_legs]; rfl

theorem timeSyncFire_idle (h : s.time.syncAt = none) : exec .timeSyncFire s = .next s := by
  show execTimeSyncFire s = _
  simp only [execTimeSyncFire, h]

/-! ## Injections -/

theorem injDoneCause_time : injDoneCause Reg.TIME.INJ_STATUS.addr = none := by
  have h : blockOf Reg.TIME.INJ_STATUS.addr = 2 := by decide
  rw [injDoneCause, h]; rfl

/-- An injection of a block without an INJ_DONE cause ends with its status alone. -/
theorem injEnd_of_no_cause {ctrl : Nat} (h : injDoneCause ctrl = none) (s : State) (code : Nat) :
    s.injEnd ctrl code = { s.status ctrl code with injs := s.injs.filter (fun i => i.ctrl != ctrl) } := by
  conv in State.injEnd => delta State.injEnd
  split
  · rename_i c hc
    exact absurd (h.symm.trans hc) nofun
  · rfl

section
variable {ctrl cls target index : Nat} {denied : Cause} {enabled liveOk : Bool} {start : State → Bool → State}

/-- An injection into an enabled detector, with none pending and, for LIVE, what R389 asks for, is accepted. -/
theorem inject_accepted (hc : cls = 1 ∨ cls = 2) (hn : s.noneRuns ctrl = true) (he : enabled = true)
    (hl : cls = 2 → s.liveAllowed = true ∧ liveOk = true) : s.inject ctrl cls denied enabled liveOk target index start =
      start (s.injStart ⟨ctrl, decide (cls = 2), target, index, 0⟩) (decide (cls = 2)) := by
  refine (if_pos hc).trans (if_neg ?_)
  have hn : (s.injAt ctrl).any (fun j => decide (j.seen ≠ 2)) = false := by simpa only [State.noneRuns, Bool.not_eq_true'] using hn
  rcases hc with rfl | rfl
  · rw [hn]; simp [he]
  · obtain ⟨ha, ho⟩ := hl rfl
    rw [hn]; simp [he, ha, ho]

theorem inject_idle (hc : ¬ (cls = 1 ∨ cls = 2)) : s.inject ctrl cls denied enabled liveOk target index start = s := if_neg hc

theorem inject_denied (hc : cls = 1 ∨ cls = 2)
    (h : s.noneRuns ctrl = false ∨ enabled = false ∨ (cls = 2 ∧ (s.liveAllowed && liveOk) = false)) :
    s.inject ctrl cls denied enabled liveOk target index start = s.deny ctrl denied := by
  refine (if_pos hc).trans (if_pos ?_)
  rcases h with h | h | ⟨rfl, h⟩
  · simp only [State.noneRuns, Bool.not_eq_false'] at h
    rw [h]; rfl
  · simp [h]
  · rw [h]; simp

end

theorem timeInject_idle {cls : Nat} (h1 : cls ≠ 1) (h2 : cls ≠ 2) : exec (.timeInject cls) s = .next s :=
  congrArg Host.Outcome.next (inject_idle (not_or.mpr ⟨h1, h2⟩))

/-- The loss detector of the servo watches a reference. -/
theorem timeInject_accepted {cls : Nat} (hc : cls = 1 ∨ (cls = 2 ∧ s.liveAllowed = true)) (hr : s.hasRef = true)
    (hh : s.flag Reg.TIME.STATUS.HOLDOVER = false) (hn : s.noneRuns Reg.TIME.INJ_STATUS.addr = true) :
    Runs (.timeInject cls) s (fun t => t.get Reg.TIME.INJ_STATUS.CODE = codePending ∧ t.time.withhold = 0 ∧
      t.injs = s.withInj ⟨Reg.TIME.INJ_STATUS.addr, decide (cls = 2), 0, 0, 0⟩) := by
  have he : (s.hasRef && !s.flag Reg.TIME.STATUS.HOLDOVER) = true := by simp [hr, hh]
  have hl : cls = 2 → s.liveAllowed = true ∧ true = true := by
    rintro rfl
    simpa using hc
  exact ⟨_, congrArg Host.Outcome.next (inject_accepted (hc.imp_right And.left) hn he hl), State.get_status s _ _, rfl, rfl⟩

theorem timeInject_denied {cls : Nat} (hc : cls = 1 ∨ cls = 2)
    (h : s.hasRef = false ∨ s.flag Reg.TIME.STATUS.HOLDOVER = true ∨ s.noneRuns Reg.TIME.INJ_STATUS.addr = false ∨
      (cls = 2 ∧ s.liveAllowed = false)) :
    Runs (.timeInject cls) s (fun t => t.get Reg.TIME.INJ_STATUS.CODE = codeDenied ∧ t.injs = s.injs ∧
      t.causeSet ⟨42, 10⟩ = true) := by
  have hd : s.noneRuns Reg.TIME.INJ_STATUS.addr = false ∨ (s.hasRef && !s.flag Reg.TIME.STATUS.HOLDOVER) = false ∨
      (cls = 2 ∧ (s.liveAllowed && true) = false) := by
    rcases h with h | h | h | ⟨h, hl⟩ <;> simp [h]
    simp [hl]
  exact ⟨_, congrArg Host.Outcome.next (inject_denied hc hd), State.get_deny_code s _ _ (by decide), State.deny_injs s _ _,
    State.causeSet_deny s _ _ (by decide)⟩

end Sys2Proof.Machine
end

section
/-! A measurement of the time servo (R477, R479 to R481, R509). -/

namespace Sys2Proof.Machine

variable {s : State} {off : Int}

/-- What a measurement shows before the servo weighs it: OFFSET, no holdover, the source followed. -/
def State.servoShown (s : State) (off : Int) : State :=
  ((s.putOffset off).put Reg.TIME.STATUS.HOLDOVER 0).put Reg.TIME.STATUS.ACTIVE (s.get Reg.TIME.CFG.SOURCE)

/-- OFFSET moves registers, and draws a free value where the register cannot hold it. -/
theorem exists_putOffset (s : State) (off : Int) : ∃ r f, s.putOffset off = { s with regs := r, freeCount := f } := by
  unfold State.putOffset
  dsimp only
  split
  · exact ⟨_, _, rfl⟩
  · exact ⟨_, _, rfl⟩

theorem exists_servoShown (s : State) (off : Int) : ∃ r f, s.servoShown off = { s with regs := r, freeCount := f } := by
  obtain ⟨r, f, h⟩ := exists_putOffset s off
  unfold State.servoShown
  rw [h]
  exact ⟨_, _, rfl⟩

theorem putOffset_regsBut (s : State) (off : Int) : s.regsBut [Reg.TIME.OFFSET.addr] (s.putOffset off) := by
  unfold State.putOffset
  dsimp only
  split
  · exact regsBut_refl.wr (by decide)
  · exact State.regsBut.wr (regsBut_refl.of_regs rfl) (by decide)

theorem servoShown_holdover (s : State) (off : Int) : (s.servoShown off).get Reg.TIME.STATUS.HOLDOVER = 0 := by
  simp (disch := decide) [State.servoShown, State.get_put_ne, State.get_put_same]

theorem servoShown_locked (s : State) (off : Int) : (s.servoShown off).flag Reg.TIME.STATUS.LOCKED = s.flag Reg.TIME.STATUS.LOCKED := by
  simp (disch := decide) only [State.flag, State.servoShown, State.get_put_ne, (putOffset_regsBut s off).get]

theorem servoShown_offset (hlo : -65536000 ≤ off) (hhi : off ≤ 65536000) :
    (s.servoShown off).rd Reg.TIME.OFFSET.addr = BitVec.ofInt 32 (off / 256) := by
  have hr : -(2 ^ 31 : Int) ≤ off / 256 ∧ off / 256 < 2 ^ 31 := by omega
  simp (disch := decide) only [State.servoShown, State.rd_put_other, State.putOffset, hr, and_self, if_true, State.rd_wr_same]

/-- What a measurement that moves no time keeps of what it has shown and counted. -/
structure ServoKept (s t : State) : Prop where
  tod : t.tod = s.tod
  step : t.time.step = s.time.step
  far : t.time.far = s.time.far
  offset : t.rd Reg.TIME.OFFSET.addr = s.rd Reg.TIME.OFFSET.addr
  holdover : t.flag Reg.TIME.STATUS.HOLDOVER = s.flag Reg.TIME.STATUS.HOLDOVER

variable {t : State}

theorem servoRate_regsBut (s : State) : s.regsBut (Reg.TIME.RATE.addr :: causeWords [42]) s.servoRate :=
  State.regsBut.setIf (State.regsBut.wr (regsBut_refl.of_regs rfl) (by decide)) (by decide)

/-- The loop of R479 moves RATE, its history and its cause, and draws a free value. -/
theorem servoKept_servoRate (s : State) : ServoKept s s.servoRate where
  tod := State.setIf_tod _ _ _
  step := by simp [State.servoRate, State.fresh]
  far := by simp [State.servoRate, State.fresh]
  offset := servoRate_regsBut s _ (by decide)
  holdover := (servoRate_regsBut s).flag (by decide)

theorem ServoKept.lockedTo {n : Nat} (h : ServoKept s t) : ServoKept s { t with time := { t.time with lockedTo := n } } :=
  ⟨h.tod, h.step, h.far, h.offset, h.holdover⟩

/-- The servo locks. -/
theorem ServoKept.lock (h : ServoKept s t) :
    ServoKept s (((t.put Reg.TIME.STATUS.LOCKED 1).put Reg.TIME.STATUS.VALID 1).raise ⟨42, 0⟩) where
  tod := (State.raise_tod _ _).trans h.tod
  step := by rw [State.raise_time]; exact h.step
  far := by rw [State.raise_time]; exact h.far
  offset := by
    simp (disch := decide) only [State.rd_raise, State.rd_put_other]
    exact h.offset
  holdover := by
    simp (disch := decide) only [State.flag, State.get_raise, State.get_put_ne]
    exact h.holdover

theorem ServoKept.ite {c : Prop} [Decidable c] {u : State} (ht : ServoKept s t) (hu : ServoKept s u) :
    ServoKept s (if c then t else u) := by
  split
  · exact ht
  · exact hu

/-- A measurement lies beyond 1,000 ns, in 2^-16 ns (R479). -/
def servoBeyond (off : Int) : Bool := decide (1000 * 65536 < max off (-off))

theorem servoBeyond_eq_true (h : off < -65536000 ∨ 65536000 < off) : servoBeyond off = true := decide_eq_true (by omega)

theorem servoBeyond_eq_false (hlo : -65536000 ≤ off) (hhi : off ≤ 65536000) : servoBeyond off = false :=
  decide_eq_false (by omega)

/-- How many measurements in a row have lain beyond it. -/
def State.servoFar (s : State) (off : Int) : Nat :=
  if servoBeyond off && (s.servoShown off).flag Reg.TIME.STATUS.LOCKED then min ((s.servoShown off).time.far + 1) 3 else 0

/-- How many in a row have come within 100 ns. -/
def State.servoNear (s : State) (off : Int) : Nat :=
  if max off (-off) < 100 * 65536 then min ((s.servoShown off).time.near + 1) 16 else 0

/-- What a measurement has shown and counted before it acts. -/
def State.servoCounted (s : State) (off : Int) : State :=
  let t := s.servoShown off
  { t with time := { t.time with far := s.servoFar off, near := s.servoNear off } }

/-- The next root epoch start steps the counter. -/
def State.servoStep (s : State) (off : Int) : State :=
  { s with time := { s.time with step := some (-off), far := 0, near := 0 } }

/-- The loop of R479 follows the measurement, and locks at the sixteenth near one. -/
def State.servoFollow (s : State) (near src : Nat) (locked : Bool) : State :=
  let t := s.servoRate
  let u := if near = 16 then { t with time := { t.time with lockedTo := src } } else t
  if near = 16 ∧ locked = false then ((u.put Reg.TIME.STATUS.LOCKED 1).put Reg.TIME.STATUS.VALID 1).raise ⟨42, 0⟩ else u

/-- The three ways of a measurement. -/
theorem servo_eq (s : State) (off : Int) : s.servo off =
    if servoBeyond off && !(s.servoShown off).flag Reg.TIME.STATUS.LOCKED then (s.servoCounted off).servoStep off
    else if decide (s.servoFar off = 3) then
      (((s.servoCounted off).put Reg.TIME.STATUS.LOCKED 0).raise ⟨42, 1⟩).servoStep off
    else (s.servoCounted off).servoFollow (s.servoNear off) (s.get Reg.TIME.CFG.SOURCE)
      ((s.servoShown off).flag Reg.TIME.STATUS.LOCKED) := rfl

theorem servoShown_time (s : State) (off : Int) : (s.servoShown off).time = s.time := by
  obtain ⟨r, f, h⟩ := exists_servoShown s off
  rw [h]

theorem servoCounted_tod (s : State) (off : Int) : (s.servoCounted off).tod = s.tod := by
  obtain ⟨r, f, h⟩ := exists_servoShown s off
  simp only [State.servoCounted, h]

theorem servoCounted_time (s : State) (off : Int) :
    (s.servoCounted off).time = { s.time with far := s.servoFar off, near := s.servoNear off } := by
  simp only [State.servoCounted, servoShown_time]

theorem servoKept_servoFollow (s : State) (near src : Nat) (locked : Bool) : ServoKept s (s.servoFollow near src locked) := by
  have h : ServoKept s (if near = 16 then { s.servoRate with time := { s.servoRate.time with lockedTo := src } }
      else s.servoRate) := .ite (servoKept_servoRate s).lockedTo (servoKept_servoRate s)
  exact .ite h.lock h

/-- A measurement within 1,000 ns moves no time at once. -/
theorem servo_within (h : servoBeyond off = false) : s.servoFar off = 0 ∧ ServoKept (s.servoCounted off) (s.servo off) := by
  have hfar : s.servoFar off = 0 := by simp [State.servoFar, h]
  refine ⟨hfar, ?_⟩
  rw [servo_eq, if_neg (by simp [h]), if_neg (by simp [hfar])]
  exact servoKept_servoFollow _ _ _ _

/-- Beyond it, a measurement of an unlocked servo steps the counter. -/
theorem servo_unlocked (h : servoBeyond off = true) (hl : s.flag Reg.TIME.STATUS.LOCKED = false) :
    s.servo off = (s.servoCounted off).servoStep off := by
  rw [servo_eq, if_pos (by simp [h, servoShown_locked, hl])]

/-- The third beyond it in a row unlocks a locked servo and steps the counter. -/
theorem servo_third (h : servoBeyond off = true) (hl : s.flag Reg.TIME.STATUS.LOCKED = true) (hf : 2 ≤ s.time.far) :
    s.servo off = (((s.servoCounted off).put Reg.TIME.STATUS.LOCKED 0).raise ⟨42, 1⟩).servoStep off := by
  have hfar : s.servoFar off = 3 := by
    simp only [State.servoFar, h, servoShown_locked, hl, servoShown_time, Bool.and_self, if_true]
    omega
  rw [servo_eq, if_neg (by simp [servoShown_locked, hl]), if_pos (by simp [hfar])]

/-- The first two beyond it are counted by a locked servo, which stays locked. -/
theorem servo_counted (h : servoBeyond off = true) (hl : s.flag Reg.TIME.STATUS.LOCKED = true) (hf : s.time.far < 2) :
    s.servoFar off = s.time.far + 1 ∧ s.servo off = (s.servoCounted off).servoRate := by
  have hfar : s.servoFar off = s.time.far + 1 := by
    simp only [State.servoFar, h, servoShown_locked, hl, servoShown_time, Bool.and_self, if_true]
    omega
  have hnear : s.servoNear off = 0 := if_neg (by simp only [servoBeyond, decide_eq_true_eq] at h; omega)
  refine ⟨hfar, ?_⟩
  rw [servo_eq, if_neg (by simp [servoShown_locked, hl]), if_neg (by simp [hfar]; omega), hnear]
  rfl

/-! ## SERVO_MEASUREMENT -/

/-- The module at the cycle of a measurement, whose PPS edge waits no more. -/
def State.measured (s : State) (sm : ServoMeas) : State :=
  let t := s.edgeTo sm.after
  { t with time := { t.time with ppsDue := false } }

section
variable (s : State) (sm : ServoMeas)

/-- Of what a measurement weighs, its cycle moves nothing. -/
theorem measured_same : (s.measured sm).regs = s.regs ∧ (s.measured sm).tod = s.tod ∧ (s.measured sm).injs = s.injs ∧
    (s.measured sm).time = { s.time with ppsDue := false } := by
  obtain ⟨x, h⟩ := exists_edgeTo s sm.after
  rw [State.measured, h]
  exact ⟨rfl, rfl, rfl, rfl⟩

theorem measured_tod : (s.measured sm).tod = s.tod := by
  obtain ⟨_, htod, _⟩ := measured_same s sm
  exact htod

theorem measured_time : (s.measured sm).time = { s.time with ppsDue := false } := by
  obtain ⟨_, _, _, htime⟩ := measured_same s sm
  exact htime

theorem measured_flag (f : Fld) : (s.measured sm).flag f = s.flag f := by
  obtain ⟨hregs, _⟩ := measured_same s sm
  rw [State.flag, State.get_congr hregs, State.flag]

theorem measured_hasRef : (s.measured sm).hasRef = s.hasRef := by
  obtain ⟨x, h⟩ := exists_edgeTo s sm.after
  rw [State.measured, h]
  rfl

theorem measured_injAt (ctrl : Nat) : (s.measured sm).injAt ctrl = s.injAt ctrl := by
  obtain ⟨_, _, hinjs, _⟩ := measured_same s sm
  rw [State.injAt, hinjs, State.injAt]

end

theorem execServoMeasurement_of_offset {sm : ServoMeas} (h : s.servoOffset sm = some off) :
    execServoMeasurement sm s = .next ((s.measured sm).measure off) := by
  simp only [execServoMeasurement, h]
  rfl

theorem servoMeasurement_idle {sm : ServoMeas} (h : s.servoOffset sm = none) : exec (.servoMeasurement sm) s = .next s := by
  show execServoMeasurement sm s = _
  simp only [execServoMeasurement, h]

theorem measure_of_no_reference (h : s.hasRef = false) (off : Int) : s.measure off = s := if_pos (by simp [h])

theorem measure_of_reference (h : s.hasRef = true) (hi : s.injAt Reg.TIME.INJ_STATUS.addr = none) (off : Int) :
    s.measure off = s.servo off := by
  simp only [State.measure, h, hi, Bool.not_true, Bool.false_eq_true, if_false]

theorem servoMeasurement_without_reference (s : State) (sm : ServoMeas) (h : s.hasRef = false) :
    Runs (.servoMeasurement sm) s (fun t => t.regs = s.regs ∧ t.tod = s.tod ∧ t.time.step = s.time.step) := by
  cases ho : s.servoOffset sm with
  | none => exact ⟨s, servoMeasurement_idle ho, rfl, rfl, rfl⟩
  | some off =>
    have hm := measure_of_no_reference ((measured_hasRef s sm).trans h) off
    obtain ⟨hregs, htod, _, htime⟩ := measured_same s sm
    refine ⟨_, execServoMeasurement_of_offset ho, ?_⟩
    rw [hm]
    exact ⟨hregs, htod, by rw [htime]⟩

/-- The measurements of a followed reference that no injection withholds. -/
theorem servoMeasurement_next {sm : ServoMeas} (ho : s.servoOffset sm = some off) (hr : s.hasRef = true)
    (hi : s.injAt Reg.TIME.INJ_STATUS.addr = none) : exec (.servoMeasurement sm) s = .next ((s.measured sm).servo off) := by
  rw [← measure_of_reference ((measured_hasRef s sm).trans hr) ((measured_injAt s sm _).trans hi)]
  exact execServoMeasurement_of_offset ho

section
variable {sm : ServoMeas} (ho : s.servoOffset sm = some off) (hr : s.hasRef = true)
  (hi : s.injAt Reg.TIME.INJ_STATUS.addr = none)
include ho hr hi

theorem servoMeasurement_within (hlo : -65536000 ≤ off) (hhi : off ≤ 65536000) : Runs (.servoMeasurement sm) s (fun t =>
    t.tod = s.tod ∧ t.time.step = s.time.step ∧ t.time.far = 0 ∧
    t.rd Reg.TIME.OFFSET.addr = BitVec.ofInt 32 (off / 256) ∧ t.flag Reg.TIME.STATUS.HOLDOVER = false) := by
  refine ⟨_, servoMeasurement_next ho hr hi, ?_⟩
  obtain ⟨hfar, hk⟩ := servo_within (s := s.measured sm) (servoBeyond_eq_false hlo hhi)
  refine ⟨?_, ?_, ?_, hk.offset.trans (servoShown_offset hlo hhi), hk.holdover.trans ?_⟩
  · rw [hk.tod, servoCounted_tod, measured_tod]
  · rw [hk.step, servoCounted_time, measured_time]
  · rw [hk.far, servoCounted_time, hfar]
  · rw [State.flag]
    exact decide_eq_false (not_not.mpr (servoShown_holdover _ off))

theorem servoMeasurement_steps (h : off < -65536000 ∨ 65536000 < off)
    (hc : s.flag Reg.TIME.STATUS.LOCKED = false ∨ 2 ≤ s.time.far) : Runs (.servoMeasurement sm) s (fun t => t.tod = s.tod ∧
      t.time.step = some (-off) ∧ t.flag Reg.TIME.STATUS.LOCKED = false ∧ t.time.far = 0 ∧
      (s.flag Reg.TIME.STATUS.LOCKED = true → t.causeSet ⟨42, 1⟩ = true)) := by
  have hb := servoBeyond_eq_true h
  have hl := measured_flag s sm Reg.TIME.STATUS.LOCKED
  refine ⟨_, servoMeasurement_next ho hr hi, ?_⟩
  cases hlock : s.flag Reg.TIME.STATUS.LOCKED with
  | false =>
    rw [servo_unlocked hb (hl.trans hlock)]
    refine ⟨(servoCounted_tod _ off).trans (measured_tod s sm), rfl, ?_, rfl, nofun⟩
    exact ((servoShown_locked _ off).trans hl).trans hlock
  | true =>
    have hfar : 2 ≤ (s.measured sm).time.far := by
      rw [measured_time]
      exact hc.resolve_left (by simp [hlock])
    rw [servo_third hb (hl.trans hlock) hfar]
    refine ⟨?_, rfl, ?_, rfl, fun _ => State.causeSet_raise _ _ (by decide)⟩
    · exact (State.raise_tod _ _).trans ((servoCounted_tod _ off).trans (measured_tod s sm))
    · show State.flag (State.raise _ _) _ = false
      simp (disch := decide) [State.flag, State.get_raise, State.get_put_same]

theorem servoMeasurement_counts (h : off < -65536000 ∨ 65536000 < off) (hlock : s.flag Reg.TIME.STATUS.LOCKED = true)
    (hf : s.time.far < 2) : Runs (.servoMeasurement sm) s (fun t => t.tod = s.tod ∧ t.time.step = s.time.step ∧
      t.time.far = s.time.far + 1 ∧ t.flag Reg.TIME.STATUS.LOCKED = true) := by
  have hl := (measured_flag s sm Reg.TIME.STATUS.LOCKED).trans hlock
  have hf' : (s.measured sm).time.far < 2 := by rw [measured_time]; exact hf
  obtain ⟨hfar, he⟩ := servo_counted (servoBeyond_eq_true h) hl hf'
  have hk := servoKept_servoRate ((s.measured sm).servoCounted off)
  refine ⟨_, servoMeasurement_next ho hr hi, ?_⟩
  rw [he]
  refine ⟨?_, ?_, ?_, ?_⟩
  · rw [hk.tod, servoCounted_tod, measured_tod]
  · rw [hk.step, servoCounted_time, measured_time]
  · rw [hk.far, servoCounted_time, hfar, measured_time]
  · rw [(servoRate_regsBut _).flag (by decide)]
    exact (servoShown_locked _ off).trans hl

end

theorem todHold_withhold (s : State) (m : Mark) : (s.todHold m).time.withhold = s.time.withhold := by
  unfold State.todHold
  split
  · rfl
  · dsimp only
    rw [State.raiseM_time, State.put_time, State.put_time]
    split <;> rfl

theorem refLostHold_withhold (s : State) (m : Mark) : (s.refLostHold m).time.withhold = s.time.withhold := by
  unfold State.refLostHold
  split
  · exact todHold_withhold s m
  · rfl

theorem timeInjEnd_reads (s : State) (code : Nat) : (s.injEnd Reg.TIME.INJ_STATUS.addr code).time = s.time ∧
    (s.injEnd Reg.TIME.INJ_STATUS.addr code).get Reg.TIME.INJ_STATUS.CODE = code % 256 := by
  rw [injEnd_of_no_cause injDoneCause_time]
  exact ⟨rfl, State.get_status s _ _⟩

/-- Under an injection a measurement counts as withheld; from the third on the injection shows its result. -/
theorem measure_injected {i : Inj} (hr : s.hasRef = true) (hi : s.injAt Reg.TIME.INJ_STATUS.addr = some i) :
    (s.measure off).time.withhold = s.time.withhold + 1 ∧ (2 ≤ s.time.withhold →
      (s.measure off).get Reg.TIME.INJ_STATUS.CODE = (if i.live then codeActed else codePass)) := by
  have hctrl : i.ctrl = Reg.TIME.INJ_STATUS.addr := by simpa using List.find?_some hi
  simp only [State.measure, hr, hi, hctrl, Bool.not_true, Bool.false_eq_true, if_false]
  by_cases hk : s.time.withhold + 1 < 3
  · simp only [hk, if_true, true_and]
    omega
  · simp only [hk, if_false]
    cases i.live with
    | true =>
      obtain ⟨htime, hcode⟩ := timeInjEnd_reads (State.refLostHold _ .live) codeActed
      exact ⟨(congrArg TimeSt.withhold htime).trans (refLostHold_withhold _ _), fun _ => hcode⟩
    | false =>
      obtain ⟨htime, hcode⟩ := timeInjEnd_reads (State.setCauseM _ ⟨42, 2⟩ .shadow) codePass
      exact ⟨(congrArg TimeSt.withhold htime).trans (by rw [State.setCauseM_time]), fun _ => hcode⟩

theorem servoMeasurement_injected {sm : ServoMeas} {i : Inj} (ho : s.servoOffset sm = some off) (hr : s.hasRef = true)
    (hi : s.injAt Reg.TIME.INJ_STATUS.addr = some i) : Runs (.servoMeasurement sm) s (fun t =>
      t.time.withhold = s.time.withhold + 1 ∧
      (2 ≤ s.time.withhold → t.get Reg.TIME.INJ_STATUS.CODE = (if i.live then codeActed else codePass))) := by
  refine ⟨_, execServoMeasurement_of_offset ho, ?_⟩
  have hm := measure_injected (off := off) ((measured_hasRef s sm).trans hr) ((measured_injAt s sm _).trans hi)
  rwa [measured_time] at hm

theorem servoOffset_of_pps (sm : ServoMeas) (h : s.get Reg.TIME.CFG.SOURCE = 1) : s.servoOffset sm =
    if s.time.ppsDue then s.time.ppsAt.map (fun p => ppsOffset (p + s.time.ppsMove)) else none := if_pos h

theorem servoOffset_of_folis (sm : ServoMeas) (h : s.get Reg.TIME.CFG.SOURCE = 2) : s.servoOffset sm =
    some ((s.edgeTo sm.after).todUnits / 65536 - sm.reference) :=
  (if_neg (by rw [h]; decide)).trans (if_neg (by rw [h]; decide))

end Sys2Proof.Machine
end

section
/-! A root epoch start: the counter advances or jumps, what a jump steps over acts, and a judge is tested (R23, R30, R366, R475,
R479, R485, R510). -/

namespace Sys2Proof.Machine

variable {s t u : State} {l : List Nat}

/-- On the way from `s` to `t` the counter, the clock and what the time block holds stay; of the registers those of `l` may move,
and no cause is cleared. -/
structure TimeKept (l : List Nat) (s t : State) : Prop where
  tod : t.tod = s.tod
  clk : t.clk = s.clk
  time : t.time = s.time
  regs : s.regsBut l t
  causes : ∀ c : Cause, c.grp < 64 → c.bit < 32 → s.causeSet c = true → t.causeSet c = true

/-- An address apart from the CAUSE words of the groups. -/
def noCause (a : Nat) : Bool := decide (a < Reg.INT.GRP.CAUSE.addr 0) || decide (Reg.INT.GRP.CAUSE.addr 64 ≤ a)

theorem TimeKept.refl (l : List Nat) (s : State) : TimeKept l s s := ⟨rfl, rfl, rfl, regsBut_refl, fun _ _ _ => id⟩

theorem TimeKept.put {f : Fld} {v : Nat} (h : TimeKept l s t) (hf : f.addr ∈ l) (hc : noCause f.addr = true) :
    TimeKept l s (t.put f v) where
  tod := h.tod
  clk := h.clk
  time := h.time
  regs := h.regs.put hf
  causes c hg hb hs := by
    rw [State.causeSet_put]
    · exact h.causes c hg hb hs
    · simp only [noCause, Reg.INT.GRP.CAUSE.addr, Bool.or_eq_true, decide_eq_true_eq] at hc ⊢
      omega

theorem TimeKept.upd {p tr i sw sv n} (h : TimeKept l s t) :
    TimeKept l s { t with piste := p, triad := tr, injs := i, swapping := sw, svc := sv, net := n } :=
  ⟨h.tod, h.clk, h.time, h.regs.of_regs rfl, h.causes⟩

theorem TimeKept.setCauseM {c : Cause} {m : Mark} (h : TimeKept l s t) (hc : Reg.INT.GRP.CAUSE.addr c.grp ∈ l) :
    TimeKept l s (t.setCauseM c m) where
  tod := (State.setCauseM_tod _ _ _).trans h.tod
  clk := (State.setCauseM_clk _ _ _).trans h.clk
  time := (State.setCauseM_time _ _ _).trans h.time
  regs := (h.regs.put hc).of_regs (State.setCauseM_regs t c m)
  causes d hg hb hs := State.causeSet_setCauseM_mono t c d m (h.causes d hg hb hs) hb

theorem TimeKept.raiseM {c : Cause} {m : Mark} (h : TimeKept l s t) (hc : Reg.INT.GRP.CAUSE.addr c.grp ∈ l) :
    TimeKept l s (t.raiseM c m) where
  tod := (State.raiseM_tod _ _ _).trans h.tod
  clk := (State.raiseM_clk _ _ _).trans h.clk
  time := (State.raiseM_time _ _ _).trans h.time
  regs := h.regs.raiseM hc
  causes d hg hb hs := by rw [causeSet_raiseM_eq c d m hb, h.causes d hg hb hs, Bool.true_or]

theorem TimeKept.raise {c : Cause} (h : TimeKept l s t) (hc : Reg.INT.GRP.CAUSE.addr c.grp ∈ l) : TimeKept l s (t.raise c) :=
  h.raiseM (m := .real) hc

theorem TimeKept.ite {p : Prop} [Decidable p] (ht : TimeKept l s t) (hu : TimeKept l s u) :
    TimeKept l s (if p then t else u) := by
  split
  · exact ht
  · exact hu

theorem TimeKept.setIf {b : Bool} {c : Cause} (h : TimeKept l s t) (hc : Reg.INT.GRP.CAUSE.addr c.grp ∈ l) :
    TimeKept l s (t.setIf b c) :=
  .ite (h.raise hc) h

/-! ## What a jump steps over -/

/-- The registers that a jump may move outside the time block: RESULT of the update service, and causes. -/
def jumpRegs : List Nat := Reg.SVC.RESULT.addr :: causeWords [42, 43, 46]

theorem TimeKept.activate (h : TimeKept jumpRegs s t) : TimeKept jumpRegs s t.activate :=
  .ite h.upd ((((h.upd.put (by decide) (by decide)).put (by decide) (by decide)).put (by decide) (by decide)).raise (by decide))

theorem TimeKept.eventsOver {a b : Int} (h : TimeKept jumpRegs s t) : TimeKept jumpRegs s (t.eventsOver a b) :=
  .ite (h.upd.activate.raise (by decide)) h.upd

/-! ## The advance of the counter -/

/-- On the way from `s` to `t` nothing has moved that a jump of the counter leaves: the clock, Triad, the injections, and what the
time block holds for the next epoch. -/
structure CounterMoved (s t : State) : Prop where
  clk : t.clk = s.clk
  triad : t.triad = s.triad
  injs : t.injs = s.injs
  advance : t.time.advance = s.time.advance
  setAt : t.time.setAt = s.time.setAt
  step : t.time.step = s.time.step
  regs : s.regsBut (Reg.TIME.STATUS.addr :: causeWords [42]) t

theorem CounterMoved.refl (s : State) : CounterMoved s s := ⟨rfl, rfl, rfl, rfl, rfl, rfl, regsBut_refl⟩

theorem CounterMoved.put {f : Fld} {v : Nat} (h : CounterMoved s t) (hf : f.addr = Reg.TIME.STATUS.addr) :
    CounterMoved s (t.put f v) :=
  ⟨h.clk, h.triad, h.injs, h.advance, h.setAt, h.step, h.regs.put (hf ▸ List.mem_cons_self ..)⟩

theorem CounterMoved.raise {b : Nat} (h : CounterMoved s t) : CounterMoved s (t.raise ⟨42, b⟩) where
  clk := (State.raise_clk _ _).trans h.clk
  triad := (State.raise_triad _ _).trans h.triad
  injs := (State.raise_injs _ _).trans h.injs
  advance := by rw [State.raise_time]; exact h.advance
  setAt := by rw [State.raise_time]; exact h.setAt
  step := by rw [State.raise_time]; exact h.step
  regs := h.regs.raise (show Reg.INT.GRP.CAUSE.addr 42 ∈ _ by decide)

theorem CounterMoved.upd {d m a} (h : CounterMoved s t) :
    CounterMoved s { t with tod := d, time := { t.time with ppsMove := m, syncAt := a } } :=
  ⟨h.clk, h.triad, h.injs, h.advance, h.setAt, h.step, h.regs.of_regs rfl⟩

theorem CounterMoved.ite {p : Prop} [Decidable p] (ht : CounterMoved s t) (hu : CounterMoved s u) :
    CounterMoved s (if p then t else u) := by
  split
  · exact ht
  · exact hu

theorem CounterMoved.jumped {a b : Int} (h : CounterMoved s t) : CounterMoved s (t.jumped a b) :=
  CounterMoved.raise (.ite (h.upd.upd.put rfl).raise h.upd)

/-- A jump with the latest PPS_IN edge, before what it steps over. -/
def State.edgeMoved (s : State) (a b : Int) : State := { s with time := { s.time with ppsMove := s.time.ppsMove + (b - a) } }

/-- The armed SYNC is cancelled by a jump (R485). -/
def State.syncMissed (s : State) : State := s.disarmSync.raise ⟨42, 6⟩

theorem jumped_eq (s : State) (a b : Int) : s.jumped a b =
    (if steppedOver a b s.time.syncAt then (s.edgeMoved a b).syncMissed else s.edgeMoved a b).raise ⟨42, 3⟩ := rfl

theorem jumped_tod (s : State) (a b : Int) : (s.jumped a b).tod = s.tod := by
  rw [jumped_eq, State.raise_tod]
  split
  · exact State.raise_tod _ _
  · rfl

theorem jumped_valid (s : State) (a b : Int) : (s.jumped a b).flag Reg.TIME.STATUS.VALID = s.flag Reg.TIME.STATUS.VALID := by
  rw [jumped_eq, State.flag, State.get_raise _ _ _ (by decide)]
  split
  · simp (disch := decide) only [State.syncMissed, State.disarmSync, State.get_raise, State.get_put_ne]
    rfl
  · rfl

theorem jumped_stepped (s : State) (a b : Int) : (s.jumped a b).causeSet ⟨42, 3⟩ = true :=
  State.causeSet_raise _ _ (by decide)

theorem jumped_missed {a b : Int} (h : steppedOver a b s.time.syncAt = true) :
    (s.jumped a b).time.syncAt = none ∧ (s.jumped a b).causeSet ⟨42, 6⟩ = true := by
  rw [jumped_eq, if_pos h, State.raise_time]
  refine ⟨?_, State.causeSet_raise_mono _ _ _ (State.causeSet_raise _ _ (by decide)) (by decide)⟩
  rw [State.syncMissed, State.raise_time]
  rfl

/-- The module at the new epoch, before the counter takes its value. -/
def State.epochCleared (s : State) : State :=
  { s with clk := { s.clk with edge := 0 }, time := { s.time with advance := s.epochUnits, setAt := none, step := none } }

/-- The state that a jump to v starts from: a step of the servo makes the counter valid, a SET has made it so. -/
def State.loaded (s : State) (v : Int) : State :=
  { (if s.time.setAt.isSome then s.epochCleared else s.epochCleared.put Reg.TIME.STATUS.VALID 1) with tod := todOf v }

theorem todEpoch_of_none (h : s.jumpTo (s.tod.units + s.time.advance) = none) :
    s.todEpoch = { s.epochCleared with tod := todOf (s.tod.units + s.time.advance) } := by
  simp only [State.todEpoch, h]
  rfl

theorem todEpoch_of_some {v : Int} (h : s.jumpTo (s.tod.units + s.time.advance) = some v) :
    s.todEpoch = (s.loaded v).jumped (s.tod.units + s.time.advance) v := by
  simp only [State.todEpoch, h]
  rfl

theorem CounterMoved.loaded {v : Int} : CounterMoved s.epochCleared (s.loaded v) := by
  unfold State.loaded
  split
  · exact (CounterMoved.refl _).upd
  · exact ((CounterMoved.refl _).put rfl).upd

theorem counterMoved_todEpoch (s : State) : CounterMoved s.epochCleared s.todEpoch := by
  cases h : s.jumpTo (s.tod.units + s.time.advance) with
  | none =>
    rw [todEpoch_of_none h]
    exact (CounterMoved.refl _).upd
  | some v =>
    rw [todEpoch_of_some h]
    exact CounterMoved.loaded.jumped

theorem loaded_syncAt (s : State) (v : Int) : (s.loaded v).time.syncAt = s.time.syncAt := by
  unfold State.loaded
  split <;> rfl

theorem loaded_valid (h : s.time.setAt = none) (v : Int) : (s.loaded v).flag Reg.TIME.STATUS.VALID = true := by
  have hregs : (s.loaded v).regs = (s.epochCleared.put Reg.TIME.STATUS.VALID 1).regs := by
    unfold State.loaded
    rw [h]
    rfl
  rw [State.flag, State.get_congr hregs, State.get_put_same _ _ _ (by decide)]
  rfl

/-! ## The test of a judge -/

/-- The registers that the tests of the judges may move. -/
def judgeRegs : List Nat :=
  [Reg.TRIAD.STATUS.addr, Reg.TRIAD.JSTAT.addr, Reg.TRIAD.INJ_STATUS.addr] ++ causeWords [4]

theorem injDoneCause_triad : injDoneCause Reg.TRIAD.INJ_STATUS.addr = none := by
  have h : blockOf Reg.TRIAD.INJ_STATUS.addr = 6 := by decide
  rw [injDoneCause, h]; rfl

theorem TimeKept.triadInjEnd {code : Nat} (h : TimeKept judgeRegs s t) :
    TimeKept judgeRegs s (t.injEnd Reg.TRIAD.INJ_STATUS.addr code) := by
  rw [injEnd_of_no_cause injDoneCause_triad]
  exact (h.put (f := ⟨Reg.TRIAD.INJ_STATUS.addr, 0, 8⟩) (by decide) (by decide)).upd

theorem TimeKept.removeJudges {m : BitVec 3} {k : Mark} (h : TimeKept judgeRegs s t) :
    TimeKept judgeRegs s (t.removeJudges m k) :=
  have h1 := (h.put (f := Reg.TRIAD.STATUS.JUDGES) (by decide) (by decide)).raiseM (c := triadCause 8) (by decide)
  .ite h (.ite (h1.raiseM (by decide)) h1)

theorem TimeKept.judgeTest {wrong live : BitVec 3} (h : TimeKept judgeRegs s t) :
    TimeKept judgeRegs s (t.judgeTest wrong live) :=
  ((h.put (by decide) (by decide)).put (by decide) (by decide)).removeJudges.removeJudges

theorem TimeKept.splitTests {lane : Nat} {extra : Vector JudgeNames 3} (h : TimeKept judgeRegs s t) :
    TimeKept judgeRegs s (t.splitTests lane extra) :=
  (h.judgeTest.put (by decide) (by decide)).setIf (by decide)

theorem TimeKept.judgeEpoch {names : JudgeNames} {extra : Vector JudgeNames 3} (h : TimeKept judgeRegs s t) :
    TimeKept judgeRegs s (t.judgeEpoch names extra) := by
  unfold State.judgeEpoch
  extract_lets lane _ s1 _ s2
  have h1 : TimeKept judgeRegs s s1 := by
    unfold s1
    split
    · exact h
    · exact .ite h.upd.judgeTest h.upd.judgeTest.triadInjEnd
  have h2 : TimeKept judgeRegs s s2 := .ite h1.upd.splitTests h1
  split
  · rename_i i hi
    have hctrl : i.ctrl = Reg.TRIAD.INJ_STATUS.addr := by simpa using List.find?_some hi
    refine .ite h2 ?_
    extract_lets under wrong pass t u
    have hu : TimeKept judgeRegs s u := .ite (h2.judgeTest.setCauseM (by decide)) h2.judgeTest
    rw [hctrl]
    exact hu.triadInjEnd
  · exact h2

theorem judges_put (s : State) (m : BitVec 3) : (s.put Reg.TRIAD.STATUS.JUDGES m.toNat).judges = m := by
  rw [State.judges, State.get_put_same _ _ _ (by decide)]
  rw [Nat.mod_eq_of_lt m.isLt, BitVec.ofNat_toNat, BitVec.setWidth_eq]

theorem judges_congr (h : s.regsBut l t) (hl : Reg.TRIAD.STATUS.addr ∉ l) : t.judges = s.judges :=
  congrArg (BitVec.ofNat 3) (h.get (f := Reg.TRIAD.STATUS.JUDGES) hl)

theorem judges_raiseM (s : State) (b : Nat) (k : Mark) : (s.raiseM (triadCause b) k).judges = s.judges :=
  judges_congr (l := [Reg.INT.GRP.CAUSE.addr 4]) (regsBut_refl.raiseM (List.mem_singleton_self _)) (by decide)

theorem and_not_and : ∀ j m : BitVec 3, j &&& ~~~(m &&& j) = j &&& ~~~m := by decide

/-- A removal strikes the named judges from the healthy ones, and sets its cause if one was healthy. -/
theorem removeJudges_spec (s : State) (m : BitVec 3) (k : Mark) : (s.removeJudges m k).judges = s.judges &&& ~~~m ∧
    (s.removeJudges m k).triad = s.triad ∧ (s.removeJudges m k).injs = s.injs ∧
    (m &&& s.judges ≠ 0#3 → (s.removeJudges m k).causeSet (triadCause 8) = true) := by
  rw [← and_not_and]
  unfold State.removeJudges
  extract_lets bad left s1
  have hj : s1.judges = left := (judges_raiseM _ 8 k).trans (judges_put s left)
  have hc : s1.causeSet (triadCause 8) = true := State.causeSet_raiseM _ _ _ (by decide)
  have ht : s1.triad = s.triad := State.raiseM_triad _ _ _
  have hi : s1.injs = s.injs := State.raiseM_injs _ _ _
  split
  · rename_i h
    refine ⟨?_, rfl, rfl, fun hn => absurd h hn⟩
    rw [show m &&& s.judges = 0#3 from h, BitVec.not_zero, BitVec.and_allOnes]
  · split
    · refine ⟨(judges_raiseM s1 10 k).trans hj, (State.raiseM_triad _ _ _).trans ht, (State.raiseM_injs _ _ _).trans hi,
        fun _ => ?_⟩
      rw [causeSet_raiseM_eq _ _ _ (by decide), hc, Bool.true_or]
    · exact ⟨hj, ht, hi, fun _ => hc⟩

theorem and_not_split : ∀ j bad live : BitVec 3, j &&& ~~~(bad &&& ~~~live) &&& ~~~(bad &&& live) = j &&& ~~~bad := by decide

theorem live_of_not_split : ∀ j wrong live : BitVec 3, wrong &&& j ≠ 0#3 → (wrong &&& j &&& ~~~live) &&& j = 0#3 →
    (wrong &&& j &&& live) &&& (j &&& ~~~(wrong &&& j &&& ~~~live)) ≠ 0#3 := by decide

/-- A test strikes the judges that failed it, whatever the marks. -/
theorem judgeTest_spec (s : State) (wrong live : BitVec 3) :
    (s.judgeTest wrong live).judges = s.judges &&& ~~~(wrong &&& s.judges) ∧
    (s.judgeTest wrong live).triad = s.triad ∧ (s.judgeTest wrong live).injs = s.injs ∧
    (wrong &&& s.judges ≠ 0#3 → (s.judgeTest wrong live).causeSet (triadCause 8) = true) := by
  unfold State.judgeTest
  extract_lets bad s1
  generalize hs2 : s1.put Reg.TRIAD.JSTAT.FAILS (min (s1.get Reg.TRIAD.JSTAT.FAILS + ones bad) 255) = s2
  have hr : s.regsBut [Reg.TRIAD.JSTAT.addr] s2 := by
    rw [← hs2]
    exact (regsBut_refl.put (by decide)).put (by decide)
  have hj2 : s2.judges = s.judges := judges_congr hr (by decide)
  have ht2 : s2.triad = s.triad := by rw [← hs2]; rfl
  have hi2 : s2.injs = s.injs := by rw [← hs2]; rfl
  obtain ⟨hj3, ht3, hi3, hc3⟩ := removeJudges_spec s2 (bad &&& ~~~live) .real
  obtain ⟨hj4, ht4, hi4, hc4⟩ := removeJudges_spec (s2.removeJudges (bad &&& ~~~live) .real) (bad &&& live) .live
  rw [hj2] at hj3 hc3
  rw [hj3] at hj4 hc4
  refine ⟨hj4.trans (and_not_split _ _ _), ht4.trans (ht3.trans ht2), hi4.trans (hi3.trans hi2), fun hne => ?_⟩
  by_cases h : (bad &&& ~~~live) &&& s.judges = 0#3
  · exact hc4 (live_of_not_split _ _ _ hne h)
  · exact ((TimeKept.refl judgeRegs _).removeJudges).causes _ (by decide) (by decide) (hc3 h)

/-- The verdicts of the judges in a test that judge j stands under, inverted by a LIVE injection into it (R366, R371). -/
def State.judgeVerdict (s : State) (j : Nat) (names : JudgeNames) : BitVec 3 :=
  wrongJudges (1#3 <<< j) s.testLane s.voting names ^^^ (s.triad.invert &&& 1#3 <<< j)

/-- Judge j has been tested in its turn. -/
def State.judgeTested (s : State) (j : Nat) (names : JudgeNames) : State :=
  State.judgeTest { s with triad := { s.triad with
      rot := (j + 1) % 3, turn := (s.triad.turn + 1) % 3, invert := s.triad.invert &&& ~~~(1#3 <<< j) } }
    (s.judgeVerdict j names) (s.triad.invert &&& 1#3 <<< j)

theorem judgeTested_spec (s : State) (j : Nat) (names : JudgeNames) :
    (s.judgeTested j names).judges = s.judges &&& ~~~(s.judgeVerdict j names &&& s.judges) ∧
    (s.judgeTested j names).triad = { s.triad with
      rot := (j + 1) % 3, turn := (s.triad.turn + 1) % 3, invert := s.triad.invert &&& ~~~(1#3 <<< j) } ∧
    (s.judgeTested j names).injs = s.injs ∧
    (s.judgeVerdict j names &&& s.judges ≠ 0#3 → (s.judgeTested j names).causeSet (triadCause 8) = true) :=
  judgeTest_spec _ _ _

/-- The test of a judge shows in the state its own end, and that of a LIVE injection into the judge. -/
def State.judgeShown (s : State) (j : Nat) (names : JudgeNames) : State :=
  if s.triad.invert &&& 1#3 <<< j = 0#3 then s.judgeTested j names
  else (s.judgeTested j names).injEnd Reg.TRIAD.INJ_STATUS.addr codeActed

theorem injAt_triadInjEnd (s : State) (code : Nat) :
    (s.injEnd Reg.TRIAD.INJ_STATUS.addr code).injAt Reg.TRIAD.INJ_STATUS.addr = none := by
  rw [injEnd_of_no_cause injDoneCause_triad]
  simp [State.injAt]

theorem judgeShown_spec (s : State) (j : Nat) (names : JudgeNames) :
    (s.judgeShown j names).judges = (s.judgeTested j names).judges ∧
    (s.judgeShown j names).triad = (s.judgeTested j names).triad ∧
    ((s.judgeTested j names).causeSet (triadCause 8) = true → (s.judgeShown j names).causeSet (triadCause 8) = true) ∧
    (s.injAt Reg.TRIAD.INJ_STATUS.addr = none → (s.judgeShown j names).injAt Reg.TRIAD.INJ_STATUS.addr = none) := by
  obtain ⟨_, _, hinjs, _⟩ := judgeTested_spec s j names
  unfold State.judgeShown
  split
  · refine ⟨rfl, rfl, id, fun hi => ?_⟩
    rwa [State.injAt, hinjs]
  · refine ⟨?_, ?_, fun hc => (TimeKept.refl _ _).triadInjEnd.causes _ (by decide) (by decide) hc, fun _ => injAt_triadInjEnd _ _⟩
    all_goals rw [injEnd_of_no_cause injDoneCause_triad]
    · exact judges_congr (l := [Reg.TRIAD.INJ_STATUS.addr])
        ((regsBut_refl.put (f := ⟨Reg.TRIAD.INJ_STATUS.addr, 0, 8⟩) (by decide)).of_regs rfl) (by decide)
    · rfl

section
variable {names : JudgeNames} {extra : Vector JudgeNames 3} (hr : s.triad.retest = false)
  (hi : s.injAt Reg.TRIAD.INJ_STATUS.addr = none)
include hr hi

theorem judgeEpoch_of_no_judge (h : s.judges = 0#3) : s.judgeEpoch names extra = s := by
  have ht : s.judgeTurn = none := by simp [State.judgeTurn, h]
  simp only [State.judgeEpoch, ht, hr, hi, Bool.false_eq_true, if_false]

theorem judgeEpoch_of_turn {j : Nat} (h : s.judgeTurn = some j) : s.judgeEpoch names extra = s.judgeShown j names := by
  obtain ⟨_, htriad, _, hinj⟩ := judgeShown_spec s j names
  obtain ⟨_, htested, _⟩ := judgeTested_spec s j names
  unfold State.judgeEpoch
  extract_lets lane _ s1 _ s2
  have h1 : s1 = s.judgeShown j names := by
    simp only [s1, h]
    rfl
  have h2 : s2 = s1 := if_neg (by rw [h1, htriad, htested, hr]; exact Bool.false_ne_true)
  rw [h2, h1, hinj hi]

end

/-! ## ROOT_EPOCH -/

/-- The epoch has been counted (R23); until release begins a reset holds CLK.EPOCH (R456). -/
def State.epochCounted (s : State) : State :=
  let t := { s with clk := { s.clk with epochs := s.clk.epochs + 1 } }
  if s.life = .reset then t else t.bumpWrap Reg.CLK.EPOCH.COUNT

/-- The epoch before the tests of the judges. -/
def State.epochActed (s : State) (al : Bool) : State :=
  let u := s.tod.units + s.time.advance
  ((s.jumpTo u).elim s.epochCounted.todEpoch (fun v => s.epochCounted.todEpoch.eventsOver u v)).setIf (!al) ⟨46, 4⟩

theorem execRootEpoch_of_runs (hr : s.clk.rootRuns = true) (al : Bool) (w : JudgeNames) (e : Vector JudgeNames 3) :
    execRootEpoch al w e s = .next ((s.epochActed al).judgeEpoch w e) := if_pos hr

/-- Counting an epoch moves CLK.EPOCH and the count of epochs. -/
theorem exists_epochCounted (s : State) :
    ∃ r, s.epochCounted = { s with regs := r, clk := { s.clk with epochs := s.clk.epochs + 1 } } := by
  unfold State.epochCounted
  dsimp only
  split
  · exact ⟨_, rfl⟩
  · exact ⟨_, rfl⟩

theorem epochCounted_clk (s : State) : s.epochCounted.clk = { s.clk with epochs := s.clk.epochs + 1 } := by
  obtain ⟨r, h⟩ := exists_epochCounted s
  rw [h]

theorem epochCounted_tod (s : State) : s.epochCounted.tod = s.tod := by
  obtain ⟨r, h⟩ := exists_epochCounted s
  rw [h]

theorem epochCounted_time (s : State) : s.epochCounted.time = s.time := by
  obtain ⟨r, h⟩ := exists_epochCounted s
  rw [h]

theorem epochCounted_triad (s : State) : s.epochCounted.triad = s.triad := by
  obtain ⟨r, h⟩ := exists_epochCounted s
  rw [h]

theorem epochCounted_injs (s : State) : s.epochCounted.injs = s.injs := by
  obtain ⟨r, h⟩ := exists_epochCounted s
  rw [h]

theorem epochCounted_regsBut (s : State) : s.regsBut [Reg.CLK.EPOCH.addr] s.epochCounted := by
  unfold State.epochCounted
  dsimp only
  split
  · exact regsBut_refl.of_regs rfl
  · exact (regsBut_refl.of_regs rfl).put (by decide)

theorem epochCounted_count (s : State) : s.epochCounted.get Reg.CLK.EPOCH.COUNT =
    if s.life = .reset then s.get Reg.CLK.EPOCH.COUNT else (s.get Reg.CLK.EPOCH.COUNT + 1) % 2 ^ 32 := by
  unfold State.epochCounted
  dsimp only
  split
  · rfl
  · rw [State.bumpWrap, State.get_put_same _ _ _ (by decide), Nat.mod_mod]
    rfl

theorem jumpTo_congr (h : t.time = s.time) (u : Int) : t.jumpTo u = s.jumpTo u := by
  rw [State.jumpTo, h, State.jumpTo]

theorem epochUnits_congr (h : s.regsBut [Reg.CLK.EPOCH.addr] t) : t.epochUnits = s.epochUnits := by
  rw [State.epochUnits, State.rate, h.flag (by decide), h Reg.TIME.RATE.addr (by decide), State.epochUnits, State.rate]

theorem activate_same (s : State) : s.activate.triad = s.triad ∧ s.activate.injs = s.injs := by
  unfold State.activate
  split
  · exact ⟨rfl, rfl⟩
  · exact ⟨State.raise_triad _ _, State.raise_injs _ _⟩

theorem eventsOver_same (s : State) (a b : Int) : (s.eventsOver a b).triad = s.triad ∧ (s.eventsOver a b).injs = s.injs := by
  unfold State.eventsOver
  extract_lets later _ s1
  split
  · obtain ⟨htriad, hinjs⟩ := activate_same s1
    exact ⟨(State.raise_triad _ _).trans htriad, (State.raise_injs _ _).trans hinjs⟩
  · exact ⟨rfl, rfl⟩

/-- What acts at the epoch start beside the counter moves no time. -/
theorem timeKept_epochActed (s : State) (al : Bool) : TimeKept jumpRegs s.epochCounted.todEpoch (s.epochActed al) := by
  have h := TimeKept.refl jumpRegs s.epochCounted.todEpoch
  unfold State.epochActed
  dsimp only
  cases s.jumpTo (s.tod.units + s.time.advance) with
  | none => exact h.setIf (by decide)
  | some v => exact h.eventsOver.setIf (by decide)

/-- The tests of the judges find Triad and the injections as the epoch found them. -/
theorem epochActed_same (s : State) (al : Bool) : (s.epochActed al).triad = s.triad ∧ (s.epochActed al).injs = s.injs := by
  have hm := counterMoved_todEpoch s.epochCounted
  have htriad : s.epochCounted.todEpoch.triad = s.triad := hm.triad.trans (epochCounted_triad s)
  have hinjs : s.epochCounted.todEpoch.injs = s.injs := hm.injs.trans (epochCounted_injs s)
  unfold State.epochActed
  dsimp only
  rw [State.setIf_triad, State.setIf_injs]
  cases s.jumpTo (s.tod.units + s.time.advance) with
  | none => exact ⟨htriad, hinjs⟩
  | some v =>
    obtain ⟨htr, hin⟩ := eventsOver_same s.epochCounted.todEpoch (s.tod.units + s.time.advance) v
    exact ⟨htr.trans htriad, hin.trans hinjs⟩

theorem epochActed_triad (s : State) (al : Bool) : (s.epochActed al).triad = s.triad := by
  obtain ⟨htriad, _⟩ := epochActed_same s al
  exact htriad

theorem epochActed_injAt (s : State) (al : Bool) (ctrl : Nat) : (s.epochActed al).injAt ctrl = s.injAt ctrl := by
  obtain ⟨_, hinjs⟩ := epochActed_same s al
  rw [State.injAt, hinjs, State.injAt]

section
variable (s : State) (al : Bool) (w : JudgeNames) (e : Vector JudgeNames 3)

/-- The module at the end of a root epoch start. -/
def State.epochEnded : State := (s.epochActed al).judgeEpoch w e

theorem epochEnded_tod : (s.epochEnded al w e).tod = s.epochCounted.todEpoch.tod :=
  (TimeKept.refl _ _).judgeEpoch.tod.trans (timeKept_epochActed s al).tod

theorem epochEnded_clk : (s.epochEnded al w e).clk = { s.clk with epochs := s.clk.epochs + 1, edge := 0 } := by
  refine (TimeKept.refl _ _).judgeEpoch.clk.trans ((timeKept_epochActed s al).clk.trans ?_)
  rw [(counterMoved_todEpoch s.epochCounted).clk, State.epochCleared, epochCounted_clk]

theorem epochEnded_time : (s.epochEnded al w e).time = s.epochCounted.todEpoch.time :=
  (TimeKept.refl _ _).judgeEpoch.time.trans (timeKept_epochActed s al).time

theorem epochEnded_advance : (s.epochEnded al w e).time.advance = s.epochUnits := by
  rw [epochEnded_time, (counterMoved_todEpoch s.epochCounted).advance]
  exact epochUnits_congr (epochCounted_regsBut s)

theorem epochEnded_setAt : (s.epochEnded al w e).time.setAt = none := by
  rw [epochEnded_time, (counterMoved_todEpoch s.epochCounted).setAt]
  rfl

theorem epochEnded_step : (s.epochEnded al w e).time.step = none := by
  rw [epochEnded_time, (counterMoved_todEpoch s.epochCounted).step]
  rfl

theorem epochEnded_get {f : Fld} (hj : f.addr ∉ judgeRegs) (hk : f.addr ∉ jumpRegs) :
    (s.epochEnded al w e).get f = s.epochCounted.todEpoch.get f :=
  ((TimeKept.refl _ _).judgeEpoch.regs.get hj).trans ((timeKept_epochActed s al).regs.get hk)

theorem epochEnded_count : (s.epochEnded al w e).get Reg.CLK.EPOCH.COUNT =
    if s.life = .reset then s.get Reg.CLK.EPOCH.COUNT else (s.get Reg.CLK.EPOCH.COUNT + 1) % 2 ^ 32 := by
  rw [epochEnded_get s al w e (by decide) (by decide), ← epochCounted_count]
  exact (counterMoved_todEpoch s.epochCounted).regs.get (by decide)

variable {s}

theorem epochEnded_cause {c : Cause} (hg : c.grp < 64) (hb : c.bit < 32) (h : (s.epochActed al).causeSet c = true) :
    (s.epochEnded al w e).causeSet c = true :=
  (TimeKept.refl _ _).judgeEpoch.causes c hg hb h

theorem epochEnded_counterCause {c : Cause} (hg : c.grp < 64) (hb : c.bit < 32)
    (h : s.epochCounted.todEpoch.causeSet c = true) : (s.epochEnded al w e).causeSet c = true :=
  epochEnded_cause al w e hg hb ((timeKept_epochActed s al).causes c hg hb h)

theorem epochEnded_misaligned (h : al = false) : (s.epochEnded al w e).causeSet ⟨46, 4⟩ = true :=
  epochEnded_cause al w e (by decide) (by decide) (causeSet_setIf_same (by decide) (by rw [h]; rfl))

/-! ### The counter at its end -/

theorem epochEnded_plain (h : s.jumpTo (s.tod.units + s.time.advance) = none) :
    (s.epochEnded al w e).tod = todOf (s.tod.units + s.time.advance) := by
  have htod := epochCounted_tod s
  have htime := epochCounted_time s
  have hj : s.epochCounted.jumpTo (s.epochCounted.tod.units + s.epochCounted.time.advance) = none := by
    rw [htod, htime, jumpTo_congr htime, h]
  rw [epochEnded_tod, todEpoch_of_none hj, htod, htime]

theorem todEpoch_epochCounted {v : Int} (h : s.jumpTo (s.tod.units + s.time.advance) = some v) :
    s.epochCounted.todEpoch = (s.epochCounted.loaded v).jumped (s.tod.units + s.time.advance) v := by
  have htod := epochCounted_tod s
  have htime := epochCounted_time s
  have hj : s.epochCounted.jumpTo (s.epochCounted.tod.units + s.epochCounted.time.advance) = some v := by
    rw [htod, htime, jumpTo_congr htime, h]
  rw [todEpoch_of_some hj, htod, htime]

theorem epochEnded_jump {v : Int} (h : s.jumpTo (s.tod.units + s.time.advance) = some v) :
    (s.epochEnded al w e).tod = todOf v ∧ (s.epochEnded al w e).causeSet ⟨42, 3⟩ = true := by
  refine ⟨?_, epochEnded_counterCause al w e (by decide) (by decide) ?_⟩
  · rw [epochEnded_tod, todEpoch_epochCounted h, jumped_tod, State.loaded]
  · rw [todEpoch_epochCounted h]
    exact jumped_stepped _ _ _

/-- A step of the servo makes the time of day valid. -/
theorem epochEnded_valid {v : Int} (h : s.jumpTo (s.tod.units + s.time.advance) = some v) (hs : s.time.setAt = none) :
    (s.epochEnded al w e).flag Reg.TIME.STATUS.VALID = true := by
  rw [State.flag, epochEnded_get s al w e (by decide) (by decide), ← State.flag, todEpoch_epochCounted h, jumped_valid]
  exact loaded_valid (by rw [epochCounted_time, hs]) v

theorem epochEnded_missed {x : Nat × Nat} {v : Int} (h : s.jumpTo (s.tod.units + s.time.advance) = some v)
    (ha : s.time.syncAt = some x) (ho : steppedOver (s.tod.units + s.time.advance) v (some x) = true) :
    (s.epochEnded al w e).time.syncAt = none ∧ (s.epochEnded al w e).causeSet ⟨42, 6⟩ = true := by
  have hover : steppedOver (s.tod.units + s.time.advance) v (s.epochCounted.loaded v).time.syncAt = true := by
    rw [loaded_syncAt, epochCounted_time, ha, ho]
  obtain ⟨hnone, hcause⟩ := jumped_missed hover
  rw [← todEpoch_epochCounted h] at hnone hcause
  exact ⟨by rw [epochEnded_time, hnone], epochEnded_counterCause al w e (by decide) (by decide) hcause⟩

/-! ### The judge whose turn it is -/

/-- The tests find Triad as the epoch found it. -/
theorem epochActed_triadStatus : (s.epochActed al).rd Reg.TRIAD.STATUS.addr = s.rd Reg.TRIAD.STATUS.addr := by
  rw [(timeKept_epochActed s al).regs _ (by decide), (counterMoved_todEpoch s.epochCounted).regs _ (by decide)]
  exact epochCounted_regsBut s _ (by decide)

theorem judges_epochActed : (s.epochActed al).judges = s.judges := by
  simp only [State.judges, State.get, epochActed_triadStatus]

theorem voting_epochActed : (s.epochActed al).voting = s.voting := by
  simp only [State.voting, State.get, epochActed_triadStatus]

theorem judgeTurn_epochActed : (s.epochActed al).judgeTurn = s.judgeTurn := by
  simp only [State.judgeTurn, epochActed_triad s al, judges_epochActed]

theorem judgeVerdict_epochActed (j : Nat) : (s.epochActed al).judgeVerdict j w = s.judgeVerdict j w := by
  simp only [State.judgeVerdict, State.testLane, epochActed_triad s al, voting_epochActed]

section
variable (hr : s.triad.retest = false) (hi : s.injAt Reg.TRIAD.INJ_STATUS.addr = none)
include hr hi

theorem epochEnded_of_no_judge (h : s.judges = 0#3) :
    (s.epochEnded al w e).judges = 0#3 ∧ (s.epochEnded al w e).triad = s.triad := by
  have he : s.epochEnded al w e = s.epochActed al :=
    judgeEpoch_of_no_judge (by rw [epochActed_triad, hr]) (by rw [epochActed_injAt, hi]) (by rw [judges_epochActed, h])
  rw [he, judges_epochActed, h]
  exact ⟨rfl, epochActed_triad s al⟩

theorem epochEnded_of_turn {j : Nat} (h : s.judgeTurn = some j) :
    (s.epochEnded al w e).judges = s.judges &&& ~~~(s.judgeVerdict j w &&& s.judges) ∧
    (s.epochEnded al w e).triad.rot = (j + 1) % 3 ∧ (s.epochEnded al w e).triad.turn = (s.triad.turn + 1) % 3 ∧
    (s.judgeVerdict j w &&& s.judges ≠ 0#3 → (s.epochEnded al w e).causeSet ⟨4, 8⟩ = true) := by
  have he : s.epochEnded al w e = (s.epochActed al).judgeShown j w :=
    judgeEpoch_of_turn (by rw [epochActed_triad, hr]) (by rw [epochActed_injAt, hi]) (by rw [judgeTurn_epochActed, h])
  obtain ⟨hsj, hst, hsc, _⟩ := judgeShown_spec (s.epochActed al) j w
  obtain ⟨htj, htt, _, htc⟩ := judgeTested_spec (s.epochActed al) j w
  rw [judgeVerdict_epochActed, judges_epochActed] at htj htc
  rw [he, hst, htt, epochActed_triad]
  exact ⟨hsj.trans htj, rfl, rfl, fun hne => hsc (htc hne)⟩

end
end

end Sys2Proof.Machine

section
open Sys2Proof.Machine

/-- Settles O40: what each command leaves of the counter, the servo and the armed SYNC, by its condition. A RATE that changes within an
epoch acts from the next one on, and a reading never goes back (log entry 98); the lane under test is that of log entry 93. -/
theorem timeCommandsRun : Obligations.TimeCommandsRun := by
  unfold Obligations.TimeCommandsRun
  intro s
  refine ⟨fun al w e hr => ⟨_, execRootEpoch_of_runs hr al w e, ?_⟩, fun al w e hr => if_neg (by rw [hr]; exact Bool.false_ne_true),
    timeSet_runs, timeSet_denied, fun after hr => ⟨fun h => ppsInEdge_taken after hr ((ppsFits_iff _).mpr h), ?_⟩,
    fun after hr => if_neg (by rw [hr]; exact Bool.false_ne_true),
    fun sm off ho hr hi => ⟨servoMeasurement_within ho hr hi, fun h => ⟨servoMeasurement_steps ho hr hi h,
      servoMeasurement_counts ho hr hi h⟩⟩,
    fun sm off i => servoMeasurement_injected, fun sm => servoMeasurement_idle, servoMeasurement_without_reference s,
    servoOffset_of_pps, servoOffset_of_folis, ?_, referenceLoss_idle, ?_, ppsOutPulse_runs s, ⟨_, rfl, rfl, rfl⟩,
    fun hrest hv hn => syncArm_armed (mayArm_iff.mpr ⟨hrest, hv, hn⟩), ?_, ?_, syncCancel_runs s,
    fun a => timeSyncFire_fires, fun a => timeSyncFire_misses, timeSyncFire_idle, timeNowRead_runs s,
    fun hr after hle hlt => todUnits_edgeTo hr hle hlt, fun p => ppsInRead_of_edge, ppsInRead_of_none,
    fun cls => ⟨timeInject_idle, timeInject_accepted, timeInject_denied⟩⟩
  · refine ⟨congrArg ClkSt.epochs (epochEnded_clk s al w e), congrArg ClkSt.edge (epochEnded_clk s al w e),
      epochEnded_advance s al w e, epochEnded_count s al w e, fun hset hstep => epochEnded_plain al w e ?_, fun d hset hstep => ?_,
      fun x hset => ?_, fun x b hj ha ho => epochEnded_missed al w e hj ha ho, epochEnded_misaligned al w e,
      fun hret hinj => ⟨epochEnded_of_no_judge al w e hret hinj, fun j => epochEnded_of_turn al w e hret hinj⟩⟩
    · simp only [State.jumpTo, hset, hstep, Option.map_none]
    · have hj : s.jumpTo (s.tod.units + s.time.advance) = some (s.tod.units + s.time.advance + d * 65536) := by
        simp only [State.jumpTo, hset, hstep, Option.map_some]
        rfl
      obtain ⟨htod, hcause⟩ := epochEnded_jump al w e hj
      exact ⟨htod, epochEnded_step s al w e, epochEnded_valid al w e hj hset, hcause⟩
    · have hj : s.jumpTo (s.tod.units + s.time.advance) = some (instantUnits x) := by simp only [State.jumpTo, hset]
      obtain ⟨htod, hcause⟩ := epochEnded_jump al w e hj
      exact ⟨htod, epochEnded_setAt s al w e, hcause⟩
  · intro p hp hlost hle hd
    dsimp only at hle hd
    refine ppsInEdge_bad after hr (Bool.eq_false_iff.mpr fun hf => ?_)
    rcases (ppsFits_iff _).mp hf p hp with h | h | h
    · simp [hlost] at h
    · omega
    · omega
  · intro hr hh hne
    obtain ⟨hhold, hact, hcause, hrate⟩ := todHold_reads .real hh
    exact ⟨_, referenceLoss_next hr, hhold, hact, hcause, hrate.trans (if_neg hne)⟩
  · intro hr hh he
    obtain ⟨hhold, _, hcause, hrate⟩ := todHold_reads .real hh
    exact ⟨_, referenceLoss_next hr, hhold, hcause, hrate.trans (if_pos he)⟩
  · intro h
    refine syncArm_denied (Bool.eq_false_iff.mpr fun hm => ?_)
    obtain ⟨hrest, hv, hn⟩ := mayArm_iff.mp hm
    rcases h with h | h | h
    · omega
    · simp [hrest] at h
    · simp [hv] at h
  · cases hm : s.mayArm with
    | true =>
      obtain ⟨t, ht, hat, _, hcode⟩ := syncArm_armed hm
      exact ⟨t, ht, .inl ⟨hat, hcode⟩⟩
    | false =>
      obtain ⟨t, ht, hat, _, hcode⟩ := syncArm_denied hm
      exact ⟨t, ht, .inr ⟨hat, hcode⟩⟩
end
end

section
/-! Reset episodes: how a source starts, widens and ends one (R51, R52, R358, R385, R452 to R458, R472). -/

namespace Sys2Proof.Machine

variable {s : State}

/-! ## What a wipe leaves of the episode -/

/-- What no wipe moves: the lift, the sources that stand, and the bank that runs. -/
structure State.EpisodeKept (s t : State) : Prop where
  life : t.life = s.life
  active : t.rst.active = s.rst.active
  sources : t.rst.sources = s.rst.sources
  running : t.svc.running = s.svc.running

theorem running_abandon (s : State) : s.abandon.svc.running = s.svc.running := by
  unfold State.abandon
  split <;> rfl

theorem episodeKept_wipeWarm (s : State) : s.EpisodeKept s.wipeWarm := by
  have hrun : s.abandon.disarm.svc.running = s.svc.running := running_abandon s
  obtain ⟨v, hv⟩ := exists_abandon_disarm s
  unfold State.wipeWarm
  rw [hv] at hrun ⊢
  exact ⟨rfl, rfl, rfl, hrun⟩

theorem episodeKept_wipe (s : State) (w : Nat) : s.EpisodeKept (s.wipe w) := by
  obtain ⟨r, hr⟩ := exists_resetRegs s w (fun _ => true)
  obtain ⟨hlife, hactive, hsources, hrunning⟩ := episodeKept_wipeWarm { s with regs := r }
  unfold State.wipe
  rw [hr]
  match w with
  | 0 => exact ⟨hlife, hactive, hsources, hrunning⟩
  | 1 => exact ⟨hlife, hactive, hsources, hrunning⟩
  | _ + 2 => exact ⟨hlife, hactive, hsources, hrunning⟩

/-! ## An assertion -/

/-- The episode that a source alone has started. -/
structure State.EpisodeOf (t : State) (src : Fin 9) (reach : Nat) : Prop where
  life : t.life = .reset
  active : t.rst.active = 1#9 <<< src.val
  sources : t.rst.sources = 1#9 <<< src.val
  reach : t.rst.reach = reach

/-- The reach of an episode that a source starts: a WARM source in a lift of wider reach starts a SYSTEM one (R457). -/
def State.startReach (s : State) (src : Fin 9) : Nat :=
  if srcReach src = 2 ∧ s.life = .lifting ∧ s.rst.reach < 2 then 1 else srcReach src

theorem startReach_eq (s : State) (src : Fin 9) : s.startReach src =
    if src.val ≤ 1 then 0 else if src.val ≤ 4 then 1 else if s.life = .lifting ∧ s.rst.reach < 2 then 1 else 2 := by
  unfold State.startReach srcReach
  split_ifs <;> simp_all

theorem startReach_of_run (h : s.life = .run) (src : Fin 9) : s.startReach src = srcReach src := by
  simp [State.startReach, h]

theorem episodeOf_assertReset {src : Fin 9}
    (h : s.life = .run ∨ s.life = .lifting ∨ (s.life = .resetSafe ∧ srcReach src = 0)) :
    (s.assertReset src).EpisodeOf src (s.startReach src) := by
  unfold State.assertReset State.startReach
  rcases h with h | h | ⟨h, h0⟩
  · simp only [h, reduceCtorEq, false_and, and_false, if_false]
    exact ⟨rfl, rfl, rfl, rfl⟩
  · simp only [h, reduceCtorEq, false_and, true_and, if_false]
    exact ⟨rfl, rfl, rfl, rfl⟩
  · simp only [h, h0, reduceCtorEq, ne_eq, not_true_eq_false, false_and, and_false, if_false]
    exact ⟨rfl, rfl, rfl, rfl⟩

theorem episodeOf_of_run (h : s.life = .run) (src : Fin 9) : (s.assertReset src).EpisodeOf src (srcReach src) :=
  startReach_of_run h src ▸ episodeOf_assertReset (.inl h)

theorem assertReset_of_resetSafe (h : s.life = .resetSafe) {src : Fin 9} (hr : srcReach src ≠ 0) : s.assertReset src = s := by
  unfold State.assertReset
  simp only [h, ne_eq, hr, not_false_eq_true, and_self, if_true]

theorem assertReset_of_noSupply (h : s.life = .noSupply) (src : Fin 9) : s.assertReset src = { s with rst := { s.rst with
    active := s.rst.active ||| 1#9 <<< src.val, sources := s.rst.sources ||| 1#9 <<< src.val } } := by
  unfold State.assertReset
  split
  · rfl
  · rename_i hl; exact absurd (h.symm.trans hl) (by decide)
  · rename_i hl _; exact absurd h hl

/-- A source in an episode is added to those that stand, and a wider one widens the reach (R457). -/
theorem assertReset_of_reset (h : s.life = .reset) (src : Fin 9) :
    (s.assertReset src).life = .reset ∧
    (s.assertReset src).rst.active = s.rst.active ||| 1#9 <<< src.val ∧
    (s.assertReset src).rst.sources = s.rst.sources ||| 1#9 <<< src.val ∧
    (s.assertReset src).rst.reach = min s.rst.reach (srcReach src) := by
  unfold State.assertReset
  extract_lets bit r note s1
  split
  · rename_i hl; exact absurd (h.symm.trans hl) (by decide)
  · split
    · rename_i hlt
      obtain ⟨hlife, hactive, hsources, -⟩ := episodeKept_wipe s1 r
      exact ⟨hlife.trans h, hactive, hsources, (Nat.min_eq_right (Nat.le_of_lt hlt)).symm⟩
    · rename_i hge
      exact ⟨h, rfl, rfl, (Nat.min_eq_left (Nat.not_lt.mp hge)).symm⟩
  · rename_i hl; exact absurd h hl

theorem running_asserted (h : s.life = .run) (src : Fin 9) : (s.asserted src).svc.running = s.svc.running := by
  by_cases hr : srcReach src = 2
  · obtain ⟨f, x, l, hs, -⟩ := exists_asserted_warm s h hr
    rw [hs]
  · obtain ⟨f, x, hs⟩ := exists_asserted_cold s hr
    rw [hs]

theorem running_assertReset (h : s.life = .run) (src : Fin 9) : (s.assertReset src).svc.running = s.svc.running := by
  obtain ⟨a, ha⟩ := assertReset_of_run s h src
  rw [ha]
  exact (episodeKept_wipe _ _).running.trans (running_asserted h src)

theorem execResetAssert_of_lt {src : Fin 9} (h : src.val < 8) (s : State) : execResetAssert src s = .next (s.assertReset src) :=
  if_neg (by omega)

/-- A swap asserts UPDATE with the other bank running (R595). -/
theorem resetAssert_update (hsw : s.swapping = true) (h : s.life = .run) : Runs (.resetAssert 8) s (fun t =>
    t.life = .reset ∧ t.rst.reach = 2 ∧ t.rst.sources = 0x100#9 ∧ t.svc.running = 1 - s.svc.running) := by
  have hexec : execResetAssert 8 s = .next (s.recordSwap.assertReset 8) := if_pos hsw
  have hrun : s.recordSwap.life = .run := h
  obtain ⟨hlife, -, hsources, hreach⟩ := episodeOf_of_run hrun 8
  exact ⟨_, hexec, hlife, hreach, hsources, running_assertReset hrun 8⟩

theorem resetAssert_update_idle (h : s.swapping = false) : execResetAssert 8 s = .next s :=
  if_neg (Bool.eq_false_iff.mp h)

/-- A low of RESET_N below 100 ns, or one that may be ignored, has no effect (R453). -/
theorem resetNLow_idle {ns : Nat} {may : Bool} (h : ns < 100 ∨ (ns < 1000 ∧ may = false)) : execResetNLow ns may s = .next s := by
  refine if_neg fun hc => ?_
  rcases h with h | ⟨h, hm⟩
  · omega
  · rcases hc with hc | ⟨-, hc⟩
    · omega
    · exact Bool.false_ne_true (hm.symm.trans hc)

/-! ## The release -/

/-- The registers of a release: CAUSE and REACH show the episode, and a count may have gone up (R456, R472). -/
theorem regs_release (s : State) : ∃ prev : Nat,
    let t := ((s.put Reg.RST.CAUSE_PREV.SOURCES prev).put Reg.RST.CAUSE.SOURCES s.rst.sources.toNat).put
      Reg.RST.STATUS.REACH s.rst.reach
    s.release.regs = t.regs ∨ ∃ f : Fld, f.addr = Reg.RST.COUNTS.addr ∧ s.release.regs = (t.bump f).regs := by
  refine ⟨if s.rst.reach = 0 then 0 else s.get Reg.RST.CAUSE.SOURCES, ?_⟩
  unfold State.release
  dsimp only
  split
  · exact .inl rfl
  · exact .inr ⟨_, rfl, rfl⟩
  · exact .inr ⟨_, rfl, rfl⟩

theorem exists_get_release (s : State) : ∃ prev : Nat, ∀ f : Fld, f.addr ≠ Reg.RST.COUNTS.addr →
    s.release.get f = (((s.put Reg.RST.CAUSE_PREV.SOURCES prev).put Reg.RST.CAUSE.SOURCES s.rst.sources.toNat).put
      Reg.RST.STATUS.REACH s.rst.reach).get f := by
  obtain ⟨prev, hr⟩ := regs_release s
  refine ⟨prev, fun f hf => ?_⟩
  rcases hr with hr | ⟨g, hg, hr⟩
  · exact State.get_congr hr f
  · exact (State.get_congr hr f).trans (State.get_bump_ne _ g f (.inl (hg ▸ hf)))

theorem get_release_sources (s : State) : s.release.get Reg.RST.CAUSE.SOURCES = s.rst.sources.toNat := by
  obtain ⟨prev, hget⟩ := exists_get_release s
  rw [hget _ (by decide), State.get_put_addr _ _ _ _ (by decide), State.get_put_same _ _ _ (by decide)]
  exact Nat.mod_eq_of_lt s.rst.sources.isLt

theorem get_release_reach (h : s.rst.reach ≤ 2) : s.release.get Reg.RST.STATUS.REACH = s.rst.reach := by
  obtain ⟨prev, hget⟩ := exists_get_release s
  rw [hget _ (by decide), State.get_put_same _ _ _ (by decide)]
  exact Nat.mod_eq_of_lt (Nat.lt_of_le_of_lt h (by decide))

theorem release_life (s : State) : s.release.life = .lifting := rfl

theorem release_active (s : State) : s.release.rst.active = 0#9 := rfl

theorem rst_release (s : State) : ∃ lift : Nat, s.release.rst = { s.rst with
    active := 0#9
    log := ((⟨s.rst.sources, s.rst.reach, lift, s.rst.fromS, s.rst.fromNs⟩ : ResetEntry) :: s.rst.log).take 16 } := by
  refine ⟨s.fresh.1.toNat % 65536, ?_⟩
  unfold State.release
  dsimp only
  split <;> rfl

/-- RESET_RELEASE records the episode and begins the lift (R456, R461). -/
theorem resetRelease_runs (h : s.life = .reset) (hr : s.rst.reach ≤ 2) : Runs .resetRelease s (fun t =>
    t.life = .lifting ∧ t.rst.active = 0#9 ∧ t.get Reg.RST.CAUSE.SOURCES = s.rst.sources.toNat ∧
    t.get Reg.RST.STATUS.REACH = s.rst.reach ∧
    ∃ e ∈ t.rst.log, e.sources = s.rst.sources ∧ e.reach = s.rst.reach ∧ e.timeS = s.rst.fromS ∧ e.timeNs = s.rst.fromNs) := by
  obtain ⟨lift, hrst⟩ := rst_release s
  have hlog : ⟨s.rst.sources, s.rst.reach, lift, s.rst.fromS, s.rst.fromNs⟩ ∈ s.release.rst.log := by
    rw [hrst]
    exact List.mem_cons_self
  exact ⟨_, if_pos h, release_life s, release_active s, get_release_sources s, get_release_reach hr, _, hlog, rfl, rfl, rfl, rfl⟩

/-! ## The supply -/

/-- POWER_ON with no other source standing releases the module (R51, R465). -/
theorem powerOn_releases (h : s.life = .noSupply) (ha : s.rst.active &&& 0x1FC#9 = 0#9) : Runs .powerOn s (fun t =>
    t.life = .lifting ∧ t.rst.reach = 0 ∧ t.get Reg.RST.CAUSE.SOURCES = (s.rst.sources ||| 1#9).toNat) := by
  refine ⟨_, (if_pos h).trans (congrArg Host.Outcome.next (if_pos ha)), release_life _, ?_, get_release_sources _⟩
  obtain ⟨lift, hrst⟩ := rst_release { s with
    supply := { s.supply with holdup := false }
    rst := { s.rst with sources := s.rst.sources ||| 1#9, active := s.rst.active &&& 0x1FC#9, reach := 0 }
    life := .reset }
  exact congrArg RstSt.reach hrst

theorem powerOn_held (h : s.life = .noSupply) (ha : s.rst.active &&& 0x1FC#9 ≠ 0#9) : Runs .powerOn s (fun t =>
    t.life = .reset ∧ t.rst.reach = 0 ∧ t.rst.active = s.rst.active &&& 0x1FC#9 ∧ t.rst.sources = s.rst.sources ||| 1#9) :=
  ⟨_, (if_pos h).trans (congrArg Host.Outcome.next (if_neg ha)), rfl, rfl, rfl, rfl⟩

/-- The sources after HOLDUP: those of a running episode stay beside it (R456). -/
theorem sources_holdup (h : s.life ≠ .noSupply) :
    (s.assertReset 1).rst.sources ||| 3#9 = if s.life = .reset then s.rst.sources ||| 3#9 else 3#9 := by
  have hbits : 1#9 <<< (1 : Fin 9).val ||| 3#9 = 3#9 := by decide
  by_cases hr : s.life = .reset
  · obtain ⟨-, -, hsources, -⟩ := assertReset_of_reset hr 1
    rw [if_pos hr, hsources, BitVec.or_assoc, hbits]
  · have hstart : s.life = .run ∨ s.life = .lifting ∨ (s.life = .resetSafe ∧ srcReach 1 = 0) := by
      cases hl : s.life
      case run => exact .inl rfl
      case lifting => exact .inr (.inl rfl)
      case resetSafe => exact .inr (.inr ⟨rfl, rfl⟩)
      case reset => exact absurd hl hr
      case noSupply => exact absurd hl h
    rw [if_neg hr, (episodeOf_assertReset hstart).sources, hbits]

/-- HOLDUP_END leaves the module unsupplied (R51, R52). -/
theorem holdupEnd_runs (hh : s.supply.holdup = true) (h : s.life ≠ .noSupply) : Runs .holdupEnd s (fun t =>
    t.life = .noSupply ∧ t.supply = { below16 := true } ∧
    t.rst.sources = (if s.life = .reset then s.rst.sources ||| 3#9 else 3#9)) :=
  ⟨_, if_pos ⟨hh, h⟩, rfl, rfl, sources_holdup h⟩

theorem holdupEnd_idle (h : s.supply.holdup = false ∨ s.life = .noSupply) : execHoldupEnd s = .next s := by
  refine if_neg fun hc => ?_
  obtain ⟨hh, hl⟩ := hc
  exact h.elim (fun h => Bool.false_ne_true (h.symm.trans hh)) hl

/-! ## The commands of RST -/

/-- A command that asserts a source of a running module. -/
theorem runs_of_assertReset {c : Instr} {t : State} {src : Fin 9} (hexec : exec c s = .next (t.assertReset src))
    (h : t.life = .run) : Runs c s (fun u =>
      u.life = .reset ∧ u.rst.active = 1#9 <<< src.val ∧ u.rst.reach = srcReach src) := by
  obtain ⟨hlife, hactive, -, hreach⟩ := episodeOf_of_run h src
  exact ⟨_, hexec, hlife, hactive, hreach⟩

/-- The slots allow a SYSTEM reset: all at rest, and every enabled one slow (R454). -/
theorem systemAllowed_iff (s : State) :
    (s.allResting && (List.finRange 4).all (fun i => !(s.slotRec i.val).enable || s.slow i)) = true ↔
      s.allResting = true ∧ ∀ i : Fin 4, (s.slotRec i.val).enable = false ∨ s.slow i = true := by
  simp

theorem execRstWarm_of_key (s : State) :
    execRstWarm 0xA5#8 s = .next ((s.status Reg.RST.CMD_STATUS.addr codeOk).assertReset 5) := if_pos rfl

theorem execRstSystem_of_allowed (hrest : s.allResting = true)
    (hslow : ∀ i : Fin 4, (s.slotRec i.val).enable = false ∨ s.slow i = true) :
    execRstSystem 0xA5#8 s = .next ((s.status Reg.RST.CMD_STATUS.addr codeOk).assertReset 3) :=
  (if_neg (fun h => h rfl)).trans (if_pos ((systemAllowed_iff s).mpr ⟨hrest, hslow⟩))

theorem execRstSystem_of_denied
    (h : s.allResting = false ∨ ∃ i : Fin 4, (s.slotRec i.val).enable = true ∧ s.slow i = false) :
    execRstSystem 0xA5#8 s = .next (s.deny Reg.RST.CMD_STATUS.addr (rstCause 5)) := by
  refine (if_neg (fun h => h rfl)).trans (if_neg fun hok => ?_)
  obtain ⟨hrest, hslow⟩ := (systemAllowed_iff s).mp hok
  rcases h with h | ⟨i, hen, hs⟩
  · exact Bool.false_ne_true (h.symm.trans hrest)
  · rcases hslow i with h | h
    · exact Bool.false_ne_true (h.symm.trans hen)
    · exact Bool.false_ne_true (hs.symm.trans h)

/-- A refused command of RST. -/
theorem rstDenied_deny (s : State) : (s.deny Reg.RST.CMD_STATUS.addr (rstCause 5)).causeSet ⟨45, 5⟩ = true ∧
    (s.deny Reg.RST.CMD_STATUS.addr (rstCause 5)).get Reg.RST.CMD_STATUS.CODE = codeDenied :=
  ⟨State.causeSet_deny s _ _ (show 5 < 32 by decide), State.get_deny_code s _ _ (by decide)⟩

theorem rstSystem_denied
    (h : s.allResting = false ∨ ∃ i : Fin 4, (s.slotRec i.val).enable = true ∧ s.slow i = false) :
    Runs (.rstSystem 0xA5#8) s (fun t => t.life = s.life ∧ t.rst = s.rst ∧ t.causeSet ⟨45, 5⟩ = true ∧
      t.get Reg.RST.CMD_STATUS.CODE = codeDenied) :=
  ⟨_, execRstSystem_of_denied h, State.deny_life s _ _, State.deny_rst s _ _, rstDenied_deny s⟩

/-! ## The reset log -/

/-- The registers that show an entry of the log. -/
def State.showLog (s : State) (cause sec ns : Word) : State :=
  ((s.wr Reg.RST.LOG_CAUSE.addr cause).wr Reg.RST.LOG_TIME_S.addr sec).wr Reg.RST.LOG_TIME_NS.addr ns

theorem rd_showLog (s : State) (cause sec ns : Word) : (s.showLog cause sec ns).rd Reg.RST.LOG_CAUSE.addr = cause ∧
    (s.showLog cause sec ns).rd Reg.RST.LOG_TIME_S.addr = sec ∧ (s.showLog cause sec ns).rd Reg.RST.LOG_TIME_NS.addr = ns := by
  unfold State.showLog
  refine ⟨?_, ?_, State.rd_wr_same _ _ _⟩
  · rw [State.rd_wr_other _ _ _ _ (by decide), State.rd_wr_other _ _ _ _ (by decide), State.rd_wr_same]
  · rw [State.rd_wr_other _ _ _ _ (by decide), State.rd_wr_same]

theorem rstLogSelect_entry {k : Fin 16} {e : ResetEntry} (h : s.rst.log[k.val]? = some e) : Runs (.rstLogSelect k) s (fun t =>
    t.rd Reg.RST.LOG_CAUSE.addr = BitVec.ofNat 32 (e.sources.toNat + e.reach * 512 + 2048 + e.lift * 65536) ∧
    t.rd Reg.RST.LOG_TIME_S.addr = BitVec.ofNat 32 e.timeS ∧ t.rd Reg.RST.LOG_TIME_NS.addr = BitVec.ofNat 32 e.timeNs) := by
  have hexec : execRstLogSelect k s = .next ((s.put Reg.RST.LOG_SEL.INDEX k.val).showLog
      (BitVec.ofNat 32 (e.sources.toNat + e.reach * 512 + 2048 + e.lift * 65536)) (BitVec.ofNat 32 e.timeS)
      (BitVec.ofNat 32 e.timeNs)) := by
    unfold execRstLogSelect
    rw [h]
    rfl
  exact ⟨_, hexec, rd_showLog _ _ _ _⟩

theorem rstLogSelect_none {k : Fin 16} (h : s.rst.log[k.val]? = none) : Runs (.rstLogSelect k) s (fun t =>
    t.rd Reg.RST.LOG_CAUSE.addr = 0#32 ∧ t.rd Reg.RST.LOG_TIME_S.addr = 0#32 ∧ t.rd Reg.RST.LOG_TIME_NS.addr = 0#32) := by
  have hexec : execRstLogSelect k s = .next ((s.put Reg.RST.LOG_SEL.INDEX k.val).showLog 0#32 0#32 0#32) := by
    unfold execRstLogSelect
    rw [h]
    rfl
  exact ⟨_, hexec, rd_showLog _ _ _ _⟩

end Sys2Proof.Machine
end

section
/-! BLOCK resets: what one leaves of the slots and of RST.CMD_STATUS, and what writing the BLOCKCFG records again leaves of the
resets (R454, R459, R473). -/

namespace Sys2Proof.Machine

variable {o s : State}

/-! ## What the wipe of a block leaves -/

/-- On the way from `o` to `s` the slots and the status of RST have stayed. -/
structure StatusKept (o s : State) : Prop where
  slots : s.slots = o.slots
  status : s.rd Reg.RST.CMD_STATUS.addr = o.rd Reg.RST.CMD_STATUS.addr

theorem StatusKept.refl (s : State) : StatusKept s s := ⟨rfl, rfl⟩

theorem StatusKept.of_eq {t : State} (h : StatusKept o s) (hs : t.slots = s.slots) (hr : t.regs = s.regs) : StatusKept o t :=
  ⟨hs.trans h.slots, (State.rd_congr hr _).trans h.status⟩

theorem StatusKept.wr {a : Nat} {x : Word} (h : StatusKept o s) (ha : Reg.RST.CMD_STATUS.addr ≠ a) : StatusKept o (s.wr a x) :=
  ⟨h.slots, (State.rd_wr_other s a _ x ha).trans h.status⟩

theorem StatusKept.foldl {α : Type} {f : State → α → State} {l : List α} (h : StatusKept o s)
    (hf : ∀ t, ∀ x ∈ l, StatusKept o t → StatusKept o (f t x)) : StatusKept o (l.foldl f s) :=
  List.foldlRecOn l f h fun t ht x hx => hf t x hx ht

theorem StatusKept.ilockEpisodes (h : StatusKept o s) : StatusKept o s.ilockEpisodes := by
  unfold State.ilockEpisodes
  refine h.foldl fun t k _ ht => ?_
  dsimp only
  split
  · exact ht
  · split
    · rename_i p _ _
      refine StatusKept.wr (ht.of_eq rfl rfl) ?_
      show (0x4003001c : Nat) ≠ 0x400a103c + (Fin.ofNat 32 p.legX).val * 0x80
      omega
    · exact ht

theorem StatusKept.openBlank {n : Nat} {a b : Bool} (h : StatusKept o s) : StatusKept o (s.openBlank n a b) := by
  unfold State.openBlank
  split
  · exact h.of_eq rfl rfl
  · exact h

theorem StatusKept.settle (h : StatusKept o s) : StatusKept o s.settle :=
  h.ilockEpisodes.foldl fun _ _ _ ht => StatusKept.openBlank (ht.of_eq rfl rfl)

theorem StatusKept.followForce {n : Fin 32} {point : Bool} (h : StatusKept o s) : StatusKept o (s.followForce n point) := by
  unfold State.followForce
  dsimp only
  split
  · split
    · exact h
    · exact h.of_eq rfl rfl
  · split
    · exact h.of_eq rfl rfl
    · exact h

theorem StatusKept.reforce (h : StatusKept o s) : StatusKept o s.reforce :=
  (h.foldl fun _ _ _ ht => ht.followForce).settle

theorem StatusKept.route {cls idx : Nat} {p : Port} (h : StatusKept o s) : StatusKept o (s.route cls idx p) := by
  refine h.foldl fun t r _ ht => ?_
  dsimp only
  split
  · exact ht.of_eq rfl rfl
  · exact ht

theorem StatusKept.trkZero (h : StatusKept o s) : StatusKept o s.trkZero := h.foldl fun _ _ _ ht => ht.route

theorem StatusKept.dropPresent {gs : List Nat} (h : StatusKept o s) : StatusKept o (s.dropPresent gs) := h.of_eq rfl rfl

/-- The wipe of a block leaves the status of RST, and that of any block but DRIVE the slots. -/
theorem wipeBlock_leaves (s : State) (n : Nat) :
    (s.wipeBlock n).rd Reg.RST.CMD_STATUS.addr = s.rd Reg.RST.CMD_STATUS.addr ∧ (n ≠ 18 → (s.wipeBlock n).slots = s.slots) := by
  have keep {t : State} (h : StatusKept s t) :
      t.rd Reg.RST.CMD_STATUS.addr = s.rd Reg.RST.CMD_STATUS.addr ∧ (n ≠ 18 → t.slots = s.slots) :=
    ⟨h.status, fun _ => h.slots⟩
  have h : StatusKept s s := .refl s
  unfold State.wipeBlock
  split
  · exact keep (StatusKept.reforce (h.of_eq rfl rfl))
  · exact keep (h.of_eq rfl rfl)
  · exact keep (StatusKept.dropPresent (StatusKept.trkZero (h.of_eq rfl rfl)))
  · exact keep (h.of_eq rfl rfl)
  · exact keep (h.of_eq rfl rfl)
  · exact keep (h.of_eq rfl rfl)
  · exact keep (h.of_eq rfl rfl)
  · exact ⟨rfl, fun hn => absurd rfl hn⟩
  · obtain ⟨v, hv⟩ := exists_abandon_disarm s
    rw [hv]
    exact keep (h.of_eq rfl rfl)
  · exact keep (h.of_eq rfl rfl)
  · exact keep h

/-- The registers of a block other than RST are reset without a change to its status. -/
theorem StatusKept.resetRegs {n w : Nat} (h : StatusKept o s) (hn : n ≠ blockOf Reg.RST.CMD_STATUS.addr) :
    StatusKept o (s.resetRegs w (fun b => b == n)) := by
  refine h.foldl fun t p _ ht => ?_
  dsimp only
  split
  · rename_i hp
    exact ht.wr fun e => hn (e ▸ (eq_of_beq hp).symm)
  · exact ht

/-! ## BLOCK -/

theorem blockOf_ne_of_blockAllowed {n : Nat} (h : s.blockAllowed n = true) : n ≠ blockOf Reg.RST.CMD_STATUS.addr := by
  rintro rfl
  exact Bool.false_ne_true h

theorem blockIdle_fresh (s : State) (w : Bool) (n : Nat) : s.fresh.2.blockIdle w n = s.blockIdle w n := by
  unfold State.blockIdle
  split <;> rfl

/-- The state that an accepted reset of block n leads to. -/
def State.blockReset (s : State) (n : Nat) : State :=
  let t := ((s.fresh.2.status Reg.RST.CMD_STATUS.addr codeOk).resetRegs 3 (fun b => b == n)).wipeBlock n
  { t with rst := { t.rst with block := some n } }

theorem execRstBlock_of_idle {b : Fin 32} (hal : s.blockAllowed b.val = true) (hnone : s.rst.block = none)
    (hi : s.blockIdle (s.fresh.1.getLsbD 0) b.val = true) : execRstBlock b 0xA5#8 s = .next (s.blockReset b.val) := by
  have hok : ¬ (!s.blockAllowed b.val || s.rst.block.isSome) = true := by simp [hal, hnone]
  unfold execRstBlock
  dsimp only
  rw [if_neg (fun h => h rfl), if_neg hok]
  exact if_pos ((blockIdle_fresh s _ _).trans hi)

theorem execRstBlock_of_busy {b : Fin 32} (hal : s.blockAllowed b.val = true) (hnone : s.rst.block = none)
    (hi : s.blockIdle (s.fresh.1.getLsbD 0) b.val = false) :
    execRstBlock b 0xA5#8 s = .next ((s.fresh.2.status Reg.RST.CMD_STATUS.addr codeBlockBusy).raise (rstCause 4)) := by
  have hok : ¬ (!s.blockAllowed b.val || s.rst.block.isSome) = true := by simp [hal, hnone]
  unfold execRstBlock
  dsimp only
  rw [if_neg (fun h => h rfl), if_neg hok]
  exact if_neg (Bool.eq_false_iff.mp ((blockIdle_fresh s _ _).trans hi))

theorem get_status_blockReset {n : Nat} (hal : s.blockAllowed n = true) :
    (s.blockReset n).get Reg.RST.CMD_STATUS.CODE = codeOk := by
  have hst := (wipeBlock_leaves ((s.fresh.2.status Reg.RST.CMD_STATUS.addr codeOk).resetRegs 3 (fun b => b == n)) n).1
  have hreg := (StatusKept.refl (s.fresh.2.status Reg.RST.CMD_STATUS.addr codeOk)).resetRegs (w := 3)
    (blockOf_ne_of_blockAllowed hal)
  exact (congrArg (getBits · 0 8) (hst.trans hreg.status)).trans (State.get_status s.fresh.2 Reg.RST.CMD_STATUS.addr codeOk)

theorem slots_blockReset {n : Nat} (hal : s.blockAllowed n = true) (hn : n ≠ 18) : (s.blockReset n).slots = s.slots :=
  ((wipeBlock_leaves _ n).2 hn).trans
    ((StatusKept.refl (s.fresh.2.status Reg.RST.CMD_STATUS.addr codeOk)).resetRegs (blockOf_ne_of_blockAllowed hal)).slots

theorem blockBusy_reads (s : State) :
    let t := (s.fresh.2.status Reg.RST.CMD_STATUS.addr codeBlockBusy).raise (rstCause 4)
    t.rst = s.rst ∧ t.get Reg.RST.CMD_STATUS.CODE = codeBlockBusy ∧ t.causeSet ⟨45, 4⟩ = true ∧ t.slots = s.slots := by
  refine ⟨State.raise_rst _ _, ?_, State.causeSet_raise _ _ (show 4 < 32 by decide), State.raise_slots _ _⟩
  rw [State.get_raise _ _ _ (by decide)]
  exact State.get_status _ _ _

theorem rstBlock_runs {b : Fin 32} (hal : s.blockAllowed b.val = true) (hnone : s.rst.block = none) :
    Runs (.rstBlock b 0xA5#8) s (fun t =>
      (s.blockIdle true b.val = s.blockIdle false b.val → t.rst.block = (if s.blockIdle false b.val then some b.val else none)) ∧
      (t.rst.block = some b.val ∧ t.get Reg.RST.CMD_STATUS.CODE = codeOk ∧ (b.val ≠ 18 → t.slots = s.slots) ∨
        t.rst = s.rst ∧ t.get Reg.RST.CMD_STATUS.CODE = codeBlockBusy ∧ t.causeSet ⟨45, 4⟩ = true ∧ t.slots = s.slots)) := by
  have hfree (h : s.blockIdle true b.val = s.blockIdle false b.val) :
      s.blockIdle (s.fresh.1.getLsbD 0) b.val = s.blockIdle false b.val := by
    cases s.fresh.1.getLsbD 0 with
    | true => exact h
    | false => rfl
  cases hi : s.blockIdle (s.fresh.1.getLsbD 0) b.val with
  | true =>
    exact ⟨_, execRstBlock_of_idle hal hnone hi, fun h => (if_pos ((hfree h).symm.trans hi)).symm,
      .inl ⟨rfl, get_status_blockReset hal, slots_blockReset hal⟩⟩
  | false =>
    obtain ⟨hrst, hrest⟩ := blockBusy_reads s
    refine ⟨_, execRstBlock_of_busy hal hnone hi, fun h => ?_, .inr ⟨hrst, hrest⟩⟩
    rw [hrst, hnone, ← hfree h, hi]
    rfl

theorem rstBlock_denied {b : Fin 32} (h : s.blockAllowed b.val = false ∨ s.rst.block.isSome = true) :
    Runs (.rstBlock b 0xA5#8) s (fun t =>
      t.rst = s.rst ∧ t.get Reg.RST.CMD_STATUS.CODE = codeDenied ∧ t.causeSet ⟨45, 5⟩ = true) := by
  have hden : (!s.blockAllowed b.val || s.rst.block.isSome) = true := by simpa using h
  obtain ⟨hcause, hcode⟩ := rstDenied_deny s
  have hexec : execRstBlock b 0xA5#8 s = .next (s.deny Reg.RST.CMD_STATUS.addr (rstCause 5)) := by
    unfold execRstBlock
    dsimp only
    rw [if_neg (fun h => h rfl), if_pos hden]
  exact ⟨_, hexec, State.deny_rst s _ _, hcode, hcause⟩

/-! ## BLOCK_DONE -/

/-- On the way from `o` to `s` the resets and their episodes have stayed. -/
structure RstKept (o s : State) : Prop where
  rst : s.rst = o.rst

theorem RstKept.refl (s : State) : RstKept s s := ⟨rfl⟩

theorem RstKept.of_eq {t : State} (h : RstKept o s) (ht : t.rst = s.rst) : RstKept o t := ⟨ht.trans h.rst⟩

theorem RstKept.ite {p : Prop} [Decidable p] {t : State} (hs : RstKept o s) (ht : RstKept o t) :
    RstKept o (if p then s else t) := by
  split
  · exact hs
  · exact ht

theorem RstKept.foldl {α : Type} {f : State → α → State} {l : List α} (h : RstKept o s)
    (hf : ∀ {t x}, RstKept o t → RstKept o (f t x)) : RstKept o (l.foldl f s) :=
  List.foldlRecOn l f h fun _ ht _ _ => hf ht

theorem RstKept.wr {a : Nat} {x : Word} (h : RstKept o s) : RstKept o (s.wr a x) := h.of_eq rfl

theorem RstKept.put {f : Fld} {v : Nat} (h : RstKept o s) : RstKept o (s.put f v) := h.wr

theorem RstKept.setLeg {n : Fin 32} {x : Leg} (h : RstKept o s) : RstKept o (s.setLeg n x) := h.of_eq rfl

theorem RstKept.setTripIn {i : Fin 16} {x : TripIn} (h : RstKept o s) : RstKept o (s.setTripIn i x) := h.of_eq rfl

theorem RstKept.setCauseM {c : Cause} {m : Mark} (h : RstKept o s) : RstKept o (s.setCauseM c m) :=
  h.of_eq (State.setCauseM_rst s c m)

theorem RstKept.raise {c : Cause} (h : RstKept o s) : RstKept o (s.raise c) := h.of_eq (State.raise_rst s c)

theorem RstKept.edgeDetail {n : Fin 64} {d : Nat} {m : Mark} (h : RstKept o s) : RstKept o (s.edgeDetail n d m) :=
  have h1 : RstKept o _ := h.put.setCauseM
  .ite h1 (h1.of_eq (State.pulseTrip_same _ _).rst)

/-- Blocks 11, 15 and 18 find the cause of a channel, of every slot and of a slot; the last case has no cause. -/
theorem RstKept.envelope {a : Nat} (h : RstKept o s) : RstKept o (s.envelope a) := by
  unfold State.envelope
  split
  case h_5 => exact h.edgeDetail
  case h_9 => exact h.foldl RstKept.raise
  case h_12 => split <;> exact h.raise
  case h_17 => exact h
  all_goals exact h.raise

theorem RstKept.envQuery (h : RstKept o s) : RstKept o s.envQuery := by
  unfold State.envQuery
  dsimp only
  split
  · exact h.put.put.put.wr.wr
  · exact h.wr.wr.wr

theorem RstKept.cfgRecord {r : Nat × Word} (h : RstKept o s) : RstKept o (s.cfgRecord r) := by
  conv in State.cfgRecord => delta State.cfgRecord
  extract_lets s1
  have h1 : RstKept o s1 := h.wr
  split
  · exact h.envelope
  · exact h.raise
  · exact .ite h1.envQuery h1

theorem RstKept.loadShadows {n : Fin 32} (h : RstKept o s) : RstKept o (s.loadShadows n) :=
  .ite (h.foldl (fun h => .ite h.wr.setLeg h)).put.setLeg (h.foldl (fun h => .ite h.wr.setLeg h))

theorem RstKept.presentTrip {c : Cause} (h : RstKept o s) : RstKept o (s.presentTrip c) := by
  unfold State.presentTrip
  split
  · exact .ite (h.of_eq rfl) h
  · exact h

theorem RstKept.endTrip {c : Cause} (h : RstKept o s) : RstKept o (s.endTrip c) := h.of_eq rfl

theorem RstKept.tripInAct {i : Fin 16} {level live : Bool} (h : RstKept o s) : RstKept o (s.tripInAct i level live) :=
  .ite h.setTripIn.put.setCauseM.presentTrip (.ite h.setTripIn.endTrip h)

theorem RstKept.tripInEval {i : Fin 16} (h : RstKept o s) : RstKept o (s.tripInEval i) := by
  unfold State.tripInEval
  dsimp only
  split
  · exact h
  · split
    · have h1 : RstKept o ((s.tripInAct i true true).status (tripInjCtrl i) codeActed) := h.tripInAct.put
      exact .ite h.setTripIn (.ite h (h1.of_eq rfl))
    · exact h.tripInAct

theorem RstKept.ctlNow (h : RstKept o s) : RstKept o s.ctlNow.2 := by
  obtain ⟨f, x, he⟩ := exists_edgeNow s
  refine h.of_eq ?_
  show s.edgeNow.rst = s.rst
  rw [he]

theorem RstKept.sdmEnabled {s0 : State} (h : RstKept o s) : RstKept o (s0.sdmEnabled s) := .ite (h.ctlNow.of_eq rfl) h

/-- Writing a block's BLOCKCFG records again moves nothing of the resets. -/
theorem RstKept.applyBlock {b : Nat} (h : RstKept o s) : RstKept o (s.applyBlock b) := by
  unfold State.applyBlock
  extract_lets s1 s2
  have h1 : RstKept o s1 := h.foldl RstKept.cfgRecord
  have h2 : RstKept o s2 :=
    .ite ((h1.foldl RstKept.loadShadows).foldl RstKept.tripInEval) (.ite h1.put (.ite h1.sdmEnabled (.ite (h1.of_eq rfl) h1)))
  split
  · exact h2.put
  · exact h2

theorem RstKept.loadParams (h : RstKept o s) : RstKept o s.loadParams := (h.foldl RstKept.wr).foldl fun h => .ite h.wr h

theorem RstKept.deadSeqs (h : RstKept o s) : RstKept o s.deadSeqs := by
  unfold State.deadSeqs
  refine h.foldl fun ht => .ite ?_ ht
  split
  · exact ht.of_eq rfl
  · exact ht.of_eq rfl

/-- BLOCK_DONE releases the block and sets its cause (R459, R473). -/
theorem blockDone_runs {n : Nat} (h : s.rst.block = some n) :
    Runs .blockDone s (fun t => t.rst.block = none ∧ t.causeSet ⟨45, 3⟩ = true) := by
  have hexec : ∃ u : State, execBlockDone s = .next (u.raise (rstCause 3)) ∧
      RstKept { s with rst := { s.rst with block := none } } u := by
    unfold execBlockDone
    rw [h]
    have ha := (RstKept.refl { s with rst := { s.rst with block := none } }).applyBlock (b := n)
    exact ⟨_, rfl, .ite ha.loadParams (.ite ha.deadSeqs ha)⟩
  obtain ⟨u, hexec, hu⟩ := hexec
  exact ⟨_, hexec, congrArg RstSt.block hu.raise.rst, State.causeSet_raise u _ (show 3 < 32 by decide)⟩

theorem blockDone_idle (h : s.rst.block = none) : execBlockDone s = .next s := by
  unfold execBlockDone
  rw [h]

end Sys2Proof.Machine

section
open Sys2Proof.Machine

/-- Settles O37: each command comes to `assertReset`, `release`, a refusal or the reset of a block. That POWER_ON releases POR with
HOLDUP, and that the log stays open until host enable, are log entry 20; the idle bits of SDM and CAN are free by log entry 13. -/
theorem resetCommandsRun : Obligations.ResetCommandsRun := by
  unfold Obligations.ResetCommandsRun
  intro s
  refine ⟨fun src hsrc => ⟨fun h => ?_, fun h hw => ?_, fun h => ?_, fun h => ?_⟩, resetAssert_update,
    resetAssert_update_idle, fun ns may h => ⟨if_pos h, fun hrun => ?_⟩, fun ns may h => resetNLow_idle h, resetRelease_runs,
    fun h => if_neg h, powerOn_releases, powerOn_held, fun h => if_neg h, holdupEnd_idle, fun h => if_neg (by simp [h]),
    fun h => if_neg (by simp [h]), holdupEnd_runs, fun hrun h => runs_of_assertReset (src := 6) (if_pos h) hrun,
    fun hrun h => runs_of_assertReset (src := 7) (if_pos h) hrun,
    fun hrun => runs_of_assertReset (src := 5) (execRstWarm_of_key s) hrun,
    fun hrun hrest hslow => runs_of_assertReset (src := 3) (execRstSystem_of_allowed hrest hslow) hrun, rstSystem_denied,
    fun key hkey => ⟨if_neg hkey, if_pos hkey, fun b => if_pos hkey⟩, fun b => rstBlock_runs, fun b => rstBlock_denied,
    fun n => blockDone_runs, blockDone_idle, fun k => ⟨fun e => rstLogSelect_entry, rstLogSelect_none⟩⟩
  · obtain ⟨hlife, hactive, hsources, hreach⟩ := episodeOf_assertReset (s := s) (src := src)
      (h.imp_right (Or.imp_right (And.imp_right fun h => if_pos h)))
    exact ⟨_, execResetAssert_of_lt hsrc s, hlife, hactive, hsources, hreach.trans (startReach_eq s src)⟩
  · have hr : srcReach src ≠ 0 := by
      unfold srcReach
      split_ifs <;> omega
    exact (execResetAssert_of_lt hsrc s).trans (congrArg Host.Outcome.next (assertReset_of_resetSafe h hr))
  · exact (execResetAssert_of_lt hsrc s).trans (congrArg Host.Outcome.next (assertReset_of_noSupply h src))
  · exact ⟨_, execResetAssert_of_lt hsrc s, assertReset_of_reset h src⟩
  · exact runs_of_assertReset (src := 2) (if_pos h) hrun
end
end

section
/-! What a lane beyond repair, a trip and a chopper request leave of the fabric and of the power stage: the course, the fabric, the
slots, the channels, the DC-link results and some registers, with no cause cleared. Each rule follows the body of its function. -/

namespace Sys2Proof.Machine

variable {o s : State}

/-- The registers that the fabric commands and the drive commands read back, and nothing beside them moves: SCRUB_CNT, FAILSIDE, PARAMS
of each slot, and STATUS and EVENTS of charging. -/
def stageRegs : List Nat :=
  [Reg.PISTE.SCRUB_CNT.addr, Reg.PWM.TRIP.FAILSIDE.addr, Reg.DRIVE.SLOT.PARAMS.addr 0, Reg.DRIVE.SLOT.PARAMS.addr 1,
    Reg.DRIVE.SLOT.PARAMS.addr 2, Reg.DRIVE.SLOT.PARAMS.addr 3, Reg.DRIVE.CHG.STATUS.addr, Reg.DRIVE.CHG.EVENTS.addr]

/-- An address apart from `stageRegs` and from the CAUSE words. -/
def asideReg (a : Nat) : Bool := noCause a && !stageRegs.contains a

theorem notMem_of_asideReg {a : Nat} (h : asideReg a = true) : a ∉ stageRegs := by
  simpa using (Bool.and_eq_true_iff.mp h).2

theorem causeAddr_ne_of_asideReg {a g : Nat} (h : asideReg a = true) (hg : g < 64) : Reg.INT.GRP.CAUSE.addr g ≠ a := by
  have hc := (Bool.and_eq_true_iff.mp h).1
  simp only [noCause, Reg.INT.GRP.CAUSE.addr, Bool.or_eq_true, decide_eq_true_eq] at hc ⊢
  omega

theorem causeAddr_notMem_stageRegs : ∀ {g : Nat}, g < 64 → Reg.INT.GRP.CAUSE.addr g ∉ stageRegs := by decide

theorem asideReg_stats : ∀ n : Fin 32, asideReg (Reg.PWM.LEG.STATS.addr n.val) = true := by decide

theorem asideReg_rotResult : ∀ i : Fin 4, asideReg (Reg.SLALOM.SL.ROT_RESULT.addr i.val) = true := by decide

theorem asideReg_driveStatus : ∀ i : Fin 4, asideReg (Reg.DRIVE.SLOT.CMD_STATUS.addr i.val) = true := by decide

theorem asideReg_param {k : Nat} (h : k < 256) : asideReg (Reg.CARVE.PARAM.addr k) = true := by
  have houtside : ∀ a ∈ stageRegs, a < Reg.CARVE.PARAM.addr 0 ∨ Reg.CARVE.PARAM.addr 256 ≤ a := by decide
  have hmem : Reg.CARVE.PARAM.addr k ∉ stageRegs := fun hk => by
    have := houtside _ hk
    simp only [Reg.CARVE.PARAM.addr] at this
    omega
  simp only [asideReg, noCause, Reg.INT.GRP.CAUSE.addr, Reg.CARVE.PARAM.addr, Bool.and_eq_true, Bool.or_eq_true,
    decide_eq_true_eq, Bool.not_eq_true', List.contains_eq_mem, decide_eq_false_iff_not] at hmem ⊢
  exact ⟨.inr (by omega), hmem⟩

/-- From `o` to `s` the fabric and the power stage stand as before: no register of `stageRegs` has moved and no cause is cleared. -/
structure StageKept (o s : State) : Prop where
  course : s.course = o.course
  piste : s.piste = o.piste
  slots : s.slots = o.slots
  edges : s.edges = o.edges
  dcl : s.dcl = o.dcl
  dischReq : s.chop.dischReq = o.chop.dischReq
  regs : ∀ a ∈ stageRegs, s.rd a = o.rd a
  causes : ∀ c : Cause, c.grp < 64 → c.bit < 32 → o.causeSet c = true → s.causeSet c = true

theorem StageKept.refl (s : State) : StageKept s s := ⟨rfl, rfl, rfl, rfl, rfl, rfl, fun _ _ => rfl, fun _ _ _ => id⟩

theorem StageKept.trans {t : State} (h : StageKept o s) (h' : StageKept s t) : StageKept o t where
  course := h'.course.trans h.course
  piste := h'.piste.trans h.piste
  slots := h'.slots.trans h.slots
  edges := h'.edges.trans h.edges
  dcl := h'.dcl.trans h.dcl
  dischReq := h'.dischReq.trans h.dischReq
  regs a ha := (h'.regs a ha).trans (h.regs a ha)
  causes c hg hb hc := h'.causes c hg hb (h.causes c hg hb hc)

theorem StageKept.get {f : Fld} (h : StageKept o s) (hf : f.addr ∈ stageRegs) : s.get f = o.get f := by
  simp only [State.get, h.regs f.addr hf]

theorem StageKept.flag {f : Fld} (h : StageKept o s) (hf : f.addr ∈ stageRegs) : s.flag f = o.flag f := by
  simp only [State.flag, h.get hf]

theorem StageKept.slot (h : StageKept o s) (i : Fin 4) : s.slot i = o.slot i := by
  simp only [State.slot, h.slots]

/-- An update of what is neither fabric, slots, channels, DC-link results nor a register. -/
theorem StageKept.upd {f lg ti tr sl ch cg td g ca cn} (h : StageKept o s) (hd : ch.dischReq = s.chop.dischReq := by rfl) :
    StageKept o { s with freeCount := f, legs := lg, tripIns := ti, trip := tr, slalom := sl, chop := ch, chg := cg, triad := td,
                         groom := g, carve := ca, can := cn } :=
  ⟨h.course, h.piste, h.slots, h.edges, h.dcl, hd.trans h.dischReq, h.regs, h.causes⟩

theorem StageKept.ite {c : Prop} [Decidable c] {a b : State} (ha : StageKept o a) (hb : StageKept o b) :
    StageKept o (if c then a else b) := by
  split
  · exact ha
  · exact hb

theorem StageKept.foldl {α : Type} {f : State → α → State} {l : List α} (h : StageKept o s)
    (hf : ∀ {t x}, StageKept o t → StageKept o (f t x)) : StageKept o (l.foldl f s) :=
  List.foldlRecOn l f h fun _ ht _ _ => hf ht

theorem StageKept.wr {a : Nat} {x : Word} (h : StageKept o s) (ha : asideReg a = true) : StageKept o (s.wr a x) where
  course := h.course
  piste := h.piste
  slots := h.slots
  edges := h.edges
  dcl := h.dcl
  dischReq := h.dischReq
  regs b hb := (State.rd_wr_other s a b x fun e => notMem_of_asideReg ha (e ▸ hb)).trans (h.regs b hb)
  causes c hg hb hc := by
    have hrd := State.rd_wr_other s a _ x (causeAddr_ne_of_asideReg ha hg)
    simpa only [State.causeSet, State.causeWord, hrd] using h.causes c hg hb hc

theorem StageKept.put {f : Fld} {v : Nat} (h : StageKept o s) (hf : asideReg f.addr = true) : StageKept o (s.put f v) := h.wr hf

theorem StageKept.raise {c : Cause} (h : StageKept o s) (hc : c.grp < 64 := by decide) : StageKept o (s.raise c) where
  course := (State.raise_course _ _).trans h.course
  piste := (State.raise_piste _ _).trans h.piste
  slots := (State.raise_slots _ _).trans h.slots
  edges := (State.raise_edges _ _).trans h.edges
  dcl := (State.raise_dcl _ _).trans h.dcl
  dischReq := (congrArg ChopSt.dischReq (State.raise_chop _ _)).trans h.dischReq
  regs a ha := (State.rd_raise s c a fun e => causeAddr_notMem_stageRegs hc (e ▸ ha)).trans (h.regs a ha)
  causes d hg hb hd := State.causeSet_raise_mono s c d (h.causes d hg hb hd) hb

/-! ## What the two states take together -/

theorem StageKept.setSlot {i : Fin 4} {x : Slot} (h : StageKept o s) : StageKept (o.setSlot i x) (s.setSlot i x) :=
  ⟨h.course, h.piste, congrArg (Vector.set · i x) h.slots, h.edges, h.dcl, h.dischReq, h.regs, h.causes⟩

theorem StageKept.setPiste {p : PisteSt} (h : StageKept o s) : StageKept { o with piste := p } { s with piste := p } :=
  ⟨h.course, rfl, h.slots, h.edges, h.dcl, h.dischReq, h.regs, h.causes⟩

/-! ## Legs and the trip network -/

theorem StageKept.ilockEpisodes (h : StageKept o s) : StageKept o s.ilockEpisodes := by
  unfold State.ilockEpisodes
  dsimp only
  refine h.foldl fun h => ?_
  split
  · exact h
  · exact .ite (h.upd.put (asideReg_stats _)) h

theorem StageKept.openBlank {n : Nat} {a b : Bool} (h : StageKept o s) : StageKept o (s.openBlank n a b) := .ite h.upd h

theorem StageKept.settle (h : StageKept o s) : StageKept o s.settle := h.ilockEpisodes.foldl fun h => StageKept.openBlank h.upd

theorem StageKept.followForce {n : Fin 32} {point : Bool} (h : StageKept o s) : StageKept o (s.followForce n point) := by
  unfold State.followForce
  dsimp only
  split
  · exact .ite h h.upd
  · exact .ite h.upd h

theorem StageKept.reforce (h : StageKept o s) : StageKept o s.reforce := (h.foldl StageKept.followForce).settle

theorem StageKept.mpAct {n : Fin 32} (h : StageKept o s) : StageKept o (s.mpAct n) := h.put (asideReg_stats n)

theorem StageKept.leadEdge {n : Fin 32} {b : Bool} (h : StageKept o s) : StageKept o (s.leadEdge n b) :=
  .ite h.upd (.ite (StageKept.mpAct h.upd) (.ite (StageKept.mpAct h.upd) h.upd))

theorem StageKept.refOn {n : Fin 32} {b : Bool} {t : Int} (h : StageKept o s) : StageKept o (s.refOn n b t) :=
  .ite (StageKept.leadEdge h.upd) h.upd

theorem StageKept.refOff {n : Fin 32} {b : Bool} {t : Int} {m : RefMove} (h : StageKept o s) : StageKept o (s.refOff n b t m) :=
  have h1 : StageKept o _ := .ite h.leadEdge h
  .ite (.ite h1.upd (StageKept.mpAct h1.upd)) h1.upd

theorem StageKept.applyRef {n : Fin 32} {b new : Bool} {m : RefMove} (h : StageKept o s) : StageKept o (s.applyRef n b new m) :=
  .ite h (.ite h.refOn h.refOff)

theorem StageKept.updateRefs {n : Fin 32} {m : RefMove} (h : StageKept o s) : StageKept o (s.updateRefs n m) :=
  .ite h.applyRef.applyRef h.applyRef.applyRef

theorem StageKept.legElapse {n : Fin 32} (h : StageKept o s) : StageKept o (s.legElapse n) := h.upd

theorem StageKept.chopRefs (h : StageKept o s) : StageKept o s.chopRefs :=
  (h.foldl fun h => .ite h.legElapse.updateRefs h).settle

end Sys2Proof.Machine
end

section
/-! The fabric commands (R89 to R94, R96, R97): what the scrubber does to one tile leaves every other, and a pass goes tile by tile. -/

namespace Sys2Proof.Machine

variable {o s : State}

/-! ## A lane beyond repair -/

theorem StageKept.double (h : StageKept o s) : StageKept o s.double :=
  StageKept.reforce (StageKept.upd ((h.put (by decide)).raise))

theorem StageKept.retireLane {x : Nat} (h : StageKept o s) : StageKept o (s.retireLane x) :=
  StageKept.put (StageKept.upd (h.put (by decide))) (by decide)

theorem StageKept.replaceLane (h : StageKept o s) : StageKept o s.replaceLane := by
  unfold State.replaceLane
  split
  · exact (StageKept.put h.upd (by decide)).put (by decide)
  · exact (h.put (by decide)).raise.raise

theorem StageKept.beyondRepair {x : Nat} (h : StageKept o s) : StageKept o (s.beyondRepair x) := by
  unfold State.beyondRepair
  dsimp only
  split
  · exact (StageKept.put h.upd (by decide)).retireLane.raise
  · split
    · exact .ite h.retireLane.raise.replaceLane h
    · exact h.upd
    · exact .ite h.double h
    · exact h

/-! ## A tile declared failed -/

theorem asideReg_sparesFld (lane : Nat) : asideReg (sparesFld lane).addr = true :=
  show asideReg Reg.PISTE.SPARES.addr = true by decide

/-- Without a free spare the lane is beyond repair (R92). -/
theorem stageKept_tileFailed_of_no_spare {lane : Nat} (h : s.freeSpares lane = []) (tile : Nat) :
    StageKept { (s.raise (pisteCause 2)).spareOut with piste := { s.piste with beyond := s.piste.beyond ++ [lane] } }
      (s.tileFailed lane tile) := by
  have hpiste : (s.raise (pisteCause 2)).spareOut.piste = s.piste := by
    rw [State.spareOut, State.raise_piste, State.raise_piste]
  unfold State.tileFailed
  rw [h]
  dsimp only
  rw [hpiste]
  exact (StageKept.refl _).beyondRepair

/-- The fabric with a replacement that begins. -/
def State.repairing (s : State) (u : TileSpare) : State :=
  { s with piste := { s.piste with repairs := s.piste.repairs ++ [{ unit := u }] } }

/-- The first free spare of the lane runs beside the tile (R91). -/
theorem stageKept_tileFailed_of_spare {lane k : Nat} {rest : List Nat} (h : s.freeSpares lane = k :: rest) (tile : Nat) :
    StageKept (s.repairing ⟨lane, tile, k⟩) (s.tileFailed lane tile) := by
  have hshown : StageKept (s.repairing ⟨lane, tile, k⟩) ((s.repairing ⟨lane, tile, k⟩).showSpares lane) :=
    (StageKept.refl _).put (asideReg_sparesFld lane)
  unfold State.tileFailed
  rw [h]
  exact .ite hshown.raise.beyondRepair hshown

/-- A failed tile moves of the fabric but its own replacement and the lanes beyond repair. -/
theorem exists_stageKept_tileFailed (s : State) (lane tile : Nat) : ∃ r b,
    StageKept { s with piste := { s.piste with repairs := s.piste.repairs ++ r, beyond := b } } (s.tileFailed lane tile) ∧
    ∀ x ∈ r, x.unit.lane = lane ∧ x.unit.tile = tile := by
  cases h : s.freeSpares lane with
  | nil =>
    have hraised : StageKept s ((s.raise (pisteCause 2)).spareOut) := (StageKept.refl s).raise.raise
    refine ⟨[], s.piste.beyond ++ [lane], ?_, by simp⟩
    rw [List.append_nil]
    exact hraised.setPiste.trans (stageKept_tileFailed_of_no_spare h tile)
  | cons k rest => exact ⟨[{ unit := ⟨lane, tile, k⟩ }], s.piste.beyond, stageKept_tileFailed_of_spare h tile, by simp⟩

/-! ## A tile that differs -/

/-- A replacement of a tile is under way. -/
def State.replacing (s : State) (lane tile : Nat) : Bool :=
  s.piste.repairs.any (fun r => r.unit.lane == lane && r.unit.tile == tile)

/-- The run of mismatching passes of a tile. -/
def State.mismatches (s : State) (lane tile : Nat) : BitVec 8 := cellGet (fun _ => 0#8) s.piste.runs (tileKey lane tile)

/-- The fabric once a mismatch of a tile is counted. -/
def State.counted (s : State) (lane tile : Nat) : State :=
  let n := (s.mismatches lane tile).toNat + 1
  { s with piste := { s.piste with runs := cellSet (fun _ => 0#8) s.piste.runs (tileKey lane tile) (BitVec.ofNat 8 n) } }

theorem mismatch_eq (s : State) (lane tile : Nat) : s.mismatch lane tile =
    if s.replacing lane tile || !s.tileUsed lane tile then s
    else if 3 ≤ (s.mismatches lane tile).toNat + 1 then (s.counted lane tile).tileFailed lane tile
    else { s.counted lane tile with piste := { (s.counted lane tile).piste with swaps := s.piste.swaps ++ [(lane, tile)] } } :=
  rfl

/-- What a mismatch of a tile leaves: registers, tiles in use, the swaps that wait, and what is known of every other tile. -/
structure MismatchKept (s t : State) (lane tile : Nat) : Prop where
  regs : ∀ a ∈ stageRegs, t.rd a = s.rd a
  used : t.tileUsed = s.tileUsed
  swaps : ∀ p ∈ s.piste.swaps, p ∈ t.piste.swaps
  runs : ∀ key ≠ tileKey lane tile, cellGet (fun _ => 0#8) t.piste.runs key = cellGet (fun _ => 0#8) s.piste.runs key
  replacing : ∀ l k, ¬ (l = lane ∧ k = tile) → t.replacing l k = s.replacing l k

theorem mismatchKept_counted (s : State) (lane tile : Nat) : MismatchKept s (s.counted lane tile) lane tile where
  regs _ _ := rfl
  used := rfl
  swaps _ := id
  runs _ h := cellGet_set_other _ _ _ _ _ h
  replacing _ _ _ := rfl

theorem tileUsed_congr {t : State} (hc : t.course = s.course) (hr : t.piste.replaced = s.piste.replaced) :
    t.tileUsed = s.tileUsed := by
  funext lane tile
  simp only [State.tileUsed, hc, hr]

theorem mismatchKept_tileFailed (s : State) (lane tile : Nat) : MismatchKept s (s.tileFailed lane tile) lane tile := by
  obtain ⟨r, b, h, hr⟩ := exists_stageKept_tileFailed s lane tile
  refine ⟨h.regs, tileUsed_congr h.course ?_, fun p hp => ?_, fun key _ => ?_, fun l k hlk => ?_⟩
  · rw [h.piste]
  · rwa [h.piste]
  · rw [h.piste]
  · have hnone : (r.any fun x => x.unit.lane == l && x.unit.tile == k) = false := by
      simp only [List.any_eq_false, Bool.and_eq_true, beq_iff_eq]
      rintro x hx ⟨rfl, rfl⟩
      exact hlk (hr x hx)
    simp only [State.replacing, h.piste, List.any_append, hnone, Bool.or_false]

theorem MismatchKept.trans {t u : State} {lane tile : Nat} (h : MismatchKept s t lane tile) (h' : MismatchKept t u lane tile) :
    MismatchKept s u lane tile where
  regs a ha := (h'.regs a ha).trans (h.regs a ha)
  used := h'.used.trans h.used
  swaps p hp := h'.swaps p (h.swaps p hp)
  runs key hk := (h'.runs key hk).trans (h.runs key hk)
  replacing l k hlk := (h'.replacing l k hlk).trans (h.replacing l k hlk)

theorem mismatchKept_mismatch (s : State) (lane tile : Nat) : MismatchKept s (s.mismatch lane tile) lane tile := by
  have hcounted := mismatchKept_counted s lane tile
  rw [mismatch_eq]
  split
  · exact ⟨fun _ _ => rfl, rfl, fun _ => id, fun _ _ => rfl, fun _ _ _ => rfl⟩
  · split
    · exact hcounted.trans (mismatchKept_tileFailed _ lane tile)
    · exact ⟨hcounted.regs, hcounted.used, fun p hp => List.mem_append_left _ hp, hcounted.runs, hcounted.replacing⟩

/-- A tile in use that differs for the first or second pass in a row waits for its swap (R90). -/
theorem mem_swaps_mismatch {lane tile : Nat} (hu : s.tileUsed lane tile = true) (hr : s.replacing lane tile = false)
    (hn : s.mismatches lane tile ≤ 1#8) : (lane, tile) ∈ (s.mismatch lane tile).piste.swaps := by
  have hlt : ¬ 3 ≤ (s.mismatches lane tile).toNat + 1 := by
    have : (s.mismatches lane tile).toNat ≤ 1 := hn
    omega
  rw [mismatch_eq, if_neg (by simp [hu, hr]), if_neg hlt]
  exact List.mem_append_right _ List.mem_cons_self

/-! ## A pass -/

/-- The tiles of a pass that differed, one after the other. -/
def State.mismatchAll (s : State) (bad : List (Fin 4 × Fin 136)) : State :=
  bad.foldl (fun t p => t.mismatch p.1.val p.2.val) s

theorem tileKey_injective {l l' : Fin 4} {k k' : Fin 136} (h : tileKey l.val k.val = tileKey l'.val k'.val) : l = l' ∧ k = k' := by
  simp only [tileKey] at h
  exact ⟨Fin.ext (by omega), Fin.ext (by omega)⟩

/-- What a pass leaves of a tile that did not differ, and of registers and swaps. -/
structure PassKept (s t : State) (l : Fin 4) (k : Fin 136) : Prop where
  regs : ∀ a ∈ stageRegs, t.rd a = s.rd a
  used : t.tileUsed l.val k.val = s.tileUsed l.val k.val
  run : t.mismatches l.val k.val = s.mismatches l.val k.val
  replacing : t.replacing l.val k.val = s.replacing l.val k.val

theorem passKept_mismatchAll (s : State) {bad : List (Fin 4 × Fin 136)} {l : Fin 4} {k : Fin 136} (h : (l, k) ∉ bad) :
    PassKept s (s.mismatchAll bad) l k := by
  refine List.foldlRecOn (motive := fun t => PassKept s t l k) bad _ ⟨fun _ _ => rfl, rfl, rfl, rfl⟩ fun t ht p hp => ?_
  have hne : ¬ (l = p.1 ∧ k = p.2) := fun e => h (by rw [e.1, e.2]; exact hp)
  have hkept := mismatchKept_mismatch t p.1.val p.2.val
  refine ⟨fun a ha => (hkept.regs a ha).trans (ht.regs a ha), ?_, ?_, ?_⟩
  · rw [hkept.used, ht.used]
  · exact (hkept.runs _ fun e => hne (tileKey_injective e)).trans ht.run
  · exact (hkept.replacing _ _ fun e => hne ⟨Fin.ext e.1, Fin.ext e.2⟩).trans ht.replacing

theorem rd_mismatchAll (s : State) (bad : List (Fin 4 × Fin 136)) {a : Nat} (ha : a ∈ stageRegs) :
    (s.mismatchAll bad).rd a = s.rd a :=
  List.foldlRecOn (motive := fun t : State => t.rd a = s.rd a) bad _ rfl fun t ht p _ =>
    ((mismatchKept_mismatch t p.1.val p.2.val).regs a ha).trans ht

theorem swaps_mismatchAll (s : State) (bad : List (Fin 4 × Fin 136)) {p : Nat × Nat} (hp : p ∈ s.piste.swaps) :
    p ∈ (s.mismatchAll bad).piste.swaps :=
  List.foldlRecOn (motive := fun t : State => p ∈ t.piste.swaps) bad _ hp fun t ht q _ =>
    (mismatchKept_mismatch t q.1.val q.2.val).swaps p ht

/-- In a pass every tile is judged as the pass found it: those before it are other tiles, and those after it leave its swap. -/
theorem mem_swaps_mismatchAll {bad : List (Fin 4 × Fin 136)} {l : Fin 4} {k : Fin 136} (hd : bad.Nodup) (hm : (l, k) ∈ bad)
    (hu : s.tileUsed l.val k.val = true) (hr : s.replacing l.val k.val = false) (hn : s.mismatches l.val k.val ≤ 1#8) :
    (l.val, k.val) ∈ (s.mismatchAll bad).piste.swaps := by
  obtain ⟨before, after, rfl⟩ := List.append_of_mem hm
  have hbefore : (l, k) ∉ before := fun h => (List.nodup_append.mp hd).2.2 _ h _ List.mem_cons_self rfl
  have hkept := passKept_mismatchAll s hbefore
  have hsplit : s.mismatchAll (before ++ (l, k) :: after) =
      ((s.mismatchAll before).mismatch l.val k.val).mismatchAll after := List.foldl_append
  rw [hsplit]
  exact swaps_mismatchAll _ _ (mem_swaps_mismatch (hkept.used.trans hu) (hkept.replacing.trans hr) (hkept.run ▸ hn))

/-- The keys of the tiles that differed. -/
def tileKeys (bad : List (Fin 4 × Fin 136)) : List Nat := bad.map (fun p => tileKey p.1.val p.2.val)

theorem mem_tileKeys {bad : List (Fin 4 × Fin 136)} {l : Fin 4} {k : Fin 136} :
    tileKey l.val k.val ∈ tileKeys bad ↔ (l, k) ∈ bad := by
  refine ⟨fun h => ?_, fun h => List.mem_map.mpr ⟨_, h, rfl⟩⟩
  obtain ⟨⟨l', k'⟩, hmem, hkey⟩ := List.mem_map.mp h
  obtain ⟨rfl, rfl⟩ := tileKey_injective hkey
  exact hmem

/-- The start of a pass: the runs of the tiles that did not differ have ended (R90). -/
def State.passBegun (s : State) (bad : List (Fin 4 × Fin 136)) : State :=
  { s with piste := { s.piste with runs := s.piste.runs.filter (fun r => (tileKeys bad).contains r.1) } }

theorem scrub_eq (s : State) (bad : List (Fin 4 × Fin 136)) : s.scrub bad = ((s.passBegun bad).mismatchAll bad).passed := rfl

theorem cellGet_filter {w : Nat} (d : Nat → BitVec w) (m : Cells w) (p : Nat → Bool) (a : Nat) :
    cellGet d (m.filter fun r => p r.1) a = if p a then cellGet d m a else d a := by
  induction m with
  | nil => simp [cellGet]
  | cons r m ih =>
    obtain ⟨key, v⟩ := r
    by_cases hp : p key <;> by_cases hk : key = a
    · subst hk; simp [cellGet, hp]
    · simp [cellGet, hp, hk, ih]
    · subst hk; simp [hp, ih]
    · simp [cellGet, hp, hk, ih]

theorem mismatches_passBegun (s : State) (bad : List (Fin 4 × Fin 136)) (l : Fin 4) (k : Fin 136) :
    (s.passBegun bad).mismatches l.val k.val = if (l, k) ∈ bad then s.mismatches l.val k.val else 0#8 := by
  refine (cellGet_filter _ _ _ _).trans ?_
  simp only [List.contains_eq_mem, decide_eq_true_eq, mem_tileKeys]
  rfl

theorem scrubPass_runs (hc : s.courseActive = true) {bad : List (Fin 4 × Fin 136)} (hd : bad.Nodup) :
    Runs (.scrubPass bad) s (fun t =>
      t.get Reg.PISTE.SCRUB_CNT.PASSES = (s.get Reg.PISTE.SCRUB_CNT.PASSES + 1) % 65536 ∧
      t.get Reg.PISTE.SCRUB_CNT.FIXES = s.get Reg.PISTE.SCRUB_CNT.FIXES ∧
      (∀ (l : Fin 4) (k : Fin 136), (l, k) ∉ bad → cellGet (fun _ => 0#8) t.piste.runs (tileKey l.val k.val) = 0#8) ∧
      (∀ (l : Fin 4) (k : Fin 136), (l, k) ∈ bad → s.tileUsed l.val k.val = true → s.piste.repairs = [] →
        cellGet (fun _ => 0#8) s.piste.runs (tileKey l.val k.val) ≤ 1#8 → (l.val, k.val) ∈ t.piste.swaps)) := by
  have hget (f : Fld) (hf : f.addr = Reg.PISTE.SCRUB_CNT.addr) : ((s.passBegun bad).mismatchAll bad).get f = s.get f := by
    simp only [State.get]
    rw [rd_mismatchAll _ _ (by rw [hf]; decide)]
    rfl
  refine ⟨s.scrub bad, if_pos hc, ?_⟩
  rw [scrub_eq]
  refine ⟨?_, ?_, fun l k hlk => ?_, fun l k hlk hu hr hn => ?_⟩
  · rw [State.passed, State.bumpWrap, State.get_put_same _ _ _ (by decide), hget _ rfl]
    exact Nat.mod_mod _ _
  · rw [State.passed, State.bumpWrap, State.get_put_ne _ _ _ _ (by decide), hget _ rfl]
  · exact (passKept_mismatchAll _ hlk).run.trans ((mismatches_passBegun s bad l k).trans (if_neg hlk))
  · refine mem_swaps_mismatchAll hd hlk hu ?_ ?_
    · simp [State.replacing, State.passBegun, hr]
    · rwa [mismatches_passBegun, if_pos hlk]

/-! ## Swaps and replacements -/

theorem tileSwap_idle {l : Fin 4} {k : Fin 136} {good : Bool} (h : s.piste.swaps.contains (l.val, k.val) = false) :
    exec (.tileSwap l k good) s = .next s := if_neg (Bool.eq_false_iff.mp h)

/-- The fabric once the copies of a tile are swapped. -/
def State.swapped (s : State) (p : Nat × Nat) : State := { s with piste := { s.piste with swaps := s.piste.swaps.erase p } }

theorem tileSwap_differs {l : Fin 4} {k : Fin 136} (h : s.piste.swaps.contains (l.val, k.val) = true) :
    Runs (.tileSwap l k false) s (fun t =>
      t.piste.swaps = s.piste.swaps.erase (l.val, k.val) ∧
      t.get Reg.PISTE.SCRUB_CNT.FIXES = s.get Reg.PISTE.SCRUB_CNT.FIXES ∧
      (s.freeSpares l.val = [] → t.piste.repairs = s.piste.repairs ∧ t.causeSet ⟨7, 2⟩ = true ∧ t.causeSet ⟨5, 2⟩ = true) ∧
      (∀ sp rest, s.freeSpares l.val = sp :: rest →
        t.piste.repairs = s.piste.repairs ++ [{ unit := ⟨l.val, k.val, sp⟩ }])) := by
  obtain ⟨r, b, hkept, -⟩ := exists_stageKept_tileFailed (s.swapped (l.val, k.val)) l.val k.val
  refine ⟨(s.swapped (l.val, k.val)).tileFailed l.val k.val, if_pos h, ?_, hkept.get (by decide), fun hnone => ?_,
    fun sp rest hsp => ?_⟩
  · rw [hkept.piste]
    rfl
  · have hk := stageKept_tileFailed_of_no_spare (s := s.swapped (l.val, k.val)) hnone k.val
    refine ⟨by rw [hk.piste]; rfl, hk.causes _ (by decide) (by decide) ?_, hk.causes _ (by decide) (by decide) ?_⟩
    · exact State.causeSet_raise_mono _ _ _ (State.causeSet_raise _ (pisteCause 2) (show 2 < 32 by decide))
        (show 2 < 32 by decide)
    · exact State.causeSet_raise _ ⟨5, 2⟩ (show 2 < 32 by decide)
  · rw [(stageKept_tileFailed_of_spare (s := s.swapped (l.val, k.val)) hsp k.val).piste]
    rfl

theorem get_scrubLast (s : State) (lane tile : Nat) : (s.scrubLast lane tile).get Reg.PISTE.SCRUB_LAST.LANE = lane % 4 ∧
    (s.scrubLast lane tile).get Reg.PISTE.SCRUB_LAST.TILE = tile % 256 := by
  unfold State.scrubLast
  rw [State.get_put_ne _ _ _ _ (by decide), State.get_put_same _ _ _ (by decide), State.get_put_same _ _ _ (by decide)]
  exact ⟨rfl, rfl⟩

theorem tileSwap_matches {l : Fin 4} {k : Fin 136} (h : s.piste.swaps.contains (l.val, k.val) = true) :
    Runs (.tileSwap l k true) s (fun t =>
      t.get Reg.PISTE.SCRUB_CNT.FIXES = min (s.get Reg.PISTE.SCRUB_CNT.FIXES + 1) 65535 ∧
      t.get Reg.PISTE.SCRUB_LAST.LANE = l.val ∧ t.get Reg.PISTE.SCRUB_LAST.TILE = k.val ∧ t.causeSet ⟨7, 0⟩ = true ∧
      t.piste.swaps = s.piste.swaps.erase (l.val, k.val)) := by
  have hlast := get_scrubLast ((s.swapped (l.val, k.val)).bump Reg.PISTE.SCRUB_CNT.FIXES) l.val k.val
  refine ⟨(((s.swapped (l.val, k.val)).bump Reg.PISTE.SCRUB_CNT.FIXES).scrubLast l.val k.val).raise (pisteCause 0), if_pos h,
    ?_, ?_, ?_, State.causeSet_raise _ (pisteCause 0) (show 0 < 32 by decide), ?_⟩
  · rw [State.get_raise _ _ _ (by decide), State.scrubLast, State.get_put_ne _ _ _ _ (by decide),
      State.get_put_ne _ _ _ _ (by decide), State.bump, State.get_put_same _ _ _ (by decide)]
    exact Nat.mod_eq_of_lt (Nat.lt_of_le_of_lt (Nat.min_le_right _ _) (by decide))
  · rw [State.get_raise _ _ _ (by decide), hlast.1]
    omega
  · rw [State.get_raise _ _ _ (by decide), hlast.2]
    omega
  · rw [State.raise_piste]
    rfl

theorem tileRepair_runs {r : TileRepair} {rest : List TileRepair} (hr : s.piste.repairs = r :: rest) (hc : r.compared = true)
    (hh : s.repairHeld r = false) : Runs .tileRepair s (fun t =>
      t.piste.repairs = rest ∧ t.piste.replaced = s.piste.replaced ++ [r.unit] ∧
      t.groom.live.tiles = s.groom.live.tiles ++ [r.unit] ∧ t.get Reg.PISTE.SCRUB_LAST.LANE = r.unit.lane % 4 ∧
      t.get Reg.PISTE.SCRUB_LAST.TILE = r.unit.tile % 256 ∧ t.causeSet ⟨7, 1⟩ = true) := by
  obtain ⟨s1, hs1⟩ : ∃ s1 : State, s1 = { s with
      piste := { s.piste with repairs := rest, replaced := s.piste.replaced ++ [r.unit] }
      groom := { s.groom with live := { s.groom.live with tiles := s.groom.live.tiles ++ [r.unit] } } } := ⟨_, rfl⟩
  have hexec : execTileRepair s = .next
      (((s1.scrubLast r.unit.lane r.unit.tile).raise (pisteCause 1)).broughtIn (s1.freeSpares r.unit.lane).length) := by
    rw [hs1]
    unfold execTileRepair
    rw [hr]
    exact if_pos (by simp [hc, hh])
  have hin := regsBut_broughtIn ((s1.scrubLast r.unit.lane r.unit.tile).raise (pisteCause 1)) (s1.freeSpares r.unit.lane).length
  have hlast := get_scrubLast s1 r.unit.lane r.unit.tile
  refine ⟨_, hexec, ?_, ?_, ?_, ?_, ?_, ?_⟩
  · simp [State.broughtIn, State.scrubLast, hs1]
  · simp [State.broughtIn, State.scrubLast, hs1]
  · simp [State.broughtIn, State.scrubLast, hs1]
  · rw [hin.get (by decide), State.get_raise _ _ _ (by decide), hlast.1]
  · rw [hin.get (by decide), State.get_raise _ _ _ (by decide), hlast.2]
  · rw [hin.causeSet (by decide)]
    exact State.causeSet_raise _ (pisteCause 1) (show 1 < 32 by decide)

theorem tileCompareRunEnd_runs {r : TileRepair} {rest : List TileRepair} (hr : s.piste.repairs = r :: rest)
    (hh : s.repairHeld r = false) : Runs .tileCompareRunEnd s (fun t =>
      t = { s with piste := { s.piste with repairs := { r with compared := true } :: rest } }) := by
  refine ⟨_, ?_, rfl⟩
  show execTileCompareRunEnd s = _
  unfold execTileCompareRunEnd
  rw [hr]
  exact if_neg (Bool.eq_false_iff.mp hh)

theorem repairs_idle (h : s.piste.repairs = []) : exec .tileCompareRunEnd s = .next s ∧ exec .tileRepair s = .next s := by
  constructor
  · show execTileCompareRunEnd s = _
    unfold execTileCompareRunEnd
    rw [h]
  · show execTileRepair s = _
    unfold execTileRepair
    rw [h]

theorem tileRepair_waits {r : TileRepair} {rest : List TileRepair} (hr : s.piste.repairs = r :: rest)
    (h : r.compared = false ∨ s.repairHeld r = true) : exec .tileRepair s = .next s := by
  show execTileRepair s = _
  unfold execTileRepair
  rw [hr]
  exact if_neg (by rcases h with h | h <;> simp [h])

theorem tileCompareRunEnd_waits {r : TileRepair} {rest : List TileRepair} (hr : s.piste.repairs = r :: rest)
    (h : s.repairHeld r = true) : exec .tileCompareRunEnd s = .next s := by
  show execTileCompareRunEnd s = _
  unfold execTileCompareRunEnd
  rw [hr]
  exact if_pos h

/-! ## Golden copies and readback -/

theorem goldenReload_runs (s : State) (good : Bool) : Runs (.goldenReload good) s (fun t => t.causeSet ⟨7, 3⟩ = true ∧
    t.causeSet ⟨7, 6⟩ = (!good || s.causeSet ⟨7, 6⟩)) := by
  refine ⟨_, rfl, State.causeSet_setIf_mono _ _ _ _ (State.causeSet_raise s (pisteCause 3) (show 3 < 32 by decide))
    (show 3 < 32 by decide), ?_⟩
  rw [causeSet_setIf_eq _ _ _ (show 6 < 32 by decide), causeSet_raise_eq _ _ (show 6 < 32 by decide)]
  simp [pisteCause, Bool.or_comm]

theorem readback_runs (hc : s.courseActive = true) (hb : s.flag Reg.PISTE.CMD_STATUS.BUSY = false) : Runs .readback s (fun t =>
    t.get Reg.PISTE.CMD_STATUS.CODE = 1 ∧ t.flag Reg.PISTE.CMD_STATUS.BUSY = true) := by
  refine ⟨_, if_pos (by simp [hc, hb]), State.get_status _ _ _, ?_⟩
  rw [State.flag, State.status, State.get_put_ne _ _ _ _ (by decide), State.get_put_same _ _ _ (by decide)]
  rfl

theorem readback_refused (h : s.courseActive = false ∨ s.flag Reg.PISTE.CMD_STATUS.BUSY = true) : Runs .readback s (fun t =>
    t.get Reg.PISTE.CMD_STATUS.CODE = 2 ∧ t.flag Reg.PISTE.CMD_STATUS.BUSY = s.flag Reg.PISTE.CMD_STATUS.BUSY ∧
    t.causeSet ⟨7, 7⟩ = true) := by
  refine ⟨_, if_neg (by rcases h with h | h <;> simp [h]), State.get_deny_code _ _ _ (by decide), ?_,
    State.causeSet_deny _ _ (pisteCause 7) (show 7 < 32 by decide)⟩
  rw [State.flag, State.flag, State.deny, State.get_raise _ _ _ (by decide), State.status, State.get_put_ne _ _ _ _ (by decide)]

theorem readbackDone_runs (bad : List (Fin 4 × Fin 136)) (golden : Nat) (h : s.flag Reg.PISTE.CMD_STATUS.BUSY = true) :
    Runs (.readbackDone bad golden) s (fun t =>
      t.get Reg.PISTE.READBACK.MISMATCHES = (bad.length + golden) % 65536 ∧ t.flag Reg.PISTE.CMD_STATUS.BUSY = false ∧
      t.causeSet ⟨7, 4⟩ = true) := by
  refine ⟨_, if_pos h, ?_, ?_, State.causeSet_raise _ (pisteCause 4) (show 4 < 32 by decide)⟩
  · rw [State.get_raise _ _ _ (by decide), State.get_setIf _ _ _ _ (by decide), State.bumpWrap,
      State.get_put_ne _ _ _ _ (by decide), State.get_put_same _ _ _ (by decide)]
    rfl
  · rw [State.flag, State.get_raise _ _ _ (by decide), State.get_setIf _ _ _ _ (by decide), State.bumpWrap,
      State.get_put_ne _ _ _ _ (by decide), State.get_put_ne _ _ _ _ (by decide), State.get_put_same _ _ _ (by decide)]
    rfl

/-! ## Envelopes -/

/-- The record that a query of bit `b` finds does not depend on the query before. -/
theorem envOf_query (s : State) (b : BitVec 5) :
    (s.put Reg.PISTE.ENV_LSB.LSB b.toNat).envOf ((s.put Reg.PISTE.ENV_LSB.LSB b.toNat).rd Reg.PISTE.ENV_ADDR.addr).toNat
      ((s.put Reg.PISTE.ENV_LSB.LSB b.toNat).get Reg.PISTE.ENV_LSB.LSB) = s.envOf (s.rd Reg.PISTE.ENV_ADDR.addr).toNat b.toNat := by
  have hb : b.toNat % 2 ^ 5 = b.toNat := Nat.mod_eq_of_lt b.isLt
  rw [State.get_put_same _ _ _ (by decide), State.rd_put_other _ _ _ _ (by decide), hb]
  rfl

theorem envQuery_found {b : BitVec 5} {e : EnvRec} (h : s.envOf (s.rd Reg.PISTE.ENV_ADDR.addr).toNat b.toNat = some e) :
    Runs (.envQuery b) s (fun t =>
      t.get Reg.PISTE.ENV_INFO.FOUND = 1 ∧ t.get Reg.PISTE.ENV_INFO.TYPE = e.type % 4 ∧
      t.get Reg.PISTE.ENV_INFO.WIDTH = e.width % 64 ∧ t.rd Reg.PISTE.ENV_MIN.addr = e.min ∧ t.rd Reg.PISTE.ENV_MAX.addr = e.max) := by
  refine ⟨_, rfl, ?_⟩
  unfold State.envQuery
  rw [envOf_query, h]
  simp (disch := decide) [State.get_wr_ne, State.get_put_ne, State.get_put_same, State.rd_wr_other]

theorem envQuery_missing {b : BitVec 5} (h : s.envOf (s.rd Reg.PISTE.ENV_ADDR.addr).toNat b.toNat = none) :
    Runs (.envQuery b) s (fun t =>
      t.rd Reg.PISTE.ENV_INFO.addr = 0#32 ∧ t.rd Reg.PISTE.ENV_MIN.addr = 0#32 ∧ t.rd Reg.PISTE.ENV_MAX.addr = 0#32) := by
  refine ⟨_, rfl, ?_⟩
  unfold State.envQuery
  rw [envOf_query, h]
  simp (disch := decide) [State.rd_wr_other]

end Sys2Proof.Machine

section
open Sys2Proof.Machine

/-- Settles O3: each command comes to the rule of its row. That the first free spare serves is log entry 67, that SCRUB_LAST.TILE names the
failed tile log entry 68, and what waits log entry 16. -/
theorem fabricCommandsRun : Obligations.FabricCommandsRun := by
  unfold Obligations.FabricCommandsRun
  intro s
  exact ⟨fun bad => ⟨fun hc hd => scrubPass_runs hc hd, fun h => if_neg (Bool.eq_false_iff.mp h)⟩, fun l k good => tileSwap_idle,
    fun l k => tileSwap_differs, fun l k => tileSwap_matches, fun r rest => tileCompareRunEnd_runs, fun r rest => tileRepair_runs,
    repairs_idle, fun r rest => tileRepair_waits, fun r rest => tileCompareRunEnd_waits, goldenReload_runs s, readback_runs,
    readback_refused, readbackDone_runs, fun bad golden h => if_neg (Bool.eq_false_iff.mp h), fun b e => envQuery_found,
    fun b => envQuery_missing⟩
end
end

section
/-! What the parts of a drive transition leave of the power stage (R302, R306 to R308, R326, R332, R340). -/

namespace Sys2Proof.Machine

variable {o s : State} {i : Fin 4}

theorem StageKept.setChop {c d : ChopSt} (h : StageKept o s) (hd : d.dischReq = c.dischReq) :
    StageKept { o with chop := c } { s with chop := d } :=
  ⟨h.course, h.piste, h.slots, h.edges, h.dcl, hd, h.regs, h.causes⟩

theorem StageKept.writeParam {k : Nat} {x : Word} (h : StageKept o s) (hk : k < 256) : StageKept o (s.writeParam k x) :=
  .ite h.upd (h.wr (asideReg_param hk))

theorem StageKept.writeDisch {x : Word} (h : StageKept o s) : StageKept o (s.writeDisch i x) := h.writeParam (get_lt _ _)

theorem StageKept.writeMode {x : Word} (h : StageKept o s) : StageKept o (s.writeMode x) := h.writeParam (get_lt _ _)

theorem StageKept.frictionCheck (h : StageKept o s) : StageKept o s.frictionCheck := .ite h.upd h

theorem StageKept.rotStart (h : StageKept o s) : StageKept o (s.rotStart i) := StageKept.put h.upd (asideReg_rotResult i)

theorem StageKept.rotStop (h : StageKept o s) : StageKept o (s.rotStop i) := StageKept.put h.upd (asideReg_rotResult i)

theorem StageKept.leaveCharge {safe : Bool} (h : StageKept o s) : StageKept o (s.leaveCharge safe) := StageKept.upd h.writeMode

theorem StageKept.chopStart (h : StageKept o s) : StageKept o s.chopStart := StageKept.put h.upd (by decide)

theorem StageKept.driveStatus {code : Nat} (h : StageKept o s) :
    StageKept o (s.status (Reg.DRIVE.SLOT.CMD_STATUS.addr i.val) code) := h.put (asideReg_driveStatus i)

/-- The request of a discharge as it would stand. -/
def State.withDisch (s : State) (d : Bool) : State := { s with chop := { s.chop with dischReq := d } }

theorem StageKept.dischRelease (h : StageKept o s) : StageKept (o.withDisch false) s.dischRelease :=
  have h1 : StageKept (o.withDisch false) (s.withDisch false) := h.setChop rfl
  .ite (StageKept.put h1.upd (by decide)) h1

/-! ## The status frame -/

theorem asideReg_txb : ∀ c : Fin 2, asideReg (Reg.CAN.TXB.ID.addr c.val 2) = true ∧ asideReg (Reg.CAN.TXB.HDR.addr c.val 2) = true ∧
    asideReg (Reg.CAN.TXB.STATE.addr c.val 2) = true ∧ ∀ k < 16, asideReg (Reg.CAN.TXB.DATA.addr c.val 2 k) = true := by decide

theorem StageKept.setTxData {c : Fin 2} {l : List Byte} (h : StageKept o s) : StageKept o (s.setTxData c 2 l) :=
  List.foldlRecOn _ _ h fun _ ht k hk => ht.wr ((asideReg_txb c).2.2.2 k (List.mem_range.mp hk))

theorem StageKept.heldStatus {c : Fin 2} (h : StageKept o s) : StageKept o (s.heldStatus c) :=
  .ite (h.raise (show 38 + c.val < 64 by omega)) h

theorem StageKept.loadStatus {c : Fin 2} {l : List Byte} (h : StageKept o s) : StageKept o (s.loadStatus c l) := by
  obtain ⟨hid, hhdr, hstate, -⟩ := asideReg_txb c
  unfold State.loadStatus
  extract_lets s1 s2 s3 s4
  have h2 : StageKept o s2 := .put (.put (.wr h hid) hid) hid
  have h3 : StageKept o s3 := .put (.put (.put h2 hhdr) hhdr) hhdr
  have h4 : StageKept o s4 := h3.setTxData.put hstate
  exact StageKept.heldStatus (.ite (h4.put hstate) h4)

theorem StageKept.statusFrame {code : Nat} (h : StageKept o s) : StageKept o (s.statusFrame code) :=
  h.foldl fun h => .ite (.ite h.upd h.loadStatus) h

/-! ## A transition -/

theorem slot_setSlot (s : State) (i : Fin 4) (x : Slot) : (s.setSlot i x).slot i = x := Vector.getElem_set_self _

theorem setSlot_slot (s : State) (i : Fin 4) : s.setSlot i (s.slot i) = s := by
  simp [State.setSlot, State.slot]

/-- A slot has left what its state ran: charging, a discharge, the rotation detector (R210, R332, R340). -/
def State.left (s : State) (i : Fin 4) (st : SlotState) : State :=
  let s1 := if (s.slot i).judged = .charge ∧ (st = .safe ∨ st = .stopped) then s.leaveCharge (decide (st = .safe)) else s
  let s2 := if (s.slot i).state = .discharge then s1.leaveDischarge i else s1
  if (s.slot i).state = .probe then s2.rotStop i else s2

/-- A slot starts what its new state runs (R202, R210, R289, R309). -/
def State.begun (s : State) (i : Fin 4) (st : SlotState) : State :=
  let s5 := if st.modulated then (s.slalomEnter i).lockBegin i else s
  let s6 := if st = .safe then ((s5.bump (Reg.DRIVE.SLOT.EVENTS.SAFE_ENTRIES i.val)).slotLine i true).endHold i else s5
  if st = .probe then s6.rotStart i else if st = .armed then s6.clearLatches i else s6

/-- The record of a slot that has left its state, moved on. -/
def State.movedFrom (s : State) (i : Fin 4) (st : SlotState) (r : Reason) : State := s.setSlot i ((s.slot i).moved st r)

theorem enterNow_eq (s : State) (i : Fin 4) (st : SlotState) (r : Reason) : s.enterNow i st r =
    ((((s.left i st).movedFrom i st r).begun i st).raise (driveCause i 0)).frictionCheck := rfl

theorem enter_of_now {st : SlotState} (h : st ≠ .run ∧ st ≠ .charge) (s : State) (i : Fin 4) (r : Reason) :
    s.enter i st r = s.enterNow i st r := if_neg (not_or.mpr h)

/-- `s` with the phase of a slot's discharge and the request of a discharge as a transition may leave them. -/
def State.dischLeft (s : State) (i : Fin 4) (p : Nat) (d : Bool) : State :=
  (s.withDisch d).setSlot i { s.slot i with dischPhase := p }

theorem dischLeft_self (s : State) (i : Fin 4) : s.dischLeft i (s.slot i).dischPhase s.chop.dischReq = s := setSlot_slot s i

theorem StageKept.leaveDischarge (h : StageKept s o) : StageKept (s.dischLeft i 3 false) (o.leaveDischarge i) := by
  have hx := h.slot i
  unfold State.leaveDischarge
  dsimp only
  rw [hx]
  have hwritten : StageKept s (if (s.slot i).dischPhase = 2 then o.writeDisch i f0 else o) := .ite h.writeDisch h
  exact (hwritten.setSlot.dischRelease).chopRefs

theorem exists_stageKept_left (s : State) (i : Fin 4) (st : SlotState) : ∃ p d, StageKept (s.dischLeft i p d) (s.left i st) := by
  have hcharge : StageKept s (if (s.slot i).judged = .charge ∧ (st = .safe ∨ st = .stopped) then
      s.leaveCharge (decide (st = .safe)) else s) := .ite (StageKept.refl s).leaveCharge (.refl s)
  unfold State.left
  dsimp only
  by_cases hd : (s.slot i).state = .discharge
  · rw [if_pos hd]
    exact ⟨3, false, .ite hcharge.leaveDischarge.rotStop hcharge.leaveDischarge⟩
  · rw [if_neg hd]
    refine ⟨(s.slot i).dischPhase, s.chop.dischReq, ?_⟩
    rw [dischLeft_self]
    exact .ite hcharge.rotStop hcharge

theorem StageKept.movedFrom {st : SlotState} {r : Reason} (h : StageKept o s) :
    StageKept (o.movedFrom i st r) (s.movedFrom i st r) := by
  unfold State.movedFrom
  rw [h.slot i]
  exact h.setSlot

/-- What a transition into any state but ARMED and SAFE starts moves nothing of the power stage. -/
theorem StageKept.begun {st : SlotState} (h : StageKept o s) (hsafe : st ≠ .safe) (harmed : st ≠ .armed) :
    StageKept o (s.begun i st) := by
  have hslalom : StageKept o (if st.modulated then (s.slalomEnter i).lockBegin i else s) := .ite (StageKept.upd h.upd) h
  unfold State.begun
  dsimp only
  rw [if_neg hsafe, if_neg harmed]
  exact .ite hslalom.rotStart hslalom

theorem begun_armed (s : State) (i : Fin 4) : s.begun i .armed = s.clearLatches i := rfl

theorem begun_probe (s : State) (i : Fin 4) : s.begun i .probe = s.rotStart i := rfl

/-- A transition into any state but ARMED and SAFE moves the slot's record, and of the power stage only the request of a discharge. -/
theorem exists_stageKept_enterNow (s : State) (i : Fin 4) {st : SlotState} (r : Reason) (hsafe : st ≠ .safe) (harmed : st ≠ .armed) :
    ∃ p d, StageKept ((s.dischLeft i p d).movedFrom i st r) (s.enterNow i st r) := by
  obtain ⟨p, d, hleft⟩ := exists_stageKept_left s i st
  refine ⟨p, d, ?_⟩
  rw [enterNow_eq]
  exact (((hleft.movedFrom (i := i)).begun hsafe harmed).raise (show 34 + i.val < 64 by omega)).frictionCheck

theorem slot_movedFrom (s : State) (i : Fin 4) (p : Nat) (d : Bool) (st : SlotState) (r : Reason) :
    ((s.dischLeft i p d).movedFrom i st r).slot i = { s.slot i with dischPhase := p }.moved st r := by
  rw [State.movedFrom, slot_setSlot, State.dischLeft, slot_setSlot]

theorem causeSet_enterNow (s : State) (i : Fin 4) (st : SlotState) (r : Reason) :
    (s.enterNow i st r).causeSet ⟨34 + i.val, 0⟩ = true := by
  rw [enterNow_eq, State.causeSet_congr frictionCheck_regs.1]
  exact State.causeSet_raise _ (driveCause i 0) (show 0 < 32 by decide)

/-- The record of a slot that a transition has moved. -/
theorem slotMoved_of_slot {t : State} {p : Nat} {st : SlotState} {r : Reason}
    (hslot : t.slot i = { s.slot i with dischPhase := p }.moved st r)
    (hc : t.causeSet ⟨34 + i.val, 0⟩ = true) : s.slotMoved t i st r := by
  rw [State.slotMoved, hslot]
  exact ⟨rfl, rfl, rfl, rfl, hc⟩

theorem slotMoved_enterNow (s : State) (i : Fin 4) {st : SlotState} (r : Reason) (hsafe : st ≠ .safe) (harmed : st ≠ .armed) :
    s.slotMoved (s.enterNow i st r) i st r := by
  obtain ⟨p, d, h⟩ := exists_stageKept_enterNow s i r hsafe harmed
  exact slotMoved_of_slot ((h.slot i).trans (slot_movedFrom s i p d st r)) (causeSet_enterNow s i st r)

/-- A move stands where the slot's record and the causes stand. -/
theorem slotMoved_stageKept {t u : State} {st : SlotState} {r : Reason} (hm : s.slotMoved t i st r) (h : StageKept t u) :
    s.slotMoved u i st r := by
  obtain ⟨hstate, hprev, hreason, hpend, hcause⟩ := hm
  rw [State.slotMoved, h.slot i]
  exact ⟨hstate, hprev, hreason, hpend, h.causes _ (show 34 + i.val < 64 by omega) (show 0 < 32 by decide) hcause⟩

theorem slotMoved_dischPhase {t : State} {st : SlotState} {r : Reason} (hm : s.slotMoved t i st r) (p : Nat) (d : Bool) :
    s.slotMoved (t.dischLeft i p d) i st r := by
  obtain ⟨hstate, hprev, hreason, hpend, hcause⟩ := hm
  rw [State.slotMoved, State.dischLeft, slot_setSlot]
  exact ⟨hstate, hprev, hreason, hpend, hcause⟩

end Sys2Proof.Machine
end

section
/-! The commands of a drive slot where their row allows them (R86, R289, R302, R306 to R308, R319, R332, R339, R340, R342). -/

namespace Sys2Proof.Machine

variable {s : State} {i : Fin 4}

theorem driveCmd_accepted {ok : Bool} {act : State → State} (hok : ok = true) (hc : s.commandable i = true) :
    s.driveCmd i ok act = .next ((act s).status (Reg.DRIVE.SLOT.CMD_STATUS.addr i.val) codeOk) := by
  unfold State.commandable at hc
  simp only [Bool.and_eq_true] at hc
  obtain ⟨⟨hreset, hprobe⟩, hheld⟩ := hc
  exact if_pos (by simp only [hok, hreset, hprobe, hheld, Bool.and_self])

theorem driveOk_status (s : State) (i : Fin 4) : (s.status (Reg.DRIVE.SLOT.CMD_STATUS.addr i.val) codeOk).driveOk i :=
  State.get_status _ _ _

/-- The status of an accepted command moves nothing of the power stage. -/
theorem stageKept_driveStatus (s : State) (i : Fin 4) (code : Nat) :
    StageKept s (s.status (Reg.DRIVE.SLOT.CMD_STATUS.addr i.val) code) := (StageKept.refl s).driveStatus

/-- A command whose row allows it acts, and reads accepted. -/
theorem runs_of_driveCmd {c : Instr} {ok : Bool} {act : State → State} {post : State → Prop}
    (hexec : exec c s = s.driveCmd i ok act) (hok : ok = true) (hc : s.commandable i = true)
    (hpost : post ((act s).status (Reg.DRIVE.SLOT.CMD_STATUS.addr i.val) codeOk)) : Runs c s post :=
  ⟨_, hexec.trans (driveCmd_accepted hok hc), hpost⟩

/-- A command that comes to a transition into any state but ARMED and SAFE. -/
theorem runs_of_enter {c : Instr} {ok : Bool} {st : SlotState} {r : Reason}
    (hexec : exec c s = s.driveCmd i ok (fun t => t.enter i st r)) (hok : ok = true) (hc : s.commandable i = true)
    (hst : st ≠ .run ∧ st ≠ .charge ∧ st ≠ .safe ∧ st ≠ .armed) : Runs c s (fun t => s.slotMoved t i st r ∧ t.driveOk i) := by
  obtain ⟨hrun, hcharge, hsafe, harmed⟩ := hst
  refine runs_of_driveCmd hexec hok hc ⟨?_, driveOk_status _ i⟩
  rw [enter_of_now ⟨hrun, hcharge⟩]
  exact slotMoved_stageKept (slotMoved_enterNow s i r hsafe harmed) (stageKept_driveStatus _ i codeOk)

/-! ## ARM -/

/-- The latches of a slot's channels and its FAILSIDE bits as they clear, before the legs follow (R289, R292). -/
def State.unlatched (s : State) (i : Fin 4) : State :=
  let t := { s with edges := Vector.ofFn (fun n : Fin 64 =>
    let r := s.chanRec n.val
    if !r.unmapped && decide ((s.legRec r.leg).slot = i.val) then s.edges[n].unlatch else s.edges[n]) }
  let m := t.get Reg.PWM.TRIP.FAILSIDE.SIDES
  t.dropHolds.put Reg.PWM.TRIP.FAILSIDE.SIDES (m - m / 4 ^ i.val % 4 * 4 ^ i.val)

theorem clearLatches_eq (s : State) (i : Fin 4) : s.clearLatches i = (s.unlatched i).reforce := by
  unfold State.clearLatches State.unlatched
  rfl

/-- Bits 2i and 2i + 1 of a byte as they clear. -/
theorem sides_cleared (i : Fin 4) {m : Nat} :
    m < 256 → (m - m / 4 ^ i.val % 4 * 4 ^ i.val) % 256 / 4 ^ i.val % 4 = 0 := by
  fin_cases i <;> simp <;> omega

theorem get_failside_unlatched (s : State) (i : Fin 4) :
    (s.unlatched i).get Reg.PWM.TRIP.FAILSIDE.SIDES / 4 ^ i.val % 4 = 0 := by
  rw [State.unlatched, State.get_put_same _ _ _ (by decide)]
  exact sides_cleared i (get_lt _ Reg.PWM.TRIP.FAILSIDE.SIDES)

theorem latch_unlatched {n : Fin 64} (hm : s.mapped n = true) (hslot : (s.chLeg n).slot = i.val) :
    ((s.unlatched i).edge n).latch = ((s.edge n).supUv || (s.edge n).ot || (s.edge n).hot) := by
  have hclears : (s.chanRec n.val).unmapped = false ∧ (s.legRec (s.chanRec n.val).leg).slot = i.val :=
    ⟨by simpa [State.mapped] using hm, hslot⟩
  simp [State.unlatched, State.edge, State.dropHolds, hclears, EdgeCh.unlatch]

theorem arm_runs (hc : s.commandable i = true) (hj : (s.slot i).judged.resting = true) (hcourse : s.courseActive = true)
    (habove : (s.slot i).above = false) (hhard : s.hardCause i = false) (hb : s.driveBlocked = false) :
    Runs (.arm i) s (fun t => s.slotMoved t i .armed .host ∧ t.driveOk i ∧
      t.get Reg.PWM.TRIP.FAILSIDE.SIDES / 4 ^ i.val % 4 = 0 ∧
      ∀ n : Fin 64, s.mapped n = true → (s.chLeg n).slot = i.val →
        (t.edge n).latch = ((s.edge n).supUv || (s.edge n).ot || (s.edge n).hot)) := by
  obtain ⟨p, d, hleft⟩ := exists_stageKept_left s i .armed
  obtain ⟨u, hu⟩ : ∃ u, u = (s.left i .armed).movedFrom i .armed .host := ⟨_, rfl⟩
  have hmoved : StageKept ((s.dischLeft i p d).movedFrom i .armed .host) u := hu ▸ hleft.movedFrom
  have hnow : s.enter i .armed .host = ((u.clearLatches i).raise (driveCause i 0)).frictionCheck := hu ▸ rfl
  have hkept : StageKept (u.unlatched i) ((s.enter i .armed .host).status (Reg.DRIVE.SLOT.CMD_STATUS.addr i.val) codeOk) := by
    rw [hnow, clearLatches_eq]
    exact ((StageKept.refl _).reforce.raise (show 34 + i.val < 64 by omega)).frictionCheck.driveStatus
  have hslot := (hkept.slot i).trans ((hmoved.slot i).trans (slot_movedFrom s i p d .armed .host))
  refine runs_of_driveCmd (act := fun t => t.enter i .armed .host) rfl (by simp [hj, hcourse, habove, hhard, hb]) hc
    ⟨slotMoved_of_slot hslot ?_, driveOk_status _ i, ?_, fun n hm hslot => ?_⟩
  · exact (stageKept_driveStatus _ i codeOk).causes _ (show 34 + i.val < 64 by omega) (show 0 < 32 by decide)
      (causeSet_enterNow s i .armed .host)
  · rw [hkept.get (by decide)]
    exact get_failside_unlatched u i
  · have hcourse : u.course = s.course := hmoved.course
    have hedge : u.edge n = s.edge n := congrArg (fun e : Vector EdgeCh 64 => e[n]) hmoved.edges
    have hmapped : u.mapped n = true := by simpa only [State.mapped, State.chanRec, hcourse] using hm
    have hleg : (u.chLeg n).slot = i.val := by simpa only [State.chLeg, State.legRec, State.chanRec, hcourse] using hslot
    have ht := congrArg (fun e : Vector EdgeCh 64 => e[n].latch) hkept.edges
    rw [← hedge, ← latch_unlatched hmapped hleg]
    exact ht

theorem slalom_frictionCheck (s : State) : s.frictionCheck.slalom = s.slalom := by
  unfold State.frictionCheck
  split
  · rfl
  · rfl

/-! ## START, STOP, RESUME -/

/-- The rotation detector runs, and reads busy, once a transition has started it. -/
theorem rotStart_shown (s : State) (i : Fin 4) :
    let t := (((s.rotStart i).raise (driveCause i 0)).frictionCheck).status (Reg.DRIVE.SLOT.CMD_STATUS.addr i.val) codeOk
    t.slalom[i].rotBusy = true ∧ t.get (Reg.SLALOM.SL.ROT_RESULT.BUSY i.val) = 1 := by
  constructor
  · simp [slalom_frictionCheck, State.rotStart]
  · have haddr : (Reg.SLALOM.SL.ROT_RESULT.BUSY i.val).addr ≠ Reg.DRIVE.SLOT.CMD_STATUS.addr i.val := by revert i; decide
    have hcause : (Reg.SLALOM.SL.ROT_RESULT.BUSY i.val).addr ≠ Reg.INT.GRP.CAUSE.addr (driveCause i 0).grp := by revert i; decide
    rw [State.get_status_ne _ _ _ _ haddr, State.get_congr frictionCheck_regs.1, State.get_raise _ _ _ hcause, State.rotStart,
      State.get_put_same _ _ _ (show 3 + 1 ≤ 32 by decide)]
    rfl

theorem start_runs (hc : s.commandable i = true) (hj : (s.slot i).judged = .armed) (hl : s.liveBusy = false)
    (hw : s.swapping = false) : Runs (.start i) s (fun t => s.slotMoved t i .probe .host ∧ t.driveOk i ∧
      t.slalom[i].rotBusy = true ∧ t.get (Reg.SLALOM.SL.ROT_RESULT.BUSY i.val) = 1) := by
  have hmoved := slotMoved_enterNow s i (st := .probe) .host (by decide) (by decide)
  refine runs_of_driveCmd (act := fun t => t.enter i .probe .host) rfl (by simp [hj, hl, hw]) hc
    ⟨slotMoved_stageKept hmoved (stageKept_driveStatus _ i codeOk), driveOk_status _ i, ?_⟩
  rw [enter_of_now (by decide), enterNow_eq, begun_probe]
  exact rotStart_shown _ i

theorem stop_run_runs (hc : s.commandable i = true) (hj : (s.slot i).judged = .run) :
    Runs (.stop i) s (fun t => s.slotMoved t i .glide .host ∧ t.driveOk i) := by
  refine runs_of_enter (ok := true) ?_ rfl hc (by decide)
  show execStop i s = _
  unfold execStop
  rw [hj]

theorem chargeStop_active (h : s.chg.phase = .active) (r : Reason) :
    s.chargeStop i r = { s with chg := { s.chg with phase := .rampDown, stopReason := r } } := by
  unfold State.chargeStop
  rw [h]

theorem chargeStop_closing (h : s.chg.phase = .closing) (r : Reason) : s.chargeStop i r =
    if s.fbClosed then { s with chg := { s.chg with phase := .opening, ctrLow := false, settle := false, stopReason := r } }
    else s.enter i .stopped r := by
  unfold State.chargeStop
  rw [h]

theorem chargeStop_idle (h : s.chg.phase = .idle) (r : Reason) : s.chargeStop i r = s.enter i .stopped r := by
  unfold State.chargeStop
  rw [h]

theorem chargeStop_ending (h : s.chg.phase = .rampDown ∨ s.chg.phase = .opening) (r : Reason) : s.chargeStop i r = s := by
  unfold State.chargeStop
  rcases h with h | h <;> rw [h]

theorem stop_charge_runs (hc : s.commandable i = true) (hj : (s.slot i).judged = .charge) :
    Runs (.stop i) s (fun t => t.driveOk i ∧
      (s.chg.phase = .active → t.chg = { s.chg with phase := .rampDown, stopReason := .host } ∧ t.slots = s.slots) ∧
      (s.chg.phase = .closing → s.fbClosed = true → t.slots = s.slots ∧
        t.chg = { s.chg with phase := .opening, ctrLow := false, settle := false, stopReason := .host }) ∧
      (s.chg.phase = .idle ∨ (s.chg.phase = .closing ∧ s.fbClosed = false) → s.slotMoved t i .stopped .host) ∧
      (s.chg.phase = .rampDown ∨ s.chg.phase = .opening → t.chg = s.chg ∧ t.slots = s.slots)) := by
  have hexec : execStop i s = .next ((s.chargeStop i .host).status (Reg.DRIVE.SLOT.CMD_STATUS.addr i.val) codeOk) := by
    unfold execStop
    rw [hj]
    exact driveCmd_accepted rfl hc
  refine ⟨_, hexec, driveOk_status _ i, fun h => ?_, fun h hfb => ?_, fun h => ?_, fun h => ?_⟩
  · rw [chargeStop_active h]
    exact ⟨rfl, rfl⟩
  · rw [chargeStop_closing h, if_pos hfb]
    exact ⟨rfl, rfl⟩
  · have hstop : s.chargeStop i .host = s.enter i .stopped .host := by
      rcases h with h | ⟨h, hfb⟩
      · exact chargeStop_idle h _
      · exact (chargeStop_closing h _).trans (if_neg (Bool.eq_false_iff.mp hfb))
    rw [hstop, enter_of_now (by decide)]
    exact slotMoved_stageKept (slotMoved_enterNow s i .host (by decide) (by decide)) (stageKept_driveStatus _ i codeOk)
  · rw [chargeStop_ending h]
    exact ⟨rfl, rfl⟩

/-- An entry to RUN or CHARGE waits for the dispatch edge (R308). -/
theorem stageKept_enter_pending {st : SlotState} (h : st = .run ∨ st = .charge) (s : State) (i : Fin 4) (r : Reason) :
    StageKept (s.setSlot i { s.slot i with pendEntry := some st, pendReason := r }) (s.enter i st r) := by
  have hstop : StageKept s (if (s.slot i).state = .probe then s.rotStop i else s) := .ite (StageKept.refl s).rotStop (.refl s)
  unfold State.enter
  dsimp only
  rw [if_pos h, hstop.slot i]
  exact hstop.setSlot

theorem resume_runs (hc : s.commandable i = true) (hj : (s.slot i).judged = .glide) (hr : (s.slot i).reason = .host) :
    Runs (.resume i) s (fun t => (t.slot i).pendEntry = some .run ∧ (t.slot i).state = (s.slot i).state ∧ t.driveOk i) := by
  have hslot := ((stageKept_enter_pending (.inl rfl) s i .host).driveStatus (code := codeOk) (i := i)).slot i
  rw [slot_setSlot] at hslot
  refine runs_of_driveCmd (act := fun t => t.enter i .run .host) rfl (by simp [hj, hr]) hc ⟨?_, ?_, driveOk_status _ i⟩
  · rw [hslot]
  · rw [hslot]

theorem disarm_runs (hc : s.commandable i = true) (hj : (s.slot i).judged = .armed ∨ (s.slot i).judged = .stopped) :
    Runs (.disarm i) s (fun t => s.slotMoved t i .off .host ∧ t.driveOk i) :=
  runs_of_enter rfl (by simpa using hj) hc (by decide)

theorem recover_runs (hc : s.commandable i = true) (hj : (s.slot i).judged = .safe) (ha : (s.slot i).above = false)
    (hh : s.hardCause i = false) (hf : s.patrol.f4 = false) :
    Runs (.recover i) s (fun t => s.slotMoved t i .stopped .host ∧ t.driveOk i) :=
  runs_of_enter rfl (by simp [hj, ha, hh, hf]) hc (by decide)

theorem restart_runs (hc : s.commandable i = true) (hj : (s.slot i).judged = .safe)
    (hs : s.get Reg.PWM.TRIP.FAILSIDE.SIDES / 4 ^ i.val % 4 = 0) (ho : s.trip.ov = false) (hp : s.phaseHeld i = false)
    (hh : s.hardCause i = false) (hf : s.patrol.f4 = false) : Runs (.restart i) s (fun t =>
      s.slotMoved t i .catching .restart ∧ t.driveOk i ∧ (t.slot i).method = (if (s.slot i).above then 2 else 1)) := by
  obtain ⟨p, d, h⟩ := exists_stageKept_enterNow s i (st := .catching) .restart (by decide) (by decide)
  have hslot := (h.driveStatus (code := codeOk) (i := i)).slot i
  rw [slot_movedFrom] at hslot
  have hexec : execRestart i s = .next
      ((s.enterNow i .catching .restart).status (Reg.DRIVE.SLOT.CMD_STATUS.addr i.val) codeOk) :=
    driveCmd_accepted (by simp [hj, hs, ho, hp, hh, hf]) hc
  refine ⟨_, hexec, slotMoved_of_slot hslot ?_, driveOk_status _ i, ?_⟩
  · exact (stageKept_driveStatus _ i codeOk).causes _ (show 34 + i.val < 64 by omega) (show 0 < 32 by decide) (causeSet_enterNow s i _ _)
  · rw [hslot]
    rfl

end Sys2Proof.Machine
end

section
/-! The commands CHARGE and DISCHARGE of a drive slot where their rows allow them (R306, R332, R339, R340). -/

namespace Sys2Proof.Machine

variable {s t : State} {i : Fin 4}

/-! ## CHARGE -/

theorem charge_runs (hc : s.commandable 0 = true) (hd : s.chargeDeny = 0) (hj : (s.slot 0).judged = .armed)
    (hb : s.driveBlocked = false) : Runs (.charge 0) s (fun t =>
      (t.slot 0).pendEntry = some .charge ∧ t.get Reg.DRIVE.CHG.STATUS.DENY = 0 ∧ t.driveOk 0 ∧
      t.get Reg.DRIVE.CHG.EVENTS.SESSIONS = min (s.get Reg.DRIVE.CHG.EVENTS.SESSIONS + 1) 255) := by
  obtain ⟨u, hu⟩ : ∃ u, u = (s.put Reg.DRIVE.CHG.STATUS.DENY 0).bump Reg.DRIVE.CHG.EVENTS.SESSIONS := ⟨_, rfl⟩
  have hdeny : u.get Reg.DRIVE.CHG.STATUS.DENY = 0 := by
    rw [hu, State.get_bump_ne _ _ _ (by decide), State.get_put_same _ _ _ (by decide)]
    rfl
  have hsessions : u.get Reg.DRIVE.CHG.EVENTS.SESSIONS = min (s.get Reg.DRIVE.CHG.EVENTS.SESSIONS + 1) 255 := by
    rw [hu, State.bump, State.get_put_same _ _ _ (by decide), State.get_put_ne _ _ _ _ (by decide)]
    exact Nat.mod_eq_of_lt (Nat.lt_of_le_of_lt (Nat.min_le_right _ _) (by decide))
  have hwritten : StageKept u (u.writeMode f1) := (StageKept.refl u).writeMode
  have hkept := (stageKept_enter_pending (st := .charge) (.inr rfl) (u.writeMode f1) 0 .host).driveStatus (code := codeOk) (i := 0)
  have hexec : exec (.charge 0) s = s.driveCmd 0 (decide ((s.slot 0).judged = .armed) && !s.driveBlocked)
      (fun t => (((t.put Reg.DRIVE.CHG.STATUS.DENY 0).bump Reg.DRIVE.CHG.EVENTS.SESSIONS).writeMode f1).enter 0 .charge .host) := by
    show execCharge 0 s = _
    unfold execCharge
    simp only [ne_eq, not_true_eq_false, if_false, hd, if_true, decide_true, Bool.true_and]
  refine runs_of_driveCmd hexec (by simp [hj, hb]) hc ?_
  rw [← hu]
  refine ⟨?_, ?_, driveOk_status _ 0, ?_⟩
  · rw [hkept.slot 0, slot_setSlot]
  · exact (hkept.get (by decide)).trans ((hwritten.get (by decide)).trans hdeny)
  · exact (hkept.get (by decide)).trans ((hwritten.get (by decide)).trans hsessions)

/-! ## How a discharge goes on from its entry -/

theorem linkDischarged_congr (h : t.dcl = s.dcl) : t.linkDischarged = s.linkDischarged := by
  simp only [State.linkDischarged, State.higherDc, h]

theorem hasDischLeg_congr (h : t.course = s.course) : t.hasDischLeg = s.hasDischLeg := by
  simp only [State.hasDischLeg, State.legRec, h]

theorem params_mem_stageRegs : ∀ i : Fin 4, Reg.DRIVE.SLOT.PARAMS.addr i.val ∈ stageRegs := by decide

theorem causeSet_movedFrom (s : State) (i : Fin 4) (p : Nat) (d : Bool) (st : SlotState) (r : Reason) (c : Cause) :
    ((s.dischLeft i p d).movedFrom i st r).causeSet c = s.causeSet c := State.causeSet_congr rfl c

/-- On a discharged link the slot is STOPPED with DISCHARGE_DONE. -/
theorem dischargeDone_reads (s : State) (i : Fin 4) :
    ((s.dischargeDone i).slot i).state = .stopped ∧ (s.dischargeDone i).causeSet ⟨34 + i.val, 9⟩ = true := by
  obtain ⟨p, d, h⟩ := exists_stageKept_enterNow (s.raise (driveCause i 9)) i (st := .stopped) .none (by decide) (by decide)
  have hnow : s.dischargeDone i = (s.raise (driveCause i 9)).enterNow i .stopped .none := enter_of_now (by decide) _ _ _
  rw [hnow]
  refine ⟨?_, h.causes _ (show 34 + i.val < 64 by omega) (show 9 < 32 by decide) ?_⟩
  · rw [h.slot i, slot_movedFrom]
    rfl
  · rw [causeSet_movedFrom]
    exact State.causeSet_raise s (driveCause i 9) (show 9 < 32 by decide)

/-- A discharge that no phase can take ends STOPPED with DISCHARGE_FAIL. -/
theorem dischargeFail_reads (s : State) (i : Fin 4) (r : Reason) :
    ((s.dischargeFail i r).slot i).state = .stopped ∧ (s.dischargeFail i r).causeSet ⟨34 + i.val, 10⟩ = true := by
  obtain ⟨p, d, h⟩ := exists_stageKept_enterNow ((s.writeDisch i f0).raise (driveCause i 10)) i (st := .stopped) r (by decide) (by decide)
  have hnow : s.dischargeFail i r = (((s.writeDisch i f0).raise (driveCause i 10)).enterNow i .stopped r).statusFrame 3 :=
    congrArg (State.statusFrame · 3) (enter_of_now (by decide) _ _ _)
  have hframe := h.statusFrame (code := 3)
  rw [hnow]
  refine ⟨?_, hframe.causes _ (show 34 + i.val < 64 by omega) (show 10 < 32 by decide) ?_⟩
  · rw [hframe.slot i, slot_movedFrom]
    rfl
  · rw [causeSet_movedFrom]
    exact State.causeSet_raise _ (driveCause i 10) (show 10 < 32 by decide)

/-- Phase 1 holds the request of the chopper legs. -/
theorem stageKept_dischBegin_chopper (hl : s.linkDischarged = false) (hd : s.hasDischLeg = true) :
    StageKept (s.dischLeft i 1 true) (s.dischBegin i) := by
  unfold State.dischBegin
  rw [if_neg (Bool.eq_false_iff.mp hl), if_pos hd]
  exact (StageKept.refl (s.dischLeft i 1 true)).chopStart.chopRefs

theorem dischBegin_of_no_chopper (hl : s.linkDischarged = false) (hd : s.hasDischLeg = false) : s.dischBegin i = s.dischPhase2 i := by
  unfold State.dischBegin
  rw [if_neg (Bool.eq_false_iff.mp hl), if_neg (Bool.eq_false_iff.mp hd)]

/-- The chopper legs released before phase 2 move nothing else of the power stage. -/
theorem stageKept_released (s : State) : StageKept (s.withDisch false) s.dischRelease.chopRefs :=
  (StageKept.refl s).dischRelease.chopRefs

theorem stageKept_dischPhase2 (hl : s.linkDischarged = false) (he : s.flag (Reg.DRIVE.SLOT.PARAMS.DISCH_EN i.val) = true) :
    StageKept (s.dischLeft i 2 false) (s.dischPhase2 i) := by
  have hrel := stageKept_released s
  have hlink : s.dischRelease.chopRefs.linkDischarged = false := (linkDischarged_congr hrel.dcl).trans hl
  have hen : s.dischRelease.chopRefs.flag (Reg.DRIVE.SLOT.PARAMS.DISCH_EN i.val) = true :=
    (hrel.flag (params_mem_stageRegs i)).trans he
  unfold State.dischPhase2
  dsimp only
  rw [if_neg (Bool.eq_false_iff.mp hlink), if_pos hen, hrel.slot i]
  exact hrel.setSlot.writeDisch

theorem dischPhase2_fails (hl : s.linkDischarged = false) (he : s.flag (Reg.DRIVE.SLOT.PARAMS.DISCH_EN i.val) = false) :
    s.dischPhase2 i = s.dischRelease.chopRefs.dischargeFail i .none := by
  have hrel := stageKept_released s
  have hlink : s.dischRelease.chopRefs.linkDischarged = false := (linkDischarged_congr hrel.dcl).trans hl
  have hen : s.dischRelease.chopRefs.flag (Reg.DRIVE.SLOT.PARAMS.DISCH_EN i.val) = false :=
    (hrel.flag (params_mem_stageRegs i)).trans he
  unfold State.dischPhase2
  dsimp only
  rw [if_neg (Bool.eq_false_iff.mp hlink), if_neg (Bool.eq_false_iff.mp hen)]

/-! ## DISCHARGE -/

theorem discharge_runs (hc : s.commandable i = true) (hj : (s.slot i).judged.resting = true ∨ (s.slot i).judged = .armed)
    (hothers : ∀ k : Fin 4, k ≠ i → (s.slot k).state.resting = true) (hslow : s.slow i = true) (hb : s.driveBlocked = false) :
    Runs (.discharge i) s (fun t => t.driveOk i ∧
      (s.linkDischarged = true → (t.slot i).state = .stopped ∧ t.causeSet ⟨34 + i.val, 9⟩ = true) ∧
      (s.linkDischarged = false → s.hasDischLeg = true → s.slotMoved t i .discharge .host ∧ (t.slot i).dischPhase = 1 ∧
        t.chop.dischReq = true) ∧
      (s.linkDischarged = false → s.hasDischLeg = false → s.flag (Reg.DRIVE.SLOT.PARAMS.DISCH_EN i.val) = true →
        s.slotMoved t i .discharge .host ∧ (t.slot i).dischPhase = 2 ∧ t.chop.dischReq = false) ∧
      (s.linkDischarged = false → s.hasDischLeg = false → s.flag (Reg.DRIVE.SLOT.PARAMS.DISCH_EN i.val) = false →
        (t.slot i).state = .stopped ∧ t.causeSet ⟨34 + i.val, 10⟩ = true)) := by
  have hrest : (List.finRange 4).all (fun k => decide (k = i) || (s.slot k).state.resting) = true := by
    simpa [or_iff_not_imp_left] using hothers
  have hmoved := slotMoved_enterNow s i (st := .discharge) .host (by decide) (by decide)
  obtain ⟨p, d, hkept⟩ := exists_stageKept_enterNow s i (st := .discharge) .host (by decide) (by decide)
  have hlink := linkDischarged_congr (s := s) hkept.dcl
  have hleg := hasDischLeg_congr (s := s) hkept.course
  have hen : (s.enterNow i .discharge .host).flag (Reg.DRIVE.SLOT.PARAMS.DISCH_EN i.val) =
      s.flag (Reg.DRIVE.SLOT.PARAMS.DISCH_EN i.val) := hkept.flag (params_mem_stageRegs i)
  refine runs_of_driveCmd (act := fun t => (t.enter i .discharge .host).dischBegin i) rfl
    (by rcases hj with hj | hj <;> simp [hj, hrest, hslow, hb]) hc ⟨driveOk_status _ i, ?_⟩
  rw [enter_of_now (by decide), ← hlink, ← hleg, ← hen]
  generalize s.enterNow i .discharge .host = u at hmoved
  have hstatus := stageKept_driveStatus (u.dischBegin i) i codeOk
  refine ⟨fun hl => ?_, fun hl hleg => ?_, fun hl hleg hen => ?_, fun hl hleg hen => ?_⟩
  · have hdone : u.dischBegin i = u.dischargeDone i := if_pos hl
    obtain ⟨hstate, hcause⟩ := dischargeDone_reads u i
    rw [hdone] at hstatus ⊢
    exact ⟨(congrArg Slot.state (hstatus.slot i)).trans hstate,
      hstatus.causes _ (show 34 + i.val < 64 by omega) (show 9 < 32 by decide) hcause⟩
  · have hphase := (stageKept_dischBegin_chopper (i := i) hl hleg).trans hstatus
    refine ⟨slotMoved_stageKept (slotMoved_dischPhase hmoved 1 true) hphase, ?_, hphase.dischReq⟩
    rw [hphase.slot i, State.dischLeft, slot_setSlot]
  · rw [dischBegin_of_no_chopper hl hleg] at hstatus ⊢
    have hphase := (stageKept_dischPhase2 hl hen).trans hstatus
    refine ⟨slotMoved_stageKept (slotMoved_dischPhase hmoved 2 false) hphase, ?_, hphase.dischReq⟩
    rw [hphase.slot i, State.dischLeft, slot_setSlot]
  · obtain ⟨hstate, hcause⟩ := dischargeFail_reads u.dischRelease.chopRefs i .none
    rw [dischBegin_of_no_chopper hl hleg, dischPhase2_fails hl hen] at hstatus ⊢
    exact ⟨(congrArg Slot.state (hstatus.slot i)).trans hstate,
      hstatus.causes _ (show 34 + i.val < 64 by omega) (show 10 < 32 by decide) hcause⟩

end Sys2Proof.Machine

section
open Sys2Proof.Machine

/-- Settles O27: each command comes to the rule of its row. -/
theorem driveCommandsRun : Obligations.DriveCommandsRun := by
  unfold Obligations.DriveCommandsRun
  intro s i hc
  refine ⟨arm_runs hc, start_runs hc, stop_run_runs hc, stop_charge_runs hc, resume_runs hc, disarm_runs hc, recover_runs hc,
    restart_runs hc, discharge_runs hc, ?_⟩
  rintro rfl
  exact charge_runs hc
end
end

section
/-! What shared operations leave of the sensing: the agreement of a sample, the routes of a value, the update of a filter (R70, R351). -/

namespace Sys2Proof.Machine

variable {s t u : State} {l l' : List Nat}

theorem State.regsBut.mono (h : s.regsBut l t) (hl : ∀ a ∈ l, a ∈ l') : s.regsBut l' t := fun a ha => h a (ha ∘ hl a)

theorem causeBit_eq_false_of_le {c : Cause} (s : State) (h : 32 ≤ c.bit) : s.causeSet c = false := BitVec.getLsbD_of_ge _ _ h

/-- The registers that a sample's agreement may move. -/
def agreeRegs : List Nat := Reg.TRIAD.COUNTS1.addr :: causeWords [4]

theorem agreeFix_regsBut (s : State) (d : Bool) : s.regsBut agreeRegs (s.agreeFix d) := by
  unfold State.agreeFix
  split
  · exact (regsBut_refl.put (f := Reg.TRIAD.COUNTS1.AGREE_FIX) (by decide)).raise (c := ⟨4, 13⟩) (by decide)
  · exact regsBut_refl

theorem agreeFix_same (s : State) (d : Bool) : SameButCauses s (s.agreeFix d) := by
  unfold State.agreeFix
  split
  · exact SameButCauses.trans (by constructor <;> rfl) (State.raise_same _ _)
  · exact .refl s

/-- A register of CLK, or of a block after TRIAD, stands through an agreement. -/
theorem notMem_agreeRegs {a : Nat} (h : a < 0x40040000 ∨ 0x40070000 ≤ a) : a ∉ agreeRegs := by
  simp only [agreeRegs, causeWords, List.map_cons, List.map_nil, List.mem_cons, List.not_mem_nil, Reg.INT.GRP.CAUSE.addr,
    Reg.TRIAD.COUNTS1.addr, or_false]
  omega

theorem exists_route (s : State) (cls idx : Nat) (x : Port) : ∃ p, s.route cls idx x = { s with ports := p } := by
  refine List.foldlRecOn (motive := fun t : State => ∃ p, t = { s with ports := p }) _ _ ⟨s.ports, rfl⟩ ?_
  rintro _ ⟨p, rfl⟩ r -
  split
  · exact ⟨_, rfl⟩
  · exact ⟨p, rfl⟩

theorem route_regs (s : State) (cls idx : Nat) (x : Port) : (s.route cls idx x).regs = s.regs := by
  obtain ⟨p, hp⟩ := exists_route s cls idx x
  rw [hp]

theorem route_sdm (s : State) (cls idx : Nat) (x : Port) : (s.route cls idx x).sdm = s.sdm := by
  obtain ⟨p, hp⟩ := exists_route s cls idx x
  rw [hp]

theorem route_phv (s : State) (cls idx : Nat) (x : Port) : (s.route cls idx x).phv = s.phv := by
  obtain ⟨p, hp⟩ := exists_route s cls idx x
  rw [hp]

theorem sdm_setSdm (s : State) (n k : Fin 48) (f : SdmFilter) : (s.setSdm n f).sdm[k] = if k = n then f else s.sdm[k] := by
  simp only [State.setSdm, Fin.getElem_fin, Vector.getElem_set, Fin.ext_iff, eq_comm]

theorem sdm_setSdm_same (s : State) (n : Fin 48) (f : SdmFilter) : (s.setSdm n f).sdm[n] = f :=
  (sdm_setSdm s n n f).trans (if_pos rfl)

theorem setSdm_rd (s : State) (n : Fin 48) (f : SdmFilter) (a : Nat) : (s.setSdm n f).rd a = s.rd a := State.rd_congr rfl a

theorem sdmIdx_val (n : Fin 48) : sdmIdx n.val = n := Fin.ofNat_val_eq_self n

theorem filterNo_val (n : Fin 48) : (Fin.ofNat 60 n.val).val = n.val := Nat.mod_eq_of_lt (by omega)

theorem phvNo_val (i : Fin 12) : (Fin.ofNat 60 (48 + i.val)).val = 48 + i.val := Nat.mod_eq_of_lt (by omega)

theorem phvIdx_val (i : Fin 12) : Fin.ofNat 12 (48 + i.val - 48) = i := by
  rw [Nat.add_sub_cancel_left]; exact Fin.ofNat_val_eq_self i

/-! ## The comparison of a pair -/

/-- From `s` to `t` a pair may have been compared: cause words of group 21 and, of the results, the marks of what is compared move. -/
def State.pairKept (s t : State) : Prop :=
  s.regsBut (causeWords [21]) t ∧ ∀ k : Fin 48, ∃ b, t.sdm[k].ch = { s.sdm[k].ch with fresh := b }

theorem pairKept_refl (s : State) : s.pairKept s := ⟨regsBut_refl, fun _ => ⟨_, rfl⟩⟩

theorem State.pairKept.setSdm (h : s.pairKept t) {m : Fin 48} {f : SdmFilter} (hf : ∃ b, f.ch = { t.sdm[m].ch with fresh := b }) :
    s.pairKept (t.setSdm m f) := by
  refine ⟨h.1.of_regs rfl, fun k => ?_⟩
  obtain ⟨b, hb⟩ := hf
  obtain ⟨c, hc⟩ := h.2 k
  rw [sdm_setSdm]
  split
  · rename_i hk
    subst hk
    exact ⟨b, by rw [hb, hc]⟩
  · exact ⟨c, hc⟩

theorem State.pairKept.setPairRun (h : s.pairKept t) {m : Fin 48} {r : Nat} :
    s.pairKept (t.setSdm m { t.sdm[m] with pairRun := r }) :=
  h.setSdm ⟨t.sdm[m].ch.fresh, rfl⟩

theorem State.pairKept.setIf (h : s.pairKept t) {b : Bool} {c : Cause} (hc : c.grp = 21) : s.pairKept (t.setIf b c) := by
  refine ⟨h.1.setIf (by rw [hc]; decide), fun k => ?_⟩
  rw [State.setIf_sdm]
  exact h.2 k

theorem pairKept_pairCompare (s : State) (n : Fin 48) : s.pairKept (s.pairCompare n) := by
  unfold State.pairCompare
  extract_lets m lo a b f1 s1 f2 s2 d tol run
  have h1 : s.pairKept s1 := (pairKept_refl s).setSdm ⟨false, rfl⟩
  split
  · have h2 : s.pairKept s2 := by
      refine h1.setSdm ⟨false, ?_⟩
      rw [sdm_setSdm]
      split
      · rename_i hm
        simp only [a, b, hm]
      · rfl
    split
    · exact h2
    · exact h2.setPairRun.setIf (c := ⟨21, 16⟩) rfl
  · exact pairKept_refl s

/-! ## A filter's result -/

/-- What a result of filter n formed in `s` on these bits says (R104 to R108, R111). -/
structure FilterFormed (s : State) (n : Fin 48) (bitsA bitsB : List Bool) (c : SdmCh) : Prop where
  seq : c.seq = s.sdm[n].ch.seq + 1#16
  new : c.new = true
  due : c.trig.due = false
  short : s.filterX n bitsA bitsB = none → c.valid = false
  value : ∀ x, s.filterX n bitsA bitsB = some x →
    c.res = fMul (s.rd (Reg.SDM.F.GAIN.addr n.val)) (fSub (fOfRat x) (s.rd (Reg.SDM.F.OFFSET.addr n.val))) ∧ c.raw = rawOf x ∧
    (s.sdm[n].ch.freshFrom = none → c.valid = s.inputsOk n.val)

theorem FilterFormed.withFresh {n : Fin 48} {bitsA bitsB : List Bool} {c : SdmCh} (h : FilterFormed s n bitsA bitsB c) (b : Bool) :
    FilterFormed s n bitsA bitsB { c with fresh := b } :=
  ⟨h.seq, h.new, h.due, h.short, h.value⟩

/-- The result of a filter as it is stored, before its causes, its pair and its routes. -/
def State.filterStored (s : State) (n : Fin 48) (free : Nat) (x : SdmFilter) : State :=
  ({ s with freeCount := free }.setSdm n x).wr (Reg.SDM.F.RES.addr n.val) x.ch.res

/-- A result is formed, stored, noted by the causes of its filter, compared within its pair and routed. -/
theorem exists_filterResult (s : State) (n : Fin 48) (bitsA bitsB : List Bool) (g : Bool) (cycle : Nat) :
    ∃ free x ov sub out, FilterFormed s n bitsA bitsB x.ch ∧ s.filterResult n bitsA bitsB g cycle =
      ((((s.filterStored n free x).setIf ov ⟨21, 19⟩).setIf sub ⟨21, 17⟩).pairCompare n).route 1 n.val out := by
  unfold State.filterResult
  extract_lets f p order d k need wA wB
  have hX : s.filterX n bitsA bitsB = match wA, wB with | some a, some b => some (a - b) | _, _ => none := rfl
  revert hX
  generalize wA = a
  generalize wB = b
  intro hX
  cases a with
  | none => exact ⟨_, _, _, _, _, ⟨rfl, rfl, rfl, fun _ => rfl, fun v hv => (nomatch hX.symm.trans hv)⟩, rfl⟩
  | some a =>
    cases b with
    | none => exact ⟨_, _, _, _, _, ⟨rfl, rfl, rfl, fun _ => rfl, fun v hv => (nomatch hX.symm.trans hv)⟩, rfl⟩
    | some b =>
      refine ⟨_, _, _, _, _, ⟨rfl, rfl, rfl, fun h => (nomatch hX.symm.trans h), fun v hv => ?_⟩, rfl⟩
      obtain rfl : a - b = v := Option.some.inj (hX.symm.trans hv)
      refine ⟨rfl, rfl, fun hf => ?_⟩
      show (s.inputsOk n.val && f.ch.whole need cycle) = s.inputsOk n.val
      rw [SdmCh.whole, show f.ch.freshFrom = none from hf, Bool.and_true]

/-- The registers that a result of filter n may move. -/
def filterRegs (n : Fin 48) : List Nat := Reg.SDM.F.RES.addr n.val :: causeWords [21]

theorem filterResult_regsBut (s : State) (n : Fin 48) (bitsA bitsB : List Bool) (g : Bool) (cycle : Nat) :
    s.regsBut (filterRegs n) (s.filterResult n bitsA bitsB g cycle) := by
  obtain ⟨free, x, ov, sub, out, -, he⟩ := exists_filterResult s n bitsA bitsB g cycle
  have hcause : Reg.INT.GRP.CAUSE.addr 21 ∈ filterRegs n := List.mem_cons_of_mem _ (List.mem_singleton_self _)
  have hstored : s.regsBut (filterRegs n) (s.filterStored n free x) :=
    (regsBut_refl.of_regs (t := s) rfl).wr (List.mem_cons_self ..)
  rw [he]
  exact (((hstored.setIf hcause).setIf hcause).trans
    ((pairKept_pairCompare _ n).1.mono fun _ => List.mem_cons_of_mem _)).of_regs (route_regs _ _ _ _)

theorem resAddr_notMem_causes (n : Fin 48) : Reg.SDM.F.RES.addr n.val ∉ causeWords [21] := by
  simp only [causeWords, List.map_cons, List.map_nil, List.mem_singleton, Reg.INT.GRP.CAUSE.addr, Reg.SDM.F.RES.addr]
  omega

theorem FilterFormed.pairRoute {n : Fin 48} {bitsA bitsB : List Bool} (h : FilterFormed s n bitsA bitsB t.sdm[n].ch)
    (hrd : t.rd (Reg.SDM.F.RES.addr n.val) = t.sdm[n].ch.res) (x : Port) (hu : u = (t.pairCompare n).route 1 n.val x) :
    FilterFormed s n bitsA bitsB u.sdm[n].ch ∧ u.rd (Reg.SDM.F.RES.addr n.val) = u.sdm[n].ch.res := by
  obtain ⟨hregs, hch⟩ := pairKept_pairCompare t n
  obtain ⟨b, hb⟩ := hch n
  rw [hu, State.rd_congr (route_regs _ _ _ _), route_sdm, hb, hregs _ (resAddr_notMem_causes n), hrd]
  exact ⟨h.withFresh b, rfl⟩

theorem filterFormed_filterResult (s : State) (n : Fin 48) (bitsA bitsB : List Bool) (g : Bool) (cycle : Nat) :
    FilterFormed s n bitsA bitsB (s.filterResult n bitsA bitsB g cycle).sdm[n].ch ∧
    (s.filterResult n bitsA bitsB g cycle).rd (Reg.SDM.F.RES.addr n.val) = (s.filterResult n bitsA bitsB g cycle).sdm[n].ch.res := by
  obtain ⟨free, x, ov, sub, out, hx, he⟩ := exists_filterResult s n bitsA bitsB g cycle
  have hsdm : (((s.filterStored n free x).setIf ov ⟨21, 19⟩).setIf sub ⟨21, 17⟩).sdm[n] = x := by
    rw [State.setIf_sdm, State.setIf_sdm]
    exact sdm_setSdm_same _ n x
  have hregs : (s.filterStored n free x).regsBut (causeWords [21])
      (((s.filterStored n free x).setIf ov ⟨21, 19⟩).setIf sub ⟨21, 17⟩) :=
    (regsBut_refl.setIf (c := ⟨21, 19⟩) (by decide)).setIf (c := ⟨21, 17⟩) (by decide)
  refine FilterFormed.pairRoute (by rw [hsdm]; exact hx) ?_ out he
  rw [hregs _ (resAddr_notMem_causes n), hsdm]
  exact State.rd_wr_same _ _ _

/-! ## A window's value after the agreement of a sample -/

theorem filterX_agreeFix (s : State) (d : Bool) (n : Fin 48) (bitsA bitsB : List Bool) :
    (s.agreeFix d).filterX n bitsA bitsB = s.filterX n bitsA bitsB := by
  have hget (f : Fld) (h : f.addr < 0x40040000 ∨ 0x40070000 ≤ f.addr) : (s.agreeFix d).get f = s.get f :=
    (agreeFix_regsBut s d).get (notMem_agreeRegs h)
  have hsdm := (agreeFix_same s d).sdm
  simp (disch := (dsimp only; omega)) only [State.filterX, State.inputs, State.meanCount, State.modCycles, State.flag, hget, hsdm]
    <;> rfl

theorem stuckFld_eq (k : Nat) : ∃ a b, stuckFld k = ⟨a, b, 1⟩ ∧ 0x400c0004 ≤ a ∧ a ≤ 0x400c000c ∧ (k < 80 → b < 32) := by
  unfold stuckFld
  split
  · exact ⟨_, _, rfl, by decide, by decide, fun _ => by omega⟩
  · split
    · exact ⟨_, _, rfl, by decide, by decide, fun _ => by omega⟩
    · exact ⟨_, _, rfl, by decide, by decide, fun _ => by omega⟩

theorem inputsOk_agreeFix (s : State) (d : Bool) (n : Nat) : (s.agreeFix d).inputsOk n = s.inputsOk n := by
  have hget (f : Fld) (h : 0x40070000 ≤ f.addr) : (s.agreeFix d).get f = s.get f :=
    (agreeFix_regsBut s d).get (notMem_agreeRegs (.inr h))
  have hstuck (k : Nat) : (s.agreeFix d).get (stuckFld k) = s.get (stuckFld k) := by
    obtain ⟨a, b, he, hlo, -⟩ := stuckFld_eq k
    rw [he]
    exact hget _ (show 0x40070000 ≤ a by omega)
  have hsame := agreeFix_same s d
  simp (disch := (dsimp only; omega)) only [State.inputsOk, State.inputs, State.streamOk, State.flag, State.chanRec, hget, hstuck,
    hsame.course, hsame.edges]
    <;> rfl

theorem FilterFormed.of_agreeFix {d : Bool} {n : Fin 48} {bitsA bitsB : List Bool} {c : SdmCh}
    (h : FilterFormed (s.agreeFix d) n bitsA bitsB c) : FilterFormed s n bitsA bitsB c := by
  obtain ⟨hseq, hnew, hdue, hshort, hvalue⟩ := h
  have hrd (a : Nat) (ha : 0x40070000 ≤ a) : (s.agreeFix d).rd a = s.rd a := agreeFix_regsBut s d a (notMem_agreeRegs (.inr ha))
  have hgain := hrd (Reg.SDM.F.GAIN.addr n.val) (by simp only [Reg.SDM.F.GAIN.addr]; omega)
  have hoffset := hrd (Reg.SDM.F.OFFSET.addr n.val) (by simp only [Reg.SDM.F.OFFSET.addr]; omega)
  rw [(agreeFix_same s d).sdm] at hseq hvalue
  rw [filterX_agreeFix] at hshort hvalue
  rw [hgain, hoffset, inputsOk_agreeFix] at hvalue
  exact ⟨hseq, hnew, hdue, hshort, hvalue⟩

/-! ## A PHV result -/

/-- What a result of PHV channel i formed in `s` on these bits says (R105, R111, R119). -/
structure PhvFormed (s : State) (i : Fin 12) (bits : List Bool) (c : SdmCh) : Prop where
  seq : c.seq = s.phv[i].seq + 1#16
  new : c.new = true
  short : s.phvX i bits = none → c.valid = false
  value : ∀ x, s.phvX i bits = some x →
    (s.phv[i].freshFrom = none → c.valid = true) ∧ c.res = fMul 0x45160000#32 (fOfRat x) ∧ c.raw = rawOf x

theorem PhvFormed.of_agreeFix {d : Bool} {i : Fin 12} {bits : List Bool} {c : SdmCh}
    (h : PhvFormed (s.agreeFix d) i bits c) : PhvFormed s i bits c := by
  obtain ⟨hseq, hnew, hshort, hvalue⟩ := h
  have hget (f : Fld) (h : f.addr < 0x40040000 ∨ 0x40070000 ≤ f.addr) : (s.agreeFix d).get f = s.get f :=
    (agreeFix_regsBut s d).get (notMem_agreeRegs h)
  have hX : (s.agreeFix d).phvX i bits = s.phvX i bits := by
    simp (disch := decide) only [State.phvX, State.meanCount, State.modCycles, State.flag, hget, (agreeFix_same s d).phv]
      <;> rfl
  rw [(agreeFix_same s d).phv] at hseq hvalue
  rw [hX] at hshort hvalue
  exact ⟨hseq, hnew, hshort, hvalue⟩

/-- The result of a PHV channel as it is stored, before its cause, its route and what it ends. -/
def State.phvStored (s : State) (i : Fin 12) (free : Nat) (c : SdmCh) : State :=
  State.wr { s with freeCount := free, phv := s.phv.set i c } (Reg.SDM.PHV_RES.addr i.val) c.res

/-- The back-EMF and the charging source take a result of PHV channel i. -/
def State.phvTaken (s : State) (i : Fin 12) (cycle : Nat) : State :=
  let t := s.emfTake i.val cycle
  if i.val = t.chgLast then t.sourceMeasure cycle else t

theorem exists_phvResult (s : State) (i : Fin 12) (bits : List Bool) (cycle : Nat) :
    ∃ free c ov out, PhvFormed s i bits c ∧ s.phvResult i bits cycle =
      (((s.phvStored i free c).setIf ov ⟨21, 19⟩).route 7 i.val out).phvTaken i cycle := by
  unfold State.phvResult
  extract_lets c d k w need
  have hX : s.phvX i bits = w := rfl
  revert hX
  generalize w = x
  intro hX
  cases x with
  | none => exact ⟨_, _, _, _, ⟨rfl, rfl, fun _ => rfl, fun v hv => (nomatch hX.symm.trans hv)⟩, rfl⟩
  | some x =>
    refine ⟨_, _, _, _, ⟨rfl, rfl, fun h => (nomatch hX.symm.trans h), fun v hv => ?_⟩, rfl⟩
    obtain rfl : x = v := Option.some.inj (hX.symm.trans hv)
    refine ⟨fun hf => ?_, rfl, rfl⟩
    show (true && c.whole need cycle) = true
    rw [SdmCh.whole, show c.freshFrom = none from hf, Bool.and_true]

theorem exists_emfTake (s : State) (k cycle : Nat) : ∃ x, s.emfTake k cycle = { s with slalom := x } := by
  refine List.foldlRecOn (motive := fun t : State => ∃ x, t = { s with slalom := x }) _ _ ⟨s.slalom, rfl⟩ ?_
  rintro _ ⟨x, rfl⟩ i -
  split
  · have hm : ∃ y, State.emfMeasure { s with slalom := x } i cycle = { s with slalom := y } := by
      unfold State.emfMeasure
      dsimp only
      split
      · exact ⟨_, rfl⟩
      · exact ⟨x, rfl⟩
    obtain ⟨y, hy⟩ := hm
    rw [hy]
    unfold State.rotSampleSlot
    dsimp only
    split
    · exact ⟨_, rfl⟩
    · exact ⟨y, rfl⟩
  · exact ⟨x, rfl⟩

/-- The registers that the measurement of the charging source may move. -/
def sourceRegs : List Nat := [Reg.DRIVE.CHG.SRC_V.addr, Reg.DRIVE.CHG.STATUS.addr] ++ causeWords [2]

/-- The source has been measured (R337): what is shown of it, and a rotation against the slot's sense. -/
def State.sourceShown (s : State) (chg : ChgSt) (v : Word) (ok rev : Bool) : State :=
  ((State.wr { s with chg := chg } Reg.DRIVE.CHG.SRC_V.addr v).setSeqOk ok).setIf rev (chgCause 6)

theorem exists_sourceMeasure (s : State) (cycle : Nat) :
    ∃ chg, s.sourceMeasure cycle = { s with chg := chg } ∨ ∃ v ok rev, s.sourceMeasure cycle = s.sourceShown chg v ok rev := by
  unfold State.sourceMeasure
  extract_lets src c v win mean rising neg t0 per l three r0 r1 r2 rms low lag pos freq s1
  split
  · exact ⟨s.chg, .inl rfl⟩
  split
  · exact ⟨_, .inr ⟨mean, true, false, rfl⟩⟩
  split
  · exact ⟨_, .inr ⟨low, pos, _, rfl⟩⟩
  split
  · exact ⟨_, .inl rfl⟩
  exact ⟨_, .inl rfl⟩

theorem sourceShown_keeps (s : State) (chg : ChgSt) (v : Word) (ok rev : Bool) :
    s.regsBut sourceRegs (s.sourceShown chg v ok rev) ∧ (s.sourceShown chg v ok rev).phv = s.phv := by
  refine ⟨?_, State.setIf_phv _ _ _⟩
  have h : s.regsBut sourceRegs { s with chg := chg } := regsBut_refl.of_regs rfl
  exact ((h.wr (by decide)).put (f := Reg.DRIVE.CHG.STATUS.SEQ_OK) (by decide)).setIf (c := ⟨2, 6⟩) (by decide)

theorem sourceMeasure_keeps (s : State) (cycle : Nat) :
    s.regsBut sourceRegs (s.sourceMeasure cycle) ∧ (s.sourceMeasure cycle).phv = s.phv := by
  obtain ⟨chg, h | ⟨v, ok, rev, h⟩⟩ := exists_sourceMeasure s cycle
  · rw [h]
    exact ⟨regsBut_refl.of_regs rfl, rfl⟩
  · rw [h]
    exact sourceShown_keeps s chg v ok rev

theorem phvTaken_keeps (s : State) (i : Fin 12) (cycle : Nat) :
    s.regsBut sourceRegs (s.phvTaken i cycle) ∧ (s.phvTaken i cycle).phv = s.phv := by
  obtain ⟨x, hx⟩ := exists_emfTake s i.val cycle
  unfold State.phvTaken
  rw [hx]
  dsimp only
  split
  · exact sourceMeasure_keeps { s with slalom := x } cycle
  · exact ⟨regsBut_refl.of_regs rfl, rfl⟩

/-- The registers that a result of PHV channel i may move. -/
def phvRegs (i : Fin 12) : List Nat := Reg.SDM.PHV_RES.addr i.val :: (causeWords [21] ++ sourceRegs)

theorem phvResult_regsBut (s : State) (i : Fin 12) (bits : List Bool) (cycle : Nat) :
    s.regsBut (phvRegs i) (s.phvResult i bits cycle) := by
  obtain ⟨free, c, ov, out, -, he⟩ := exists_phvResult s i bits cycle
  have hcause : Reg.INT.GRP.CAUSE.addr 21 ∈ phvRegs i := List.mem_cons_of_mem _ (List.mem_cons_self ..)
  have hstored : s.regsBut (phvRegs i) (s.phvStored i free c) := (regsBut_refl.of_regs (t := s) rfl).wr (List.mem_cons_self ..)
  rw [he]
  exact ((hstored.setIf hcause).of_regs (route_regs _ _ _ _)).trans
    ((phvTaken_keeps _ i cycle).1.mono fun a ha => List.mem_cons_of_mem _ (List.mem_append_right _ ha))

theorem phvFormed_phvResult (s : State) (i : Fin 12) (bits : List Bool) (cycle : Nat) :
    PhvFormed s i bits (s.phvResult i bits cycle).phv[i] := by
  obtain ⟨free, c, ov, out, hc, he⟩ := exists_phvResult s i bits cycle
  rw [he, (phvTaken_keeps _ i cycle).2, route_phv, State.setIf_phv]
  have hset : (s.phvStored i free c).phv[i] = c := Vector.getElem_set_self _
  rwa [hset]

/-! ## SDM_RESULT -/

section
variable {bitsA bitsB : List Bool} {g d : Bool} {cycle : Nat}

theorem sdmResult_filter_next {n : Fin 48} (he : s.flag (Reg.SDM.F.CFG.ENABLE n.val) = true)
    (hf : s.sdm[n].ch.forms (s.get (Reg.SDM.F.CFG.MODE n.val)) = true) :
    exec (.sdmResult (Fin.ofNat 60 n.val) bitsA bitsB g d cycle) s = .next ((s.agreeFix d).filterResult n bitsA bitsB g cycle) := by
  show execSdmResult _ _ _ _ _ _ _ = _
  unfold execSdmResult
  simp only [filterNo_val, n.isLt, if_true, sdmIdx_val, he, hf, Bool.and_self]

theorem sdmResult_filter_runs {n : Fin 48} (he : s.flag (Reg.SDM.F.CFG.ENABLE n.val) = true)
    (hf : s.sdm[n].ch.forms (s.get (Reg.SDM.F.CFG.MODE n.val)) = true) :
    Runs (.sdmResult (Fin.ofNat 60 n.val) bitsA bitsB g d cycle) s (fun t =>
      FilterFormed s n bitsA bitsB t.sdm[n].ch ∧ t.rd (Reg.SDM.F.RES.addr n.val) = t.sdm[n].ch.res) :=
  have h := filterFormed_filterResult (s.agreeFix d) n bitsA bitsB g cycle
  ⟨_, sdmResult_filter_next he hf, h.1.of_agreeFix, h.2⟩

theorem sdmResult_phv_next {i : Fin 12} (he : s.flag Reg.SDM.PHV_CFG.ENABLE = true)
    (hf : s.phv[i].forms (s.get Reg.SDM.PHV_CFG.MODE) = true) :
    exec (.sdmResult (Fin.ofNat 60 (48 + i.val)) bitsA bitsB g d cycle) s = .next ((s.agreeFix d).phvResult i bitsA cycle) := by
  show execSdmResult _ _ _ _ _ _ _ = _
  unfold execSdmResult
  simp only [phvNo_val, show ¬ 48 + i.val < 48 by omega, if_false, phvIdx_val, he, hf, Bool.and_self, if_true]

theorem sdmResult_phv_runs {i : Fin 12} (he : s.flag Reg.SDM.PHV_CFG.ENABLE = true)
    (hf : s.phv[i].forms (s.get Reg.SDM.PHV_CFG.MODE) = true) :
    Runs (.sdmResult (Fin.ofNat 60 (48 + i.val)) bitsA bitsB g d cycle) s (fun t => PhvFormed s i bitsA t.phv[i]) :=
  ⟨_, sdmResult_phv_next he hf, (phvFormed_phvResult (s.agreeFix d) i bitsA cycle).of_agreeFix⟩

theorem sdmResult_idle {n : Fin 60}
    (h : (if n.val < 48 then s.flag (Reg.SDM.F.CFG.ENABLE n.val) && s.sdm[sdmIdx n.val].ch.forms (s.get (Reg.SDM.F.CFG.MODE n.val))
      else s.flag Reg.SDM.PHV_CFG.ENABLE && s.phv[Fin.ofNat 12 (n.val - 48)].forms (s.get Reg.SDM.PHV_CFG.MODE)) = false) :
    exec (.sdmResult n bitsA bitsB g d cycle) s = .next s := by
  show execSdmResult _ _ _ _ _ _ _ = _
  unfold execSdmResult
  by_cases hn : n.val < 48
  · rw [if_pos hn] at h
    rw [if_pos hn]
    exact if_neg (by rw [h]; exact Bool.false_ne_true)
  · rw [if_neg hn] at h
    rw [if_neg hn]
    exact if_neg (by rw [h]; exact Bool.false_ne_true)

/-- What an SDM_RESULT leaves: the agreement, and then one result or none. -/
theorem sdmResult_inv {k : Fin 60} (h : exec (.sdmResult k bitsA bitsB g d cycle) s = .next t) :
    t = s ∨ (∃ n : Fin 48, t = (s.agreeFix d).filterResult n bitsA bitsB g cycle) ∨
      ∃ i : Fin 12, t = (s.agreeFix d).phvResult i bitsA cycle := by
  change execSdmResult _ _ _ _ _ _ _ = _ at h
  unfold execSdmResult at h
  dsimp only at h
  split_ifs at h <;> cases h
  · exact .inr (.inl ⟨_, rfl⟩)
  · exact .inl rfl
  · exact .inr (.inr ⟨_, rfl⟩)
  · exact .inl rfl

end

/-! ## Reads of a result -/

theorem readNo_val (n : Fin 48) : (Fin.ofNat 62 n.val).val = n.val := Nat.mod_eq_of_lt (by omega)

/-- A filter's result has been read (R112). -/
def State.filterRead (s : State) (n : Fin 48) : State :=
  ((s.wr (Reg.SDM.F.INFO.addr n.val) s.sdm[n].ch.info).wr (Reg.SDM.F.RAW.addr n.val) (s.sdm[n].ch.raw.setWidth 32)).setSdm n
    { s.sdm[n] with ch := { s.sdm[n].ch with new := false } }

theorem sdmResRead_filter_next (s : State) (n : Fin 48) : exec (.sdmResRead (Fin.ofNat 62 n.val)) s = .next (s.filterRead n) := by
  show execSdmResRead _ _ = _
  unfold execSdmResRead
  simp only [readNo_val, n.isLt, if_true, sdmIdx_val]
  rfl

theorem filterRead_shows (s : State) (n : Fin 48) :
    (s.filterRead n).rd (Reg.SDM.F.INFO.addr n.val) = s.sdm[n].ch.info ∧
    (s.filterRead n).rd (Reg.SDM.F.RAW.addr n.val) = s.sdm[n].ch.raw.setWidth 32 ∧
    (s.filterRead n).sdm[n].ch = { s.sdm[n].ch with new := false } := by
  have hne : Reg.SDM.F.INFO.addr n.val ≠ Reg.SDM.F.RAW.addr n.val := by
    simp only [Reg.SDM.F.INFO.addr, Reg.SDM.F.RAW.addr]; omega
  refine ⟨?_, (setSdm_rd _ _ _ _).trans (State.rd_wr_same _ _ _), congrArg SdmFilter.ch (sdm_setSdm_same _ _ _)⟩
  rw [State.filterRead, setSdm_rd, State.rd_wr_other _ _ _ _ hne, State.rd_wr_same]

theorem filterRead_runs (s : State) (n : Fin 48) : Runs (.sdmResRead (Fin.ofNat 62 n.val)) s (fun t =>
    t.rd (Reg.SDM.F.INFO.addr n.val) = s.sdm[n].ch.info ∧ t.rd (Reg.SDM.F.RAW.addr n.val) = s.sdm[n].ch.raw.setWidth 32 ∧
    t.sdm[n].ch = { s.sdm[n].ch with new := false }) :=
  ⟨_, sdmResRead_filter_next s n, filterRead_shows s n⟩

theorem rd_of_regs_wr {a : Nat} {x : Word} (h : t.regs = (s.wr a x).regs) : t.rd a = x := by
  rw [State.rd_congr h, State.rd_wr_same]

/-- A PHV channel's result has been read (R112). -/
def State.phvRead (s : State) (i : Fin 12) : State :=
  { s.wr (Reg.SDM.PHV_INFO.addr i.val) s.phv[i].info with phv := s.phv.set i { s.phv[i] with new := false } }

theorem sdmResRead_phv_next (s : State) (i : Fin 12) : exec (.sdmResRead (Fin.ofNat 62 (48 + i.val))) s = .next (s.phvRead i) := by
  have hno : (Fin.ofNat 62 (48 + i.val)).val = 48 + i.val := Nat.mod_eq_of_lt (by omega)
  show execSdmResRead _ _ = _
  unfold execSdmResRead
  simp only [hno, show ¬ 48 + i.val < 48 by omega, show 48 + i.val < 60 by omega, if_false, if_true, phvIdx_val]
  rfl

theorem phvRead_shows (s : State) (i : Fin 12) :
    (s.phvRead i).rd (Reg.SDM.PHV_INFO.addr i.val) = s.phv[i].info ∧ (s.phvRead i).phv[i] = { s.phv[i] with new := false } :=
  ⟨rd_of_regs_wr (s := s) rfl, Vector.getElem_set_self _⟩

theorem phvRead_runs (s : State) (i : Fin 12) : Runs (.sdmResRead (Fin.ofNat 62 (48 + i.val))) s (fun t =>
    t.rd (Reg.SDM.PHV_INFO.addr i.val) = s.phv[i].info ∧ t.phv[i] = { s.phv[i] with new := false }) :=
  ⟨_, sdmResRead_phv_next s i, phvRead_shows s i⟩

/-- The result of DCL_A has been read (R112). -/
def State.dclARead (s : State) : State :=
  { s.wr Reg.SDM.DCL_A_INFO.addr s.dcl.a.info with dcl := { s.dcl with a := { s.dcl.a with new := false } } }

/-- The result of DCL_B has been read (R112). -/
def State.dclBRead (s : State) : State :=
  { s.wr Reg.SDM.DCL_B_INFO.addr s.dcl.b.info with dcl := { s.dcl with b := { s.dcl.b with new := false } } }

theorem dclARead_runs (s : State) : Runs (.sdmResRead 60) s (fun t =>
    t.rd Reg.SDM.DCL_A_INFO.addr = s.dcl.a.info ∧ t.dcl.a = { s.dcl.a with new := false }) := by
  refine ⟨s.dclARead, rfl, rd_of_regs_wr (s := s) ?_, ?_⟩ <;> rw [State.dclARead]

theorem dclBRead_runs (s : State) : Runs (.sdmResRead 61) s (fun t =>
    t.rd Reg.SDM.DCL_B_INFO.addr = s.dcl.b.info ∧ t.dcl.b = { s.dcl.b with new := false }) := by
  refine ⟨s.dclBRead, rfl, rd_of_regs_wr (s := s) ?_, ?_⟩ <;> rw [State.dclBRead]

/-- Every register that an SDM_RESULT may move. -/
theorem sdmResult_regs {k : Fin 60} {bitsA bitsB : List Bool} {g d : Bool} {cycle : Nat}
    (h : exec (.sdmResult k bitsA bitsB g d cycle) s = .next t) :
    ∃ l, s.regsBut (agreeRegs ++ l) t ∧ (l = [] ∨ (∃ m, l = filterRegs m) ∨ ∃ i, l = phvRegs i) := by
  have hfix (l : List Nat) : s.regsBut (agreeRegs ++ l) (s.agreeFix d) :=
    (agreeFix_regsBut s d).mono fun _ => List.mem_append_left l
  obtain rfl | ⟨m, rfl⟩ | ⟨i, rfl⟩ := sdmResult_inv h
  · exact ⟨[], regsBut_refl, .inl rfl⟩
  · exact ⟨_, (hfix _).trans ((filterResult_regsBut _ m bitsA bitsB g cycle).mono fun _ => List.mem_append_right _),
      .inr (.inl ⟨m, rfl⟩)⟩
  · exact ⟨_, (hfix _).trans ((phvResult_regsBut _ i bitsA cycle).mono fun _ => List.mem_append_right _), .inr (.inr ⟨i, rfl⟩)⟩

/-- INFO and RAW of a filter stand through every SDM_RESULT: a result writes RES alone (R112). -/
theorem latched_of_sdmResult {k : Fin 60} {bitsA bitsB : List Bool} {g d : Bool} {cycle : Nat}
    (h : exec (.sdmResult k bitsA bitsB g d cycle) s = .next t) (n : Fin 48) :
    t.rd (Reg.SDM.F.INFO.addr n.val) = s.rd (Reg.SDM.F.INFO.addr n.val) ∧
    t.rd (Reg.SDM.F.RAW.addr n.val) = s.rd (Reg.SDM.F.RAW.addr n.val) := by
  obtain ⟨l, hregs, hl⟩ := sdmResult_regs h
  have hfix : Reg.SDM.F.INFO.addr n.val ∉ agreeRegs ∧ Reg.SDM.F.RAW.addr n.val ∉ agreeRegs :=
    ⟨notMem_agreeRegs (.inr (by simp only [Reg.SDM.F.INFO.addr]; omega)),
      notMem_agreeRegs (.inr (by simp only [Reg.SDM.F.RAW.addr]; omega))⟩
  have hres : Reg.SDM.F.INFO.addr n.val ∉ l ∧ Reg.SDM.F.RAW.addr n.val ∉ l := by
    rcases hl with rfl | ⟨m, rfl⟩ | ⟨i, rfl⟩
    · exact ⟨List.not_mem_nil, List.not_mem_nil⟩
    · simp only [filterRegs, causeWords, List.map_cons, List.map_nil, List.mem_cons, List.not_mem_nil, or_false,
        Reg.SDM.F.INFO.addr, Reg.SDM.F.RAW.addr, Reg.SDM.F.RES.addr, Reg.INT.GRP.CAUSE.addr]
      omega
    · simp only [phvRegs, sourceRegs, causeWords, List.map_cons, List.map_nil, List.cons_append, List.nil_append, List.mem_cons,
        List.not_mem_nil, or_false, Reg.SDM.F.INFO.addr, Reg.SDM.F.RAW.addr, Reg.SDM.PHV_RES.addr, Reg.INT.GRP.CAUSE.addr,
        Reg.DRIVE.CHG.SRC_V.addr, Reg.DRIVE.CHG.STATUS.addr]
      omega
  obtain ⟨hinfoFix, hrawFix⟩ := hfix
  obtain ⟨hinfo, hraw⟩ := hres
  exact ⟨hregs _ (List.mem_append.not.mpr (not_or.mpr ⟨hinfoFix, hinfo⟩)),
    hregs _ (List.mem_append.not.mpr (not_or.mpr ⟨hrawFix, hraw⟩))⟩

end Sys2Proof.Machine

section
open Sys2Proof.Machine

/-- Settles O6: every result that a filter forms counts SEQ, whatever its bits say, and 0xFFFF + 1 is 0. -/
theorem sequenceNumbersCountResults : Obligations.SequenceNumbersCountResults := by
  unfold Obligations.SequenceNumbersCountResults
  intro s n bitsA bitsB g d cycle he hf
  obtain ⟨t, hnext, hformed, -⟩ := sdmResult_filter_runs (bitsA := bitsA) (bitsB := bitsB) (g := g) (d := d) (cycle := cycle) he hf
  refine ⟨t, hnext, hformed.seq, fun h => ?_⟩
  rw [hformed.seq, h]
  rfl

/-- Settles O5: only a read writes INFO and RAW of a filter, and it clears NEW of the result that it shows. -/
theorem latchedResultStays : Obligations.LatchedResultStays := by
  unfold Obligations.LatchedResultStays
  intro s t n h
  obtain rfl : s.filterRead n = t := Host.Outcome.next.inj ((sdmResRead_filter_next s n).symm.trans h)
  obtain ⟨hinfo, hraw, hch⟩ := filterRead_shows s n
  refine ⟨hinfo, hraw, fun k bitsA bitsB g d cycle u hu => latched_of_sdmResult hu n, fun u hu => ?_⟩
  obtain rfl : (s.filterRead n).filterRead n = u := Host.Outcome.next.inj ((sdmResRead_filter_next _ n).symm.trans hu)
  rw [(filterRead_shows _ n).1, hch]

end
end

section
/-! Host writes to GAIN and to the DC-link thresholds (R14, R109, R122). -/

namespace Sys2Proof.Machine

variable {s t : State} {a : Nat}

/-! ## Writes in the SDM block -/

theorem any_opens_of_rw (h : (rowsAt a).any (fun r => decide (r.acc = .rw)) = true) :
    (rowsAt a).any (fun r => s.opens (blockOf a) r) = true := by
  obtain ⟨r, hr, hrw⟩ := List.any_eq_true.mp h
  exact List.any_eq_true.mpr ⟨r, hr, by rw [State.opens, hrw, Bool.true_or]⟩

theorem command_of_sdm (hb : blockOf a = 12) (env : HostEnv) (v : Word) : s.command env a v = none := by
  have hlow : ¬ 12 < 10 := by decide
  have hmid : 12 < 19 := by decide
  rw [State.command, hb, if_neg hlow, if_pos hmid, State.commandMid, hb]
  rfl

theorem storeReg_of_sdm (hb : blockOf a = 12) (v : Word) (ho : (rowsAt a).any (fun r => s.opens (blockOf a) r) = true) :
    s.storeReg a v = s.store a v := by
  have hg : s.guarded a (s.rawWord a v) = none := by
    rw [State.guarded, hb]
    rfl
  rw [hb] at ho
  rw [State.storeReg, hb, ho, hg]
  rfl

/-- A write to a register of the SDM with an open field is a store. -/
theorem exec_write_sdm (hb : blockOf a = 12) (ho : (rowsAt a).any (fun r => s.opens (blockOf a) r) = true) (env : HostEnv) (v : Word) :
    exec (.registerWrite a v env) s = .next (s.store a v) :=
  exec_registerWrite ((writeReg_of_no_command (command_of_sdm hb env v) ho).trans (storeReg_of_sdm hb v ho))

theorem envelope_of_sdm (hb : blockOf a = 12) : s.envelope a = s.raise ⟨21, 21⟩ := by
  rw [State.envelope, hb]
  rfl

/-! ## GAIN -/

theorem rowsAt_gain : ∀ n : Fin 48, ∃ r,
    rowsAt (Reg.SDM.F.GAIN.addr n.val) = [r] ∧ r.acc = .rw ∧ r.lsb = 0 ∧ r.width = 32 ∧ r.kind = .f32norm := by
  have h : ∀ n : Fin 48, (rowsAt (Reg.SDM.F.GAIN.addr n.val)).map (fun r => (r.acc, r.lsb, r.width, r.kind)) =
      [(.rw, 0, 32, .f32norm)] := by decide +kernel
  intro n
  obtain ⟨r, hr, hv⟩ := List.map_eq_singleton_iff.mp (h n)
  simp only [Prod.mk.injEq] at hv
  exact ⟨r, hr, hv⟩

theorem kindOf_above_pwm {r : FRow} (ha : Reg.PWM.LEG.CFG.addr 0 + 32 * 0x80 ≤ a) : s.kindOf a r = r.kind := by
  have hn : 32 ≤ (a - Reg.PWM.LEG.CFG.addr 0) / 0x80 := by
    rw [Nat.le_div_iff_mul_le (by decide)]
    omega
  unfold State.kindOf
  simp only [hn, if_true]

theorem normJudge_refuses {v : Word} (hv : (fZero? v || fSub? v || fNaN? v) = true) : FKind.judge .f32norm v.toNat = .refuse := by
  have hor : (fNaN? v || fSub? v || fZero? v) = true := by
    rw [← hv]; ac_rfl
  simp only [FKind.judge, BitVec.ofNat_toNat, BitVec.setWidth_eq, hor, if_true]

theorem judge_of_refuse {r : FRow} {x : Nat} (h : (s.kindOf a r).judge x = .refuse) : s.judge a r x = .refuse := by
  conv in State.judge => delta State.judge
  rw [h]

theorem judge_norm_refuses {r : FRow} {v : Word} (hw : r.kind = .f32norm) (ha : Reg.PWM.LEG.CFG.addr 0 + 32 * 0x80 ≤ a)
    (hv : (fZero? v || fSub? v || fNaN? v) = true) : s.judge a r v.toNat = .refuse := by
  refine judge_of_refuse ?_
  rw [kindOf_above_pwm ha, hw, normJudge_refuses hv]

/-- A zero, a subnormal or a NaN written to GAIN comes to ENVELOPE alone (R109). -/
theorem gainWrite_refused (n : Fin 48) {v : Word} (hv : (fZero? v || fSub? v || fNaN? v) = true) (env : HostEnv) :
    exec (.registerWrite (Reg.SDM.F.GAIN.addr n.val) v env) s = .next (s.raise ⟨21, 21⟩) := by
  obtain ⟨r, hrows, hacc, hlsb, hwidth, hkind⟩ := rowsAt_gain n
  have hb : blockOf (Reg.SDM.F.GAIN.addr n.val) = 12 := by simp only [blockOf, Reg.SDM.F.GAIN.addr]; omega
  have hopen : s.opens (blockOf (Reg.SDM.F.GAIN.addr n.val)) r = true := by rw [State.opens, hacc]; rfl
  have ho : (rowsAt (Reg.SDM.F.GAIN.addr n.val)).any (fun r => s.opens (blockOf (Reg.SDM.F.GAIN.addr n.val)) r) = true := by
    rw [hrows, List.any_cons, hopen, Bool.true_or]
  have hbits : getBits v r.lsb r.width = v.toNat := by
    rw [hlsb, hwidth, getBits, Nat.pow_zero, Nat.div_one, Nat.mod_eq_of_lt v.isLt]
  have hrefuse : ∃ p ∈ s.judgeAll (Reg.SDM.F.GAIN.addr n.val) v, p.2 = .refuse := by
    refine ⟨(r, .refuse), ?_, rfl⟩
    rw [State.judgeAll, hrows, List.filter_cons_of_pos hopen, List.map_cons, hbits,
      judge_norm_refuses hkind (by simp only [Reg.PWM.LEG.CFG.addr, Reg.SDM.F.GAIN.addr]; omega) hv]
    exact List.mem_cons_self ..
  rw [exec_write_sdm hb ho, store_of_refuse ho hrefuse, envelope_of_sdm hb]

/-! ## The thresholds of the DC link -/

/-- One of the three registers of the DC-link thresholds (R122). -/
def thrReg (a : Nat) : Prop := a = Reg.SDM.DCL_OV0.addr ∨ a = Reg.SDM.DCL_OV1.addr ∨ a = Reg.SDM.DCL_UV.addr

theorem blockOf_thr (h : thrReg a) : blockOf a = 12 := by
  rcases h with rfl | rfl | rfl <;> decide

theorem opens_thr (h : thrReg a) : (rowsAt a).any (fun r => s.opens (blockOf a) r) = true := by
  apply any_opens_of_rw
  rcases h with rfl | rfl | rfl <;> decide +kernel

theorem joint_thr (h : thrReg a) : s.joint a = if s.sdmOrder then .ok else .other ⟨22, 9⟩ := by
  have hmem : [Reg.SDM.DCL_OV0.addr, Reg.SDM.DCL_OV1.addr, Reg.SDM.DCL_UV.addr].contains a = true := by
    rcases h with rfl | rfl | rfl <;> decide
  rw [State.joint, blockOf_thr h]
  simp only [hmem, Bool.true_and]
  cases s.sdmOrder <;> rfl

theorem sdmEnabled_wr {x : Word} (h : a < 0x400c1000) (hphv : a ≠ Reg.SDM.PHV_CFG.addr) (hdcl : a ≠ Reg.SDM.DCL_CFG.addr) :
    s.sdmEnabled (s.wr a x) = s.wr a x := by
  have hflag {f : Fld} (hf : a ≠ f.addr) : ((s.wr a x).flag f && !s.flag f) = false := by
    rw [State.flag, State.get_wr_ne _ _ _ _ hf.symm]
    exact Bool.and_not_self _
  have hfilters : (List.range 48).any
      (fun n => (s.wr a x).flag (Reg.SDM.F.CFG.ENABLE n) && !s.flag (Reg.SDM.F.CFG.ENABLE n)) = false :=
    List.any_eq_false.mpr fun n _ => Bool.eq_false_iff.mp (hflag (by dsimp only; omega))
  rw [State.sdmEnabled]
  simp only [hflag (f := Reg.SDM.PHV_CFG.ENABLE) hphv, hflag (f := Reg.SDM.DCL_CFG.ENABLE) hdcl, hfilters, Bool.or_self,
    Bool.false_eq_true, if_false]

theorem afterStore_thr (h : thrReg a) (x : Word) : s.afterStore (s.wr a x) a = s.wr a x := by
  have henabled : s.sdmEnabled (s.wr a x) = s.wr a x := by
    rcases h with rfl | rfl | rfl <;> exact sdmEnabled_wr (by decide) (by decide) (by decide)
  have helem : (elemOf a (Reg.SDM.F.CMP_CFG.addr 0) 0x40 48).or (elemOf a (Reg.SDM.F.CFG.addr 0) 0x40 48) = none := by
    rcases h with rfl | rfl | rfl <;> decide
  rw [State.afterStore, blockOf_thr h]
  simp only [henabled, helem]

/-- What a write to a threshold register comes to (R122): a refusal of a field, of the order, or the store, with ENVELOPE where a field was
clamped. -/
theorem store_thr (h : thrReg a) (v : Word) : s.store a v =
    if (s.judgeAll a v).any (fun p => decide (p.2 = .refuse)) then s.raise ⟨21, 21⟩
    else if (s.wr a (storedWord (s.rd a) (s.judgeAll a v))).sdmOrder = false then s.raise ⟨22, 9⟩
    else if (s.judgeAll a v).all (fun p => p.2.inside) then s.wr a (storedWord (s.rd a) (s.judgeAll a v))
    else (s.wr a (storedWord (s.rd a) (s.judgeAll a v))).raise ⟨21, 21⟩ := by
  simp only [State.store, judgeAll_ne_nil (opens_thr h), Bool.false_eq_true, if_false, joint_thr h, afterStore_thr h,
    envelope_of_sdm (blockOf_thr h)]
  cases (s.wr a (storedWord (s.rd a) (s.judgeAll a v))).sdmOrder <;> rfl

theorem any_refuse_eq_false {l : List (FRow × Judged)} (h : ∀ p ∈ l, p.2 ≠ .refuse) :
    l.any (fun p => decide (p.2 = .refuse)) = false :=
  List.any_eq_false.mpr fun p hp hr => h p hp (of_decide_eq_true hr)

theorem sdmOrder_raise (c : Cause) (hc : c.grp < 64) : (s.raise c).sdmOrder = s.sdmOrder := by
  have hget (f : Fld) (hf : 0x40070000 ≤ f.addr) : (s.raise c).get f = s.get f :=
    State.get_raise _ _ _ (by simp only [Reg.INT.GRP.CAUSE.addr]; omega)
  simp (disch := decide) only [State.sdmOrder, hget]

/-- A write to a threshold register keeps the thresholds in order (R122). -/
theorem sdmOrder_store_thr (h : thrReg a) (v : Word) (hs : s.sdmOrder = true) : (s.store a v).sdmOrder = true := by
  rw [store_thr h]
  split_ifs with hrefuse horder hin
  · exact (sdmOrder_raise _ (by decide)).trans hs
  · exact (sdmOrder_raise _ (by decide)).trans hs
  · exact Bool.eq_true_of_not_eq_false horder
  · exact (sdmOrder_raise _ (by decide)).trans (Bool.eq_true_of_not_eq_false horder)

end Sys2Proof.Machine

section
open Sys2Proof.Machine

/-- Settles O55: a refused field sets ENVELOPE, a broken order THR_ORDER and no ENVELOPE beside it (log entry 37). -/
theorem refusedSensingWritesChangeNothing : Obligations.RefusedSensingWritesChangeNothing := by
  unfold Obligations.RefusedSensingWritesChangeNothing
  intro s env v
  refine ⟨fun n hv => ?_, fun a ha => ?_⟩
  · refine ⟨_, gainWrite_refused n hv env, regsBut_refl.raise (c := ⟨21, 21⟩) (by decide), State.causeSet_raise _ _ (by decide),
      fun b hb => ?_, State.raise_slots _ _⟩
    by_cases hlt : b < 32
    · rw [causeSet_raise_eq (c := ⟨21, 21⟩) (d := ⟨21, b⟩) hlt]
      simp [hb]
    · rw [causeBit_eq_false_of_le _ (Nat.le_of_not_lt hlt), causeBit_eq_false_of_le _ (Nat.le_of_not_lt hlt)]
  · have hexec := exec_write_sdm (s := s) (blockOf_thr ha) (opens_thr ha) env v
    refine ⟨fun hnr horder => ?_, fun hin horder => ?_, fun hs => ?_⟩
    · have hstore : s.store a v = s.raise ⟨22, 9⟩ := by
        rw [store_thr ha, any_refuse_eq_false hnr, if_neg Bool.false_ne_true, if_pos horder]
      exact ⟨_, hexec.trans (congrArg _ hstore), regsBut_refl.raise (c := ⟨22, 9⟩) (by decide),
        State.causeSet_raise _ _ (by decide)⟩
    · have hall : (s.judgeAll a v).all (fun p => p.2.inside) = true := List.all_eq_true.mpr hin
      rw [hexec, store_thr ha, any_refuse_eq_false (not_refuse_of_inside hall), if_neg Bool.false_ne_true, horder,
        if_neg Bool.true_eq_false.mp, if_pos hall]
    · have horder := sdmOrder_store_thr ha v hs
      exact ⟨_, hexec, of_decide_eq_true horder⟩

end
end

section
/-! Edge channels: their records and detail causes, the frames of a link, its loss, training and skew (R257 to R268, R281). -/

namespace Sys2Proof.Machine

variable {s t : State} {l : List Nat} {n : Fin 64}

/-! ## Registers -/

theorem State.regsBut.foldl {α : Type} {f : State → α → State} {as : List α} (h : s.regsBut l t)
    (hf : ∀ {u x}, s.regsBut l u → s.regsBut l (f u x)) : s.regsBut l (as.foldl f t) :=
  List.foldlRecOn as f h fun _ hu _ _ => hf hu

theorem State.regsBut.ite {c : Prop} [Decidable c] {u : State} (ht : s.regsBut l t) (hu : s.regsBut l u) :
    s.regsBut l (if c then t else u) := by
  split
  · exact ht
  · exact hu

theorem get_bump_same (s : State) (f : Fld) (h : f.lsb + f.width ≤ 32) :
    (s.bump f).get f = min (s.get f + 1) (2 ^ f.width - 1) := by
  have hpos : 0 < 2 ^ f.width := Nat.two_pow_pos _
  rw [State.bump, State.get_put_same _ _ _ h, Nat.mod_eq_of_lt (by omega)]

theorem flag_eq_of_get {f : Fld} (h : t.get f = s.get f) : t.flag f = s.flag f := by
  rw [State.flag, State.flag, h]

theorem flag_put_same (s : State) (a b v : Nat) (hb : b < 32) : (s.put ⟨a, b, 1⟩ v).flag ⟨a, b, 1⟩ = decide (v % 2 ≠ 0) := by
  rw [State.flag, State.get_put_same _ _ _ (show b + 1 ≤ 32 by omega)]
  rfl

/-! ## The record of a channel -/

theorem edge_setEdge (s : State) (n : Fin 64) (e : EdgeCh) : ∃ k, (s.setEdge n e).edge n = { e with flips := k } :=
  ⟨_, Vector.getElem_set_self _⟩

/-- A store that leaves the gate state counts no change of it (R116). -/
theorem edge_setEdge_of_gate {e : EdgeCh} (hg : e.out.gate = (s.edge n).out.gate) (hf : e.flips = (s.edge n).flips) :
    (s.setEdge n e).edge n = e := by
  have hself : (s.setEdge n e).edge n =
      { e with flips := if e.out.gate = (s.edge n).out.gate then (s.edge n).flips else (s.edge n).flips + 1 } :=
    Vector.getElem_set_self _
  rw [hself, if_pos hg, ← hf]

theorem setEdge_regs (s : State) (n : Fin 64) (e : EdgeCh) : (s.setEdge n e).regs = s.regs := rfl

theorem edge_congr (h : t.edges = s.edges) (n : Fin 64) : t.edge n = s.edge n := by
  rw [State.edge, State.edge, h]

theorem linkOff_of_lost (h : (s.edge n).lost = true) : s.linkOff n = true := by
  rw [State.linkOff, h]
  rfl

theorem edgeCmd_of_lost (h : (s.edge n).lost = true) : s.edgeCmd n = false := by
  unfold State.edgeCmd
  rw [linkOff_of_lost h]
  exact Bool.and_false _

/-! ## Detail causes -/

theorem edgeDetail_eq (s : State) (n : Fin 64) (d : Nat) :
    s.edgeDetail n d .real = (s.put ⟨Reg.EDGE.CH.CAUSE.addr n.val, d, 1⟩ 1).raise (edgeCause n (edgeSummary d)) := rfl

theorem edgeCause_grp (n : Fin 64) (b : Nat) : (edgeCause n b).grp = 12 + n.val / 8 := rfl

theorem edgeDetail_edges (s : State) (n : Fin 64) (d : Nat) : (s.edgeDetail n d .real).edges = s.edges := by
  rw [edgeDetail_eq, State.raise_edges]
  rfl

/-- The registers that a detail cause of channel n may move. -/
def detailRegs (n : Fin 64) : List Nat := [Reg.EDGE.CH.CAUSE.addr n.val, Reg.INT.GRP.CAUSE.addr (12 + n.val / 8)]

theorem edgeDetail_regsBut (s : State) (n : Fin 64) (d : Nat) : s.regsBut (detailRegs n) (s.edgeDetail n d .real) :=
  (regsBut_refl.put (f := ⟨Reg.EDGE.CH.CAUSE.addr n.val, d, 1⟩) (List.mem_cons_self ..)).raise
    (c := edgeCause n (edgeSummary d)) (List.mem_cons_of_mem _ (List.mem_cons_self ..))

theorem edgeCause_bit_lt (n : Fin 64) (d : Nat) : (edgeCause n (edgeSummary d)).bit < 32 := by
  have hb : edgeSummary d ≤ 3 := by
    unfold edgeSummary
    split_ifs <;> decide
  simp only [edgeCause]
  omega

theorem edgeBit_edgeDetail (s : State) (n : Fin 64) {d : Nat} (hd : d < 32) : (s.edgeDetail n d .real).edgeBit n d = true := by
  have hne : Reg.EDGE.CH.CAUSE.addr n.val ≠ Reg.INT.GRP.CAUSE.addr (edgeCause n (edgeSummary d)).grp := by
    simp only [edgeCause_grp, Reg.EDGE.CH.CAUSE.addr, Reg.INT.GRP.CAUSE.addr]; omega
  have hput : (s.put ⟨Reg.EDGE.CH.CAUSE.addr n.val, d, 1⟩ 1).rd (Reg.EDGE.CH.CAUSE.addr n.val) =
      setBits (s.rd (Reg.EDGE.CH.CAUSE.addr n.val)) d 1 1 := State.rd_wr_same _ _ _
  rw [State.edgeBit, edgeDetail_eq, State.rd_raise _ _ _ hne, hput, setBits_bit _ _ _ _ _ hd]
  simp

theorem causeSet_edgeDetail (s : State) (n : Fin 64) (d : Nat) :
    (s.edgeDetail n d .real).causeSet (edgeCause n (edgeSummary d)) = true :=
  State.causeSet_raise _ _ (edgeCause_bit_lt n d)

theorem edgeIf_edges (s : State) (b : Bool) (n : Fin 64) (d : Nat) : (s.edgeIf b n d).edges = s.edges := by
  cases b
  · rfl
  · exact edgeDetail_edges s n d

theorem edgeIf_regsBut (s : State) (b : Bool) (n : Fin 64) (d : Nat) : s.regsBut (detailRegs n) (s.edgeIf b n d) := by
  cases b
  · exact regsBut_refl
  · exact edgeDetail_regsBut s n d

/-- A register of the SDM, or one of an edge channel apart from its CAUSE, stands through a detail cause. -/
theorem notMem_detailRegs {a : Nat} (h : 0x400b0000 ≤ a) (hc : a ≠ Reg.EDGE.CH.CAUSE.addr n.val) : a ∉ detailRegs n := by
  simp only [detailRegs, List.mem_cons, List.not_mem_nil, or_false, Reg.INT.GRP.CAUSE.addr]
  omega

/-! ## Streams -/

theorem stuckFld_addr (k : Nat) : (stuckFld k).addr ∈ [Reg.SDM.STUCK0.addr, Reg.SDM.STUCK1.addr, Reg.SDM.STUCK2.addr] := by
  unfold stuckFld
  split_ifs <;> simp

theorem streamDown_edges (s : State) (k : Nat) : (s.streamDown k).edges = s.edges := by
  unfold State.streamDown
  split
  · rfl
  · exact State.raise_edges _ _

/-- The registers that a stream's end may move. -/
def streamRegs : List Nat := [Reg.SDM.STUCK0.addr, Reg.SDM.STUCK1.addr, Reg.SDM.STUCK2.addr, Reg.INT.GRP.CAUSE.addr 21]

theorem streamDown_regsBut (s : State) (k : Nat) : s.regsBut streamRegs (s.streamDown k) := by
  have hmem : (stuckFld k).addr ∈ streamRegs := List.mem_append_left [Reg.INT.GRP.CAUSE.addr 21] (stuckFld_addr k)
  exact .ite regsBut_refl ((regsBut_refl.put hmem).raise (c := ⟨21, 18⟩) (by decide))

theorem flag_stuckFld_put {k : Nat} (hk : k < 80) (s : State) (v : Nat) :
    (s.put (stuckFld k) v).flag (stuckFld k) = decide (v % 2 ≠ 0) := by
  obtain ⟨a, b, he, -, -, hb⟩ := stuckFld_eq k
  rw [he, flag_put_same _ _ _ _ (hb hk)]

theorem streamDown_sets {k : Nat} (hk : k < 80) (s : State) : (s.streamDown k).flag (stuckFld k) = true ∧
    (s.flag (stuckFld k) = false → (s.streamDown k).causeSet ⟨21, 18⟩ = true) := by
  unfold State.streamDown
  split
  case isTrue h => exact ⟨h, fun hf => absurd h (by rw [hf]; exact Bool.false_ne_true)⟩
  case isFalse =>
    obtain ⟨a, b, he, hlo, -⟩ := stuckFld_eq k
    have hget : ((s.put (stuckFld k) 1).raise ⟨21, 18⟩).flag (stuckFld k) = (s.put (stuckFld k) 1).flag (stuckFld k) :=
      flag_eq_of_get (State.get_raise _ _ _ (by rw [he]; simp only [Reg.INT.GRP.CAUSE.addr]; omega))
    exact ⟨hget.trans (flag_stuckFld_put hk s 1), fun _ => State.causeSet_raise _ _ (by decide)⟩

/-! ## Marking a side -/

/-- The interlock counts of the legs. -/
def legStats : List Nat := (List.range 32).map Reg.PWM.LEG.STATS.addr

theorem reforce_regsBut (s : State) : s.regsBut legStats s.reforce := by
  have hbump {u : State} {m : Fin 32} (h : s.regsBut legStats u) : s.regsBut legStats (u.bump (Reg.PWM.LEG.STATS.INTERLOCK m.val)) :=
    h.put (List.mem_map_of_mem (List.mem_range.mpr m.isLt))
  have hfollow : s.regsBut legStats ((List.finRange 32).foldl (fun t n => t.followForce n false) s) := by
    refine regsBut_refl.foldl fun {u x} hu => ?_
    unfold State.followForce
    dsimp only
    split
    · exact .ite hu (hu.of_regs rfl)
    · exact .ite (hu.of_regs rfl) hu
  have hepisodes : s.regsBut legStats (State.ilockEpisodes ((List.finRange 32).foldl (fun t n => t.followForce n false) s)) := by
    refine hfollow.foldl fun {u k} hu => ?_
    dsimp only
    split
    · exact hu
    · exact .ite (hbump (hu.of_regs rfl)) hu
  refine hepisodes.foldl fun {u k} hu => ?_
  unfold State.openBlank
  dsimp only
  exact .ite (hu.of_regs rfl) (hu.of_regs rfl)

theorem markSide_regsBut (s : State) (n : Fin 64) : s.regsBut (Reg.PWM.TRIP.FAILSIDE.addr :: legStats) (s.markSide n) :=
  .ite ((regsBut_refl.wr (List.mem_cons_self ..)).trans ((reforce_regsBut _).mono fun _ => List.mem_cons_of_mem _)) regsBut_refl

theorem markSide_edges (s : State) (n : Fin 64) : (s.markSide n).edges = s.edges := by
  unfold State.markSide
  dsimp only
  split
  · exact (StageKept.refl _).reforce.edges
  · rfl

/-- A register of a later block stands through the marking of a side, and a CAUSE word does. -/
theorem notMem_markRegs {a : Nat} (h : 0x400b0000 ≤ a ∨ a < 0x40070000) : a ∉ Reg.PWM.TRIP.FAILSIDE.addr :: legStats := by
  simp only [legStats, List.mem_cons, List.mem_map, List.mem_range, not_or, not_exists, not_and, Reg.PWM.TRIP.FAILSIDE.addr,
    Reg.PWM.LEG.STATS.addr]
  exact ⟨by omega, fun x hx => by omega⟩

/-! ## The output stage -/

/-- A command to turn on finds the output ready (R258, R267, R285, R289). -/
def stageReady (e : EdgeCh) : Prop := e.out = .off ∧ e.latch = false ∧ e.holdoff = false ∧ e.powered = true

/-- The record of a channel whose output turns on, with its new strengths and protection values (R257, R285). -/
def State.turnedOn (s : State) (n : Fin 64) : EdgeCh :=
  { s.newProt n (s.newStrength n (s.edge n)) with out := .on, blank := true, ocOver := false, dsOver := false, ended := false }

/-- The record of a channel whose output turns off, its thermal actions on their way (R287, R288). -/
def State.turnedOff (s : State) (n : Fin 64) : EdgeCh :=
  { s.newStrength n (s.edge n) with
    out := .off, blank := false, ocOver := false, dsOver := false
    flags := (s.edge n).flags ++ (s.edge n).thermal.map (fun d => (d, false))
    ended := (s.edge n).ended || decide ((s.edge n).thermal ≠ []), thermal := [] }

theorem stageOn_of_ready (h : stageReady (s.edge n)) : s.stageOn n = s.setEdge n (s.turnedOn n) := if_pos h

theorem stageOn_of_not_ready (h : ¬ stageReady (s.edge n)) : s.stageOn n = s := if_neg h

theorem stageOff_of_on (h : (s.edge n).out = .on) : s.stageOff n = s.setEdge n (s.turnedOff n) := if_pos h

theorem stageOff_of_not_on (h : (s.edge n).out ≠ .on) : s.stageOff n = s := if_neg h

theorem stageOff_out (s : State) (n : Fin 64) :
    ((s.stageOff n).edge n).out = if (s.edge n).out = .on then .off else (s.edge n).out := by
  by_cases h : (s.edge n).out = .on
  · obtain ⟨k, hk⟩ := edge_setEdge s n (s.turnedOff n)
    rw [stageOff_of_on h, hk, if_pos h]
    rfl
  · rw [stageOff_of_not_on h, if_neg h]

/-- What the controller end places in a channel's record: the command, the hold-off and the RELEASE to come. -/
def sameCommand (e f : EdgeCh) : Prop := f.cmdOn = e.cmdOn ∧ f.holdoff = e.holdoff ∧ f.releaseDue = e.releaseDue

theorem sameCommand_refl (e : EdgeCh) : sameCommand e e := ⟨rfl, rfl, rfl⟩

theorem sameCommand_setEdge {e : EdgeCh} (h : sameCommand (s.edge n) e) : sameCommand (s.edge n) ((s.setEdge n e).edge n) := by
  obtain ⟨k, hk⟩ := edge_setEdge s n e
  rw [hk]
  exact h

theorem stageOn_keeps (s : State) (n : Fin 64) : sameCommand (s.edge n) ((s.stageOn n).edge n) ∧ (s.stageOn n).regs = s.regs := by
  by_cases h : stageReady (s.edge n)
  · rw [stageOn_of_ready h]
    exact ⟨sameCommand_setEdge ⟨rfl, rfl, rfl⟩, rfl⟩
  · rw [stageOn_of_not_ready h]
    exact ⟨sameCommand_refl _, rfl⟩

theorem stageOff_keeps (s : State) (n : Fin 64) : sameCommand (s.edge n) ((s.stageOff n).edge n) ∧ (s.stageOff n).regs = s.regs := by
  by_cases h : (s.edge n).out = .on
  · rw [stageOff_of_on h]
    exact ⟨sameCommand_setEdge ⟨rfl, rfl, rfl⟩, rfl⟩
  · rw [stageOff_of_not_on h]
    exact ⟨sameCommand_refl _, rfl⟩

/-! ## Interlock episodes at the controller end -/

/-- The registers that the interlock episodes of a channel may move. -/
def episodeRegs : List Nat :=
  (List.range 64).map Reg.EDGE.CH.LINKSTAT1.addr ++ ((List.range 64).map Reg.EDGE.CH.CAUSE.addr ++
    (List.range 8).map (fun k => Reg.INT.GRP.CAUSE.addr (12 + k)))

theorem detailRegs_subset (m : Fin 64) : ∀ a ∈ detailRegs m, a ∈ episodeRegs := by
  intro a ha
  simp only [detailRegs, List.mem_cons, List.not_mem_nil, or_false] at ha
  rcases ha with rfl | rfl
  · exact List.mem_append_right _ (List.mem_append_left _ (List.mem_map_of_mem (List.mem_range.mpr m.isLt)))
  · exact List.mem_append_right _ (List.mem_append_right _
      (List.mem_map_of_mem (f := fun k => Reg.INT.GRP.CAUSE.addr (12 + k)) (List.mem_range.mpr (by omega))))

/-- Episodes leave the channels' records and every register but their counts and causes. -/
theorem linkEpisodes_keeps (s : State) (n : Fin 64) :
    (s.linkEpisodes n).edges = s.edges ∧ s.regsBut episodeRegs (s.linkEpisodes n) := by
  refine List.foldlRecOn (motive := fun t : State => t.edges = s.edges ∧ s.regsBut episodeRegs t) _ _ ⟨rfl, regsBut_refl⟩ ?_
  rintro t ⟨hedges, hregs⟩ k -
  split
  · exact ⟨hedges, hregs⟩
  · split
    · exact ⟨hedges, hregs⟩
    · refine List.foldlRecOn (motive := fun t : State => t.edges = s.edges ∧ s.regsBut episodeRegs t) _ _
        ⟨hedges, hregs.of_regs rfl⟩ ?_
      rintro u ⟨hedges, hregs⟩ m -
      refine ⟨(edgeDetail_edges _ m 12).trans hedges, ?_⟩
      have hcount : s.regsBut episodeRegs (u.bump (Reg.EDGE.CH.LINKSTAT1.ILOCK m.val)) :=
        hregs.put (List.mem_append_left _ (List.mem_map_of_mem (List.mem_range.mpr m.isLt)))
      exact hcount.trans ((edgeDetail_regsBut _ m 12).mono (detailRegs_subset m))

/-- DRIVE to LINKSTAT0 of a channel stand through the episodes. -/
theorem notMem_episodeRegs {a : Nat} (h : Reg.EDGE.CH.DRIVE.addr n.val ≤ a ∧ a ≤ Reg.EDGE.CH.LINKSTAT0.addr n.val) :
    a ∉ episodeRegs := by
  simp only [episodeRegs, List.mem_append, List.mem_map, List.mem_range, not_or, not_exists, not_and, Reg.EDGE.CH.LINKSTAT1.addr,
    Reg.EDGE.CH.CAUSE.addr, Reg.INT.GRP.CAUSE.addr, Reg.EDGE.CH.DRIVE.addr, Reg.EDGE.CH.LINKSTAT0.addr] at h ⊢
  exact ⟨fun x _ => by omega, fun x _ => by omega, fun x _ => by omega⟩

/-! ## Frames -/

/-- The record of a channel that takes a frame: RELEASE ends a hold-off (R267). -/
def EdgeCh.taken (e : EdgeCh) (on : Bool) : EdgeCh :=
  { e with holdoff := e.holdoff && !e.releaseDue, releaseDue := false, cmdOn := on }

/-- A good downlink frame is taken, before the output stage follows it (R260, R267). -/
def State.linkTaken (s : State) (n : Fin 64) : State :=
  (s.linkEpisodes n).setEdge n (((s.linkEpisodes n).edge n).taken ((s.linkEpisodes n).edgeCmd n))

theorem edge_linkTaken (s : State) (n : Fin 64) : (s.linkTaken n).edge n = (s.edge n).taken ((s.linkEpisodes n).edgeCmd n) := by
  have he : (s.linkEpisodes n).edge n = s.edge n := edge_congr (linkEpisodes_keeps s n).1 n
  rw [State.linkTaken, edge_setEdge_of_gate (e := EdgeCh.taken _ _) rfl rfl, he]

theorem linkTaken_regs (s : State) (n : Fin 64) : (s.linkTaken n).regs = (s.linkEpisodes n).regs := rfl

theorem downlink_good_next (ha : s.alive n = true) (hl : (s.edge n).link ≠ 0) (changed : Bool) :
    exec (.downlinkFrame n true changed) s = .next (if (s.linkEpisodes n).edgeCmd n then (s.linkTaken n).stageOn n
      else (s.linkTaken n).stageOff n) := by
  show execDownlinkFrame _ _ _ _ = _
  unfold execDownlinkFrame
  simp only [ha, hl, Bool.not_true, Bool.false_eq_true, or_self, if_false, if_true]
  rfl

/-- The state after a good frame: the output stage follows the command. -/
def State.linkFollowed (s : State) (n : Fin 64) : State :=
  if (s.linkEpisodes n).edgeCmd n then (s.linkTaken n).stageOn n else (s.linkTaken n).stageOff n

theorem linkFollowed_keeps (s : State) (n : Fin 64) :
    sameCommand ((s.edge n).taken ((s.linkEpisodes n).edgeCmd n)) ((s.linkFollowed n).edge n) ∧
    (s.linkFollowed n).regs = (s.linkEpisodes n).regs := by
  rw [← edge_linkTaken, State.linkFollowed]
  split
  · exact stageOn_keeps _ n
  · exact stageOff_keeps _ n

theorem alive_powered (h : s.alive n = true) : (s.edge n).powered = true := (Bool.and_eq_true_iff.mp h).2

/-- An on command turns a ready output on, with the strengths and protection values of its registers (R257, R285). -/
theorem linkFollowed_on (ha : s.alive n = true) (hc : (s.linkEpisodes n).edgeCmd n = true) (ho : (s.edge n).out = .off)
    (hlatch : (s.edge n).latch = false) (hh : (s.edge n).holdoff = false ∨ (s.edge n).releaseDue = true) :
    ((s.linkFollowed n).edge n).out = .on ∧ ((s.linkFollowed n).edge n).blank = true ∧
    ((s.linkFollowed n).edge n).prot0 = s.rd (Reg.EDGE.CH.PROT0.addr n.val) ∧
    ((s.linkFollowed n).edge n).prot1 = s.rd (Reg.EDGE.CH.PROT1.addr n.val) ∧
    ((s.linkFollowed n).edge n).prot2 = s.rd (Reg.EDGE.CH.PROT2.addr n.val) ∧
    ((s.linkFollowed n).edge n).onStr = s.get (Reg.EDGE.CH.DRIVE.ON_STR n.val) := by
  have hready : stageReady ((s.linkTaken n).edge n) := by
    rw [edge_linkTaken]
    refine ⟨ho, hlatch, ?_, alive_powered ha⟩
    show ((s.edge n).holdoff && !(s.edge n).releaseDue) = false
    rcases hh with h | h
    · rw [h, Bool.false_and]
    · rw [h, Bool.not_true, Bool.and_false]
  have hrd {a : Nat} (h : Reg.EDGE.CH.DRIVE.addr n.val ≤ a ∧ a ≤ Reg.EDGE.CH.LINKSTAT0.addr n.val) :
      (s.linkTaken n).rd a = s.rd a :=
    (State.rd_congr (linkTaken_regs s n) a).trans ((linkEpisodes_keeps s n).2 a (notMem_episodeRegs h))
  have hstr : (s.linkTaken n).get (Reg.EDGE.CH.DRIVE.ON_STR n.val) = s.get (Reg.EDGE.CH.DRIVE.ON_STR n.val) := by
    rw [State.get, State.get, hrd ⟨by simp, by simp⟩]
  obtain ⟨k, hk⟩ := edge_setEdge (s.linkTaken n) n ((s.linkTaken n).turnedOn n)
  rw [State.linkFollowed, if_pos hc, stageOn_of_ready hready, hk]
  exact ⟨rfl, rfl, hrd ⟨by simp, by simp⟩, hrd ⟨by simp, by simp⟩, hrd ⟨by simp, by simp⟩, hstr⟩

/-- An on command leaves an output that is not off, that is latched or held off (R267, R289). -/
theorem linkFollowed_not_ready (hc : (s.linkEpisodes n).edgeCmd n = true)
    (h : (s.edge n).out ≠ .off ∨ (s.edge n).latch = true ∨ ((s.edge n).holdoff = true ∧ (s.edge n).releaseDue = false)) :
    ((s.linkFollowed n).edge n).out = (s.edge n).out := by
  have hnot : ¬ stageReady ((s.linkTaken n).edge n) := by
    rw [edge_linkTaken]
    rintro ⟨ho, hl, hh, -⟩
    rcases h with h | h | ⟨h, hr⟩
    · exact h ho
    · exact Bool.false_ne_true (hl.symm.trans h)
    · have hh' : ((s.edge n).holdoff && !(s.edge n).releaseDue) = false := hh
      rw [h, hr] at hh'
      exact Bool.false_ne_true hh'.symm
  rw [State.linkFollowed, if_pos hc, stageOn_of_not_ready hnot, edge_linkTaken]
  rfl

theorem linkFollowed_off (hc : (s.linkEpisodes n).edgeCmd n = false) :
    ((s.linkFollowed n).edge n).out = if (s.edge n).out = .on then .off else (s.edge n).out := by
  rw [State.linkFollowed, if_neg (by rw [hc]; exact Bool.false_ne_true), stageOff_out, edge_linkTaken]
  rfl

theorem downlink_good_runs (ha : s.alive n = true) (hl : (s.edge n).link ≠ 0) (changed : Bool) :
    Runs (.downlinkFrame n true changed) s (fun t =>
      (t.edge n).cmdOn = (s.linkEpisodes n).edgeCmd n ∧ (t.edge n).releaseDue = false ∧
      (t.edge n).holdoff = ((s.edge n).holdoff && !(s.edge n).releaseDue) ∧ t.regs = (s.linkEpisodes n).regs ∧
      ((s.linkEpisodes n).edgeCmd n = true → (s.edge n).out = .off → (s.edge n).latch = false →
        ((s.edge n).holdoff = false ∨ (s.edge n).releaseDue = true) → (t.edge n).out = .on ∧ (t.edge n).blank = true ∧
          (t.edge n).prot0 = s.rd (Reg.EDGE.CH.PROT0.addr n.val) ∧ (t.edge n).prot1 = s.rd (Reg.EDGE.CH.PROT1.addr n.val) ∧
          (t.edge n).prot2 = s.rd (Reg.EDGE.CH.PROT2.addr n.val) ∧ (t.edge n).onStr = s.get (Reg.EDGE.CH.DRIVE.ON_STR n.val)) ∧
      ((s.linkEpisodes n).edgeCmd n = true → (s.edge n).out ≠ .off ∨ (s.edge n).latch = true ∨
        ((s.edge n).holdoff = true ∧ (s.edge n).releaseDue = false) → (t.edge n).out = (s.edge n).out) ∧
      ((s.linkEpisodes n).edgeCmd n = false → (t.edge n).out = if (s.edge n).out = .on then .off else (s.edge n).out)) := by
  obtain ⟨⟨hcmd, hhold, hrel⟩, hregs⟩ := linkFollowed_keeps s n
  exact ⟨_, downlink_good_next ha hl changed, hcmd, hrel, hhold, hregs, linkFollowed_on ha, linkFollowed_not_ready, linkFollowed_off⟩

/-! ## Bad frames -/

/-- A bad frame is counted in LINKSTAT0 (R261). -/
def State.frameMissed (s : State) (n : Fin 64) (late : Bool) : State :=
  if late then (s.bump (Reg.EDGE.CH.LINKSTAT0.CRC_ERRS n.val)).bump (Reg.EDGE.CH.LINKSTAT0.LATE_EDGES n.val)
  else s.bump (Reg.EDGE.CH.LINKSTAT0.CRC_ERRS n.val)

/-- A bad frame is counted in the window of its link (R263). -/
def EdgeCh.missed (e : EdgeCh) : EdgeCh := { e with crcWin := e.crcWin + 1 }

theorem badFrame_eq (s : State) (n : Fin 64) (late : Bool) : s.badFrame n late =
    ((s.frameMissed n late).setEdge n ((s.frameMissed n late).edge n).missed).edgeIf
      (decide (((s.frameMissed n late).edge n).crcWin + 1 = 1001)) n 11 := rfl

theorem frameMissed_edge (s : State) (n : Fin 64) (late : Bool) : (s.frameMissed n late).edge n = s.edge n := by
  cases late <;> rfl

theorem frameMissed_counts (s : State) (n : Fin 64) (late : Bool) :
    (s.frameMissed n late).get (Reg.EDGE.CH.LINKSTAT0.CRC_ERRS n.val) = min (s.get (Reg.EDGE.CH.LINKSTAT0.CRC_ERRS n.val) + 1) 65535 ∧
    (s.frameMissed n late).get (Reg.EDGE.CH.LINKSTAT0.LATE_EDGES n.val) =
      if late then min (s.get (Reg.EDGE.CH.LINKSTAT0.LATE_EDGES n.val) + 1) 65535
      else s.get (Reg.EDGE.CH.LINKSTAT0.LATE_EDGES n.val) := by
  have hcrc := get_bump_same s (Reg.EDGE.CH.LINKSTAT0.CRC_ERRS n.val) (by simp)
  have hlate := State.get_bump_ne s (Reg.EDGE.CH.LINKSTAT0.CRC_ERRS n.val) (Reg.EDGE.CH.LINKSTAT0.LATE_EDGES n.val) (.inr (by simp))
  cases late
  · exact ⟨hcrc, hlate⟩
  · refine ⟨(State.get_bump_ne _ _ _ (.inr (by simp))).trans hcrc, ?_⟩
    exact (get_bump_same _ (Reg.EDGE.CH.LINKSTAT0.LATE_EDGES n.val) (by simp)).trans (by rw [hlate]; rfl)

theorem badFrame_edge (s : State) (n : Fin 64) (late : Bool) : (s.badFrame n late).edge n = (s.edge n).missed := by
  rw [badFrame_eq, edge_congr (edgeIf_edges _ _ _ _), edge_setEdge_of_gate (e := EdgeCh.missed _) rfl rfl, frameMissed_edge]

theorem badFrame_get (s : State) (n : Fin 64) (late : Bool) {f : Fld} (hf : f.addr = Reg.EDGE.CH.LINKSTAT0.addr n.val) :
    (s.badFrame n late).get f = (s.frameMissed n late).get f := by
  have hmem : f.addr ∉ detailRegs n := by
    rw [hf]
    exact notMem_detailRegs (by simp only [Reg.EDGE.CH.LINKSTAT0.addr]; omega)
      (by simp only [Reg.EDGE.CH.LINKSTAT0.addr, Reg.EDGE.CH.CAUSE.addr]; omega)
  rw [badFrame_eq, (edgeIf_regsBut _ _ n 11).get hmem, State.get_congr (setEdge_regs _ _ _)]

/-- The 1,001st bad frame of a window sets LINK_CRC (R263). -/
theorem badFrame_linkCrc (h : (s.edge n).crcWin = 1000) (late : Bool) :
    (s.badFrame n late).edgeBit n 11 = true ∧ (s.badFrame n late).causeSet (edgeCause n (edgeSummary 11)) = true := by
  rw [badFrame_eq, frameMissed_edge, h]
  exact ⟨edgeBit_edgeDetail _ n (by decide), causeSet_edgeDetail _ n 11⟩

theorem downlink_bad_runs (ha : s.alive n = true) (hl : (s.edge n).link ≠ 0) (changed : Bool) :
    Runs (.downlinkFrame n false changed) s (fun t =>
      t.get (Reg.EDGE.CH.LINKSTAT0.CRC_ERRS n.val) = min (s.get (Reg.EDGE.CH.LINKSTAT0.CRC_ERRS n.val) + 1) 65535 ∧
      t.get (Reg.EDGE.CH.LINKSTAT0.LATE_EDGES n.val) =
        (if changed then min (s.get (Reg.EDGE.CH.LINKSTAT0.LATE_EDGES n.val) + 1) 65535
         else s.get (Reg.EDGE.CH.LINKSTAT0.LATE_EDGES n.val)) ∧
      t.edge n = { s.edge n with crcWin := (s.edge n).crcWin + 1 } ∧
      ((s.edge n).crcWin = 1000 → t.edgeBit n 11 = true ∧ t.causeSet (edgeCause n (edgeSummary 11)) = true)) := by
  have hnext : exec (.downlinkFrame n false changed) s = .next ((s.linkEpisodes n).badFrame n changed) := by
    show execDownlinkFrame _ _ _ _ = _
    unfold execDownlinkFrame
    simp only [ha, hl, Bool.not_true, Bool.false_eq_true, or_self, if_false]
  obtain ⟨hedges, hregs⟩ := linkEpisodes_keeps s n
  have hget {f : Fld} (hf : f.addr = Reg.EDGE.CH.LINKSTAT0.addr n.val) : (s.linkEpisodes n).get f = s.get f :=
    hregs.get (notMem_episodeRegs (n := n) (by rw [hf]; exact ⟨by simp, Nat.le_refl _⟩))
  obtain ⟨hcrc, hlate⟩ := frameMissed_counts (s.linkEpisodes n) n changed
  rw [hget rfl] at hcrc hlate
  refine ⟨_, hnext, (badFrame_get _ n changed rfl).trans hcrc, (badFrame_get _ n changed rfl).trans hlate, ?_, fun h => ?_⟩
  · rw [badFrame_edge, edge_congr hedges]
    rfl
  · exact badFrame_linkCrc (by rw [edge_congr hedges, h]) changed

theorem uplink_bad_runs (ha : s.alive n = true) (hl : (s.edge n).link ≠ 0) (sns : BitVec 16) :
    Runs (.uplinkFrame n false sns) s (fun t =>
      t.get (Reg.EDGE.CH.LINKSTAT0.CRC_ERRS n.val) = min (s.get (Reg.EDGE.CH.LINKSTAT0.CRC_ERRS n.val) + 1) 65535 ∧
      t.edge n = { s.edge n with crcWin := (s.edge n).crcWin + 1 } ∧
      ((s.edge n).crcWin = 1000 → t.edgeBit n 11 = true)) := by
  have hnext : exec (.uplinkFrame n false sns) s = .next (s.badFrame n false) := by
    show execUplinkFrame _ _ _ _ = _
    unfold execUplinkFrame
    simp only [ha, hl, Bool.not_true, Bool.false_eq_true, or_self, if_false]
  exact ⟨_, hnext, (badFrame_get _ n false rfl).trans (frameMissed_counts s n false).1, badFrame_edge s n false,
    fun h => (badFrame_linkCrc h false).1⟩

/-- A good uplink frame shows current of a chopper switch above CHOP_ISENSE (R324). -/
theorem uplink_good_next (ha : s.alive n = true) (hl : (s.edge n).link ≠ 0) (sns : BitVec 16) :
    let shows := (s.get Reg.DRIVE.CHOP_ISENSE.ISENSE : Int) < sns.toInt ∧ (s.chanRec n.val).out = 0 ∧
      (s.chanRec n.val).sense % 2 = 1 ∧ (s.chLeg n).function ∈ [2, 3, 4] ∧ s.chop.waiting = true
    (shows → exec (.uplinkFrame n true sns) s = .next { s with chop := { s.chop with sensed := true } }) ∧
    (¬ shows → exec (.uplinkFrame n true sns) s = .next s) := by
  intro shows
  have hnext : exec (.uplinkFrame n true sns) s = if shows then .next { s with chop := { s.chop with sensed := true } } else .next s := by
    show execUplinkFrame _ _ _ _ = _
    unfold execUplinkFrame
    simp only [ha, hl, Bool.not_true, Bool.false_eq_true, or_self, if_false, if_true, shows, List.mem_cons, List.not_mem_nil, or_false,
      Bool.and_eq_true, decide_eq_true_eq, Bool.or_eq_true, beq_iff_eq, and_assoc, or_assoc]
  exact ⟨fun h => hnext.trans (if_pos h), fun h => hnext.trans (if_neg h)⟩

theorem frames_idle (h : s.alive n = false ∨ (s.edge n).link = 0) (good changed : Bool) (sns : BitVec 16) :
    exec (.downlinkFrame n good changed) s = .next s ∧ exec (.uplinkFrame n good sns) s = .next s := by
  have hc : (!s.alive n) = true ∨ (s.edge n).link = 0 := h.imp_left fun ha => by rw [ha]; rfl
  exact ⟨if_pos hc, if_pos hc⟩

/-! ## Loss, hold-off and training -/

/-- A link that is lost (R264). -/
def EdgeCh.cut (e : EdgeCh) : EdgeCh := { e with link := 4, lost := true }

/-- The link of a channel is lost, before the failed side is marked (R103, R264). -/
def State.linkCut (s : State) (n : Fin 64) : State :=
  ((s.setEdge n (s.edge n).cut).edgeDetail n 8 .real).streamDown n.val

theorem linkCut_runs (s : State) (n : Fin 64) : (s.linkCut n).edge n = (s.edge n).cut ∧ (s.linkCut n).edgeBit n 8 = true ∧
    (s.linkCut n).flag (stuckFld n.val) = true ∧ (s.flag (stuckFld n.val) = false → (s.linkCut n).causeSet ⟨21, 18⟩ = true) := by
  have hedge : ((s.setEdge n (s.edge n).cut).edgeDetail n 8 .real).edge n = (s.edge n).cut := by
    rw [edge_congr (edgeDetail_edges _ n 8), edge_setEdge_of_gate (e := EdgeCh.cut _) rfl rfl]
  obtain ⟨hstuck, hcause⟩ := streamDown_sets (k := n.val) (by omega) ((s.setEdge n (s.edge n).cut).edgeDetail n 8 .real)
  have hcauseWord : Reg.EDGE.CH.CAUSE.addr n.val ∉ streamRegs := by
    simp only [streamRegs, List.mem_cons, List.not_mem_nil, or_false, Reg.EDGE.CH.CAUSE.addr, Reg.SDM.STUCK0.addr,
      Reg.SDM.STUCK1.addr, Reg.SDM.STUCK2.addr, Reg.INT.GRP.CAUSE.addr]
    omega
  refine ⟨(edge_congr (streamDown_edges _ _) n).trans hedge, ?_, hstuck, fun h => hcause ?_⟩
  · rw [State.edgeBit, State.linkCut, streamDown_regsBut _ _ _ hcauseWord]
    exact edgeBit_edgeDetail _ n (by decide)
  · obtain ⟨a, b, he, hlo, -⟩ := stuckFld_eq n.val
    have hmem : (stuckFld n.val).addr ∉ detailRegs n := by
      rw [he]
      exact notMem_detailRegs (show 0x400b0000 ≤ a by omega) (by simp only [Reg.EDGE.CH.CAUSE.addr]; omega)
    exact ((edgeDetail_regsBut _ n 8).flag hmem).trans h

theorem linkCut_regsBut (s : State) (n : Fin 64) : s.regsBut (detailRegs n ++ streamRegs) (s.linkCut n) :=
  ((regsBut_refl.of_regs (setEdge_regs s n _)).trans ((edgeDetail_regsBut _ n 8).mono fun _ => List.mem_append_left _)).trans
    ((streamDown_regsBut _ _).mono fun _ => List.mem_append_right _)

theorem linkLoss_runs (ha : s.alive n = true) (h : (s.edge n).linked = true ∨ (s.edge n).link = 1) :
    Runs (.linkLoss n) s (fun t =>
      (t.edge n).link = 4 ∧ (t.edge n).lost = true ∧ t.edgeBit n 8 = true ∧ t.flag (stuckFld n.val) = true ∧
      (s.flag (stuckFld n.val) = false → t.causeSet ⟨21, 18⟩ = true) ∧ t.edgeCmd n = false) := by
  have hnext : exec (.linkLoss n) s = .next ((s.linkCut n).markSide n) := if_pos ⟨ha, h⟩
  obtain ⟨hedge, hbit, hstuck, hcause⟩ := linkCut_runs s n
  have hregs := markSide_regsBut (s.linkCut n) n
  have hedge' : ((s.linkCut n).markSide n).edge n = (s.edge n).cut := (edge_congr (markSide_edges _ n) n).trans hedge
  refine ⟨_, hnext, by rw [hedge']; rfl, by rw [hedge']; rfl, ?_, ?_, fun hs => ?_, edgeCmd_of_lost (by rw [hedge']; rfl)⟩
  · rw [State.edgeBit, hregs _ (notMem_markRegs (.inl (by simp only [Reg.EDGE.CH.CAUSE.addr]; omega)))]
    exact hbit
  · obtain ⟨a, b, he, hlo, -⟩ := stuckFld_eq n.val
    refine (hregs.flag (notMem_markRegs (.inl ?_))).trans hstuck
    rw [he]
    show 0x400b0000 ≤ a
    omega
  · exact (hregs.causeSet (c := ⟨21, 18⟩) (notMem_markRegs (.inr (by decide)))).trans (hcause hs)

theorem linkLoss_idle (h : s.alive n = false ∨ ((s.edge n).linked = false ∧ (s.edge n).link ≠ 1)) :
    exec (.linkLoss n) s = .next s := by
  refine if_neg ?_
  rintro ⟨ha, hl⟩
  rcases h with h | ⟨hl1, hl2⟩
  · exact Bool.false_ne_true (h.symm.trans ha)
  · exact hl.elim (fun h => Bool.false_ne_true (hl1.symm.trans h)) hl2

/-- A channel in its hold-off (R267). -/
def EdgeCh.held (e : EdgeCh) : EdgeCh := { e with holdoff := true, cmdOn := false }

theorem holdoff_runs (ha : s.alive n = true) : Runs (.holdoff n) s (fun t => (t.edge n).holdoff = true ∧ (t.edge n).cmdOn = false ∧
    (t.edge n).out = (if (s.edge n).out = .on then .off else (s.edge n).out) ∧ t.regs = s.regs) := by
  have hnext : exec (.holdoff n) s = .next ((s.setEdge n (s.edge n).held).stageOff n) := if_pos ha
  have hedge : (s.setEdge n (s.edge n).held).edge n = (s.edge n).held := edge_setEdge_of_gate (e := EdgeCh.held _) rfl rfl
  obtain ⟨⟨hcmd, hhold, -⟩, hregs⟩ := stageOff_keeps (s.setEdge n (s.edge n).held) n
  rw [hedge] at hcmd hhold
  refine ⟨_, hnext, hhold, hcmd, ?_, hregs⟩
  rw [stageOff_out, hedge]
  rfl

theorem holdoff_idle (h : s.alive n = false) : exec (.holdoff n) s = .next s := if_neg (by rw [h]; exact Bool.false_ne_true)

/-- The bits of a stream come to be fresh: of the state the clock of CLK_CTL and the filters may move. -/
theorem exists_streamUp (s : State) (k : Nat) : ∃ f x d, s.streamUp k = { s with freeCount := f, clk := x, sdm := d } := by
  obtain ⟨f, x, hx⟩ := exists_edgeNow s
  exact ⟨f, x, _, by rw [State.streamUp, State.ctlNow, hx]; rfl⟩

theorem streamUp_keeps (s : State) (k : Nat) : (s.streamUp k).edges = s.edges ∧ (s.streamUp k).regs = s.regs := by
  obtain ⟨f, x, d, h⟩ := exists_streamUp s k
  rw [h]
  exact ⟨rfl, rfl⟩

/-- A channel whose link has been trained (R263). -/
def EdgeCh.up (e : EdgeCh) : EdgeCh := { e with link := 2, crcWin := 0 }

theorem trained_edge (s : State) (n : Fin 64) : (s.trained n).edge n = (s.edge n).up := by
  rw [State.trained, edge_congr (streamUp_keeps _ _).1]
  exact edge_setEdge_of_gate (e := EdgeCh.up _) rfl rfl

theorem trained_regs (s : State) (n : Fin 64) : (s.trained n).regs = (s.bump (Reg.EDGE.CH.LINKSTAT1.RETRAINS n.val)).regs :=
  (streamUp_keeps _ _).2

theorem linkAutoRetrain_runs (ha : s.alive n = true) (hl : (s.edge n).link = 4) : Runs (.linkAutoRetrain n) s (fun t =>
    (t.edge n).link = 2 ∧ (t.edge n).crcWin = 0 ∧ (t.edge n).releaseDue = (s.edge n).releaseDue ∧
    t.get (Reg.EDGE.CH.LINKSTAT1.RETRAINS n.val) = min (s.get (Reg.EDGE.CH.LINKSTAT1.RETRAINS n.val) + 1) 255) := by
  have hnext : exec (.linkAutoRetrain n) s = .next (s.trained n) := if_pos ⟨ha, hl⟩
  have hedge := trained_edge s n
  refine ⟨_, hnext, by rw [hedge]; rfl, by rw [hedge]; rfl, by rw [hedge]; rfl, ?_⟩
  rw [State.get_congr (trained_regs s n), get_bump_same _ _ (by simp)]
  rfl

theorem linkAutoRetrain_idle (h : s.alive n = false ∨ (s.edge n).link ≠ 4) : exec (.linkAutoRetrain n) s = .next s := by
  refine if_neg ?_
  rintro ⟨ha, hl⟩
  exact h.elim (fun h => Bool.false_ne_true (h.symm.trans ha)) fun h => h hl

/-- A channel that is retrained no more (R268). -/
def EdgeCh.rested (e : EdgeCh) : EdgeCh := { e with retrain := false }

theorem rested_busy (e : EdgeCh) : e.rested.busy = e.selftest.isSome := Bool.or_false _

theorem b2n_mod_two (b : Bool) : b2n b % 2 = b2n b := by cases b <;> rfl

/-- A retrain ends: it runs no more and BUSY follows (R268, R387). -/
def State.retrainDone (s : State) (n : Fin 64) : State := State.edgeBusy (s.setEdge n (s.edge n).rested) n

theorem retrainDone_runs (s : State) (n : Fin 64) : (s.retrainDone n).edge n = (s.edge n).rested ∧
    (s.retrainDone n).get (Reg.EDGE.CH.CMD_STATUS.BUSY n.val) = b2n (s.edge n).selftest.isSome := by
  have hedge : (s.setEdge n (s.edge n).rested).edge n = (s.edge n).rested := edge_setEdge_of_gate (e := EdgeCh.rested _) rfl rfl
  refine ⟨hedge, ?_⟩
  rw [State.retrainDone, State.edgeBusy, State.get_put_same _ _ _ (by simp), hedge, rested_busy]
  exact b2n_mod_two _

/-- A channel that RELEASE is due to (R268). -/
def EdgeCh.released (e : EdgeCh) : EdgeCh := { e with releaseDue := true, lost := false }

theorem retrainEnd_ok_runs (h : (s.edge n).retrain = true) : Runs (.retrainEnd n true) s (fun t =>
    (t.edge n).retrain = false ∧ (t.edge n).link = 2 ∧ (t.edge n).releaseDue = true ∧ (t.edge n).lost = false ∧
    t.get (Reg.EDGE.CH.CMD_STATUS.BUSY n.val) = b2n (s.edge n).selftest.isSome) := by
  have hnext : exec (.retrainEnd n true) s =
      .next (((s.retrainDone n).trained n).setEdge n (((s.retrainDone n).trained n).edge n).released) := if_pos h
  obtain ⟨hdone, hbusy⟩ := retrainDone_runs s n
  have hedge := edge_setEdge_of_gate (s := (s.retrainDone n).trained n) (n := n) (e := EdgeCh.released _) rfl rfl
  rw [trained_edge, hdone] at hedge
  refine ⟨_, hnext, ?_⟩
  beta_reduce
  rw [trained_edge, hdone, hedge]
  refine ⟨rfl, rfl, rfl, rfl, ?_⟩
  rw [State.get_congr (setEdge_regs _ _ _), State.get_congr (trained_regs _ n), State.get_bump_ne _ _ _ (.inl (by simp)), hbusy]

theorem retrainEnd_fails_runs (h : (s.edge n).retrain = true) : Runs (.retrainEnd n false) s (fun t =>
    (t.edge n).retrain = false ∧ (t.edge n).link = 4 ∧ (t.edge n).lost = true ∧
    (t.edge n).releaseDue = (s.edge n).releaseDue ∧ t.edgeBit n 8 = true ∧ t.flag (stuckFld n.val) = true ∧
    t.get (Reg.EDGE.CH.CMD_STATUS.BUSY n.val) = b2n (s.edge n).selftest.isSome) := by
  have hnext : exec (.retrainEnd n false) s = .next ((s.retrainDone n).linkCut n) := if_pos h
  obtain ⟨hdone, hbusy⟩ := retrainDone_runs s n
  obtain ⟨hedge, hbit, hstuck, -⟩ := linkCut_runs (s.retrainDone n) n
  rw [hdone] at hedge
  have hmem : Reg.EDGE.CH.CMD_STATUS.addr n.val ∉ detailRegs n ++ streamRegs := by
    simp only [detailRegs, streamRegs, List.cons_append, List.nil_append, List.mem_cons, List.not_mem_nil, or_false,
      Reg.EDGE.CH.CMD_STATUS.addr, Reg.EDGE.CH.CAUSE.addr, Reg.INT.GRP.CAUSE.addr, Reg.SDM.STUCK0.addr, Reg.SDM.STUCK1.addr,
      Reg.SDM.STUCK2.addr]
    omega
  refine ⟨_, hnext, by rw [hedge]; rfl, by rw [hedge]; rfl, by rw [hedge]; rfl, by rw [hedge]; rfl, hbit, hstuck, ?_⟩
  exact ((linkCut_regsBut _ n).get (f := Reg.EDGE.CH.CMD_STATUS.BUSY n.val) hmem).trans hbusy

theorem retrainEnd_idle (h : (s.edge n).retrain = false) (ok : Bool) : exec (.retrainEnd n ok) s = .next s :=
  if_neg (by rw [h]; exact Bool.false_ne_true)

/-! ## Skew -/

/-- Where a pass leaves TRIM (R265, R266). DESIGN CHOICE (log entry 78): against a positive residual by one tap down. -/
def trimAfter (trim : Nat) (resid : BitVec 16) (refine : Bool) : Nat :=
  if resid.toInt = 0 ∨ (resid.toInt.natAbs ≤ 125 ∧ refine = false) then trim
  else if 0 < resid.toInt then trim - 1 else min 63 (trim + 1)

theorem edgeIf_skew_get (b : Bool) {f : Fld} (hf : f.addr = Reg.EDGE.CH.SKEW.addr n.val) : (s.edgeIf b n 13).get f = s.get f := by
  refine (edgeIf_regsBut s b n 13).get ?_
  rw [hf]
  exact notMem_detailRegs (by simp only [Reg.EDGE.CH.SKEW.addr]; omega)
    (by simp only [Reg.EDGE.CH.SKEW.addr, Reg.EDGE.CH.CAUSE.addr]; omega)

/-- TRIM moves to `v` where the pass allows, else SKEW_RANGE shows a residual above the bound. -/
def State.trimOr (s : State) (n : Fin 64) (moves : Prop) [Decidable moves] (v : Nat) (out : Bool) : State :=
  if moves then s.put (Reg.EDGE.CH.SKEW.TRIM n.val) v else s.edgeIf out n 13

theorem trimOr_reads {moves : Prop} [Decidable moves] {v : Nat} {out : Bool} (hv : moves → v < 64) :
    (s.trimOr n moves v out).get (Reg.EDGE.CH.SKEW.RESID n.val) = s.get (Reg.EDGE.CH.SKEW.RESID n.val) ∧
    (s.trimOr n moves v out).get (Reg.EDGE.CH.SKEW.TRIM n.val) = (if moves then v else s.get (Reg.EDGE.CH.SKEW.TRIM n.val)) ∧
    (¬ moves → out = true → (s.trimOr n moves v out).edgeBit n 13 = true) := by
  by_cases h : moves
  · rw [State.trimOr, if_pos h, if_pos h]
    refine ⟨State.get_put_ne _ _ _ _ (.inr (by simp)), ?_, fun hn => absurd h hn⟩
    rw [State.get_put_same _ _ _ (by simp)]
    exact Nat.mod_eq_of_lt (hv h)
  · rw [State.trimOr, if_neg h, if_neg h]
    refine ⟨edgeIf_skew_get out rfl, edgeIf_skew_get out rfl, fun _ ho => ?_⟩
    rw [ho]
    exact edgeBit_edgeDetail s n (by decide)

/-- A pass stores its residual (R265). -/
def State.skewNoted (s : State) (n : Fin 64) (resid : BitVec 16) : State := s.put (Reg.EDGE.CH.SKEW.RESID n.val) resid.toNat

theorem skewCalPass_runs (ha : s.alive n = true) (resid : BitVec 16) (refine : Bool) :
    Runs (.skewCalPass n true resid refine) s (fun t =>
      let trim := s.get (Reg.EDGE.CH.SKEW.TRIM n.val)
      t.get (Reg.EDGE.CH.SKEW.RESID n.val) = resid.toNat ∧ t.get (Reg.EDGE.CH.SKEW.TRIM n.val) = trimAfter trim resid refine ∧
      (125 < resid.toInt.natAbs → (0 < resid.toInt ∧ trim = 0) ∨ (resid.toInt < 0 ∧ trim = 63) → t.edgeBit n 13 = true)) := by
  have hlt : s.get (Reg.EDGE.CH.SKEW.TRIM n.val) < 64 := get_lt s (Reg.EDGE.CH.SKEW.TRIM n.val)
  have hresid : (s.skewNoted n resid).get (Reg.EDGE.CH.SKEW.RESID n.val) = resid.toNat :=
    (State.get_put_same s (Reg.EDGE.CH.SKEW.RESID n.val) _ (by simp)).trans (Nat.mod_eq_of_lt resid.isLt)
  have htrim : (s.skewNoted n resid).get (Reg.EDGE.CH.SKEW.TRIM n.val) = s.get (Reg.EDGE.CH.SKEW.TRIM n.val) :=
    State.get_put_ne s (Reg.EDGE.CH.SKEW.RESID n.val) _ _ (.inr (by simp))
  have hexec : exec (.skewCalPass n true resid refine) s = _ := if_pos (by rw [ha]; rfl)
  revert hlt htrim hexec
  generalize s.get (Reg.EDGE.CH.SKEW.TRIM n.val) = trim
  intro hlt htrim hexec
  by_cases hstay : resid.toInt = 0 ∨ (resid.toInt.natAbs ≤ 125 ∧ refine = false)
  · refine ⟨s.skewNoted n resid, hexec.trans (if_pos ?_), hresid, htrim.trans (if_pos hstay).symm, fun ho _ => ?_⟩
    · rcases hstay with h | ⟨h, hr⟩
      · simp [h]
      · simp [hr, Nat.not_lt.mpr h]
    · omega
  · have hmove : ¬ (!decide (125 < resid.toInt.natAbs) && !refine || decide (resid.toInt = 0)) = true := by
      simpa [not_or, and_comm] using hstay
    by_cases hpos : 0 < resid.toInt
    · obtain ⟨hr, ht, hb⟩ := trimOr_reads (s := s.skewNoted n resid) (n := n) (moves := 0 < trim) (v := trim - 1)
        (out := decide (125 < resid.toInt.natAbs)) (by omega)
      refine ⟨_, hexec.trans ((if_neg hmove).trans (if_pos hpos)), hr.trans hresid, ht.trans ?_,
        fun ho hend => hb ?_ (decide_eq_true ho)⟩
      · rw [trimAfter, if_neg hstay, if_pos hpos, htrim]
        split <;> omega
      · omega
    · obtain ⟨hr, ht, hb⟩ := trimOr_reads (s := s.skewNoted n resid) (n := n) (moves := trim < 63) (v := trim + 1)
        (out := decide (125 < resid.toInt.natAbs)) (by omega)
      refine ⟨_, hexec.trans ((if_neg hmove).trans (if_neg hpos)), hr.trans hresid, ht.trans ?_,
        fun ho hend => hb ?_ (decide_eq_true ho)⟩
      · rw [trimAfter, if_neg hstay, if_neg hpos, htrim]
        split <;> omega
      · omega

theorem skewCalPass_idle (measured : Bool) (resid : BitVec 16) (refine : Bool) (h : s.alive n = false ∨ measured = false) :
    exec (.skewCalPass n measured resid refine) s = .next s := by
  refine if_neg ?_
  rw [Bool.and_eq_true]
  rintro ⟨ha, hm⟩
  exact h.elim (fun h => Bool.false_ne_true (h.symm.trans ha)) fun h => Bool.false_ne_true (h.symm.trans hm)

end Sys2Proof.Machine

section
open Sys2Proof.Machine

/-- Settles O23: each command of a link comes to the rule of its row; the sign of RESID and the tap against it are log entry 78, the values
in force from the frame on log entry 86. -/
theorem edgeLinkCommandsRun : Obligations.EdgeLinkCommandsRun := by
  unfold Obligations.EdgeLinkCommandsRun
  refine ⟨fun s n ha hl => ⟨downlink_good_runs ha hl, downlink_bad_runs ha hl, uplink_bad_runs ha hl, uplink_good_next ha hl⟩,
    fun s n good changed sns h => frames_idle h good changed sns, fun s n => ?_⟩
  exact ⟨rfl, linkLoss_runs, linkLoss_idle, holdoff_runs, holdoff_idle, linkAutoRetrain_runs, linkAutoRetrain_idle,
    fun h => ⟨retrainEnd_ok_runs h, retrainEnd_fails_runs h⟩, fun ok h => retrainEnd_idle h ok,
    fun resid refine ha => skewCalPass_runs ha resid refine, skewCalPass_idle⟩

end
end

section
/-! The comparators of the filters (R113 to R115). -/

namespace Sys2Proof.Machine

variable {s t : State} {n : Fin 48}

/-! ## What a comparator's sides leave -/

/-- An injection of Patrol whose live input is noted. -/
def Inj.noted (v : Nat) (i : Inj) : Inj := if i.ctrl = Reg.PATROL.INJ_STATUS.addr then { i with seen := v } else i

theorem noted_ctrl (v c : Nat) : (fun i : Inj => i.ctrl == c) ∘ Inj.noted v = fun i => i.ctrl == c := by
  funext i
  simp only [Function.comp_apply, Inj.noted]
  split <;> rfl

theorem injAt_noteSeen (s : State) (v c : Nat) : (s.noteSeen v).injAt c = (s.injAt c).map (Inj.noted v) := by
  have hmap : (s.noteSeen v).injAt c = (s.injs.map (Inj.noted v)).find? (fun i => i.ctrl == c) := rfl
  rw [hmap, List.find?_map, noted_ctrl, State.injAt]

theorem windowAt_noteSeen (s : State) (v target index : Nat) : (s.noteSeen v).windowAt target index = s.windowAt target index := by
  rw [State.windowAt, State.windowAt, injAt_noteSeen]
  cases s.injAt Reg.PATROL.INJ_STATUS.addr with
  | none => rfl
  | some i =>
    simp only [Option.map_some, Inj.noted]
    split <;> rfl

theorem windowAt_heldEnd (s : State) (a b target index : Nat) : (s.heldEnd a b).windowAt target index = s.windowAt target index := by
  unfold State.heldEnd
  split
  · exact windowAt_noteSeen s 0 target index
  · rfl

theorem heldAct_of_no_window {target index : Nat} (h : s.windowAt target index = false) (act : State → State) :
    s.heldAct target index act = act s := if_neg (by rw [h]; exact Bool.false_ne_true)

theorem heldEnd_sdm (s : State) (target index : Nat) : (s.heldEnd target index).sdm = s.sdm := by
  unfold State.heldEnd
  split <;> rfl

theorem exists_presentTrip (s : State) (c : Cause) : ∃ x, s.presentTrip c = { s with trip := x } := by
  unfold State.presentTrip
  split
  · split
    · exact ⟨_, rfl⟩
    · exact ⟨s.trip, rfl⟩
  · exact ⟨s.trip, rfl⟩

theorem cmpAssert_sdm (s : State) (n : Fin 48) (m : Mark) : (s.cmpAssert n m).sdm = s.sdm := by
  obtain ⟨x, hx⟩ := exists_presentTrip (s.setCauseM (cmpCause n.val) m) (cmpCause n.val)
  rw [State.cmpAssert, hx]
  exact State.setCauseM_sdm ..

theorem cmpCause_bit_lt (n : Fin 48) : (cmpCause n.val).bit < 32 := by
  unfold cmpCause
  split
  · assumption
  · show n.val - 32 < 32
    omega

theorem causeSet_cmpAssert (s : State) (n : Fin 48) (m : Mark) : (s.cmpAssert n m).causeSet (cmpCause n.val) = true := by
  obtain ⟨x, hx⟩ := exists_presentTrip (s.setCauseM (cmpCause n.val) m) (cmpCause n.val)
  rw [State.cmpAssert, hx]
  exact State.causeSet_setCauseM _ _ _ (cmpCause_bit_lt n)

theorem cmpSide_sdm (s : State) (n : Fin 48) (target : Nat) (up : Bool) : (s.cmpSide n target up).sdm = s.sdm := by
  cases up
  · rfl
  · show (s.heldAct target n.val fun t => t.cmpAssert n .real).sdm = s.sdm
    unfold State.heldAct
    split
    · rfl
    · exact cmpAssert_sdm s n .real

theorem cmpSide_of_no_window {target : Nat} (h : s.windowAt target n.val = false) : s.cmpSide n target true = s.cmpAssert n .real :=
  heldAct_of_no_window h fun t => t.cmpAssert n .real

theorem cmpRelease_sdm (s : State) (n : Fin 48) : (s.cmpRelease n).sdm = s.sdm := by
  unfold State.cmpRelease
  split <;> rfl

/-! ## A judged output -/

/-- The outputs in a row beyond the upper threshold (R114). -/
def State.cmpRunHi (s : State) (n : Fin 48) (y : Ext) : Nat :=
  if s.flag (Reg.SDM.F.CMP_CFG.EN_HI n.val) && (Ext.of (s.rd (Reg.SDM.F.CMP_HI.addr n.val))).lt y then min (s.sdm[n].hiRun + 1) 8 else 0

/-- The outputs in a row beyond the lower threshold (R114). -/
def State.cmpRunLo (s : State) (n : Fin 48) (y : Ext) : Nat :=
  if s.flag (Reg.SDM.F.CMP_CFG.EN_LO n.val) && y.lt (Ext.of (s.rd (Reg.SDM.F.CMP_LO.addr n.val))) then min (s.sdm[n].loRun + 1) 8 else 0

/-- The upper side asserts at this output (R114, R115). -/
def State.cmpUpHi (s : State) (n : Fin 48) (y : Ext) : Bool :=
  !s.sdm[n].hi && s.flag (Reg.SDM.F.CMP_CFG.EN_HI n.val) &&
    decide (s.get (Reg.SDM.F.CMP_CFG.CCOUNT n.val) + 1 ≤ s.cmpRunHi n y)

/-- The lower side asserts at this output (R114, R115). -/
def State.cmpUpLo (s : State) (n : Fin 48) (y : Ext) : Bool :=
  !s.sdm[n].lo && s.flag (Reg.SDM.F.CMP_CFG.EN_LO n.val) &&
    decide (s.get (Reg.SDM.F.CMP_CFG.CCOUNT n.val) + 1 ≤ s.cmpRunLo n y)

/-- The upper side stands asserted after this output (R115). -/
def State.cmpHi (s : State) (n : Fin 48) (y : Ext) : Bool :=
  s.cmpUpHi n y || (s.sdm[n].hi && s.flag (Reg.SDM.F.CMP_CFG.EN_HI n.val) &&
    !y.lt ((Ext.of (s.rd (Reg.SDM.F.CMP_HI.addr n.val))).sub (Ext.of (s.rd (Reg.SDM.F.CMP_HYS.addr n.val)))))

/-- The lower side stands asserted after this output (R115). -/
def State.cmpLo (s : State) (n : Fin 48) (y : Ext) : Bool :=
  s.cmpUpLo n y || (s.sdm[n].lo && s.flag (Reg.SDM.F.CMP_CFG.EN_LO n.val) &&
    !((Ext.of (s.rd (Reg.SDM.F.CMP_LO.addr n.val))).add (Ext.of (s.rd (Reg.SDM.F.CMP_HYS.addr n.val)))).lt y)

/-- The comparator's record after an output. -/
def State.cmpNoted (s : State) (n : Fin 48) (y : Ext) : SdmFilter :=
  { s.sdm[n] with hi := s.cmpHi n y, lo := s.cmpLo n y, hiRun := s.cmpRunHi n y, loRun := s.cmpRunLo n y }

/-- The record is stored, and the sides that do not stand asserted wait for no window's end (R395). -/
def State.cmpStored (s : State) (n : Fin 48) (free : Nat) (y : Ext) : State :=
  let s1 := State.setSdm { s with freeCount := free } n (s.cmpNoted n y)
  let s2 := if s.cmpHi n y then s1 else s1.heldEnd 1 n.val
  if s.cmpLo n y then s2 else s2.heldEnd 2 n.val

/-- What an output of the comparator starts (R115). -/
def State.cmpFollow (s : State) (n : Fin 48) (free : Nat) (y : Ext) : State :=
  if s.cmpUpHi n y && s.cmpUpLo n y then
    ((s.cmpStored n free y).cmpSide n 1 true).cmpSide n 2 ((s.cmpStored n free y).windowAt 1 n.val)
  else if s.cmpUpHi n y || s.cmpUpLo n y then ((s.cmpStored n free y).cmpSide n 1 (s.cmpUpHi n y)).cmpSide n 2 (s.cmpUpLo n y)
  else if (s.sdm[n].hi || s.sdm[n].lo) && !(s.cmpHi n y || s.cmpLo n y) then (s.cmpStored n free y).cmpRelease n
  else s.cmpStored n free y

theorem next_cmpFollow (s : State) (n : Fin 48) (free : Nat) (y : Ext) :
    (.next (s.cmpFollow n free y) : Host.Outcome State Fault Refusal) =
    if s.cmpUpHi n y && s.cmpUpLo n y then
      .next (((s.cmpStored n free y).cmpSide n 1 true).cmpSide n 2 ((s.cmpStored n free y).windowAt 1 n.val))
    else if s.cmpUpHi n y || s.cmpUpLo n y then
      .next (((s.cmpStored n free y).cmpSide n 1 (s.cmpUpHi n y)).cmpSide n 2 (s.cmpUpLo n y))
    else if (s.sdm[n].hi || s.sdm[n].lo) && !(s.cmpHi n y || s.cmpLo n y) then .next ((s.cmpStored n free y).cmpRelease n)
    else .next (s.cmpStored n free y) := by
  unfold State.cmpFollow
  split_ifs <;> rfl

theorem exists_cmpOutput (he : s.flag (Reg.SDM.F.CFG.ENABLE n.val) = true) (bitsA bitsB : List Bool) :
    ∃ free y, (∀ y', s.cmpY n bitsA bitsB = some y' → y = y') ∧
      exec (.sdmCmpOutput n bitsA bitsB) s = .next (s.cmpFollow n free y) := by
  have hexec : exec (.sdmCmpOutput n bitsA bitsB) s = execSdmCmpOutput n bitsA bitsB s := rfl
  rw [hexec]
  unfold execSdmCmpOutput
  rw [if_pos he]
  extract_lets p order d wA wB
  have hY : s.cmpY n bitsA bitsB = match wA, wB with
    | some a, some b => some ((Ext.of (s.rd (Reg.SDM.F.GAIN.addr n.val))).mul
        ((Ext.num (a - b)).sub (Ext.of (s.rd (Reg.SDM.F.OFFSET.addr n.val)))))
    | _, _ => none := rfl
  revert hY
  generalize wA = a
  generalize wB = b
  intro hY
  cases a with
  | none => exact ⟨_, _, fun v hv => (nomatch hY.symm.trans hv), (next_cmpFollow s n _ _).symm⟩
  | some a =>
    cases b with
    | none => exact ⟨_, _, fun v hv => (nomatch hY.symm.trans hv), (next_cmpFollow s n _ _).symm⟩
    | some b => exact ⟨_, _, fun v hv => Option.some.inj (hY.symm.trans hv), (next_cmpFollow s n _ _).symm⟩

theorem cmpStored_sdm (s : State) (n : Fin 48) (free : Nat) (y : Ext) : (s.cmpStored n free y).sdm[n] = s.cmpNoted n y := by
  have hs : (s.cmpStored n free y).sdm = (State.setSdm { s with freeCount := free } n (s.cmpNoted n y)).sdm := by
    unfold State.cmpStored
    dsimp only
    split_ifs
    · rfl
    · exact heldEnd_sdm _ _ _
    · exact heldEnd_sdm _ _ _
    · exact (heldEnd_sdm _ _ _).trans (heldEnd_sdm _ _ _)
  rw [hs]
  exact sdm_setSdm_same _ _ _

theorem cmpFollow_sdm (s : State) (n : Fin 48) (free : Nat) (y : Ext) : (s.cmpFollow n free y).sdm[n] = s.cmpNoted n y := by
  have hs : (s.cmpFollow n free y).sdm = (s.cmpStored n free y).sdm := by
    unfold State.cmpFollow
    split_ifs
    · exact (cmpSide_sdm _ _ _ _).trans (cmpSide_sdm _ _ _ _)
    · exact (cmpSide_sdm _ _ _ _).trans (cmpSide_sdm _ _ _ _)
    · exact cmpRelease_sdm _ n
    · rfl
  rw [hs]
  exact cmpStored_sdm s n free y

theorem windowAt_cmpStored (s : State) (n : Fin 48) (free : Nat) (y : Ext) (target index : Nat) :
    (s.cmpStored n free y).windowAt target index = s.windowAt target index := by
  unfold State.cmpStored
  dsimp only
  split_ifs
  · rfl
  · exact windowAt_heldEnd _ _ _ _ _
  · exact windowAt_heldEnd _ _ _ _ _
  · exact (windowAt_heldEnd _ _ _ _ _).trans (windowAt_heldEnd _ _ _ _ _)

/-- With the lower side switched off, an upper side that asserts outside a SHADOW window sets its cause (R115). -/
theorem causeSet_cmpFollow {free : Nat} {y : Ext} (hlo : s.flag (Reg.SDM.F.CMP_CFG.EN_LO n.val) = false)
    (hw : s.windowAt 1 n.val = false) (hup : s.cmpUpHi n y = true) : (s.cmpFollow n free y).causeSet (cmpCause n.val) = true := by
  have hdown : s.cmpUpLo n y = false := by
    rw [State.cmpUpLo, hlo, Bool.and_false, Bool.false_and]
  have hasserts : s.cmpFollow n free y = (s.cmpStored n free y).cmpAssert n .real := by
    rw [State.cmpFollow, hup, hdown, Bool.and_false, if_neg Bool.false_ne_true, Bool.or_false, if_pos rfl]
    exact cmpSide_of_no_window ((windowAt_cmpStored s n free y 1 n.val).trans hw)
  rw [hasserts]
  exact causeSet_cmpAssert _ n .real

theorem cmpNoted_hi_off {y : Ext} (h : s.flag (Reg.SDM.F.CMP_CFG.EN_HI n.val) = false) :
    (s.cmpNoted n y).hi = false ∧ (s.cmpNoted n y).hiRun = 0 := by
  simp [State.cmpNoted, State.cmpHi, State.cmpUpHi, State.cmpRunHi, h]

theorem cmpNoted_lo_off {y : Ext} (h : s.flag (Reg.SDM.F.CMP_CFG.EN_LO n.val) = false) :
    (s.cmpNoted n y).lo = false ∧ (s.cmpNoted n y).loRun = 0 := by
  simp [State.cmpNoted, State.cmpLo, State.cmpUpLo, State.cmpRunLo, h]

/-- An enabled upper side counts and follows its threshold and, once asserted, its hysteresis (R114, R115). -/
theorem cmpNoted_hi_on {y : Ext} (h : s.flag (Reg.SDM.F.CMP_CFG.EN_HI n.val) = true) :
    (s.cmpNoted n y).hiRun = (if (Ext.of (s.rd (Reg.SDM.F.CMP_HI.addr n.val))).lt y then min (s.sdm[n].hiRun + 1) 8 else 0) ∧
    (s.cmpNoted n y).hi = if s.sdm[n].hi then
        !y.lt ((Ext.of (s.rd (Reg.SDM.F.CMP_HI.addr n.val))).sub (Ext.of (s.rd (Reg.SDM.F.CMP_HYS.addr n.val))))
      else decide (s.get (Reg.SDM.F.CMP_CFG.CCOUNT n.val) < (s.cmpNoted n y).hiRun) := by
  simp only [State.cmpNoted, State.cmpHi, State.cmpUpHi, State.cmpRunHi, h, Bool.true_and, Bool.and_true]
  refine ⟨trivial, ?_⟩
  cases s.sdm[n].hi
  · simp
  · simp

theorem cmpNoted_lo_on {y : Ext} (h : s.flag (Reg.SDM.F.CMP_CFG.EN_LO n.val) = true) :
    (s.cmpNoted n y).loRun = (if y.lt (Ext.of (s.rd (Reg.SDM.F.CMP_LO.addr n.val))) then min (s.sdm[n].loRun + 1) 8 else 0) ∧
    (s.cmpNoted n y).lo = if s.sdm[n].lo then
        !((Ext.of (s.rd (Reg.SDM.F.CMP_LO.addr n.val))).add (Ext.of (s.rd (Reg.SDM.F.CMP_HYS.addr n.val)))).lt y
      else decide (s.get (Reg.SDM.F.CMP_CFG.CCOUNT n.val) < (s.cmpNoted n y).loRun) := by
  simp only [State.cmpNoted, State.cmpLo, State.cmpUpLo, State.cmpRunLo, h, Bool.true_and, Bool.and_true]
  refine ⟨trivial, ?_⟩
  cases s.sdm[n].lo
  · simp
  · simp

/-- SDM_CMP_OUTPUT of an enabled filter (R113 to R115). -/
theorem cmpOutput_runs (he : s.flag (Reg.SDM.F.CFG.ENABLE n.val) = true) (bitsA bitsB : List Bool) :
    Runs (.sdmCmpOutput n bitsA bitsB) s (fun t =>
      (s.flag (Reg.SDM.F.CMP_CFG.EN_HI n.val) = false → t.sdm[n].hi = false ∧ t.sdm[n].hiRun = 0) ∧
      (s.flag (Reg.SDM.F.CMP_CFG.EN_LO n.val) = false → t.sdm[n].lo = false ∧ t.sdm[n].loRun = 0) ∧
      ∀ y, s.cmpY n bitsA bitsB = some y →
        (s.flag (Reg.SDM.F.CMP_CFG.EN_HI n.val) = true →
          t.sdm[n].hiRun = (if (Ext.of (s.rd (Reg.SDM.F.CMP_HI.addr n.val))).lt y then min (s.sdm[n].hiRun + 1) 8 else 0) ∧
          t.sdm[n].hi = if s.sdm[n].hi then
              !y.lt ((Ext.of (s.rd (Reg.SDM.F.CMP_HI.addr n.val))).sub (Ext.of (s.rd (Reg.SDM.F.CMP_HYS.addr n.val))))
            else decide (s.get (Reg.SDM.F.CMP_CFG.CCOUNT n.val) < t.sdm[n].hiRun)) ∧
        (s.flag (Reg.SDM.F.CMP_CFG.EN_LO n.val) = true →
          t.sdm[n].loRun = (if y.lt (Ext.of (s.rd (Reg.SDM.F.CMP_LO.addr n.val))) then min (s.sdm[n].loRun + 1) 8 else 0) ∧
          t.sdm[n].lo = if s.sdm[n].lo then
              !((Ext.of (s.rd (Reg.SDM.F.CMP_LO.addr n.val))).add (Ext.of (s.rd (Reg.SDM.F.CMP_HYS.addr n.val)))).lt y
            else decide (s.get (Reg.SDM.F.CMP_CFG.CCOUNT n.val) < t.sdm[n].loRun)) ∧
        (s.flag (Reg.SDM.F.CMP_CFG.EN_LO n.val) = false → s.windowAt 1 n.val = false → s.sdm[n].hi = false →
          t.sdm[n].hi = true → t.causeSet (cmpCause n.val) = true)) := by
  obtain ⟨free, y, hy, hnext⟩ := exists_cmpOutput he bitsA bitsB
  refine ⟨_, hnext, ?_⟩
  beta_reduce
  rw [cmpFollow_sdm]
  refine ⟨cmpNoted_hi_off, cmpNoted_lo_off, fun y' hy' => ?_⟩
  obtain rfl := hy y' hy'
  refine ⟨cmpNoted_hi_on, cmpNoted_lo_on, fun hlo hw hold hhi => causeSet_cmpFollow hlo hw ?_⟩
  have hstands : (s.cmpUpHi n y || (s.sdm[n].hi && s.flag (Reg.SDM.F.CMP_CFG.EN_HI n.val) && _)) = true := hhi
  rwa [hold, Bool.false_and, Bool.false_and, Bool.or_false] at hstands

theorem cmpOutput_idle (h : s.flag (Reg.SDM.F.CFG.ENABLE n.val) = false) (bitsA bitsB : List Bool) :
    exec (.sdmCmpOutput n bitsA bitsB) s = .next s := if_neg (by rw [h]; exact Bool.false_ne_true)

end Sys2Proof.Machine
end

section
/-! The DC-link results and the crossings of their thresholds (R105, R120 to R124). -/

namespace Sys2Proof.Machine

variable {s t u : State}

/-! ## What stands through the reactions of the link -/

/-- From `s` to `t` the results of the DC link stand and no cause is cleared. -/
def linkKept (s t : State) : Prop :=
  t.dcl = s.dcl ∧ ∀ c : Cause, c.grp < 64 → c.bit < 32 → s.causeSet c = true → t.causeSet c = true

theorem linkKept_refl (s : State) : linkKept s s := ⟨rfl, fun _ _ _ => id⟩

theorem linkKept_trans (h : linkKept s t) (h' : linkKept t u) : linkKept s u :=
  ⟨h'.1.trans h.1, fun c hg hb hc => h'.2 c hg hb (h.2 c hg hb hc)⟩

theorem linkKept_of_stage (h : StageKept s t) : linkKept s t := ⟨h.dcl, h.causes⟩

theorem linkKept_enterStopped (s : State) (i : Fin 4) (r : Reason) : linkKept s (s.enter i .stopped r) := by
  obtain ⟨p, d, h⟩ := exists_stageKept_enterNow s i (st := .stopped) r (by decide) (by decide)
  rw [enter_of_now (by decide)]
  exact ⟨h.dcl, fun c hg hb hc => h.causes c hg hb hc⟩

theorem linkKept_dischargeDone (s : State) (i : Fin 4) : linkKept s (s.dischargeDone i) :=
  linkKept_trans (linkKept_of_stage ((StageKept.refl s).raise (show 34 + i.val < 64 by omega))) (linkKept_enterStopped _ i .none)

theorem linkKept_chargeOv (s : State) : linkKept s s.chargeOv := by
  have hcharge : linkKept s (if (s.slot 0).state = .charge then
      if s.fbClosed then { s with chg := { s.chg with phase := .opening, ctrLow := false, settle := false } }
      else s.enter 0 .stopped s.chg.stopReason else s) := by
    split
    · split
      · exact ⟨rfl, fun _ _ _ => id⟩
      · exact linkKept_enterStopped s 0 _
    · exact linkKept_refl s
  unfold State.chargeOv
  split
  · exact linkKept_refl s
  · exact hcharge
  · exact hcharge
  · exact hcharge
  · exact hcharge

theorem linkKept_chopAssert (s : State) : linkKept s s.chopAssert := by
  have hstart : StageKept s { s with chop := { s.chop with req := true } } := (StageKept.refl s).upd
  exact linkKept_of_stage (.ite hstart.chopStart.chopRefs (.refl s))

theorem ovHold_dcl (s : State) (i : Fin 4) : (s.ovHold i).dcl = s.dcl := by
  unfold State.ovHold
  dsimp only
  split
  · split <;> rfl
  · split
    · rfl
    · split
      · split
        · rfl
        · exact State.raise_dcl _ _
      · split <;> rfl

theorem route_dcl (s : State) (cls idx : Nat) (x : Port) : (s.route cls idx x).dcl = s.dcl := by
  obtain ⟨p, hp⟩ := exists_route s cls idx x
  rw [hp]

/-! ## DCL_RESULT -/

/-- What a result of the DC link formed in `s` on these bits and codes says (R105, R111, R120, R121). -/
structure DclFormed (s : State) (bitsA : List Bool) (codes : List (BitVec 12)) (d : DclSt) : Prop where
  seqA : d.a.seq = s.dcl.a.seq + 1#16
  seqB : d.b.seq = s.dcl.a.seq + 1#16
  short : s.dclX bitsA = none → d.a.valid = false
  validA : s.dcl.a.freshFrom = none → d.a.valid = (s.dclX bitsA).isSome
  validB : d.b.valid = !codes.isEmpty
  newA : d.a.new = true
  newB : d.b.new = true
  resA : ∀ x, s.dclX bitsA = some x → d.a.res = fMul 0x45160000#32 (fOfRat x)
  resB : codes ≠ [] → d.b.res = fOfRat (((((codes.map (·.toNat)).sum : Nat) : Rat) / (codes.length : Rat)) * 2400 / 4096)

theorem exists_ctlNow (s : State) : ∃ c f x, s.ctlNow = (c, { s with freeCount := f, clk := x }) := by
  obtain ⟨f, x, hx⟩ := exists_edgeNow s
  exact ⟨_, f, x, by rw [State.ctlNow, hx]⟩

/-- The clock of CLK_CTL may be read, and a free value taken. -/
theorem exists_ctlRead (s : State) (b : Bool) :
    ∃ now f x, (if b then s.ctlNow else (0, s)) = (now, { s with freeCount := f, clk := x }) := by
  obtain ⟨n, f, x, hx⟩ := exists_ctlNow s
  cases b
  · exact ⟨0, s.freeCount, s.clk, rfl⟩
  · exact ⟨n, f, x, hx⟩

theorem exists_freeRead (s : State) (b : Bool) : ∃ fv f, (if b then s.fresh else (0#64, s)) = (fv, { s with freeCount := f }) := by
  cases b
  · exact ⟨_, s.freeCount, rfl⟩
  · exact ⟨_, _, rfl⟩

theorem agreeFix_false (s : State) : s.agreeFix false = s := if_neg Bool.false_ne_true

/-- The slots follow a DC-link result (R318, R332): its channels stand. -/
theorem slotsFollow_dcl (s : State) : ((List.finRange 4).foldl (fun t i =>
    let u := t.ovHold i
    if (u.slot i).state = .discharge ∧ u.linkDischarged = true then u.dischargeDone i else u) s).dcl = s.dcl := by
  refine List.foldlRecOn (motive := fun t : State => t.dcl = s.dcl) _ _ rfl fun t ht i _ => ?_
  have hov := (ovHold_dcl t i).trans ht
  dsimp only
  split
  · exact (linkKept_dischargeDone _ i).1.trans hov
  · exact hov

theorem DclFormed.of_channels {bitsA : List Bool} {codes : List (BitVec 12)} {d d' : DclSt} (h : DclFormed s bitsA codes d)
    (ha : d'.a = d.a) (hb : d'.b = d.b) : DclFormed s bitsA codes d' := by
  obtain ⟨h1, h2, h3, h4, h5, h6, h7, h8, h9⟩ := h
  rw [← ha] at h1 h3 h4 h6 h8
  rw [← hb] at h2 h5 h7 h9
  exact ⟨h1, h2, h3, h4, h5, h6, h7, h8, h9⟩

theorem dclResult_runs (he : s.flag Reg.SDM.DCL_CFG.ENABLE = true) (hf : s.dcl.a.forms (s.get Reg.SDM.DCL_CFG.MODE) = true)
    (bitsA : List Bool) (codes : List (BitVec 12)) :
    Runs (.dclResult bitsA ⟨codes, false⟩) s (fun t => DclFormed s bitsA codes t.dcl) := by
  show ∃ t, execDclResult bitsA ⟨codes, false⟩ s = .next t ∧ DclFormed s bitsA codes t.dcl
  unfold execDclResult
  rw [agreeFix_false]
  extract_lets s0 codes' mode dec w need mean tol
  have hw : s.dclX bitsA = w := rfl
  rw [if_neg (by rw [he, hf]; exact Bool.false_ne_true)]
  obtain ⟨now, f1, clk, hctl⟩ := exists_ctlRead s s.dcl.a.freshFrom.isSome
  rw [hctl]
  dsimp -zeta only
  obtain ⟨fv, f2, hfree⟩ := exists_freeRead { s with freeCount := f1, clk := clk } (w.isNone || codes'.isEmpty)
  rw [hfree]
  dsimp -zeta only
  extract_lets d xA oldA oldT a oldB b nowA nowB both diff dis ra rb s1 s2 ov uv d2 s3 s4 s5
  have hs2 : s2.dcl = s1.dcl := by
    rw [State.setIf_dcl, State.setIf_dcl, State.setIf_dcl, State.setIf_dcl]
  have hs5 : s5.dcl = s3.dcl := by
    rw [route_dcl, route_dcl, State.setIf_dcl, State.setIf_dcl]
  have hformed : DclFormed s bitsA codes s1.dcl := by
    refine ⟨rfl, rfl, fun h => ?_, fun h => ?_, rfl, rfl, rfl, fun x hx => ?_, fun hc => ?_⟩
    · show (w.isSome && _) = false
      rw [← hw, h]
      rfl
    · show (w.isSome && s.dcl.a.whole need now) = _
      rw [SdmCh.whole, h, Bool.and_true, hw]
    · show fMul 0x45160000#32 (fOfRat (w.getD _)) = _
      rw [← hw, hx]
      rfl
    · show (if codes.isEmpty = true then _ else fOfRat (sarVolts mean)) = _
      rw [if_neg (by rwa [List.isEmpty_iff])]
      rfl
  refine ⟨_, rfl, hformed.of_channels ?_ ?_⟩
  · rw [slotsFollow_dcl, hs5]
    show s2.dcl.a = s1.dcl.a
    rw [hs2]
  · rw [slotsFollow_dcl, hs5]
    show s2.dcl.b = s1.dcl.b
    rw [hs2]

theorem dclResult_idle (h : (s.flag Reg.SDM.DCL_CFG.ENABLE && s.dcl.a.forms (s.get Reg.SDM.DCL_CFG.MODE)) = false)
    (bitsA : List Bool) (codes : List (BitVec 12)) : exec (.dclResult bitsA ⟨codes, false⟩) s = .next s := by
  show execDclResult bitsA ⟨codes, false⟩ s = .next s
  unfold execDclResult
  rw [agreeFix_false]
  exact if_pos (by rw [← Bool.not_and, h]; rfl)

/-! ## DCL_THRESHOLD_CROSS -/

/-- The bits of a channel that stands across threshold th, or no more. -/
def crossBits (th : Fin 4) (crossed : Bool) (w : BitVec 4) : BitVec 4 :=
  if crossed then w ||| (1#4 <<< th.val) else w &&& ~~~(1#4 <<< th.val)

theorem crossBits_bit : ∀ (th k : Fin 4) (crossed : Bool) (w : BitVec 4),
    (crossBits th crossed w).getLsbD k.val = if k = th then crossed else w.getLsbD k.val := by
  decide

/-- A threshold is crossed as its reaction counts it: an over-voltage by either channel, UV_TRIP by both (R123). -/
def linkStands (th : Fin 4) (x y : BitVec 4) : Bool :=
  if th.val = 3 then x.getLsbD 3 && y.getLsbD 3 else x.getLsbD th.val || y.getLsbD th.val

/-- The comparison of a channel is noted (R123). -/
def State.crossNoted (s : State) (th : Fin 4) (chB : Bool) (mv : Nat) : State :=
  { s with dcl := { s.dcl with
    crossA := if chB then s.dcl.crossA else crossBits th (s.dclAcross th mv) s.dcl.crossA
    crossB := if chB then crossBits th (s.dclAcross th mv) s.dcl.crossB else s.dcl.crossB
    nowA := if chB then s.dcl.nowA else mv, nowB := if chB then mv else s.dcl.nowB } }

/-- What the comparison of a channel starts (R122 to R124, R395). -/
def State.crossFollow (s : State) (th : Fin 4) (chB : Bool) (mv : Nat) : State :=
  let t := s.crossNoted th chB mv
  if !linkStands th t.dcl.crossA t.dcl.crossB then t.heldEnd 3 th.val
  else if linkStands th s.dcl.crossA s.dcl.crossB then t
  else t.heldAct 3 th.val (fun u => u.crossAct th .real)

theorem dclSeen_of_value {chB : Bool} {obs : DclObs} {mv : Nat}
    (h : (if chB then some (dclCodeMv obs.code) else dclBitsMv obs.bits) = some mv) : s.dclSeen chB obs = (mv, s) := by
  unfold State.dclSeen
  cases chB
  · have hbits : dclBitsMv obs.bits = some mv := h
    simp only [hbits, Bool.false_eq_true, if_false]
  · obtain rfl : dclCodeMv obs.code = mv := Option.some.inj h
    rfl

theorem dclSeen_of_free {obs : DclObs} (h : dclBitsMv obs.bits = none) :
    ∃ mv f, s.dclSeen false obs = (mv, { s with freeCount := f }) := by
  unfold State.dclSeen
  simp only [h, Bool.false_eq_true, if_false]
  exact ⟨_, _, rfl⟩

theorem next_crossFollow (s : State) (th : Fin 4) (chB : Bool) (mv : Nat) :
    (.next (s.crossFollow th chB mv) : Host.Outcome State Fault Refusal) =
    if !linkStands th (s.crossNoted th chB mv).dcl.crossA (s.crossNoted th chB mv).dcl.crossB then
      .next ((s.crossNoted th chB mv).heldEnd 3 th.val)
    else if linkStands th s.dcl.crossA s.dcl.crossB then .next (s.crossNoted th chB mv)
    else .next ((s.crossNoted th chB mv).heldAct 3 th.val (fun u => u.crossAct th .real)) := by
  unfold State.crossFollow
  dsimp only
  split_ifs <;> rfl

theorem thresholdCross_next {th : Fin 4} {chB : Bool} {obs : DclObs} {mv : Nat} (hseen : s.dclSeen chB obs = (mv, t))
    (hcopy : t.trip.ovCopy = none) : exec (.dclThresholdCross th chB obs) s = .next (t.crossFollow th chB mv) := by
  show execDclThresholdCross th chB obs s = _
  unfold execDclThresholdCross
  rw [hseen]
  dsimp -zeta only
  rw [hcopy, next_crossFollow]
  rfl

theorem linkKept_crossAct (s : State) (th : Fin 4) : linkKept s (s.crossAct th .real) ∧
    (s.crossAct th .real).causeSet ⟨22, if th.val = 3 then 5 else th.val + 1⟩ = true := by
  have hraise (u : State) (b : Nat) (hb : b < 32) :
      linkKept u (u.raiseM ⟨22, b⟩ .real) ∧ (u.raiseM ⟨22, b⟩ .real).causeSet ⟨22, b⟩ = true :=
    ⟨linkKept_of_stage ((StageKept.refl u).raise (show 22 < 64 by decide)), State.causeSet_raiseM u ⟨22, b⟩ .real hb⟩
  match th with
  | 0 =>
    obtain ⟨hkept, hset⟩ := hraise s 1 (by decide)
    have hreact := linkKept_chopAssert (s.raiseM ⟨22, 1⟩ .real)
    exact ⟨linkKept_trans hkept hreact, hreact.2 ⟨22, 1⟩ (by decide) (by decide) hset⟩
  | 1 =>
    have hline : StageKept s (s.ovLine true) := StageKept.reforce (StageKept.refl s).upd
    obtain ⟨hkept, hset⟩ := hraise (s.ovLine true) 2 (by decide)
    have hreact := linkKept_chargeOv ((s.ovLine true).raiseM ⟨22, 2⟩ .real)
    exact ⟨linkKept_trans (linkKept_trans (linkKept_of_stage hline) hkept) hreact, hreact.2 ⟨22, 2⟩ (by decide) (by decide) hset⟩
  | 2 =>
    obtain ⟨hkept, hset⟩ := hraise s 3 (by decide)
    have hreact := linkKept_of_stage ((StageKept.refl (s.raiseM ⟨22, 3⟩ .real)).statusFrame (code := 2))
    exact ⟨linkKept_trans hkept hreact, hreact.2 ⟨22, 3⟩ (by decide) (by decide) hset⟩
  | 3 => exact hraise s 5 (by decide)

theorem crossFollow_dcl (s : State) (th : Fin 4) (chB : Bool) (mv : Nat) :
    (s.crossFollow th chB mv).dcl = (s.crossNoted th chB mv).dcl := by
  unfold State.crossFollow
  dsimp only
  split_ifs
  · unfold State.heldEnd
    split <;> rfl
  · rfl
  · unfold State.heldAct
    split
    · rfl
    · exact (linkKept_crossAct _ th).1.1

/-- A threshold that comes to stand crossed, outside a SHADOW window, sets its cause (R123, R395). -/
theorem causeSet_crossFollow {th : Fin 4} {chB : Bool} {mv : Nat}
    (hnow : linkStands th (s.crossNoted th chB mv).dcl.crossA (s.crossNoted th chB mv).dcl.crossB = true)
    (hold : linkStands th s.dcl.crossA s.dcl.crossB = false) (hw : s.windowAt 3 th.val = false) :
    (s.crossFollow th chB mv).causeSet ⟨22, if th.val = 3 then 5 else th.val + 1⟩ = true := by
  have hact : s.crossFollow th chB mv = (s.crossNoted th chB mv).crossAct th .real := by
    unfold State.crossFollow
    dsimp only
    rw [hnow, if_neg (by decide), if_neg (by rw [hold]; exact Bool.false_ne_true)]
    exact heldAct_of_no_window (s := s.crossNoted th chB mv) hw fun u => u.crossAct th .real
  rw [hact]
  exact (linkKept_crossAct _ th).2

theorem linkStands_uv {th : Fin 4} (h : th.val = 3) (x y : BitVec 4) : linkStands th x y = (x.getLsbD 3 && y.getLsbD 3) := if_pos h

theorem linkStands_ov {th : Fin 4} (h : th.val ≠ 3) (x y : BitVec 4) : linkStands th x y = (x.getLsbD th.val || y.getLsbD th.val) :=
  if_neg h

/-- An over-voltage stands crossed as soon as one channel does, UV_TRIP where the other one stands crossed already (R123). -/
theorem linkStands_crossNoted {th : Fin 4} {chB : Bool} {mv : Nat} (ha : s.dclAcross th mv = true)
    (h : if th.val = 3 then (if chB then s.dcl.crossA else s.dcl.crossB).getLsbD 3 = true ∧
        (if chB then s.dcl.crossB else s.dcl.crossA).getLsbD 3 = false
      else s.dcl.crossA.getLsbD th.val = false ∧ s.dcl.crossB.getLsbD th.val = false) :
    linkStands th (s.crossNoted th chB mv).dcl.crossA (s.crossNoted th chB mv).dcl.crossB = true ∧
    linkStands th s.dcl.crossA s.dcl.crossB = false := by
  have hset (w : BitVec 4) : (crossBits th (s.dclAcross th mv) w).getLsbD th.val = true :=
    (crossBits_bit th th _ w).trans ((if_pos rfl).trans ha)
  by_cases h3 : th.val = 3
  · rw [if_pos h3] at h
    obtain ⟨hother, hthis⟩ := h
    rw [linkStands_uv h3, linkStands_uv h3, ← h3]
    rw [← h3] at hother hthis
    cases chB
    · have hB : s.dcl.crossB.getLsbD th.val = true := hother
      have hA : s.dcl.crossA.getLsbD th.val = false := hthis
      exact ⟨Bool.and_eq_true_iff.mpr ⟨hset _, hB⟩, by rw [hA, Bool.false_and]⟩
    · have hA : s.dcl.crossA.getLsbD th.val = true := hother
      have hB : s.dcl.crossB.getLsbD th.val = false := hthis
      exact ⟨Bool.and_eq_true_iff.mpr ⟨hA, hset _⟩, by rw [hB, Bool.and_false]⟩
  · rw [if_neg h3] at h
    obtain ⟨hA, hB⟩ := h
    rw [linkStands_ov h3, linkStands_ov h3, hA, hB]
    refine ⟨?_, rfl⟩
    cases chB
    · exact Bool.or_eq_true_iff.mpr (.inl (hset _))
    · exact Bool.or_eq_true_iff.mpr (.inr (hset _))

theorem thresholdCross_runs {th : Fin 4} {chB : Bool} {obs : DclObs} {mv : Nat}
    (hmv : (if chB then some (dclCodeMv obs.code) else dclBitsMv obs.bits) = some mv) (hcopy : s.trip.ovCopy = none) :
    Runs (.dclThresholdCross th chB obs) s (fun t =>
      (if chB then t.dcl.nowB else t.dcl.nowA) = mv ∧
      (if chB then t.dcl.crossB else t.dcl.crossA).getLsbD th.val = s.dclAcross th mv ∧
      (if chB then t.dcl.crossA else t.dcl.crossB) = (if chB then s.dcl.crossA else s.dcl.crossB) ∧
      (s.dclAcross th mv = true → s.windowAt 3 th.val = false →
        (if th.val = 3 then (if chB then s.dcl.crossA else s.dcl.crossB).getLsbD 3 = true ∧
            (if chB then s.dcl.crossB else s.dcl.crossA).getLsbD 3 = false
          else s.dcl.crossA.getLsbD th.val = false ∧ s.dcl.crossB.getLsbD th.val = false) →
        t.causeSet ⟨22, if th.val = 3 then 5 else th.val + 1⟩ = true)) := by
  refine ⟨_, thresholdCross_next (dclSeen_of_value hmv) hcopy, ?_⟩
  beta_reduce
  rw [crossFollow_dcl]
  have hbit (w : BitVec 4) : (crossBits th (s.dclAcross th mv) w).getLsbD th.val = s.dclAcross th mv :=
    (crossBits_bit th th _ w).trans (if_pos rfl)
  have hcause (ha : s.dclAcross th mv = true) (hw : s.windowAt 3 th.val = false) h :=
    causeSet_crossFollow (linkStands_crossNoted ha h).1 (linkStands_crossNoted (chB := chB) ha h).2 hw
  cases chB
  · exact ⟨rfl, hbit _, rfl, hcause⟩
  · exact ⟨rfl, hbit _, rfl, hcause⟩

/-- Without a full window of DCL_A its value is free, and yet nothing but its own bit and value moves (log entry 83). -/
theorem thresholdCross_free_runs {th : Fin 4} {obs : DclObs} (hmv : dclBitsMv obs.bits = none) (hcopy : s.trip.ovCopy = none) :
    Runs (.dclThresholdCross th false obs) s (fun t => t.dcl.crossB = s.dcl.crossB ∧ t.dcl.nowB = s.dcl.nowB ∧
      ∀ k : Fin 4, k ≠ th → t.dcl.crossA.getLsbD k.val = s.dcl.crossA.getLsbD k.val) := by
  obtain ⟨mv, f, hseen⟩ := dclSeen_of_free hmv
  refine ⟨_, thresholdCross_next hseen hcopy, ?_⟩
  beta_reduce
  rw [crossFollow_dcl]
  exact ⟨rfl, rfl, fun k hk => (crossBits_bit th k _ _).trans (if_neg hk)⟩

/-- Under a warm reset only the copied OV_TRIP2 is compared (R468). -/
theorem thresholdCross_idle {th : Fin 4} {chB : Bool} {obs : DclObs} {mv v : Nat}
    (hmv : (if chB then some (dclCodeMv obs.code) else dclBitsMv obs.bits) = some mv) (hcopy : s.trip.ovCopy = some v)
    (h : th.val ≠ 1 ∨ mv < v * 1000) : exec (.dclThresholdCross th chB obs) s = .next s := by
  show execDclThresholdCross th chB obs s = _
  unfold execDclThresholdCross
  rw [dclSeen_of_value hmv]
  dsimp -zeta only
  rw [hcopy]
  exact if_neg fun ⟨h1, h2⟩ => h.elim (fun hn => hn h1) fun hlt => Nat.not_le_of_lt hlt h2

end Sys2Proof.Machine
end

section
/-! The streams of the modulators and the spare filters (R103, R104, R125, R441, R444). -/

namespace Sys2Proof.Machine

variable {s t : State}

/-! ## Streams -/

theorem streamStuck_runs (s : State) (n : Fin 80) : Runs (.streamStuck n) s (fun t => t.flag (stuckFld n.val) = true ∧
    (s.flag (stuckFld n.val) = false → t.causeSet ⟨21, 18⟩ = true)) :=
  ⟨_, rfl, streamDown_sets n.isLt s⟩

theorem inputs_put_stuckFld (s : State) (k v i : Nat) : (s.put (stuckFld k) v).inputs i = s.inputs i := by
  obtain ⟨a, b, he, -, hhi, -⟩ := stuckFld_eq k
  rw [State.inputs, State.inputs, he, State.get_put_addr _ _ _ _ (by dsimp only; omega), State.get_put_addr _ _ _ _ (by dsimp only; omega)]

theorem streamFresh_freshFrom {k : Fin 48} {n cycle : Nat} (h : (s.inputs k.val).1 = n ∨ (s.inputs k.val).2 = n) :
    (s.streamFresh n cycle).sdm[k].ch.freshFrom = some cycle := by
  have hk : (s.streamFresh n cycle).sdm[k] = _ := Vector.getElem_mapFinIdx ..
  rw [hk]
  dsimp only
  rw [if_pos h]

theorem streamChange_runs {n : Fin 80} (hs : s.flag (stuckFld n.val) = true)
    (hl : 64 ≤ n.val ∨ (s.edges[Fin.ofNat 64 n.val]).linked = true) (cycle : Nat) :
    Runs (.streamChange n cycle) s (fun t => t.flag (stuckFld n.val) = false ∧ ∀ k : Fin 48,
      (s.inputs k.val).1 = n.val ∨ (s.inputs k.val).2 = n.val → t.sdm[k].ch.freshFrom = some cycle) := by
  have hc : (s.flag (stuckFld n.val) && (decide (64 ≤ n.val) || (s.edges[Fin.ofNat 64 n.val]).linked)) = true := by
    rw [hs, Bool.true_and, Bool.or_eq_true, decide_eq_true_eq]
    exact hl
  refine ⟨_, if_pos hc, flag_stuckFld_put n.isLt s 0, fun k hk => streamFresh_freshFrom ?_⟩
  rw [inputs_put_stuckFld]
  exact hk

theorem streamChange_idle {n : Fin 80}
    (h : s.flag (stuckFld n.val) = false ∨ (n.val < 64 ∧ (s.edges[Fin.ofNat 64 n.val]).linked = false)) (cycle : Nat) :
    exec (.streamChange n cycle) s = .next s := by
  refine if_neg ?_
  rcases h with h | ⟨hn, hl⟩
  · rw [h, Bool.false_and]
    exact Bool.false_ne_true
  · rw [hl, Bool.or_false, decide_eq_false (Nat.not_le_of_lt hn), Bool.and_false]
    exact Bool.false_ne_true

/-! ## Spare filters -/

theorem freeFilters_lt {u : Nat} (h : u ∈ s.freeFilters) : u < 52 := List.mem_range.mp (List.mem_filter.mp h).1

theorem sdmSpareStart_of_none {n : Fin 48} {want : Nat} (h : s.freeFilters = []) : s.sdmSpareStart n want = s.spareOut := by
  rw [State.sdmSpareStart, h]

/-- A spare runs beside a filter. -/
def State.spareBeside (s : State) (n : Fin 48) (u : Nat) : State :=
  State.showFilters (s.setSdm n { s.sdm[n] with spare := some 0, beside := u })

theorem sdmSpareStart_of_cons {n : Fin 48} {want u : Nat} {rest : List Nat} (h : s.freeFilters = u :: rest) :
    s.sdmSpareStart n want = s.spareBeside n (if rest.contains want then want else u) := by
  rw [State.sdmSpareStart, h]
  rfl

/-- No filter has the number 52: without a wish the lowest free one is taken (log entry 89). -/
theorem sdmSpareStart_lowest {n : Fin 48} {u : Nat} {rest : List Nat} (h : s.freeFilters = u :: rest) :
    s.sdmSpareStart n 52 = s.spareBeside n u := by
  have hno : rest.contains 52 = false := by
    rw [List.contains_eq_mem, decide_eq_false_iff_not]
    intro hmem
    exact Nat.lt_irrefl 52 (freeFilters_lt (s := s) (h ▸ List.mem_cons_of_mem u hmem))
  rw [sdmSpareStart_of_cons h, hno]
  rfl

theorem spareBeside_shows {n : Fin 48} {u : Nat} (h : (s.spareBeside n u).freeFilters.length < 8) :
    (s.spareBeside n u).get Reg.SDM.SPARES.LEFT = (s.spareBeside n u).freeFilters.length := by
  have hleft : (s.spareBeside n u).get Reg.SDM.SPARES.LEFT = (s.spareBeside n u).freeFilters.length % 2 ^ 3 :=
    State.get_put_same _ _ _ (by decide)
  rw [hleft]
  exact Nat.mod_eq_of_lt h

theorem spareOut_runs (s : State) : s.spareOut.groom = s.groom ∧ s.spareOut.sdm = s.sdm ∧ s.spareOut.causeSet ⟨5, 2⟩ = true :=
  ⟨State.raise_groom _ _, State.raise_sdm _ _, State.causeSet_raise _ _ (by decide)⟩

/-- A filter has been found faulty (R125). -/
def State.filterFailed (s : State) (n : Fin 48) : State := s.markFilter (s.groom.live.unitOf n.val) true

theorem spareAssign_known {n : Fin 48} (h : s.sdm[n].spare.isSome = true ∨ s.groom.filterWait.contains n.val = true) :
    exec (.sdmSpareAssign n) s = .next (s.filterFailed n) := if_pos (Bool.or_eq_true_iff.mpr h)

theorem spareAssign_next {n : Fin 48} (hs : s.sdm[n].spare = none) (hw : s.groom.filterWait.contains n.val = false) :
    exec (.sdmSpareAssign n) s = if s.filterBusy then
      .next { s.filterFailed n with groom := { (s.filterFailed n).groom with filterWait := s.groom.filterWait ++ [n.val] } }
    else .next ((s.filterFailed n).sdmSpareStart n 52) := by
  refine if_neg ?_
  show ¬ (s.sdm[n].spare.isSome || s.groom.filterWait.contains n.val) = true
  rw [hs, hw]
  exact Bool.false_ne_true

theorem spareAssign_waits {n : Fin 48} (hs : s.sdm[n].spare = none) (hw : s.groom.filterWait.contains n.val = false)
    (hb : s.filterBusy = true) : Runs (.sdmSpareAssign n) s (fun t =>
      t.groom = { (s.filterFailed n).groom with filterWait := s.groom.filterWait ++ [n.val] } ∧ t.sdm = s.sdm ∧ t.regs = s.regs) :=
  ⟨_, (spareAssign_next hs hw).trans (if_pos hb), rfl, rfl, rfl⟩

theorem spareAssign_takes {n : Fin 48} (hs : s.sdm[n].spare = none) (hw : s.groom.filterWait.contains n.val = false)
    {u : Nat} {rest : List Nat} (hb : s.filterBusy = false) (hf : (s.filterFailed n).freeFilters = u :: rest) :
    Runs (.sdmSpareAssign n) s (fun t => t.groom = (s.filterFailed n).groom ∧
      t.sdm = s.sdm.set n { s.sdm[n] with spare := some 0, beside := u } ∧
      (t.freeFilters.length < 8 → t.get Reg.SDM.SPARES.LEFT = t.freeFilters.length)) := by
  refine ⟨_, (spareAssign_next hs hw).trans (if_neg (by rw [hb]; exact Bool.false_ne_true)), ?_⟩
  rw [sdmSpareStart_lowest hf]
  exact ⟨rfl, rfl, spareBeside_shows⟩

theorem spareAssign_out {n : Fin 48} (hs : s.sdm[n].spare = none) (hw : s.groom.filterWait.contains n.val = false)
    (hb : s.filterBusy = false) (hf : (s.filterFailed n).freeFilters = []) :
    Runs (.sdmSpareAssign n) s (fun t => t.groom = (s.filterFailed n).groom ∧ t.sdm = s.sdm ∧ t.causeSet ⟨5, 2⟩ = true) := by
  refine ⟨_, (spareAssign_next hs hw).trans (if_neg (by rw [hb]; exact Bool.false_ne_true)), ?_⟩
  rw [sdmSpareStart_of_none hf]
  exact spareOut_runs (s.filterFailed n)

/-! ## The filter that waits -/

theorem sdmSpareStart_causes {n : Fin 48} {want : Nat} {c : Cause} (hc : Reg.INT.GRP.CAUSE.addr c.grp ≠ Reg.SDM.SPARES.addr)
    (hb : c.bit < 32) (h : s.causeSet c = true) : (s.sdmSpareStart n want).causeSet c = true := by
  cases hf : s.freeFilters with
  | nil =>
    rw [sdmSpareStart_of_none hf]
    exact State.causeSet_raise_mono _ _ _ h hb
  | cons u rest =>
    rw [sdmSpareStart_of_cons hf, ← h]
    exact ((regsBut_refl (s := s) (l := [Reg.SDM.SPARES.addr])).of_regs rfl |>.put (f := Reg.SDM.SPARES.LEFT)
      (List.mem_singleton_self _)).causeSet (by simpa using hc)

theorem sdmSpareStart_groom (s : State) (n : Fin 48) (want : Nat) : (s.sdmSpareStart n want).groom = s.groom := by
  cases hf : s.freeFilters with
  | nil =>
    rw [sdmSpareStart_of_none hf]
    exact State.raise_groom _ _
  | cons u rest =>
    rw [sdmSpareStart_of_cons hf]
    rfl

/-- A filter that starts to be served either finds no spare left, or one begins to run beside it (R125, R441). -/
theorem sdmSpareStart_serves (s : State) (n : Fin 48) (want : Nat) :
    (s.sdmSpareStart n want).causeSet ⟨5, 2⟩ = true ∨ (s.sdmSpareStart n want).sdm[n].spare = some 0 := by
  cases hf : s.freeFilters with
  | nil =>
    rw [sdmSpareStart_of_none hf]
    exact .inl (spareOut_runs s).2.2
  | cons u rest =>
    rw [sdmSpareStart_of_cons hf]
    exact .inr (congrArg SdmFilter.spare (sdm_setSdm_same s n _))

/-- The first filter that waits is taken off the list. -/
def State.waitDropped (s : State) (rest : List Nat) : State := { s with groom := { s.groom with filterWait := rest } }

theorem nextFilter_cases (s : State) (want : Nat) : s.nextFilter want = s ∨
    ∃ m rest, s.nextFilter want = (s.waitDropped rest).sdmSpareStart (sdmIdx m) want := by
  unfold State.nextFilter
  split
  · exact .inl rfl
  · rename_i m rest _
    extract_lets mine
    split
    · exact .inl rfl
    · exact .inr ⟨m, rest, rfl⟩

theorem nextFilter_causes {want : Nat} {c : Cause} (hc : Reg.INT.GRP.CAUSE.addr c.grp ≠ Reg.SDM.SPARES.addr)
    (hb : c.bit < 32) (h : s.causeSet c = true) : (s.nextFilter want).causeSet c = true := by
  obtain he | ⟨m, rest, he⟩ := nextFilter_cases s want
  · rw [he]
    exact h
  · rw [he]
    exact sdmSpareStart_causes (s := s.waitDropped rest) hc hb h

theorem nextFilter_live (s : State) (want : Nat) : (s.nextFilter want).groom.live = s.groom.live := by
  obtain he | ⟨m, rest, he⟩ := nextFilter_cases s want
  · rw [he]
  · rw [he, sdmSpareStart_groom]
    rfl

theorem nextFilter_of_nil {want : Nat} (h : s.groom.filterWait = []) : s.nextFilter want = s := by
  rw [State.nextFilter, h]

theorem nextFilter_of_cons {want m : Nat} {rest : List Nat} (h : s.groom.filterWait = m :: rest) (hbring : s.filterBring = false)
    (hbist : s.groom.bist = none) : s.nextFilter want = (s.waitDropped rest).sdmSpareStart (sdmIdx m) want := by
  have htest : s.filterInTest = none := by
    rw [State.filterInTest, hbist]
    rfl
  unfold State.nextFilter
  rw [h]
  dsimp only
  rw [htest, hbring]
  rfl

/-! ## A takeover -/

/-- The spare of a filter serves its index (R125, R444). -/
def GroomRec.serving (g : GroomRec) (n u : Nat) : GroomRec :=
  { g with filterUnit := (n, u) :: g.filterUnit.filter (fun x => x.1 != n) }

theorem unitOf_serving (g : GroomRec) (n u : Nat) : (g.serving n u).unitOf n = u := by
  rw [GroomRec.unitOf, GroomRec.serving]
  dsimp only
  rw [List.find?_cons_of_pos (by simp)]

/-- The spare of a filter has taken over, before the filter that waits is served. -/
def State.spareTaken (s : State) (n : Fin 48) : State :=
  let s1 := s.setSdm n { s.sdm[n] with spare := none }
  let s2 := State.showFilters { s1 with groom := { s1.groom with live := s1.groom.live.serving n.val s.sdm[n].beside } }
  (s2.raise ⟨21, 20⟩).broughtIn (s2.get Reg.SDM.SPARES.LEFT)

theorem spareTaken_keeps (s : State) (n : Fin 48) : (s.spareTaken n).sdm = s.sdm.set n { s.sdm[n] with spare := none } ∧
    (s.spareTaken n).groom = { s.groom with live := s.groom.live.serving n.val s.sdm[n].beside } := by
  unfold State.spareTaken
  dsimp only
  rw [State.broughtIn, State.setIf_sdm, State.raise_sdm, State.raise_sdm, State.setIf_groom, State.raise_groom, State.raise_groom]
  exact ⟨rfl, rfl⟩

theorem spareTaken_causes (s : State) (n : Fin 48) :
    (s.spareTaken n).causeSet ⟨21, 20⟩ = true ∧ (s.spareTaken n).causeSet ⟨5, 0⟩ = true :=
  ⟨State.causeSet_setIf_mono _ _ _ _ (State.causeSet_raise_mono _ _ _ (State.causeSet_raise _ _ (by decide)) (by decide)) (by decide),
    State.causeSet_setIf_mono _ _ _ _ (State.causeSet_raise _ _ (by decide)) (by decide)⟩

theorem filterBring_spareTaken {n : Fin 48} (h : ∀ j : Fin 48, j ≠ n → s.sdm[j].spare = none) :
    (s.spareTaken n).filterBring = false := by
  rw [State.filterBring, (spareTaken_keeps s n).1]
  refine List.any_eq_false.mpr fun f hf => ?_
  obtain ⟨i, hi, rfl⟩ := List.mem_iff_getElem.mp hf
  rw [Vector.length_toList] at hi
  rw [Vector.getElem_toList, Vector.getElem_set]
  split
  · exact Bool.false_ne_true
  · rename_i hne
    rw [show s.sdm[i] = s.sdm[(⟨i, hi⟩ : Fin 48)] from rfl, h ⟨i, hi⟩ fun e => hne (congrArg Fin.val e).symm]
    exact Bool.false_ne_true

theorem spareTakeover_next {n : Fin 48} {k : Nat} (hs : s.sdm[n].spare = some k) (hk : 16 ≤ k) :
    exec (.sdmSpareTakeover n) s = .next ((s.spareTaken n).nextFilter 52) := by
  show execSdmSpareTakeover n s = _
  unfold execSdmSpareTakeover
  rw [hs]
  exact if_pos hk

theorem spareTakeover_runs {n : Fin 48} {k : Nat} (hs : s.sdm[n].spare = some k) (hk : 16 ≤ k) :
    Runs (.sdmSpareTakeover n) s (fun t => t.causeSet ⟨21, 20⟩ = true ∧ t.causeSet ⟨5, 0⟩ = true ∧
      t.groom.live.unitOf n.val = s.sdm[n].beside ∧ t.groom.live.badFilters = s.groom.live.badFilters ∧
      (s.groom.filterWait = [] → t.sdm = s.sdm.set n { s.sdm[n] with spare := none }) ∧
      ∀ m rest, s.groom.filterWait = m :: rest → (∀ j : Fin 48, j ≠ n → s.sdm[j].spare = none) → s.groom.bist = none →
        t.groom.filterWait = rest ∧ (t.causeSet ⟨5, 2⟩ = true ∨ t.sdm[sdmIdx m].spare = some 0)) := by
  obtain ⟨hsdm, hgroom⟩ := spareTaken_keeps s n
  obtain ⟨hin, hbrought⟩ := spareTaken_causes s n
  have hlive : ((s.spareTaken n).nextFilter 52).groom.live = s.groom.live.serving n.val s.sdm[n].beside := by
    rw [nextFilter_live, hgroom]
  have hwait : (s.spareTaken n).groom.filterWait = s.groom.filterWait := by rw [hgroom]
  refine ⟨_, spareTakeover_next hs hk, nextFilter_causes (by decide) (by decide) hin, nextFilter_causes (by decide) (by decide) hbrought,
    by rw [hlive, unitOf_serving], by rw [hlive]; rfl, fun hnil => ?_, fun m rest hcons hothers hbist => ?_⟩
  · rw [nextFilter_of_nil (hwait.trans hnil)]
    exact hsdm
  · have hbist' : (s.spareTaken n).groom.bist = none := by rw [hgroom]; exact hbist
    rw [nextFilter_of_cons (hwait.trans hcons) (filterBring_spareTaken hothers) hbist']
    refine ⟨?_, sdmSpareStart_serves _ _ _⟩
    rw [sdmSpareStart_groom]
    rfl

theorem spareTakeover_early {n : Fin 48} {k : Nat} (hs : s.sdm[n].spare = some k) (hk : k < 16) :
    exec (.sdmSpareTakeover n) s = .next s := by
  show execSdmSpareTakeover n s = _
  unfold execSdmSpareTakeover
  rw [hs]
  exact if_neg (Nat.not_le_of_lt hk)

theorem spareTakeover_none {n : Fin 48} (hs : s.sdm[n].spare = none) : exec (.sdmSpareTakeover n) s = .next s := by
  show execSdmSpareTakeover n s = _
  unfold execSdmSpareTakeover
  rw [hs]

end Sys2Proof.Machine

section
open Sys2Proof.Machine

/-- Settles O4: each command comes to the rule of its row. The windows of the filters are log entry 84, what stands for one that is not full
log entry 83, the roundings of RES and RAW log entry 82, the crossing at the threshold itself log entry 81, the spare taken log entry 89. -/
theorem sensingCommandsRun : Obligations.SensingCommandsRun := by
  unfold Obligations.SensingCommandsRun
  intro s
  refine ⟨fun n bitsA bitsB g d cycle he hf => ?_, fun i bitsA bitsB g d cycle he hf => ?_,
    fun n bitsA bitsB g d cycle h => sdmResult_idle h,
    fun n bitsA bitsB => ⟨fun he => cmpOutput_runs he bitsA bitsB, fun h => cmpOutput_idle h bitsA bitsB⟩,
    filterRead_runs s, phvRead_runs s, dclARead_runs s, dclBRead_runs s,
    fun bitsA codes => ⟨fun he hf => ?_, fun h => dclResult_idle h bitsA codes⟩,
    fun th chB obs mv hmv hcopy => thresholdCross_runs hmv hcopy, fun th obs hmv hcopy => thresholdCross_free_runs hmv hcopy,
    fun th chB obs mv v hmv hcopy h => thresholdCross_idle hmv hcopy h, streamStuck_runs s,
    fun n cycle => ⟨fun hs hl => streamChange_runs hs hl cycle, fun h => streamChange_idle h cycle⟩,
    fun n => ⟨spareAssign_known, fun hs hw => ⟨spareAssign_waits hs hw, fun u rest => spareAssign_takes hs hw,
      spareAssign_out hs hw⟩⟩,
    fun n k hs => ⟨spareTakeover_runs hs, spareTakeover_early hs⟩, fun n => spareTakeover_none⟩
  · obtain ⟨t, hnext, ⟨hseq, hnew, hdue, hshort, hvalue⟩, hres⟩ :=
      sdmResult_filter_runs (bitsA := bitsA) (bitsB := bitsB) (g := g) (d := d) (cycle := cycle) he hf
    exact ⟨t, hnext, hseq, hnew, hdue, hres, hshort, hvalue⟩
  · obtain ⟨t, hnext, hseq, hnew, hshort, hvalue⟩ :=
      sdmResult_phv_runs (bitsA := bitsA) (bitsB := bitsB) (g := g) (d := d) (cycle := cycle) he hf
    exact ⟨t, hnext, hseq, hnew, hshort, hvalue⟩
  · obtain ⟨t, hnext, hseqA, hseqB, hshort, hvalidA, hvalidB, hnewA, hnewB, hresA, hresB⟩ := dclResult_runs he hf bitsA codes
    exact ⟨t, hnext, hseqA, hseqB, hshort, hvalidA, hvalidB, hnewA, hnewB, hresA, hresB⟩

end
end

section
/-! The position interfaces: the record of one, and what an operation on it leaves of the registers and causes (R129, R134, R138, R139,
R149, R151, R155). -/

namespace Sys2Proof.Machine

variable {s t u : State} {k : Fin 4}

/-! ## Registers and causes -/

/-- An operation of interface k went from `s` to `t`: of the registers only the CAUSE word of its group moved, and no cause bit cleared. -/
structure PosActed (k : Fin 4) (s t : State) : Prop where
  regs : s.regsBut [Reg.INT.GRP.CAUSE.addr (24 + k.val)] t
  causes : ∀ c : Cause, c.bit < 32 → s.causeSet c = true → t.causeSet c = true

theorem PosActed.refl (s : State) : PosActed k s s := ⟨regsBut_refl, fun _ _ h => h⟩

theorem PosActed.trans (h : PosActed k s t) (h' : PosActed k t u) : PosActed k s u :=
  ⟨h.regs.trans h'.regs, fun c hb hc => h'.causes c hb (h.causes c hb hc)⟩

theorem PosActed.of_regs (hr : t.regs = s.regs) : PosActed k s t :=
  ⟨fun a _ => State.rd_congr hr a, fun c _ hc => (State.causeSet_congr hr c).trans hc⟩

theorem PosActed.raiseM (s : State) (b : Nat) (m : Mark) : PosActed k s (s.raiseM (posCause k b) m) :=
  ⟨regsBut_refl.raiseM (c := posCause k b) (List.mem_singleton_self _),
    fun c hb hc => (causeSet_raiseM_eq (posCause k b) c m hb).trans (by rw [hc, Bool.true_or])⟩

theorem PosActed.raise (s : State) (b : Nat) : PosActed k s (s.raise (posCause k b)) := .raiseM s b .real

theorem PosActed.setIf (s : State) (p : Bool) (b : Nat) : PosActed k s (s.setIf p (posCause k b)) := by
  cases p
  · exact .refl s
  · exact .raise s b

theorem PosActed.rd {a : Nat} (h : PosActed k s t) (ha : 0x400e0000 ≤ a) : t.rd a = s.rd a :=
  h.regs a (by simp only [List.mem_singleton, Reg.INT.GRP.CAUSE.addr]; omega)

theorem PosActed.get {f : Fld} (h : PosActed k s t) (hf : 0x400e0000 ≤ f.addr) : t.get f = s.get f := by
  rw [State.get, State.get, h.rd hf]

theorem PosActed.flag {f : Fld} (h : PosActed k s t) (hf : 0x400e0000 ≤ f.addr) : t.flag f = s.flag f :=
  flag_eq_of_get (h.get hf)

theorem causeSet_posCause (s : State) {b : Nat} (hb : b < 32) : (s.raise (posCause k b)).causeSet ⟨24 + k.val, b⟩ = true :=
  State.causeSet_raise s (posCause k b) hb

/-! ## The record -/

theorem pos_setPos (s : State) (k : Fin 4) (x : PosCh) : (s.setPos k x).pos[k] = x := Vector.getElem_set_self _

theorem pos_congr (h : t.pos = s.pos) (k : Fin 4) : t.pos[k] = s.pos[k] := by rw [h]

theorem posValid_of_bad (h : s.pos[k].bad ≠ 0#10) : s.posValid k = false := by
  unfold State.posValid
  dsimp only
  rw [decide_eq_false h]
  split
  · rfl
  · rfl
  · rfl

theorem or_shift_ne_zero (w : BitVec 10) {r : Nat} (hr : r < 10) : w ||| (1#10 <<< r) ≠ 0#10 := by
  intro h
  have hbit := congrArg (BitVec.getLsbD · r) h
  simp [hr] at hbit

/-- `y` is `x` moved: the count, the position, the speed and its stamps, and the reasons against VALID are those of `y`. -/
def PosCh.moved (x y : PosCh) : Prop :=
  y = { x with
    cnt := y.cnt, pos := y.pos, satHi := y.satHi, satLo := y.satLo, bad := y.bad, stamps := y.stamps, dirNeg := y.dirNeg
    dirSeen := y.dirSeen, atEnd := y.atEnd, speed := y.speed }

theorem PosCh.moved.trans {x y z : PosCh} (h : x.moved y) (h' : y.moved z) : x.moved z := by
  unfold PosCh.moved at h h' ⊢
  rw [h] at h'
  exact h'

theorem PosCh.moved.levels {x y : PosCh} (h : x.moved y) : y.a = x.a ∧ y.b = x.b :=
  ⟨(congrArg PosCh.a h :), (congrArg PosCh.b h :)⟩

theorem PosCh.moved.hall {x y : PosCh} (h : x.moved y) : y.hall = x.hall ∧ y.sector = x.sector :=
  ⟨(congrArg PosCh.hall h :), (congrArg PosCh.sector h :)⟩

theorem PosCh.moved.homed {x y : PosCh} (h : x.moved y) : y.homed = x.homed := (congrArg PosCh.homed h :)

theorem PosCh.moved.frame {x y : PosCh} (h : x.moved y) :
    y.frameRun = x.frameRun ∧ y.errRun = x.errRun ∧ y.lastFrame = x.lastFrame :=
  ⟨(congrArg PosCh.frameRun h :), (congrArg PosCh.errRun h :), (congrArg PosCh.lastFrame h :)⟩

/-- `y` is `x` judged: only the reasons against VALID and the first reason of the episode are those of `y`. -/
def PosCh.judged (x y : PosCh) : Prop := y = { x with bad := y.bad, reason := y.reason }

theorem PosCh.judged.trans {x y z : PosCh} (h : x.judged y) (h' : y.judged z) : x.judged z := by
  unfold PosCh.judged at h h' ⊢
  rw [h] at h'
  exact h'

theorem PosCh.judged.counts {x y : PosCh} (h : x.judged y) : y.cnt = x.cnt ∧ y.illWin = x.illWin :=
  ⟨(congrArg PosCh.cnt h :), (congrArg PosCh.illWin h :)⟩

theorem PosCh.judged.resolver {x y : PosCh} (h : x.judged y) :
    y.loop = x.loop ∧ y.rate = x.rate ∧ y.base = x.base ∧ y.tstamp = x.tstamp ∧ y.amp = x.amp :=
  ⟨(congrArg PosCh.loop h :), (congrArg PosCh.rate h :), (congrArg PosCh.base h :), (congrArg PosCh.tstamp h :),
    (congrArg PosCh.amp h :)⟩

theorem PosCh.judged.of_eq {x y : PosCh} (h : y = x) : x.judged y := by rw [h]; rfl

/-! ## VALID -/

theorem rotSample_keeps (s : State) (k : Fin 4) (cycle : Nat) :
    (s.rotSample k cycle).regs = s.regs ∧ (s.rotSample k cycle).pos = s.pos := by
  unfold State.rotSample
  split
  · unfold State.rotSampleSlot
    dsimp only
    split
    · exact ⟨rfl, rfl⟩
    · exact ⟨rfl, rfl⟩
  · exact ⟨rfl, rfl⟩

theorem PosActed.rotSample (s : State) (i : Fin 4) (cycle : Nat) : PosActed k s (s.rotSample i cycle) :=
  .of_regs (rotSample_keeps s i cycle).1

theorem posUpdM_acted (s : State) (k : Fin 4) (x : PosCh) (reason : Nat) (m : Mark) : PosActed k s (s.posUpdM k x reason m) := by
  have hset (t : State) (y : PosCh) : PosActed k t (t.setPos k y) := .of_regs rfl
  unfold State.posUpdM
  dsimp only
  split
  · split
    · split
      · exact (hset s x).trans (.rotSample _ k 0)
      · exact (((hset s x).trans (hset _ _)).trans (.rotSample _ k 0)).trans (.raiseM _ 17 m)
    · exact hset s x
  · exact hset s x

/-- The record that an interface changes to, but for the reason kept where VALID falls (R155). -/
theorem posUpdM_record (s : State) (k : Fin 4) (x : PosCh) (reason : Nat) (m : Mark) :
    ∃ r, (s.posUpdM k x reason m).pos[k] = { x with reason := r } := by
  have hself : (s.setPos k x).pos[k] = { x with reason := x.reason } := pos_setPos s k x
  unfold State.posUpdM
  dsimp only
  split
  · split
    · split
      · exact ⟨_, (pos_congr (rotSample_keeps _ k 0).2 k).trans hself⟩
      · exact ⟨reason, (pos_congr ((State.raiseM_pos _ _ m).trans (rotSample_keeps _ k 0).2) k).trans (pos_setPos _ k _)⟩
    · exact ⟨_, hself⟩
  · exact ⟨_, hself⟩

theorem posBadM_record (s : State) (k : Fin 4) (reason : Nat) (m : Mark) : s.pos[k].judged (s.posBadM k reason m).pos[k] := by
  obtain ⟨r, hr⟩ := posUpdM_record s k { s.pos[k] with bad := s.pos[k].bad ||| (1#10 <<< reason) } reason m
  rw [State.posBadM, hr]
  rfl

theorem posGood_record (s : State) (k : Fin 4) (reason : Nat) : s.pos[k].judged (s.posGood k reason).pos[k] := by
  rw [State.posGood, pos_setPos]
  rfl

theorem monAct_record (s : State) (k : Fin 4) (bit reason : Nat) (m : Mark) :
    s.pos[k].judged (s.monAct k bit reason m).pos[k] :=
  (posBadM_record s k reason m).trans (.of_eq (pos_congr (State.raiseM_pos _ _ m) k))

theorem posMonitor_record (s : State) (k : Fin 4) (run bit reason : Nat) (bad : Bool) :
    s.pos[k].judged (s.posMonitor k run bit reason bad).pos[k] := by
  unfold State.posMonitor
  split
  · split
    · exact monAct_record s k bit reason .real
    · exact .of_eq rfl
  · exact posGood_record s k reason

/-! ## The count -/

theorem posPlace_acted (s : State) (k : Fin 4) (cnt p : Int) : PosActed k s (s.posPlace k cnt p) := by
  unfold State.posPlace
  dsimp only
  exact .trans (t := s.setPos k _) (.of_regs rfl) (.setIf _ _ 16)

theorem posPlace_record (s : State) (k : Fin 4) (cnt p : Int) :
    s.pos[k].moved (s.posPlace k cnt p).pos[k] ∧ (s.posPlace k cnt p).pos[k].cnt = cnt ∧
      (s.softMin k ≤ p → p ≤ s.softMax k → (s.posPlace k cnt p).pos[k].pos = p) := by
  unfold State.posPlace
  dsimp only
  rw [State.setIf_pos, pos_setPos]
  refine ⟨rfl, rfl, fun hlo hhi => ?_⟩
  simp [Int.not_lt.mpr hlo, Int.not_lt.mpr hhi]

theorem posShift_acted (s : State) (k : Fin 4) (d : Int) : PosActed k s (s.posShift k d) := by
  unfold State.posShift
  split
  · exact .refl s
  · exact posPlace_acted s k _ _

theorem posShift_record (s : State) (k : Fin 4) (d : Int) :
    s.pos[k].moved (s.posShift k d).pos[k] ∧ (s.posShift k d).pos[k].cnt = s.pos[k].cnt + d ∧
      (s.softMin k ≤ s.pos[k].pos + d → s.pos[k].pos + d ≤ s.softMax k → (s.posShift k d).pos[k].pos = s.pos[k].pos + d) := by
  unfold State.posShift
  split
  case isTrue h => exact ⟨rfl, by omega, fun _ _ => by omega⟩
  case isFalse => exact posPlace_record s k _ _

/-- Counts of the sensor as counts of the interface: DIR_INV reverses the direction (R129). -/
def State.sensed (s : State) (k : Fin 4) (d : Int) : Int := if s.flag (Reg.POS.CH.CFG.DIR_INV k.val) then -d else d

theorem sensed_natAbs (s : State) (k : Fin 4) (d : Int) : (s.sensed k d).natAbs = d.natAbs := by
  unfold State.sensed
  split
  · exact Int.natAbs_neg d
  · rfl

theorem posMove_record (s : State) (k : Fin 4) (d : Int) :
    s.pos[k].moved (s.posMove k d).pos[k] ∧ (s.posMove k d).pos[k].cnt = s.pos[k].cnt + s.sensed k d :=
  have h := posShift_record s k (s.sensed k d)
  ⟨h.1, h.2.1⟩

theorem posMove_acted (s : State) (k : Fin 4) (d : Int) : PosActed k s (s.posMove k d) := posShift_acted s k (s.sensed k d)

theorem posMeasure_record (s : State) (k : Fin 4) (dir : Option Bool) (cycle : Nat) :
    (s.posMeasure k dir cycle).regs = s.regs ∧ s.pos[k].moved (s.posMeasure k dir cycle).pos[k] ∧
      (s.posMeasure k dir cycle).pos[k].cnt = s.pos[k].cnt := by
  unfold State.posMeasure
  dsimp only
  split
  · rw [pos_setPos]
    exact ⟨rfl, rfl, rfl⟩
  · rw [pos_setPos]
    exact ⟨rfl, rfl, rfl⟩

theorem posStamp_acted (s : State) (k : Fin 4) (dir : Option Bool) (cycle : Nat) : PosActed k s (s.posStamp k dir cycle) :=
  ((PosActed.rotSample s k cycle).trans (.of_regs (posMeasure_record _ k dir cycle).1)).trans (.rotSample _ k cycle)

/-- A stamp moves the speed and its stamps alone. -/
theorem posStamp_record (s : State) (k : Fin 4) (dir : Option Bool) (cycle : Nat) :
    s.pos[k].moved (s.posStamp k dir cycle).pos[k] ∧ (s.posStamp k dir cycle).pos[k].cnt = s.pos[k].cnt := by
  obtain ⟨-, hmoved, hcnt⟩ := posMeasure_record (s.rotSample k cycle) k dir cycle
  rw [State.posStamp, pos_congr (rotSample_keeps _ k cycle).2, ← pos_congr (rotSample_keeps s k cycle).2]
  exact ⟨hmoved, hcnt⟩

/-- An edge or a frame moves the count and is stamped. -/
theorem moveStamp_record (s : State) (k : Fin 4) (d : Int) (dir : Option Bool) (cycle : Nat) :
    s.pos[k].moved ((s.posMove k d).posStamp k dir cycle).pos[k] ∧
      ((s.posMove k d).posStamp k dir cycle).pos[k].cnt = s.pos[k].cnt + s.sensed k d := by
  obtain ⟨hmove, hcnt⟩ := posMove_record s k d
  obtain ⟨hstamp, hcnt'⟩ := posStamp_record (s.posMove k d) k dir cycle
  exact ⟨hmove.trans hstamp, hcnt'.trans hcnt⟩

theorem posRebase_acted (s : State) (k : Fin 4) (p : Int) : PosActed k s (s.posRebase k p) :=
  (posPlace_acted s k p p).trans (.of_regs rfl)

theorem posRebase_record (s : State) (k : Fin 4) (p : Int) :
    (s.posRebase k p).pos[k].cnt = p ∧ (s.posRebase k p).pos[k].homed = true ∧
      (s.softMin k ≤ p → p ≤ s.softMax k → (s.posRebase k p).pos[k].pos = p) := by
  obtain ⟨-, hcnt, hpos⟩ := posPlace_record s k p p
  unfold State.posRebase
  dsimp only
  rw [pos_setPos]
  exact ⟨hcnt, rfl, hpos⟩

/-! ## Illegal transitions -/

/-- An illegal transition as it counts (R134). -/
def State.illCounted (s : State) (k : Fin 4) : State :=
  ((s.setPos k { s.pos[k] with illWin := s.pos[k].illWin + 1 }).bump (Reg.POS.CH.COUNTERS.ILLEGAL k.val)).raise (posCause k 0)

theorem illCounted_record (s : State) (k : Fin 4) :
    (s.illCounted k).pos[k] = { s.pos[k] with illWin := s.pos[k].illWin + 1 } := by
  rw [State.illCounted, pos_congr (State.raise_pos _ _)]
  exact pos_setPos s k _

theorem illCounted_counts (s : State) (k : Fin 4) :
    (s.illCounted k).get (Reg.POS.CH.COUNTERS.ILLEGAL k.val) = min (s.get (Reg.POS.CH.COUNTERS.ILLEGAL k.val) + 1) 65535 := by
  rw [State.illCounted, (PosActed.raise _ 0).get (Nat.le_add_right_of_le (by decide)), get_bump_same _ _ (show 0 + 16 ≤ 32 by decide)]
  rfl

theorem illCounted_causes (s : State) (k : Fin 4) {c : Cause} (hb : c.bit < 32) :
    (s.illCounted k).causeSet c = (s.causeSet c || decide (c = posCause k 0)) := by
  rw [State.illCounted, causeSet_raise_eq _ c hb]
  congr 1
  exact State.causeSet_put _ _ _ c (by simp only [Reg.INT.GRP.CAUSE.addr]; omega)

/-- What an illegal transition beyond ILLEGAL_LIMIT leaves (R134). -/
def State.illOver (s : State) (k : Fin 4) : State :=
  ((s.illCounted k).posUpd k { (s.illCounted k).pos[k] with
    homed := false, bad := (s.illCounted k).pos[k].bad ||| (1#10 <<< 1) } 1).raise (posCause k 1)

theorem posIllegal_of_over (h : s.get (Reg.POS.CH.LIMITS.ILLEGAL_LIMIT k.val) < s.pos[k].illWin + 1) :
    s.posIllegal k = s.illOver k := if_pos h

theorem posIllegal_of_within (h : s.pos[k].illWin + 1 ≤ s.get (Reg.POS.CH.LIMITS.ILLEGAL_LIMIT k.val)) :
    s.posIllegal k = s.illCounted k := if_neg (Nat.not_lt_of_le h)

theorem illOver_acted (s : State) (k : Fin 4) : PosActed k (s.illCounted k) (s.illOver k) :=
  (posUpdM_acted _ k _ 1 .real).trans (.raise _ 1)

theorem illOver_record (s : State) (k : Fin 4) : ∃ r, (s.illOver k).pos[k] =
    { s.pos[k] with illWin := s.pos[k].illWin + 1, homed := false, bad := s.pos[k].bad ||| (1#10 <<< 1), reason := r } := by
  obtain ⟨r, hr⟩ := posUpdM_record (s.illCounted k) k
    { (s.illCounted k).pos[k] with homed := false, bad := (s.illCounted k).pos[k].bad ||| (1#10 <<< 1) } 1 .real
  refine ⟨r, (pos_congr (State.raise_pos _ _) k).trans (hr.trans ?_)⟩
  rw [illCounted_record]

/-- What an illegal transition leaves, within its limit and beyond. -/
theorem posIllegal_record (s : State) (k : Fin 4) : ∃ homed bad r, (s.posIllegal k).pos[k] =
    { s.pos[k] with illWin := s.pos[k].illWin + 1, homed := homed, bad := bad, reason := r } := by
  rcases Nat.lt_or_ge (s.get (Reg.POS.CH.LIMITS.ILLEGAL_LIMIT k.val)) (s.pos[k].illWin + 1) with h | h
  · rw [posIllegal_of_over h]
    exact ⟨false, _, illOver_record s k⟩
  · rw [posIllegal_of_within h]
    exact ⟨_, _, _, illCounted_record s k⟩

theorem posIllegal_acted (s : State) (k : Fin 4) : PosActed k (s.illCounted k) (s.posIllegal k) := by
  rcases Nat.lt_or_ge (s.get (Reg.POS.CH.LIMITS.ILLEGAL_LIMIT k.val)) (s.pos[k].illWin + 1) with h | h
  · rw [posIllegal_of_over h]
    exact illOver_acted s k
  · rw [posIllegal_of_within h]
    exact .refl _

theorem posIllegal_counts (s : State) (k : Fin 4) :
    (s.posIllegal k).get (Reg.POS.CH.COUNTERS.ILLEGAL k.val) = min (s.get (Reg.POS.CH.COUNTERS.ILLEGAL k.val) + 1) 65535 :=
  ((posIllegal_acted s k).get (Nat.le_add_right_of_le (by decide))).trans (illCounted_counts s k)

theorem posIllegal_causes (s : State) (k : Fin 4) {c : Cause} (hb : c.bit < 32) (h : s.causeSet c = true ∨ c = posCause k 0) :
    (s.posIllegal k).causeSet c = true := by
  refine (posIllegal_acted s k).causes c hb ?_
  rw [illCounted_causes s k hb]
  simpa using h

end Sys2Proof.Machine
end

section
/-! The quadrature counter (R134). -/

namespace Sys2Proof.Machine

variable {s : State} {k : Fin 4} {a b : Bool} {cycle : Nat}

/-- The interface with the levels and the instant of a sample. -/
def State.sampled (s : State) (k : Fin 4) (a b : Bool) (cycle : Nat) : State :=
  s.setPos k { s.pos[k] with a := a, b := b, tstamp := cycle }

/-- The travel of a sample in counts of the sensor. -/
def quadTravel (x : PosCh) (a b : Bool) : Int := if Config.quadForward then quadStep x.a x.b a b else -quadStep x.a x.b a b

theorem quadTravel_natAbs (x : PosCh) (a b : Bool) : (quadTravel x a b).natAbs = 1 := by
  have hstep : (quadStep x.a x.b a b).natAbs = 1 := by
    unfold quadStep
    dsimp only
    generalize (if x.a ≠ a then a != x.b else b == x.a) = fwd
    cases fwd <;> rfl
  unfold quadTravel
  split
  · exact hstep
  · rw [Int.natAbs_neg, hstep]

theorem quadEdge_off (h : s.posMode k ≠ 1) : exec (.quadEdge k a b cycle) s = .next s := if_pos h

theorem quadEdge_still (hm : s.posMode k = 1) (ha : s.pos[k].a = a) (hb : s.pos[k].b = b) :
    exec (.quadEdge k a b cycle) s = .next s :=
  (if_neg (not_not.mpr hm)).trans ((if_neg fun h => h.1 ha).trans (if_pos ⟨ha, hb⟩))

theorem quadEdge_both (hm : s.posMode k = 1) (ha : s.pos[k].a ≠ a) (hb : s.pos[k].b ≠ b) :
    exec (.quadEdge k a b cycle) s = .next ((s.sampled k a b cycle).posIllegal k) :=
  (if_neg (not_not.mpr hm)).trans (if_pos ⟨ha, hb⟩)

theorem quadEdge_one (hm : s.posMode k = 1) (h : (decide (s.pos[k].a ≠ a) != decide (s.pos[k].b ≠ b)) = true) :
    ∃ neg, exec (.quadEdge k a b cycle) s =
      .next (((s.sampled k a b cycle).posMove k (quadTravel s.pos[k] a b)).posStamp k (some neg) cycle) := by
  have hboth : ¬(s.pos[k].a ≠ a ∧ s.pos[k].b ≠ b) := fun ⟨ha, hb⟩ => by
    rw [decide_eq_true ha, decide_eq_true hb] at h
    exact Bool.false_ne_true h
  have hstill : ¬(s.pos[k].a = a ∧ s.pos[k].b = b) := fun ⟨ha, hb⟩ => by
    rw [decide_eq_false (not_not.mpr ha), decide_eq_false (not_not.mpr hb)] at h
    exact Bool.false_ne_true h
  exact ⟨_, (if_neg (not_not.mpr hm)).trans ((if_neg hboth).trans (if_neg hstill))⟩

theorem sampled_record (s : State) (k : Fin 4) (a b : Bool) (cycle : Nat) :
    (s.sampled k a b cycle).pos[k] = { s.pos[k] with a := a, b := b, tstamp := cycle } := pos_setPos s k _

/-- A sample with one edge counts one (R134). -/
theorem quadEdge_one_runs (hm : s.posMode k = 1) (h : (decide (s.pos[k].a ≠ a) != decide (s.pos[k].b ≠ b)) = true) :
    Runs (.quadEdge k a b cycle) s (fun t => (t.pos[k].cnt - s.pos[k].cnt).natAbs = 1 ∧ t.pos[k].a = a ∧ t.pos[k].b = b ∧
      t.get (Reg.POS.CH.COUNTERS.ILLEGAL k.val) = s.get (Reg.POS.CH.COUNTERS.ILLEGAL k.val)) := by
  obtain ⟨neg, hexec⟩ := quadEdge_one (cycle := cycle) hm h
  obtain ⟨hmoved, hcnt⟩ := moveStamp_record (s.sampled k a b cycle) k (quadTravel s.pos[k] a b) (some neg) cycle
  have hacted := (posMove_acted (s.sampled k a b cycle) k (quadTravel s.pos[k] a b)).trans (posStamp_acted _ k (some neg) cycle)
  rw [sampled_record] at hmoved hcnt
  refine ⟨_, hexec, ?_, hmoved.levels.1, hmoved.levels.2, hacted.get (Nat.le_add_right_of_le (by decide))⟩
  rw [hcnt]
  show (s.pos[k].cnt + State.sensed _ k _ - s.pos[k].cnt).natAbs = 1
  rw [add_sub_cancel_left, sensed_natAbs, quadTravel_natAbs]

/-- A sample with two edges counts as ILLEGAL alone (R134). -/
theorem quadEdge_both_runs (hm : s.posMode k = 1) (ha : s.pos[k].a ≠ a) (hb : s.pos[k].b ≠ b) :
    Runs (.quadEdge k a b cycle) s (fun t => t.pos[k].cnt = s.pos[k].cnt ∧ t.pos[k].pos = s.pos[k].pos ∧
      t.get (Reg.POS.CH.COUNTERS.ILLEGAL k.val) = min (s.get (Reg.POS.CH.COUNTERS.ILLEGAL k.val) + 1) 65535 ∧
      t.causeSet ⟨24 + k.val, 0⟩ = true ∧
      (s.get (Reg.POS.CH.LIMITS.ILLEGAL_LIMIT k.val) < s.pos[k].illWin + 1 →
        t.causeSet ⟨24 + k.val, 1⟩ = true ∧ t.posValid k = false ∧ t.pos[k].homed = false) ∧
      (s.pos[k].illWin + 1 ≤ s.get (Reg.POS.CH.LIMITS.ILLEGAL_LIMIT k.val) →
        t.causeSet ⟨24 + k.val, 1⟩ = s.causeSet ⟨24 + k.val, 1⟩ ∧ t.pos[k].homed = s.pos[k].homed)) := by
  have hwin : (s.sampled k a b cycle).pos[k].illWin = s.pos[k].illWin :=
    (congrArg PosCh.illWin (sampled_record s k a b cycle) :)
  obtain ⟨homed, bad, r, hrecord⟩ := posIllegal_record (s.sampled k a b cycle) k
  rw [sampled_record] at hrecord
  refine ⟨_, quadEdge_both hm ha hb, (congrArg PosCh.cnt hrecord :), (congrArg PosCh.pos hrecord :), posIllegal_counts _ k,
    posIllegal_causes (c := posCause k 0) _ k (show 0 < 32 by decide) (.inr rfl), fun hover => ?_, fun hwithin => ?_⟩
  · obtain ⟨r, hrecord⟩ := illOver_record (s.sampled k a b cycle) k
    rw [posIllegal_of_over (s := s.sampled k a b cycle) (hwin ▸ hover)]
    refine ⟨causeSet_posCause _ (by decide), posValid_of_bad ?_, (congrArg PosCh.homed hrecord :)⟩
    rw [hrecord]
    exact or_shift_ne_zero _ (by decide)
  · have hhomed := congrArg PosCh.homed (illCounted_record (s.sampled k a b cycle) k)
    rw [posIllegal_of_within (s := s.sampled k a b cycle) (hwin ▸ hwithin)]
    refine ⟨?_, hhomed.trans (congrArg PosCh.homed (sampled_record s k a b cycle) :)⟩
    rw [illCounted_causes _ k (show 1 < 32 by decide), decide_eq_false fun h => Nat.one_ne_zero (congrArg Cause.bit h),
      Bool.or_false]
    rfl

/-- A window of illegal transitions restarts (R134). -/
theorem illWindowEnd_runs (s : State) (k : Fin 4) :
    Runs (.illWindowEnd k) s (fun t => t.pos[k].illWin = 0 ∧ t.pos[k].cnt = s.pos[k].cnt) := by
  refine ⟨_, rfl, ?_⟩
  dsimp only
  split
  · have hjudged := posGood_record (s.setPos k { s.pos[k] with illWin := 0 }) k 1
    rw [pos_setPos] at hjudged
    exact ⟨hjudged.counts.2, hjudged.counts.1⟩
  · rw [pos_setPos]
    exact ⟨rfl, rfl⟩

end Sys2Proof.Machine

section
open Sys2Proof.Machine

/-- Settles O7: a sample comes to a move of one count, to an illegal transition, or to nothing. -/
theorem quadratureCounting : Obligations.QuadratureCounting := by
  unfold Obligations.QuadratureCounting
  intro s k a b cycle
  exact ⟨quadEdge_off, illWindowEnd_runs s k, fun hm => ⟨quadEdge_one_runs hm, quadEdge_both_runs hm, quadEdge_still hm⟩⟩

end
end

section
/-! Index events and Hall switches (R135, R136, R138, R140). -/

namespace Sys2Proof.Machine

variable {s : State} {k : Fin 4}

/-! ## INDEX_EVENT -/

/-- A and B hold the levels named in QUAL. -/
def State.indexLevels (s : State) (k : Fin 4) : Prop :=
  s.pos[k].a = decide (s.get (Reg.POS.CH.INDEX.QUAL k.val) / 2 % 2 = 1) ∧
    s.pos[k].b = decide (s.get (Reg.POS.CH.INDEX.QUAL k.val) % 2 = 1)

/-- The deviation of an index event is shown. -/
def State.indexShown (s : State) (k : Fin 4) : State :=
  s.wr (Reg.POS.CH.INDEX_DEV.addr k.val) (BitVec.ofInt 32 (indexDev s.pos[k].cnt (s.posCpt k)))

/-- The deviation is taken from the count, and the stamps move with it (R136). -/
def State.indexFixed (s : State) (k : Fin 4) : State :=
  let dev := indexDev s.pos[k].cnt (s.posCpt k)
  (s.indexShown k).setPos k { s.pos[k] with stamps := s.pos[k].stamps.map (fun p => (p.1 - dev, p.2)) } |>.posShift k (-dev)

/-- The index event takes VALID and HOMED. -/
def State.indexFault (s : State) (k : Fin 4) : State :=
  (s.indexShown k).posUpd k { s.pos[k] with homed := false, bad := s.pos[k].bad ||| (1#10 <<< 3) } 3

/-- The next state of an index event of a homed interface. -/
def State.indexed (s : State) (k : Fin 4) : State :=
  let dev := indexDev s.pos[k].cnt (s.posCpt k)
  let mode := s.get (Reg.POS.CH.INDEX.INDEX_MODE k.val)
  if dev = 0 then s.indexShown k
  else if dev.natAbs ≤ s.get (Reg.POS.CH.INDEX.INDEX_TOL k.val) then
    if mode = 2 then (s.indexFixed k).raise (posCause k 5) else (s.indexShown k).raise (posCause k 4)
  else if mode = 2 then (s.indexShown k).raise (posCause k 6)
  else if mode = 3 then (s.indexFault k).raise (posCause k 6)
  else (s.indexShown k).raise (posCause k 4)

theorem index_guard (hm : s.posMode k = 1) (hq : s.indexLevels k) :
    (s.posMode k ≠ 1 || false || !((s.pos[k].a == decide (s.get (Reg.POS.CH.INDEX.QUAL k.val) / 2 % 2 = 1)) &&
      (s.pos[k].b == decide (s.get (Reg.POS.CH.INDEX.QUAL k.val) % 2 = 1)))) = false := by
  obtain ⟨ha, hb⟩ := hq
  rw [hm, ha, hb, beq_self_eq_true, beq_self_eq_true]
  rfl

theorem indexEvent_homing (hm : s.posMode k = 1) (hq : s.indexLevels k) (hh : s.pos[k].homed = false) :
    exec (.indexEvent k false) s = .next (s.posRebase k 0) := by
  show execIndexEvent k false s = _
  unfold execIndexEvent
  dsimp only
  rw [index_guard hm hq, hh]
  rfl

theorem indexEvent_homed (hm : s.posMode k = 1) (hq : s.indexLevels k) (hh : s.pos[k].homed = true)
    (hmode : s.get (Reg.POS.CH.INDEX.INDEX_MODE k.val) ≠ 0) : exec (.indexEvent k false) s = .next (s.indexed k) := by
  have hhomed : ¬(!s.pos[k].homed) = true := by rw [hh]; decide
  show execIndexEvent k false s = _
  unfold execIndexEvent State.indexed
  dsimp only
  rw [index_guard hm hq, if_neg Bool.false_ne_true, if_neg hhomed, if_neg hmode]
  simp only [Int.natAbs_eq_zero]
  split
  · rfl
  · split
    · split <;> rfl
    · generalize s.get (Reg.POS.CH.INDEX.INDEX_MODE k.val) = mode
      split
      · rfl
      · rfl
      · rename_i h2 h3
        rw [if_neg h2, if_neg h3]
        rfl

theorem indexEvent_ignored {illegal : Bool} (h : s.posMode k ≠ 1 ∨ illegal = true ∨ ¬s.indexLevels k ∨
    (s.pos[k].homed = true ∧ s.get (Reg.POS.CH.INDEX.INDEX_MODE k.val) = 0)) : exec (.indexEvent k illegal) s = .next s := by
  show execIndexEvent k illegal s = _
  unfold execIndexEvent
  dsimp only
  split
  · rfl
  · rename_i hguard
    simp only [Bool.or_eq_true, decide_eq_true_eq, Bool.not_eq_true', not_or, Bool.not_eq_false, Bool.and_eq_true,
      beq_iff_eq, not_not] at hguard
    obtain ⟨⟨hm, hi⟩, hq⟩ := hguard
    rcases h with h | h | h | ⟨hh, hmode⟩
    · exact absurd hm h
    · exact absurd h hi
    · exact absurd hq h
    · rw [hh, hmode]
      rfl

/-- The first index event homes the interface (R135). -/
theorem indexEvent_homing_runs (hm : s.posMode k = 1) (hh : s.pos[k].homed = false) (hq : s.indexLevels k) :
    Runs (.indexEvent k false) s (fun t => t.pos[k].cnt = 0 ∧ t.pos[k].homed = true ∧
      (s.softMin k ≤ 0 → 0 ≤ s.softMax k → t.pos[k].pos = 0)) :=
  ⟨_, indexEvent_homing hm hq hh, posRebase_record s k 0⟩

theorem indexFixed_acted (s : State) (k : Fin 4) : PosActed k (s.indexShown k) (s.indexFixed k) :=
  .trans (t := (s.indexShown k).setPos k _) (.of_regs rfl) (posShift_acted _ k _)

theorem indexFault_acted (s : State) (k : Fin 4) : PosActed k (s.indexShown k) (s.indexFault k) := posUpdM_acted _ k _ 3 .real

theorem indexed_acted (s : State) (k : Fin 4) : PosActed k (s.indexShown k) (s.indexed k) := by
  unfold State.indexed
  dsimp only
  split_ifs
  · exact .refl _
  · exact (indexFixed_acted s k).trans (.raise _ 5)
  · exact .raise _ 4
  · exact .raise _ 6
  · exact (indexFault_acted s k).trans (.raise _ 6)
  · exact .raise _ 4

theorem indexShown_soft (s : State) (k : Fin 4) :
    (s.indexShown k).softMin k = s.softMin k ∧ (s.indexShown k).softMax k = s.softMax k := by
  have hget {f : Fld} (hf : f.addr < Reg.POS.CH.INDEX_DEV.addr k.val) : (s.indexShown k).get f = s.get f :=
    State.get_wr_ne s _ _ f (Nat.ne_of_lt hf)
  constructor
  · rw [State.softMin, State.softMin, hget (Nat.add_lt_add_right (by decide) _), hget (Nat.add_lt_add_right (by decide) _)]
  · rw [State.softMax, State.softMax, hget (Nat.add_lt_add_right (by decide) _), hget (Nat.add_lt_add_right (by decide) _)]

/-- The deviation goes from the count and from the position (R135). -/
theorem indexFixed_record (s : State) (k : Fin 4) {dev : Int} (hd : dev = indexDev s.pos[k].cnt (s.posCpt k)) :
    (s.indexFixed k).pos[k].cnt = s.pos[k].cnt - dev ∧
      (s.softMin k ≤ s.pos[k].pos - dev → s.pos[k].pos - dev ≤ s.softMax k →
        (s.indexFixed k).pos[k].pos = s.pos[k].pos - dev) := by
  obtain ⟨-, hcnt, hpos⟩ := posShift_record ((s.indexShown k).setPos k
    { s.pos[k] with stamps := s.pos[k].stamps.map (fun p => (p.1 - dev, p.2)) }) k (-dev)
  rw [pos_setPos] at hcnt hpos
  subst hd
  exact ⟨hcnt, fun hlo hhi => hpos ((indexShown_soft s k).1.trans_le hlo) (hhi.trans_eq (indexShown_soft s k).2.symm)⟩

/-- An index event of a homed interface, by the table of R135. -/
theorem indexEvent_homed_runs (hm : s.posMode k = 1) (hh : s.pos[k].homed = true) (hq : s.indexLevels k)
    (hmode : s.get (Reg.POS.CH.INDEX.INDEX_MODE k.val) ≠ 0) : Runs (.indexEvent k false) s (fun t =>
      let dev := indexDev s.pos[k].cnt (s.posCpt k)
      let mode := s.get (Reg.POS.CH.INDEX.INDEX_MODE k.val)
      let tol := s.get (Reg.POS.CH.INDEX.INDEX_TOL k.val)
      t.rd (Reg.POS.CH.INDEX_DEV.addr k.val) = BitVec.ofInt 32 dev ∧
      (dev = 0 → t.pos = s.pos) ∧
      (dev ≠ 0 → dev.natAbs ≤ tol → mode = 2 → t.pos[k].cnt = s.pos[k].cnt - dev ∧ t.causeSet ⟨24 + k.val, 5⟩ = true ∧
        (s.softMin k ≤ s.pos[k].pos - dev → s.pos[k].pos - dev ≤ s.softMax k → t.pos[k].pos = s.pos[k].pos - dev)) ∧
      (dev ≠ 0 → dev.natAbs ≤ tol → mode ≠ 2 → t.pos = s.pos ∧ t.causeSet ⟨24 + k.val, 4⟩ = true) ∧
      (tol < dev.natAbs → mode = 1 → t.pos = s.pos ∧ t.causeSet ⟨24 + k.val, 4⟩ = true) ∧
      (tol < dev.natAbs → mode = 2 → t.pos = s.pos ∧ t.causeSet ⟨24 + k.val, 6⟩ = true) ∧
      (tol < dev.natAbs → mode = 3 → t.pos[k].homed = false ∧ t.posValid k = false ∧ t.causeSet ⟨24 + k.val, 6⟩ = true)) := by
  refine ⟨_, indexEvent_homed hm hq hh hmode, ?_⟩
  beta_reduce
  intro dev mode tol
  have hraised {b : Nat} (hb : b < 32) : ((s.indexShown k).raise (posCause k b)).pos = s.pos ∧
      ((s.indexShown k).raise (posCause k b)).causeSet ⟨24 + k.val, b⟩ = true :=
    ⟨State.raise_pos _ _, causeSet_posCause _ hb⟩
  have hlarge (htol : tol < dev.natAbs) : dev ≠ 0 ∧ ¬dev.natAbs ≤ tol := ⟨by omega, by omega⟩
  refine ⟨((indexed_acted s k).rd (Nat.le_add_right_of_le (by decide))).trans (State.rd_wr_same s _ _), fun h0 => ?_,
    fun h0 htol h2 => ?_, fun h0 htol h2 => ?_, fun htol h1 => ?_, fun htol h2 => ?_, fun htol h3 => ?_⟩
  · have he : s.indexed k = s.indexShown k := if_pos h0
    rw [he]
    rfl
  · have he : s.indexed k = (s.indexFixed k).raise (posCause k 5) := (if_neg h0).trans ((if_pos htol).trans (if_pos h2))
    obtain ⟨hcnt, hpos⟩ := indexFixed_record s k (dev := dev) rfl
    rw [he, pos_congr (State.raise_pos _ _)]
    exact ⟨hcnt, causeSet_posCause _ (by decide), hpos⟩
  · have he : s.indexed k = (s.indexShown k).raise (posCause k 4) := (if_neg h0).trans ((if_pos htol).trans (if_neg h2))
    rw [he]
    exact hraised (by decide)
  · have he : s.indexed k = (s.indexShown k).raise (posCause k 4) := (if_neg (hlarge htol).1).trans
      ((if_neg (hlarge htol).2).trans ((if_neg fun h => absurd (h1.symm.trans h) (by decide)).trans
        (if_neg fun h => absurd (h1.symm.trans h) (by decide))))
    rw [he]
    exact hraised (by decide)
  · have he : s.indexed k = (s.indexShown k).raise (posCause k 6) := (if_neg (hlarge htol).1).trans
      ((if_neg (hlarge htol).2).trans (if_pos h2))
    rw [he]
    exact hraised (by decide)
  · have he : s.indexed k = (s.indexFault k).raise (posCause k 6) := (if_neg (hlarge htol).1).trans
      ((if_neg (hlarge htol).2).trans ((if_neg fun h => absurd (h3.symm.trans h) (by decide)).trans (if_pos h3)))
    obtain ⟨r, hr⟩ := posUpdM_record (s.indexShown k) k
      { s.pos[k] with homed := false, bad := s.pos[k].bad ||| (1#10 <<< 3) } 3 .real
    have hrecord := (pos_congr (State.raise_pos (s.indexFault k) (posCause k 6)) k).trans hr
    rw [he]
    refine ⟨(congrArg PosCh.homed hrecord :), posValid_of_bad ?_, causeSet_posCause _ (by decide)⟩
    rw [hrecord]
    exact or_shift_ne_zero _ (by decide)

/-! ## SPEED_ZERO_TIMEOUT -/

theorem speedZeroTimeout_runs (h : s.posMode k = 1 ∨ s.posMode k = 2) :
    Runs (.speedZeroTimeout k) s (fun t => t.pos[k].speed = f0) := by
  refine ⟨_, if_pos h, ?_⟩
  beta_reduce
  rw [pos_congr (rotSample_keeps _ k 0).2, pos_setPos]

theorem speedZeroTimeout_off (h1 : s.posMode k ≠ 1) (h2 : s.posMode k ≠ 2) : exec (.speedZeroTimeout k) s = .next s :=
  if_neg (not_or.mpr ⟨h1, h2⟩)

/-! ## HALL_EDGE -/

variable {code : Fin 8} {sec cycle : Nat}

/-- The interface with a legal Hall code (R140). -/
def State.hallTaken (s : State) (k : Fin 4) (code : Fin 8) (sec cycle : Nat) : State :=
  s.setPos k { s.pos[k] with hall := code.val, sector := sec, base := true, tstamp := cycle }

/-- The code and the sector that a Hall edge leaves. -/
def PosCh.showsHall (x : PosCh) (code : Fin 8) (sec : Nat) : Prop := x.hall = code.val ∧ x.sector = sec

theorem hallTaken_record (s : State) (k : Fin 4) (code : Fin 8) (sec cycle : Nat) : (s.hallTaken k code sec cycle).pos[k] =
    { s.pos[k] with hall := code.val, sector := sec, base := true, tstamp := cycle } := pos_setPos s k _

theorem hallEdge_off (h : s.posMode k ≠ 2) : exec (.hallEdge k code cycle) s = .next s := if_pos h

theorem hallEdge_legal (hm : s.posMode k = 2) (hs : hallSector code.val = some sec) :
    exec (.hallEdge k code cycle) s =
      if !s.pos[k].base then .next (s.hallTaken k code sec cycle)
      else match (sec + 6 - s.pos[k].sector) % 6 with
        | 0 => .next (s.hallTaken k code sec cycle)
        | 1 => .next (((s.hallTaken k code sec cycle).posMove k 1).posStamp k
            (some (s.flag (Reg.POS.CH.CFG.DIR_INV k.val))) cycle)
        | 5 => .next (((s.hallTaken k code sec cycle).posMove k (-1)).posStamp k
            (some (!s.flag (Reg.POS.CH.CFG.DIR_INV k.val))) cycle)
        | _ => .next (((s.hallTaken k code sec cycle).raise (posCause k 3)).posIllegal k) := by
  show execHallEdge k code cycle s = _
  unfold execHallEdge
  rw [if_neg (not_not.mpr hm)]
  dsimp only
  rw [hs]
  rfl

/-- A step of one sector counts one. -/
theorem hallStep_record (s : State) (k : Fin 4) (code : Fin 8) (sec cycle : Nat) {d : Int} (hd : d.natAbs = 1)
    (dir : Option Bool) :
    let t := ((s.hallTaken k code sec cycle).posMove k d).posStamp k dir cycle
    t.pos[k].showsHall code sec ∧ (t.pos[k].cnt - s.pos[k].cnt).natAbs = 1 := by
  obtain ⟨hmoved, hcnt⟩ := moveStamp_record (s.hallTaken k code sec cycle) k d dir cycle
  rw [hallTaken_record] at hmoved hcnt
  refine ⟨hmoved.hall, ?_⟩
  rw [hcnt]
  show (s.pos[k].cnt + State.sensed _ k d - s.pos[k].cnt).natAbs = 1
  rw [add_sub_cancel_left, sensed_natAbs, hd]

/-- A legal Hall code (R140). -/
theorem hallEdge_legal_runs (hm : s.posMode k = 2) (hs : hallSector code.val = some sec) :
    Runs (.hallEdge k code cycle) s (fun t => t.pos[k].hall = code.val ∧ t.pos[k].sector = sec ∧
      (s.pos[k].base = false → t.pos[k].base = true ∧ t.pos[k].cnt = s.pos[k].cnt) ∧
      (s.pos[k].base = true → (sec + 6 - s.pos[k].sector) % 6 = 1 ∨ (sec + 6 - s.pos[k].sector) % 6 = 5 →
        (t.pos[k].cnt - s.pos[k].cnt).natAbs = 1)) := by
  have htaken : (s.hallTaken k code sec cycle).pos[k].showsHall code sec := by
    rw [hallTaken_record]
    exact ⟨rfl, rfl⟩
  rw [Runs, hallEdge_legal hm hs]
  cases hbase : s.pos[k].base
  · refine ⟨_, rfl, htaken.1, htaken.2, fun _ => ?_, fun h => absurd h Bool.false_ne_true⟩
    rw [hallTaken_record]
    exact ⟨rfl, rfl⟩
  · have hknown {p : Prop} (h : true = false) : p := absurd h.symm Bool.false_ne_true
    generalize (sec + 6 - s.pos[k].sector) % 6 = step
    rw [if_neg (by decide)]
    split
    · exact ⟨_, rfl, htaken.1, htaken.2, hknown, fun _ h => absurd h (by decide)⟩
    · obtain ⟨hshows, hcnt⟩ := hallStep_record s k code sec cycle (d := 1) rfl (some (s.flag (Reg.POS.CH.CFG.DIR_INV k.val)))
      exact ⟨_, rfl, hshows.1, hshows.2, hknown, fun _ _ => hcnt⟩
    · obtain ⟨hshows, hcnt⟩ := hallStep_record s k code sec cycle (d := -1) rfl (some (!s.flag (Reg.POS.CH.CFG.DIR_INV k.val)))
      exact ⟨_, rfl, hshows.1, hshows.2, hknown, fun _ _ => hcnt⟩
    · rename_i _ h1 h5
      obtain ⟨homed, bad, r, hrecord⟩ := posIllegal_record ((s.hallTaken k code sec cycle).raise (posCause k 3)) k
      rw [pos_congr (State.raise_pos _ _), hallTaken_record] at hrecord
      exact ⟨_, rfl, (congrArg PosCh.hall hrecord :), (congrArg PosCh.sector hrecord :), hknown,
        fun _ h => (h.elim h1 h5).elim⟩

/-- An illegal Hall code counts as an illegal transition (R140). -/
theorem hallEdge_illegal_runs (hm : s.posMode k = 2) (hs : hallSector code.val = none) :
    Runs (.hallEdge k code cycle) s (fun t => t.pos[k].cnt = s.pos[k].cnt ∧ t.causeSet ⟨24 + k.val, 3⟩ = true ∧
      t.get (Reg.POS.CH.COUNTERS.ILLEGAL k.val) = min (s.get (Reg.POS.CH.COUNTERS.ILLEGAL k.val) + 1) 65535) := by
  have hexec : exec (.hallEdge k code cycle) s =
      .next (((s.setPos k { s.pos[k] with hall := code.val }).raise (posCause k 3)).posIllegal k) := by
    show execHallEdge k code cycle s = _
    unfold execHallEdge
    rw [if_neg (not_not.mpr hm)]
    dsimp only
    rw [hs]
  obtain ⟨homed, bad, r, hrecord⟩ := posIllegal_record ((s.setPos k { s.pos[k] with hall := code.val }).raise (posCause k 3)) k
  rw [pos_congr (State.raise_pos _ _), pos_setPos] at hrecord
  refine ⟨_, hexec, (congrArg PosCh.cnt hrecord :),
    posIllegal_causes (c := posCause k 3) _ k (show 3 < 32 by decide) (.inl (causeSet_posCause _ (by decide))), ?_⟩
  rw [posIllegal_counts, (PosActed.raise _ 3).get (Nat.le_add_right_of_le (by decide))]
  rfl

end Sys2Proof.Machine
end

section
/-! The resolver (R143 to R145). -/

namespace Sys2Proof.Machine

variable {s : State} {k : Fin 4}

theorem heldEnd_pos (s : State) (target index : Nat) : (s.heldEnd target index).pos = s.pos := by
  unfold State.heldEnd
  split
  · rfl
  · rfl

/-- An action held back by a SHADOW window judges nothing (R395). -/
theorem heldAct_record {act : State → State} (target index : Nat) (h : s.pos[k].judged (act s).pos[k]) :
    s.pos[k].judged (s.heldAct target index act).pos[k] := by
  unfold State.heldAct
  split
  · exact .of_eq rfl
  · exact h

/-! ## RESOLVER_UPDATE -/

theorem resolverUpdate_runs (hm : s.posMode k = 3) (shaft : BitVec 16) (rate error : Rat) (steady : Option Rat) (cycle : Nat) :
    Runs (.resolverUpdate k shaft rate error steady cycle) s (fun t =>
      t.pos[k].loop = shaft - BitVec.ofInt 16 ((((steady.map (fun a => loopLag a (s.get (Reg.POS.CH.RES_CFG.BW k.val)))).getD
        error) * 65536 + 1 / 2).floor) ∧ t.pos[k].rate = rate ∧ t.pos[k].base = true ∧ t.pos[k].tstamp = cycle) := by
  show ∃ t, execResolverUpdate k shaft rate error steady cycle s = .next t ∧ _
  unfold execResolverUpdate
  rw [if_neg (not_not.mpr hm)]
  extract_lets x err angle d s1 bound far fast rpm inv run src y s2 s3
  have herr : err = (steady.map (fun a => loopLag a (s.get (Reg.POS.CH.RES_CFG.BW k.val)))).getD error := by
    cases steady
    · rfl
    · rfl
  have hy : s3.pos[k] = y := (pos_congr (rotSample_keeps s2 k cycle).2 k).trans (pos_setPos s1 k y)
  have hjudged {t : State} (h : s3.pos[k].judged t.pos[k]) : t.pos[k].loop = angle ∧ t.pos[k].rate = rate ∧
      t.pos[k].base = true ∧ t.pos[k].tstamp = cycle := by
    rw [hy] at h
    obtain ⟨hloop, hrate, hbase, htstamp, -⟩ := h.resolver
    exact ⟨hloop, hrate, hbase, htstamp⟩
  rw [← herr]
  split
  · refine ⟨_, rfl, hjudged ?_⟩
    split
    · exact .of_eq rfl
    · exact (posBadM_record s3 k 5 .real).trans (.of_eq (pos_congr (State.raise_pos _ _) k))
  · exact ⟨_, rfl, hjudged (posMonitor_record s3 k _ 8 5 _)⟩

theorem resolverUpdate_off (h : s.posMode k ≠ 3) (shaft : BitVec 16) (rate error : Rat) (steady : Option Rat) (cycle : Nat) :
    exec (.resolverUpdate k shaft rate error steady cycle) s = .next s := if_pos h

/-! ## RES_MONITOR -/

theorem resMonitor_runs (hm : s.posMode k = 3) (amp cur : Rat) (lim : Bool) :
    Runs (.resMonitor k amp cur lim) s (fun t => t.pos[k].amp = amp) := by
  show ∃ t, execResMonitor k amp cur lim s = .next t ∧ _
  unfold execResMonitor
  rw [if_neg (not_not.mpr hm)]
  extract_lets lo hi los exc r1 r2 src s1 s2
  have hs2 : s1.pos[k].judged s2.pos[k] := by
    show s1.pos[k].judged (if los then _ else _ : State).pos[k]
    split
    · split
      · exact heldAct_record 6 k.val (monAct_record s1 k 7 4 .real)
      · exact .of_eq rfl
    · exact (PosCh.judged.of_eq (pos_congr (heldEnd_pos s1 6 k.val) k)).trans (posGood_record _ k 4)
  have hjudged := hs2.trans (posMonitor_record s2 k r2 9 6 exc)
  rw [pos_setPos] at hjudged
  obtain ⟨-, -, -, -, hamp⟩ := hjudged.resolver
  exact ⟨_, rfl, hamp⟩

theorem resMonitor_off (h : s.posMode k ≠ 3) (amp cur : Rat) (lim : Bool) : exec (.resMonitor k amp cur lim) s = .next s :=
  if_pos h

/-! ## RES_PHASE_MEASURE -/

theorem resPhaseMeasure_runs (h : s.posMode k = 3 ∧ s.flag (Reg.POS.CH.RES_CFG.PHASE_AUTO k.val) = true ∧ s.posValid k = true ∧
    s.pos[k].amp * 2 < s.pos[k].amp7) (ph : BitVec 16) :
    Runs (.resPhaseMeasure k ph) s (fun t => t.get (Reg.POS.CH.RES_PHASE.PHASE k.val) = ph.toNat) :=
  ⟨_, if_pos h, (State.get_put_same s _ _ (show 0 + 16 ≤ 32 by decide)).trans (Nat.mod_eq_of_lt ph.isLt)⟩

theorem resPhaseMeasure_idle (h : s.posMode k ≠ 3 ∨ s.flag (Reg.POS.CH.RES_CFG.PHASE_AUTO k.val) = false ∨
    s.posValid k = false ∨ s.pos[k].amp7 ≤ s.pos[k].amp * 2) (ph : BitVec 16) :
    exec (.resPhaseMeasure k ph) s = .next s := by
  refine if_neg fun ⟨hm, hauto, hvalid, hamp⟩ => ?_
  rcases h with h | h | h | h
  · exact h hm
  · exact Bool.false_ne_true (h.symm.trans hauto)
  · exact Bool.false_ne_true (h.symm.trans hvalid)
  · exact absurd hamp (not_lt_of_ge h)

end Sys2Proof.Machine
end

section
/-! Frames of BiSS-C and SSI (R146 to R150). -/

namespace Sys2Proof.Machine

variable {s : State} {k : Fin 4}

/-! ## Discarded frames -/

/-- The causes of a discarded frame are set, and the record stands. -/
theorem foldl_raise_spec (bits : List Nat) : ∀ s : State,
    (bits.foldl (fun u b => u.raise (posCause k b)) s).pos = s.pos ∧
      PosActed k s (bits.foldl (fun u b => u.raise (posCause k b)) s) ∧
      ∀ b ∈ bits, b < 32 → (bits.foldl (fun u b => u.raise (posCause k b)) s).causeSet ⟨24 + k.val, b⟩ = true := by
  induction bits with
  | nil => exact fun s => ⟨rfl, .refl s, fun b hb => absurd hb (List.not_mem_nil)⟩
  | cons b bits ih =>
    intro s
    obtain ⟨hpos, hacted, hset⟩ := ih (s.raise (posCause k b))
    refine ⟨hpos.trans (State.raise_pos s _), (PosActed.raise s b).trans hacted, fun c hc hlt => ?_⟩
    rcases List.mem_cons.mp hc with rfl | hc
    · exact hacted.causes (posCause k c) hlt (causeSet_posCause s hlt)
    · exact hset c hc hlt

/-- The state of a discarded frame before ERR_LIMIT is judged (R149). -/
def State.discarded (s : State) (k : Fin 4) (bits : List Nat) : State :=
  bits.foldl (fun u b => u.raise (posCause k b)) (s.setPos k { s.pos[k] with errRun := s.pos[k].errRun + 1 })

theorem discarded_record (s : State) (k : Fin 4) (bits : List Nat) :
    (s.discarded k bits).pos[k] = { s.pos[k] with errRun := s.pos[k].errRun + 1 } :=
  (pos_congr (foldl_raise_spec bits _).1 k).trans (pos_setPos s k _)

theorem posDiscard_judged (s : State) (k : Fin 4) (bits : List Nat) :
    PosActed k (s.discarded k bits) (s.posDiscard k bits) ∧ (s.discarded k bits).pos[k].judged (s.posDiscard k bits).pos[k] := by
  unfold State.posDiscard
  dsimp only
  split
  · exact ⟨posUpdM_acted _ k _ 7 .real, posBadM_record _ k 7 .real⟩
  · exact ⟨.refl _, .of_eq rfl⟩

theorem posDiscard_record (s : State) (k : Fin 4) (bits : List Nat) : ∃ bad r, (s.posDiscard k bits).pos[k] =
    { s.pos[k] with errRun := s.pos[k].errRun + 1, bad := bad, reason := r } := by
  have h := (posDiscard_judged s k bits).2
  rw [discarded_record] at h
  exact ⟨_, _, h⟩

theorem posDiscard_acted (s : State) (k : Fin 4) (bits : List Nat) : PosActed k s (s.posDiscard k bits) :=
  .trans (t := s.setPos k _) (.of_regs rfl) ((foldl_raise_spec bits _).2.1.trans (posDiscard_judged s k bits).1)

theorem posDiscard_causes (s : State) (k : Fin 4) {bits : List Nat} {b : Nat} (hb : b ∈ bits) (hlt : b < 32) :
    (s.posDiscard k bits).causeSet ⟨24 + k.val, b⟩ = true :=
  (posDiscard_judged s k bits).1.causes ⟨24 + k.val, b⟩ hlt ((foldl_raise_spec bits _).2.2 b hb hlt)

/-! ## SER_FRAME_START and SER_TIMEOUT -/

/-- The interface reads a serial sensor. -/
def State.serial (s : State) (k : Fin 4) : Prop := s.posMode k = 4 ∨ s.posMode k = 5

theorem serial_iff (s : State) (k : Fin 4) : s.serial k ↔ ¬(s.posMode k ≠ 4 ∧ s.posMode k ≠ 5) := by
  rw [State.serial, not_and_or, not_not, not_not]

theorem serFrameStart_starts (hm : s.serial k) (hr : s.pos[k].frameRun = false) (cycle : Nat) :
    Runs (.serFrameStart k true cycle) s (fun t => t.pos[k].frameRun = true ∧
      t.pos[k].frameAt = cycle + s.get (Reg.POS.CH.SER_LAT.SENSOR_LAT k.val) * 3 / 10) := by
  have hfree : ¬(s.pos[k].frameRun || !true) = true := by rw [hr]; decide
  refine ⟨_, (if_neg ((serial_iff s k).mp hm)).trans (if_neg hfree), ?_⟩
  beta_reduce
  rw [pos_setPos]
  exact ⟨rfl, rfl⟩

theorem serFrameStart_discards (hm : s.serial k) {sda : Bool} (h : s.pos[k].frameRun = true ∨ sda = false) (cycle : Nat) :
    Runs (.serFrameStart k sda cycle) s (fun t => t.pos[k].frameRun = s.pos[k].frameRun ∧
      t.pos[k].errRun = s.pos[k].errRun + 1 ∧ t.causeSet ⟨24 + k.val, 10⟩ = true) := by
  have hbusy : (s.pos[k].frameRun || !sda) = true := by
    rw [Bool.or_eq_true, Bool.not_eq_true']
    exact h
  obtain ⟨bad, r, hrecord⟩ := posDiscard_record s k [10]
  exact ⟨_, (if_neg ((serial_iff s k).mp hm)).trans (if_pos hbusy), (congrArg PosCh.frameRun hrecord :),
    (congrArg PosCh.errRun hrecord :), posDiscard_causes s k (List.mem_singleton_self 10) (by decide)⟩

theorem serFrameStart_off (h4 : s.posMode k ≠ 4) (h5 : s.posMode k ≠ 5) (sda : Bool) (cycle : Nat) :
    exec (.serFrameStart k sda cycle) s = .next s := if_pos ⟨h4, h5⟩

theorem serTimeout_runs (h : s.pos[k].frameRun = true) : Runs (.serTimeout k) s (fun t => t.pos[k].frameRun = false ∧
    t.pos[k].errRun = s.pos[k].errRun + 1 ∧ t.causeSet ⟨24 + k.val, 10⟩ = true) := by
  obtain ⟨bad, r, hrecord⟩ := posDiscard_record (s.setPos k { s.pos[k] with frameRun := false }) k [10]
  rw [pos_setPos] at hrecord
  exact ⟨_, if_pos h, (congrArg PosCh.frameRun hrecord :), (congrArg PosCh.errRun hrecord :),
    posDiscard_causes _ k (List.mem_singleton_self 10) (by decide)⟩

theorem serTimeout_idle (h : s.pos[k].frameRun = false) : exec (.serTimeout k) s = .next s :=
  if_neg (by rw [h]; exact Bool.false_ne_true)

/-! ## SER_FRAME_END -/

/-- The position bits of a frame. -/
def State.frameBits (s : State) (k : Fin 4) : Nat :=
  s.get (Reg.POS.CH.SER_CFG0.MT_BITS k.val) + s.get (Reg.POS.CH.SER_CFG0.ST_BITS k.val)

/-- The status bits of a frame. -/
def State.frameStatus (s : State) (k : Fin 4) : Nat := min (s.get (Reg.POS.CH.SER_CFG0.STATUS_BITS k.val)) 2

/-- The bits of a frame as received. -/
def State.frameWord (s : State) (k : Fin 4) (data : Nat) : Nat := data % 2 ^ (s.frameBits k + s.frameStatus k)

/-- The CRC that belongs to a frame (R146). -/
def State.frameCrc (s : State) (k : Fin 4) (data : Nat) : Nat :=
  let w := s.get (Reg.POS.CH.SER_CFG1.CRC_LEN k.val)
  let crc := if w = 0 then 0
    else crcBits w (s.get (Reg.POS.CH.SER_CFG1.CRC_POLY k.val)) (s.frameWord k data) (s.frameBits k + s.frameStatus k) 0
  if s.flag (Reg.POS.CH.SER_CFG1.CRC_INV k.val) then 2 ^ w - 1 - crc else crc

/-- The ones of a frame and of its parity bit are odd in number. -/
def State.frameOdd (s : State) (k : Fin 4) (data : Nat) (par : Bool) : Bool :=
  decide ((onesIn (s.frameWord k data) (s.frameBits k + s.frameStatus k) + b2n par) % 2 = 1)

/-- The CRC of a BiSS-C frame or the parity of an SSI frame does not match. -/
def State.frameCrcBad (s : State) (k : Fin 4) (data crc : Nat) (par : Bool) : Bool :=
  let w := s.get (Reg.POS.CH.SER_CFG1.CRC_LEN k.val)
  let parity := s.get (Reg.POS.CH.SER_CFG0.PARITY k.val)
  (decide (s.posMode k = 4) && decide (0 < w) && decide (crc % 2 ^ w ≠ s.frameCrc k data)) ||
    (decide (s.posMode k = 5) && ((decide (parity = 1) && s.frameOdd k data par) ||
      (decide (parity = 2) && !s.frameOdd k data par)))

/-- The error bit of a frame is active. -/
def State.frameErr (s : State) (k : Fin 4) (data : Nat) : Bool :=
  decide (1 ≤ s.frameStatus k) && decide (s.frameWord k data / 2 ^ (s.frameStatus k - 1) % 2 = 0)

/-- The causes of a frame's failures (R149): FRAME_ERR, CRC_ERR, SENSOR_ERR. -/
def State.frameFailures (s : State) (k : Fin 4) (data crc : Nat) (par sda : Bool) : List Nat :=
  (if sda then [] else [10]) ++ (if s.frameCrcBad k data crc par then [11] else []) ++ (if s.frameErr k data then [12] else [])

/-- A frame has ended, with its warning where it has one. -/
def State.frameEnded (s : State) (k : Fin 4) (data crc : Nat) (par sda : Bool) : State :=
  (s.setPos k { s.pos[k] with frameRun := false }).setIf
    (decide (s.frameStatus k = 2) && decide (s.frameWord k data % 2 = 0) && sda && !s.frameCrcBad k data crc par) (posCause k 13)

/-- A discarded frame counts in CRC_ERRS where its CRC or parity fails. -/
def State.frameCounted (s : State) (k : Fin 4) (data crc : Nat) (par sda : Bool) : State :=
  if s.frameCrcBad k data crc par then (s.frameEnded k data crc par sda).bump (Reg.POS.CH.COUNTERS.CRC_ERRS k.val)
  else s.frameEnded k data crc par sda

/-- The position of a frame: the bits as received, or decoded from Gray code. -/
def State.frameRaw (s : State) (k : Fin 4) (data : Nat) : Nat :=
  let raw := s.frameWord k data / 2 ^ s.frameStatus k
  if s.posMode k = 5 ∧ s.flag (Reg.POS.CH.SER_CFG0.GRAY k.val) = true then grayDecode raw (s.frameBits k) else raw

variable {data crc : Nat} {par sda : Bool}

theorem frame_guard (hm : s.serial k) (hr : s.pos[k].frameRun = true) :
    ¬((s.posMode k ≠ 4 ∧ s.posMode k ≠ 5) ∨ s.pos[k].frameRun = false) := by
  rw [not_or, hr]
  exact ⟨(serial_iff s k).mp hm, Bool.true_eq_false.mp⟩

theorem frameEnded_record (s : State) (k : Fin 4) (data crc : Nat) (par sda : Bool) :
    (s.frameEnded k data crc par sda).pos[k] = { s.pos[k] with frameRun := false } :=
  (pos_congr (State.setIf_pos _ _ _) k).trans (pos_setPos s k _)

theorem frameEnded_acted (s : State) (k : Fin 4) (data crc : Nat) (par sda : Bool) :
    PosActed k s (s.frameEnded k data crc par sda) :=
  .trans (t := s.setPos k _) (.of_regs rfl) (.setIf _ _ 13)

theorem frameCounted_record (s : State) (k : Fin 4) (data crc : Nat) (par sda : Bool) :
    (s.frameCounted k data crc par sda).pos[k] = { s.pos[k] with frameRun := false } := by
  unfold State.frameCounted
  split
  · exact frameEnded_record s k data crc par sda
  · exact frameEnded_record s k data crc par sda

theorem serFrameEnd_off (h : (s.posMode k ≠ 4 ∧ s.posMode k ≠ 5) ∨ s.pos[k].frameRun = false) :
    exec (.serFrameEnd k data crc par sda) s = .next s := if_pos h

theorem serFrameEnd_discards (hm : s.serial k) (hr : s.pos[k].frameRun = true) (hf : s.frameFailures k data crc par sda ≠ []) :
    exec (.serFrameEnd k data crc par sda) s =
      .next ((s.frameCounted k data crc par sda).posDiscard k (s.frameFailures k data crc par sda)) :=
  (if_neg (frame_guard hm hr)).trans (if_pos hf)

/-- The first good frame sets the position (R150). -/
def State.firstFrame (s : State) (k : Fin 4) (raw : Nat) (p : Int) (instant : Nat) : State :=
  (s.posPlace k p p).setPos k { (s.posPlace k p p).pos[k] with
    lastFrame := some raw, base := true, errRun := 0, tstamp := instant, stamps := [(p, instant)], dirSeen := false
    bad := (s.posPlace k p p).pos[k].bad &&& ~~~(1#10 <<< 7) }

/-- A later good frame moves the position (R150). -/
def State.laterFrame (s : State) (k : Fin 4) (raw : Nat) (diff : Int) (instant : Nat) : State :=
  (s.posMove k diff).setPos k { (s.posMove k diff).pos[k] with
    lastFrame := some raw, errRun := 0, tstamp := instant, bad := (s.posMove k diff).pos[k].bad &&& ~~~(1#10 <<< 7) }

theorem serFrameEnd_good (hm : s.serial k) (hr : s.pos[k].frameRun = true) (hf : s.frameFailures k data crc par sda = []) :
    ∃ (d : Int) (dir : Option Bool), exec (.serFrameEnd k data crc par sda) s =
        .next ((s.frameEnded k data crc par sda).firstFrame k (s.frameRaw k data) d s.pos[k].frameAt) ∨
      exec (.serFrameEnd k data crc par sda) s =
        .next (((s.frameEnded k data crc par sda).laterFrame k (s.frameRaw k data) d s.pos[k].frameAt).posStamp k dir
          s.pos[k].frameAt) := by
  have hexec : exec (.serFrameEnd k data crc par sda) s = _ := (if_neg (frame_guard hm hr)).trans (if_neg (not_not.mpr hf))
  rw [hexec]
  extract_lets
  split
  · exact ⟨_, none, .inl rfl⟩
  · extract_lets
    split
    · exact ⟨_, _, .inr rfl⟩
    · exact ⟨_, _, .inr rfl⟩

theorem firstFrame_record (s : State) (k : Fin 4) (raw : Nat) (p : Int) (instant : Nat) :
    (s.firstFrame k raw p instant).pos[k].frameRun = s.pos[k].frameRun ∧ (s.firstFrame k raw p instant).pos[k].errRun = 0 ∧
      (s.firstFrame k raw p instant).pos[k].lastFrame = some raw := by
  have hplaced := (posPlace_record s k p p).1
  rw [State.firstFrame, pos_setPos]
  exact ⟨hplaced.frame.1, rfl, rfl⟩

theorem laterFrame_record (s : State) (k : Fin 4) (raw : Nat) (diff : Int) (dir : Option Bool) (instant : Nat) :
    let t := (s.laterFrame k raw diff instant).posStamp k dir instant
    t.pos[k].frameRun = s.pos[k].frameRun ∧ t.pos[k].errRun = 0 ∧ t.pos[k].lastFrame = some raw := by
  have hmoved := (posMove_record s k diff).1
  have hstamped := (posStamp_record (s.laterFrame k raw diff instant) k dir instant).1
  have hself : (s.laterFrame k raw diff instant).pos[k] = _ := pos_setPos _ k _
  rw [hself] at hstamped
  obtain ⟨hrun, herr, hlast⟩ := hstamped.frame
  exact ⟨hrun.trans hmoved.frame.1, herr, hlast⟩

/-- A frame without a failure is accepted (R148, R150). -/
theorem serFrameEnd_accepts (hm : s.serial k) (hr : s.pos[k].frameRun = true) (hf : s.frameFailures k data crc par sda = []) :
    Runs (.serFrameEnd k data crc par sda) s (fun t => t.pos[k].frameRun = false ∧ t.pos[k].errRun = 0 ∧
      t.pos[k].lastFrame = some (s.frameRaw k data)) := by
  have hended := frameEnded_record s k data crc par sda
  obtain ⟨d, dir, hexec | hexec⟩ := serFrameEnd_good hm hr hf
  · obtain ⟨hrun, herr, hlast⟩ := firstFrame_record (s.frameEnded k data crc par sda) k (s.frameRaw k data) d s.pos[k].frameAt
    exact ⟨_, hexec, hrun.trans (congrArg PosCh.frameRun hended :), herr, hlast⟩
  · obtain ⟨hrun, herr, hlast⟩ :=
      laterFrame_record (s.frameEnded k data crc par sda) k (s.frameRaw k data) d dir s.pos[k].frameAt
    exact ⟨_, hexec, hrun.trans (congrArg PosCh.frameRun hended :), herr, hlast⟩

/-- A frame ends: it is accepted, or discarded with the cause of each of its failures (R149). -/
theorem serFrameEnd_runs (hm : s.serial k) (hr : s.pos[k].frameRun = true) :
    Runs (.serFrameEnd k data crc par sda) s (fun t => t.pos[k].frameRun = false ∧
      ((sda = true ∧ t.pos[k].errRun = 0 ∧ t.pos[k].lastFrame.isSome = true) ∨
        (t.pos[k].errRun = s.pos[k].errRun + 1 ∧ t.pos[k].cnt = s.pos[k].cnt ∧ (sda = false → t.causeSet ⟨24 + k.val, 10⟩ = true) ∧
          (t.causeSet ⟨24 + k.val, 10⟩ = true ∨ t.causeSet ⟨24 + k.val, 11⟩ = true ∨
            t.causeSet ⟨24 + k.val, 12⟩ = true)))) := by
  by_cases hf : s.frameFailures k data crc par sda = []
  · obtain ⟨t, hexec, hrun, herr, hlast⟩ := serFrameEnd_accepts hm hr hf
    have hsda : sda = true := by
      cases sda
      · exact absurd hf (List.cons_ne_nil _ _)
      · rfl
    exact ⟨t, hexec, hrun, .inl ⟨hsda, herr, by rw [hlast]; rfl⟩⟩
  · obtain ⟨bad, r, hrecord⟩ := posDiscard_record (s.frameCounted k data crc par sda) k (s.frameFailures k data crc par sda)
    have hcause {b : Nat} := posDiscard_causes (s.frameCounted k data crc par sda) k (bits := s.frameFailures k data crc par sda)
      (b := b)
    rw [frameCounted_record] at hrecord
    refine ⟨_, serFrameEnd_discards hm hr hf, (congrArg PosCh.frameRun hrecord :), .inr ⟨(congrArg PosCh.errRun hrecord :),
      (congrArg PosCh.cnt hrecord :), fun hsda => hcause (by simp [State.frameFailures, hsda]) (by decide), ?_⟩⟩
    obtain ⟨b, hb⟩ := List.exists_mem_of_ne_nil _ hf
    have hbit : b = 10 ∨ b = 11 ∨ b = 12 := by
      simp only [State.frameFailures, List.mem_append, List.mem_ite_nil_left, List.mem_ite_nil_right, List.mem_singleton] at hb
      tauto
    rcases hbit with rfl | rfl | rfl
    · exact .inl (hcause hb (by decide))
    · exact .inr (.inl (hcause hb (by decide)))
    · exact .inr (.inr (hcause hb (by decide)))

/-- A frame whose CRC or parity fails counts in CRC_ERRS. -/
theorem serFrameEnd_crcBad_runs (hm : s.serial k) (hr : s.pos[k].frameRun = true) (hbad : s.frameCrcBad k data crc par = true) :
    Runs (.serFrameEnd k data crc par sda) s (fun t => t.causeSet ⟨24 + k.val, 11⟩ = true ∧
      (sda = false → t.causeSet ⟨24 + k.val, 10⟩ = true) ∧ t.pos[k].errRun = s.pos[k].errRun + 1 ∧
      t.get (Reg.POS.CH.COUNTERS.CRC_ERRS k.val) = min (s.get (Reg.POS.CH.COUNTERS.CRC_ERRS k.val) + 1) 65535) := by
  have hmem : 11 ∈ s.frameFailures k data crc par sda := by simp [State.frameFailures, hbad]
  obtain ⟨bad, r, hrecord⟩ := posDiscard_record (s.frameCounted k data crc par sda) k (s.frameFailures k data crc par sda)
  rw [frameCounted_record] at hrecord
  refine ⟨_, serFrameEnd_discards hm hr (List.ne_nil_of_mem hmem), posDiscard_causes _ k hmem (by decide),
    fun hsda => posDiscard_causes _ k (by simp [State.frameFailures, hsda]) (by decide), (congrArg PosCh.errRun hrecord :), ?_⟩
  have hcounted : s.frameCounted k data crc par sda =
      (s.frameEnded k data crc par sda).bump (Reg.POS.CH.COUNTERS.CRC_ERRS k.val) := if_pos hbad
  rw [(posDiscard_acted _ k _).get (Nat.le_add_right_of_le (by decide)), hcounted, get_bump_same _ _ (show 16 + 16 ≤ 32 by decide),
    (frameEnded_acted s k data crc par sda).get (Nat.le_add_right_of_le (by decide))]
  rfl

/-! ## Frames without status bits -/

theorem frameStatus_zero (h : s.get (Reg.POS.CH.SER_CFG0.STATUS_BITS k.val) = 0) : s.frameStatus k = 0 := by
  rw [State.frameStatus, h]
  rfl

theorem frameErr_of_no_status (h : s.get (Reg.POS.CH.SER_CFG0.STATUS_BITS k.val) = 0) : s.frameErr k data = false := by
  rw [State.frameErr, frameStatus_zero h]
  rfl

theorem frameWord_of_no_status (h : s.get (Reg.POS.CH.SER_CFG0.STATUS_BITS k.val) = 0) :
    s.frameWord k data = data % 2 ^ s.frameBits k := by
  rw [State.frameWord, frameStatus_zero h, Nat.add_zero]

/-- The CRC of the position bits alone, as R146 forms it. -/
def State.plainCrc (s : State) (k : Fin 4) (data : Nat) : Nat :=
  crcBits (s.get (Reg.POS.CH.SER_CFG1.CRC_LEN k.val)) (s.get (Reg.POS.CH.SER_CFG1.CRC_POLY k.val)) (data % 2 ^ s.frameBits k)
    (s.frameBits k) 0

theorem frameCrc_plain (h : s.get (Reg.POS.CH.SER_CFG0.STATUS_BITS k.val) = 0)
    (hi : s.flag (Reg.POS.CH.SER_CFG1.CRC_INV k.val) = false) (hw : 0 < s.get (Reg.POS.CH.SER_CFG1.CRC_LEN k.val)) :
    s.frameCrc k data = s.plainCrc k data := by
  rw [State.frameCrc, hi, if_neg Bool.false_ne_true, if_neg (Nat.ne_of_gt hw), frameWord_of_no_status h, frameStatus_zero h]
  rfl

theorem frameCrcBad_biss (hm : s.posMode k = 4) (h : s.get (Reg.POS.CH.SER_CFG0.STATUS_BITS k.val) = 0)
    (hi : s.flag (Reg.POS.CH.SER_CFG1.CRC_INV k.val) = false) : s.frameCrcBad k data crc par =
      decide (0 < s.get (Reg.POS.CH.SER_CFG1.CRC_LEN k.val) ∧
        crc % 2 ^ s.get (Reg.POS.CH.SER_CFG1.CRC_LEN k.val) ≠ s.plainCrc k data) := by
  unfold State.frameCrcBad
  rw [hm]
  by_cases hw : 0 < s.get (Reg.POS.CH.SER_CFG1.CRC_LEN k.val)
  · simp [hw, frameCrc_plain h hi hw]
  · simp [hw]

theorem frameCrcBad_ssi (hm : s.posMode k = 5) (hp : s.get (Reg.POS.CH.SER_CFG0.PARITY k.val) = 0) :
    s.frameCrcBad k data crc par = false := by
  rw [State.frameCrcBad, hm, hp]
  rfl

theorem frameRaw_plain (h : s.get (Reg.POS.CH.SER_CFG0.STATUS_BITS k.val) = 0)
    (hg : ¬(s.posMode k = 5 ∧ s.flag (Reg.POS.CH.SER_CFG0.GRAY k.val) = true)) :
    s.frameRaw k data = data % 2 ^ s.frameBits k := by
  rw [State.frameRaw, if_neg hg, frameWord_of_no_status h, frameStatus_zero h, Nat.pow_zero, Nat.div_one]

theorem frameFailures_none (h : s.get (Reg.POS.CH.SER_CFG0.STATUS_BITS k.val) = 0) (hc : s.frameCrcBad k data crc par = false) :
    s.frameFailures k data crc par true = [] := by
  rw [State.frameFailures, hc, frameErr_of_no_status h]
  rfl

/-- A good frame of BiSS-C, or of SSI without parity, is taken (R146, R147). -/
theorem serFrameEnd_good_runs (hr : s.pos[k].frameRun = true) (h : s.get (Reg.POS.CH.SER_CFG0.STATUS_BITS k.val) = 0)
    (hgood : s.posMode k = 4 ∧ s.flag (Reg.POS.CH.SER_CFG1.CRC_INV k.val) = false ∧
        crc % 2 ^ s.get (Reg.POS.CH.SER_CFG1.CRC_LEN k.val) = s.plainCrc k data ∨
      s.posMode k = 5 ∧ s.get (Reg.POS.CH.SER_CFG0.PARITY k.val) = 0 ∧ s.flag (Reg.POS.CH.SER_CFG0.GRAY k.val) = false) :
    Runs (.serFrameEnd k data crc par true) s (fun t => t.pos[k].frameRun = false ∧ t.pos[k].errRun = 0 ∧
      t.pos[k].lastFrame = some (data % 2 ^ s.frameBits k)) := by
  rcases hgood with ⟨hm, hi, hcrc⟩ | ⟨hm, hp, hg⟩
  · have hbad : s.frameCrcBad k data crc par = false := by
      rw [frameCrcBad_biss hm h hi, decide_eq_false fun hne => hne.2 hcrc]
    rw [← frameRaw_plain h fun h5 => absurd (hm.symm.trans h5.1) (by decide)]
    exact serFrameEnd_accepts (.inl hm) hr (frameFailures_none h hbad)
  · rw [← frameRaw_plain h fun h5 => Bool.false_ne_true (hg.symm.trans h5.2)]
    exact serFrameEnd_accepts (.inr hm) hr (frameFailures_none h (frameCrcBad_ssi hm hp))

/-- A BiSS-C frame whose CRC does not match is discarded with CRC_ERR (R149). -/
theorem serFrameEnd_mismatch_runs (hm : s.posMode k = 4) (hr : s.pos[k].frameRun = true)
    (h : s.get (Reg.POS.CH.SER_CFG0.STATUS_BITS k.val) = 0) (hi : s.flag (Reg.POS.CH.SER_CFG1.CRC_INV k.val) = false)
    (hw : 0 < s.get (Reg.POS.CH.SER_CFG1.CRC_LEN k.val))
    (hcrc : crc % 2 ^ s.get (Reg.POS.CH.SER_CFG1.CRC_LEN k.val) ≠ s.plainCrc k data) :
    Runs (.serFrameEnd k data crc par sda) s (fun t => t.causeSet ⟨24 + k.val, 11⟩ = true ∧
      (sda = false → t.causeSet ⟨24 + k.val, 10⟩ = true) ∧ t.pos[k].errRun = s.pos[k].errRun + 1 ∧
      t.get (Reg.POS.CH.COUNTERS.CRC_ERRS k.val) = min (s.get (Reg.POS.CH.COUNTERS.CRC_ERRS k.val) + 1) 65535) :=
  serFrameEnd_crcBad_runs (.inl hm) hr ((frameCrcBad_biss hm h hi).trans (decide_eq_true ⟨hw, hcrc⟩))

end Sys2Proof.Machine
end

section
/-! Reads, wires and the commands of a position interface (R133, R152, R157). -/

namespace Sys2Proof.Machine

variable {s : State} {k : Fin 4}

/-! ## POS_ANGLE_READ -/

/-- A read of ANGLE shows the angle and latches the rest of the instant (R133). -/
theorem posAngleRead_runs (s : State) (k : Fin 4) (cycle : Nat) : Runs (.posAngleRead k cycle) s (fun t =>
    t.rd (Reg.POS.CH.POS_LO.addr k.val) = BitVec.ofNat 32 (codeOf 48 s.pos[k].pos) ∧
    t.rd (Reg.POS.CH.POS_HI.addr k.val) = BitVec.ofNat 32 (codeOf 48 s.pos[k].pos / 2 ^ 32) ∧
    t.rd (Reg.POS.CH.STATUS.addr k.val) = s.posStatus k ∧
    t.rd (Reg.POS.CH.ANGLE.addr k.val) = s.posAngleAt k cycle false) := by
  have hne {a b : Nat} (h : a ≠ b) : a + k.val * 0x100 ≠ b + k.val * 0x100 := fun e => h (Nat.add_right_cancel e)
  refine ⟨_, rfl, ?_, ?_, State.rd_wr_same _ _ _, ?_⟩
  · rw [State.rd_wr_other _ _ _ _ (hne (by decide)), State.rd_wr_other _ _ _ _ (hne (by decide)),
      State.rd_wr_other _ _ _ _ (hne (by decide)), State.rd_wr_same]
  · rw [State.rd_wr_other _ _ _ _ (hne (by decide)), State.rd_wr_other _ _ _ _ (hne (by decide)), State.rd_wr_same]
  · rw [State.rd_wr_other _ _ _ _ (hne (by decide)), State.rd_wr_other _ _ _ _ (hne (by decide)),
      State.rd_wr_other _ _ _ _ (hne (by decide)), State.rd_wr_other _ _ _ _ (hne (by decide)),
      State.rd_wr_other _ _ _ _ (hne (by decide)), State.rd_wr_same]

/-! ## WIRE_FAULT and WIRE_RECOVER -/

variable {pair : Fin 4}

/-- A pair in the condition takes VALID (R152). -/
theorem wireFault_runs (hu : s.pairUsed k pair.val = true) (hw : s.windowAt 4 (4 * k.val + pair.val) = false) :
    Runs (.wireFault k pair) s (fun t => t.posValid k = false ∧ t.pos[k].wires.getLsbD pair.val = true ∧
      t.causeSet ⟨24 + k.val, 2⟩ = true) := by
  have hexec : exec (.wireFault k pair) s = .next (s.wireAct k pair.val .real) :=
    (if_pos hu).trans (congrArg Host.Outcome.next (heldAct_of_no_window hw _))
  obtain ⟨r, hr⟩ := posUpdM_record s k { s.pos[k] with
    wires := s.pos[k].wires ||| (1#4 <<< pair.val), bad := s.pos[k].bad ||| (1#10 <<< 2)
    homed := s.pos[k].homed && decide (s.posMode k ≠ 1) } 2 .real
  have hrecord := (pos_congr (State.raiseM_pos _ (posCause k 2) .real) k).trans hr
  refine ⟨_, hexec, posValid_of_bad ?_, ?_, causeSet_posCause _ (by decide)⟩
  · rw [show (s.wireAct k pair.val .real).pos[k] = _ from hrecord]
    exact or_shift_ne_zero _ (by decide)
  · rw [show (s.wireAct k pair.val .real).pos[k] = _ from hrecord]
    simp

theorem wireFault_held (hu : s.pairUsed k pair.val = true) (hw : s.windowAt 4 (4 * k.val + pair.val) = true) :
    Runs (.wireFault k pair) s (fun t => t.pos = s.pos ∧ t.regs = s.regs) :=
  ⟨s.noteSeen 1, (if_pos hu).trans (congrArg Host.Outcome.next (if_pos hw)), rfl, rfl⟩

theorem wireFault_unused (hu : s.pairUsed k pair.val = false) : exec (.wireFault k pair) s = .next s :=
  if_neg (by rw [hu]; exact Bool.false_ne_true)

/-- Every pair has left the condition (R152). -/
theorem wireRecover_runs (s : State) (k : Fin 4) :
    Runs (.wireRecover k) s (fun t => t.pos[k].wires = 0#4 ∧ t.pos[k].bad.getLsbD 2 = false) := by
  refine ⟨_, rfl, ?_⟩
  beta_reduce
  rw [State.posGood, pos_setPos, pos_setPos]
  exact ⟨rfl, by simp⟩

/-! ## PRESET, CLEAR_HOMED and CLEAR_COUNTERS -/

theorem status_code (s : State) (k : Fin 4) {code : Nat} (h : code < 256) :
    (s.status (Reg.POS.CH.CMD_STATUS.addr k.val) code).get (Reg.POS.CH.CMD_STATUS.CODE k.val) = code :=
  (State.get_status s _ code).trans (Nat.mod_eq_of_lt h)

/-- The value of PRESET_HI and PRESET_LO. -/
def State.presetValue (s : State) (k : Fin 4) : Int :=
  signedOf 48 (s.get (Reg.POS.CH.PRESET_LO.LO k.val) + s.get (Reg.POS.CH.PRESET_HI.HI k.val) * 2 ^ 32)

/-- The interface at its preset value, with an edge of the same cycle (R157). -/
def State.preset (s : State) (k : Fin 4) (edge : BitVec 2) : State := (s.posRebase k (s.presetValue k)).posMove k edge.toInt

theorem preset_record (s : State) (k : Fin 4) (edge : BitVec 2) :
    (s.preset k edge).pos[k].cnt = s.presetValue k + s.sensed k edge.toInt ∧ (s.preset k edge).pos[k].homed = true := by
  obtain ⟨hcnt, hhomed, -⟩ := posRebase_record s k (s.presetValue k)
  obtain ⟨hmoved, hmove⟩ := posMove_record (s.posRebase k (s.presetValue k)) k edge.toInt
  have hinv : (s.posRebase k (s.presetValue k)).flag (Reg.POS.CH.CFG.DIR_INV k.val) = s.flag (Reg.POS.CH.CFG.DIR_INV k.val) :=
    (posRebase_acted s k _).flag (Nat.le_add_right_of_le (by decide))
  rw [hcnt, State.sensed, hinv] at hmove
  exact ⟨hmove, hmoved.homed.trans hhomed⟩

theorem preset_pos (hlo : s.softMin k ≤ s.presetValue k) (hhi : s.presetValue k ≤ s.softMax k) :
    (s.preset k 0#2).pos[k].pos = s.presetValue k := by
  have hstill : s.preset k 0#2 = s.posRebase k (s.presetValue k) := if_pos (by split <;> rfl)
  rw [hstill]
  exact (posRebase_record s k _).2.2 hlo hhi

/-- PRESET at rest: the count takes the value (R157). -/
theorem posPreset_runs (hrest : s.posResting k = true) (edge : BitVec 2) : Runs (.posPreset k edge) s (fun t =>
    t.pos[k].cnt = s.presetValue k + (if s.flag (Reg.POS.CH.CFG.DIR_INV k.val) then -edge.toInt else edge.toInt) ∧
    t.pos[k].homed = true ∧ t.get (Reg.POS.CH.CMD_STATUS.CODE k.val) = 1 ∧
    (edge = 0#2 → s.softMin k ≤ s.presetValue k → s.presetValue k ≤ s.softMax k → t.pos[k].pos = s.presetValue k)) := by
  have hexec : exec (.posPreset k edge) s = .next ((s.preset k edge).status (Reg.POS.CH.CMD_STATUS.addr k.val) codeOk) := by
    show execPosPreset k edge s = _
    unfold execPosPreset
    rw [if_pos hrest]
    rfl
  obtain ⟨hcnt, hhomed⟩ := preset_record s k edge
  refine ⟨_, hexec, ?_⟩
  beta_reduce
  rw [State.status_pos]
  exact ⟨hcnt, hhomed, status_code _ k (by decide), fun hedge hlo hhi => hedge ▸ preset_pos hlo hhi⟩

theorem posPreset_denied (hrest : s.posResting k = false) (edge : BitVec 2) : Runs (.posPreset k edge) s (fun t =>
    t.pos = s.pos ∧ t.get (Reg.POS.CH.CMD_STATUS.CODE k.val) = 2 ∧ t.causeSet ⟨24 + k.val, 19⟩ = true) := by
  have hne : Reg.POS.CH.CMD_STATUS.addr k.val ≠ Reg.INT.GRP.CAUSE.addr (posCause k 19).grp := by
    simp only [posCause, Reg.POS.CH.CMD_STATUS.addr, Reg.INT.GRP.CAUSE.addr]
    omega
  exact ⟨_, if_neg (by rw [hrest]; exact Bool.false_ne_true), State.deny_pos s _ _, State.get_deny_code s _ _ hne,
    State.causeSet_deny s _ (posCause k 19) (show 19 < 32 by decide)⟩

theorem clearHomed_runs (s : State) (k : Fin 4) : Runs (.clearHomed k) s (fun t => t.pos[k].homed = false ∧
    t.get (Reg.POS.CH.CMD_STATUS.CODE k.val) = 1) := by
  obtain ⟨r, hr⟩ := posUpdM_record s k { s.pos[k] with homed := false } 0 .real
  exact ⟨_, rfl, (congrArg PosCh.homed hr :), status_code _ k (by decide)⟩

theorem posClearCounters_runs (s : State) (k : Fin 4) : Runs (.posClearCounters k) s (fun t =>
    t.get (Reg.POS.CH.COUNTERS.ILLEGAL k.val) = 0 ∧ t.get (Reg.POS.CH.COUNTERS.CRC_ERRS k.val) = 0 ∧
    t.get (Reg.POS.CH.CMD_STATUS.CODE k.val) = 1) := by
  have hne {f : Fld} (hf : f.addr = Reg.POS.CH.COUNTERS.addr k.val) : f.addr ≠ Reg.POS.CH.CMD_STATUS.addr k.val := by
    rw [hf]
    simp only [Reg.POS.CH.COUNTERS.addr, Reg.POS.CH.CMD_STATUS.addr]
    omega
  refine ⟨_, rfl, ?_, ?_, status_code _ k (by decide)⟩
  · rw [State.get_status_ne _ _ _ _ (hne rfl), State.get_put_bits _ _ _ _ (.inl (show 0 + 16 ≤ 16 by decide))
      (show 0 + 16 ≤ 32 by decide), State.get_put_same _ _ _ (show 0 + 16 ≤ 32 by decide)]
    rfl
  · rw [State.get_status_ne _ _ _ _ (hne rfl), State.get_put_same _ _ _ (show 16 + 16 ≤ 32 by decide)]
    rfl

end Sys2Proof.Machine

section
open Sys2Proof.Machine

/-- Settles O8: each command comes to the rule of its row. That a trigger without a frame counts as a discarded one, and SENSOR_LAT in whole
CLK_CTL cycles, are log entry 97; the angle and the instant of a read are log entries 70 and 71. -/
theorem positionCommandsRun : Obligations.PositionCommandsRun := by
  unfold Obligations.PositionCommandsRun
  intro s k
  exact ⟨indexEvent_homing_runs, indexEvent_homed_runs, fun illegal => indexEvent_ignored, speedZeroTimeout_runs,
    speedZeroTimeout_off, fun code sec cycle => hallEdge_legal_runs, fun code cycle => hallEdge_illegal_runs,
    fun code cycle => hallEdge_off,
    fun shaft rate error steady cycle => ⟨fun hm => resolverUpdate_runs hm shaft rate error steady cycle,
      fun hm => resolverUpdate_off hm shaft rate error steady cycle⟩,
    fun amp cur lim => ⟨fun hm => resMonitor_runs hm amp cur lim, fun hm => resMonitor_off hm amp cur lim⟩,
    fun ph => ⟨fun h => resPhaseMeasure_runs h ph, fun h => resPhaseMeasure_idle h ph⟩,
    fun sda cycle => ⟨fun hm hr hsda => hsda ▸ serFrameStart_starts hm hr cycle, fun hm h => serFrameStart_discards hm h cycle,
      fun h4 h5 => serFrameStart_off h4 h5 sda cycle⟩,
    fun data crc par => serFrameEnd_good_runs, fun data crc par sda => serFrameEnd_runs,
    fun data crc par sda => serFrameEnd_mismatch_runs, fun data crc par sda => serFrameEnd_off, serTimeout_runs, serTimeout_idle,
    posAngleRead_runs s k, fun pair => ⟨wireFault_runs, wireFault_held, wireFault_unused⟩, wireRecover_runs s k,
    fun edge hrest => posPreset_runs hrest edge, fun edge hrest => posPreset_denied hrest edge, clearHomed_runs s k,
    posClearCounters_runs s k⟩

end
end
section
/-! The program words of Carve (R166 to R168): what the fields of a word read, which words keep R167, and what an encoded word decodes to. -/

namespace Sys2Proof.Machine

/-! ## The fields of a word -/

/-- The fields OP, D, A, B, C and X of a program word (R166). -/
structure WordHas (w : BitVec 64) (op d a b c x : Nat) : Prop where
  op : w.toNat / 2 ^ 56 = op
  d : w.toNat / 2 ^ 50 % 64 = d
  a : w.toNat / 2 ^ 44 % 64 = a
  b : w.toNat / 2 ^ 38 % 64 = b
  c : w.toNat / 2 ^ 32 % 64 = c
  x : w.toNat % 2 ^ 32 = x

variable {op d a b c x : Nat}

theorem wordHas_carveWord (hop : op < 256) (hd : d < 64) (ha : a < 64) (hb : b < 64) (hc : c < 64) (hx : x < 2 ^ 32) :
    WordHas (carveWord op d a b c x) op d a b c x := by
  have hn : (carveWord op d a b c x).toNat = op * 2 ^ 56 + d * 2 ^ 50 + a * 2 ^ 44 + b * 2 ^ 38 + c * 2 ^ 32 + x := by
    rw [carveWord, BitVec.toNat_ofNat]
    omega
  constructor <;> rw [hn] <;> omega

/-- A word keeps R167 where each of its fields holds what the shape of its opcode allows. -/
theorem WordHas.ok {w : BitVec 64} {ud ua ub uc : FieldUse} {ux : XUse} {count : Nat} (h : WordHas w op d a b c x)
    (hshape : opShape op = some (ud, ua, ub, uc, ux))
    (hfits : (ud.fits d && ua.fits a && ub.fits b && uc.fits c) = true) (hx : ux.fits count x = true)
    (hcos : op ≠ 0x20 ∨ d ≠ 63) : progWordOk count w = true := by
  unfold progWordOk
  dsimp only
  rw [h.op, hshape]
  simp only [h.d, h.a, h.b, h.c, h.x, hfits, hx, Bool.true_and]
  exact decide_eq_true hcos

/-- An instruction is spelled by the word of its fields: the word keeps R167 at every word count that `P` admits, and decodes to it. -/
theorem spelled {i : Instr} {ud ua ub uc : FieldUse} {ux : XUse} {P : Nat → Prop}
    (hshape : opShape op = some (ud, ua, ub, uc, ux))
    (hfits : (ud.fits d && ua.fits a && ub.fits b && uc.fits c) = true) (hx : ∀ count, P count → ux.fits count x = true)
    (hcos : op ≠ 0x20 ∨ d ≠ 63) (hall : P 4096)
    (hdec : ∀ w, WordHas w op d a b c x → progWordOk 4096 w = true → carveDecode w = some i)
    (hop : op < 256 := by decide) (hd : d < 64 := by omega) (ha : a < 64 := by omega) (hb : b < 64 := by omega)
    (hc : c < 64 := by omega) (hlt : x < 2 ^ 32 := by omega) :
    carveDecode (carveWord op d a b c x) = some i ∧ ∀ count, P count → progWordOk count (carveWord op d a b c x) = true :=
  have h := wordHas_carveWord hop hd ha hb hc hlt
  ⟨hdec _ h (h.ok hshape hfits (hx _ hall) hcos), fun count hcount => h.ok hshape hfits (hx count hcount) hcos⟩

/-! ## What the fields of an instruction read -/

@[simp] theorem sField_val (d : Fin 64) : sField d.val = d := Fin.ofNat_val_eq_self d
@[simp] theorem vField_val (d : Fin 32) : vField d.val = d := Fin.ofNat_val_eq_self d
@[simp] theorem cField_val (c : Fin 16) : cField c.val = c := Fin.ofNat_val_eq_self c

/-! ## Which values the fields admit -/

@[simp] theorem fits_no : FieldUse.no.fits 0 = true := rfl
@[simp] theorem fits_s (v : Nat) : FieldUse.s.fits v = true := rfl
@[simp] theorem fits_v (d : Fin 32) : FieldUse.v.fits d.val = true := decide_eq_true d.isLt
@[simp] theorem fits_code (c : Fin 16) : FieldUse.code.fits c.val = true := decide_eq_true c.isLt

variable (count : Nat)

@[simp] theorem xFits_no : XUse.no.fits count 0 = true := rfl
@[simp] theorem xFits_imm (x : Nat) : XUse.imm.fits count x = true := rfl
@[simp] theorem xFits_target (t : Fin 4096) : XUse.target.fits count t.val = decide (t.val < count) := by
  simp [XUse.fits]
@[simp] theorem xFits_sig (n : Fin 8) : XUse.sig.fits count n.val = true := decide_eq_true n.isLt
@[simp] theorem xFits_word (k : Fin 256) : XUse.word.fits count k.val = true := decide_eq_true k.isLt
@[simp] theorem xFits_ipre (mask : BitVec 16) : XUse.ipre.fits count mask.toNat = true := decide_eq_true mask.isLt

@[simp] theorem xFits_words (k : Fin 256) : XUse.words.fits count k.val = decide (k.val % 16 = 0) := by
  simp [XUse.fits]

@[simp] theorem xFits_setb (stride : BitVec 14) (nmax : BitVec 8) :
    XUse.setb.fits count (stride.toNat + nmax.toNat * 16384) = decide (stride.toNat % 16 = 0) :=
  decide_eq_decide.mpr (by omega)

@[simp] theorem xFits_vint (shift : Fin 16) (dir : Bool) : XUse.vint.fits count (shift.val + if dir then 16 else 0) = true :=
  decide_eq_true (by split <;> omega)

@[simp] theorem xFits_port (sl : Fin 4) (p : Fin 64) : XUse.port.fits count (xPort sl p) = true :=
  decide_eq_true (by unfold xPort; omega)

@[simp] theorem xFits_ports (sl : Fin 4) (p : Fin 64) : XUse.ports.fits count (xPort sl p) = decide (p.val % 16 = 0) :=
  decide_eq_decide.mpr (by unfold xPort; omega)

@[simp] theorem xFits_row (m : BitVec 14) (ind : Bool) : XUse.row.fits count (xRow m ind) = decide (m.toNat % 16 = 0) := by
  rw [XUse.fits, ← Bool.decide_and]
  exact decide_eq_decide.mpr (by unfold xRow; split <;> omega)

@[simp] theorem xFits_rows (m : BitVec 14) (ind : Bool) (rows doff : Fin 16) :
    XUse.rows.fits count (xRows m ind rows doff) = decide (m.toNat % 16 = 0 ∧ doff.val + rows.val + 1 ≤ 16) := by
  rw [XUse.fits, ← Bool.decide_and]
  exact decide_eq_decide.mpr (by unfold xRows xRow; split <;> omega)

/-! ## The operands in X -/

@[simp] theorem xPort_lt (sl : Fin 4) (p : Fin 64) : xPort sl p < 4294967296 := by unfold xPort; omega
@[simp] theorem xRow_lt (m : BitVec 14) (ind : Bool) : xRow m ind < 4294967296 := by unfold xRow; split <;> omega
@[simp] theorem xRows_lt (m : BitVec 14) (ind : Bool) (rows doff : Fin 16) : xRows m ind rows doff < 4294967296 := by
  unfold xRows xRow; split <;> omega
@[simp] theorem xVint_lt (shift : Fin 16) (dir : Bool) : (shift.val + if dir then 16 else 0) < 4294967296 := by split <;> omega

theorem slot_xPort (sl : Fin 4) (p : Fin 64) : Fin.ofNat 4 (xPort sl p / 64) = sl := by
  apply Fin.ext; simp only [Fin.val_ofNat, xPort]; omega
theorem port_xPort (sl : Fin 4) (p : Fin 64) : Fin.ofNat 64 (xPort sl p) = p := by
  apply Fin.ext; simp only [Fin.val_ofNat, xPort]; omega

@[simp] theorem maddr_xRow (m : BitVec 14) (ind : Bool) : BitVec.ofNat 14 (xRow m ind) = m := by
  apply BitVec.eq_of_toNat_eq; rw [BitVec.toNat_ofNat, xRow]; split <;> omega
@[simp] theorem ind_xRow (m : BitVec 14) (ind : Bool) : decide (xRow m ind / 16384 % 2 = 1) = ind := by
  cases ind <;> simp only [xRow] <;> simp <;> omega

@[simp] theorem maddr_xRows (m : BitVec 14) (ind : Bool) (rows doff : Fin 16) : BitVec.ofNat 14 (xRows m ind rows doff) = m := by
  apply BitVec.eq_of_toNat_eq; rw [BitVec.toNat_ofNat, xRows, xRow]; split <;> omega
@[simp] theorem ind_xRows (m : BitVec 14) (ind : Bool) (rows doff : Fin 16) :
    decide (xRows m ind rows doff / 16384 % 2 = 1) = ind := by
  cases ind <;> simp only [xRows, xRow] <;> simp <;> omega
@[simp] theorem doff_xRows (m : BitVec 14) (ind : Bool) (rows doff : Fin 16) : cField (xRows m ind rows doff / 65536) = doff := by
  apply Fin.ext; simp only [cField, Fin.val_ofNat, xRows, xRow]; split <;> omega
@[simp] theorem rows_xRows (m : BitVec 14) (ind : Bool) (rows doff : Fin 16) : cField (xRows m ind rows doff / 1048576) = rows := by
  apply Fin.ext; simp only [cField, Fin.val_ofNat, xRows, xRow]; split <;> omega

@[simp] theorem stride_setb (stride : BitVec 14) (nmax : BitVec 8) : BitVec.ofNat 14 (stride.toNat + nmax.toNat * 16384) = stride := by
  apply BitVec.eq_of_toNat_eq; rw [BitVec.toNat_ofNat]; omega
@[simp] theorem nmax_setb (stride : BitVec 14) (nmax : BitVec 8) :
    BitVec.ofNat 8 ((stride.toNat + nmax.toNat * 16384) / 16384) = nmax := by
  apply BitVec.eq_of_toNat_eq; rw [BitVec.toNat_ofNat]; omega

@[simp] theorem shift_vint (shift : Fin 16) (dir : Bool) : cField (shift.val + if dir then 16 else 0) = shift := by
  apply Fin.ext; simp only [cField, Fin.val_ofNat]; split <;> omega
@[simp] theorem dir_vint (shift : Fin 16) (dir : Bool) : decide ((shift.val + if dir then 16 else 0) / 16 % 2 = 1) = dir := by
  cases dir <;> simp <;> omega

/-! ## Encoding and decoding -/

/-- An admissible instruction is spelled by its word: its shape admits every field, and each operand reads as it was written. -/
theorem carveEncode_spells {i : Instr} {w : BitVec 64} (hadm : carveAdmits i = true) (henc : carveEncode i = some w) :
    carveDecode w = some i ∧ ∀ count : Nat, (∀ c t, i = .br c t → t.val < count) → progWordOk count w = true := by
  unfold carveEncode at henc
  split at henc
  all_goals
    cases henc
  all_goals
    refine spelled rfl ?registers (fun count hcount => ?x) ?cosine ?all (fun w h hok => ?operands) (hlt := ?width)
    case registers => simp
    case x => simp_all [carveAdmits]
    case cosine => simp_all [carveAdmits]
    case all => simp
    case operands =>
      simp only [carveDecode, h.op, h.d, h.a, h.b, h.c, h.x, hok, slot_xPort, port_xPort]
      simp
    case width => simp <;> omega

/-- The encoder spells the instructions of R168, which are those that take cycles, and no other command. -/
theorem isSome_carveEncode (i : Instr) : (carveEncode i).isSome = (carveCycles i).isSome := by
  cases i <;> rfl

/-- MVMA V8, V3, @L, 10 of the spec's example (chapter 6), with L at word 272. -/
theorem carveEncode_worked : carveEncode (.mvma 8 3 0x110#14 false 9 0) = some 0x3F20300000900110#64 := by
  rfl

end Sys2Proof.Machine

section
open Sys2Proof.Machine

/-- Settles O14: the encoder's words decode to their instructions with every operand, and the worked word is that of MVMA V8, V3, @L, 10. -/
theorem carveWordsDecode : Obligations.CarveWordsDecode := by
  unfold Obligations.CarveWordsDecode
  exact ⟨fun i hi => (isSome_carveEncode i).trans hi, fun _ _ hadm henc => carveEncode_spells hadm henc, 8, 3, 0x110#14, false, 9, 0,
    (carveEncode_spells (by decide) carveEncode_worked).1⟩

end
end
section
/-! How an instruction of Carve acts (R163, R164, R168, R173): with a running task and budget it is one update of the engine, else nothing
happens. -/

namespace Sys2Proof.Machine

variable {s : State} {cyc : Nat}

/-! ## One instruction -/

theorem issue_of_exhausted (h : s.issues cyc = false) (f : CarveSt → CarveSt) : s.issue cyc f = s :=
  if_neg (Bool.eq_false_iff.mp h)

theorem issue_of_issues (h : s.issues cyc = true) (f : CarveSt → CarveSt) : s.issue cyc f =
    { s with carve := { f s.carve with pc := s.carve.pc + 1, cycles := s.carve.cycles + cyc } } := if_pos h

/-- Without a running task, or with too few cycles of BUDGET left, no instruction acts (R164, R173). -/
theorem exec_of_exhausted {c : Instr} (hc : carveCycles c = some cyc) (h : s.issues cyc = false) : exec c s = .next s := by
  cases c <;> cases hc
  case br => exact if_neg (Bool.eq_false_iff.mp h)
  case sig =>
    show execSig _ _ s = _
    unfold execSig
    split
    · rfl
    · exact if_neg (Bool.eq_false_iff.mp h)
  case endTask =>
    show execEndTask s = _
    unfold execEndTask
    split
    · rfl
    · exact if_neg (Bool.eq_false_iff.mp h)
  all_goals exact congrArg Host.Outcome.next (issue_of_exhausted h _)

/-! ## Results in Sd -/

theorem issueS_of_issues (h : s.issues cyc = true) (d : Fin 64) (f : CarveSt → FRes) :
    s.issueS cyc d f = s.scalarTo cyc d (f s.carve) := issue_of_issues h _

/-- A word that is loaded into Sd raises no exception. -/
theorem issue_setS (h : s.issues cyc = true) (d : Fin 64) (x : Word) :
    s.issue cyc (fun c => c.setS d x) = s.scalarTo cyc d ⟨x, false⟩ := by
  rw [issue_of_issues h, State.scalarTo, Bool.or_false]
  rfl

/-! ## Results in Vd -/

theorem setVR_eq (c : CarveSt) (d : Fin 32) (f : Fin 16 → FRes) : c.setVR d f =
    { c.setV d (Vector.ofFn fun i => (f i).val) with
      fl := { c.fl with arith := c.fl.arith || (List.finRange 16).any fun i => (f i).exc } } := by
  have hvals : (Vector.ofFn f).map (·.val) = Vector.ofFn fun i => (f i).val := Vector.map_ofFn
  have hexcs : (Vector.ofFn f).toList.any (·.exc) = (List.finRange 16).any fun i => (f i).exc := by
    rw [Vector.toList_ofFn, List.ofFn_eq_map, List.any_map]
    rfl
  unfold CarveSt.setVR
  dsimp only
  rw [hvals, hexcs]

theorem issue_setVR (h : s.issues cyc = true) (d : Fin 32) (f : CarveSt → Fin 16 → FRes) :
    s.issue cyc (fun c => c.setVR d (f c)) = s.vectorTo cyc d (f s.carve) := by
  rw [issue_of_issues h, setVR_eq]
  rfl

/-- Words that are loaded into Vd raise no exception. -/
theorem issue_setV (h : s.issues cyc = true) (d : Fin 32) (f : CarveSt → Fin 16 → Word) :
    s.issue cyc (fun c => c.setV d (Vector.ofFn (f c))) = s.vectorTo cyc d (fun i => ⟨f s.carve i, false⟩) := by
  rw [issue_of_issues h, State.vectorTo, List.any_eq_false.mpr fun _ _ => Bool.false_ne_true, Bool.or_false]
  rfl

theorem map_row (c : CarveSt) (a : Nat) : (c.row a).map fOut = Vector.ofFn fun i => fOut (c.mat (a + i.val)) := Vector.map_ofFn

end Sys2Proof.Machine

section
open Sys2Proof.Machine

/-- Settles O13: an instruction that does not issue is none; that its own cycles count before it acts is log entry 41. -/
theorem exhaustedBudgetIssuesNothing : Obligations.ExhaustedBudgetIssuesNothing := by
  unfold Obligations.ExhaustedBudgetIssuesNothing
  exact fun s c n => exec_of_exhausted

/-- Settles O9: every result in Sd comes by `State.issueS`, and LDP loads a word. -/
theorem scalarInstructionsWriteTheirResult : Obligations.ScalarInstructionsWriteTheirResult := by
  unfold Obligations.ScalarInstructionsWriteTheirResult
  intro s
  have write {cyc : Nat} (h : s.issues cyc = true) (d : Fin 64) (f : CarveSt → FRes) :
      Host.Outcome.next (φ := Fault) (ρ := Refusal) (s.issueS cyc d f) = .next (s.scalarTo cyc d (f s.carve)) :=
    congrArg Host.Outcome.next (issueS_of_issues h d f)
  exact ⟨fun d _ _ h => write h d _, fun d _ _ h => write h d _, fun d _ _ h => write h d _, fun d _ _ h => write h d _,
    fun d _ _ h => write h d _, fun d _ _ h => write h d _, fun d _ h => write h d _, fun d _ h => write h d _,
    fun d _ h => write h d _, fun d _ h => write h d _, fun d _ _ _ h => write h d _, fun d _ h => write h d _,
    fun d _ _ h => write h d _, fun d _ h => write h d _, fun d _ _ h => write h d _, fun d _ _ h => write h d _,
    fun d _ _ h => write h d _, fun d _ h => congrArg Host.Outcome.next (issue_setS h d _)⟩

/-- Settles O10: every result in Vd comes by `CarveSt.setVR`, and VLD and LDPV load words. -/
theorem vectorInstructionsWriteTheirResult : Obligations.VectorInstructionsWriteTheirResult := by
  unfold Obligations.VectorInstructionsWriteTheirResult
  intro s
  have write {cyc : Nat} (h : s.issues cyc = true) (d : Fin 32) (f : CarveSt → Fin 16 → FRes) :
      Host.Outcome.next (φ := Fault) (ρ := Refusal) (s.issue cyc fun c => c.setVR d (f c)) = .next (s.vectorTo cyc d (f s.carve)) :=
    congrArg Host.Outcome.next (issue_setVR h d f)
  refine ⟨fun d _ _ h => write h d _, fun d _ _ h => write h d _, fun d _ _ h => write h d _, fun d _ _ h => write h d _,
    fun d _ _ h => write h d _, fun d _ h => write h d _, fun d _ h => write h d _, fun d m ind h => ?_,
    fun d _ h => congrArg Host.Outcome.next (issue_setV h d _), fun d _ _ _ _ _ h => write h d _⟩
  rw [← issue_setV h d fun c i => fOut (c.mat (c.ea m ind + i.val))]
  simp only [← map_row]
  rfl

end
end
section
/-! Flushing (R163): what it does to an operand and to a result of Carve. -/

namespace Sys2Proof.Machine

/-! ## Zeros -/

@[simp] theorem fMag_fSign_zero (neg : Bool) : fMag (fSign neg 0) = 0 := by cases neg <;> rfl

@[simp] theorem fNeg?_fSign_zero (neg : Bool) : fNeg? (fSign neg 0) = neg := by cases neg <;> rfl

/-! ## Operands -/

theorem fFlush_of_sub {x : Word} (h : fSub? x = true) : fFlush x = fSign (fNeg? x) 0 := if_pos h

theorem fFlush_of_not_sub {x : Word} (h : fSub? x = false) : fFlush x = x := if_neg (Bool.eq_false_iff.mp h)

@[simp] theorem fSub?_fFlush (x : Word) : fSub? (fFlush x) = false := by
  cases h : fSub? x with
  | true => simp [fFlush_of_sub h, fSub?]
  | false => rw [fFlush_of_not_sub h, h]

@[simp] theorem fFlush_fFlush (x : Word) : fFlush (fFlush x) = fFlush x := fFlush_of_not_sub (fSub?_fFlush x)

@[simp] theorem fNaN?_fFlush (x : Word) : fNaN? (fFlush x) = fNaN? x := by
  cases h : fSub? x with
  | true =>
    have hsmall : fMag x < 0x800000 := (of_decide_eq_true h).2
    have hnan : ¬ 0x7F800000 < fMag x := by omega
    simp [fFlush_of_sub h, fNaN?, hnan]
  | false => rw [fFlush_of_not_sub h]

/-- A flushed operand signals as before: a subnormal is no NaN. -/
@[simp] theorem fSig?_fFlush (x : Word) : fSig? (fFlush x) = fSig? x := by
  cases h : fSub? x with
  | true =>
    have hnan : fNaN? (fFlush x) = fNaN? x := fNaN?_fFlush x
    have hno : fNaN? x = false := by rw [← hnan, fFlush_of_sub h]; simp [fNaN?]
    simp [fSig?, hnan, hno]
  | false => rw [fFlush_of_not_sub h]

theorem cAdd_fFlush (x y : Word) : cAdd (fFlush x) (fFlush y) = cAdd x y := by simp [cAdd]

theorem cMul_fFlush (x y : Word) : cMul (fFlush x) (fFlush y) = cMul x y := by simp [cMul]

theorem fFlush_zero {x : Word} (h : fSub? x = true) : fZero? (fFlush x) = true ∧ fNeg? (fFlush x) = fNeg? x := by
  simp [fFlush_of_sub h, fZero?]

/-! ## Results -/

/-- A result of Carve is no subnormal and no NaN but the quiet one. -/
def flushed (x : Word) : Prop := fSub? x = false ∧ (fNaN? x = true → x = fQNaN)

theorem flushed_fOut (x : Word) : flushed (fOut x) := by
  unfold fOut
  cases h : fNaN? x with
  | true =>
    rw [if_pos rfl]
    exact ⟨by decide, fun _ => rfl⟩
  | false =>
    refine ⟨fSub?_fFlush x, fun hnan => ?_⟩
    rw [if_neg Bool.false_ne_true, fNaN?_fFlush, h] at hnan
    exact absurd hnan Bool.false_ne_true

/-- The result of an operation of Carve, whatever its exceptions. -/
theorem flushed_carve (r : FRes) (sig : Bool) : flushed (r.carve.signal sig).val := flushed_fOut r.val

end Sys2Proof.Machine

section
open Sys2Proof.Machine

/-- Settles O12: operands pass `fFlush`, and every result passes `fOut`. -/
theorem carveResultsFlushed : Obligations.CarveResultsFlushed := by
  unfold Obligations.CarveResultsFlushed
  refine ⟨fun x y => ⟨(cAdd_fFlush x y).symm, (cMul_fFlush x y).symm, fSub?_fFlush x, fFlush_zero⟩, fun x y z r hr => ?_⟩
  show flushed r.val
  simp only [List.mem_cons, List.not_mem_nil, or_false] at hr
  rcases hr with rfl | rfl | rfl | rfl | rfl | rfl
  all_goals exact flushed_carve _ _

end
end
section
/-! The instructions of Carve beside the plain scalar and vector ones: flags, branches, the matrix memory, ports (R168 to R179). -/

namespace Sys2Proof.Machine

variable {s : State} {cyc : Nat}

/-- An instruction with a running task and budget leads to the engine as its update leaves it. -/
theorem runs_issue {c : Instr} {f : CarveSt → CarveSt} {post : State → Prop} (hexec : exec c s = .next (s.issue cyc f))
    (h : s.issues cyc = true)
    (hpost : post { s with carve := { f s.carve with pc := s.carve.pc + 1, cycles := s.carve.cycles + cyc } }) : Runs c s post :=
  ⟨_, hexec.trans (congrArg Host.Outcome.next (issue_of_issues h f)), hpost⟩

/-! ## Flags and the matrix base -/

theorem br_runs (h : s.issues 2 = true) (c : Fin 16) (target : Fin 4096) : Runs (.br c target) s (fun t =>
    t = { s with carve := { s.carve with
      pc := if s.carve.fl.holds c then target.val else s.carve.pc + 1, cycles := s.carve.cycles + 2 } }) :=
  ⟨_, if_pos h, rfl⟩

theorem getLsbD_or_bit (p : BitVec 8) (n : Fin 8) : (p ||| (1#8 <<< n.val)).getLsbD n.val = true := by
  simp

theorem sig_runs {k : Fin 8} (hk : s.carve.running = some k) (h : s.issues 1 = true) (c : Fin 16) (n : Fin 8) :
    Runs (.sig c n) s (fun t =>
      t.carve.progSet.getLsbD n.val = (s.carve.fl.holds c || s.carve.progSet.getLsbD n.val) ∧
      t.causeSet ⟨28 + s.ownerOf k.val, 8 + n.val⟩ = (s.carve.fl.holds c || s.causeSet ⟨28 + s.ownerOf k.val, 8 + n.val⟩) ∧
      t.carve.pc = s.carve.pc + 1) := by
  have hexec : exec (.sig c n) s = if s.carve.fl.holds c then
      .next ({ s.issue 1 id with carve := { (s.issue 1 id).carve with
        progSet := (s.issue 1 id).carve.progSet ||| (1#8 <<< n.val) } }.raise (carveCause (s.ownerOf k.val) (8 + n.val)))
      else .next (s.issue 1 id) := by
    show execSig c n s = _
    unfold execSig
    rw [hk]
    exact if_pos h
  rw [issue_of_issues h] at hexec
  cases hc : s.carve.fl.holds c with
  | true =>
    refine ⟨_, hexec.trans (if_pos hc), ?_, State.causeSet_raise _ (carveCause _ _) (show 8 + n.val < 32 by omega), ?_⟩
    · rw [State.raise_carve]
      exact getLsbD_or_bit _ n
    · rw [State.raise_carve]
  | false => exact ⟨_, hexec.trans (if_neg (Bool.eq_false_iff.mp hc)), rfl, rfl, rfl⟩

theorem setbIndex_le (x : Word) (nmax : Nat) : setbIndex x nmax ≤ nmax := by
  unfold setbIndex
  dsimp only
  split
  · exact Nat.zero_le _
  · split
    · split
      · exact Nat.zero_le _
      · exact Nat.le_refl _
    · exact Nat.min_le_right _ _

theorem ssincos_runs (h : s.issues 6 = true) (d a : Fin 64) : Runs (.ssincos d a) s (fun t =>
    t.carve.s[d] = (cSinCos s.carve.s[a]).1.val ∧
    (∀ h : d.val + 1 < 64, t.carve.s[d.val + 1] = (cSinCos s.carve.s[a]).2.val) ∧ t.carve.cycles = s.carve.cycles + 6) := by
  refine runs_issue rfl h ?_
  dsimp only
  by_cases hd : d.val + 1 < 64
  · simp [hd, CarveSt.setSR, CarveSt.setS]
  · simp [hd, CarveSt.setSR, CarveSt.setS]

/-! ## Masks and elements -/

/-- An element of a vector register that was just written. -/
theorem getElem_setV (v : Vector Vec 32) (d : Fin 32) (f : Fin 16 → Word) (i : Fin 16) : (v.set d (Vector.ofFn f))[d][i] = f i := by
  simp

theorem getLsbD_foldl_bits (f : Fin 16 → Bool) (l : List (Fin 16)) (m : BitVec 16) (k : Fin 16) :
    (l.foldl (fun m i => if f i then m ||| (1#16 <<< i.val) else m) m).getLsbD k.val = (m.getLsbD k.val || (decide (k ∈ l) && f k)) := by
  induction l generalizing m with
  | nil => simp
  | cons i l ih =>
    rw [List.foldl_cons, ih]
    by_cases hik : k = i
    · subst hik
      cases f k <;> simp
    · have hbit : (!decide (k < i) && decide (k.val - i.val = 0)) = false := by
        simp only [Bool.and_eq_false_iff, Bool.not_eq_false', decide_eq_true_eq, decide_eq_false_iff_not]
        omega
      cases f i <;> simp [hik, hbit]

theorem getLsbD_mask16 (f : Fin 16 → Bool) (i : Fin 16) : (mask16 f).getLsbD i.val = f i := by
  rw [mask16, getLsbD_foldl_bits]
  simp

theorem vclamp_runs (h : s.issues 1 = true) (d a b e : Fin 32) : Runs (.vclamp d a b e) s (fun t =>
    ∀ i : Fin 16, t.carve.v[d][i] = cMin (cMax (fFlush s.carve.v[a][i]) (fFlush s.carve.v[b][i])) (fFlush s.carve.v[e][i]) ∧
      t.carve.satlo[d].getLsbD i.val = fLt (fFlush s.carve.v[a][i]) (fFlush s.carve.v[b][i]) ∧
      t.carve.sathi[d].getLsbD i.val = fLt (fFlush s.carve.v[e][i]) (fFlush s.carve.v[a][i])) := by
  refine runs_issue rfl h fun i => ⟨getElem_setV _ _ _ _, ?_, ?_⟩
  · exact (congrArg (BitVec.getLsbD · i.val) (Vector.getElem_set_self _)).trans (getLsbD_mask16 _ i)
  · exact (congrArg (BitVec.getLsbD · i.val) (Vector.getElem_set_self _)).trans (getLsbD_mask16 _ i)

/-- An element of Vd once written by arithmetic. -/
theorem getElem_setVR (c : CarveSt) (d : Fin 32) (f : Fin 16 → FRes) (i : Fin 16) : (c.setVR d f).v[d][i] = (f i).val := by
  rw [setVR_eq]
  exact getElem_setV _ _ _ _

theorem vint_runs (h : s.issues 1 = true) (d a : Fin 32) (b : Fin 64) (e : Fin 32) (sh : Fin 16) (dir : Bool) :
    Runs (.vint d a b e sh dir) s (fun t => ∀ i : Fin 16, t.carve.v[d][i] =
      if s.carve.vintHolds a b e sh dir i then s.carve.v[d][i]
      else (cAdd s.carve.v[d][i] (cMul s.carve.v[a][i] s.carve.s[b]).val).val) := by
  refine runs_issue rfl h fun i => ?_
  refine (getElem_setVR _ _ _ i).trans ?_
  split <;> rfl

theorem ipre_runs (h : s.issues 1 = true) (d a : Fin 32) (mask : BitVec 16) : Runs (.ipre d a mask) s (fun t => ∀ i : Fin 16,
    t.carve.v[d][i] = if s.carve.fl.pre && mask.getLsbD i.val then fOut s.carve.v[a][i] else s.carve.v[d][i]) := by
  refine runs_issue rfl h fun i => ?_
  dsimp only
  by_cases hw : s.carve.fl.pre = true ∧ mask ≠ 0#16
  · rw [if_pos hw, hw.1, Bool.true_and]
    exact getElem_setV _ _ _ _
  · rw [if_neg hw, if_neg]
    intro hi
    obtain ⟨hpre, hbit⟩ := Bool.and_eq_true_iff.mp hi
    exact hw ⟨hpre, fun h0 => by simp [h0] at hbit⟩

theorem mvma_runs {rows : Fin 16} (h : s.issues (rows.val + 1) = true) (d a : Fin 32) (m : BitVec 14) (ind : Bool) (doff : Fin 16) :
    Runs (.mvma d a m ind rows doff) s (fun t => ∀ i : Fin 16, t.carve.v[d][i] =
      if doff.val ≤ i.val ∧ i.val < doff.val + (rows.val + 1) then
        (cAdd s.carve.v[d][i] (cDot (s.carve.row (s.carve.ea m ind + 16 * (i.val - doff.val))) s.carve.v[a]).val).val
      else s.carve.v[d][i]) := by
  refine runs_issue rfl h fun i => ?_
  refine (getElem_setVR _ _ _ i).trans ?_
  unfold rowsOf
  split <;> rfl

/-! ## The matrix memory -/

variable (c : CarveSt)

/-- A store of a row writes its elements in turn. -/
def rowStored (m : Cells 32) (a : Nat) (v : Vec) (l : List (Fin 16)) : Cells 32 :=
  l.foldl (fun m i => cellSet (fun _ => f0) m ((a + i.val) % 16384) v[i]) m

theorem cellGet_rowStored_other {m : Cells 32} {a b : Nat} {v : Vec} {l : List (Fin 16)}
    (h : ∀ i ∈ l, b ≠ (a + i.val) % 16384) : cellGet (fun _ => f0) (rowStored m a v l) b = cellGet (fun _ => f0) m b :=
  List.foldlRecOn (motive := fun u => cellGet (fun _ => f0) u b = cellGet (fun _ => f0) m b) l _ rfl
    fun u hu i hi => (cellGet_set_other _ u _ b _ (h i hi)).trans hu

/-- The elements of a row lie at different words. -/
theorem rowWord_injective {a : Nat} {i j : Fin 16} (h : (a + i.val) % 16384 = (a + j.val) % 16384) : i = j := by
  apply Fin.ext; omega

theorem mat_setRow (a : Nat) (v : Vec) (i : Fin 16) : (c.setRow a v).mat (a + i.val) = v[i] := by
  obtain ⟨before, after, hl⟩ := List.append_of_mem (List.mem_finRange i)
  have hnodup : (before ++ i :: after).Nodup := hl ▸ List.nodup_finRange 16
  have hafter : i ∉ after := (List.nodup_cons.mp (List.nodup_append.mp hnodup).2.1).1
  have hsplit : (c.setRow a v).matrix =
      rowStored (cellSet (fun _ => f0) (rowStored c.matrix a v before) ((a + i.val) % 16384) v[i]) a v after := by
    show rowStored c.matrix a v (List.finRange 16) = _
    rw [hl]
    exact List.foldl_append
  rw [CarveSt.mat, hsplit, cellGet_rowStored_other, cellGet_set_same]
  exact fun j hj e => hafter (rowWord_injective e ▸ hj)

theorem mat_setRow_other {a b : Nat} {v : Vec} (h : ∀ i : Fin 16, b % 16384 ≠ (a + i.val) % 16384) :
    (c.setRow a v).mat b = c.mat b := cellGet_rowStored_other fun i _ => h i

theorem mat_congr {c' : CarveSt} (h : c'.matrix = c.matrix) (a : Nat) : c'.mat a = c.mat a := by
  rw [CarveSt.mat, CarveSt.mat, h]

theorem vst_runs (h : s.issues 1 = true) (d : Fin 32) (m : BitVec 14) (ind : Bool) : Runs (.vst d m ind) s (fun t =>
    (∀ i : Fin 16, t.carve.mat (s.carve.ea m ind + i.val) = s.carve.v[d][i]) ∧
    (∀ a : Nat, (∀ i : Fin 16, a % 16384 ≠ (s.carve.ea m ind + i.val) % 16384) → t.carve.mat a = s.carve.mat a) ∧
    t.carve.v = s.carve.v) :=
  runs_issue rfl h ⟨fun i => (mat_congr (s.carve.setRow _ _) rfl _).trans (mat_setRow s.carve _ _ i),
    fun a ha => (mat_congr (s.carve.setRow _ _) rfl a).trans (mat_setRow_other s.carve ha), rfl⟩

/-! ## Ports -/

theorem vld_portFlags {k : Nat} (h : (c.port k).routed = true) : (c.portFlags [k]).fl.vld = (c.port k).valid := by
  simp [CarveSt.portFlags, h]

theorem inPort_runs (h : s.issues 1 = true) (d : Fin 64) (sl : Fin 4) (p : Fin 64) : Runs (.inPort d sl p) s (fun t =>
    t.carve.s = s.carve.s.set d (fOut (s.carve.port (64 * sl.val + p.val)).val) ∧
    ((s.carve.port (64 * sl.val + p.val)).routed = true →
      t.carve.fl.vld = (s.carve.port (64 * sl.val + p.val)).valid)) :=
  runs_issue rfl h ⟨rfl, fun hr => vld_portFlags (s.carve.setS d _) hr⟩

theorem inv_runs (h : s.issues 2 = true) (d : Fin 32) (sl : Fin 4) (p : Fin 64) : Runs (.inv d sl p) s (fun t => ∀ i : Fin 16,
    p.val + i.val < 64 → t.carve.v[d][i] = fOut (s.carve.port (64 * sl.val + p.val + i.val)).val) := by
  refine runs_issue rfl h fun i hi => ?_
  refine (getElem_setV _ _ _ i).trans ?_
  dsimp only
  rw [if_pos hi]

theorem stage_finite {x : Word} (h : fFinite? x = true) (k : Nat) :
    c.stage k x = { c with staged := c.staged.filter (fun p => p.1 != k) ++ [(k, fOut x)] } := if_pos h

theorem stage_nonfinite {x : Word} (h : ¬ fFinite? x = true) (k : Nat) : c.stage k x = { c with nonfinite := true } := if_neg h

theorem outPort_runs (h : s.issues 1 = true) (sl : Fin 4) (p a : Fin 64) : Runs (.outPort sl p a) s (fun t =>
    if fFinite? s.carve.s[a] then
      t.carve.staged = s.carve.staged.filter (fun q => q.1 != 64 * sl.val + p.val) ++
        [(64 * sl.val + p.val, fOut s.carve.s[a])]
    else t.carve.staged = s.carve.staged ∧ t.carve.nonfinite = true) := by
  refine runs_issue rfl h ?_
  dsimp only
  split
  next hx => rw [stage_finite _ hx]
  next hx => rw [stage_nonfinite _ hx]; exact ⟨rfl, rfl⟩

/-- A port that is staged stays so while others are. -/
theorem mem_staged_stage {q : Nat × Word} {k : Nat} (h : q ∈ c.staged) (hk : q.1 ≠ k) (x : Word) : q ∈ (c.stage k x).staged := by
  unfold CarveSt.stage
  split
  · exact List.mem_append_left _ (List.mem_filter.mpr ⟨h, by simpa using hk⟩)
  · exact h

/-- OUTV stages the elements of a vector in turn (R175). -/
def CarveSt.stageFrom (port : Nat) (base : Nat) (v : Vec) (c : CarveSt) (l : List (Fin 16)) : CarveSt :=
  l.foldl (fun c1 i => if port + i.val < 64 then c1.stage (base + i.val) v[i] else c1) c

theorem mem_staged_stageFrom {port base : Nat} {v : Vec} {i : Fin 16} (hp : port + i.val < 64) (hx : fFinite? v[i] = true) :
    (base + i.val, fOut v[i]) ∈ (c.stageFrom port base v (List.finRange 16)).staged := by
  obtain ⟨before, after, hl⟩ := List.append_of_mem (List.mem_finRange i)
  have hnodup : (before ++ i :: after).Nodup := hl ▸ List.nodup_finRange 16
  have hafter : i ∉ after := (List.nodup_cons.mp (List.nodup_append.mp hnodup).2.1).1
  have hsplit : c.stageFrom port base v (List.finRange 16) =
      ((c.stageFrom port base v before).stage (base + i.val) v[i]).stageFrom port base v after := by
    rw [hl]
    refine List.foldl_append.trans ?_
    rw [List.foldl_cons, if_pos hp]
    rfl
  rw [hsplit]
  refine List.foldlRecOn (motive := fun u : CarveSt => (base + i.val, fOut v[i]) ∈ u.staged) after _ ?_ fun u hu j hj => ?_
  · rw [stage_finite _ hx]
    exact List.mem_append_right _ List.mem_cons_self
  · have hne : base + i.val ≠ base + j.val := fun e => hafter (Fin.ext (Nat.add_left_cancel e) ▸ hj)
    split
    · exact mem_staged_stage _ hu hne _
    · exact hu

theorem outv_runs (h : s.issues 2 = true) (sl : Fin 4) (p : Fin 64) (a : Fin 32) : Runs (.outv sl p a) s (fun t =>
    ∀ i : Fin 16, p.val + i.val < 64 → fFinite? s.carve.v[a][i] = true →
      (64 * sl.val + p.val + i.val, fOut s.carve.v[a][i]) ∈ t.carve.staged) :=
  runs_issue rfl h fun _ hp hx => mem_staged_stageFrom s.carve hp hx

end Sys2Proof.Machine

section
open Sys2Proof.Machine

/-- Settles O11: each instruction comes to the rule of its row; VINT and MVMA round twice (log entry 41). -/
theorem otherEngineInstructionsRun : Obligations.OtherEngineInstructionsRun := by
  unfold Obligations.OtherEngineInstructionsRun
  intro s
  exact ⟨fun h => runs_issue rfl h rfl, fun c target h => br_runs h c target, fun c n k hk h => sig_runs hk h c n,
    fun a stride nmax h => runs_issue rfl h ⟨rfl, Nat.mul_le_mul_left _ (setbIndex_le _ _), rfl⟩,
    fun a b h => runs_issue rfl h ⟨rfl, rfl, rfl⟩, fun d a b e h => runs_issue rfl h ⟨rfl, rfl⟩,
    fun d a h => ssincos_runs h d a, fun d e a h => runs_issue rfl h rfl, fun d a b e h => vclamp_runs h d a b e,
    fun d a b e sh dir h => vint_runs h d a b e sh dir, fun d a mask h => ipre_runs h d a mask,
    fun d m ind h => vst_runs h d m ind, fun d a m ind rows doff h => mvma_runs h d a m ind doff,
    fun d sl p h => inPort_runs h d sl p, fun d sl p h => inv_runs h d sl p, fun sl p a h => outPort_runs h sl p a,
    fun sl p a h => outv_runs h sl p a⟩

end
end

section
/-! What the rest of the module leaves of a task (R171 to R180): while a slot evaluates itself at a dispatch or an END, nothing but presets,
held parameter writes and jobs of the engine moves, and no register of CARVE.TASK. Each rule follows the body of its function. -/

namespace Sys2Proof.Machine

variable {o s : State}

/-- An address apart from the registers CARVE.TASK (R180). -/
def offTask (a : Nat) : Bool := decide (a < Reg.CARVE.TASK.CFG.addr 0) || decide (Reg.CARVE.TASK.CFG.addr 8 ≤ a)

/-- The engine but for its presets, the parameter writes that wait for the end of the run, and the jobs that wait for Slalom. -/
def CarveSt.bare (c : CarveSt) : CarveSt := { c with preset := Vector.replicate 8 false, heldParams := [], jobs := [] }

/-- From `o` to `s` the engine has kept its run and its queue, and the registers of its tasks and the course have stayed. -/
structure TaskKept (o s : State) : Prop where
  carve : s.carve.bare = o.carve.bare
  course : s.course = o.course
  regs : ∀ a, offTask a = false → s.rd a = o.rd a

theorem TaskKept.refl (s : State) : TaskKept s s := ⟨rfl, rfl, fun _ _ => rfl⟩

theorem TaskKept.get {f : Fld} (h : TaskKept o s) (hf : offTask f.addr = false) : s.get f = o.get f := by
  simp only [State.get, h.regs f.addr hf]

/-- An update of fields that `TaskKept` does not name. -/
theorem TaskKept.upd
    {pending shadowMarks liveMarks toClassify life freeCount tod host clk piste legs tripIns trip injs slots chop hkaEvents
    taskPresc taskDelays carve ports prof slalom sdm phv dcl pos chg triad patrol swapping edges can probe supply groom
    time svc hka rst net himet}
    (h : TaskKept o s) (hcarve : CarveSt.bare carve = s.carve.bare := by rfl) : TaskKept o ⟨pending, s.regs, shadowMarks, liveMarks,
    toClassify, life, freeCount, tod, host, s.course, clk, piste, legs, tripIns, trip, injs, slots, chop, hkaEvents,
    taskPresc, taskDelays, carve, ports, prof, slalom, sdm, phv, dcl, pos, chg, triad, patrol, swapping, edges, can,
    probe, supply, groom, time, svc, hka, rst, net, himet⟩ :=
  ⟨hcarve.trans h.carve, h.course, h.regs⟩

theorem TaskKept.setSlot {i : Fin 4} {x : Slot} (h : TaskKept o s) : TaskKept o (s.setSlot i x) := h.upd

theorem TaskKept.setPos {k : Fin 4} {x : PosCh} (h : TaskKept o s) : TaskKept o (s.setPos k x) := h.upd

theorem TaskKept.setLeg {n : Fin 32} {x : Leg} (h : TaskKept o s) : TaskKept o (s.setLeg n x) := h.upd

theorem TaskKept.setProf {i : Fin 4} {x : Prof} (h : TaskKept o s) : TaskKept o (s.setProf i x) := h.upd

theorem TaskKept.setCan {c : Fin 2} {x : CanSt} (h : TaskKept o s) : TaskKept o (s.setCan c x) := h.upd

theorem TaskKept.noteSeen {v : Nat} (h : TaskKept o s) : TaskKept o (s.noteSeen v) := h.upd

theorem TaskKept.fresh (h : TaskKept o s) : TaskKept o s.fresh.2 := h.upd

theorem TaskKept.ite {c : Prop} {_ : Decidable c} {a b : State} (ha : TaskKept o a) (hb : TaskKept o b) :
    TaskKept o (if c then a else b) := by
  split
  · exact ha
  · exact hb

theorem TaskKept.foldl {α : Type} {f : State → α → State} {l : List α} (h : TaskKept o s)
    (hf : ∀ {t x}, TaskKept o t → TaskKept o (f t x)) : TaskKept o (l.foldl f s) :=
  List.foldlRecOn l f h fun _ ht _ _ => hf ht

/-! ## Registers and causes -/

theorem TaskKept.wr {a : Nat} {x : Word} (h : TaskKept o s) (ha : offTask a = true) : TaskKept o (s.wr a x) := by
  refine ⟨h.carve, h.course, fun b hb => (State.rd_wr_other s a b x fun e => ?_).trans (h.regs b hb)⟩
  rw [e, ha] at hb
  exact Bool.noConfusion hb

theorem TaskKept.put {f : Fld} {v : Nat} (h : TaskKept o s) (hf : offTask f.addr = true) : TaskKept o (s.put f v) := h.wr hf

theorem offTask_cause {g : Nat} (hg : g < 64) : offTask (Reg.INT.GRP.CAUSE.addr g) = true := by
  simp only [offTask, Reg.INT.GRP.CAUSE.addr, Reg.CARVE.TASK.CFG.addr, Bool.or_eq_true, decide_eq_true_eq]
  omega

theorem TaskKept.raiseM {c : Cause} {m : Mark} (h : TaskKept o s) (hc : c.grp < 64 := by decide) : TaskKept o (s.raiseM c m) where
  carve := (congrArg CarveSt.bare (State.raiseM_carve s c m)).trans h.carve
  course := (State.raiseM_course s c m).trans h.course
  regs a ha := (State.rd_raiseM s c m a fun e => by rw [e, offTask_cause hc] at ha; exact Bool.noConfusion ha).trans (h.regs a ha)

theorem TaskKept.raise {c : Cause} (h : TaskKept o s) (hc : c.grp < 64 := by decide) : TaskKept o (s.raise c) := h.raiseM (m := .real) hc

theorem TaskKept.setIf {b : Bool} {c : Cause} (h : TaskKept o s) (hc : c.grp < 64 := by decide) : TaskKept o (s.setIf b c) :=
  .ite (h.raise hc) h

theorem driveCause_grp (i : Fin 4) (b : Nat) : (driveCause i b).grp < 64 := show 34 + i.val < 64 by omega

theorem posCause_grp (k : Fin 4) (b : Nat) : (posCause k b).grp < 64 := show 24 + k.val < 64 by omega

theorem TaskKept.heldAct {target index : Nat} {act : State → State} (h : TaskKept o s) (hf : ∀ {t}, TaskKept o t → TaskKept o (act t)) :
    TaskKept o (s.heldAct target index act) := .ite h.noteSeen (hf h)

theorem TaskKept.heldEnd {target index : Nat} (h : TaskKept o s) : TaskKept o (s.heldEnd target index) := .ite h.noteSeen h

/-! ## Ports and parameters -/

theorem TaskKept.route {cls idx : Nat} {p : Port} (h : TaskKept o s) : TaskKept o (s.route cls idx p) := by
  obtain ⟨q, hq⟩ := exists_route s cls idx p
  rw [hq]
  exact h.upd

theorem TaskKept.routeVal {cls idx : Nat} {x : Word} (h : TaskKept o s) : TaskKept o (s.routeVal cls idx x) := h.route

theorem offTask_param (k : Nat) : offTask (Reg.CARVE.PARAM.addr k) = true := by
  simp only [offTask, Reg.CARVE.PARAM.addr, Reg.CARVE.TASK.CFG.addr, Bool.or_eq_true, decide_eq_true_eq]
  omega

theorem TaskKept.writeParam {k : Nat} {x : Word} (h : TaskKept o s) : TaskKept o (s.writeParam k x) :=
  .ite h.upd (h.wr (offTask_param k))

theorem TaskKept.applyHeld (h : TaskKept o s) : TaskKept o s.applyHeld :=
  (h.foldl fun ht => ht.wr (offTask_param _)).upd

/-! ## Legs and the trip network -/

theorem offTask_stats : ∀ n : Fin 32, offTask (Reg.PWM.LEG.STATS.addr n.val) = true := by decide

theorem TaskKept.ilockEpisodes (h : TaskKept o s) : TaskKept o s.ilockEpisodes := by
  unfold State.ilockEpisodes
  dsimp only
  refine h.foldl fun h => ?_
  split
  · exact h
  · exact .ite (h.upd.setLeg.put (offTask_stats _)) h

theorem TaskKept.openBlank {n : Nat} {a b : Bool} (h : TaskKept o s) : TaskKept o (s.openBlank n a b) := .ite h.upd h

theorem TaskKept.settle (h : TaskKept o s) : TaskKept o s.settle := h.ilockEpisodes.foldl fun h => h.setLeg.openBlank

theorem TaskKept.followForce {n : Fin 32} {point : Bool} (h : TaskKept o s) : TaskKept o (s.followForce n point) := by
  unfold State.followForce
  dsimp only
  split
  · exact .ite h h.setLeg
  · exact .ite h.setLeg h

theorem TaskKept.reforce (h : TaskKept o s) : TaskKept o s.reforce := (h.foldl TaskKept.followForce).settle

theorem TaskKept.slotLine {i : Fin 4} {v : Bool} (h : TaskKept o s) : TaskKept o (s.slotLine i v) := h.upd.reforce

theorem TaskKept.mpAct {n : Fin 32} (h : TaskKept o s) : TaskKept o (s.mpAct n) := h.put (offTask_stats n)

theorem TaskKept.leadEdge {n : Fin 32} {b : Bool} (h : TaskKept o s) : TaskKept o (s.leadEdge n b) :=
  .ite h.setLeg (.ite h.setLeg.mpAct (.ite h.setLeg.mpAct h.setLeg))

theorem TaskKept.refOn {n : Fin 32} {b : Bool} {t : Int} (h : TaskKept o s) : TaskKept o (s.refOn n b t) :=
  .ite h.setLeg.leadEdge h.setLeg

theorem TaskKept.refOff {n : Fin 32} {b : Bool} {t : Int} {m : RefMove} (h : TaskKept o s) : TaskKept o (s.refOff n b t m) :=
  have h1 : TaskKept o _ := .ite h.leadEdge h
  .ite (.ite h1.setLeg h1.setLeg.mpAct) h1.setLeg

theorem TaskKept.applyRef {n : Fin 32} {b new : Bool} {m : RefMove} (h : TaskKept o s) : TaskKept o (s.applyRef n b new m) :=
  .ite h (.ite h.refOn h.refOff)

theorem TaskKept.updateRefs {n : Fin 32} {m : RefMove} (h : TaskKept o s) : TaskKept o (s.updateRefs n m) :=
  .ite h.applyRef.applyRef h.applyRef.applyRef

theorem TaskKept.legElapse {n : Fin 32} (h : TaskKept o s) : TaskKept o (s.legElapse n) := h.fresh.setLeg

theorem TaskKept.chopRefs (h : TaskKept o s) : TaskKept o s.chopRefs :=
  (h.foldl fun h => .ite h.legElapse.updateRefs h).settle

/-! ## The transitions of a slot -/

theorem offTask_rotResult : ∀ i : Fin 4, offTask (Reg.SLALOM.SL.ROT_RESULT.addr i.val) = true := by decide

theorem offTask_driveEvents : ∀ i : Fin 4, offTask (Reg.DRIVE.SLOT.EVENTS.addr i.val) = true := by decide

variable {i : Fin 4}

theorem TaskKept.writeDisch {x : Word} (h : TaskKept o s) : TaskKept o (s.writeDisch i x) := h.writeParam

theorem TaskKept.writeMode {x : Word} (h : TaskKept o s) : TaskKept o (s.writeMode x) := h.writeParam

theorem TaskKept.leaveCharge {safe : Bool} (h : TaskKept o s) : TaskKept o (s.leaveCharge safe) := h.writeMode.upd

theorem TaskKept.dischRelease (h : TaskKept o s) : TaskKept o s.dischRelease := .ite (h.upd.upd.put (by decide)) h.upd

theorem TaskKept.leaveDischarge (h : TaskKept o s) : TaskKept o (s.leaveDischarge i) :=
  (TaskKept.ite h.writeDisch h).setSlot.dischRelease.chopRefs

theorem TaskKept.rotStart (h : TaskKept o s) : TaskKept o (s.rotStart i) := h.upd.put (offTask_rotResult i)

theorem TaskKept.rotStop (h : TaskKept o s) : TaskKept o (s.rotStop i) := h.upd.put (offTask_rotResult i)

theorem TaskKept.rotWrite {res src : Nat} {speed angle : Word} (h : TaskKept o s) : TaskKept o (s.rotWrite i res src speed angle) :=
  have hr := offTask_rotResult i
  ((((h.put hr).put hr).put hr).put hr).upd.routeVal.routeVal

theorem TaskKept.slalomEnter (h : TaskKept o s) : TaskKept o (s.slalomEnter i) := h.upd

theorem TaskKept.lockBegin (h : TaskKept o s) : TaskKept o (s.lockBegin i) := h.upd

theorem TaskKept.endHold (h : TaskKept o s) : TaskKept o (s.endHold i) := .ite h.upd.reforce h

theorem TaskKept.dropHolds (h : TaskKept o s) : TaskKept o s.dropHolds := h.upd

theorem TaskKept.clearLatches (h : TaskKept o s) : TaskKept o (s.clearLatches i) := (h.upd.dropHolds.put (by decide)).reforce

theorem TaskKept.frictionCheck (h : TaskKept o s) : TaskKept o s.frictionCheck := .ite h.upd h

theorem TaskKept.enterNow {st : SlotState} {r : Reason} (h : TaskKept o s) : TaskKept o (s.enterNow i st r) :=
  have h1 : TaskKept o _ := .ite h.leaveCharge h
  have h2 : TaskKept o _ := .ite h1.leaveDischarge h1
  have h3 : TaskKept o _ := (TaskKept.ite h2.rotStop h2).setSlot
  have h4 : TaskKept o _ := .ite h3.slalomEnter.lockBegin h3
  have h5 : TaskKept o _ := .ite (h4.put (offTask_driveEvents i)).slotLine.endHold h4
  (TaskKept.raise (.ite h5.rotStart (.ite h5.clearLatches h5)) (driveCause_grp i 0)).frictionCheck

theorem TaskKept.enter {st : SlotState} {r : Reason} (h : TaskKept o s) : TaskKept o (s.enter i st r) :=
  .ite (TaskKept.ite h.rotStop h).setSlot h.enterNow

/-! ## The status frame and a failed discharge -/

theorem offTask_txb : ∀ c : Fin 2, offTask (Reg.CAN.TXB.ID.addr c.val 2) = true ∧ offTask (Reg.CAN.TXB.HDR.addr c.val 2) = true ∧
    offTask (Reg.CAN.TXB.STATE.addr c.val 2) = true ∧ ∀ k < 16, offTask (Reg.CAN.TXB.DATA.addr c.val 2 k) = true := by decide

theorem TaskKept.setTxData {c : Fin 2} {l : List Byte} (h : TaskKept o s) : TaskKept o (s.setTxData c 2 l) :=
  List.foldlRecOn _ _ h fun _ ht k hk => ht.wr ((offTask_txb c).2.2.2 k (List.mem_range.mp hk))

theorem TaskKept.heldStatus {c : Fin 2} (h : TaskKept o s) : TaskKept o (s.heldStatus c) :=
  .ite (h.raise (show 38 + c.val < 64 by omega)) h

theorem TaskKept.loadStatus {c : Fin 2} {l : List Byte} (h : TaskKept o s) : TaskKept o (s.loadStatus c l) := by
  obtain ⟨hid, hhdr, hstate, -⟩ := offTask_txb c
  unfold State.loadStatus
  extract_lets s1 s2 s3 s4
  have h2 : TaskKept o s2 := .put (.put (.wr h hid) hid) hid
  have h3 : TaskKept o s3 := .put (.put (.put h2 hhdr) hhdr) hhdr
  have h4 : TaskKept o s4 := h3.setTxData.put hstate
  exact TaskKept.heldStatus (.ite (h4.put hstate) h4)

theorem TaskKept.statusFrame {code : Nat} (h : TaskKept o s) : TaskKept o (s.statusFrame code) :=
  h.foldl fun h => .ite (.ite h.setCan h.loadStatus) h

theorem TaskKept.dischargeFail {r : Reason} (h : TaskKept o s) : TaskKept o (s.dischargeFail i r) :=
  (TaskKept.enter (h.writeDisch.raise (driveCause_grp i 10))).statusFrame

/-! ## Position interfaces -/

variable {k : Fin 4} {cycle : Nat}

theorem TaskKept.rotSampleSlot (h : TaskKept o s) : TaskKept o (s.rotSampleSlot i cycle) := .ite h.upd h

theorem TaskKept.rotSample (h : TaskKept o s) : TaskKept o (s.rotSample k cycle) := by
  unfold State.rotSample
  split
  · exact h.rotSampleSlot
  · exact h

theorem TaskKept.posUpdM {x : PosCh} {reason : Nat} {m : Mark} (h : TaskKept o s) : TaskKept o (s.posUpdM k x reason m) := by
  unfold State.posUpdM
  dsimp only
  split
  · split
    · exact .ite h.setPos.rotSample (h.setPos.setPos.rotSample.raiseM (posCause_grp k 17))
    · exact h.setPos
  · exact h.setPos

theorem TaskKept.posBad {reason : Nat} (h : TaskKept o s) : TaskKept o (s.posBad k reason) := h.posUpdM

theorem TaskKept.posGood {reason : Nat} (h : TaskKept o s) : TaskKept o (s.posGood k reason) := h.setPos

theorem TaskKept.monAct {bit reason : Nat} {m : Mark} (h : TaskKept o s) : TaskKept o (s.monAct k bit reason m) :=
  TaskKept.raiseM h.posUpdM (posCause_grp k bit)

theorem TaskKept.posFreeze (h : TaskKept o s) : TaskKept o (s.posFreeze k i cycle) :=
  .ite (h.setPos.setPos.posBad.raise (posCause_grp k 14)) h.setPos

theorem TaskKept.posPlaus (h : TaskKept o s) : TaskKept o (s.posPlaus k i cycle) :=
  .ite (.ite (.ite (h.setPos.heldAct fun h => h.monAct) h.setPos) (.ite h.heldEnd.setPos.posGood h.heldEnd.setPos)) h

/-! ## What a slot evaluates -/

theorem TaskKept.ascTake (h : TaskKept o s) : TaskKept o (s.ascTake i cycle) := by
  unfold State.ascTake
  dsimp only
  split
  · exact h.setSlot
  · exact h.setSlot

theorem TaskKept.ascStep (h : TaskKept o s) : TaskKept o (s.ascStep i cycle) := .ite h.ascTake h.setSlot

theorem TaskKept.selUpdate {n : Word} (h : TaskKept o s) : TaskKept o (s.selUpdate i n) :=
  (TaskKept.ite h.setSlot.setSlot.lockBegin h.setSlot).upd.reforce

theorem TaskKept.probeFast (h : TaskKept o s) : TaskKept o (s.probeFast i cycle) :=
  have h1 {a b w v c} : TaskKept o ((s.fresh.2.rotWrite i a b w v).setIf c (slalomCause i 3)) :=
    h.fresh.rotWrite.setIf (show 32 < 64 by decide)
  .ite ((h1.setSlot.raise (driveCause_grp i 6)).raise (driveCause_grp i 1)).enter h1.setSlot.enter

theorem TaskKept.speedFollow (h : TaskKept o s) : TaskKept o (s.speedFollow i cycle) := by
  unfold State.speedFollow
  extract_lets x s1 fast s2
  have h1 : TaskKept o s1 := .ite h h.setSlot
  have hcause : TaskKept o (s1.setIf fast (driveCause i 1)) := h1.setIf (driveCause_grp i 1)
  refine .ite (.ite (h1.raise (driveCause_grp i 1)) h1.endHold) ?_
  split
  · exact hcause
  · exact hcause
  · exact hcause
  · exact .ite hcause hcause.dischargeFail
  · exact .ite h1.probeFast h1
  all_goals exact h1

theorem TaskKept.speedUpdate (h : TaskKept o s) : TaskKept o (s.speedUpdate i cycle) := by
  unfold State.speedUpdate
  dsimp only
  split
  · exact h.setSlot.selUpdate.speedFollow
  · exact h.setSlot

theorem TaskKept.catchLock {res src : Nat} {speed angle : Word} (h : TaskKept o s) : TaskKept o (s.catchLock i res src speed angle) := by
  have h1 : TaskKept o ((s.rotWrite i res src speed angle).bump (Reg.DRIVE.SLOT.EVENTS.CATCHES i.val)) :=
    h.rotWrite.put (offTask_driveEvents i)
  unfold State.catchLock
  dsimp only
  split
  · exact .ite h1.enter h1.enter
  · exact h1.enter.setSlot
  · exact h1.enter

theorem TaskKept.lockCheck (h : TaskKept o s) : TaskKept o (s.lockCheck i cycle) := by
  unfold State.lockCheck
  dsimp only
  split
  · exact h
  · split
    · split
      · exact .ite h.catchLock h
      · exact h
    · split
      · exact h.catchLock
      · split
        · split
          · exact h.catchLock
          · exact h.fresh.catchLock
        · exact h

theorem TaskKept.curCheck (h : TaskKept o s) : TaskKept o (s.curCheck i) := h.setSlot.setIf (driveCause_grp i 4)

theorem TaskKept.ztg (h : TaskKept o s) : TaskKept o s.ztg :=
  .ite h (TaskKept.ite (.ite (h.upd.put (by decide)).raise h.upd) h).upd.setIf

theorem TaskKept.slotDispatch (h : TaskKept o s) : TaskKept o (s.slotDispatch i cycle) :=
  have h1 : TaskKept o _ := h.rotSampleSlot.ascStep.speedUpdate.lockCheck.curCheck
  .ite (.ite h1.ztg h1) h

theorem TaskKept.obsAct (h : TaskKept o s) : TaskKept o (s.obsAct i) := .ite (.ite h.setSlot.enter h.setSlot) h

theorem TaskKept.obsCheck (h : TaskKept o s) : TaskKept o (s.obsCheck i) :=
  have hlost {x : Slot} {v : Nat} : TaskKept o (((s.setSlot i x).put (Reg.DRIVE.SLOT.EVENTS.OBS_LOSSES i.val) v).raise (driveCause i 2)) :=
    (h.setSlot.put (offTask_driveEvents i)).raise (driveCause_grp i 2)
  .ite h.setSlot (.ite (.ite hlost.setSlot.obsAct hlost) h.setSlot)

/-! ## Entries and profiles at a dispatch edge -/

theorem offTask_profValue : ∀ i : Fin 4, offTask (Reg.PROF.CH.VALUE.addr i.val) = true := by decide

theorem TaskKept.profSet {y : Word} (h : TaskKept o s) : TaskKept o (s.profSet i y) :=
  (h.wr (offTask_profValue i)).setProf.routeVal.routeVal

theorem TaskKept.profInput (h : TaskKept o s) : TaskKept o (s.profInput i) :=
  .ite h.profSet (h.profSet.raise (show 33 < 64 by decide))

theorem TaskKept.profEntry (h : TaskKept o s) : TaskKept o (s.profEntry i) := .ite h (.ite h.profInput h.profSet)

theorem TaskKept.entryAfter {st : Option SlotState} (h : TaskKept o s) : TaskKept o (s.entryAfter i st) := by
  unfold State.entryAfter
  split
  · exact h.profEntry.upd.setIf
  · exact h.profEntry
  · exact h

theorem TaskKept.presetOwned (h : TaskKept o s) : TaskKept o (s.presetOwned i) := h.upd

theorem TaskKept.entryDue (h : TaskKept o s) : TaskKept o (s.entryDue i) := by
  unfold State.entryDue
  dsimp only
  split
  · exact h.enterNow.presetOwned.setSlot
  · exact .ite h.enterNow h

theorem TaskKept.profApply {t : Fin 8} (h : TaskKept o s) : TaskKept o (s.profApply t) := by
  unfold State.profApply
  dsimp only
  refine List.foldlRecOn _ _ h fun u hu i _ => ?_
  split
  · split
    · exact (hu.wr (offTask_profValue i)).setProf.routeVal.routeVal
    · exact hu
  · exact hu

end Sys2Proof.Machine
end

section
/-! The commands of the Carve tasks: triggers, dispatch, END and abort, presets, parameters and the ECC sweep (R162, R171 to R180). -/

namespace Sys2Proof.Machine

variable {s : State}

/-! ## Triggers -/

theorem route_carve (s : State) (cls idx : Nat) (p : Port) : (s.route cls idx p).carve = s.carve := by
  obtain ⟨q, hq⟩ := exists_route s cls idx p
  rw [hq]

/-- The values of a position interface travel as port values: the engine and the registers stay (R105). -/
theorem routePos_leaves (s : State) (k : Fin 8) (cycle : Nat) :
    (s.routePos k cycle).carve = s.carve ∧ (s.routePos k cycle).regs = s.regs := by
  unfold State.routePos
  refine List.foldlRecOn (motive := fun u : State => u.carve = s.carve ∧ u.regs = s.regs) _ _ ⟨rfl, rfl⟩ fun u hu n _ => ?_
  split
  · simp only [route_carve, route_regs]
    exact hu
  · exact hu

theorem sdmTrigger_leaves (s : State) (k cycle : Nat) :
    (s.sdmTrigger k cycle).carve = s.carve ∧ (s.sdmTrigger k cycle).regs = s.regs := by
  unfold State.sdmTrigger
  exact ⟨rfl, rfl⟩

/-- A trigger acts on the tasks once what travels with it has done so, which leaves the engine and the registers (R171). -/
theorem exists_exec_taskTrigger (s : State) (k : Fin 8) (cycle : Nat) : ∃ u : State, u.carve = s.carve ∧ u.regs = s.regs ∧
    exec (.taskTrigger k ⟨cycle, false⟩) s =
      if !u.carve.released then .next u
      else if u.carve.notReady.contains k || u.carve.waiting.contains k || u.carve.running = some k then
        .next ((u.bump (Reg.CARVE.TASK.EVENTS.MISSED k.val)).raise (carveCause (u.ownerOf k.val) 1))
      else .next { u with carve := { u.carve with
        notReady := u.carve.notReady ++ [k], readyAt := u.carve.readyAt.set k (cycle + 32) } } := by
  obtain ⟨hpos, hposRegs⟩ := routePos_leaves { s with taskDelays := s.taskDelays.erase k.val } k cycle
  obtain ⟨hsdm, hsdmRegs⟩ := sdmTrigger_leaves (State.routePos { s with taskDelays := s.taskDelays.erase k.val } k cycle) k.val cycle
  refine ⟨_, hsdm.trans hpos, hsdmRegs.trans hposRegs, ?_⟩
  show execTaskTrigger k ⟨cycle, false⟩ s = _
  unfold execTaskTrigger State.agreeFix
  rfl

theorem taskTrigger_held (h : s.carve.released = false) (k : Fin 8) (cycle : Nat) :
    Runs (.taskTrigger k ⟨cycle, false⟩) s (fun t => t.carve = s.carve ∧ t.regs = s.regs) := by
  obtain ⟨u, hcarve, hregs, hexec⟩ := exists_exec_taskTrigger s k cycle
  rw [hcarve, h] at hexec
  exact ⟨u, hexec, hcarve, hregs⟩

theorem taskTrigger_runs {k : Fin 8} (hrel : s.carve.released = true) (hready : s.carve.notReady.contains k = false)
    (hwait : s.carve.waiting.contains k = false) (hrun : s.carve.running ≠ some k) (cycle : Nat) :
    Runs (.taskTrigger k ⟨cycle, false⟩) s (fun t => t.carve = { s.carve with
      notReady := s.carve.notReady ++ [k], readyAt := s.carve.readyAt.set k (cycle + 32) } ∧ t.regs = s.regs) := by
  obtain ⟨u, hcarve, hregs, hexec⟩ := exists_exec_taskTrigger s k cycle
  rw [hcarve, hrel, hready, hwait, decide_eq_false hrun] at hexec
  exact ⟨_, hexec, rfl, hregs⟩

theorem owner_lt (s : State) (k : Nat) : s.ownerOf k < 4 := get_lt s (Reg.CARVE.TASK.CFG.OWNER k)

theorem eventsAddr_ne_cause (k : Fin 8) (i : Nat) : Reg.CARVE.TASK.EVENTS.addr k.val ≠ Reg.INT.GRP.CAUSE.addr (28 + s.ownerOf i) := by
  have := owner_lt s i
  simp only [Reg.CARVE.TASK.EVENTS.addr, Reg.INT.GRP.CAUSE.addr]
  omega

theorem taskTrigger_missed {k : Fin 8} (hrel : s.carve.released = true)
    (h : s.carve.notReady.contains k = true ∨ s.carve.waiting.contains k = true ∨ s.carve.running = some k) (cycle : Nat) :
    Runs (.taskTrigger k ⟨cycle, false⟩) s (fun t => t.carve = s.carve ∧ t.causeSet ⟨28 + s.ownerOf k.val, 1⟩ = true ∧
      t.get (Reg.CARVE.TASK.EVENTS.MISSED k.val) = min (s.get (Reg.CARVE.TASK.EVENTS.MISSED k.val) + 1)
        (2 ^ (Reg.CARVE.TASK.EVENTS.MISSED k.val).width - 1)) := by
  obtain ⟨u, hcarve, hregs, hexec⟩ := exists_exec_taskTrigger s k cycle
  have howner : u.ownerOf k.val = s.ownerOf k.val := State.get_congr hregs _
  have hbusy : (s.carve.notReady.contains k || s.carve.waiting.contains k || decide (s.carve.running = some k)) = true := by
    simpa only [Bool.or_eq_true, decide_eq_true_eq, or_assoc] using h
  rw [howner, hcarve, hrel, hbusy] at hexec
  refine ⟨_, hexec, ?_, State.causeSet_raise _ (carveCause _ 1) (show 1 < 32 by decide), ?_⟩
  · rw [State.raise_carve]
    exact hcarve
  · rw [State.get_raise _ _ _ (eventsAddr_ne_cause k k.val), get_bump_same _ _ (show 0 + 16 ≤ 32 by decide), State.get_congr hregs]

theorem triggerReady_runs {k : Fin 8} (h : s.carve.notReady.contains k = true) : Runs (.triggerReady k) s (fun t =>
    let before (u : Fin 8) : Prop := s.carve.readyAt[u] < s.carve.readyAt[k] ∨
      s.carve.readyAt[u] = s.carve.readyAt[k] ∧ u < k
    ∃ l r, s.carve.waiting = l ++ r ∧ (∀ u ∈ l, before u) ∧ (∀ u, r.head? = some u → ¬ before u) ∧
      t = { s with carve := { s.carve with notReady := s.carve.notReady.erase k, waiting := l ++ k :: r } }) := by
  refine ⟨_, if_pos h, _, _, (List.takeWhile_append_dropWhile ..).symm, fun u hu => ?_, fun u hu => ?_, rfl⟩
  · simpa using List.mem_takeWhile_imp hu
  · have hnot := List.head?_dropWhile_not (fun u => decide (s.carve.readyAt[u] < s.carve.readyAt[k]) ||
      decide (s.carve.readyAt[u] = s.carve.readyAt[k]) && decide (u < k)) s.carve.waiting
    rw [hu] at hnot
    simpa using hnot

theorem triggerReady_idle {k : Fin 8} (h : s.carve.notReady.contains k = false) : exec (.triggerReady k) s = .next s :=
  if_neg (Bool.eq_false_iff.mp h)

/-! ## Dispatch -/

theorem taskDispatch_idle (h : s.carve.running.isSome = true ∨ s.carve.released = false ∨ s.carve.waiting = [])
    (wait cycle : Nat) : exec (.taskDispatch wait cycle) s = .next s := by
  show execTaskDispatch wait cycle s = _
  unfold execTaskDispatch
  split
  next hrun hready =>
    exfalso
    split at hready <;> simp_all
  next => rfl

theorem onTask_cycles (k : Fin 8) : offTask (Reg.CARVE.TASK.CYCLES.addr k.val) = false := by
  revert k
  decide

theorem onTask_events (k : Fin 8) : offTask (Reg.CARVE.TASK.EVENTS.addr k.val) = false := by
  revert k
  decide

theorem onTask_wait (k : Fin 8) : offTask (Reg.CARVE.TASK.WAIT.addr k.val) = false := by
  revert k
  decide

/-- A count of cycles is kept in a field of 16 bits: LAST in the lower half, MAX in the upper one. -/
theorem get_put_last {f g : Fld} (hf : f.lsb = 0 ∧ f.width = 16) (hg : g.lsb = 16) (n m : Nat) :
    ((s.put f (min n 65535)).put g m).get f = min n 65535 := by
  obtain ⟨hlsb, hwidth⟩ := hf
  rw [State.get_put_bits _ _ _ _ (.inl (by omega)) (by omega), State.get_put_same _ _ _ (by omega), hwidth]
  exact Nat.mod_eq_of_lt (Nat.lt_of_le_of_lt (Nat.min_le_right _ _) (by decide))

/-- What a task that was just dispatched shows, whatever the slot evaluates before and after. -/
theorem dispatched_reads {k : Fin 8} {rest : List (Fin 8)} {wait cycle : Nat} {u t : State} (hw : s.carve.waiting = k :: rest)
    (hu : TaskKept s u) (ht : TaskKept (u.carveDispatch k wait cycle) t) :
    t.carve.running = some k ∧ t.carve.waiting = rest ∧ t.carve.pc = (s.taskRec k.val).entry ∧ t.carve.cycles = 0 ∧
      t.get (Reg.CARVE.TASK.WAIT.LAST k.val) = min wait 65535 := by
  have hwaiting : u.carve.waiting = s.carve.waiting := (congrArg CarveSt.waiting hu.carve :)
  have hqueue : t.carve.waiting = u.carve.waiting.erase k := (congrArg CarveSt.waiting ht.carve :)
  have hpc : t.carve.pc = (u.taskRec k.val).entry := (congrArg CarveSt.pc ht.carve :)
  refine ⟨(congrArg CarveSt.running ht.carve :), ?_, ?_, (congrArg CarveSt.cycles ht.carve :), ?_⟩
  · rw [hqueue, hwaiting, hw, List.erase_cons_head]
  · rw [hpc, State.taskRec, hu.course, State.taskRec]
  · rw [ht.get (onTask_wait k)]
    exact get_put_last ⟨rfl, rfl⟩ rfl wait _

theorem taskDispatch_runs {k : Fin 8} {rest : List (Fin 8)} (hrun : s.carve.running = none) (hrel : s.carve.released = true)
    (hw : s.carve.waiting = k :: rest) (wait cycle : Nat) : Runs (.taskDispatch wait cycle) s (fun t =>
      t.carve.running = some k ∧ t.carve.waiting = rest ∧ t.carve.pc = (s.taskRec k.val).entry ∧ t.carve.cycles = 0 ∧
      t.get (Reg.CARVE.TASK.WAIT.LAST k.val) = min wait 65535) := by
  show ∃ t, execTaskDispatch wait cycle s = .next t ∧ _
  unfold execTaskDispatch
  rw [hrun, if_pos hrel, hw]
  dsimp only
  split
  · exact ⟨_, rfl, dispatched_reads hw (TaskKept.refl s).entryDue (TaskKept.refl _).profApply.entryAfter.slotDispatch⟩
  · exact ⟨_, rfl, dispatched_reads hw (TaskKept.refl s) (TaskKept.refl _).profApply⟩

/-! ## END -/

theorem offTask_out (n i : Nat) : offTask (Reg.CARVE.OUT.addr n i) = true := by
  simp only [offTask, Reg.CARVE.OUT.addr, Reg.CARVE.TASK.CFG.addr, Bool.or_eq_true, decide_eq_true_eq]
  omega

theorem TaskKept.transferOuts {o : State} (h : TaskKept o s) : TaskKept o s.transferOuts :=
  h.foldl fun h => (h.wr (offTask_out _ _)).routeVal

/-- Counting a run in RUNS, and in HELD where the engine held, moves neither the engine nor another register (R180). -/
theorem get_countRun (s : State) (k : Fin 8) (held : Bool) {f : Fld}
    (hf : f.addr ≠ Reg.CARVE.TASK.RUNS.addr k.val ∧ f.addr ≠ Reg.CARVE.TASK.HELD.addr k.val) :
    let t := s.bumpWrap (Reg.CARVE.TASK.RUNS.val k.val)
    let u := if held then t.bumpWrap (Reg.CARVE.TASK.HELD.val k.val) else t
    u.carve = s.carve ∧ u.get f = s.get f := by
  have hruns : (s.bumpWrap (Reg.CARVE.TASK.RUNS.val k.val)).get f = s.get f := State.get_put_addr _ _ _ _ hf.1
  cases held
  · exact ⟨rfl, hruns⟩
  · exact ⟨rfl, (State.get_put_addr _ _ _ _ hf.2).trans hruns⟩

theorem endTask_runs {k : Fin 8} (hk : s.carve.running = some k) (h : s.issues 1 = true) : Runs .endTask s (fun t =>
    t.carve.running = none ∧ t.carve.staged = [] ∧ t.carve.v = s.carve.v ∧ t.carve.s = s.carve.s ∧
    t.get (Reg.CARVE.TASK.CYCLES.LAST k.val) = min (s.carve.cycles + 1) 65535) := by
  show ∃ t, execEndTask s = .next t ∧ _
  unfold execEndTask
  rw [hk]
  dsimp -zeta only
  rw [if_pos h]
  extract_lets s0 c cyc owner at_ s1 c1 s2 s3 s4 s5 s6
  have hs0 : s0 = { s with carve := { s.carve with pc := s.carve.pc + 1, cycles := s.carve.cycles + 1 } } := issue_of_issues h id
  have h1 : TaskKept s0 s1 := (TaskKept.refl s0).transferOuts
  obtain ⟨hcarve4, hcount⟩ := get_countRun ((s2.put (Reg.CARVE.TASK.CYCLES.LAST k.val) cyc).put (Reg.CARVE.TASK.CYCLES.MAX k.val)
    (max cyc (s2.get (Reg.CARVE.TASK.CYCLES.MAX k.val)))) k c.heldRun (f := Reg.CARVE.TASK.CYCLES.LAST k.val)
    ⟨by simp, by simp⟩
  have howner : 28 + owner < 64 := by
    have := owner_lt s0 k.val
    omega
  have h6 : TaskKept s4 s6 := TaskKept.applyHeld (((TaskKept.refl s4).setIf howner).setIf howner |>.setIf howner)
  have hpost {t : State} (ht : TaskKept s4 t) : t.carve.running = none ∧ t.carve.staged = [] ∧ t.carve.v = s.carve.v ∧
      t.carve.s = s.carve.s ∧ t.get (Reg.CARVE.TASK.CYCLES.LAST k.val) = min (s.carve.cycles + 1) 65535 := by
    have hbare : t.carve.bare = s2.carve.bare := ht.carve.trans (congrArg CarveSt.bare hcarve4)
    refine ⟨(congrArg CarveSt.running hbare :), (congrArg CarveSt.staged hbare :), ?_, ?_, ?_⟩
    · exact (congrArg CarveSt.v hbare :).trans ((congrArg CarveSt.v h1.carve :).trans (congrArg (·.carve.v) hs0))
    · exact (congrArg CarveSt.s hbare :).trans ((congrArg CarveSt.s h1.carve :).trans (congrArg (·.carve.s) hs0))
    · rw [ht.get (onTask_cycles k)]
      exact (hcount.trans (get_put_last ⟨rfl, rfl⟩ rfl _ _)).trans (by simp only [c, hs0])
  split
  · exact ⟨_, rfl, hpost h6⟩
  · exact ⟨_, rfl, hpost (TaskKept.upd (TaskKept.obsCheck (h6.foldl fun h => .ite h.posFreeze.posPlaus h)))⟩

/-! ## The abort of a task -/

/-- The words held during a run go to the parameters, which no interrupt cause is among (R176). -/
theorem rd_applyHeld (s : State) {a : Nat} (ha : a < Reg.CARVE.PARAM.addr 0) : s.applyHeld.rd a = s.rd a := by
  refine List.foldlRecOn (motive := fun u : State => u.rd a = s.rd a) s.carve.heldParams _ rfl fun u hu p _ =>
    (State.rd_wr_other _ _ _ _ ?_).trans hu
  simp only [Reg.CARVE.PARAM.addr] at ha ⊢
  omega

theorem causeSet_applyHeld (s : State) {c : Cause} (hc : c.grp < 64) : s.applyHeld.causeSet c = s.causeSet c := by
  rw [State.causeSet, State.causeWord, rd_applyHeld, State.causeSet, State.causeWord]
  simp only [Reg.INT.GRP.CAUSE.addr, Reg.CARVE.PARAM.addr]
  omega

/-- A task that is cut off counts an overrun and sets its cause; the vectors, the scalars and the matrix stay (R173). -/
theorem abortRun_reads (s : State) (k : Fin 8) (ran : Nat) (m : Mark) :
    let t := s.abortRun k ran m
    t.get (Reg.CARVE.TASK.EVENTS.OVERRUNS k.val) = min (s.get (Reg.CARVE.TASK.EVENTS.OVERRUNS k.val) + 1)
      (2 ^ (Reg.CARVE.TASK.EVENTS.OVERRUNS k.val).width - 1) ∧
    t.carve.running = none ∧ t.carve.staged = [] ∧ t.causeSet ⟨28 + s.ownerOf k.val, 0⟩ = true ∧
    t.carve.v = s.carve.v ∧ t.carve.s = s.carve.s ∧ t.carve.matrix = s.carve.matrix := by
  unfold State.abortRun
  extract_lets c s1 cyc s2 s3 t
  have howner := owner_lt s k.val
  have h3 : s3.carve = s1.carve ∧ s3.get (Reg.CARVE.TASK.EVENTS.OVERRUNS k.val) = s.get (Reg.CARVE.TASK.EVENTS.OVERRUNS k.val) := by
    have h2 : s2.get (Reg.CARVE.TASK.EVENTS.OVERRUNS k.val) = s.get (Reg.CARVE.TASK.EVENTS.OVERRUNS k.val) :=
      (State.get_put_addr _ _ _ _ (by simp)).trans (State.get_put_addr _ _ _ _ (by simp))
    cases hheld : c.heldRun
    · simp only [s3, hheld]
      exact ⟨rfl, h2⟩
    · simp only [s3, hheld]
      exact ⟨rfl, (State.get_put_addr _ _ _ _ (by simp)).trans h2⟩
  have ht : TaskKept (s3.bump (Reg.CARVE.TASK.EVENTS.OVERRUNS k.val)) t :=
    TaskKept.applyHeld ((TaskKept.refl _).raiseM (show 28 + s.ownerOf k.val < 64 by omega))
  have hbare : t.carve.bare = s1.carve.bare := ht.carve.trans (congrArg CarveSt.bare h3.1)
  refine ⟨?_, (congrArg CarveSt.running hbare :), (congrArg CarveSt.staged hbare :), ?_, (congrArg CarveSt.v hbare :),
    (congrArg CarveSt.s hbare :), (congrArg CarveSt.matrix hbare :)⟩
  · rw [ht.get (onTask_events k), get_bump_same _ _ (show 16 + 16 ≤ 32 by decide), h3.2]
  · rw [causeSet_applyHeld _ (show 28 + s.ownerOf k.val < 64 by omega)]
    exact State.causeSet_raiseM _ (carveCause _ 0) m (show 0 < 32 by decide)

theorem exec_taskAbort_over {k : Fin 8} (hk : s.carve.running = some k) (hover : s.overBudget = true) :
    exec .taskAbort s = .next (s.heldAct 7 k.val fun u => u.abortRun k s.budget .real) := by
  show execTaskAbort s = _
  unfold execTaskAbort
  rw [hk]
  exact if_pos hover

theorem taskAbort_held {k : Fin 8} (hk : s.carve.running = some k) (hover : s.overBudget = true)
    (hwin : s.windowAt 7 k.val = true) : Runs .taskAbort s (fun t => t.carve = s.carve ∧ t.regs = s.regs) :=
  ⟨s.noteSeen 1, (exec_taskAbort_over hk hover).trans (congrArg _ (if_pos hwin)), rfl, rfl⟩

theorem taskAbort_idle (h : s.carve.running = none ∨ s.overBudget = false) : exec .taskAbort s = .next s := by
  show execTaskAbort s = _
  unfold execTaskAbort
  split
  · rfl
  next k hk =>
    rcases h with h | h
    · rw [h] at hk
      exact nomatch hk
    · exact if_neg (by rw [h]; exact Bool.false_ne_true)

/-! ## Presets, statistics, parameters and ports -/

theorem carvePreset_runs (s : State) (k : Fin 8) : Runs (.carvePreset k) s (fun t =>
    t.carve.preset = s.carve.preset.set k true ∧ t.get (Reg.CARVE.TASK.CMD_STATUS.CODE k.val) = 1) :=
  ⟨_, rfl, rfl, State.get_status _ _ codeOk⟩

theorem carveClearStats_runs (s : State) (k : Fin 8) : Runs (.carveClearStats k) s (fun t =>
    t.get (Reg.CARVE.TASK.CYCLES.MAX k.val) = 0 ∧ t.get (Reg.CARVE.TASK.WAIT.MAX k.val) = 0 ∧
      t.get (Reg.CARVE.TASK.CMD_STATUS.CODE k.val) = 1) := by
  refine ⟨_, rfl, ?_, ?_, State.get_status _ _ codeOk⟩
  · rw [State.get_status_ne _ _ _ _ (by simp), State.get_put_addr _ _ _ _ (by simp),
      State.get_put_same _ _ _ (show 16 + 16 ≤ 32 by decide)]
    rfl
  · rw [State.get_status_ne _ _ _ _ (by simp), State.get_put_same _ _ _ (show 16 + 16 ≤ 32 by decide)]
    rfl

theorem paramWrite_idle (h : s.carve.running = none) (k : Fin 256) (x : Word) : Runs (.paramWrite k x) s (fun t =>
    t.rd (Reg.CARVE.PARAM.addr k.val) = x ∧ s.regsBut [Reg.CARVE.PARAM.addr k.val] t) := by
  have hidle : s.carveBusy = false := by rw [State.carveBusy, h]; rfl
  refine ⟨s.wr (Reg.CARVE.PARAM.addr k.val) x, congrArg _ (if_neg (by rw [hidle]; exact Bool.false_ne_true)),
    State.rd_wr_same _ _ _, fun a ha => State.rd_wr_other _ _ _ _ fun e => ha (e ▸ List.mem_singleton_self _)⟩

theorem paramWrite_busy {j : Fin 8} (h : s.carve.running = some j) (k : Fin 256) (x : Word) : Runs (.paramWrite k x) s (fun t =>
    t = { s with carve := { s.carve with heldParams := s.carve.heldParams ++ [(k.val, x)] } }) :=
  ⟨_, congrArg Host.Outcome.next (if_pos (show s.carve.running.isSome = true by rw [h]; rfl)), rfl⟩

theorem carveInRead_runs (s : State) (sl : Fin 4) (p : Fin 64) : Runs (.carveInRead sl p) s (fun t =>
    t.rd (Reg.CARVE.INSTAT.addr sl.val p.val) = (s.portNow 0x10 sl.val p.val).stat) :=
  ⟨_, rfl, State.rd_wr_same _ _ _⟩

/-! ## The ECC sweep -/

/-- Among causes raised one after the other, each is set at the end. -/
theorem causeSet_foldl_raise {α : Type} (f : α → Cause) (hf : ∀ x, (f x).bit < 32) {l : List α} {x : α} (hx : x ∈ l) (s : State) :
    (l.foldl (fun t y => t.raise (f y)) s).causeSet (f x) = true := by
  obtain ⟨before, after, rfl⟩ := List.append_of_mem hx
  rw [List.foldl_append, List.foldl_cons]
  exact List.foldlRecOn (motive := fun u : State => u.causeSet (f x) = true) after _ (State.causeSet_raise _ _ (hf x))
    fun u hu y _ => State.causeSet_raise_mono u _ _ hu (hf x)

theorem carveEccSweep_fixed {byRead : Bool} (h : byRead = false ∨ s.carve.running.isSome = true) :
    Runs (.carveEccSweep true byRead) s (fun t => ∀ i : Fin 4, t.causeSet ⟨28 + i.val, 6⟩ = true) := by
  have hacts : (true && (!byRead || s.carve.running.isSome)) = true := by
    rcases h with h | h
    · rw [h]; rfl
    · rw [h, Bool.or_true]; rfl
  exact ⟨_, if_pos hacts, fun i => causeSet_foldl_raise (carveCause · 6) (fun _ => show 6 < 32 by decide)
    (List.mem_range.mpr i.isLt) s⟩

theorem carveEccSweep_idle {byRead : Bool} (hread : byRead = true) (h : s.carve.running = none) :
    exec (.carveEccSweep true byRead) s = .next s :=
  if_neg (by rw [hread, h]; exact Bool.false_ne_true)

end Sys2Proof.Machine

section
open Sys2Proof.Machine

/-- Settles O15: one lemma per command above. TASK_ABORT acts where the next program word would pass BUDGET (log entry 41). -/
theorem taskCommandsRun : Obligations.TaskCommandsRun := by
  unfold Obligations.TaskCommandsRun
  intro s
  refine ⟨fun k cycle h => taskTrigger_held h k cycle, fun k cycle hrel hready hwait hrun => taskTrigger_runs hrel hready hwait hrun cycle,
    fun k cycle hrel h => taskTrigger_missed hrel h cycle, fun k => triggerReady_runs, fun k => triggerReady_idle,
    fun wait cycle h => taskDispatch_idle h wait cycle, fun k rest wait cycle hrun hrel hw => taskDispatch_runs hrun hrel hw wait cycle,
    fun k => endTask_runs, fun k => taskAbort_held, fun k hk hover hwin => ⟨_, exec_taskAbort_over hk hover, ?_⟩, taskAbort_idle,
    carvePreset_runs s, carveClearStats_runs s, fun k x h => paramWrite_idle h k x, fun k x j h => paramWrite_busy h k x,
    carveInRead_runs s, fun byRead => ⟨rfl, carveEccSweep_idle, carveEccSweep_fixed⟩⟩
  rw [heldAct_of_no_window hwin]
  exact abortRun_reads s k _ _

end
end

section
/-! A step of the profile generator on its rationals: the clamp, the sign and the magnitude, and what a step may move (R182, R184). -/

namespace Sys2Proof.Machine

variable {m v w : Rat}

theorem absQ_eq_abs (v : Rat) : absQ v = |v| := by
  unfold absQ
  split
  next h => exact (abs_of_neg h).symm
  next h => exact (abs_of_nonneg (not_lt.mp h)).symm

theorem abs_clampQ_le (hm : 0 ≤ m) (v : Rat) : |clampQ m v| ≤ m :=
  abs_le.mpr ⟨le_max_left _ _, max_le (by linarith) (min_le_left _ _)⟩

/-- A clamped value lies between 0 and the value. -/
theorem clampQ_between (hm : 0 ≤ m) (v : Rat) : min 0 v ≤ clampQ m v ∧ clampQ m v ≤ max 0 v := by
  refine ⟨?_, max_le ((neg_nonpos.mpr hm).trans (le_max_left _ _)) ((min_le_right _ _).trans (le_max_right _ _))⟩
  exact (le_min ((min_le_left _ _).trans hm) (min_le_right _ _)).trans (le_max_right _ _)

theorem abs_signQ_mul_le (hm : 0 ≤ m) (v : Rat) : |signQ v * m| ≤ m := by
  unfold signQ
  split_ifs <;> simp [abs_of_nonneg hm, hm]

/-- A rate that moves towards `d` by a clamped part of the way does not pass it. -/
theorem abs_add_clampQ_le (hm : 0 ≤ m) (r d : Rat) : |r + clampQ m (d - r)| ≤ max |r| |d| := by
  obtain ⟨hlo, hhi⟩ := clampQ_between hm (d - r)
  obtain h | h := le_total r d
  · rw [min_eq_left (by linarith)] at hlo
    rw [max_eq_right (by linarith)] at hhi
    exact abs_le_max_abs_abs (by linarith) (by linarith)
  · rw [min_eq_right (by linarith)] at hlo
    rw [max_eq_left (by linarith)] at hhi
    rw [max_comm]
    exact abs_le_max_abs_abs (by linarith) (by linarith)

variable {y r tgt ymax limR limJ T : Rat}

/-- The rate that a step moves towards (R184). -/
def rateDue (y r tgt limR limJ : Rat) (hold : Bool) : Rat :=
  if hold then 0 else signQ (tgt - y - r * absQ r / (2 * limJ)) * limR

theorem rateDue_hold : rateDue y r tgt limR limJ true = 0 := rfl

theorem abs_rateDue_le (hr : 0 ≤ limR) (hold : Bool) : |rateDue y r tgt limR limJ hold| ≤ limR := by
  cases hold
  · exact abs_signQ_mul_le hr _
  · exact abs_zero.le.trans hr

theorem profStep_settled (h : absQ (tgt - y) ≤ limJ * T * T ∧ absQ r ≤ limJ * T) (hold : Bool) :
    profStep y r tgt ymax limR limJ T hold = (clampQ ymax tgt, 0, true, false) := if_pos h

theorem profStep_moving (h : ¬ (absQ (tgt - y) ≤ limJ * T * T ∧ absQ r ≤ limJ * T)) (hold : Bool) :
    let rn := r + clampQ (limJ * T) (rateDue y r tgt limR limJ hold - r)
    let y1 := clampQ ymax (y + (r + rn) / 2 * T)
    profStep y r tgt ymax limR limJ T hold = (y1, rn, false, decide ((tgt - y) * (tgt - y1) < 0 ∨ (y = tgt ∧ y1 ≠ tgt))) :=
  if_neg h

end Sys2Proof.Machine

section
open Sys2Proof.Machine

/-- Settles O16: a step settles on the clamped target, or moves the rate towards `rateDue` by at most lim_j T. -/
theorem profileStepStaysInLimits : Obligations.ProfileStepStaysInLimits := by
  unfold Obligations.ProfileStepStaysInLimits
  intro y r tgt ymax limR limJ T hold hymax hlimR hlimJ hT
  have hJT : 0 ≤ limJ * T := mul_nonneg hlimJ hT
  simp only [absQ_eq_abs]
  by_cases hset : absQ (tgt - y) ≤ limJ * T * T ∧ absQ r ≤ limJ * T
  · rw [profStep_settled hset]
    rw [absQ_eq_abs, absQ_eq_abs] at hset
    refine ⟨abs_clampQ_le hymax _, ?_, ?_, fun _ => ?_, fun _ => ⟨rfl, rfl⟩, fun _ _ => rfl⟩
    · rw [zero_sub, abs_neg]
      exact hset.2
    · rw [abs_zero]
      exact hlimR.trans (le_max_right _ _)
    · rw [abs_zero]
      exact abs_nonneg _
  · rw [profStep_moving hset]
    rw [absQ_eq_abs, absQ_eq_abs] at hset
    have hrate := abs_add_clampQ_le hJT r (rateDue y r tgt limR limJ hold)
    refine ⟨abs_clampQ_le hymax _, ?_, hrate.trans (max_le_max_left _ (abs_rateDue_le hlimR hold)), fun hhold => ?_,
      fun h => Bool.noConfusion h, fun he hr => absurd ⟨he, hr⟩ hset⟩
    · rw [add_sub_cancel_left]
      exact abs_clampQ_le hJT _
    · subst hhold
      rw [rateDue_hold, abs_zero, max_eq_left (abs_nonneg r)] at hrate
      exact hrate

end
end

section
/-! What a drive transition leaves of Slalom and PROF (R210, R302, R306): their registers but for BUSY of the rotation detectors, and the
values that a detector shows. Each rule follows the body of its function. -/

namespace Sys2Proof.Machine

variable {o s t : State}

/-- A field of the blocks of Slalom and PROF apart from BUSY of the detectors. -/
def setpointField (f : Fld) : Prop :=
  (0x40100000 ≤ f.addr ∧ f.addr < 0x40120000) ∧
    ((f.lsb + f.width ≤ 3 ∨ 4 ≤ f.lsb) ∧ f.lsb + f.width ≤ 32 ∨ ∀ i : Fin 4, f.addr ≠ Reg.SLALOM.SL.ROT_RESULT.addr i.val)

/-- From `o` to `s` the fields of Slalom and PROF have stayed, and the speed and angle of every detector. -/
structure SetpointKept (o s : State) : Prop where
  get : ∀ f, setpointField f → s.get f = o.get f
  shown : ∀ i : Fin 4, s.slalom[i].rotSpeed = o.slalom[i].rotSpeed ∧ s.slalom[i].rotAngle = o.slalom[i].rotAngle

theorem SetpointKept.refl (s : State) : SetpointKept s s := ⟨fun _ _ => rfl, fun _ => ⟨rfl, rfl⟩⟩

theorem SetpointKept.of_eq (h : SetpointKept o s) (hr : t.regs = s.regs := by rfl) (hs : t.slalom = s.slalom := by rfl) :
    SetpointKept o t :=
  ⟨fun f hf => (State.get_congr hr f).trans (h.get f hf), hs ▸ h.shown⟩

theorem SetpointKept.ite {c : Prop} {_ : Decidable c} {a b : State} (ha : SetpointKept o a) (hb : SetpointKept o b) :
    SetpointKept o (if c then a else b) := by
  split
  · exact ha
  · exact hb

theorem SetpointKept.foldl {α : Type} {f : State → α → State} {l : List α} (h : SetpointKept o s)
    (hf : ∀ {t x}, SetpointKept o t → SetpointKept o (f t x)) : SetpointKept o (l.foldl f s) :=
  List.foldlRecOn l f h fun _ ht _ _ => hf ht

/-! ## Registers and causes -/

/-- An address outside the blocks of Slalom and PROF. -/
def offSetpoint (a : Nat) : Prop := a < 0x40100000 ∨ 0x40120000 ≤ a

theorem SetpointKept.put {f : Fld} {v : Nat} (h : SetpointKept o s) (hf : offSetpoint f.addr) : SetpointKept o (s.put f v) := by
  refine ⟨fun g hg => (State.get_put_addr s f g v ?_).trans (h.get g hg), h.shown⟩
  obtain ⟨hblock, -⟩ := hg
  simp only [offSetpoint] at hf
  omega

theorem SetpointKept.wr {a : Nat} {x : Word} (h : SetpointKept o s) (ha : offSetpoint a) : SetpointKept o (s.wr a x) := by
  refine ⟨fun g hg => (State.get_wr_ne s a x g ?_).trans (h.get g hg), h.shown⟩
  obtain ⟨hblock, -⟩ := hg
  simp only [offSetpoint] at ha
  omega

theorem SetpointKept.putBusy {i : Fin 4} {v : Nat} (h : SetpointKept o s) :
    SetpointKept o (s.put (Reg.SLALOM.SL.ROT_RESULT.BUSY i.val) v) := by
  refine ⟨fun g hg => (State.get_put_ne s _ g v ?_).trans (h.get g hg), h.shown⟩
  obtain ⟨-, hbits | haddr⟩ := hg
  · exact .inr hbits
  · exact .inl (haddr i)

theorem SetpointKept.raise {c : Cause} (h : SetpointKept o s) (hc : c.grp < 64) : SetpointKept o (s.raise c) := by
  refine ⟨fun g hg => (State.get_raise s c g ?_).trans (h.get g hg), by simpa using h.shown⟩
  obtain ⟨hblock, -⟩ := hg
  simp only [Reg.INT.GRP.CAUSE.addr]
  omega

theorem SetpointKept.writeParam {k : Nat} {x : Word} (h : SetpointKept o s) (hk : k < 256) : SetpointKept o (s.writeParam k x) :=
  .ite h.of_eq (h.wr (.inl (show 0x400f1000 + k * 4 < 0x40100000 by omega)))

/-! ## Legs and the trip network -/

theorem offSetpoint_stats (n : Fin 32) : offSetpoint (Reg.PWM.LEG.STATS.addr n.val) :=
  .inl (show 0x400a103c + n.val * 0x80 < 0x40100000 by omega)

theorem SetpointKept.ilockEpisodes (h : SetpointKept o s) : SetpointKept o s.ilockEpisodes := by
  unfold State.ilockEpisodes
  dsimp only
  refine h.foldl fun h => ?_
  split
  · exact h
  · exact .ite (h.of_eq.put (offSetpoint_stats _)) h

theorem SetpointKept.openBlank {n : Nat} {a b : Bool} (h : SetpointKept o s) : SetpointKept o (s.openBlank n a b) :=
  .ite h.of_eq h

theorem SetpointKept.settle (h : SetpointKept o s) : SetpointKept o s.settle :=
  h.ilockEpisodes.foldl fun h => h.of_eq.openBlank

theorem SetpointKept.followForce {n : Fin 32} {point : Bool} (h : SetpointKept o s) : SetpointKept o (s.followForce n point) := by
  unfold State.followForce
  dsimp only
  split
  · exact .ite h h.of_eq
  · exact .ite h.of_eq h

theorem SetpointKept.reforce (h : SetpointKept o s) : SetpointKept o s.reforce := (h.foldl SetpointKept.followForce).settle

theorem SetpointKept.mpAct {n : Fin 32} (h : SetpointKept o s) : SetpointKept o (s.mpAct n) := h.put (offSetpoint_stats n)

theorem SetpointKept.leadEdge {n : Fin 32} {b : Bool} (h : SetpointKept o s) : SetpointKept o (s.leadEdge n b) :=
  .ite h.of_eq (.ite h.of_eq.mpAct (.ite h.of_eq.mpAct h.of_eq))

theorem SetpointKept.refOn {n : Fin 32} {b : Bool} {t : Int} (h : SetpointKept o s) : SetpointKept o (s.refOn n b t) :=
  .ite h.of_eq.leadEdge h.of_eq

theorem SetpointKept.refOff {n : Fin 32} {b : Bool} {t : Int} {m : RefMove} (h : SetpointKept o s) :
    SetpointKept o (s.refOff n b t m) :=
  have h1 : SetpointKept o _ := .ite h.leadEdge h
  .ite (.ite h1.of_eq h1.of_eq.mpAct) h1.of_eq

theorem SetpointKept.applyRef {n : Fin 32} {b new : Bool} {m : RefMove} (h : SetpointKept o s) :
    SetpointKept o (s.applyRef n b new m) := .ite h (.ite h.refOn h.refOff)

theorem SetpointKept.updateRefs {n : Fin 32} {m : RefMove} (h : SetpointKept o s) : SetpointKept o (s.updateRefs n m) :=
  .ite h.applyRef.applyRef h.applyRef.applyRef

theorem SetpointKept.legElapse {n : Fin 32} (h : SetpointKept o s) : SetpointKept o (s.legElapse n) := h.of_eq

theorem SetpointKept.chopRefs (h : SetpointKept o s) : SetpointKept o s.chopRefs :=
  (h.foldl fun h => .ite h.legElapse.updateRefs h).settle

/-! ## The transitions of a slot -/

variable {i : Fin 4}

theorem SetpointKept.setSlot {x : Slot} (h : SetpointKept o s) : SetpointKept o (s.setSlot i x) := h.of_eq

theorem SetpointKept.setSl {x : SlalomSt} (h : SetpointKept o s)
    (hx : x.rotSpeed = s.slalom[i].rotSpeed ∧ x.rotAngle = s.slalom[i].rotAngle := by exact ⟨rfl, rfl⟩) :
    SetpointKept o (s.setSl i x) := by
  refine ⟨h.get, fun k => ?_⟩
  rw [← (h.shown k).1, ← (h.shown k).2]
  show (s.slalom.set i x)[k.val].rotSpeed = _ ∧ (s.slalom.set i x)[k.val].rotAngle = _
  rw [Vector.getElem_set]
  split
  next hk => exact (Fin.ext hk : i = k) ▸ hx
  next => exact ⟨rfl, rfl⟩

theorem SetpointKept.rotStart (h : SetpointKept o s) : SetpointKept o (s.rotStart i) := SetpointKept.putBusy h.setSl

theorem SetpointKept.rotStop (h : SetpointKept o s) : SetpointKept o (s.rotStop i) := SetpointKept.putBusy h.setSl

theorem SetpointKept.slalomEnter (h : SetpointKept o s) : SetpointKept o (s.slalomEnter i) := h.setSl

theorem SetpointKept.lockBegin (h : SetpointKept o s) : SetpointKept o (s.lockBegin i) := h.setSl

theorem SetpointKept.leaveCharge {safe : Bool} (h : SetpointKept o s) : SetpointKept o (s.leaveCharge safe) :=
  (h.writeParam (get_lt _ _)).of_eq

theorem SetpointKept.dischRelease (h : SetpointKept o s) : SetpointKept o s.dischRelease :=
  .ite (SetpointKept.put h.of_eq (.inr (by decide))) h.of_eq

theorem SetpointKept.leaveDischarge (h : SetpointKept o s) : SetpointKept o (s.leaveDischarge i) :=
  (SetpointKept.ite (h.writeParam (get_lt _ _)) h).setSlot.dischRelease.chopRefs

theorem SetpointKept.slotLine {v : Bool} (h : SetpointKept o s) : SetpointKept o (s.slotLine i v) := SetpointKept.reforce h.of_eq

theorem SetpointKept.endHold (h : SetpointKept o s) : SetpointKept o (s.endHold i) := .ite (SetpointKept.reforce h.of_eq) h

theorem SetpointKept.clearLatches (h : SetpointKept o s) : SetpointKept o (s.clearLatches i) :=
  (SetpointKept.put (s := State.dropHolds _) h.of_eq (.inl (by decide))).reforce

theorem SetpointKept.frictionCheck (h : SetpointKept o s) : SetpointKept o s.frictionCheck := .ite h.of_eq h

theorem SetpointKept.left {st : SlotState} (h : SetpointKept o s) : SetpointKept o (s.left i st) :=
  have h1 : SetpointKept o _ := .ite h.leaveCharge h
  have h2 : SetpointKept o _ := .ite h1.leaveDischarge h1
  .ite h2.rotStop h2

theorem SetpointKept.begun {st : SlotState} (h : SetpointKept o s) : SetpointKept o (s.begun i st) :=
  have h1 : SetpointKept o _ := .ite h.slalomEnter.lockBegin h
  have h2 : SetpointKept o _ :=
    .ite (h1.put (.inr (show 0x40120000 ≤ 0x40120140 + i.val * 0x80 by omega))).slotLine.endHold h1
  .ite h2.rotStart (.ite h2.clearLatches h2)

theorem SetpointKept.enterNow {st : SlotState} {r : Reason} (h : SetpointKept o s) : SetpointKept o (s.enterNow i st r) :=
  (SetpointKept.raise h.left.setSlot.begun (driveCause_grp i 0)).frictionCheck

theorem SetpointKept.enter {st : SlotState} {r : Reason} (h : SetpointKept o s) : SetpointKept o (s.enter i st r) :=
  .ite (SetpointKept.ite h.rotStop h).setSlot h.enterNow

theorem SetpointKept.chargeOpen (h : SetpointKept o s) : SetpointKept o s.chargeOpen := .ite h.of_eq h.enter

end Sys2Proof.Machine
end

section
/-! The commands of a profile channel: steps, HOLD, RESUME, PRESET_INPUT and the read of VALUE (R183 to R187, R213, R214, R318). -/

namespace Sys2Proof.Machine

variable {s t u : State} {i : Fin 4} {interval : Nat}

/-! ## The glide hold -/

theorem driveCauseAddr_lt (i : Fin 4) : Reg.INT.GRP.CAUSE.addr (driveCause i 11).grp < 0x40100000 := by
  show 0x40040100 + (34 + i.val) * 0x10 < 0x40100000
  omega

/-- The glide hold moves that flag of the slot, and may set its cause. -/
theorem ovHold_cases (s : State) (i : Fin 4) : ∃ b,
    s.ovHold i = s.setSlot i { s.slot i with ovHold := b } ∨
    s.ovHold i = (s.setSlot i { s.slot i with ovHold := b }).raise (driveCause i 11) := by
  have same : ∃ b, s = s.setSlot i { s.slot i with ovHold := b } ∨
      s = (s.setSlot i { s.slot i with ovHold := b }).raise (driveCause i 11) :=
    ⟨(s.slot i).ovHold, .inl (setSlot_slot s i).symm⟩
  unfold State.ovHold
  dsimp only
  split
  · split
    · exact ⟨_, .inl rfl⟩
    · exact same
  · split
    · exact same
    · split
      · split
        · exact same
        · exact ⟨_, .inr rfl⟩
      · split
        · exact ⟨_, .inl rfl⟩
        · exact same

theorem ovHold_leaves (s : State) (i : Fin 4) : (s.ovHold i).prof = s.prof ∧ (s.ovHold i).legs = s.legs ∧
    (s.ovHold i).chg = s.chg ∧ (∃ b, (s.ovHold i).slot i = { s.slot i with ovHold := b }) ∧
    ∀ a, 0x40100000 ≤ a → (s.ovHold i).rd a = s.rd a := by
  obtain ⟨b, h | h⟩ := ovHold_cases s i
  · rw [h]
    exact ⟨rfl, rfl, rfl, ⟨b, slot_setSlot _ _ _⟩, fun _ _ => rfl⟩
  · rw [h]
    refine ⟨State.raise_prof _ _, State.raise_legs _ _, State.raise_chg _ _, ⟨b, ?_⟩, fun a ha => ?_⟩
    · rw [State.slot, State.raise_slots]
      exact slot_setSlot _ _ _
    · exact State.rd_raise _ _ _ (Nat.ne_of_gt (Nat.lt_of_lt_of_le (driveCauseAddr_lt i) ha))

theorem prof_ovHold (s : State) (i : Fin 4) : (s.ovHold i).prof = s.prof := (ovHold_leaves s i).1

theorem chg_ovHold (s : State) (i : Fin 4) : (s.ovHold i).chg = s.chg := (ovHold_leaves s i).2.2.1

theorem rd_ovHold (s : State) (i : Fin 4) {a : Nat} (ha : 0x40100000 ≤ a) : (s.ovHold i).rd a = s.rd a :=
  (ovHold_leaves s i).2.2.2.2 a ha

theorem get_ovHold (s : State) (i : Fin 4) {f : Fld} (hf : 0x40100000 ≤ f.addr) : (s.ovHold i).get f = s.get f := by
  rw [State.get, rd_ovHold s i hf, State.get]

theorem slot_ovHold (s : State) (i : Fin 4) : ∃ b, (s.ovHold i).slot i = { s.slot i with ovHold := b } :=
  (ovHold_leaves s i).2.2.2.1

theorem state_ovHold (s : State) (i : Fin 4) : ((s.ovHold i).slot i).state = (s.slot i).state := by
  obtain ⟨b, h⟩ := slot_ovHold s i
  rw [h]

/-- Outside GLIDE no slot is held by the link (R318). -/
theorem ovHold_of_not_glide (h : (s.slot i).state ≠ .glide) : ((s.ovHold i).slot i).ovHold = false := by
  unfold State.ovHold
  dsimp only
  rw [if_pos h]
  split
  · rw [slot_setSlot]
  next hov => exact Bool.eq_false_iff.mpr hov

/-! ## PROF_STEP -/

theorem profLimits_ovHold (s : State) (i : Fin 4) : (s.ovHold i).profLimits i = s.profLimits i := by
  obtain ⟨b, hslot⟩ := slot_ovHold s i
  unfold State.profLimits
  rw [hslot, chg_ovHold]
  have hkind := flag_eq_of_get (get_ovHold s i (f := Reg.DRIVE.SLOT.CFG.GLIDE_KIND i.val) (Nat.le_add_right_of_le (by decide)))
  have hcharge : ∀ a ∈ [Reg.DRIVE.CHG.TARGET.addr, Reg.DRIVE.CHG.YMAX.addr, Reg.DRIVE.CHG.RMAX.addr, Reg.DRIVE.CHG.JMAX.addr],
      (s.ovHold i).rd a = s.rd a := fun a ha => rd_ovHold s i ((by decide : ∀ b ∈ _, 0x40100000 ≤ b) a ha)
  simp only [List.forall_mem_cons] at hcharge
  simp (disch := (apply Nat.le_add_right_of_le; decide)) only [hkind, hcharge, rd_ovHold]

theorem profLimits_run (h : (s.slot i).state = .run) : s.profLimits i =
    (fRat (s.rd (Reg.PROF.CH.TARGET.addr i.val)), fRat (s.rd (Reg.PROF.CH.YMAX.addr i.val)),
      fRat (s.rd (Reg.PROF.CH.RMAX.addr i.val)), fRat (s.rd (Reg.PROF.CH.JMAX.addr i.val))) := by
  unfold State.profLimits
  dsimp only
  rw [h]

/-- What a step of a channel computes (R183, R184, R318), in a state whose glide hold is up to date. -/
def State.profMoved (s : State) (i : Fin 4) (interval : Nat) : Rat × Rat × Bool × Bool :=
  let l := s.profLimits i
  let b := s.prof[i].step.getD (s.rd (Reg.PROF.CH.VALUE.addr i.val), s.prof[i].r)
  profStep (fRat b.1) (fRat b.2) (clampQ l.2.1 l.1) l.2.1 l.2.2.1 l.2.2.2
    (if s.prof[i].first then 0 else (interval : Rat) / 300000000) (s.prof[i].hold || (s.slot i).ovHold)

/-- The record of a channel after a step with result `q` (R184, R213). -/
def State.profNext (s : State) (i : Fin 4) (q : Rat × Rat × Bool × Bool) : Prof :=
  let l := s.profLimits i
  { s.prof[i] with
    first := false, step := some (fOfRat q.1, fOfRat q.2.1), atTarget := q.2.2.1
    limited := decide (clampQ l.2.1 l.1 ≠ l.1), overshoot := q.2.2.2 || (s.prof[i].overshoot && !q.2.2.1) }

/-- A step made (R184, R214): the record, STEPS and the causes. -/
def State.profStepped (s : State) (i : Fin 4) (q : Rat × Rat × Bool × Bool) : State :=
  ((((s.setProf i (s.profNext i q)).bumpWrap (Reg.PROF.CH.STEPS.val i.val)).setIf (s.profNext i q).limited
    (profCause i 0)).setIf q.2.2.2 (profCause i 1)).setIf (q.2.2.1 && !s.prof[i].atTarget) (profCause i 3)

theorem execProfStep_eq (s : State) (i : Fin 4) (interval : Nat) : execProfStep i interval s =
    let u := s.ovHold i
    let q := u.profMoved i interval
    if u.flag (Reg.PROF.CH.CFG.ENABLE i.val) && (u.slot i).state.steps then
      if i = 0 ∧ (u.profStepped i q).chg.phase = .rampDown ∧ q.2.2.1 = true ∧ q.1 = 0 then .next (u.profStepped i q).chargeOpen
      else .next (u.profStepped i q)
    else .next u := by
  unfold execProfStep
  dsimp only
  rfl

theorem profMoved_ovHold (s : State) (i : Fin 4) (interval : Nat) : (s.ovHold i).profMoved i interval =
    let l := s.profLimits i
    let b := s.prof[i].step.getD (s.rd (Reg.PROF.CH.VALUE.addr i.val), s.prof[i].r)
    profStep (fRat b.1) (fRat b.2) (clampQ l.2.1 l.1) l.2.1 l.2.2.1 l.2.2.2
      (if s.prof[i].first then 0 else (interval : Rat) / 300000000) (s.prof[i].hold || ((s.ovHold i).slot i).ovHold) := by
  unfold State.profMoved
  rw [profLimits_ovHold, prof_ovHold, rd_ovHold s i (Nat.le_add_right_of_le (by decide))]

theorem profNext_ovHold (s : State) (i : Fin 4) (q : Rat × Rat × Bool × Bool) : (s.ovHold i).profNext i q = s.profNext i q := by
  unfold State.profNext
  rw [profLimits_ovHold, prof_ovHold]

theorem ne_profCauseAddr {a : Nat} (ha : 0x40100000 ≤ a) (i : Fin 4) (b : Nat) : a ≠ Reg.INT.GRP.CAUSE.addr (profCause i b).grp :=
  Nat.ne_of_gt (Nat.lt_of_lt_of_le (show 0x40040100 + 33 * 0x10 < 0x40100000 by decide) ha)

theorem rd_setIf_of_ne {b : Bool} {c : Cause} {a : Nat} (h : a ≠ Reg.INT.GRP.CAUSE.addr c.grp) : (s.setIf b c).rd a = s.rd a := by
  unfold State.setIf
  split
  · exact State.rd_raise s c a h
  · rfl

/-- A field that counts with wrap reads one more, modulo its width. -/
theorem get_bumpWrap_same (s : State) (f : Fld) (h : f.lsb + f.width ≤ 32) : (s.bumpWrap f).get f = (s.get f + 1) % 2 ^ f.width :=
  (State.get_put_same s f _ h).trans (Nat.mod_mod _ _)

/-- What a step shows: the channel's record, STEPS, and VALUE as it was. -/
theorem profStepped_reads (s : State) (i : Fin 4) (q : Rat × Rat × Bool × Bool) :
    (s.profStepped i q).prof[i] = s.profNext i q ∧ (s.profStepped i q).chg = s.chg ∧
    (s.profStepped i q).get (Reg.PROF.CH.STEPS.val i.val) = (s.get (Reg.PROF.CH.STEPS.val i.val) + 1) % 2 ^ 32 ∧
    (s.profStepped i q).rd (Reg.PROF.CH.VALUE.addr i.val) = s.rd (Reg.PROF.CH.VALUE.addr i.val) := by
  have hsteps (b : Nat) := ne_profCauseAddr (a := (Reg.PROF.CH.STEPS.val i.val).addr) (Nat.le_add_right_of_le (by decide)) i b
  have hvalue (b : Nat) := ne_profCauseAddr (a := Reg.PROF.CH.VALUE.addr i.val) (Nat.le_add_right_of_le (by decide)) i b
  unfold State.profStepped
  refine ⟨?_, ?_, ?_, ?_⟩
  · simp only [State.setIf_prof, State.bumpWrap_prof]
    exact Vector.getElem_set_self _
  · simp only [State.setIf_chg, State.bumpWrap_chg, State.setProf_chg]
  · rw [State.get_setIf _ _ _ _ (hsteps 3), State.get_setIf _ _ _ _ (hsteps 1), State.get_setIf _ _ _ _ (hsteps 0)]
    exact get_bumpWrap_same _ _ (Nat.le_refl 32)
  · rw [rd_setIf_of_ne (hvalue 3), rd_setIf_of_ne (hvalue 1), rd_setIf_of_ne (hvalue 0)]
    exact State.rd_put_other _ _ _ _ (by simp)

/-- An enabled channel in a state that steps makes its step; the last one of a ramp of CHARGE opens the contactor (R342). -/
theorem execProfStep_of_steps (he : s.flag (Reg.PROF.CH.CFG.ENABLE i.val) = true) (hs : (s.slot i).state.steps = true)
    (interval : Nat) :
    let u := (s.ovHold i).profStepped i ((s.ovHold i).profMoved i interval)
    exec (.profStep i interval) s = .next u ∨
      (i = 0 ∧ s.chg.phase = .rampDown) ∧ exec (.profStep i interval) s = .next u.chargeOpen := by
  intro u
  have hchg : u.chg = s.chg := (profStepped_reads _ i _).2.1.trans (chg_ovHold s i)
  have hgo : ((s.ovHold i).flag (Reg.PROF.CH.CFG.ENABLE i.val) && ((s.ovHold i).slot i).state.steps) = true := by
    rw [flag_eq_of_get (get_ovHold s i (Nat.le_add_right_of_le (by decide))), he, state_ovHold, hs]
    rfl
  show execProfStep i interval s = _ ∨ _ ∧ execProfStep i interval s = _
  rw [execProfStep_eq]
  dsimp only
  rw [if_pos hgo]
  split
  next h =>
    obtain ⟨hi, hphase, -⟩ := h
    exact .inr ⟨⟨hi, hchg ▸ hphase⟩, rfl⟩
  next => exact .inl rfl

theorem setpointField_steps (i : Fin 4) : setpointField (Reg.PROF.CH.STEPS.val i.val) :=
  ⟨⟨Nat.le_add_right_of_le (by decide), show 0x4011012c + i.val * 0x40 < 0x40120000 by omega⟩,
    .inr fun k => show 0x4011012c + i.val * 0x40 ≠ 0x4010013c + k.val * 0x100 by omega⟩

theorem profStep_counts (he : s.flag (Reg.PROF.CH.CFG.ENABLE i.val) = true) (hs : (s.slot i).state.steps = true) (interval : Nat) :
    Runs (.profStep i interval) s fun t =>
      t.get (Reg.PROF.CH.STEPS.val i.val) = (s.get (Reg.PROF.CH.STEPS.val i.val) + 1) % 2 ^ 32 ∧
      (i ≠ 0 ∨ s.chg.phase ≠ .rampDown → t = (s.ovHold i).profStepped i ((s.ovHold i).profMoved i interval)) := by
  have hsteps := (profStepped_reads (s.ovHold i) i ((s.ovHold i).profMoved i interval)).2.2.1
  rw [get_ovHold s i (Nat.le_add_right_of_le (by decide))] at hsteps
  obtain h | ⟨⟨hi, hphase⟩, h⟩ := execProfStep_of_steps he hs interval
  · exact ⟨_, h, hsteps, fun _ => rfl⟩
  · refine ⟨_, h, ?_, fun hn => ?_⟩
    · exact ((SetpointKept.refl _).chargeOpen.get _ (setpointField_steps i)).trans hsteps
    · exact absurd hphase (hn.resolve_left (absurd hi))

/-- A step waits for its dispatch edge: VALUE and the rate stand (R185). -/
theorem profStepped_ovHold_reads (s : State) (i : Fin 4) (q : Rat × Rat × Bool × Bool) :
    let t := (s.ovHold i).profStepped i q
    t.prof[i] = s.profNext i q ∧ t.rd (Reg.PROF.CH.VALUE.addr i.val) = s.rd (Reg.PROF.CH.VALUE.addr i.val) := by
  obtain ⟨hprof, -, -, hvalue⟩ := profStepped_reads (s.ovHold i) i q
  exact ⟨hprof.trans (profNext_ovHold s i q), hvalue.trans (rd_ovHold s i (Nat.le_add_right_of_le (by decide)))⟩

theorem profStep_runs (he : s.flag (Reg.PROF.CH.CFG.ENABLE i.val) = true) (hs : (s.slot i).state.steps = true) (interval : Nat) :
    Runs (.profStep i interval) s (fun t =>
      t.get (Reg.PROF.CH.STEPS.val i.val) = (s.get (Reg.PROF.CH.STEPS.val i.val) + 1) % 2 ^ 32 ∧
      (i ≠ 0 ∨ s.chg.phase ≠ .rampDown →
        let l := s.profLimits i
        let b := s.prof[i].step.getD (s.rd (Reg.PROF.CH.VALUE.addr i.val), s.prof[i].r)
        let q := profStep (fRat b.1) (fRat b.2) (clampQ l.2.1 l.1) l.2.1 l.2.2.1 l.2.2.2
          (if s.prof[i].first then 0 else (interval : Rat) / 300000000) (s.prof[i].hold || ((s.ovHold i).slot i).ovHold)
        t.prof[i] = s.profNext i q ∧ t.rd (Reg.PROF.CH.VALUE.addr i.val) = s.rd (Reg.PROF.CH.VALUE.addr i.val))) := by
  obtain ⟨t, ht, hsteps, hmade⟩ := profStep_counts he hs interval
  refine ⟨t, ht, hsteps, fun hn => ?_⟩
  rw [hmade hn, profMoved_ovHold]
  exact profStepped_ovHold_reads s i _

theorem profStep_none (h : s.flag (Reg.PROF.CH.CFG.ENABLE i.val) = false ∨ (s.slot i).state.steps = false) (interval : Nat) :
    exec (.profStep i interval) s = .next (s.ovHold i) := by
  have hstay : ¬ ((s.ovHold i).flag (Reg.PROF.CH.CFG.ENABLE i.val) && ((s.ovHold i).slot i).state.steps) = true := by
    rw [flag_eq_of_get (get_ovHold s i (Nat.le_add_right_of_le (by decide))), state_ovHold, Bool.and_eq_true, not_and_or]
    exact h.imp Bool.eq_false_iff.mp Bool.eq_false_iff.mp
  show execProfStep i interval s = _
  rw [execProfStep_eq]
  exact if_neg hstay

/-! ## HOLD and RESUME -/

theorem prof_setProf (s : State) (i : Fin 4) (x : Prof) : (s.setProf i x).prof[i] = x := Vector.getElem_set_self _

theorem profCode_status (s : State) (i : Fin 4) (c : Nat) (hc : c < 256) :
    (s.status (Reg.PROF.CH.CMD_STATUS.addr i.val) c).get (Reg.PROF.CH.CMD_STATUS.CODE i.val) = c :=
  (State.get_status s _ c).trans (Nat.mod_eq_of_lt hc)

theorem profHold_runs (s : State) (i : Fin 4) : Runs (.profHold i) s (fun t => t.prof[i] = { s.prof[i] with hold := true } ∧
    t.get (Reg.PROF.CH.CMD_STATUS.CODE i.val) = codeOk ∧ t.slots = s.slots) :=
  ⟨_, rfl, prof_setProf s i _, profCode_status _ i codeOk (by decide), rfl⟩

theorem profResume_runs (s : State) (i : Fin 4) : Runs (.profResume i) s (fun t => t.prof[i] = { s.prof[i] with hold := false } ∧
    t.get (Reg.PROF.CH.CMD_STATUS.CODE i.val) = codeOk ∧ t.slots = s.slots) :=
  ⟨_, rfl, prof_setProf s i _, profCode_status _ i codeOk (by decide), rfl⟩

/-! ## PRESET_INPUT -/

theorem route_prof (s : State) (cls idx : Nat) (x : Port) : (s.route cls idx x).prof = s.prof := by
  obtain ⟨p, hp⟩ := exists_route s cls idx x
  rw [hp]

/-- A channel preset, before its value and its rate travel along their routes (R185). -/
def State.profPreset (s : State) (i : Fin 4) (y : Word) : State :=
  (s.wr (Reg.PROF.CH.VALUE.addr i.val) y).setProf i { s.prof[i] with r := f0, first := true, step := none }

theorem profSet_eq (s : State) (i : Fin 4) (y : Word) :
    s.profSet i y = ((s.profPreset i y).routeVal 9 (2 * i.val) y).routeVal 9 (2 * i.val + 1) f0 := rfl

/-- A channel that is preset shows its value, at rate 0, with its first step to come (R185). -/
theorem profSet_reads (s : State) (i : Fin 4) (y : Word) : (s.profSet i y).rd (Reg.PROF.CH.VALUE.addr i.val) = y ∧
    (s.profSet i y).prof[i].r = 0#32 ∧ (s.profSet i y).prof[i].first = true := by
  have hprof : (s.profSet i y).prof[i] = { s.prof[i] with r := f0, first := true, step := none } := by
    rw [profSet_eq, State.routeVal, route_prof, State.routeVal, route_prof]
    exact prof_setProf _ i _
  refine ⟨?_, congrArg Prof.r hprof, congrArg Prof.first hprof⟩
  rw [profSet_eq, State.routeVal, State.rd_congr (route_regs _ _ _ _), State.routeVal, State.rd_congr (route_regs _ _ _ _)]
  exact State.rd_wr_same s _ y

theorem execPresetInput_of_steps (h : (s.slot i).state.steps = false) :
    exec (.presetInput i) s = .next ((s.profInput i).status (Reg.PROF.CH.CMD_STATUS.addr i.val) codeOk) :=
  if_neg (Bool.eq_false_iff.mp h)

theorem rd_profStatus (s : State) (i : Fin 4) (c : Nat) :
    (s.status (Reg.PROF.CH.CMD_STATUS.addr i.val) c).rd (Reg.PROF.CH.VALUE.addr i.val) = s.rd (Reg.PROF.CH.VALUE.addr i.val) :=
  State.rd_put_other s _ _ _ (by simp)

theorem presetInput_valid (h : (s.slot i).state.steps = false) (hv : (s.profPort i).valid = true) :
    Runs (.presetInput i) s (fun t => t.rd (Reg.PROF.CH.VALUE.addr i.val) = (s.profPort i).val ∧ t.prof[i].r = 0#32 ∧
      t.prof[i].first = true ∧ t.get (Reg.PROF.CH.CMD_STATUS.CODE i.val) = codeOk) := by
  obtain ⟨hvalue, hrate, hfirst⟩ := profSet_reads s i (s.profPort i).val
  have hinput : s.profInput i = s.profSet i (s.profPort i).val := if_pos hv
  rw [← hinput] at hvalue hrate hfirst
  exact ⟨_, execPresetInput_of_steps h, (rd_profStatus _ i codeOk).trans hvalue, hrate, hfirst,
    profCode_status _ i codeOk (by decide)⟩

theorem presetInput_invalid (h : (s.slot i).state.steps = false) (hv : (s.profPort i).valid = false) :
    Runs (.presetInput i) s (fun t => t.rd (Reg.PROF.CH.VALUE.addr i.val) = 0#32 ∧ t.prof[i].r = 0#32 ∧
      t.causeSet ⟨33, 4 * i.val + 2⟩ = true) := by
  obtain ⟨hvalue, hrate, -⟩ := profSet_reads s i f0
  have hinput : s.profInput i = (s.profSet i f0).raise (profCause i 2) := if_neg (Bool.eq_false_iff.mp hv)
  refine ⟨_, execPresetInput_of_steps h, ?_, ?_, ?_⟩
  · rw [rd_profStatus, hinput, State.rd_raise _ _ _ (ne_profCauseAddr (Nat.le_add_right_of_le (by decide)) i 2)]
    exact hvalue
  · rw [State.status_prof, hinput, State.raise_prof]
    exact hrate
  · rw [State.status, State.causeSet_put _ _ _ _ (ne_profCauseAddr (Nat.le_add_right_of_le (by decide)) i 2).symm, hinput]
    exact State.causeSet_raise _ (profCause i 2) (show 4 * i.val + 2 < 32 by omega)

theorem presetInput_denied (h : (s.slot i).state.steps = true) : Runs (.presetInput i) s (fun t =>
    t.get (Reg.PROF.CH.CMD_STATUS.CODE i.val) = codeDenied ∧ t.causeSet ⟨33, 17⟩ = true ∧ t.prof = s.prof ∧
    t.rd (Reg.PROF.CH.VALUE.addr i.val) = s.rd (Reg.PROF.CH.VALUE.addr i.val)) := by
  have hstatus := ne_profCauseAddr (a := Reg.PROF.CH.CMD_STATUS.addr i.val) (Nat.le_add_right_of_le (by decide)) i 17
  have hvalue := ne_profCauseAddr (a := Reg.PROF.CH.VALUE.addr i.val) (Nat.le_add_right_of_le (by decide)) i 17
  exact ⟨_, if_pos h, State.get_deny_code s _ ⟨33, 17⟩ hstatus, State.causeSet_deny s _ ⟨33, 17⟩ (by decide), State.deny_prof _ _ _,
    (State.rd_raise _ ⟨33, 17⟩ _ hvalue).trans (rd_profStatus s i codeDenied)⟩

/-! ## The read of VALUE -/

theorem profValueRead_runs (s : State) (i : Fin 4) : Runs (.profValueRead i) s (fun t =>
    t.rd (Reg.PROF.CH.RATE.addr i.val) = s.prof[i].r ∧ t.rd (Reg.PROF.CH.STATUS.addr i.val) = s.profStatus i ∧
    t.rd (Reg.PROF.CH.VALUE.addr i.val) = s.rd (Reg.PROF.CH.VALUE.addr i.val)) := by
  refine ⟨_, rfl, ?_, State.rd_wr_same _ _ _, ?_⟩
  · rw [State.rd_wr_other _ _ _ _ (by simp), State.rd_wr_same]
  · rw [State.rd_wr_other _ _ _ _ (by simp), State.rd_wr_other _ _ _ _ (by simp)]

end Sys2Proof.Machine

section
open Sys2Proof.Machine

/-- Settles O17: a step comes to `profStep_runs`. That it goes on from a step that still waits for its dispatch edge, and that the PROF
input is taken whatever DST_INDEX its route carries, is log entry 63. -/
theorem profileCommandsRun : Obligations.ProfileCommandsRun := by
  unfold Obligations.ProfileCommandsRun
  intro s i
  refine ⟨fun interval he hrun hphase => ?_, fun interval he hs => ?_, fun interval h => ?_, profHold_runs s i, profResume_runs s i,
    presetInput_valid, presetInput_invalid, presetInput_denied, profValueRead_runs s i⟩
  · have hsteps : (s.slot i).state.steps = true := by rw [hrun]; rfl
    have hglide : (s.slot i).state ≠ .glide := by rw [hrun]; decide
    obtain ⟨t, ht, hcount, hmade⟩ := profStep_runs he hsteps interval
    obtain ⟨hprof, hvalue⟩ := hmade (.inr hphase)
    rw [profLimits_run hrun, ovHold_of_not_glide hglide, Bool.or_false] at hprof
    refine ⟨t, ht, ?_⟩
    dsimp only
    rw [hprof]
    refine ⟨rfl, rfl, ?_, hvalue, rfl, hcount⟩
    rw [State.profNext, profLimits_run hrun]
  · obtain ⟨t, ht, hcount, hmade⟩ := profStep_runs he hs interval
    refine ⟨t, ht, hcount, fun hn => ?_⟩
    obtain ⟨hprof, hvalue⟩ := hmade hn
    dsimp only
    rw [hprof]
    exact ⟨rfl, rfl, rfl, hvalue, rfl⟩
  · obtain ⟨hprof, hlegs, -⟩ := ovHold_leaves s i
    exact ⟨_, profStep_none h interval, hprof, hlegs, rd_ovHold s i (Nat.le_add_right_of_le (by decide)),
      get_ovHold s i (Nat.le_add_right_of_le (by decide))⟩

end
end

section
/-! What a Slalom job writes into the phase legs of its slot (R191, R193, R225, R226, R233): each leg's own shadows and commit alone. -/

namespace Sys2Proof.Machine

variable {s t u : State} {i : Fin 4} {n : Fin 32} {l : List (Fin 32)}

/-! ## What the writes of some legs leave -/

/-- The registers that a job may move for one leg: its shadows, and the causes of PWM. -/
def legJobRegs (n : Fin 32) : List Nat :=
  [Reg.PWM.LEG.CMP.addr n.val 0, Reg.PWM.LEG.CMP.addr n.val 1, Reg.PWM.LEG.IDLE.addr n.val, Reg.INT.GRP.CAUSE.addr 3]

/-- From `s` to `t` a job has written legs of `l` alone. -/
structure JobKept (l : List (Fin 32)) (s t : State) : Prop where
  course : t.course = s.course
  slalom : t.slalom = s.slalom
  carve : t.carve = s.carve
  legs : ∀ m, m ∉ l → t.leg m = s.leg m
  regs : ∀ a, (∀ m ∈ l, a ∉ legJobRegs m) → t.rd a = s.rd a

theorem JobKept.refl (l : List (Fin 32)) (s : State) : JobKept l s s := ⟨rfl, rfl, rfl, fun _ _ => rfl, fun _ _ => rfl⟩

theorem JobKept.trans (h : JobKept l s t) (h' : JobKept l t u) : JobKept l s u where
  course := h'.course.trans h.course
  slalom := h'.slalom.trans h.slalom
  carve := h'.carve.trans h.carve
  legs m hm := (h'.legs m hm).trans (h.legs m hm)
  regs a ha := (h'.regs a ha).trans (h.regs a ha)

theorem JobKept.mono {l' : List (Fin 32)} (h : JobKept l s t) (hl : ∀ m ∈ l, m ∈ l') : JobKept l' s t :=
  ⟨h.course, h.slalom, h.carve, fun m hm => h.legs m (hm ∘ hl m), fun a ha => h.regs a fun m hm => ha m (hl m hm)⟩

theorem JobKept.get {f : Fld} (h : JobKept l s t) (hf : ∀ m ∈ l, f.addr ∉ legJobRegs m) : t.get f = s.get f := by
  simp only [State.get, h.regs f.addr hf]

theorem JobKept.ite {c : Prop} {_ : Decidable c} {a b : State} (ha : JobKept l s a) (hb : JobKept l s b) :
    JobKept l s (if c then a else b) := by
  split
  · exact ha
  · exact hb

theorem JobKept.foldl {f : State → Fin 32 → State} (hf : ∀ u, ∀ m ∈ l, JobKept [m] u (f u m)) (s : State) :
    JobKept l s (l.foldl f s) :=
  List.foldlRecOn (motive := JobKept l s) l f (.refl l s) fun u hu m hm =>
    hu.trans ((hf u m hm).mono fun _ hk => List.mem_singleton.mp hk ▸ hm)

theorem leg_setLeg (s : State) (n : Fin 32) (x : Leg) : (s.setLeg n x).leg n = x := Vector.getElem_set_self _

theorem leg_setLeg_ne (s : State) {m n : Fin 32} (h : m ≠ n) (x : Leg) : (s.setLeg n x).leg m = s.leg m :=
  Vector.getElem_set_ne n.isLt m.isLt fun e => h (Fin.ext e.symm)

theorem jobKept_setLeg (s : State) (n : Fin 32) (x : Leg) : JobKept [n] s (s.setLeg n x) :=
  ⟨rfl, rfl, rfl, fun _ hm => leg_setLeg_ne s (hm ∘ List.mem_singleton.mpr) x, fun _ _ => rfl⟩

theorem jobKept_wr (s : State) {n : Fin 32} {a : Nat} (x : Word) (ha : a ∈ legJobRegs n) : JobKept [n] s (s.wr a x) :=
  ⟨rfl, rfl, rfl, fun _ _ => rfl, fun _ hb =>
    State.rd_wr_other s _ _ _ fun e => hb n (List.mem_singleton_self n) (e ▸ ha)⟩

theorem jobKept_raise (s : State) (n : Fin 32) : JobKept [n] s (s.raise ⟨3, 16⟩) where
  course := State.raise_course _ _
  slalom := State.raise_slalom _ _
  carve := State.raise_carve _ _
  legs m _ := by rw [State.leg, State.raise_legs, State.leg]
  regs a ha := State.rd_raise s _ a fun e => ha n (List.mem_singleton_self n) (e ▸ by simp [legJobRegs])

/-! ## One leg -/

/-- One compare of a leg written, where a job gives it. -/
def State.slShadow (s : State) (n : Fin 32) (k : Nat) (v : Option Word) : State :=
  match v with
  | some x => (s.wr (Reg.PWM.LEG.CMP.addr n.val k) x).setLeg n { s.leg n with written := (s.leg n).written ||| (1#7 <<< (k + 1)) }
  | none => s

/-- IDLE of a leg written, by the first job of an entry and where the shadow holds the other value. -/
def State.slIdle (s : State) (first : Bool) (n : Fin 32) (idle : Bool) : State :=
  if first || s.flag (Reg.PWM.LEG.IDLE.val n.val) != idle then
    (s.put (Reg.PWM.LEG.IDLE.val n.val) (b2n idle)).setLeg n { s.leg n with writtenIdle := true }
  else s

/-- The commit of a job for its transfer point. -/
def State.slCommit (s : State) (i : Fin 4) (n : Fin 32) : State :=
  if s.flag Reg.PWM.GLOBAL.CTRL.LOADALL_MODE then s.raise ⟨3, 16⟩
  else s.commit n (s.get (Reg.SLALOM.SL.CFG.XFER i.val)) false

/-- The shadows of a leg as a job writes them, before its commit. -/
def State.slContent (s : State) (first : Bool) (n : Fin 32) (w : SlWrite) : State :=
  ((s.slShadow n 0 w.a).slShadow n 1 w.b).slIdle first n w.idle

theorem slWrite_eq (s : State) (i : Fin 4) (first : Bool) (n : Fin 32) (w : SlWrite) :
    s.slWrite i first n w = (s.slContent first n w).slCommit i n := by
  obtain ⟨a, b, idle⟩ := w
  cases a <;> cases b <;> rfl

theorem jobKept_slShadow (s : State) (n : Fin 32) {k : Nat} (hk : k ≤ 1) (v : Option Word) : JobKept [n] s (s.slShadow n k v) := by
  unfold State.slShadow
  split
  · refine (jobKept_wr s _ ?_).trans (jobKept_setLeg _ n _)
    interval_cases k <;> simp [legJobRegs]
  · exact .refl _ s

theorem jobKept_slIdle (s : State) (first : Bool) (n : Fin 32) (idle : Bool) : JobKept [n] s (s.slIdle first n idle) :=
  .ite ((jobKept_wr s _ (by simp [legJobRegs])).trans (jobKept_setLeg _ n _)) (.refl _ s)

theorem commit_eq_setLeg (s : State) (n : Fin 32) (p : Nat) : ∃ x, s.commit n p false = s.setLeg n x ∧
    ((s.leg n).fixed = none → x.armed = some p) := by
  refine ⟨_, rfl, fun h => ?_⟩
  rw [h]
  rfl

theorem jobKept_slCommit (s : State) (i : Fin 4) (n : Fin 32) : JobKept [n] s (s.slCommit i n) := by
  obtain ⟨x, hx, -⟩ := commit_eq_setLeg s n (s.get (Reg.SLALOM.SL.CFG.XFER i.val))
  unfold State.slCommit
  rw [hx]
  exact .ite (jobKept_raise s n) (jobKept_setLeg s n x)

theorem jobKept_slContent (s : State) (first : Bool) (n : Fin 32) (w : SlWrite) : JobKept [n] s (s.slContent first n w) :=
  ((jobKept_slShadow s n (by decide) w.a).trans (jobKept_slShadow _ n (by decide) w.b)).trans (jobKept_slIdle _ first n w.idle)

theorem jobKept_slWrite (s : State) (i : Fin 4) (first : Bool) (n : Fin 32) (w : SlWrite) : JobKept [n] s (s.slWrite i first n w) := by
  rw [slWrite_eq]
  exact (jobKept_slContent s first n w).trans (jobKept_slCommit _ i n)

theorem fixed_slShadow (s : State) (n : Fin 32) (k : Nat) (v : Option Word) : ((s.slShadow n k v).leg n).fixed = (s.leg n).fixed := by
  unfold State.slShadow
  split
  · rw [leg_setLeg]
  · rfl

theorem fixed_slIdle (s : State) (first : Bool) (n : Fin 32) (idle : Bool) :
    ((s.slIdle first n idle).leg n).fixed = (s.leg n).fixed := by
  unfold State.slIdle
  split
  · rw [leg_setLeg]
  · rfl

theorem fixed_slContent (s : State) (first : Bool) (n : Fin 32) (w : SlWrite) :
    ((s.slContent first n w).leg n).fixed = (s.leg n).fixed :=
  (fixed_slIdle _ first n w.idle).trans ((fixed_slShadow _ n 1 w.b).trans (fixed_slShadow s n 0 w.a))

theorem flag_slIdle (s : State) (first : Bool) (n : Fin 32) (idle : Bool) :
    (s.slIdle first n idle).flag (Reg.PWM.LEG.IDLE.val n.val) = idle := by
  unfold State.slIdle
  split
  · refine (flag_put_same s (Reg.PWM.LEG.IDLE.addr n.val) 0 (b2n idle) (by decide)).trans ?_
    cases idle <;> rfl
  next h =>
    rw [Bool.or_eq_true, not_or, bne_iff_ne, not_not] at h
    exact h.2

/-- A leg has been given compare A and IDLE, and a commit for a transfer point. -/
structure LegGiven (t : State) (n : Fin 32) (w : SlWrite) (point : Nat) : Prop where
  cmp : ∀ x, w.a = some x → t.rd (Reg.PWM.LEG.CMP.addr n.val 0) = x
  idle : t.flag (Reg.PWM.LEG.IDLE.val n.val) = w.idle
  armed : (t.leg n).armed = some point

/-- What a leg was given stands where the PWM registers and the legs stand. -/
theorem LegGiven.congr {w : SlWrite} {p : Nat} (h : LegGiven t n w p)
    (hrd : ∀ a, 0x400a0000 ≤ a ∧ a < 0x400b0000 → u.rd a = t.rd a) (hlegs : u.legs = t.legs) : LegGiven u n w p := by
  have hcmp : u.rd (Reg.PWM.LEG.CMP.addr n.val 0) = t.rd (Reg.PWM.LEG.CMP.addr n.val 0) := hrd _
    (show 0x400a0000 ≤ 0x400a1008 + n.val * 0x80 + 0 * 0x4 ∧ 0x400a1008 + n.val * 0x80 + 0 * 0x4 < 0x400b0000 by omega)
  have hidle : u.get (Reg.PWM.LEG.IDLE.val n.val) = t.get (Reg.PWM.LEG.IDLE.val n.val) := congrArg (getBits · 0 1)
    (hrd _ (show 0x400a0000 ≤ 0x400a1048 + n.val * 0x80 ∧ 0x400a1048 + n.val * 0x80 < 0x400b0000 by omega))
  refine ⟨fun x hx => hcmp.trans (h.cmp x hx), (flag_eq_of_get hidle).trans h.idle, ?_⟩
  rw [State.leg, hlegs]
  exact h.armed

/-- A register of Slalom or of the global PWM block is none of the leg shadows. -/
theorem notMem_legJobRegs {a : Nat} (h : 0x400a0000 ≤ a ∧ a < 0x400a1000 ∨ 0x400b0000 ≤ a) (m : Fin 32) : a ∉ legJobRegs m := by
  simp only [legJobRegs, List.mem_cons, List.not_mem_nil, or_false, Reg.PWM.LEG.CMP.addr, Reg.PWM.LEG.IDLE.addr,
    Reg.INT.GRP.CAUSE.addr]
  omega

theorem cmpAddr_ne_idleAddr (n : Fin 32) : Reg.PWM.LEG.CMP.addr n.val 0 ≠ Reg.PWM.LEG.IDLE.addr n.val := by
  simp only [Reg.PWM.LEG.CMP.addr, Reg.PWM.LEG.IDLE.addr]
  omega

theorem rd_slShadow_ne (s : State) (n : Fin 32) {a k : Nat} (h : a ≠ Reg.PWM.LEG.CMP.addr n.val k) (v : Option Word) :
    (s.slShadow n k v).rd a = s.rd a := by
  unfold State.slShadow
  split
  · exact State.rd_wr_other s _ _ _ h
  · rfl

theorem rd_slIdle_ne (s : State) (first : Bool) (n : Fin 32) {a : Nat} (h : a ≠ Reg.PWM.LEG.IDLE.addr n.val) (idle : Bool) :
    (s.slIdle first n idle).rd a = s.rd a := by
  unfold State.slIdle
  split
  · exact State.rd_wr_other s _ _ _ h
  · rfl

theorem slCommit_of_mode (h : s.flag Reg.PWM.GLOBAL.CTRL.LOADALL_MODE = false) (i : Fin 4) (n : Fin 32) :
    ∃ x, s.slCommit i n = s.setLeg n x ∧ ((s.leg n).fixed = none → x.armed = some (s.get (Reg.SLALOM.SL.CFG.XFER i.val))) := by
  obtain ⟨x, hx, harmed⟩ := commit_eq_setLeg s n (s.get (Reg.SLALOM.SL.CFG.XFER i.val))
  refine ⟨x, ?_, harmed⟩
  rw [← hx]
  exact if_neg (Bool.eq_false_iff.mp h)

theorem rd_slContent {y : Word} {w : SlWrite} (h : w.a = some y) (first : Bool) :
    (s.slContent first n w).rd (Reg.PWM.LEG.CMP.addr n.val 0) = y := by
  rw [State.slContent, rd_slIdle_ne _ _ _ (cmpAddr_ne_idleAddr n), rd_slShadow_ne _ _ (by simp), h]
  exact State.rd_wr_same s _ y

theorem legGiven_slWrite (first : Bool) (w : SlWrite) (hfixed : (s.leg n).fixed = none)
    (hload : s.flag Reg.PWM.GLOBAL.CTRL.LOADALL_MODE = false) :
    LegGiven (s.slWrite i first n w) n w (s.get (Reg.SLALOM.SL.CFG.XFER i.val)) := by
  have hkept := jobKept_slContent s first n w
  have hmode := flag_eq_of_get (hkept.get (f := Reg.PWM.GLOBAL.CTRL.LOADALL_MODE) fun m _ => notMem_legJobRegs (by decide) m)
  have hxfer := hkept.get (f := Reg.SLALOM.SL.CFG.XFER i.val) fun m _ =>
    notMem_legJobRegs (.inr (Nat.le_add_right_of_le (by decide))) m
  obtain ⟨x, hx, harmed⟩ := slCommit_of_mode (hmode.trans hload) i n
  rw [slWrite_eq, hx]
  refine ⟨fun y hy => rd_slContent hy first, flag_slIdle _ first n w.idle, ?_⟩
  rw [leg_setLeg, harmed ((fixed_slContent s first n w).trans hfixed), hxfer]

/-! ## Every phase leg -/

theorem isPhase_congr (h : t.course = s.course) (i : Fin 4) (n : Nat) : t.isPhase i n = s.isPhase i n := by
  have hrec : t.legRec n = s.legRec n := by rw [State.legRec, h, State.legRec]
  rw [State.isPhase, hrec, State.isPhase]

/-- The write of a leg, where it is a phase leg of the slot. -/
def State.slWriteLeg (s : State) (i : Fin 4) (first : Bool) (w : Fin 32 → SlWrite) (n : Fin 32) : State :=
  if s.isPhase i n.val then s.slWrite i first n (w n) else s

theorem jobKept_slWriteLeg (s : State) (i : Fin 4) (first : Bool) (w : Fin 32 → SlWrite) (n : Fin 32) :
    JobKept [n] s (s.slWriteLeg i first w n) := .ite (jobKept_slWrite s i first n (w n)) (.refl _ s)

/-- The writes of a job to every phase leg of its slot. -/
def State.slLegs (s : State) (i : Fin 4) (first : Bool) (w : Fin 32 → SlWrite) : State :=
  (List.finRange 32).foldl (fun u n => u.slWriteLeg i first w n) s

theorem slWriteAll_eq (s : State) (i : Fin 4) (first : Bool) (f : State → Fin 32 → SlWrite) : s.slWriteAll i first f =
    let t := s.slLegs i first (f s)
    if (t.slot i).lineRelease then t.setSlot i { t.slot i with lineArmed := true } else t := rfl

/-- Of what follows, arming the release of the slot line moves nothing. -/
theorem slWriteAll_fields (s : State) (i : Fin 4) (first : Bool) (f : State → Fin 32 → SlWrite) :
    (s.slWriteAll i first f).regs = (s.slLegs i first (f s)).regs ∧ (s.slWriteAll i first f).legs = (s.slLegs i first (f s)).legs ∧
    (s.slWriteAll i first f).slalom = (s.slLegs i first (f s)).slalom ∧
    (s.slWriteAll i first f).carve = (s.slLegs i first (f s)).carve := by
  rw [slWriteAll_eq]
  generalize s.slLegs i first (f s) = t
  dsimp only
  split
  · exact ⟨rfl, rfl, rfl, rfl⟩
  · exact ⟨rfl, rfl, rfl, rfl⟩

theorem jobKept_slLegs (s : State) (i : Fin 4) (first : Bool) (w : Fin 32 → SlWrite) :
    JobKept (List.finRange 32) s (s.slLegs i first w) := .foldl (fun u m _ => jobKept_slWriteLeg u i first w m) s

theorem slWriteAll_leaves (s : State) (i : Fin 4) (first : Bool) (f : State → Fin 32 → SlWrite) :
    (s.slWriteAll i first f).slalom = s.slalom ∧ (s.slWriteAll i first f).carve = s.carve ∧
    ∀ a, 0x400b0000 ≤ a → (s.slWriteAll i first f).rd a = s.rd a := by
  obtain ⟨hregs, -, hslalom, hcarve⟩ := slWriteAll_fields s i first f
  have h := jobKept_slLegs s i first (f s)
  exact ⟨hslalom.trans h.slalom, hcarve.trans h.carve, fun a ha =>
    (State.rd_congr hregs a).trans (h.regs a fun m _ => notMem_legJobRegs (.inr ha) m)⟩

/-- A leg's own shadows are no other leg's. -/
theorem notMem_legJobRegs_of_ne {m n : Fin 32} (h : m ≠ n) :
    Reg.PWM.LEG.CMP.addr n.val 0 ∉ legJobRegs m ∧ Reg.PWM.LEG.IDLE.addr n.val ∉ legJobRegs m := by
  have hne : m.val ≠ n.val := fun e => h (Fin.ext e)
  simp only [legJobRegs, List.mem_cons, List.not_mem_nil, or_false, Reg.PWM.LEG.CMP.addr, Reg.PWM.LEG.IDLE.addr,
    Reg.INT.GRP.CAUSE.addr]
  omega

/-- A job writes each phase leg of its slot whatever it writes into the others. -/
theorem legGiven_slLegs (first : Bool) (w : Fin 32 → SlWrite) (hphase : s.isPhase i n.val = true)
    (hfixed : (s.leg n).fixed = none) (hload : s.flag Reg.PWM.GLOBAL.CTRL.LOADALL_MODE = false) :
    LegGiven (s.slLegs i first w) n (w n) (s.get (Reg.SLALOM.SL.CFG.XFER i.val)) := by
  obtain ⟨before, after, hsplit⟩ := List.append_of_mem (List.mem_finRange n)
  have hnodup := List.nodup_finRange 32
  rw [hsplit, List.nodup_append] at hnodup
  obtain ⟨-, hafter, hbefore⟩ := hnodup
  have hnb : n ∉ before := fun h => hbefore n h n (List.mem_cons_self ..) rfl
  have hna : n ∉ after := (List.nodup_cons.mp hafter).1
  have hwrites (u : State) (l : List (Fin 32)) := JobKept.foldl (l := l) (fun u m _ => jobKept_slWriteLeg u i first w m) u
  rw [State.slLegs, hsplit, List.foldl_append, List.foldl_cons]
  have h1 := hwrites s before
  generalize before.foldl (fun u n => u.slWriteLeg i first w n) s = u at h1
  have hload' := flag_eq_of_get (h1.get (f := Reg.PWM.GLOBAL.CTRL.LOADALL_MODE) fun m _ => notMem_legJobRegs (by decide) m)
  have hxfer := h1.get (f := Reg.SLALOM.SL.CFG.XFER i.val) fun m _ =>
    notMem_legJobRegs (.inr (Nat.le_add_right_of_le (by decide))) m
  have hwritten : u.slWriteLeg i first w n = u.slWrite i first n (w n) :=
    if_pos ((isPhase_congr h1.course i n.val).trans hphase)
  obtain ⟨hcmp, hidle, harmed⟩ := legGiven_slWrite (i := i) first (w n) ((congrArg Leg.fixed (h1.legs n hnb)).trans hfixed)
    (hload'.trans hload)
  rw [hwritten]
  have h2 := hwrites (u.slWrite i first n (w n)) after
  have hown {m : Fin 32} (hm : m ∈ after) := notMem_legJobRegs_of_ne (n := n) (ne_of_mem_of_not_mem hm hna)
  refine ⟨fun y hy => (h2.regs _ fun m hm => (hown hm).1).trans (hcmp y hy), ?_, ?_⟩
  · exact (flag_eq_of_get (h2.get fun m hm => (hown hm).2)).trans hidle
  · exact (congrArg Leg.armed (h2.legs n hna)).trans (harmed.trans (congrArg some hxfer))

theorem legGiven_slWriteAll (first : Bool) (f : State → Fin 32 → SlWrite) (hphase : s.isPhase i n.val = true)
    (hfixed : (s.leg n).fixed = none) (hload : s.flag Reg.PWM.GLOBAL.CTRL.LOADALL_MODE = false) :
    LegGiven (s.slWriteAll i first f) n (f s n) (s.get (Reg.SLALOM.SL.CFG.XFER i.val)) := by
  obtain ⟨hregs, hlegs, -, -⟩ := slWriteAll_fields s i first f
  obtain ⟨hcmp, hidle, harmed⟩ := legGiven_slLegs (i := i) first (f s) hphase hfixed hload
  refine ⟨fun y hy => (State.rd_congr hregs _).trans (hcmp y hy), (flag_eq_of_get (State.get_congr hregs _)).trans hidle, ?_⟩
  rw [State.leg, hlegs]
  exact harmed

end Sys2Proof.Machine
end

section
/-! The jobs of Slalom (R191 to R197, R202, R215): whose slot takes one, what it shows, and what it gives the legs. -/

namespace Sys2Proof.Machine

variable {s t : State} {i : Fin 4}

/-! ## The status of a job -/

/-- What a job found, shown in STATUS and M (R215). -/
def State.jobShown (s : State) (i : Fin 4) (mode : SlMode) (sector : Nat) (limited stale : Bool) (m : Word) : State :=
  ((((s.put (Reg.SLALOM.SL.STATUS.MODE i.val) mode.code).put (Reg.SLALOM.SL.STATUS.SECTOR i.val) sector).put
    (Reg.SLALOM.SL.STATUS.LIMITED i.val) (b2n limited)).put (Reg.SLALOM.SL.STATUS.VDC_STALE i.val) (b2n stale)).wr
    (Reg.SLALOM.SL.M.addr i.val) m

/-- A change of the mode, counted (R202, R215). -/
def State.modeCounted (s : State) (i : Fin 4) (changed : Bool) : State :=
  if changed then (s.bumpWrap (Reg.SLALOM.SL.MODE_CHANGES.COUNT i.val)).raise (slalomCause i 0) else s

theorem slStatus_eq (s : State) (i : Fin 4) (mode : SlMode) (sector : Nat) (limited stale changed : Bool) (m : Word) :
    s.slStatus i mode sector limited stale changed m =
      (((s.jobShown i mode sector limited stale m).modeCounted i changed).setIf limited (slalomCause i 1)).setIf stale
        (slalomCause i 2) := rfl

/-- The count of mode changes and the causes of Slalom, which follow STATUS and M. -/
def jobEventRegs (i : Fin 4) : List Nat := [Reg.SLALOM.SL.MODE_CHANGES.addr i.val, Reg.INT.GRP.CAUSE.addr 32]

theorem slStatus_regsBut (s : State) (i : Fin 4) (mode : SlMode) (sector : Nat) (limited stale changed : Bool) (m : Word) :
    (s.jobShown i mode sector limited stale m).regsBut (jobEventRegs i) (s.slStatus i mode sector limited stale changed m) := by
  have hcause : Reg.INT.GRP.CAUSE.addr 32 ∈ jobEventRegs i := List.mem_cons_of_mem _ (List.mem_singleton_self _)
  have hcounted {u : State} : u.regsBut (jobEventRegs i) (u.modeCounted i changed) :=
    .ite ((regsBut_refl.put (f := Reg.SLALOM.SL.MODE_CHANGES.COUNT i.val) (List.mem_cons_self ..)).raise (c := slalomCause i 0) hcause)
      regsBut_refl
  rw [slStatus_eq]
  exact (hcounted.setIf (c := slalomCause i 1) hcause).setIf (c := slalomCause i 2) hcause

theorem slStatus_leaves (s : State) (i : Fin 4) (mode : SlMode) (sector : Nat) (limited stale changed : Bool) (m : Word) :
    let t := s.slStatus i mode sector limited stale changed m
    t.slalom = s.slalom ∧ t.carve = s.carve ∧ t.legs = s.legs ∧ t.course = s.course := by
  rw [slStatus_eq]
  unfold State.modeCounted
  cases changed <;> simp [State.jobShown]

/-- The registers that the status of a job may move. -/
def jobStatusRegs (i : Fin 4) : List Nat := Reg.SLALOM.SL.STATUS.addr i.val :: Reg.SLALOM.SL.M.addr i.val :: jobEventRegs i

theorem rd_slStatus (s : State) (mode : SlMode) (sector : Nat) (limited stale changed : Bool) (m : Word) {a : Nat}
    (ha : a ∉ jobStatusRegs i) : (s.slStatus i mode sector limited stale changed m).rd a = s.rd a := by
  obtain ⟨hstatus, hm, hevents⟩ : a ≠ Reg.SLALOM.SL.STATUS.addr i.val ∧ a ≠ Reg.SLALOM.SL.M.addr i.val ∧ a ∉ jobEventRegs i := by
    simpa only [jobStatusRegs, List.mem_cons, not_or] using ha
  rw [slStatus_regsBut s i mode sector limited stale changed m a hevents, State.jobShown, State.rd_wr_other _ _ _ _ hm,
    State.rd_put_other _ _ _ _ hstatus, State.rd_put_other _ _ _ _ hstatus, State.rd_put_other _ _ _ _ hstatus,
    State.rd_put_other _ _ _ _ hstatus]

theorem notMem_jobStatusRegs {a : Nat} (h : 0x400a0000 ≤ a ∧ a < 0x400b0000 ∨ 0x40110000 ≤ a) (i : Fin 4) : a ∉ jobStatusRegs i := by
  simp only [jobStatusRegs, jobEventRegs, List.mem_cons, List.not_mem_nil, or_false, Reg.SLALOM.SL.STATUS.addr,
    Reg.SLALOM.SL.M.addr, Reg.SLALOM.SL.MODE_CHANGES.addr, Reg.INT.GRP.CAUSE.addr]
  omega

theorem notMem_jobStatusRegs_cfg (i : Fin 4) : Reg.SLALOM.SL.CFG.addr i.val ∉ jobStatusRegs i := by
  simp only [jobStatusRegs, jobEventRegs, List.mem_cons, List.not_mem_nil, or_false, Reg.SLALOM.SL.STATUS.addr,
    Reg.SLALOM.SL.M.addr, Reg.SLALOM.SL.MODE_CHANGES.addr, Reg.INT.GRP.CAUSE.addr, Reg.SLALOM.SL.CFG.addr]
  omega

theorem code_lt (m : SlMode) : m.code < 2 ^ 3 := by cases m <;> decide

theorem jobShown_reads (s : State) (i : Fin 4) (mode : SlMode) (sector : Nat) (limited stale : Bool) (m : Word) :
    let t := s.jobShown i mode sector limited stale m
    t.get (Reg.SLALOM.SL.STATUS.MODE i.val) = mode.code ∧ t.get (Reg.SLALOM.SL.STATUS.LIMITED i.val) = b2n limited ∧
    t.get (Reg.SLALOM.SL.STATUS.VDC_STALE i.val) = b2n stale := by
  intro t
  have hm {f : Fld} (hf : f.addr = Reg.SLALOM.SL.STATUS.addr i.val) := State.get_wr_ne
    ((((s.put (Reg.SLALOM.SL.STATUS.MODE i.val) mode.code).put (Reg.SLALOM.SL.STATUS.SECTOR i.val) sector).put
    (Reg.SLALOM.SL.STATUS.LIMITED i.val) (b2n limited)).put (Reg.SLALOM.SL.STATUS.VDC_STALE i.val) (b2n stale))
    (Reg.SLALOM.SL.M.addr i.val) m f (by rw [hf]; simp)
  refine ⟨?_, ?_, ?_⟩
  · refine (hm rfl).trans ?_
    rw [State.get_put_bits _ _ _ _ (.inl (by simp)) (by simp), State.get_put_bits _ _ _ _ (.inl (by simp)) (by simp),
      State.get_put_bits _ _ _ _ (.inl (by simp)) (by simp), State.get_put_same _ _ _ (show 0 + 3 ≤ 32 by decide)]
    exact Nat.mod_eq_of_lt (code_lt mode)
  · refine (hm rfl).trans ?_
    rw [State.get_put_bits _ _ _ _ (.inl (by simp)) (by simp), State.get_put_same _ _ _ (show 6 + 1 ≤ 32 by decide)]
    exact b2n_mod_two limited
  · refine (hm rfl).trans ?_
    rw [State.get_put_same _ _ _ (show 7 + 1 ≤ 32 by decide)]
    exact b2n_mod_two stale

/-- What the status of a job shows (R215). -/
structure JobStatus (t : State) (i : Fin 4) (md : SlMode) (lim old : Bool) : Prop where
  mode : t.get (Reg.SLALOM.SL.STATUS.MODE i.val) = md.code
  limited : t.get (Reg.SLALOM.SL.STATUS.LIMITED i.val) = b2n lim
  stale : t.get (Reg.SLALOM.SL.STATUS.VDC_STALE i.val) = b2n old
  cause : old = true → t.causeSet ⟨32, 5 * i.val + 2⟩ = true

theorem jobStatus_slStatus (s : State) (i : Fin 4) (mode : SlMode) (sector : Nat) (limited stale changed : Bool) (m : Word) :
    JobStatus (s.slStatus i mode sector limited stale changed m) i mode limited stale := by
  obtain ⟨hmode, hlimited, hstale⟩ := jobShown_reads s i mode sector limited stale m
  have hkept := slStatus_regsBut s i mode sector limited stale changed m
  have hstatus : Reg.SLALOM.SL.STATUS.addr i.val ∉ jobEventRegs i := by
    simp only [jobEventRegs, List.mem_cons, List.not_mem_nil, or_false, Reg.SLALOM.SL.STATUS.addr, Reg.SLALOM.SL.MODE_CHANGES.addr,
      Reg.INT.GRP.CAUSE.addr]
    omega
  refine ⟨(hkept.get hstatus).trans hmode, (hkept.get hstatus).trans hlimited, (hkept.get hstatus).trans hstale, fun h => ?_⟩
  rw [slStatus_eq]
  exact causeSet_setIf_same (show 5 * i.val + 2 < 32 by omega) h

/-! ## The modulation of a slot in the five states -/

/-- The link voltage by which a job modulates (R194). -/
def State.slVolts (s : State) (i : Fin 4) : Rat := fRat (fMax (s.slVdc i).1 (s.rd (Reg.SLALOM.SL.VDC_FLOOR.addr i.val)))

/-- The mode in which a job goes on, with its count and whether it is another one (R202). -/
def State.slMode (s : State) (i : Fin 4) : SlMode × Nat × Bool :=
  s.slNext i (if s.slalom[i].mode = .schuss then mReq (s.slVec i 0 0) (s.slVolts i)
    else (List.range (s.slotRec i.val).sets).foldl (fun a k => max a (mReq (s.slVec i k 0) (s.slVolts i))) 0) (s.slIn i 9)

theorem freeCount_ite_fields (c : Prop) [Decidable c] (u : State) (k : Nat) :
    let t := if c then { u with freeCount := k } else u
    t.regs = u.regs ∧ t.legs = u.legs ∧ t.slalom = u.slalom ∧ t.carve = u.carve := by
  dsimp only
  split
  · exact ⟨rfl, rfl, rfl, rfl⟩
  · exact ⟨rfl, rfl, rfl, rfl⟩

/-- A job modulates as a step of the mode, writes of its legs, and a status. -/
theorem exists_slModulate (s : State) (i half : Fin 4) (cycle : Nat) : ∃ x f t sector limited m,
    s.slModulate i half cycle = State.slStatus t i (s.slMode i).1 sector limited (s.slVdc i).2 (s.slMode i).2.2 m ∧
    (let u := (s.fresh.2.setSl i x).slWriteAll i (!s.slalom[i].active) f
     t.regs = u.regs ∧ t.legs = u.legs ∧ t.slalom = u.slalom ∧ t.carve = u.carve) ∧
    (x.mode = (s.slMode i).1 ∧ x.active = true ∧ x.idled = false) ∧
    ((s.slot i).state = .run → (s.slMode i).1 = .svm → s.flag (Reg.SLALOM.SL.CFG.ADV_SVM i.val) = false →
      f = fun u n => u.slSvm i n (s.slVolts i) 0) := by
  refine ⟨_, _, _, _, _, _, rfl, freeCount_ite_fields _ _ _, ⟨rfl, rfl, rfl⟩, fun hrun hmode hadv => ?_⟩
  have hheld : ¬ (decide ((s.slot i).state = .catching) ||
      decide ((s.slot i).state = .discharge) && decide ((s.slot i).dischPhase ≠ 2)) = true := by
    rw [hrun]
    exact Bool.false_ne_true
  have hne {md : SlMode} (h : (s.slMode i).1 = md) (hmd : md ≠ .svm) : False := hmd (h.symm.trans hmode)
  funext u n
  refine (if_neg hheld).trans ?_
  split
  next h => exact (hne h (by decide)).elim
  next h => exact (hne h (by decide)).elim
  next h => exact (hne h (by decide)).elim
  next => exact congrArg (u.slSvm i n (s.slVolts i)) (if_neg (Bool.eq_false_iff.mp hadv))

theorem slMode_of_svm (hm : s.slalom[i].mode = .svm) (hom : s.flag (Reg.SLALOM.SL.CFG.OM_EN i.val) = false) :
    s.slMode i = (.svm, 0, false) := by
  unfold State.slMode State.slNext
  dsimp only
  rw [hm]
  refine if_neg fun h => ?_
  rw [hom] at h
  exact Bool.false_ne_true h.1

theorem slalom_setSl (s : State) (i : Fin 4) (x : SlalomSt) : (s.setSl i x).slalom[i] = x := Vector.getElem_set_self _

/-- A job in one of the five states shows its mode, which its slot's record takes. -/
theorem slModulate_reads (s : State) (i half : Fin 4) (cycle : Nat) :
    let t := s.slModulate i half cycle
    t.carve = s.carve ∧ t.slalom[i].active = true ∧ t.slalom[i].idled = false ∧ t.slalom[i].mode = (s.slMode i).1 ∧
    ∃ lim, JobStatus t i t.slalom[i].mode lim (s.slVdc i).2 := by
  obtain ⟨x, f, u, sector, limited, m, ht, ⟨-, -, hslalom, hcarve⟩, ⟨hmode, hactive, hidled⟩, -⟩ := exists_slModulate s i half cycle
  obtain ⟨hslalom', hcarve', -⟩ := slStatus_leaves u i (s.slMode i).1 sector limited (s.slVdc i).2 (s.slMode i).2.2 m
  obtain ⟨hslalom'', hcarve'', -⟩ := slWriteAll_leaves (s.fresh.2.setSl i x) i (!s.slalom[i].active) f
  have hstatus := jobStatus_slStatus u i (s.slMode i).1 sector limited (s.slVdc i).2 (s.slMode i).2.2 m
  intro t
  rw [← ht] at hslalom' hcarve' hstatus
  have hx : t.slalom[i] = x := by
    rw [hslalom'.trans (hslalom.trans hslalom'')]
    exact slalom_setSl _ i x
  refine ⟨hcarve'.trans (hcarve.trans hcarve''), ?_⟩
  rw [hx, hmode]
  exact ⟨hactive, hidled, rfl, limited, hstatus⟩

/-- A job of a slot in RUN that modulates by SVM, without over-modulation and advance, gives its phase legs their SVM values. -/
theorem slModulate_legs (half : Fin 4) (cycle : Nat) (hrun : (s.slot i).state = .run) (hm : s.slalom[i].mode = .svm)
    (hom : s.flag (Reg.SLALOM.SL.CFG.OM_EN i.val) = false) (hadv : s.flag (Reg.SLALOM.SL.CFG.ADV_SVM i.val) = false)
    (hload : s.flag Reg.PWM.GLOBAL.CTRL.LOADALL_MODE = false) {n : Fin 32} (hphase : s.isPhase i n.val = true)
    (hfixed : (s.leg n).fixed = none) : LegGiven (s.slModulate i half cycle) n (s.slSvm i n (s.slVolts i) 0)
      (s.get (Reg.SLALOM.SL.CFG.XFER i.val)) := by
  obtain ⟨x, f, u, sector, limited, m, ht, ⟨hregs, hlegs, -, -⟩, -, hf⟩ := exists_slModulate s i half cycle
  have hw := hf hrun (congrArg Prod.fst (slMode_of_svm hm hom)) hadv
  have hgiven : LegGiven ((s.fresh.2.setSl i x).slWriteAll i (!s.slalom[i].active) f) n (f (s.fresh.2.setSl i x) n)
      (s.get (Reg.SLALOM.SL.CFG.XFER i.val)) :=
    legGiven_slWriteAll (s := s.fresh.2.setSl i x) _ f hphase hfixed hload
  rw [hw] at hgiven
  rw [hw] at hregs hlegs
  obtain ⟨-, -, hlegs', -⟩ := slStatus_leaves u i (s.slMode i).1 sector limited (s.slVdc i).2 (s.slMode i).2.2 m
  rw [ht]
  exact hgiven.congr (fun a ha => (rd_slStatus _ _ _ _ _ _ _ (notMem_jobStatusRegs (.inl ha) i)).trans (State.rd_congr hregs a))
    (hlegs'.trans hlegs)

/-! ## A slot outside the five states -/

/-- A job of a slot outside the five states shows OFF, and nothing limited (R193, R215). -/
theorem slRest_reads (s : State) (i : Fin 4) : (s.slRest i).carve = s.carve ∧ (s.slRest i).slalom[i].idled = true ∧
    (s.slRest i).legs = s.legs ∧ (s.slRest i).course = s.course ∧ JobStatus (s.slRest i) i .off false (s.slVdc i).2 ∧
    ∀ a, a ∉ jobStatusRegs i → (s.slRest i).rd a = s.rd a := by
  obtain ⟨hslalom, hcarve, hlegs, hcourse⟩ := slStatus_leaves (s.setSl i { s.slalom[i] with
    mode := .off, idled := true, active := false, vdc := (s.slVdc i).1 }) i .off (s.get (Reg.SLALOM.SL.STATUS.SECTOR i.val)) false
    (s.slVdc i).2 false (fOfRat (mReq (s.slVec i 0 0) (s.slVolts i)))
  exact ⟨hcarve, (congrArg (fun v : Vector SlalomSt 4 => v[i].idled) hslalom).trans (congrArg SlalomSt.idled (slalom_setSl s i _)), hlegs,
    hcourse, jobStatus_slStatus _ i .off _ false _ false _, fun a ha => rd_slStatus _ _ _ _ _ _ _ ha⟩

/-! ## SLALOM_JOB -/

/-- The state in which the first waiting job has been taken. -/
def State.jobTaken (s : State) (rest : List (Fin 4)) : State := { s with carve := { s.carve with jobs := rest } }

theorem execSlalomJob_of_head {rest : List (Fin 4)} (hj : s.carve.jobs = i :: rest) (half : Fin 4) (cycle : Nat) :
    exec (.slalomJob i half cycle) s =
      let u := s.jobTaken rest
      if !u.flag (Reg.SLALOM.SL.CFG.ENABLE i.val) then .next u
      else if !(u.slot i).state.modulated then
        if u.slalom[i].idled && !((u.slot i).lineRelease && !(u.slot i).lineArmed) then .next (u.slRest i)
        else .next ((u.slRest i).slWriteAll i true (fun _ _ => { idle := true }))
      else .next (u.slModulate i half cycle) := by
  show execSlalomJob i half cycle s = _
  unfold execSlalomJob
  rw [hj]
  exact if_neg (not_not.mpr rfl)

theorem slalomJob_other (half : Fin 4) (cycle : Nat) (h : s.carve.jobs.head? ≠ some i) : exec (.slalomJob i half cycle) s = .next s :=
  if_pos h

theorem slalomJob_disabled {rest : List (Fin 4)} (half : Fin 4) (cycle : Nat) (hj : s.carve.jobs = i :: rest)
    (he : s.flag (Reg.SLALOM.SL.CFG.ENABLE i.val) = false) : exec (.slalomJob i half cycle) s = .next (s.jobTaken rest) := by
  rw [execSlalomJob_of_head hj]
  exact if_pos (by rw [show (s.jobTaken rest).flag (Reg.SLALOM.SL.CFG.ENABLE i.val) = false from he]; rfl)

theorem slalomJob_modulated {rest : List (Fin 4)} (half : Fin 4) (cycle : Nat) (hj : s.carve.jobs = i :: rest)
    (he : s.flag (Reg.SLALOM.SL.CFG.ENABLE i.val) = true) (hm : (s.slot i).state.modulated = true) :
    exec (.slalomJob i half cycle) s = .next ((s.jobTaken rest).slModulate i half cycle) := by
  rw [execSlalomJob_of_head hj]
  dsimp only
  rw [show (s.jobTaken rest).flag (Reg.SLALOM.SL.CFG.ENABLE i.val) = true from he,
    show ((s.jobTaken rest).slot i).state.modulated = true from hm]
  rfl

theorem slalomJob_resting {rest : List (Fin 4)} (half : Fin 4) (cycle : Nat) (hj : s.carve.jobs = i :: rest)
    (he : s.flag (Reg.SLALOM.SL.CFG.ENABLE i.val) = true) (hm : (s.slot i).state.modulated = false) :
    exec (.slalomJob i half cycle) s =
      let u := s.jobTaken rest
      if s.slalom[i].idled && !((s.slot i).lineRelease && !(s.slot i).lineArmed) then .next (u.slRest i)
      else .next ((u.slRest i).slWriteAll i true (fun _ _ => { idle := true })) := by
  rw [execSlalomJob_of_head hj]
  dsimp only
  rw [show (s.jobTaken rest).flag (Reg.SLALOM.SL.CFG.ENABLE i.val) = true from he,
    show ((s.jobTaken rest).slot i).state.modulated = false from hm]
  rfl

theorem slalomJob_svm {rest : List (Fin 4)} (half : Fin 4) (cycle : Nat) (hj : s.carve.jobs = i :: rest)
    (he : s.flag (Reg.SLALOM.SL.CFG.ENABLE i.val) = true) (hrun : (s.slot i).state = .run) (hm : s.slalom[i].mode = .svm)
    (hom : s.flag (Reg.SLALOM.SL.CFG.OM_EN i.val) = false) (hadv : s.flag (Reg.SLALOM.SL.CFG.ADV_SVM i.val) = false)
    (hload : s.flag Reg.PWM.GLOBAL.CTRL.LOADALL_MODE = false) : Runs (.slalomJob i half cycle) s (fun t =>
      t.carve.jobs = rest ∧ t.slalom[i].active = true ∧ t.slalom[i].mode = .svm ∧ t.get (Reg.SLALOM.SL.STATUS.MODE i.val) = 1 ∧
      ∀ n : Fin 32, s.isPhase i n.val = true → (s.leg n).fixed = none → LegGiven t n (s.slSvm i n (s.slVolts i) 0)
        (s.get (Reg.SLALOM.SL.CFG.XFER i.val))) := by
  obtain ⟨hcarve, hactive, -, hmode, lim, hstatus⟩ := slModulate_reads (s.jobTaken rest) i half cycle
  have hsvm : (s.jobTaken rest).slMode i = (.svm, 0, false) := slMode_of_svm (s := s.jobTaken rest) hm hom
  rw [hsvm] at hmode
  refine ⟨_, slalomJob_modulated half cycle hj he (by rw [hrun]; rfl), congrArg CarveSt.jobs hcarve, hactive, hmode, ?_, ?_⟩
  · rw [hstatus.mode, hmode]
    rfl
  · intro n hphase hfixed
    exact slModulate_legs (s := s.jobTaken rest) half cycle hrun hm hom hadv hload hphase hfixed

theorem slalomJob_first {rest : List (Fin 4)} (half : Fin 4) (cycle : Nat) (hj : s.carve.jobs = i :: rest)
    (he : s.flag (Reg.SLALOM.SL.CFG.ENABLE i.val) = true) (hm : (s.slot i).state.modulated = false) (hidled : s.slalom[i].idled = false)
    (hload : s.flag Reg.PWM.GLOBAL.CTRL.LOADALL_MODE = false) : Runs (.slalomJob i half cycle) s (fun t =>
      t.carve.jobs = rest ∧ t.slalom[i].idled = true ∧ t.get (Reg.SLALOM.SL.STATUS.MODE i.val) = 0 ∧
      ∀ n : Fin 32, s.isPhase i n.val = true → (s.leg n).fixed = none → LegGiven t n { idle := true }
        (s.get (Reg.SLALOM.SL.CFG.XFER i.val))) := by
  obtain ⟨hcarve, hrest, hlegs, hcourse, hstatus, hrd⟩ := slRest_reads (s.jobTaken rest) i
  obtain ⟨hslalom', hcarve', hrd'⟩ := slWriteAll_leaves ((s.jobTaken rest).slRest i) i true (fun _ _ => { idle := true })
  refine ⟨_, (slalomJob_resting half cycle hj he hm).trans (if_neg (by rw [hidled]; exact Bool.false_ne_true)),
    congrArg CarveSt.jobs (hcarve'.trans hcarve), ?_, ?_, fun n hphase hfixed => ?_⟩
  · rw [hslalom']
    exact hrest
  · rw [State.get, hrd' _ (Nat.le_add_right_of_le (by decide))]
    exact hstatus.mode
  · have hphase' : ((s.jobTaken rest).slRest i).isPhase i n.val = true := (isPhase_congr hcourse i n.val).trans hphase
    have hfixed' : (((s.jobTaken rest).slRest i).leg n).fixed = none := by
      rw [State.leg, hlegs]
      exact hfixed
    have hmode : ((s.jobTaken rest).slRest i).get Reg.PWM.GLOBAL.CTRL.LOADALL_MODE = s.get Reg.PWM.GLOBAL.CTRL.LOADALL_MODE :=
      congrArg (getBits · 0 1) (hrd _ (notMem_jobStatusRegs (.inl (by decide)) i))
    have hxfer : ((s.jobTaken rest).slRest i).get (Reg.SLALOM.SL.CFG.XFER i.val) = s.get (Reg.SLALOM.SL.CFG.XFER i.val) :=
      congrArg (getBits · 4 2) (hrd _ (notMem_jobStatusRegs_cfg i))
    obtain ⟨hcmp, hidle, harmed⟩ := legGiven_slWriteAll true (fun _ _ => { idle := true }) hphase' hfixed'
      ((flag_eq_of_get hmode).trans hload)
    exact ⟨hcmp, hidle, harmed.trans (congrArg some hxfer)⟩

theorem slalomJob_later {rest : List (Fin 4)} (half : Fin 4) (cycle : Nat) (hj : s.carve.jobs = i :: rest)
    (he : s.flag (Reg.SLALOM.SL.CFG.ENABLE i.val) = true) (hm : (s.slot i).state.modulated = false) (hidled : s.slalom[i].idled = true)
    (hline : (s.slot i).lineRelease = false) : Runs (.slalomJob i half cycle) s (fun t =>
      t.carve.jobs = rest ∧ t.legs = s.legs ∧ JobStatus t i .off false (s.slVdc i).2) := by
  obtain ⟨hcarve, -, hlegs, -, hstatus, -⟩ := slRest_reads (s.jobTaken rest) i
  refine ⟨_, (slalomJob_resting half cycle hj he hm).trans (if_pos ?_), congrArg CarveSt.jobs hcarve, hlegs, hstatus⟩
  rw [hidled, hline]
  rfl

end Sys2Proof.Machine
end

section
/-! The rotation detector: its start, the end of its window and the read of its result (R210 to R212, R215, R306). -/

namespace Sys2Proof.Machine

variable {o s t u : State} {i : Fin 4} {cycle : Nat}

/-! ## ROT_START -/

theorem ne_slalomCauseAddr {a : Nat} (ha : 0x40100000 ≤ a) (i : Fin 4) (b : Nat) :
    a ≠ Reg.INT.GRP.CAUSE.addr (slalomCause i b).grp :=
  Nat.ne_of_gt (Nat.lt_of_lt_of_le (show 0x40040100 + 32 * 0x10 < 0x40100000 by decide) ha)

theorem execRotStart_allowed (hst : (s.slot i).state = .off ∨ (s.slot i).state = .armed ∨ (s.slot i).state = .stopped)
    (hb : s.slalom[i].rotBusy = false) :
    exec (.rotStart i) s = .next ((s.rotStart i).status (Reg.SLALOM.SL.CMD_STATUS.addr i.val) codeOk) := if_pos ⟨hst, hb⟩

theorem execRotStart_denied (h : s.slalom[i].rotBusy = true ∨
    ((s.slot i).state ≠ .off ∧ (s.slot i).state ≠ .armed ∧ (s.slot i).state ≠ .stopped)) :
    exec (.rotStart i) s = .next (s.deny (Reg.SLALOM.SL.CMD_STATUS.addr i.val) ⟨32, 21⟩) := by
  refine if_neg fun ⟨hst, hb⟩ => ?_
  rcases h with h | ⟨hoff, harmed, hstopped⟩
  · exact Bool.false_ne_true (hb.symm.trans h)
  · exact hst.elim hoff fun hst => hst.elim harmed hstopped

theorem slalomCode_status (s : State) (i : Fin 4) {c : Nat} (hc : c < 256) :
    (s.status (Reg.SLALOM.SL.CMD_STATUS.addr i.val) c).get (Reg.SLALOM.SL.CMD_STATUS.CODE i.val) = c :=
  (State.get_status s _ c).trans (Nat.mod_eq_of_lt hc)

theorem rotStart_allowed (hst : (s.slot i).state = .off ∨ (s.slot i).state = .armed ∨ (s.slot i).state = .stopped)
    (hb : s.slalom[i].rotBusy = false) : Runs (.rotStart i) s (fun t =>
      t.slalom[i].rotBusy = true ∧ t.slalom[i].rotHigh = false ∧ t.slalom[i].rotLow = false ∧
      t.get (Reg.SLALOM.SL.ROT_RESULT.BUSY i.val) = 1 ∧ t.get (Reg.SLALOM.SL.CMD_STATUS.CODE i.val) = codeOk) := by
  have hx := slalom_setSl s i { s.slalom[i] with
    rotBusy := true, rotHigh := false, rotLow := false
    rotSpan := s.get (Reg.SLALOM.SL.ROT_CFG.PROBE_TIME i.val) * 300000 }
  refine ⟨_, execRotStart_allowed hst hb, congrArg SlalomSt.rotBusy hx, congrArg SlalomSt.rotHigh hx, congrArg SlalomSt.rotLow hx, ?_,
    slalomCode_status _ i (by decide)⟩
  rw [State.get_status_ne _ _ _ _ (by simp), State.rotStart, State.get_put_same _ _ _ (show 3 + 1 ≤ 32 by decide)]
  rfl

theorem rotStart_denied (h : s.slalom[i].rotBusy = true ∨
    ((s.slot i).state ≠ .off ∧ (s.slot i).state ≠ .armed ∧ (s.slot i).state ≠ .stopped)) : Runs (.rotStart i) s (fun t =>
      t.slalom = s.slalom ∧ t.causeSet ⟨32, 21⟩ = true ∧ t.get (Reg.SLALOM.SL.CMD_STATUS.CODE i.val) = codeDenied) :=
  ⟨_, execRotStart_denied h, State.deny_slalom _ _ _, State.causeSet_deny s _ ⟨32, 21⟩ (by decide),
    State.get_deny_code s _ ⟨32, 21⟩ (ne_slalomCauseAddr (Nat.le_add_right_of_le (by decide)) i 21)⟩

/-! ## The end of the window -/

/-- At its end the detector takes the speed of the interface once more; without an interface it has not been high (R211). -/
theorem exists_rotSampleSlot (h : s.slalom[i].rotBusy = true) (cycle : Nat) : ∃ hi lo,
    s.rotSampleSlot i cycle = s.setSl i { s.slalom[i] with rotHigh := hi, rotLow := lo } ∧
    (s.servingPos i = none → hi = s.slalom[i].rotHigh) := by
  refine ⟨_, _, if_pos h, fun hp => ?_⟩
  rw [hp]
  exact Bool.or_false _

theorem rotSampleSlot_idle (h : s.slalom[i].rotBusy = false) (cycle : Nat) : s.rotSampleSlot i cycle = s :=
  if_neg (Bool.eq_false_iff.mp h)

theorem rotWindowEnd_idle (h : s.slalom[i].rotBusy = false) (cycle : Nat) : exec (.rotWindowEnd i cycle) s = .next s := by
  show execRotWindowEnd i cycle s = _
  unfold execRotWindowEnd
  rw [rotSampleSlot_idle h]
  exact if_pos (by rw [h]; rfl)

theorem route_slalom (s : State) (cls idx : Nat) (x : Port) : (s.route cls idx x).slalom = s.slalom := by
  obtain ⟨p, hp⟩ := exists_route s cls idx x
  rw [hp]

/-- A result in its register, before it is counted (R212). -/
def State.rotShown (s : State) (i : Fin 4) (res src : Nat) : State :=
  ((s.put (Reg.SLALOM.SL.ROT_RESULT.RESULT i.val) res).put (Reg.SLALOM.SL.ROT_RESULT.SOURCE i.val) src).put
    (Reg.SLALOM.SL.ROT_RESULT.BUSY i.val) 0

/-- A result of the detector is shown, counted, and ends BUSY (R211, R212). -/
theorem rotWrite_reads (s : State) (i : Fin 4) (res src : Nat) (speed angle : Word) :
    let t := s.rotWrite i res src speed angle
    t.get (Reg.SLALOM.SL.ROT_RESULT.SEQ i.val) = (s.get (Reg.SLALOM.SL.ROT_RESULT.SEQ i.val) + 1) % 65536 ∧
    t.get (Reg.SLALOM.SL.ROT_RESULT.RESULT i.val) = res % 8 ∧ t.get (Reg.SLALOM.SL.ROT_RESULT.BUSY i.val) = 0 ∧
    t.slalom[i] = { s.slalom[i] with rotBusy := false, rotSpeed := speed, rotAngle := angle } := by
  have hf : ∀ f, (s.rotWrite i res src speed angle).get f = ((s.rotShown i res src).bumpWrap (Reg.SLALOM.SL.ROT_RESULT.SEQ i.val)).get f :=
    State.get_congr ((route_regs _ _ _ _).trans (route_regs _ _ _ _))
  have hseq : (s.rotShown i res src).get (Reg.SLALOM.SL.ROT_RESULT.SEQ i.val) = s.get (Reg.SLALOM.SL.ROT_RESULT.SEQ i.val) := by
    rw [State.rotShown, State.get_put_bits _ _ _ _ (.inr (by simp)) (by simp), State.get_put_bits _ _ _ _ (.inr (by simp)) (by simp),
      State.get_put_bits _ _ _ _ (.inr (by simp)) (by simp)]
  refine ⟨?_, ?_, ?_, ?_⟩
  · rw [hf, get_bumpWrap_same _ _ (show 16 + 16 ≤ 32 by decide), hseq]
    rfl
  · rw [hf, State.bumpWrap, State.get_put_bits _ _ _ _ (.inl (by simp)) (by simp), State.rotShown,
      State.get_put_bits _ _ _ _ (.inl (by simp)) (by simp), State.get_put_bits _ _ _ _ (.inl (by simp)) (by simp),
      State.get_put_same _ _ _ (show 0 + 3 ≤ 32 by decide)]
    rfl
  · rw [hf, State.bumpWrap, State.get_put_bits _ _ _ _ (.inl (by simp)) (by simp), State.rotShown,
      State.get_put_same _ _ _ (show 3 + 1 ≤ 32 by decide)]
    rfl
  · have hslalom : (s.rotWrite i res src speed angle).slalom = _ := (route_slalom _ _ _ _).trans (route_slalom _ _ _ _)
    rw [hslalom]
    exact Vector.getElem_set_self _

theorem psiMeasure_ite_fields (c : Prop) [Decidable c] (s : State) (i : Fin 4) (e : EmfSpan) :
    let t := if c then s.psiMeasure i e else s
    t.regs = s.regs ∧ t.slalom = s.slalom := by
  dsimp only
  split
  · exact ⟨rfl, rfl⟩
  · exact ⟨rfl, rfl⟩

/-- What the end of a window does with a result `res` (R306, R429), on a state that shows it. -/
theorem exists_rotWindowEnd (hb : (s.rotSampleSlot i cycle).slalom[i].rotBusy = true) :
    let u := s.rotSampleSlot i cycle
    ∃ res src speed angle b c t,
      exec (.rotWindowEnd i cycle) s = (if (u.slot i).judged = .probe then .next (t.probeResult i res) else .next t) ∧
      (let v := ((u.fresh.2.rotWrite i res src speed angle).setIf b (slalomCause i 3)).setIf c (slalomCause i 4)
       t.regs = v.regs ∧ t.slalom = v.slalom) ∧
      (u.servingPos i = none → u.slalom[i].rotHigh = false → (u.emfWindow i cycle = none → res = 1) ∧
        ∀ e, u.emfWindow i cycle = some e →
          res = (if e.allHigh then (if (u.emfMotion i e).1 < 0 then 3 else 2) else if e.allLow then 1 else 4) ∧
          speed = fOfRat (u.emfMotion i e).1 ∧ angle = (u.emfMotion i e).2) := by
  show ∃ res src speed angle b c t, execRotWindowEnd i cycle s = _ ∧ _
  unfold execRotWindowEnd
  generalize s.rotSampleSlot i cycle = u at hb ⊢
  dsimp -zeta only
  rw [if_neg (by rw [hb]; decide)]
  extract_lets emf pv em low high dirE through dirP conflict res src speed angle s1 s2 s3
  have hs3 : s3.regs = s2.regs ∧ s3.slalom = s2.slalom := by
    clear_value emf
    cases emf with
    | none => exact ⟨rfl, rfl⟩
    | some e => exact psiMeasure_ite_fields _ s2 i e
  refine ⟨res, src, speed, angle, decide (res = 3), conflict, s3, rfl, hs3, fun hp hh => ?_⟩
  have hpv : pv = none := by simp only [pv, hp]
  have hthrough : through = false := by simp only [through, hh, Bool.false_and]
  have hres : res = if high then dirE else if low then 1 else 4 := by
    simp only [res, conflict, hthrough, hh, Bool.and_false, Bool.false_and, Bool.false_eq_true, if_false, Bool.not_false, Bool.and_true]
  refine ⟨fun he => ?_, fun e he => ⟨?_, ?_, ?_⟩⟩
  · have hemf : emf = none := he
    rw [hres]
    simp only [high, low, hemf, Bool.false_eq_true, if_false, if_true]
  · have hemf : emf = some e := he
    rw [hres]
    simp only [high, low, dirE, em, hemf, Option.map_some]
  · have hemf : emf = some e := he
    simp only [speed, em, hpv, hemf, Option.map_some]
  · have hemf : emf = some e := he
    simp only [angle, em, hpv, hemf, Option.map_some]

/-! ## A result in PROBE -/

theorem SetpointKept.probeResult {res : Nat} (h : SetpointKept o s) : SetpointKept o (s.probeResult i res) := by
  unfold State.probeResult
  dsimp only
  split
  · exact h.setSlot.enter
  · exact h.setSlot.enter
  · exact .ite (h.setSlot.raise (driveCause_grp i 6)).enter h.setSlot.enter
  · exact .ite h.setSlot.setSlot.rotStart (h.setSlot.raise (driveCause_grp i 7)).enter

theorem setpointField_seq (i : Fin 4) : setpointField (Reg.SLALOM.SL.ROT_RESULT.SEQ i.val) :=
  ⟨⟨Nat.le_add_right_of_le (by decide), show 0x4010013c + i.val * 0x100 < 0x40120000 by omega⟩, .inl ⟨.inr (by simp), by simp⟩⟩

theorem setpointField_result (i : Fin 4) : setpointField (Reg.SLALOM.SL.ROT_RESULT.RESULT i.val) :=
  ⟨⟨Nat.le_add_right_of_le (by decide), show 0x4010013c + i.val * 0x100 < 0x40120000 by omega⟩, .inl ⟨.inl (by simp), by simp⟩⟩

/-- The result that a window without an interface has, from its back-EMF (R211). -/
def EmfSpan.result (e : EmfSpan) (speed : Rat) : Nat := if e.allHigh then (if speed < 0 then 3 else 2) else if e.allLow then 1 else 4

theorem EmfSpan.result_mod (e : EmfSpan) (speed : Rat) : e.result speed % 8 = e.result speed := by
  unfold EmfSpan.result
  split_ifs <;> rfl

/-- What a window has shown at its end, before the slot takes a result of PROBE. -/
theorem exists_rotWindowEnd_shown (hb : s.slalom[i].rotBusy = true) (cycle : Nat) : ∃ res speed angle t,
    exec (.rotWindowEnd i cycle) s = (if (s.slot i).judged = .probe then .next (t.probeResult i res) else .next t) ∧
    t.get (Reg.SLALOM.SL.ROT_RESULT.SEQ i.val) = (s.get (Reg.SLALOM.SL.ROT_RESULT.SEQ i.val) + 1) % 65536 ∧
    t.get (Reg.SLALOM.SL.ROT_RESULT.RESULT i.val) = res % 8 ∧ t.get (Reg.SLALOM.SL.ROT_RESULT.BUSY i.val) = 0 ∧
    (t.slalom[i].rotBusy = false ∧ t.slalom[i].rotSpeed = speed ∧ t.slalom[i].rotAngle = angle) ∧
    (s.servingPos i = none → s.slalom[i].rotHigh = false → (s.emfWindow i cycle = none → res = 1) ∧
      ∀ e, s.emfWindow i cycle = some e →
        res = e.result (s.emfMotion i e).1 ∧ speed = fOfRat (s.emfMotion i e).1 ∧ angle = (s.emfMotion i e).2) := by
  obtain ⟨hi, lo, hu, hhi⟩ := exists_rotSampleSlot hb cycle
  have hx := slalom_setSl s i { s.slalom[i] with rotHigh := hi, rotLow := lo }
  obtain ⟨res, src, speed, angle, b, c, t, hexec, ⟨hregs, hslalom⟩, hfound⟩ := exists_rotWindowEnd (s := s) (i := i) (cycle := cycle)
    (by rw [hu, hx]; exact hb)
  rw [hu] at hexec hregs hslalom hfound
  obtain ⟨hseq, hres, hbusy, hrec⟩ := rotWrite_reads (s.setSl i { s.slalom[i] with rotHigh := hi, rotLow := lo }).fresh.2 i res src speed angle
  have hget (f : Fld) (hf : 0x40100000 ≤ f.addr) := (State.get_congr hregs f).trans
    ((State.get_setIf _ c (slalomCause i 4) f (ne_slalomCauseAddr hf i 4)).trans
      (State.get_setIf _ b (slalomCause i 3) f (ne_slalomCauseAddr hf i 3)))
  have haddr : 0x40100000 ≤ 0x4010013c + i.val * 0x100 := Nat.le_add_right_of_le (by decide)
  rw [State.setIf_slalom, State.setIf_slalom] at hslalom
  rw [← hslalom] at hrec
  refine ⟨res, speed, angle, t, hexec, (hget _ haddr).trans hseq, (hget _ haddr).trans hres, (hget _ haddr).trans hbusy, ?_,
    fun hp hh => ?_⟩
  · rw [hrec]
    exact ⟨rfl, rfl, rfl⟩
  · have hwindow : (s.setSl i { s.slalom[i] with rotHigh := hi, rotLow := lo }).emfWindow i cycle = s.emfWindow i cycle := by
      unfold State.emfWindow
      rw [hx]
      rfl
    rw [hwindow, hx] at hfound
    exact hfound hp ((hhi hp).trans hh)

theorem rotWindowEnd_runs (hb : s.slalom[i].rotBusy = true) (cycle : Nat) : Runs (.rotWindowEnd i cycle) s (fun t =>
    t.get (Reg.SLALOM.SL.ROT_RESULT.SEQ i.val) = (s.get (Reg.SLALOM.SL.ROT_RESULT.SEQ i.val) + 1) % 65536 ∧
    ((s.slot i).judged ≠ .probe → t.slalom[i].rotBusy = false ∧ t.get (Reg.SLALOM.SL.ROT_RESULT.BUSY i.val) = 0) ∧
    (s.servingPos i = none → s.slalom[i].rotHigh = false →
      (s.emfWindow i cycle = none → t.get (Reg.SLALOM.SL.ROT_RESULT.RESULT i.val) = 1) ∧
      (∀ e : EmfSpan, s.emfWindow i cycle = some e →
        t.get (Reg.SLALOM.SL.ROT_RESULT.RESULT i.val) = e.result (s.emfMotion i e).1 ∧
        t.slalom[i].rotSpeed = fOfRat (s.emfMotion i e).1 ∧ t.slalom[i].rotAngle = (s.emfMotion i e).2))) := by
  obtain ⟨res, speed, angle, u, hexec, hseq, hres, hbusy, ⟨hstop, hspeed, hangle⟩, hfound⟩ := exists_rotWindowEnd_shown hb cycle
  have hfinal {t : State} (h : SetpointKept u t) (hp : s.servingPos i = none) (hh : s.slalom[i].rotHigh = false) :
      (s.emfWindow i cycle = none → t.get (Reg.SLALOM.SL.ROT_RESULT.RESULT i.val) = 1) ∧
      (∀ e : EmfSpan, s.emfWindow i cycle = some e →
        t.get (Reg.SLALOM.SL.ROT_RESULT.RESULT i.val) = e.result (s.emfMotion i e).1 ∧
        t.slalom[i].rotSpeed = fOfRat (s.emfMotion i e).1 ∧ t.slalom[i].rotAngle = (s.emfMotion i e).2) := by
    obtain ⟨hnone, hsome⟩ := hfound hp hh
    rw [h.get _ (setpointField_result i), (h.shown i).1, (h.shown i).2, hres, hspeed, hangle]
    refine ⟨fun he => by rw [hnone he], fun e he => ?_⟩
    obtain ⟨hr, hs, ha⟩ := hsome e he
    rw [hr, EmfSpan.result_mod]
    exact ⟨rfl, hs, ha⟩
  by_cases hprobe : (s.slot i).judged = .probe
  · have hkept : SetpointKept u (u.probeResult i res) := (SetpointKept.refl u).probeResult
    exact ⟨_, hexec.trans (if_pos hprobe), (hkept.get _ (setpointField_seq i)).trans hseq, absurd hprobe, hfinal hkept⟩
  · exact ⟨_, hexec.trans (if_neg hprobe), hseq, fun _ => ⟨hstop, hbusy⟩, hfinal (.refl u)⟩

/-! ## The read of ROT_RESULT -/

theorem rotResultRead_runs (s : State) (i : Fin 4) : Runs (.rotResultRead i) s (fun t =>
    t.rd (Reg.SLALOM.SL.ROT_SPEED.addr i.val) = s.slalom[i].rotSpeed ∧
    t.rd (Reg.SLALOM.SL.ROT_ANGLE.addr i.val) = s.slalom[i].rotAngle ∧ t.slalom = s.slalom) := by
  refine ⟨_, rfl, ?_, State.rd_wr_same _ _ _, rfl⟩
  rw [State.rd_wr_other _ _ _ _ (by simp), State.rd_wr_same]

end Sys2Proof.Machine

section
open Sys2Proof.Machine

/-- Settles O18: each command comes to the rule of its row. What a job outside the five states shows, and that the first of them alone writes
IDLE, is log entry 62. -/
theorem slalomCommandsRun : Obligations.SlalomCommandsRun := by
  unfold Obligations.SlalomCommandsRun
  intro s i
  refine ⟨fun half cycle rest hj he hrun hm hom hadv hload => ?_, fun half cycle rest hj he hm hidled hload => ?_,
    fun half cycle rest hj he => slalomJob_disabled half cycle hj he, slalomJob_other, fun half cycle rest hj he hm => ?_,
    fun half cycle rest hj he hm hidled hline => ?_, rotStart_allowed, rotStart_denied, fun cycle hb => rotWindowEnd_runs hb cycle,
    fun cycle hb => rotWindowEnd_idle hb cycle, rotResultRead_runs s i⟩
  · obtain ⟨t, ht, hjobs, hactive, hmode, hshown, hlegs⟩ := slalomJob_svm half cycle hj he hrun hm hom hadv hload
    refine ⟨t, ht, hjobs, hactive, hmode, hshown, fun n hphase hfixed => ?_⟩
    obtain ⟨hcmp, hidle, harmed⟩ := hlegs n hphase hfixed
    exact ⟨congrArg some (hcmp _ rfl), hidle, harmed⟩
  · obtain ⟨t, ht, hjobs, hrest, hshown, hlegs⟩ := slalomJob_first half cycle hj he hm hidled hload
    refine ⟨t, ht, hjobs, hrest, hshown, fun n hphase hfixed => ?_⟩
    obtain ⟨-, hidle, harmed⟩ := hlegs n hphase hfixed
    exact ⟨hidle, harmed⟩
  · obtain ⟨hcarve, hactive, hidled, -, lim, hmode, -, hstale, hcause⟩ := slModulate_reads (s.jobTaken rest) i half cycle
    refine ⟨_, slalomJob_modulated half cycle hj he hm, congrArg CarveSt.jobs hcarve, hactive, hidled, hmode, hstale, fun hv => ?_⟩
    exact hcause (show (!(s.portNow 0x11 i.val 8).valid) = true by rw [hv]; rfl)
  · obtain ⟨t, ht, hjobs, hlegs, -, hlimited, hstale, hcause⟩ := slalomJob_later half cycle hj he hm hidled hline
    refine ⟨t, ht, hjobs, hlegs, hlimited, hstale, fun hv => ?_⟩
    exact hcause (show (!(s.portNow 0x11 i.val 8).valid) = true by rw [hv]; rfl)

end
end
